-- ==== Sys2Proof/Word.lean ====
section
/-! DEFINITION. The words the manual treats as bits: a register word, a byte, the accumulator of a stoker. -/

namespace Sys2Proof

/-- A 32-bit register or data word. -/
abbrev Word := BitVec 32

/-- A byte of a byte-addressed memory. -/
abbrev Byte := BitVec 8

end Sys2Proof
end

