-- ==== Sys2Proof/Syntax.lean ====
section
/-! DEFINITION. The commands of the block: one constructor per row of spec/opcode_table.json, and the operands they
carry. What a command measures or samples outside the device (a level, an edge, the outcome of a measurement) is an
operand of it; what the device decides is its meaning. -/

namespace Sys2Proof

/-- Who makes a register access (R72): the host through BAR0, BAR2 or SPI (with its P flag), the mantel, or the stoker of
a hearth. -/
inductive Initiator where
  | bar0
  | bar2
  | spi (p : Bool)
  | mantel
  | stoker (hearth : Nat)
deriving DecidableEq, Repr

/-- A descriptor of the HF ring as the device read it from host memory: the buffer's bus address and length, and that the
DMA writes to it complete without error (R343, R345). -/
structure HfDesc where
  addr : Nat
  len : Nat
  ok : Bool
deriving DecidableEq, Repr
/-- What the ECC of a memory finds at a read: nothing, a corrected single-bit error, a double-bit error. -/
inductive Ecc where
  | clean | single | double
deriving DecidableEq, Repr

/-- What a load finds of its image in the program store: every word intact, a word damaged in one copy, a word damaged in
both copies (R241). -/
inductive Damage where
  | intact | oneCopy | bothCopies
deriving DecidableEq, Repr

/-- What every instruction carries: the hearth whose stoker issues it, its predicate field (R194), and what the ECC of
instruction memory finds at its fetch (R163). -/
structure Issue where
  hearth : Nat
  pred : BitVec 2
  fetch : Ecc
deriving DecidableEq, Repr

/-- The second operand of an ALU instruction: register rb in the REG form, imm16 in the IMM form (R200). -/
inductive Op2 where
  | reg (rb : BitVec 4)
  | imm (i : BitVec 16)
deriving DecidableEq, Repr

/-- The amount of a shift: register rb, or five bits of the immediate, the others being zero (R200). -/
inductive ShOp where
  | reg (rb : BitVec 4)
  | imm (i : BitVec 5)
deriving DecidableEq, Repr

/-- How an oven ends a request (R162, R216): decoded, with whether every check passed, the iterations used, the bits the
outer code corrected, the bytes written and whether the outer check failed on a block reported as converged; a source read
that returned an error; a double-bit error in the oven's memory. -/
inductive OvenEnd where
  | decoded (ok : Bool) (iters corrected bytes : Nat) (disagree : Bool)
  | srcErr
  | memFault
deriving DecidableEq, Repr

/-- What a calibration run measures (R495, R497): the tone's frequency in Hz and level in 0.01 dBm, the largest
disagreement with the previous run (0.001 dB and 0.01°), and the words the run would write into its block (R502). -/
structure CalMeas where
  toneHz : Nat
  toneLvl : Int
  dGain : Nat
  dPhase : Nat
  vals : List Word
deriving DecidableEq, Repr

/-- What 100 ms of traffic measured: a port's link use and stalls (R320), and the MB/s of the ashpit's six uses (R319). -/
structure LinkUse where
  putil : Word
  stallk : Nat
  bw : List Nat
deriving DecidableEq, Repr

/-- Where an ECC error of the ashpit lies in a transfer (R219, R302): its line, and the places of the transfer's words, or of its
samples, that a double-bit error affects. -/
structure AshPlace where
  line : Nat := 0
  bad : List Nat := []
deriving DecidableEq, Repr

/-- What the ECC of the ashpit finds in a transfer (R34, R219, R302): the kind of error, and where it lies. -/
structure AshRead extends AshPlace where
  e : Ecc := .clean
deriving DecidableEq, Repr

/-- How the ashpit answers a transfer of a hob: an error response or none, and what its ECC found. -/
structure AshEnd where
  err : Bool := false
  read : AshRead := {}
deriving DecidableEq, Repr

/-- An oven's end of a request, and what the ECC found in its source read from the TI area (R34). -/
structure OvenDone where
  result : OvenEnd
  src : AshRead := {}
deriving DecidableEq, Repr

/-- The RMS level and the peak of a core's last 1 ms, in 0.1 dBFS (R97). -/
structure CoreLevel where
  rms : BitVec 16
  peak : BitVec 16
deriving DecidableEq, Repr

/-- What flput meets (R223): the ECC of its descriptor's read, and whether an instruction boundary falls in the copy of its payload. -/
structure CopyOut where
  e : Ecc
  copying : Bool
deriving DecidableEq, Repr

/-- A supply that is good, and the voltage in mV that a VDDIO bank senses then (R529, R542). -/
structure SupplyRead where
  n : Nat
  mv : Nat
deriving DecidableEq, Repr

/-- What a chimney message carries (R287). -/
inductive Transfer where
  | ashRead | ashWrite | ovenDesc | ovenResult | joinWrite
  | reply
  | laneSample | backlogWrite | flputUnit | drawReadout | snapRecord
  | regRead | regWrite | commitBroadcast | mantelCommand | msix
deriving DecidableEq, Repr

/-- Who reserves room for a reply (R290): a hearth for an ashpit request, by its ticket, or for a register read; an oven; the
host port; the mantel; the ashpit controller for join copies. -/
inductive Requester where
  | ash (h t : Nat)
  | reg (h : Nat)
  | oven (k : Nat)
  | host
  | mantel
  | join
deriving DecidableEq, Repr

/-- A message of the chimney (R286 to R292): its source and destination ports, the member of the source's hub that sends it, what
it carries, its data flits, and the requester whose reply it asks for or brings. -/
structure LinkMsg where
  src : Nat
  dst : Nat
  member : Nat
  kind : Transfer
  data : Nat
  req : Option Requester
deriving DecidableEq, Repr

/-- Where a new message of the chimney goes: `LinkMsg` without what it carries. -/
structure LinkEnds where
  src : Nat
  dst : Nat
  member : Nat
  req : Option Requester
deriving DecidableEq, Repr

/-- Where the scrubber's error falls (R312): a line of no unit, or a unit of a lane's main line by its place, in its header
or in its payload. -/
inductive ScrubHit where
  | none
  | unit (lane place : Nat) (header : Bool)
deriving DecidableEq, Repr

/-- How a controller try on an AUX bus ends (R411, R414): completed, with the bytes read; the address, or a write byte
after `acked` acknowledged ones, not acknowledged; arbitration lost at a bit of a byte, after `acked` write bytes. -/
inductive AuxEnd where
  | done (data : List Byte)
  | nackAddr
  | nackData (acked : Nat)
  | arbLost (byte bit acked : Nat)
deriving DecidableEq, Repr

/-- What a kindling step finds (R471 to R485): the supplies; the OTP words with a double-bit error; three conversions of
the strap; the ROM check; whether the XO runs; firmware: that the image in mantel memory still has its CRC, and the two flash
images, none where the flash does not answer; the clock-good of the SerDes and of PCIe at the release. -/
inductive Kindle where
  | supplies
  | otp (bad : List Nat)
  | strap (r0 r1 r2 : Nat)
  | rom (ok : Bool)
  | lock (xo : Bool)
  | mantel (memOk : Bool) (primary copy : Option (List Byte))
  | release (sds pcie : Bool)
deriving DecidableEq, Repr

/-- A comparison of the phase detector (R442): an edge in the window; none there, or one outside; an extra edge. -/
inductive Comparison where
  | good
  | blanked
  | extra
deriving DecidableEq, Repr

/-- A PTP event message or an Announce at the PTP port (R349 to R351), with raw timestamps in 0.1 ns: a Sync received at t2
whose origin is t1; the Delay_Req sent at t3; its Delay_Resp with t4; a peer's Delay_Req received, with its number; a Sync sent; the
grandmaster an Announce leaves, with the port state that the best master clock algorithm decides. -/
inductive PtpMsg where
  | sync (t1 t2 : Nat)
  | delayReqSent (t3 : Nat)
  | delayResp (t4 : Nat)
  | delayReqRx (seq t : Nat)
  | syncSent (t : Nat)
  | announce (gm state : Nat)
deriving DecidableEq, Repr

/-- What an FSYNC frame start brings (R357, R370 to R375): the BCLK periods of the frame that ended and its input samples, one a
slot, of SAMPW bits; whether what was captured is at least 2 BCLK periods old; whether the output and the input FIFO slipped, and
their fills in frames; the tracked ratio, with 32 fractional bits. -/
structure AudFrame where
  bclks : Nat
  din : List Word
  old : Bool
  slipTx : Bool
  slipRx : Bool
  fillTx : Nat
  fillRx : Nat
  ratio : Nat
deriving DecidableEq, Repr

/-- What the world outside shows a register write, for the few writes that look at it: what the ECC finds in the image a
command loads, the clock-goods of the SerDes and of PCIe (R439), what an AUX bus clear would find (R415), and the errors that the PCIe port logs
in its AER capability with the access (R39, R83). -/
structure WriteCtx where
  dmg : Damage
  sds : Bool
  pcie : Bool
  freed : Bool
  aer : Word := 0
deriving DecidableEq, Repr

/-- How far a SPI transaction came before SPI_CS_N rose (R45, R49). -/
inductive SpiEnd where
  | whole | midWord | inAddress | inOpcode
deriving DecidableEq, Repr

/-- A STAT transaction (R46, R47, R51): bit 7 of its opcode, the clocks of its wait phase beyond the minimum, and its end. -/
structure StatRead where
  p : Bool
  wait : Nat
  e : SpiEnd
deriving DecidableEq, Repr

/-- A read of register space by a port or the mantel: who reads, and the address. -/
structure HostRead where
  who : Initiator
  a : Nat
deriving DecidableEq, Repr

/-- A data word of a SPI write: the word, the CRC-16 that follows it while CRC is enabled (R50), and how many aperture words
of the write buffer have drained before it arrives (R48). -/
structure SpiWord where
  data : Word
  crc : BitVec 16
  drained : Nat
deriving DecidableEq, Repr

/-- The parts of PCIe configuration space the spec gives the function (R39, R40, R79): the IDs, revision and class, the
subsystem IDs, a base address register, the power state, the AER status, MSI-X Message Control, and the sizes of the PCI Express
capability. -/
inductive CfgReg where
  | ids | classRev | subsys | bar (k : Nat) | power | aer | msix | payload
deriving DecidableEq, Repr

/-- An access to the MSI-X state or to configuration space: a word of the table written, Message Control's Enable and Function
Mask (R79), a base address register (R40), the power state and the AER status (R39); and a read of configuration space. -/
inductive MsixWrite where
  | table (k : Nat) (w : Word)
  | control (enable fmask : Bool)
  | bar (k : Nat) (w : Word)
  | power (d3hot : Bool)
  | aerClear (w : Word)
  | cfgRead (r : CfgReg)
deriving DecidableEq, Repr

/-- The commands of the block: one constructor per row of the opcode table. -/
inductive Instr where
  /-- REGISTER_WRITE (R57): A host or mantel write to a register with no row of its own: RW fields act at once and RWB fields go to the shadow, or apply in immediate mode. -/
  | registerWrite (who : Initiator) (a : Nat) (w : Word) (be : BitVec 4) (x : WriteCtx)
  /-- WR (R46): The SPI WR opcode writes words from the address through the 64-word write buffer. -/
  | wr (p : Bool) (addr : BitVec 32) (ws : List SpiWord) (e : SpiEnd) (x : WriteCtx)
  /-- RD (R47): The SPI RD opcode reads words, each preceded by a wait phase and a token. -/
  | rd (p : Bool) (addr : BitVec 32) (waits : List Nat) (e : SpiEnd) (ecc : Ecc) (x : WriteCtx)
  /-- RD1 (R46): The single-line SPI read opcode. -/
  | rd1 (p : Bool) (addr : BitVec 32) (waits : List Nat) (e : SpiEnd) (ecc : Ecc) (x : WriteCtx)
  /-- WR1 (R46): The single-line SPI write opcode. -/
  | wr1 (p : Bool) (addr : BitVec 32) (ws : List SpiWord) (e : SpiEnd) (x : WriteCtx)
  /-- STAT (R51): The SPI STAT opcode returns the status word in every power state except OFF. -/
  | stat (r : StatRead)
  /-- RSTC (R52): The SPI reset command with key and level code starts a reset when SPI_CS_N rises. -/
  | rstc (p : Bool) (key level : Nat) (e : SpiEnd)
  /-- WAKE (R53): The SPI WAKE opcode starts the wake sequence from BANKED. -/
  | wake
  /-- BADOP (R46): An unknown SPI opcode is ignored until SPI_CS_N rises and is recorded as BADOP. -/
  | badop (op : Nat)
  /-- SPI_WRITE_BUFFER_DRAIN (R48): A buffered SPI write word drains to its target in arrival order. -/
  | spiWriteBufferDrain (x : WriteCtx)
  /-- PCIE_PORT_RESET (R44): PERST, a hot reset, a link-down event or an FLR resets only the PCIe port, the MSI-X state and the HF DMA engine. -/
  | pciePortReset
  /-- MSIX_CONTROL_WRITE (R79): A write that unmasks a vector or the function, or sets MSI-X Enable, sends the messages that are still pending. -/
  | msixControlWrite (x : MsixWrite)
  /-- IMOD_HOLD_EXPIRY (R82): The SYS_IMOD spacing of a held vector expires and the next message is sent if the vector is still pending. -/
  | imodHoldExpiry (v : Nat)
  /-- SQC_CLEAR (R70): A write to an SQC register clears the written event bits only if the written SEQ matches. -/
  | sqcClear (who : Initiator) (a : Nat) (w : Word) (x : WriteCtx)
  /-- BIT_ALIAS_WRITE (R75): A write to a bit alias performs an atomic read-modify-write of one bit with the access type of its target. -/
  | bitAliasWrite (who : Initiator) (a : Nat) (w : Word) (x : WriteCtx)
  /-- SYS_TIME_LO_READ (R83): A read of SYS_TIME_LO returns DEVTIME bits [31:0] and latches bits [63:32] for the next HI read. -/
  | sysTimeLoRead (r : HostRead)
  /-- GRT_SCOUNT_LO_READ (R130): A read of GRT_SCOUNT_LO returns the root sample index and latches its high half. -/
  | grtScountLoRead (who : Initiator)
  /-- SR_SAMPLE_LO_READ (R221): A stoker read of SR_SAMPLE_LO returns the sample number and latches its high half. -/
  | srSampleLoRead (i : Issue) (rd ra : BitVec 4) (off : BitVec 16)
  /-- COMMIT (R58): An untimed SYS_COMMIT write broadcasts a commit to the named groups, and their pages capture their shadows. -/
  | commit (tag mask : Nat)
  /-- TIMED_COMMIT_ARM (R62): A SYS_COMMIT write with TIMED set arms a commit for SYS_CMTTIME. -/
  | timedCommitArm (tag mask : Nat)
  /-- PAGE_APPLY (R60): A captured or immediate page applies its fields at its block's boundary, and a completed commit updates TAG and raises CMTDONE. -/
  | pageApply (p : Nat) (dmg : Damage)
  /-- SYS_IMMED_WRITE (R65): A change of SYS_IMMED puts blocks into or out of immediate mode, so that pending shadows apply at the next boundary. -/
  | sysImmedWrite (w : Word)
  /-- ROTATE (R107): The CAP ROTATE command starts a capture-core rotation. -/
  | rotate (arg tag : Nat)
  /-- SBSRC (R89): The CAP SBSRC command sets the crosspoint source of the standby core. -/
  | sbsrc (arg tag : Nat)
  /-- SNAP_ARM (R121): The CAP SNAP_ARM command checks the snapshot page and arms or starts recording. -/
  | snapArm (tag : Nat)
  /-- SNAP_TRIG (R121): The CAP SNAP_TRIG command triggers a snapshot armed for a software trigger. -/
  | snapTrig (tag : Nat)
  /-- SNAP_ABORT (R121): The CAP SNAP_ABORT command stops recording at the next record boundary with state ABORTED. -/
  | snapAbort (tag : Nat)
  /-- ROT_ABORT (R111): The CAP ROT_ABORT command abandons a rotation before its step 9. -/
  | rotAbort (tag : Nat)
  /-- ROTATION_PERIOD_EXPIRY (R107): CAP_ROTCFG.PERIOD minutes after the last rotation, a periodic rotation starts. -/
  | rotationPeriodExpiry
  /-- ROTATION_PHASE_DONE (R108): A timed phase of a rotation (calibration run, settling, coarse correlation, fine alignment, verification, refresh) completes and the rotation moves to its next step. -/
  | rotationPhaseDone (m : CalMeas) (g p t : Int)
  /-- ROTATION_ALIGN_TIMEOUT (R109): The residual is not reached within 100 ms of step 6, and the rotation ends with BLANKED or MISALIGN. -/
  | rotationAlignTimeout
  /-- ADC_FRAME (R102): A 64-sample converter frame completes: bellows changes, clip detection, AGC attack and erasure marking happen at its boundary. -/
  | adcFrame (c : Nat) (xs : List (BitVec 12)) (ecc : Bool)
  /-- AGC_DECAY_STEP (R95): Once per DECAY ms the AUTO loop compares the 1 ms RMS with TARGET and steps GIDX by one. -/
  | agcDecayStep (c : Nat)
  /-- CORE_LEVEL_UPDATE (R97): Every 1 ms each core updates CAP_CCn_LVL and CAP_CCn_PWR. -/
  | coreLevelUpdate (c : Nat) (v : CoreLevel) (est : List Int)
  /-- BLANK_ASSERT (R99): A BLANK input becomes active, so that marking and the bellows freeze begin. -/
  | blankAssert (x : Nat)
  /-- BLANK_RELEASE (R99): A BLANK input is released, and marking continues for POST frames. -/
  | blankRelease (x : Nat)
  /-- BLKSTUCK (R101): A BLANK input asserted for longer than STUCK ms raises BLKSTUCK once. -/
  | blkstuck (x : Nat)
  /-- CORE_MONITOR_WINDOW (R114): A core health monitor window ends and sets SUSPECT, starts a rotation, or leads to a failure declaration. -/
  | coreMonitorWindow (c cause sub v : Nat) (others : Bool) (start : Nat)
  /-- CORE_REPLACEMENT_SETTLED (R116): 25 µs after the declaration, the standby feeds the bank and takes the role. -/
  | coreReplacementSettled
  /-- SNAP_RECORD_DONE (R121): A snapshot record completes and is written to the CAP region, possibly stopping recording and writing the header. -/
  | snapRecordDone (lane : Bool) (n : Nat) (skip : Bool)
  /-- BIN_FRAME (R129): The analysis banks produce a 160 ns bin frame, at which bank fields apply. -/
  | binFrame
  /-- LANE_OUTPUT_SAMPLE (R139): A lane chain presents an output sample with its erasure mark to the hob input and the backlog. -/
  | laneOutputSample (n : Nat) (i q : Int) (w : Nat)
  /-- REFILL_END (R144): The refill time after a lane start or restart ends, so that REFILL clears and REFILLDONE is raised. -/
  | refillEnd (n : Nat)
  /-- SATURATION_INTERVAL (R138): Every 1 ms GRT_SATPEND is updated from the lanes that saturated. -/
  | saturationInterval
  /-- BIN_POWER_UPDATE (R147): A bin power average completes, updating the bin power page and raising PWRDONE. -/
  | binPowerUpdate (a b : List (List (Int × Int)))
  /-- BIND (R155): The LANE_CMD BIND command binds the lane to a named or any FREE hearth. -/
  | bind (n arg tag : Nat) (dmg : Damage)
  /-- UNBIND (R156): The LANE_CMD UNBIND command returns the lane's hearth and shadow to FREE. -/
  | unbind (n tag : Nat)
  /-- MOVE (R175): The LANE_CMD MOVE command starts a planned migration. -/
  | move (n arg tag : Nat)
  /-- RESTART (R163): The LANE_CMD RESTART command starts the lane program again from its main entry. -/
  | restart (n tag : Nat) (dmg : Damage)
  /-- DEFERRED_BIND (R155): A BIND waiting for a tested hearth completes once a hearth becomes FREE. -/
  | deferredBind (n : Nat) (dmg : Damage)
  /-- STARTUP_BIST_DONE (R154): Start-up BIST of the hearths ends, making each FREE or RETIRED. -/
  | startupBistDone (fails : List Nat)
  /-- RETIRE_TIMEOUT (R163): A stoker retires no instruction for 10 µs outside a wait, and the hearth is declared failed. -/
  | retireTimeout (hs : List Nat)
  /-- HOB_COMMAND_TIMEOUT (R163): A hob command exceeds twice its stated time, so that the hearth is declared failed with cause HOBTMO. -/
  | hobCommandTimeout (h u : Nat)
  /-- STALL_WATCHDOG_EXPIRY (R164): No tick completes for WDOG × 10 ms, so that the lane migrates unplanned or halts with STALLED. -/
  | stallWatchdogExpiry (h : Nat)
  /-- MIGRATION_LOAD_DONE (R171): The spare has copied its image and checkpoint and starts at its resume entry in REPLAY. -/
  | migrationLoadDone (n : Nat) (dmg : Damage)
  /-- ISOLATION_COMPLETE (R171): Isolation of a failed hearth completes, and the hearth becomes RETIRED. -/
  | isolationComplete (h : Nat)
  /-- REPLAY_LIVE_POINT (R171): The replay reaches the live write point: the hob input switches to live, the hearth becomes PRIMARY or ACTIVE shadow, and UNCONF entries are judged. -/
  | replayLivePoint (h : Nat)
  /-- PLANNED_CUTOVER (R175): At the first frame boundary after the spare reaches live, the draw line takes the spare's units and the old hearth stops. -/
  | plannedCutover (n : Nat)
  /-- RESYNC_ANSWER_TIMEOUT (R228): A RESYNC message unanswered within 1 ms is taken as RESUME. -/
  | resyncAnswerTimeout (n : Nat)
  /-- ROLLING_SELFTEST_TICK (R186): Every PERIOD seconds the mantel selects the next unit for rolling self-test, or defers it. -/
  | rollingSelftestTick
  /-- ROLLING_TEST_DONE (R187): A rolling self-test ends, returning the unit to service or retiring it. -/
  | rollingTestDone (u : Nat) (pass : Bool)
  /-- MANTEL_SCHEDULE_TICK (R189): The mantel's 1 ms scheduling decision applies HMG fields and grants shadows. -/
  | mantelScheduleTick
  /-- OVEN_REQUEST_DONE (R159): An oven finishes a request, and the scheduler assigns the next request of its kind. -/
  | ovenRequestDone (k : Nat) (r : OvenDone)
  /-- OVEN_DEADLINE_LATE (R160): A request not started when its deadline sample reaches the hob input is returned LATE. -/
  | ovenDeadlineLate (h t : Nat)
  /-- OVEN_OVERRUN_TIMEOUT (R162): A request runs longer than twice its iteration limit allows, and the oven is retired. -/
  | ovenOverrunTimeout (k : Nat)
  /-- ADD (R200): Adds two operands and sets NZCV. -/
  | add (i : Issue) (rd ra : BitVec 4) (o : Op2)
  /-- SUB (R200): Subtracts and sets NZCV. -/
  | sub (i : Issue) (rd ra : BitVec 4) (o : Op2)
  /-- AND (R200): Bitwise AND, setting NZ. -/
  | and (i : Issue) (rd ra : BitVec 4) (o : Op2)
  /-- OR (R200): Bitwise OR, setting NZ. -/
  | or (i : Issue) (rd ra : BitVec 4) (o : Op2)
  /-- XOR (R200): Bitwise XOR, setting NZ. -/
  | xor (i : Issue) (rd ra : BitVec 4) (o : Op2)
  /-- SHL (R200): Logical left shift, setting NZC. -/
  | shl (i : Issue) (rd ra : BitVec 4) (o : ShOp)
  /-- SHR (R200): Logical right shift, setting NZC. -/
  | shr (i : Issue) (rd ra : BitVec 4) (o : ShOp)
  /-- SAR (R200): Arithmetic right shift, setting NZC. -/
  | sar (i : Issue) (rd ra : BitVec 4) (o : ShOp)
  /-- MUL (R200): Writes the low 32 bits of a product in two cycles. -/
  | mul (i : Issue) (rd ra rb : BitVec 4)
  /-- MIN (R200): Writes the signed minimum. -/
  | min (i : Issue) (rd ra rb : BitVec 4)
  /-- MAX (R200): Writes the signed maximum. -/
  | max (i : Issue) (rd ra rb : BitVec 4)
  /-- CLZ (R200): Counts leading zero bits. -/
  | clz (i : Issue) (rd ra : BitVec 4)
  /-- CMP (R200): Sets flags from a subtraction and discards the result. -/
  | cmp (i : Issue) (ra : BitVec 4) (o : Op2)
  /-- MOVI (R200): Loads a zero-extended 16-bit immediate. -/
  | movi (i : Issue) (rd : BitVec 4) (v : BitVec 16)
  /-- MOVHI (R200): Loads the upper half of a register. -/
  | movhi (i : Issue) (rd : BitVec 4) (v : BitVec 16)
  /-- PSET_COND (R201): pset op 0 writes a predicate from a condition. -/
  | psetCond (i : Issue) (pd ps : BitVec 2) (cond : BitVec 4)
  /-- PSET_AND (R201): pset op 1 writes the AND of a predicate and a condition. -/
  | psetAnd (i : Issue) (pd ps : BitVec 2) (cond : BitVec 4)
  /-- PSET_OR (R201): pset op 2 writes the OR of a predicate and a condition. -/
  | psetOr (i : Issue) (pd ps : BitVec 2) (cond : BitVec 4)
  /-- PSET_NOT (R201): pset op 3 writes the negation of a predicate. -/
  | psetNot (i : Issue) (pd ps : BitVec 2) (cond : BitVec 4)
  /-- MAC (R202): Accumulates a Q15 product. -/
  | mac (i : Issue) (x : BitVec 1) (ra rb : BitVec 4)
  /-- MSU (R202): Subtracts a Q15 product from an accumulator. -/
  | msu (i : Issue) (x : BitVec 1) (ra rb : BitVec 4)
  /-- MPY (R202): Sets an accumulator to a Q15 product. -/
  | mpy (i : Issue) (x : BitVec 1) (ra rb : BitVec 4)
  /-- MACH (R202): Accumulates the product of the high halves. -/
  | mach (i : Issue) (x : BitVec 1) (ra rb : BitVec 4)
  /-- CMAC (R202): Complex multiply-accumulate into a0 and a1. -/
  | cmac (i : Issue) (x : BitVec 1) (ra rb : BitVec 4)
  /-- CMACJ (R202): Complex multiply-accumulate with the second operand conjugated. -/
  | cmacj (i : Issue) (x : BitVec 1) (ra rb : BitVec 4)
  /-- ACLR (R202): Clears an accumulator. -/
  | aclr (i : Issue) (x : BitVec 1)
  /-- ALOAD (R202): Loads an accumulator from a register. -/
  | aload (i : Issue) (x : BitVec 1) (ra : BitVec 4)
  /-- SAT (R202): Reads a shifted accumulator with saturation or rounding. -/
  | sat (i : Issue) (rd : BitVec 4) (x : BitVec 1) (sh : BitVec 5) (mode : BitVec 3)
  /-- LDW (R203): Loads a word from DMEM. -/
  | ldw (i : Issue) (rd ra : BitVec 4) (off : BitVec 16) (e : Ecc)
  /-- LDH (R203): Loads a sign-extended halfword. -/
  | ldh (i : Issue) (rd ra : BitVec 4) (off : BitVec 16) (e : Ecc)
  /-- LDB (R203): Loads a sign-extended byte. -/
  | ldb (i : Issue) (rd ra : BitVec 4) (off : BitVec 16) (e : Ecc)
  /-- STW (R203): Stores a word. -/
  | stw (i : Issue) (rs ra : BitVec 4) (off : BitVec 16)
  /-- STH (R203): Stores a halfword. -/
  | sth (i : Issue) (rs ra : BitVec 4) (off : BitVec 16)
  /-- STB (R203): Stores a byte. -/
  | stb (i : Issue) (rs ra : BitVec 4) (off : BitVec 16)
  /-- BCPY (R203): Copies n words between two DMEM banks. -/
  | bcpy (i : Issue) (rd ra n : BitVec 4) (e : Ecc)
  /-- BR (R204): Unconditional branch. -/
  | br (i : Issue) (off : BitVec 20)
  /-- BCC (R204): Conditional branch. -/
  | bcc (i : Issue) (c : BitVec 4) (off : BitVec 20)
  /-- CALL (R204): Writes the return address to w15 and branches. -/
  | call (i : Issue) (off : BitVec 20)
  /-- RET (R204): Returns to the address in a register. -/
  | ret (i : Issue) (ra : BitVec 4)
  /-- LOOP (R204): Decrements a count register and branches while it is non-zero. -/
  | loop (i : Issue) (wc : BitVec 4) (off : BitVec 20)
  /-- URET (R210): Ends URGENT, resuming MAIN or re-entering URGENT. -/
  | uret (i : Issue)
  /-- HALT (R204): Stops the lane normally. -/
  | halt (i : Issue)
  /-- NOP (R204): No operation. -/
  | nop (i : Issue)
  /-- HGET (R212): Reads a result word of a hob unit. -/
  | hget (i : Issue) (rd unit : BitVec 4) (sel : BitVec 16)
  /-- HWAIT (R212): Waits until a hob unit is idle with an empty queue. -/
  | hwait (i : Issue) (unit : BitVec 4)
  /-- OREQ (R215): Submits an oven descriptor if fewer than 4 requests are outstanding. -/
  | oreq (i : Issue) (pd : BitVec 2) (wd ws : BitVec 4) (e : Ecc)
  /-- OAWAIT (R216): Waits for an oven ticket and returns its status. -/
  | oawait (i : Issue) (rd ra : BitVec 4)
  /-- AREQ (R218): Submits an ashpit descriptor if fewer than 8 requests are outstanding. -/
  | areq (i : Issue) (pd : BitVec 2) (wd ws : BitVec 4) (e : Ecc)
  /-- AAWAIT (R219): Waits for an ashpit ticket and returns its status. -/
  | aawait (i : Issue) (rd ra : BitVec 4)
  /-- TICK (R221): Waits for a lane sample number and resets the stall watchdog. -/
  | tick (i : Issue) (rd ra : BitVec 4)
  /-- YIELD (R222): Waits for any pending event in a mask. -/
  | yield (i : Issue) (rd : BitVec 4) (mask : BitVec 16)
  /-- FWAL (R225): Sends an alert event to the firewatch on dedicated wires. -/
  | fwal (i : Issue) (rs : BitVec 4) (tag : BitVec 12)
  /-- FLPUT (R223): Appends a unit to the lane's output queue and copies its payload out. -/
  | flput (i : Issue) (ra : BitVec 4) (x : CopyOut)
  /-- MGET (R229): Takes the oldest word from a mailbox. -/
  | mget (i : Issue) (rd box : BitVec 4)
  /-- MPUT (R226): Posts a word to a mailbox. -/
  | mput (i : Issue) (rs box : BitVec 4)
  /-- SYSRD (R231): Reads a register permitted to lanes. -/
  | sysrd (i : Issue) (rd ra : BitVec 4) (off : BitVec 16) (dmg : Damage)
  /-- SYSWR (R231): Writes a register permitted to lanes through the posting buffer. -/
  | syswr (i : Issue) (rs ra : BitVec 4) (off : BitVec 16) (k : Nat)
  /-- SR_APPLY_READ (R230): A read of SR_APPLY is the program's apply point, applying captured lane values. -/
  | srApplyRead (i : Issue) (rd ra : BitVec 4) (off : BitVec 16) (dmg : Damage)
  /-- APPLY_TIMEOUT (R230): With no apply point within 250 ms of a capture, the page applies at MAIN's next wait and APPLY is posted. -/
  | applyTimeout (n : Nat) (dmg : Damage)
  /-- WAIT_SATISFIED (R199): The condition of a waiting instruction holds, and the instruction completes. -/
  | waitSatisfied (h : Nat)
  /-- URGENT_ENTRY (R207): With the urgent mailbox non-empty, URGENT takes the stoker at MAIN's next instruction boundary. -/
  | urgentEntry (h : Nat)
  /-- CAPTURE (R212): The INPUT unit captures COUNT lane samples into hob lines. -/
  | capture (h : Nat) (e : Ecc)
  /-- SKIP (R212): The INPUT unit discards samples. -/
  | skip (h : Nat)
  /-- SETF (R212): Sets the derotator frequency. -/
  | setf (h : Nat)
  /-- SETPH (R212): Sets the derotator phase. -/
  | setph (h : Nat)
  /-- ADDF (R212): Adds to the derotator frequency. -/
  | addf (h : Nat)
  /-- SETRLO (R212): Sets the low resampler ratio bits. -/
  | setrlo (h : Nat)
  /-- SETRHI (R212): Sets the high ratio bits and applies the whole ratio. -/
  | setrhi (h : Nat)
  /-- RESAMP_RESET (R212): Resets the interpolator phase. -/
  | resampReset (h : Nat)
  /-- FFT_RUN (R212): Runs a forward or inverse transform. -/
  | fftRun (h : Nat) (e : Ecc)
  /-- LOADPAT (R212): Loads a pilot pattern table. -/
  | loadpat (h : Nat) (e : Ecc)
  /-- RUNMC (R212): Runs multi-carrier channel estimation and equalisation. -/
  | runmc (h : Nat) (e : Ecc)
  /-- RUNSC (R212): Runs the single-carrier equaliser. -/
  | runsc (h : Nat) (e : Ecc)
  /-- LOADCON (R212): Loads a constellation table. -/
  | loadcon (h : Nat) (e : Ecc)
  /-- DEMAP_RUN (R212): Demaps cells to LLRs. -/
  | demapRun (h : Nat) (e : Ecc)
  /-- DEINT_RUN (R212): Cell, frequency or bit deinterleaving. -/
  | deintRun (h : Nat) (e : Ecc)
  /-- TIWR (R212): Writes cells to the lane's TI area. -/
  | tiwr (h : Nat) (e : Ecc)
  /-- TIRD (R212): Reads cells from the lane's TI area. -/
  | tird (h : Nat) (e : Ecc)
  /-- WATCH (R212): Arms a SIG watch on a unit's result word. -/
  | watch (h : Nat) (e : Ecc)
  /-- UNWATCH (R212): Disarms a SIG watch. -/
  | unwatch (h : Nat)
  /-- TODM (R212): Transfers bytes from hob lines to DMEM. -/
  | todm (h : Nat) (e : Ecc)
  /-- FROMDM (R212): Transfers bytes from DMEM to hob lines. -/
  | fromdm (h : Nat) (e : Ecc)
  /-- HOB_COMMAND_DONE (R212): A hob command completes, updating status and results, and a SIG watch may deposit a word in the urgent mailbox. -/
  | hobCommandDone (h u : Nat) (e : Ecc) (chk : Bool) (x : AshEnd)
  /-- VERIFY (R247): The PST VERIFY command checks an image and makes it VALID or REFUSED. -/
  | verify (slot tag : Nat)
  /-- ERASE (R242): The PST ERASE command erases a slot or an image span unless it is pinned. -/
  | erase (slot tag : Nat)
  /-- PST_COMMAND_COMPLETE (R266): A VERIFY or ERASE finishes, setting PST_CMDSTAT and raising CMDDONE. -/
  | pstCommandComplete
  /-- PROGRAM_STORE_WRITE (R240): A write to the program store window stores bytes, or is discarded with WPROT on a protected slot. -/
  | programStoreWrite (off : Nat) (w : Word) (be : BitVec 4)
  /-- HOST_MAILBOX_WRITE (R227): A host write to the lane's inbound mailbox takes effect at once, and a write to +0x400 makes HIN non-empty. -/
  | hostMailboxWrite (n off : Nat) (w : Word)
  /-- FIREWATCH_LATCH (R271): An event reaches the firewatch, is qualified, and a start with PIN asserts ALERT_N through the pin path. -/
  | firewatchLatch
  /-- ALERT_TABLE_EVENT (R274): The alert table takes one queued event per cycle and creates, updates, ends or ignores an entry, issuing frames, pages, tones and log entries. -/
  | alertTableEvent
  /-- TRIPWIRE_TRIG_WRITE (R269): A write to FWT_TWn_TRIG of a SOFTWARE tripwire enters a start or end event. -/
  | tripwireTrigWrite (t : Nat) (w : Word)
  /-- LRBMATCH_EVAL (R269): A consistent LRB update evaluates an LRBMATCH tripwire and may enter a start or end event. -/
  | lrbmatchEval (t : Nat)
  /-- FWT_ACK (R274): A write to FWT_ACK with CLEAR = 0 acknowledges one or all entries, and with ALL ends the untracked holds. -/
  | fwtAck (all : Bool) (entry : Nat)
  /-- FWT_CLEAR (R274): A write to FWT_ACK with CLEAR = 1 removes one or all entries with log kind CLEARED. -/
  | fwtClear (all : Bool) (entry : Nat)
  /-- ALERT_ENTRY_EXPIRE (R274): A NOEND entry becomes ENDED with kind EXPIRE HOLD seconds after its last start. -/
  | alertEntryExpire (j : Nat)
  /-- ALERT_FRAME_REPEAT (R279): An alert frame repeat falls due REPINT ms after the previous transmission. -/
  | alertFrameRepeat
  /-- CHIMNEY_MESSAGE (R288): A message crosses a chimney link in its class, spending and returning credits. -/
  | chimneyMessage (port : Nat) (up : Bool) (new : Option LinkEnds) (kind : Transfer) (data : Nat) (ret : List Nat) (parity : Bool)
  /-- INIT (R298): The ASH INIT command reads densities and trains the LPDDR4X channels. -/
  | init (arg tag : Nat)
  /-- INIT_DONE (R298): INIT finishes with OK, TRAINFAIL or SIZEFAIL, and READY is set or held at 0. -/
  | initDone (density ranks : Nat) (trained : Bool)
  /-- DRAM_REFRESH (R300): An all-bank refresh falls due at the rate in use. -/
  | dramRefresh
  /-- DRAM_TEMP_POLL (R300): Every 16 ms the controller reads the parts' refresh rate and raises HOT above 4×. -/
  | dramTempPoll (rate : Nat)
  /-- SCRUB_STEP (R303): The scrubber reads a line and writes back a correction. -/
  | scrubStep (e : Ecc) (hit : ScrubHit)
  /-- ASHPIT_REQUEST_DONE (R220): An ashpit request completes, with ECC correction or error status. -/
  | ashpitRequestDone (h t : Nat) (e : Ecc) (x : AshPlace) (err : Bool)
  /-- APERTURE_ACCESS (R316): A host aperture access reads any region or writes the HOST region, raising APWPROT elsewhere. -/
  | apertureAccess (who : Initiator) (write : Bool) (off len : Nat) (data : List Byte) (e : Ecc)
  /-- BACKLOG_BLOCK_WRITE (R310): The cluster port writes a 16-sample backlog block, or drops the oldest buffered block when full. -/
  | backlogBlockWrite (n : Nat)
  /-- SET_COPY_DONE (R308): The join copy into a new set ends, and the held RESUME start proceeds. -/
  | setCopyDone (h : Nat) (dmg : Damage)
  /-- DRAW_RELEASE (R312): A draw record reaches its release time and is passed to the dampers of every entry that names it. -/
  | drawRelease (n : Nat) (e : Ecc) (line : Nat) (header : Bool)
  /-- PORT_FRAME_START (R327): A port free to start a frame sends the next alert frame, PTP message, report or eligible stream unit. -/
  | portFrameStart (p : Nat) (buf : HfDesc)
  /-- DAMPER_MAXQ_EXPIRY (R325): A unit that has waited longer than MAXQ is dropped. -/
  | damperMaxqExpiry (p e : Nat)
  /-- TS_FLUSH_TIMEOUT (R332): TS packets held for 10 ms are sent in a shorter datagram. -/
  | tsFlushTimeout (p e : Nat)
  /-- PORT_FRAME_RX (R346): A frame received on F0 or F1 is filtered and passed to PTP, relay or dropped. -/
  | portFrameRx (p : Nat) (bytes : List Byte)
  /-- PORT_LINK_CHANGE (R324): A port's PCS lock or fault state changes, so that UP changes. -/
  | portLinkChange (p : Nat) (block lf rf los : Bool)
  /-- SFP_MODULE_CHANGE (R354): MODABS stays low for 300 ms (insertion, reading A0h) or goes high (removal). -/
  | sfpModuleChange (p : Nat) (present : Bool) (a0 : List Byte)
  /-- SFP_TXFAULT (R353): SFPn_TXFLT rises and the device pulses TXDIS, latching after three attempts. -/
  | sfpTxfault (p : Nat)
  /-- SFP_TXDIS_PULSE_END (R353): The 10 ms TXDIS pulse of a module reset ends. -/
  | sfpTxdisPulseEnd (p : Nat) (fault : Bool)
  /-- SFP_DIAG_POLL (R354): Every POLL seconds the device reads the A2h diagnostics of a module. -/
  | sfpDiagPoll (p : Nat) (a2 : List Byte)
  /-- SFP_DAILY_UPDATE (R355): A day of laser-on time completes, updating the wear estimate and raising SFPWEAR. -/
  | sfpDailyUpdate (p : Nat)
  /-- MEMBERSHIP_REPORT_TIMER (R348): Every REPINT seconds IGMPv3 or MLDv2 reports are sent. -/
  | membershipReportTimer (p : Nat)
  /-- TELEMETRY_TICK (R341): Every INT ms the flue takes a consistent LRB copy and builds a telemetry frame. -/
  | telemetryTick (p n : Nat) (ok : Bool)
  /-- HF_TAIL_WRITE (R344): The host writes HF_TAIL, making descriptors available. -/
  | hfTailWrite (w : Word)
  /-- HF_START (R345): A write of HF_CTL.EN starts the ring at the next record boundary. -/
  | hfStart
  /-- PTP_EVENT_MESSAGE (R350): A PTP event message sent or received is timestamped and handled by the clock. -/
  | ptpEventMessage (m : PtpMsg)
  /-- PTP_SYNC_TIMER (R349): A PTP message interval expires and Sync, Delay_Req or Announce is sent. -/
  | ptpSyncTimer (kind : Nat)
  /-- PTP_PORT_FAILOVER (R349): The PTP port down for 2 s with AUTOPORT moves PTP to the other port. -/
  | ptpPortFailover
  /-- PPS_IN_EDGE (R352): A rising PPS_IN edge is timestamped and feeds the PPS servo. -/
  | ppsInEdge (sub : Nat)
  /-- PPS_TIMEOUT (R460): No PPS_IN edge for 1.5 s holds TRIM and clears PPSLOCK. -/
  | ppsTimeout
  /-- AUDIO_FRAME (R370): An FSYNC frame start on a port applies the page, checks the BCLK count, and moves samples through the ASRCs. -/
  | audioFrame (p : Nat) (f : AudFrame)
  /-- AUDIO_INTERNAL_SAMPLE (R362): An internal audio sample period runs feeds, the tone and loopbacks at 48,828.125 Hz. -/
  | audioInternalSample
  /-- ASRC_LOCKED (R369): An ASRC holds its ratio within 2^−24 for 5 ms, so that the direction locks and unmutes. -/
  | asrcLocked (p : Nat) (tx : Bool)
  /-- AUDIO_RATE_UPDATE (R364): Every 100 ms the rate detector updates AUD_RATE and may raise RATECHG. -/
  | audioRateUpdate (rates : List Nat) (mclk : Nat)
  /-- AUDIO_CLOCK_STOP (R372): No BCLK edge for 4 periods declares the slave clock lost. -/
  | audioClockStop (p : Nat)
  /-- MCLK_LOST (R361): No AUD_MCLK_IN edge for 1 µs stops every master port's clock. -/
  | mclkLost
  /-- MCLK_RESUMED (R361): AUD_MCLK_IN edges for 100 µs restore MCLKOK and master clocks. -/
  | mclkResumed
  /-- TONE_BURST_TIMER (R368): The alert tone's ON or OFF interval ends. -/
  | toneBurstTimer
  /-- SEND (R399): The SMK SEND command queues a host DATA transmission. -/
  | send (tag : Nat)
  /-- TX_ABORT (R399): The SMK ABORT command ends a queued or running SEND. -/
  | txAbort
  /-- PAGE_TAKE (R395): With no page in progress, the radio takes the head of the page queue and latches the page setting. -/
  | pageTake
  /-- PAGE_REPEAT_DUE (R395): The scheduled time of a page repeat arrives, or the repeat is skipped. -/
  | pageRepeatDue
  /-- SYNTH_LOCKED (R386): Band calibration and settling end and the synthesiser is locked at its channel, opening the PA gate. -/
  | synthLocked
  /-- COEX_GNT_CHANGE (R393): COEX_GNT changes, releasing a waiting transmission or cutting one in progress. -/
  | coexGntChange (level : Bool)
  /-- TX_START (R562): The PA reaches full power with the first preamble symbol at SMK_ANT. -/
  | txStart
  /-- TX_END (R392): The frame and ramp down end, SMK_TXEN falls, and the radio settles back to RX. -/
  | txEnd
  /-- TXLATE (R562): At the last moment its start could meet the latest start, a held transmission completes TXLATE. -/
  | txlate
  /-- SYNTH_UNLOCK (R388): Lock lost during a transmission closes the gate and ends it with UNLOCK. -/
  | synthUnlock
  /-- TX_TIMEOUT (R390): The always-on timer reaches the transmission limit and forces the PA off. -/
  | txTimeout
  /-- DUTY_BUCKET_TICK (R385): A 1 s duty bucket ages out, possibly releasing a transmission waiting for budget. -/
  | dutyBucketTick
  /-- BG_CAL_STEP (R387): A background calibration step of the smoke radio runs between packets. -/
  | bgCalStep (start : Bool)
  /-- PA_SENSE_TICK (R389): Every 10 ms the device measures junction temperature and VDD_RF for PA control. -/
  | paSenseTick (temp : Int) (vdd : Nat)
  /-- SMOKE_FRAME_RX (R397): A received smoke frame is checked and entered into the RX FIFO or discarded. -/
  | smokeFrameRx (bytes : List Byte) (crcOk : Bool) (errs rssi ago : Nat) (cut : Bool)
  /-- RXPOP_WRITE (R398): A write to SMK_RXPOP removes the oldest RX FIFO entry. -/
  | rxpopWrite
  /-- EMBER_SNIFF (R400): Every 100 ms the ember sniffs for 1 ms and starts a search on carrier above THR. -/
  | emberSniff (level : Int)
  /-- EMBER_SEARCH_END (R402): A search ends in a pattern match (wake or MATCH) or a false detection. -/
  | emberSearchEnd (run : Word)
  /-- XFER (R411): The AUX XFER command runs a controller transaction. -/
  | xfer (b tag : Nat)
  /-- AUX_CLEAR (R419): The AUX CLEAR command runs a bus clear. -/
  | auxClear (b tag : Nat) (freed : Bool)
  /-- AUX_ABORT (R419): The AUX ABORT command ends a host transaction at the next bit boundary. -/
  | auxAbort (b : Nat)
  /-- AUX_TRY_END (R417): A controller try ends with success, NACK, arbitration loss or bus error, and is retried or completes the command. -/
  | auxTryEnd (b : Nat) (e : AuxEnd)
  /-- AUX_BUS_ERROR (R416): A START or STOP not generated by the device while it owns the bus releases the lines. -/
  | auxBusError (b byte bit_ acked : Nat)
  /-- AUX_BUS_FREE (R413): tBUF after a STOP or 50 µs idle makes the bus free. -/
  | auxBusFree (b : Nat)
  /-- AUX_RETRY_DELAY (R417): RDELAY after the bus becomes free, the failed try starts again. -/
  | auxRetryDelay (b : Nat)
  /-- AUX_SCL_TIMEOUT (R418): SCL held low beyond SCLTMO ends the try and marks the bus stuck. -/
  | auxSclTimeout (b acked : Nat)
  /-- AUX_AUTOCLEAR (R419): SDA low with SCL high for 5 × SCLTMO starts an automatic bus clear. -/
  | auxAutoclear (b : Nat) (freed : Bool)
  /-- AUX_TARGET_ADDRESS (R422): The AUX0 target receives its address byte or the Alert Response Address and answers, snapshotting the mailbox on a read. -/
  | auxTargetAddress (addr : Nat) (read : Bool)
  /-- AUX_TARGET_BYTE (R421): The target commits a received byte or counts a sent byte at the acknowledge slot. -/
  | auxTargetByte (v : Byte) (commit lost : Bool)
  /-- AUX_TARGET_TIMEOUT (R420): SCL held for SCLTMO during a target transaction abandons it. -/
  | auxTargetTimeout
  /-- HEALTH_MAILBOX_REFRESH (R422): Every 1 ms the values behind the health mailbox are refreshed, possibly asserting ATN_N. -/
  | healthMailboxRefresh
  /-- ATN_QUERY (R425): With ATN_N low for 10 µs, the controller reads one byte at 0x0C. -/
  | atnQuery (low : Bool)
  /-- REF_QUALIFIED (R430): A reference meets its checks for REFQUAL × 10 ms and qualifies. -/
  | refQualified (xo : Bool) (abs : Int)
  /-- REF_MEASURE (R444): The 10 ms frequency measurement updates CLK_REFMEAS and may declare the source lost. -/
  | refMeasure (offset : Option Int) (wrong : Bool)
  /-- REF_LOST (R443): Four blanked comparisons put the root PLL into holdover. -/
  | refLost
  /-- HOLDOVER_EXPIRY (R445): HOLDMAX runs out under AUTO and the PLL switches in to the XO. -/
  | holdoverExpiry (abs : Int)
  /-- FREQ_SLEW_DONE (R448): The frequency difference falls below 0.001 ppm, freezing B. -/
  | freqSlewDone (b : Int)
  /-- XO_FAIL (R431): The XO leaves tolerance, raising XOFAIL. -/
  | xoFail
  /-- LOCK_CHANGE (R436): The PLL_LOCKS comparator crosses a threshold, so that LOCK rises or falls. -/
  | lockChange (up : Bool)
  /-- CORELOCK_LOSS (R440): CORELOCK stays 0 for 1 µs after kindling, causing a SYSTEM reset. -/
  | corelockLoss
  /-- REALIGN (R450): The CLK REALIGN command moves the build-out to zero one phase step at a time. -/
  | realign (tag : Nat)
  /-- TSET (R459): The CLK TSET command sets DEVTIME at the next tick. -/
  | tset (tag : Nat)
  /-- TSLEW (R458): The CLK TSLEW command slews an offset into DEVTIME. -/
  | tslew (tag : Nat)
  /-- TSTOP (R458): The CLK TSTOP command ends a DEVTIME slew. -/
  | tstop (tag : Nat)
  /-- PHTGT_WRITE (R452): A write of CLK_PHTGT or CLK_OUTn_PH sets a new phase target. -/
  | phtgtWrite (k : Nat) (w : Word)
  /-- PHASE_STEP (R452): Every 2^STEPK ticks the root or an output phase stepper moves one step towards its target. -/
  | phaseStep (k : Nat)
  /-- TIME_TICK (R456): The 100 MHz time tick advances DEVTIME by 10 ns plus trim and slew. -/
  | timeTick
  /-- POR (R466): VDD_AON becomes good after absence or failure, causing a power-on reset. -/
  | por
  /-- SUPPLY_FAIL (R465): A monitored supply falls below 92 % for 2 µs, causing a SYSTEM reset held until it is good. -/
  | supplyFail (n : Nat)
  /-- SUPPLY_GOOD (R465): A supply stays above 95 % for 50 µs and counts as good. -/
  | supplyGood (x : SupplyRead)
  /-- PIN_RESET (R468): RESET_N is held low from outside for 1 µs or more. -/
  | pinReset
  /-- RESET_STRETCH_END (R468): The 100 µs reset stretch ends and RESET_N is released, or a still-low ball starts a new stretch. -/
  | resetStretchEnd (low : Bool)
  /-- RST_CMD_CORE (R467): RST_CMD with key and level CORE starts a CORE reset. -/
  | rstCmdCore
  /-- RST_CMD_SYSTEM (R467): RST_CMD with key and level SYSTEM starts a SYSTEM reset. -/
  | rstCmdSystem
  /-- RST_CMD_POR (R467): RST_CMD with key and level POR starts a commanded power-on reset. -/
  | rstCmdPor
  /-- WATCHDOG_EXPIRY (R484): The mantel watchdog not served for 1 s causes a SYSTEM reset. -/
  | watchdogExpiry
  /-- TEMP_MEASURE (R470): Every 10 ms the junction temperature is measured, raising THERMW at 110 °C. -/
  | tempMeasure (t : Int)
  /-- THERMAL_RELEASE (R470): 1 s below 110 °C ends a thermal hold. -/
  | thermalRelease
  /-- KINDLING_STEP (R471): A kindling step (OTP read, strap, ROM check, PLL lock, staged release) completes and the next begins. -/
  | kindlingStep (k : Kindle)
  /-- BLOCK_RELEASE (R476): A requested block release is carried out 16 cycles after its clock-good holds. -/
  | blockRelease (b : Nat)
  /-- RST_BLK_WRITE (R477): A write to RST_BLK asserts block resets or requests releases. -/
  | rstBlkWrite (w : Word) (sds pcie : Bool)
  /-- ISOLATE_DONE (R478): Outstanding transfers of an ISOLATE block have completed and its reset is asserted. -/
  | isolateDone (b : Nat)
  /-- BOOT (R482): RST_MNTCMD BOOT checks a firmware image and starts it with a CORE reset. -/
  | boot (slot tag : Nat)
  /-- OTP_PROGRAM (R487): RST_OTPCMD with the key programs an OTP word. -/
  | otpProgram (i : Nat)
  /-- OTP_PROGRAM_DONE (R487): Programming of an OTP word ends, verified or failed. -/
  | otpProgramDone (w : Word)
  /-- BANK_REQUEST (R489): RST_PWR with key and BANK requests BANKED, refused or started. -/
  | bankRequest (force : Bool)
  /-- BANKED_ENTRY_STEP (R489): A step of BANKED entry completes (ports stopped, aux drained, self-refresh, domains off), reaching BANKED. -/
  | bankedEntryStep
  /-- WAKE_N_ASSERT (R492): WAKE_N low for 10 µs in BANKED starts the wake. -/
  | wakeNAssert
  /-- RUN (R497): The CAL RUN command starts a calibration of a core, an RSSI point or the smoke receiver. -/
  | run (target tag arg : Nat)
  /-- RESTORE (R503): The CAL RESTORE command checks a staged block and applies it. -/
  | restore (b tag : Nat)
  /-- LOADSET (R505): The CAL LOADSET command stages and restores a calibration set image. -/
  | loadset (slot tag : Nat) (dmg : Damage)
  /-- CAL_ABORT (R500): The CAL ABORT command ends the running command at its next boundary. -/
  | calAbort (tag : Nat)
  /-- CAL_RUN_DONE (R497): A calibration run ends; after the second run the results are compared and application starts or the command fails. -/
  | calRunDone (m : CalMeas)
  /-- CAL_APPLY_STEP (R499): Every 10 µs an application moves values one of 256 steps, finishing the command at the last. -/
  | calApplyStep (b : Nat)
  /-- BIST_RUN (R506): The BST RUN command starts BIST of one unit. -/
  | bistRun (kind tag idx : Nat)
  /-- BIST_ABORT (R508): The BST ABORT command ends a host BIST within 1 ms. -/
  | bistAbort (tag : Nat)
  /-- BIST_DONE (R507): A BIST run ends and its signatures decide pass or fail. -/
  | bistDone (l0 l1 m0 m1 : Word) (membad : Nat)
  /-- SOOT_ENTRY_WRITE (R512): The log writes the next waiting entry from its holding stage, one per 100 ns. -/
  | sootEntryWrite
  /-- SOOT_ACK_WRITE (R513): A write of SOOT_ACK acknowledges severe entries and may clear FIRSTV. -/
  | sootAckWrite (w : Word)
  /-- SOOT_RD_WRITE (R514): A write of SOOT_RD sets the host read position. -/
  | sootRdWrite (w : Word)
  /-- HPUT (R205): The hput instruction queues a command to a hob unit, waiting while the unit's queue is full. -/
  | hput (i : Issue) (unit cmd ws : BitVec 4) (imm : BitVec 12)
  /-- ILLEGAL_INSTRUCTION (R195): The stoker issues a word with an unassigned opcode, a non-zero unused field, the all-zero word or 0xFFFF_FFFF, raising an illegal-instruction exception. -/
  | illegalInstruction (h : Nat) (w : Word) (e : Ecc)
  /-- PHASE_COMPARISON (R442): Each reference period the phase detector compares the reference edge with the feedback; an out-of-window, missing or extra edge blanks the comparison and increments CLK_CNT.GLITCH. -/
  | phaseComparison (c : Comparison)
  /-- XO_RECOVERED (R431): The XO returns to within ±200 ppm of 25 MHz, so that CLK_STAT.XO becomes 1 and CLKCHG is raised. -/
  | xoRecovered
  /-- LANE_SYNC_LOST (R511): A lane's LRB LOCK has fallen from 2 or above and stayed below 2 for 1 s, so that severe soot entry 0x4007 is written. -/
  | laneSyncLost (n : Nat)
  /-- SPLICE_MATCH_TIMEOUT (R176): No unit from the resuming hearth reaches next_expected within LANE_DRAW, so the migration ends NOMATCH and the lane continues with the pause of R32. -/
  | spliceMatchTimeout (n : Nat)
  /-- HOTPORT_WINDOW (R320): A 1 ms chimney utilisation window ends, and HOTPORT is raised for a link direction that was more than 90 % busy. -/
  | hotportWindow (port busy : Nat) (use : Option LinkUse)
  /-- PCIE_LINK_UP (R473): The PCIe link finishes training after the host port and PCIE_PERST_N are released, and the host port becomes reachable. -/
  | pcieLinkUp
  /-- WATCHDOG_COUNT_EXPIRY (R484): 600 s pass without a watchdog reset, so that RST_CAUSE.WDCOUNT ages and the WDLOOP suppression of flash boot ends. -/
  | watchdogCountExpiry
deriving DecidableEq, Repr

end Sys2Proof
end

