-- ==== Sys2Proof/WellFormed.lean ====
section
/-! DEFINITION. What a command's operands may be: each one in the range its row's field or unit has. A command outside them is
one that no one can send; its meaning answers all the same. -/

namespace Sys2Proof

/-- A lane number (R10). -/
def laneOk (n : Nat) : Bool := decide (n < 96)

/-- A physical hearth (R10). -/
def hearthOk (h : Nat) : Bool := decide (h < 104)

/-- An 8-bit field of a command register. -/
def byteOk (v : Nat) : Bool := decide (v < 256)

/-- A 16-bit field. -/
def halfOk (v : Nat) : Bool := decide (v < 65536)

/-- A capture core, or one of the three phase steppers (R85, R450). -/
def coreOk (c : Nat) : Bool := decide (c < 3)

/-- One of two: the blanking inputs, the ranks. -/
def twoOk (x : Nat) : Bool := decide (x < 2)

/-- The samples of a converter frame (R102). -/
def frameOk (xs : List (BitVec 12)) : Bool := xs.length == 64

/-- A bit of a byte and its acknowledge slot on an aux bus (R416). -/
def bitOk (b : Nat) : Bool := decide (b < 9)

/-- An aux bus (R408). -/
def busOk (b : Nat) : Bool := decide (b < 3)

/-- A seven-bit aux address (R411). -/
def slaveOk (a : Nat) : Bool := decide (a < 128)

/-- A flue port: F0, F1 or HF (R322). -/
def flueOk (p : Nat) : Bool := decide (p < 3)

/-- A flue port with a module: F0 or F1 (R322). -/
def sfpOk (p : Nat) : Bool := decide (p < 2)

/-- A stream entry of a port (R328). -/
def streamOk (e : Nat) : Bool := decide (e < 128)

/-- An audio port (R357). -/
def audioOk (p : Nat) : Bool := decide (p < 8)

/-- An oven (R10). -/
def ovenOk (k : Nat) : Bool := decide (k < 24)

/-- An oven ticket of a hearth (R215). -/
def ovenTicketOk (t : Nat) : Bool := decide (t < 4)

/-- An ashpit ticket of a hearth (R218). -/
def ashTicketOk (t : Nat) : Bool := decide (t < 8)

/-- A hob unit (R212). -/
def unitOk (u : Nat) : Bool := decide (u < 9)

/-- A hearth, or 128 + an oven, of the rolling test (R186). -/
def testUnitOk (u : Nat) : Bool := decide (u < 104) || (decide (128 ≤ u) && decide (u < 152))

/-- A tripwire (R269). -/
def tripOk (t : Nat) : Bool := decide (t < 4)

/-- A place of the alert table (R273). -/
def entryOk (j : Nat) : Bool := decide (j < 32)

/-- A chimney port (R286). -/
def chimneyOk (p : Nat) : Bool := decide (p < 14)

/-- A calibration block (R502). -/
def calBlockOk (b : Nat) : Bool := decide (b < 4)

/-- A density code of the DRAM (R321). -/
def densityOk (v : Nat) : Bool := decide (v < 4)

/-- A block of R66. -/
def blockOk (b : Nat) : Bool := decide (b < 17)

/-- The WORD field of RST_OTPCMD (R486). -/
def otpOk (i : Nat) : Bool := decide (i < 64)

/-- An interrupt vector (R77). -/
def vectorOk (v : Nat) : Bool := decide (v < 32)

/-- A page of register space that may hold buffered fields (R56). -/
def pageOk (p : Nat) : Bool := decide (p < 0x400000) && p % 0x1000 == 0

/-- An aligned word of BAR0 (R40). -/
def offsetOk (a : Nat) : Bool := decide (a < 0x4000000) && a % 4 == 0

/-- A bit alias (R75). -/
def aliasOk (a : Nat) : Bool := decide (0x2000000 ≤ a) && decide (a < 0x2800000) && a % 4 == 0

/-- A word of the program store window (R55). -/
def storeOk (a : Nat) : Bool := decide (a < 0x200000) && a % 4 == 0

/-- A word of a lane window's inbound mailbox (R227). -/
def mailboxOk (a : Nat) : Bool := decide (0x400 ≤ a) && decide (a < 0x600) && a % 4 == 0

/-- A byte of the ashpit aperture (R55). -/
def apertureOk (a : Nat) : Bool := decide (a < 0x1000000)

/-- The host or the mantel: a stoker uses sysrd and syswr (R54, R231). -/
def writerOk (w : Initiator) : Bool := match w with | .stoker _ => false | _ => true

/-- A word of the MSI-X table, or a base address register (R40, R41). -/
def msixOk (x : MsixWrite) : Bool := match x with
  | .table k _ => decide (k < 128)
  | .bar k _ => decide (k < 6)
  | .cfgRead (.bar k) => decide (k < 6)
  | _ => true

/-- The ports of a message of the chimney (R286). -/
def endsOk (m : LinkEnds) : Bool := chimneyOk m.src && chimneyOk m.dst

/-- The data flits of a message of the chimney (R288). -/
def flitsOk (n : Nat) : Bool := decide (n ≤ 2)

/-- An instruction's issue names a hearth (R194). -/
def issueOk (i : Issue) : Bool := hearthOk i.hearth

/-- A command is well formed. -/
def Instr.wf (i : Instr) : Bool :=
  match i with
  | .registerWrite who a _ _ _ => writerOk who && offsetOk a
  | .wr _ _ _ _ _ => true
  | .rd _ _ _ _ _ _ => true
  | .rd1 _ _ _ _ _ _ => true
  | .wr1 _ _ _ _ _ => true
  | .stat _ => true
  | .rstc _ key level _ => halfOk key && byteOk level
  | .wake => true
  | .badop op => byteOk op
  | .spiWriteBufferDrain _ => true
  | .pciePortReset => true
  | .msixControlWrite x => msixOk x
  | .imodHoldExpiry v => vectorOk v
  | .sqcClear who a _ _ => writerOk who && offsetOk a
  | .bitAliasWrite who a _ _ => writerOk who && aliasOk a
  | .sysTimeLoRead r => writerOk r.who && offsetOk r.a
  | .grtScountLoRead who => writerOk who
  | .srSampleLoRead i0 _ _ _ => issueOk i0
  | .commit tag mask => byteOk tag && halfOk mask
  | .timedCommitArm tag mask => byteOk tag && halfOk mask
  | .pageApply p _ => pageOk p
  | .sysImmedWrite _ => true
  | .rotate arg tag => byteOk arg && byteOk tag
  | .sbsrc arg tag => byteOk arg && byteOk tag
  | .snapArm tag => byteOk tag
  | .snapTrig tag => byteOk tag
  | .snapAbort tag => byteOk tag
  | .rotAbort tag => byteOk tag
  | .rotationPeriodExpiry => true
  | .rotationPhaseDone _ _ _ _ => true
  | .rotationAlignTimeout => true
  | .adcFrame c xs _ => coreOk c && frameOk xs
  | .agcDecayStep c => coreOk c
  | .coreLevelUpdate c _ _ => coreOk c
  | .blankAssert x => twoOk x
  | .blankRelease x => twoOk x
  | .blkstuck x => twoOk x
  | .coreMonitorWindow c cause sub_ _ _ _ => coreOk c && byteOk cause && byteOk sub_
  | .coreReplacementSettled => true
  | .snapRecordDone _ _ _ => true
  | .binFrame => true
  | .laneOutputSample n _ _ _ => laneOk n
  | .refillEnd n => laneOk n
  | .saturationInterval => true
  | .binPowerUpdate _ _ => true
  | .bind n arg tag _ => laneOk n && byteOk arg && byteOk tag
  | .unbind n tag => laneOk n && byteOk tag
  | .move n arg tag => laneOk n && byteOk arg && byteOk tag
  | .restart n tag _ => laneOk n && byteOk tag
  | .deferredBind n _ => laneOk n
  | .startupBistDone fails => fails.all hearthOk
  | .retireTimeout hs => hs.all hearthOk
  | .hobCommandTimeout h u => hearthOk h && unitOk u
  | .stallWatchdogExpiry h => hearthOk h
  | .migrationLoadDone n _ => laneOk n
  | .isolationComplete h => hearthOk h
  | .replayLivePoint h => hearthOk h
  | .plannedCutover n => laneOk n
  | .resyncAnswerTimeout n => laneOk n
  | .rollingSelftestTick => true
  | .rollingTestDone u _ => testUnitOk u
  | .mantelScheduleTick => true
  | .ovenRequestDone k _ => ovenOk k
  | .ovenDeadlineLate h t => hearthOk h && ovenTicketOk t
  | .ovenOverrunTimeout k => ovenOk k
  | .add i0 _ _ _ => issueOk i0
  | .sub i0 _ _ _ => issueOk i0
  | .and i0 _ _ _ => issueOk i0
  | .or i0 _ _ _ => issueOk i0
  | .xor i0 _ _ _ => issueOk i0
  | .shl i0 _ _ _ => issueOk i0
  | .shr i0 _ _ _ => issueOk i0
  | .sar i0 _ _ _ => issueOk i0
  | .mul i0 _ _ _ => issueOk i0
  | .min i0 _ _ _ => issueOk i0
  | .max i0 _ _ _ => issueOk i0
  | .clz i0 _ _ => issueOk i0
  | .cmp i0 _ _ => issueOk i0
  | .movi i0 _ _ => issueOk i0
  | .movhi i0 _ _ => issueOk i0
  | .psetCond i0 _ _ _ => issueOk i0
  | .psetAnd i0 _ _ _ => issueOk i0
  | .psetOr i0 _ _ _ => issueOk i0
  | .psetNot i0 _ _ _ => issueOk i0
  | .mac i0 _ _ _ => issueOk i0
  | .msu i0 _ _ _ => issueOk i0
  | .mpy i0 _ _ _ => issueOk i0
  | .mach i0 _ _ _ => issueOk i0
  | .cmac i0 _ _ _ => issueOk i0
  | .cmacj i0 _ _ _ => issueOk i0
  | .aclr i0 _ => issueOk i0
  | .aload i0 _ _ => issueOk i0
  | .sat i0 _ _ _ _ => issueOk i0
  | .ldw i0 _ _ _ _ => issueOk i0
  | .ldh i0 _ _ _ _ => issueOk i0
  | .ldb i0 _ _ _ _ => issueOk i0
  | .stw i0 _ _ _ => issueOk i0
  | .sth i0 _ _ _ => issueOk i0
  | .stb i0 _ _ _ => issueOk i0
  | .bcpy i0 _ _ _ _ => issueOk i0
  | .br i0 _ => issueOk i0
  | .bcc i0 _ _ => issueOk i0
  | .call i0 _ => issueOk i0
  | .ret i0 _ => issueOk i0
  | .loop i0 _ _ => issueOk i0
  | .uret i0 => issueOk i0
  | .halt i0 => issueOk i0
  | .nop i0 => issueOk i0
  | .hget i0 _ _ _ => issueOk i0
  | .hwait i0 _ => issueOk i0
  | .oreq i0 _ _ _ _ => issueOk i0
  | .oawait i0 _ _ => issueOk i0
  | .areq i0 _ _ _ _ => issueOk i0
  | .aawait i0 _ _ => issueOk i0
  | .tick i0 _ _ => issueOk i0
  | .yield i0 _ _ => issueOk i0
  | .fwal i0 _ _ => issueOk i0
  | .flput i0 _ _ => issueOk i0
  | .mget i0 _ _ => issueOk i0
  | .mput i0 _ _ => issueOk i0
  | .sysrd i0 _ _ _ _ => issueOk i0
  | .syswr i0 _ _ _ _ => issueOk i0
  | .srApplyRead i0 _ _ _ _ => issueOk i0
  | .applyTimeout n _ => laneOk n
  | .waitSatisfied h => hearthOk h
  | .urgentEntry h => hearthOk h
  | .capture h _ => hearthOk h
  | .skip h => hearthOk h
  | .setf h => hearthOk h
  | .setph h => hearthOk h
  | .addf h => hearthOk h
  | .setrlo h => hearthOk h
  | .setrhi h => hearthOk h
  | .resampReset h => hearthOk h
  | .fftRun h _ => hearthOk h
  | .loadpat h _ => hearthOk h
  | .runmc h _ => hearthOk h
  | .runsc h _ => hearthOk h
  | .loadcon h _ => hearthOk h
  | .demapRun h _ => hearthOk h
  | .deintRun h _ => hearthOk h
  | .tiwr h _ => hearthOk h
  | .tird h _ => hearthOk h
  | .watch h _ => hearthOk h
  | .unwatch h => hearthOk h
  | .todm h _ => hearthOk h
  | .fromdm h _ => hearthOk h
  | .hobCommandDone h u _ _ _ => hearthOk h && unitOk u
  | .verify slot tag => byteOk slot && byteOk tag
  | .erase slot tag => byteOk slot && byteOk tag
  | .pstCommandComplete => true
  | .programStoreWrite off _ _ => storeOk off
  | .hostMailboxWrite n off _ => laneOk n && mailboxOk off
  | .firewatchLatch => true
  | .alertTableEvent => true
  | .tripwireTrigWrite t _ => tripOk t
  | .lrbmatchEval t => tripOk t
  | .fwtAck _ entry => entryOk entry
  | .fwtClear _ entry => entryOk entry
  | .alertEntryExpire j => entryOk j
  | .alertFrameRepeat => true
  | .chimneyMessage port _ new _ data _ _ => chimneyOk port && new.all endsOk && flitsOk data
  | .init arg tag => byteOk arg && byteOk tag
  | .initDone density ranks _ => densityOk density && twoOk ranks
  | .dramRefresh => true
  | .dramTempPoll _ => true
  | .scrubStep _ _ => true
  | .ashpitRequestDone h t _ _ _ => hearthOk h && ashTicketOk t
  | .apertureAccess who _ off _ _ _ => writerOk who && apertureOk off
  | .backlogBlockWrite n => laneOk n
  | .setCopyDone h _ => hearthOk h
  | .drawRelease n _ _ _ => laneOk n
  | .portFrameStart p _ => flueOk p
  | .damperMaxqExpiry p e => flueOk p && streamOk e
  | .tsFlushTimeout p e => flueOk p && streamOk e
  | .portFrameRx p _ => sfpOk p
  | .portLinkChange p _ _ _ _ => sfpOk p
  | .sfpModuleChange p _ _ => sfpOk p
  | .sfpTxfault p => sfpOk p
  | .sfpTxdisPulseEnd p _ => sfpOk p
  | .sfpDiagPoll p _ => sfpOk p
  | .sfpDailyUpdate p => sfpOk p
  | .membershipReportTimer p => sfpOk p
  | .telemetryTick p n _ => flueOk p && laneOk n
  | .hfTailWrite _ => true
  | .hfStart => true
  | .ptpEventMessage _ => true
  | .ptpSyncTimer _ => true
  | .ptpPortFailover => true
  | .ppsInEdge _ => true
  | .ppsTimeout => true
  | .audioFrame p _ => audioOk p
  | .audioInternalSample => true
  | .asrcLocked p _ => audioOk p
  | .audioRateUpdate _ _ => true
  | .audioClockStop p => audioOk p
  | .mclkLost => true
  | .mclkResumed => true
  | .toneBurstTimer => true
  | .send tag => byteOk tag
  | .txAbort => true
  | .pageTake => true
  | .pageRepeatDue => true
  | .synthLocked => true
  | .coexGntChange _ => true
  | .txStart => true
  | .txEnd => true
  | .txlate => true
  | .synthUnlock => true
  | .txTimeout => true
  | .dutyBucketTick => true
  | .bgCalStep _ => true
  | .paSenseTick _ _ => true
  | .smokeFrameRx _ _ _ _ _ _ => true
  | .rxpopWrite => true
  | .emberSniff _ => true
  | .emberSearchEnd _ => true
  | .xfer b tag => busOk b && byteOk tag
  | .auxClear b tag _ => busOk b && byteOk tag
  | .auxAbort b => busOk b
  | .auxTryEnd b _ => busOk b
  | .auxBusError b _ bit_ _ => busOk b && bitOk bit_
  | .auxBusFree b => busOk b
  | .auxRetryDelay b => busOk b
  | .auxSclTimeout b _ => busOk b
  | .auxAutoclear b _ => busOk b
  | .auxTargetAddress addr _ => slaveOk addr
  | .auxTargetByte _ _ _ => true
  | .auxTargetTimeout => true
  | .healthMailboxRefresh => true
  | .atnQuery _ => true
  | .refQualified _ _ => true
  | .refMeasure _ _ => true
  | .refLost => true
  | .holdoverExpiry _ => true
  | .freqSlewDone _ => true
  | .xoFail => true
  | .lockChange _ => true
  | .corelockLoss => true
  | .realign tag => byteOk tag
  | .tset tag => byteOk tag
  | .tslew tag => byteOk tag
  | .tstop tag => byteOk tag
  | .phtgtWrite k _ => coreOk k
  | .phaseStep k => coreOk k
  | .timeTick => true
  | .por => true
  | .supplyFail n => byteOk n
  | .supplyGood x => byteOk x.n
  | .pinReset => true
  | .resetStretchEnd _ => true
  | .rstCmdCore => true
  | .rstCmdSystem => true
  | .rstCmdPor => true
  | .watchdogExpiry => true
  | .tempMeasure _ => true
  | .thermalRelease => true
  | .kindlingStep _ => true
  | .blockRelease b => blockOk b
  | .rstBlkWrite _ _ _ => true
  | .isolateDone b => blockOk b
  | .boot slot tag => byteOk slot && byteOk tag
  | .otpProgram i0 => otpOk i0
  | .otpProgramDone _ => true
  | .bankRequest _ => true
  | .bankedEntryStep => true
  | .wakeNAssert => true
  | .run target tag arg => byteOk target && byteOk tag && byteOk arg
  | .restore b tag => byteOk b && byteOk tag
  | .loadset slot tag _ => byteOk slot && byteOk tag
  | .calAbort tag => byteOk tag
  | .calRunDone _ => true
  | .calApplyStep b => calBlockOk b
  | .bistRun kind tag idx => byteOk kind && byteOk tag && byteOk idx
  | .bistAbort tag => byteOk tag
  | .bistDone _ _ _ _ membad => byteOk membad
  | .sootEntryWrite => true
  | .sootAckWrite _ => true
  | .sootRdWrite _ => true
  | .hput i0 _ _ _ _ => issueOk i0
  | .illegalInstruction h _ _ => hearthOk h
  | .phaseComparison _ => true
  | .xoRecovered => true
  | .laneSyncLost n => laneOk n
  | .spliceMatchTimeout n => laneOk n
  | .hotportWindow port _ _ => chimneyOk port
  | .pcieLinkUp => true
  | .watchdogCountExpiry => true

end Sys2Proof
end

