-- ==== Sys2Proof/Decode.lean ====
section
/-! DEFINITION. What a word spells by the opcode table's bits. The table of this block gives no row any bits: its commands
reach the device as register writes, transactions and events, which their operands describe. So no word spells one. -/

namespace Sys2Proof

/-- The command a word spells: none, since no row of the table has bits. -/
def decodeTableWord (_nbits _w : Nat) : Option Instr := none

end Sys2Proof
end

