-- ==== Sys2Proof/Config.lean ====
section
/-! DEFINITION. What the manual leaves open and the machine fixes: the free values. Each is an opaque constant with no
body, so no proof can see what it is and a claim about the device holds whatever it is. A use of one is applied to the
state's plain counter `free`, which the command that uses it advances, or to the operands it depends on. -/

namespace Sys2Proof

/-- A word the manual leaves undefined after a command that goes on; the n-th such value of a run (log 3). -/
opaque Config.freeWord : Nat → Word

/-- A byte the manual leaves undefined (log 3). -/
opaque Config.freeByte : Nat → Byte

/-- A byte of a slot that ERASE is working on (R242), from the n-th free value of the run and its place in the store. -/
opaque Config.erasedByte : Nat → Nat → Byte

/-- The signature the ROM of the silicon revision holds for a kind of BIST unit (R507: "var", from ROM), word 0 to 3. -/
opaque Config.bistSignature : Nat → Nat → Word

/-- The vendor's Ed25519 public key, held in ROM (R247): its value is not in the spec. -/
opaque Config.vendorKey : List Byte

/-- One output sample of an ASRC (R363) from its ratio and the last samples of its FIFO, newest first: the filter is not
stated. -/
opaque Config.asrc : Nat → List Word → Word

/-- One sample of an input ASRC, likewise. -/
opaque Config.asrcIn : Nat → List Word → Word

/-- A sample scaled by a ramp of 32 steps, k of 32 done (R367, R369: the ramp's shape is not stated). -/
opaque Config.ramp : Nat → Word → Word

/-- A sample attenuated by n half decibels (R365: the rounding is not stated). -/
opaque Config.atten : Nat → Word → Word

/-- The alert tone's sample (R368) from AUD_TONE_F, AUD_TONE_C, the burst's tone and the count of samples. -/
opaque Config.tone : Word → Word → Bool → Nat → Word

/-- A quotient that is not whole is rounded up and not down, where the manual gives the exact value and not its rounding
(R92, R97, R110, R138, R172, R358, R365, R498, R499). -/
opaque Config.roundUp : Int → Nat → Bool

/-- A sample after the interleave correction (R103), from the core's correction words, what the estimator added to them, the codes of
the frame and the sample's place: the correction filters are not stated. -/
opaque Config.interleave : List Word → List Int → List (BitVec 12) → Nat → BitVec 12

/-- A sample as it goes to the grate (R92, R116), from a gain in 0.001 dB, a phase in 0.01° and a delay in 0.01 ps, the corrected frame
and the sample's place: the filters are not stated. -/
opaque Config.compensate : Int → Int → Int → List (BitVec 12) → Nat → BitVec 12

/-- A complex value turned back by a phase in 2^-32 turn (R134): the mixer's arithmetic is not stated. -/
opaque Config.rotate : Word → Int → Int → Int × Int

/-- A ratio of powers in 0.1 dB, as a signed number of 16 bits (R147: the rounding is not stated). -/
opaque Config.decibel : Nat → Nat → BitVec 16

/-- A power in 0.1 dB as a linear weight (R498: the precision is not stated). -/
opaque Config.linPower : BitVec 16 → Nat

end Sys2Proof
end

