-- ==== Sys2Proof/Machine/Bits.lean ====
section
/-! DEFINITION. Bit fields, sign extension, saturation and byte order: the helpers every family uses. -/

namespace Sys2Proof.Machine

/-- Bits [hi:lo] of a word, as a number. -/
def getBits (w : Word) (hi lo : Nat) : Nat := (w.extractLsb' lo (hi + 1 - lo)).toNat

/-- The mask of bits [hi:lo]. -/
def maskOf (hi lo : Nat) : Word := (BitVec.ofNat 32 (2 ^ (hi + 1 - lo) - 1)) <<< lo

/-- A word with bits [hi:lo] replaced by `v` (its low bits) and every other bit kept. -/
def putBits (w : Word) (hi lo : Nat) (v : Nat) : Word :=
  (w &&& ~~~(maskOf hi lo)) ||| ((BitVec.ofNat 32 v <<< lo) &&& maskOf hi lo)

/-- Bit `b` of a word. -/
def bit (w : Word) (b : Nat) : Bool := w.getLsbD b

/-- A Boolean as a one-bit number. -/
def b2n (b : Bool) : Nat := if b then 1 else 0

/-- A number of `n` bits read as two's complement. -/
def toSigned (n v : Nat) : Int := if v < 2 ^ (n - 1) then (v : Int) else (v : Int) - (2 ^ n : Nat)

/-- The low `n` bits of the two's complement of an integer. -/
def ofSigned (n : Nat) (i : Int) : Nat := (i % ((2 ^ n : Nat) : Int)).toNat

/-- A count that stops at `2 ^ n - 1` (the manual's "saturating"). -/
def satInc (n v k : Nat) : Nat := min (v + k) (2 ^ n - 1)

/-- An integer held within [lo, hi]. -/
def clampI (lo hi i : Int) : Int := max lo (min hi i)

/-- A quotient as the device keeps it: exact where it is whole, else one of its two neighbours (log 91). -/
def roundOpen (num : Int) (den : Nat) : Int :=
  num / den + (if num % den = 0 then 0 else if Config.roundUp num den then 1 else 0)

/-- A number held within [lo, hi]. -/
def clampN (lo hi v : Nat) : Nat := max lo (min hi v)

/-- The low word of a 64-bit count. -/
def lo32 (n : Nat) : Word := BitVec.ofNat 32 n

/-- The high word of a 64-bit count. -/
def hi32 (n : Nat) : Word := BitVec.ofNat 32 (n / 2 ^ 32)

/-- A 64-bit count from its two words. -/
def of64 (lo hi : Word) : Nat := hi.toNat * 2 ^ 32 + lo.toNat

/-- Byte `i` of a word, byte 0 in [7:0] (registers are little-endian, R45). -/
def byteOf (w : Word) (i : Nat) : Byte := (w >>> (8 * i)).setWidth 8

/-- A word with byte `i` replaced. -/
def setByte (w : Word) (i : Nat) (b : Byte) : Word := putBits w (8 * i + 7) (8 * i) b.toNat

/-- The word of four bytes, the lowest address first. -/
def wordOfBytes (b0 b1 b2 b3 : Byte) : Word := b3 ++ b2 ++ b1 ++ b0

/-- The mask of the bytes whose enable bit is set. -/
def byteMask (be : BitVec 4) : Word :=
  (if be.getLsbD 3 then 0xFF000000 else 0) ||| (if be.getLsbD 2 then 0x00FF0000 else 0) |||
  (if be.getLsbD 1 then 0x0000FF00 else 0) ||| (if be.getLsbD 0 then 0x000000FF else 0)

/-- `w` where the mask is 0, `v` where it is 1. -/
def mergeMask (m w v : Word) : Word := (w &&& ~~~m) ||| (v &&& m)

/-- The numbers of the set bits among the low `n` bits, ascending. -/
def setBits (n : Nat) (w : Nat) : List Nat := (List.range n).filter (fun i => w.testBit i)

end Sys2Proof.Machine
end

