-- ==== Sys2Proof/Machine/RegMap.lean ====
section
/-! DEFINITION. The register map of the device: one row per register of the spec's tables (R12, R55 and the
register sections of every chapter), with each field's place, access type, privilege and stated range, and one named
address and one named field per register and field. -/

namespace Sys2Proof.Machine

/-- The access types of R12 (RSV is the absence of a field, R13). -/
inductive Acc where
  | ro | wo | rw | rwb | sqc
deriving DecidableEq, Repr

/-- The stated range of a field that R59 and R65 check. -/
inductive Legal where
  | any
  | range (lo hi : Nat)
deriving DecidableEq, Repr

/-- One field of a register: bits [hi:lo], access type, privilege (R73), stated range. -/
structure Field where
  name : String
  hi : Nat
  lo : Nat
  acc : Acc
  prv : Bool := false
  legal : Legal := .any

/-- One register of the map. Word (i, j) of it lies at `base + i * s1 + j * s2`, for i < c1 and j < c2. -/
structure Reg where
  name : String
  base : Nat
  c1 : Nat
  s1 : Nat
  c2 : Nat
  s2 : Nat
  reset : Nat
  rstep : Nat
  fields : List Field

/-- A field at an address: what the named accessors below denote. -/
structure Fld where
  addr : Nat
  hi : Nat
  lo : Nat

namespace Reg

/-- R10. -/
abbrev SYS_ID : Nat := 0x0
abbrev SYS_ID_VENDOR : Fld := ⟨SYS_ID, 31, 16⟩
abbrev SYS_ID_PART : Fld := ⟨SYS_ID, 15, 0⟩
/-- R10. -/
abbrev SYS_REV : Nat := 0x4
abbrev SYS_REV_EPOCH : Fld := ⟨SYS_REV, 15, 8⟩
abbrev SYS_REV_METAL : Fld := ⟨SYS_REV, 7, 0⟩
/-- R10. -/
abbrev SYS_FEAT0 : Nat := 0x10
abbrev SYS_FEAT0_HEARTHS : Fld := ⟨SYS_FEAT0, 31, 24⟩
abbrev SYS_FEAT0_LANES : Fld := ⟨SYS_FEAT0, 23, 16⟩
abbrev SYS_FEAT0_LDPC_OVENS : Fld := ⟨SYS_FEAT0, 15, 11⟩
abbrev SYS_FEAT0_TRELLIS_OVENS : Fld := ⟨SYS_FEAT0, 10, 6⟩
abbrev SYS_FEAT0_CAPCORES : Fld := ⟨SYS_FEAT0, 5, 4⟩
abbrev SYS_FEAT0_GUARDED_MAX : Fld := ⟨SYS_FEAT0, 3, 0⟩
/-- R10. -/
abbrev SYS_FEAT1 : Nat := 0x14
abbrev SYS_FEAT1_ASH_MAX : Fld := ⟨SYS_FEAT1, 27, 24⟩
abbrev SYS_FEAT1_AUDIO : Fld := ⟨SYS_FEAT1, 23, 16⟩
abbrev SYS_FEAT1_FLUE_HF : Fld := ⟨SYS_FEAT1, 15, 15⟩
abbrev SYS_FEAT1_FLUE_F1 : Fld := ⟨SYS_FEAT1, 14, 14⟩
abbrev SYS_FEAT1_FLUE_F0 : Fld := ⟨SYS_FEAT1, 13, 13⟩
abbrev SYS_FEAT1_SMOKE : Fld := ⟨SYS_FEAT1, 12, 12⟩
abbrev SYS_FEAT1_EMBER : Fld := ⟨SYS_FEAT1, 11, 11⟩
/-- R83. -/
abbrev SYS_DEVID : Nat := 0x20
abbrev SYS_DEVID_DEVID : Fld := ⟨SYS_DEVID, 25, 16⟩
abbrev SYS_DEVID_SYSID : Fld := ⟨SYS_DEVID, 15, 0⟩
/-- R64. -/
abbrev SYS_COMMIT : Nat := 0x40
abbrev SYS_COMMIT_TAG : Fld := ⟨SYS_COMMIT, 31, 24⟩
abbrev SYS_COMMIT_TIMED : Fld := ⟨SYS_COMMIT, 16, 16⟩
abbrev SYS_COMMIT_MASK : Fld := ⟨SYS_COMMIT, 15, 0⟩
/-- R64. -/
abbrev SYS_CMTSTAT : Nat := 0x44
abbrev SYS_CMTSTAT_TAG : Fld := ⟨SYS_CMTSTAT, 31, 24⟩
abbrev SYS_CMTSTAT_TPEND : Fld := ⟨SYS_CMTSTAT, 18, 18⟩
abbrev SYS_CMTSTAT_ERR : Fld := ⟨SYS_CMTSTAT, 17, 17⟩
abbrev SYS_CMTSTAT_OVL : Fld := ⟨SYS_CMTSTAT, 16, 16⟩
abbrev SYS_CMTSTAT_BUSY : Fld := ⟨SYS_CMTSTAT, 15, 0⟩
/-- R66. -/
abbrev SYS_IMMED : Nat := 0x48
abbrev SYS_IMMED_IMMED : Fld := ⟨SYS_IMMED, 16, 0⟩
/-- R64. -/
abbrev SYS_CMTTIME_LO : Nat := 0x50
abbrev SYS_CMTTIME_LO_TIME : Fld := ⟨SYS_CMTTIME_LO, 31, 0⟩
/-- R64. -/
abbrev SYS_CMTTIME_HI : Nat := 0x54
abbrev SYS_CMTTIME_HI_TIME : Fld := ⟨SYS_CMTTIME_HI, 31, 0⟩
/-- R83. -/
abbrev SYS_EVT : Nat := 0x80
abbrev SYS_EVT_SEQ : Fld := ⟨SYS_EVT, 31, 24⟩
abbrev SYS_EVT_RSTEVT : Fld := ⟨SYS_EVT, 10, 10⟩
abbrev SYS_EVT_CLKCHG : Fld := ⟨SYS_EVT, 9, 9⟩
abbrev SYS_EVT_THERMW : Fld := ⟨SYS_EVT, 8, 8⟩
abbrev SYS_EVT_PCIEERR : Fld := ⟨SYS_EVT, 7, 7⟩
abbrev SYS_EVT_SPIABORT : Fld := ⟨SYS_EVT, 6, 6⟩
abbrev SYS_EVT_SPICRC : Fld := ⟨SYS_EVT, 5, 5⟩
abbrev SYS_EVT_ALIGN : Fld := ⟨SYS_EVT, 4, 4⟩
abbrev SYS_EVT_PRIV : Fld := ⟨SYS_EVT, 3, 3⟩
abbrev SYS_EVT_CMTOVL : Fld := ⟨SYS_EVT, 2, 2⟩
abbrev SYS_EVT_CMTREJ : Fld := ⟨SYS_EVT, 1, 1⟩
abbrev SYS_EVT_CMTDONE : Fld := ⟨SYS_EVT, 0, 0⟩
/-- R83. -/
abbrev SYS_EVT_EN : Nat := 0x84
abbrev SYS_EVT_EN_RSTEVT : Fld := ⟨SYS_EVT_EN, 10, 10⟩
abbrev SYS_EVT_EN_CLKCHG : Fld := ⟨SYS_EVT_EN, 9, 9⟩
abbrev SYS_EVT_EN_THERMW : Fld := ⟨SYS_EVT_EN, 8, 8⟩
abbrev SYS_EVT_EN_PCIEERR : Fld := ⟨SYS_EVT_EN, 7, 7⟩
abbrev SYS_EVT_EN_SPIABORT : Fld := ⟨SYS_EVT_EN, 6, 6⟩
abbrev SYS_EVT_EN_SPICRC : Fld := ⟨SYS_EVT_EN, 5, 5⟩
abbrev SYS_EVT_EN_ALIGN : Fld := ⟨SYS_EVT_EN, 4, 4⟩
abbrev SYS_EVT_EN_PRIV : Fld := ⟨SYS_EVT_EN, 3, 3⟩
abbrev SYS_EVT_EN_CMTOVL : Fld := ⟨SYS_EVT_EN, 2, 2⟩
abbrev SYS_EVT_EN_CMTREJ : Fld := ⟨SYS_EVT_EN, 1, 1⟩
abbrev SYS_EVT_EN_CMTDONE : Fld := ⟨SYS_EVT_EN, 0, 0⟩
/-- R36. -/
abbrev SYS_MARGIN : Nat := 0x88
abbrev SYS_MARGIN_SPARES : Fld := ⟨SYS_MARGIN, 31, 24⟩
abbrev SYS_MARGIN_RETIRED : Fld := ⟨SYS_MARGIN, 23, 16⟩
abbrev SYS_MARGIN_LDPC_OK : Fld := ⟨SYS_MARGIN, 15, 11⟩
abbrev SYS_MARGIN_TRELLIS_OK : Fld := ⟨SYS_MARGIN, 10, 6⟩
abbrev SYS_MARGIN_CORES_OK : Fld := ⟨SYS_MARGIN, 5, 4⟩
abbrev SYS_MARGIN_STANDBY : Fld := ⟨SYS_MARGIN, 3, 3⟩
abbrev SYS_MARGIN_MIGR : Fld := ⟨SYS_MARGIN, 2, 2⟩
abbrev SYS_MARGIN_INTACT : Fld := ⟨SYS_MARGIN, 0, 0⟩
/-- R84. -/
abbrev SYS_VEC_STAT : Nat := 0x90
abbrev SYS_VEC_STAT_PEND : Fld := ⟨SYS_VEC_STAT, 16, 0⟩
/-- R84. -/
abbrev SYS_VEC_EN : Nat := 0x94
abbrev SYS_VEC_EN_EN_HI : Fld := ⟨SYS_VEC_EN, 16, 6⟩
abbrev SYS_VEC_EN_EN_MIGR : Fld := ⟨SYS_VEC_EN, 5, 5⟩
abbrev SYS_VEC_EN_EN_LO : Fld := ⟨SYS_VEC_EN, 4, 0⟩
/-- R84. -/
abbrev SYS_IMOD : Nat := 0x98
abbrev SYS_IMOD_HOLD : Fld := ⟨SYS_IMOD, 15, 0⟩
/-- R84. -/
abbrev SYS_LANEPEND (i : Nat) : Nat := 0xA0 + i * 0x4
abbrev SYS_LANEPEND_LANE (i : Nat) : Fld := ⟨SYS_LANEPEND i, 31, 0⟩
/-- R84. -/
abbrev SYS_SPICFG : Nat := 0xC0
abbrev SYS_SPICFG_CRC : Fld := ⟨SYS_SPICFG, 8, 8⟩
abbrev SYS_SPICFG_DUMMY : Fld := ⟨SYS_SPICFG, 5, 0⟩
/-- R84. -/
abbrev SYS_SPISTAT : Nat := 0xC4
abbrev SYS_SPISTAT_CRCERR : Fld := ⟨SYS_SPISTAT, 31, 16⟩
abbrev SYS_SPISTAT_ABORTS : Fld := ⟨SYS_SPISTAT, 15, 0⟩
/-- R84. -/
abbrev SYS_TIME_LO : Nat := 0x100
abbrev SYS_TIME_LO_TIME : Fld := ⟨SYS_TIME_LO, 31, 0⟩
/-- R84. -/
abbrev SYS_TIME_HI : Nat := 0x104
abbrev SYS_TIME_HI_TIME : Fld := ⟨SYS_TIME_HI, 31, 0⟩
/-- R463. -/
abbrev CLK_STAT : Nat := 0x10000
abbrev CLK_STAT_NOREF : Fld := ⟨CLK_STAT, 8, 8⟩
abbrev CLK_STAT_SLEW : Fld := ⟨CLK_STAT, 7, 7⟩
abbrev CLK_STAT_CORELOCK : Fld := ⟨CLK_STAT, 6, 6⟩
abbrev CLK_STAT_REFOK : Fld := ⟨CLK_STAT, 5, 5⟩
abbrev CLK_STAT_XO : Fld := ⟨CLK_STAT, 4, 4⟩
abbrev CLK_STAT_REFSEL : Fld := ⟨CLK_STAT, 3, 2⟩
abbrev CLK_STAT_HOLDOVER : Fld := ⟨CLK_STAT, 1, 1⟩
abbrev CLK_STAT_LOCK : Fld := ⟨CLK_STAT, 0, 0⟩
/-- R463. -/
abbrev CLK_CFG : Nat := 0x10004
abbrev CLK_CFG_REFMODE : Fld := ⟨CLK_CFG, 31, 30⟩
abbrev CLK_CFG_SSC : Fld := ⟨CLK_CFG, 29, 28⟩
abbrev CLK_CFG_STEPK : Fld := ⟨CLK_CFG, 27, 24⟩
abbrev CLK_CFG_HOLDMAX : Fld := ⟨CLK_CFG, 23, 16⟩
abbrev CLK_CFG_REFQUAL : Fld := ⟨CLK_CFG, 15, 8⟩
abbrev CLK_CFG_PHTHR : Fld := ⟨CLK_CFG, 7, 4⟩
abbrev CLK_CFG_FSLEW : Fld := ⟨CLK_CFG, 3, 0⟩
/-- R463. -/
abbrev CLK_CMD : Nat := 0x10008
abbrev CLK_CMD_OP : Fld := ⟨CLK_CMD, 31, 24⟩
abbrev CLK_CMD_TAG : Fld := ⟨CLK_CMD, 15, 8⟩
/-- R463. -/
abbrev CLK_CMDSTAT : Nat := 0x1000C
abbrev CLK_CMDSTAT_OP : Fld := ⟨CLK_CMDSTAT, 31, 24⟩
abbrev CLK_CMDSTAT_STATUS : Fld := ⟨CLK_CMDSTAT, 23, 16⟩
abbrev CLK_CMDSTAT_TAG : Fld := ⟨CLK_CMDSTAT, 15, 8⟩
abbrev CLK_CMDSTAT_LOST : Fld := ⟨CLK_CMDSTAT, 1, 1⟩
abbrev CLK_CMDSTAT_BUSY : Fld := ⟨CLK_CMDSTAT, 0, 0⟩
/-- R463. -/
abbrev CLK_PHTGT : Nat := 0x10010
abbrev CLK_PHTGT_TARGET : Fld := ⟨CLK_PHTGT, 31, 0⟩
/-- R463. -/
abbrev CLK_PHASE : Nat := 0x10014
abbrev CLK_PHASE_PHASE : Fld := ⟨CLK_PHASE, 31, 0⟩
/-- R463. -/
abbrev CLK_BOUT : Nat := 0x10018
abbrev CLK_BOUT_B : Fld := ⟨CLK_BOUT, 31, 0⟩
/-- R463. -/
abbrev CLK_BOABS : Nat := 0x1001C
abbrev CLK_BOABS_ABS : Fld := ⟨CLK_BOABS, 31, 0⟩
/-- R463. -/
abbrev CLK_OUT_CFG (i : Nat) : Nat := 0x10020 + i * 0x8
abbrev CLK_OUT_CFG_EN (i : Nat) : Fld := ⟨CLK_OUT_CFG i, 31, 31⟩
abbrev CLK_OUT_CFG_OSTEPK (i : Nat) : Fld := ⟨CLK_OUT_CFG i, 27, 24⟩
abbrev CLK_OUT_CFG_DIV (i : Nat) : Fld := ⟨CLK_OUT_CFG i, 15, 0⟩
/-- R463. -/
abbrev CLK_OUT_PH (i : Nat) : Nat := 0x10024 + i * 0x8
abbrev CLK_OUT_PH_TARGET (i : Nat) : Fld := ⟨CLK_OUT_PH i, 31, 0⟩
/-- R463. -/
abbrev CLK_TIMECFG : Nat := 0x10040
abbrev CLK_TIMECFG_SRC : Fld := ⟨CLK_TIMECFG, 31, 30⟩
abbrev CLK_TIMECFG_SLEW : Fld := ⟨CLK_TIMECFG, 24, 16⟩
/-- R463. -/
abbrev CLK_TRIM : Nat := 0x10044
abbrev CLK_TRIM_TRIM : Fld := ⟨CLK_TRIM, 31, 0⟩
/-- R463. -/
abbrev CLK_TRIMUSE : Nat := 0x10048
abbrev CLK_TRIMUSE_TRIM : Fld := ⟨CLK_TRIMUSE, 31, 0⟩
/-- R463. -/
abbrev CLK_TSET_LO : Nat := 0x10050
/-- R463. -/
abbrev CLK_TSET_HI : Nat := 0x10054
/-- R463. -/
abbrev CLK_TOFS_LO : Nat := 0x10058
/-- R463. -/
abbrev CLK_TOFS_HI : Nat := 0x1005C
/-- R463. -/
abbrev CLK_TSTAT : Nat := 0x10060
abbrev CLK_TSTAT_SLEWING : Fld := ⟨CLK_TSTAT, 31, 31⟩
abbrev CLK_TSTAT_PPSLOCK : Fld := ⟨CLK_TSTAT, 30, 30⟩
abbrev CLK_TSTAT_REMAIN : Fld := ⟨CLK_TSTAT, 29, 0⟩
/-- R463. -/
abbrev CLK_REFMEAS : Nat := 0x10070
abbrev CLK_REFMEAS_VALID : Fld := ⟨CLK_REFMEAS, 31, 31⟩
abbrev CLK_REFMEAS_VSXO : Fld := ⟨CLK_REFMEAS, 30, 30⟩
abbrev CLK_REFMEAS_OFFSET : Fld := ⟨CLK_REFMEAS, 29, 0⟩
/-- R463. -/
abbrev CLK_CNT : Nat := 0x10078
abbrev CLK_CNT_GLITCH : Fld := ⟨CLK_CNT, 31, 16⟩
abbrev CLK_CNT_PPSREJ : Fld := ⟨CLK_CNT, 15, 8⟩
abbrev CLK_CNT_SWITCHES : Fld := ⟨CLK_CNT, 7, 0⟩
/-- R463. -/
abbrev CLK_EVT : Nat := 0x10080
abbrev CLK_EVT_SEQ : Fld := ⟨CLK_EVT, 31, 24⟩
abbrev CLK_EVT_REFBAD : Fld := ⟨CLK_EVT, 13, 13⟩
abbrev CLK_EVT_LOCKLOST : Fld := ⟨CLK_EVT, 12, 12⟩
abbrev CLK_EVT_CMDDONE : Fld := ⟨CLK_EVT, 11, 11⟩
abbrev CLK_EVT_PPSLOCKCHG : Fld := ⟨CLK_EVT, 10, 10⟩
abbrev CLK_EVT_TSTEP : Fld := ⟨CLK_EVT, 9, 9⟩
abbrev CLK_EVT_OUTDONE : Fld := ⟨CLK_EVT, 8, 8⟩
abbrev CLK_EVT_PHDONE : Fld := ⟨CLK_EVT, 7, 7⟩
abbrev CLK_EVT_SLEWDONE : Fld := ⟨CLK_EVT, 6, 6⟩
abbrev CLK_EVT_XOFAIL : Fld := ⟨CLK_EVT, 5, 5⟩
abbrev CLK_EVT_GLITCH : Fld := ⟨CLK_EVT, 4, 4⟩
abbrev CLK_EVT_HOLDEXT : Fld := ⟨CLK_EVT, 3, 3⟩
abbrev CLK_EVT_XOSWITCH : Fld := ⟨CLK_EVT, 2, 2⟩
abbrev CLK_EVT_REFBACK : Fld := ⟨CLK_EVT, 1, 1⟩
abbrev CLK_EVT_REFLOST : Fld := ⟨CLK_EVT, 0, 0⟩
/-- R463. -/
abbrev CLK_EVT_EN : Nat := 0x10084
abbrev CLK_EVT_EN_REFBAD : Fld := ⟨CLK_EVT_EN, 13, 13⟩
abbrev CLK_EVT_EN_LOCKLOST : Fld := ⟨CLK_EVT_EN, 12, 12⟩
abbrev CLK_EVT_EN_CMDDONE : Fld := ⟨CLK_EVT_EN, 11, 11⟩
abbrev CLK_EVT_EN_PPSLOCKCHG : Fld := ⟨CLK_EVT_EN, 10, 10⟩
abbrev CLK_EVT_EN_TSTEP : Fld := ⟨CLK_EVT_EN, 9, 9⟩
abbrev CLK_EVT_EN_OUTDONE : Fld := ⟨CLK_EVT_EN, 8, 8⟩
abbrev CLK_EVT_EN_PHDONE : Fld := ⟨CLK_EVT_EN, 7, 7⟩
abbrev CLK_EVT_EN_SLEWDONE : Fld := ⟨CLK_EVT_EN, 6, 6⟩
abbrev CLK_EVT_EN_XOFAIL : Fld := ⟨CLK_EVT_EN, 5, 5⟩
abbrev CLK_EVT_EN_GLITCH : Fld := ⟨CLK_EVT_EN, 4, 4⟩
abbrev CLK_EVT_EN_HOLDEXT : Fld := ⟨CLK_EVT_EN, 3, 3⟩
abbrev CLK_EVT_EN_XOSWITCH : Fld := ⟨CLK_EVT_EN, 2, 2⟩
abbrev CLK_EVT_EN_REFBACK : Fld := ⟨CLK_EVT_EN, 1, 1⟩
abbrev CLK_EVT_EN_REFLOST : Fld := ⟨CLK_EVT_EN, 0, 0⟩
/-- R56. -/
abbrev CLK_CGRP : Nat := 0x10FFC
abbrev CLK_CGRP_PEND : Fld := ⟨CLK_CGRP, 31, 31⟩
abbrev CLK_CGRP_REJ : Fld := ⟨CLK_CGRP, 30, 30⟩
abbrev CLK_CGRP_GROUP : Fld := ⟨CLK_CGRP, 3, 0⟩
/-- R493. -/
abbrev RST_CAUSE : Nat := 0x20000
abbrev RST_CAUSE_LEVEL : Fld := ⟨RST_CAUSE, 31, 28⟩
abbrev RST_CAUSE_DETAIL : Fld := ⟨RST_CAUSE, 23, 16⟩
abbrev RST_CAUSE_WDCOUNT : Fld := ⟨RST_CAUSE, 15, 8⟩
abbrev RST_CAUSE_CAUSE : Fld := ⟨RST_CAUSE, 7, 0⟩
/-- R493. -/
abbrev RST_CMD : Nat := 0x20004
abbrev RST_CMD_KEY : Fld := ⟨RST_CMD, 31, 16⟩
abbrev RST_CMD_LEVEL : Fld := ⟨RST_CMD, 7, 0⟩
/-- R493. -/
abbrev RST_PWR : Nat := 0x20008
abbrev RST_PWR_KEY : Fld := ⟨RST_PWR, 31, 16⟩
abbrev RST_PWR_FORCE : Fld := ⟨RST_PWR, 1, 1⟩
abbrev RST_PWR_BANK : Fld := ⟨RST_PWR, 0, 0⟩
/-- R493. -/
abbrev RST_STAT : Nat := 0x2000C
abbrev RST_STAT_STATE : Fld := ⟨RST_STAT, 31, 28⟩
abbrev RST_STAT_KSTEP : Fld := ⟨RST_STAT, 27, 24⟩
abbrev RST_STAT_MINIMAL : Fld := ⟨RST_STAT, 23, 23⟩
abbrev RST_STAT_PWRREF : Fld := ⟨RST_STAT, 19, 16⟩
abbrev RST_STAT_TEMP : Fld := ⟨RST_STAT, 15, 0⟩
/-- R493. -/
abbrev RST_BLK : Nat := 0x20010
abbrev RST_BLK_HOLD : Fld := ⟨RST_BLK, 16, 1⟩
/-- R493. -/
abbrev RST_MODE : Nat := 0x20014
abbrev RST_MODE_ISOLATE : Fld := ⟨RST_MODE, 16, 1⟩
/-- R493. -/
abbrev RST_PEND : Nat := 0x20018
abbrev RST_PEND_PEND : Fld := ⟨RST_PEND, 16, 1⟩
/-- R493. -/
abbrev RST_STRAP : Nat := 0x20020
abbrev RST_STRAP_RAW2 : Fld := ⟨RST_STRAP, 27, 24⟩
abbrev RST_STRAP_RAW1 : Fld := ⟨RST_STRAP, 23, 20⟩
abbrev RST_STRAP_RAW0 : Fld := ⟨RST_STRAP, 19, 16⟩
abbrev RST_STRAP_MISMATCH : Fld := ⟨RST_STRAP, 4, 4⟩
abbrev RST_STRAP_CODE : Fld := ⟨RST_STRAP, 3, 0⟩
/-- R493. -/
abbrev RST_MNTCMD : Nat := 0x20030
abbrev RST_MNTCMD_OP : Fld := ⟨RST_MNTCMD, 31, 24⟩
abbrev RST_MNTCMD_ARG : Fld := ⟨RST_MNTCMD, 23, 16⟩
abbrev RST_MNTCMD_TAG : Fld := ⟨RST_MNTCMD, 15, 8⟩
/-- R493. -/
abbrev RST_MNTSTAT : Nat := 0x20034
abbrev RST_MNTSTAT_STATUS : Fld := ⟨RST_MNTSTAT, 31, 24⟩
abbrev RST_MNTSTAT_SOURCE : Fld := ⟨RST_MNTSTAT, 23, 20⟩
abbrev RST_MNTSTAT_TAG : Fld := ⟨RST_MNTSTAT, 15, 8⟩
abbrev RST_MNTSTAT_LOST : Fld := ⟨RST_MNTSTAT, 1, 1⟩
abbrev RST_MNTSTAT_BUSY : Fld := ⟨RST_MNTSTAT, 0, 0⟩
/-- R493. -/
abbrev RST_WAKECFG : Nat := 0x20040
abbrev RST_WAKECFG_PWROFF : Fld := ⟨RST_WAKECFG, 2, 2⟩
abbrev RST_WAKECFG_WAKEN : Fld := ⟨RST_WAKECFG, 1, 1⟩
abbrev RST_WAKECFG_SPIWAKE : Fld := ⟨RST_WAKECFG, 0, 0⟩
/-- R493. -/
abbrev RST_OTPCMD : Nat := 0x20050
abbrev RST_OTPCMD_KEY : Fld := ⟨RST_OTPCMD, 31, 16⟩
abbrev RST_OTPCMD_WORD : Fld := ⟨RST_OTPCMD, 5, 0⟩
/-- R493. -/
abbrev RST_OTPDATA : Nat := 0x20054
/-- R493. -/
abbrev RST_OTPSTAT : Nat := 0x20058
abbrev RST_OTPSTAT_STATUS : Fld := ⟨RST_OTPSTAT, 31, 24⟩
abbrev RST_OTPSTAT_BUSY : Fld := ⟨RST_OTPSTAT, 0, 0⟩
/-- R493. -/
abbrev RST_EVT : Nat := 0x20060
abbrev RST_EVT_SEQ : Fld := ⟨RST_EVT, 31, 24⟩
abbrev RST_EVT_PWRREF : Fld := ⟨RST_EVT, 3, 3⟩
abbrev RST_EVT_OTPDONE : Fld := ⟨RST_EVT, 2, 2⟩
abbrev RST_EVT_MNTFAIL : Fld := ⟨RST_EVT, 1, 1⟩
abbrev RST_EVT_MNTDONE : Fld := ⟨RST_EVT, 0, 0⟩
/-- R493. -/
abbrev RST_EVT_EN : Nat := 0x20064
abbrev RST_EVT_EN_PWRREF : Fld := ⟨RST_EVT_EN, 3, 3⟩
abbrev RST_EVT_EN_OTPDONE : Fld := ⟨RST_EVT_EN, 2, 2⟩
abbrev RST_EVT_EN_MNTFAIL : Fld := ⟨RST_EVT_EN, 1, 1⟩
abbrev RST_EVT_EN_MNTDONE : Fld := ⟨RST_EVT_EN, 0, 0⟩
/-- R285. -/
abbrev FWT_CFG : Nat := 0x30000
abbrev FWT_CFG_EN : Fld := ⟨FWT_CFG, 31, 31⟩
abbrev FWT_CFG_PINMODE : Fld := ⟨FWT_CFG, 30, 30⟩
abbrev FWT_CFG_RELAYRX : Fld := ⟨FWT_CFG, 29, 29⟩
abbrev FWT_CFG_HOLD : Fld := ⟨FWT_CFG, 23, 16⟩
abbrev FWT_CFG_DEFACT : Fld := ⟨FWT_CFG, 7, 3⟩
/-- R285. -/
abbrev FWT_LMASK (i : Nat) : Nat := 0x30010 + i * 0x4
abbrev FWT_LMASK_LANE (i : Nat) : Fld := ⟨FWT_LMASK i, 31, 0⟩
/-- R285. -/
abbrev FWT_ACK : Nat := 0x30020
abbrev FWT_ACK_ALL : Fld := ⟨FWT_ACK, 31, 31⟩
abbrev FWT_ACK_CLEAR : Fld := ⟨FWT_ACK, 30, 30⟩
abbrev FWT_ACK_ENTRY : Fld := ⟨FWT_ACK, 4, 0⟩
/-- R285. -/
abbrev FWT_STAT : Nat := 0x30024
abbrev FWT_STAT_PIN : Fld := ⟨FWT_STAT, 31, 31⟩
abbrev FWT_STAT_UNACK : Fld := ⟨FWT_STAT, 30, 30⟩
abbrev FWT_STAT_ACTIVE : Fld := ⟨FWT_STAT, 29, 24⟩
abbrev FWT_STAT_DROPS : Fld := ⟨FWT_STAT, 23, 16⟩
abbrev FWT_STAT_MASKED : Fld := ⟨FWT_STAT, 15, 0⟩
/-- R285. -/
abbrev FWT_EVT : Nat := 0x30030
abbrev FWT_EVT_SEQ : Fld := ⟨FWT_EVT, 31, 24⟩
abbrev FWT_EVT_LOGWRAP : Fld := ⟨FWT_EVT, 8, 8⟩
abbrev FWT_EVT_PAGEFAIL : Fld := ⟨FWT_EVT, 7, 7⟩
abbrev FWT_EVT_FIFOOVF : Fld := ⟨FWT_EVT, 6, 6⟩
abbrev FWT_EVT_TBLFULL : Fld := ⟨FWT_EVT, 5, 5⟩
abbrev FWT_EVT_UNCONFIRMED : Fld := ⟨FWT_EVT, 4, 4⟩
abbrev FWT_EVT_RELAYIN : Fld := ⟨FWT_EVT, 3, 3⟩
abbrev FWT_EVT_END : Fld := ⟨FWT_EVT, 2, 2⟩
abbrev FWT_EVT_UPDATE : Fld := ⟨FWT_EVT, 1, 1⟩
abbrev FWT_EVT_NEWALERT : Fld := ⟨FWT_EVT, 0, 0⟩
/-- R285. -/
abbrev FWT_EVT_EN : Nat := 0x30034
abbrev FWT_EVT_EN_LOGWRAP : Fld := ⟨FWT_EVT_EN, 8, 8⟩
abbrev FWT_EVT_EN_PAGEFAIL : Fld := ⟨FWT_EVT_EN, 7, 7⟩
abbrev FWT_EVT_EN_FIFOOVF : Fld := ⟨FWT_EVT_EN, 6, 6⟩
abbrev FWT_EVT_EN_TBLFULL : Fld := ⟨FWT_EVT_EN, 5, 5⟩
abbrev FWT_EVT_EN_UNCONFIRMED : Fld := ⟨FWT_EVT_EN, 4, 4⟩
abbrev FWT_EVT_EN_RELAYIN : Fld := ⟨FWT_EVT_EN, 3, 3⟩
abbrev FWT_EVT_EN_END : Fld := ⟨FWT_EVT_EN, 2, 2⟩
abbrev FWT_EVT_EN_UPDATE : Fld := ⟨FWT_EVT_EN, 1, 1⟩
abbrev FWT_EVT_EN_NEWALERT : Fld := ⟨FWT_EVT_EN, 0, 0⟩
/-- R285. -/
abbrev FWT_FRMCFG : Nat := 0x30040
abbrev FWT_FRMCFG_F0 : Fld := ⟨FWT_FRMCFG, 31, 31⟩
abbrev FWT_FRMCFG_F1 : Fld := ⟨FWT_FRMCFG, 30, 30⟩
abbrev FWT_FRMCFG_HF : Fld := ⟨FWT_FRMCFG, 29, 29⟩
abbrev FWT_FRMCFG_REPEAT : Fld := ⟨FWT_FRMCFG, 27, 24⟩
abbrev FWT_FRMCFG_REPINT : Fld := ⟨FWT_FRMCFG, 15, 0⟩
/-- R285. -/
abbrev FWT_PAGECFG : Nat := 0x30044
abbrev FWT_PAGECFG_ENDPAGE : Fld := ⟨FWT_PAGECFG, 16, 16⟩
abbrev FWT_PAGECFG_DEADLINE : Fld := ⟨FWT_PAGECFG, 15, 0⟩
/-- R285. -/
abbrev FWT_RLYCNT : Nat := 0x30050
abbrev FWT_RLYCNT_ACCEPTED : Fld := ⟨FWT_RLYCNT, 31, 16⟩
abbrev FWT_RLYCNT_DROPPED : Fld := ⟨FWT_RLYCNT, 15, 0⟩
/-- R285. -/
abbrev FWT_LOGPTR : Nat := 0x30060
abbrev FWT_LOGPTR_COUNT : Fld := ⟨FWT_LOGPTR, 31, 16⟩
abbrev FWT_LOGPTR_INDEX : Fld := ⟨FWT_LOGPTR, 7, 0⟩
/-- R285. -/
abbrev FWT_LOGRD : Nat := 0x30064
abbrev FWT_LOGRD_COUNT : Fld := ⟨FWT_LOGRD, 31, 16⟩
abbrev FWT_LOGRD_INDEX : Fld := ⟨FWT_LOGRD, 7, 0⟩
/-- R285. -/
abbrev FWT_TW_CFG (i : Nat) : Nat := 0x30080 + i * 0x10
abbrev FWT_TW_CFG_KIND (i : Nat) : Fld := ⟨FWT_TW_CFG i, 31, 30⟩
abbrev FWT_TW_CFG_LANE (i : Nat) : Fld := ⟨FWT_TW_CFG i, 29, 23⟩
abbrev FWT_TW_CFG_WORD (i : Nat) : Fld := ⟨FWT_TW_CFG i, 22, 16⟩
abbrev FWT_TW_CFG_TAG (i : Nat) : Fld := ⟨FWT_TW_CFG i, 11, 0⟩
/-- R285. -/
abbrev FWT_TW_MASK (i : Nat) : Nat := 0x30084 + i * 0x10
abbrev FWT_TW_MASK_MASK (i : Nat) : Fld := ⟨FWT_TW_MASK i, 31, 0⟩
/-- R285. -/
abbrev FWT_TW_VAL (i : Nat) : Nat := 0x30088 + i * 0x10
abbrev FWT_TW_VAL_VAL (i : Nat) : Fld := ⟨FWT_TW_VAL i, 31, 0⟩
/-- R285. -/
abbrev FWT_TW_TRIG (i : Nat) : Nat := 0x3008C + i * 0x10
abbrev FWT_TW_TRIG_WORD (i : Nat) : Fld := ⟨FWT_TW_TRIG i, 31, 0⟩
/-- R56. -/
abbrev FWT_CGRP : Nat := 0x30FFC
abbrev FWT_CGRP_PEND : Fld := ⟨FWT_CGRP, 31, 31⟩
abbrev FWT_CGRP_REJ : Fld := ⟨FWT_CGRP, 30, 30⟩
abbrev FWT_CGRP_GROUP : Fld := ⟨FWT_CGRP, 3, 0⟩
/-- R56. -/
abbrev FWT_TAG_CGRP : Nat := 0x31FFC
abbrev FWT_TAG_CGRP_PEND : Fld := ⟨FWT_TAG_CGRP, 31, 31⟩
abbrev FWT_TAG_CGRP_REJ : Fld := ⟨FWT_TAG_CGRP, 30, 30⟩
abbrev FWT_TAG_CGRP_GROUP : Fld := ⟨FWT_TAG_CGRP, 3, 0⟩
/-- R285. -/
abbrev FWT_TAG_W0 (i : Nat) : Nat := 0x31000 + i * 0x10
abbrev FWT_TAG_W0_VALID (i : Nat) : Fld := ⟨FWT_TAG_W0 i, 31, 31⟩
abbrev FWT_TAG_W0_TAG (i : Nat) : Fld := ⟨FWT_TAG_W0 i, 27, 16⟩
abbrev FWT_TAG_W0_TMASK (i : Nat) : Fld := ⟨FWT_TAG_W0 i, 11, 0⟩
/-- R285. -/
abbrev FWT_TAG_W1 (i : Nat) : Nat := 0x31004 + i * 0x10
abbrev FWT_TAG_W1_RACT (i : Nat) : Fld := ⟨FWT_TAG_W1 i, 23, 19⟩
abbrev FWT_TAG_W1_LACT (i : Nat) : Fld := ⟨FWT_TAG_W1 i, 15, 11⟩
abbrev FWT_TAG_W1_ACT (i : Nat) : Fld := ⟨FWT_TAG_W1 i, 7, 3⟩
abbrev FWT_TAG_W1_NOEND (i : Nat) : Fld := ⟨FWT_TAG_W1 i, 2, 2⟩
abbrev FWT_TAG_W1_PRIO (i : Nat) : Fld := ⟨FWT_TAG_W1 i, 1, 0⟩
/-- R285. -/
abbrev FWT_TAG_W2 (i : Nat) : Nat := 0x31008 + i * 0x10
abbrev FWT_TAG_W2_KEYMASK (i : Nat) : Fld := ⟨FWT_TAG_W2 i, 30, 0⟩
/-- R283. -/
abbrev FWT_LOG (i j : Nat) : Nat := 0x32000 + i * 0x20 + j * 0x4
/-- R285. -/
abbrev FWT_ACT_W0 (i : Nat) : Nat := 0x34000 + i * 0x10
abbrev FWT_ACT_W0_VALID (i : Nat) : Fld := ⟨FWT_ACT_W0 i, 31, 31⟩
abbrev FWT_ACT_W0_ENDED (i : Nat) : Fld := ⟨FWT_ACT_W0 i, 30, 30⟩
abbrev FWT_ACT_W0_ACKED (i : Nat) : Fld := ⟨FWT_ACT_W0 i, 29, 29⟩
abbrev FWT_ACT_W0_LATE (i : Nat) : Fld := ⟨FWT_ACT_W0 i, 28, 28⟩
abbrev FWT_ACT_W0_RELAY (i : Nat) : Fld := ⟨FWT_ACT_W0 i, 27, 27⟩
abbrev FWT_ACT_W0_UNCONF (i : Nat) : Fld := ⟨FWT_ACT_W0 i, 26, 26⟩
abbrev FWT_ACT_W0_PRIO (i : Nat) : Fld := ⟨FWT_ACT_W0 i, 25, 24⟩
abbrev FWT_ACT_W0_LANE (i : Nat) : Fld := ⟨FWT_ACT_W0 i, 22, 16⟩
abbrev FWT_ACT_W0_TAG (i : Nat) : Fld := ⟨FWT_ACT_W0 i, 11, 0⟩
/-- R285. -/
abbrev FWT_ACT_W1 (i : Nat) : Nat := 0x34004 + i * 0x10
abbrev FWT_ACT_W1_WORD (i : Nat) : Fld := ⟨FWT_ACT_W1 i, 31, 0⟩
/-- R285. -/
abbrev FWT_ACT_W2 (i : Nat) : Nat := 0x34008 + i * 0x10
abbrev FWT_ACT_W2_TIME (i : Nat) : Fld := ⟨FWT_ACT_W2 i, 31, 0⟩
/-- R285. -/
abbrev FWT_ACT_W3 (i : Nat) : Nat := 0x3400C + i * 0x10
abbrev FWT_ACT_W3_DUPS (i : Nat) : Fld := ⟨FWT_ACT_W3 i, 31, 16⟩
abbrev FWT_ACT_W3_PEER (i : Nat) : Fld := ⟨FWT_ACT_W3 i, 15, 0⟩
/-- R128. -/
abbrev CAP_ROLE : Nat := 0x40000
abbrev CAP_ROLE_CORE_A : Fld := ⟨CAP_ROLE, 9, 8⟩
abbrev CAP_ROLE_CORE_B : Fld := ⟨CAP_ROLE, 7, 6⟩
abbrev CAP_ROLE_CORE_SB : Fld := ⟨CAP_ROLE, 5, 4⟩
abbrev CAP_ROLE_SB_SRC : Fld := ⟨CAP_ROLE, 3, 2⟩
/-- R128. -/
abbrev CAP_CMD : Nat := 0x40004
abbrev CAP_CMD_OP : Fld := ⟨CAP_CMD, 31, 24⟩
abbrev CAP_CMD_ARG : Fld := ⟨CAP_CMD, 23, 16⟩
abbrev CAP_CMD_TAG : Fld := ⟨CAP_CMD, 15, 8⟩
/-- R128. -/
abbrev CAP_CMDSTAT : Nat := 0x40008
abbrev CAP_CMDSTAT_OP : Fld := ⟨CAP_CMDSTAT, 31, 24⟩
abbrev CAP_CMDSTAT_STATUS : Fld := ⟨CAP_CMDSTAT, 23, 16⟩
abbrev CAP_CMDSTAT_TAG : Fld := ⟨CAP_CMDSTAT, 15, 8⟩
abbrev CAP_CMDSTAT_LOST : Fld := ⟨CAP_CMDSTAT, 1, 1⟩
abbrev CAP_CMDSTAT_BUSY : Fld := ⟨CAP_CMDSTAT, 0, 0⟩
/-- R128. -/
abbrev CAP_ROTCFG : Nat := 0x4000C
abbrev CAP_ROTCFG_AUTO : Fld := ⟨CAP_ROTCFG, 16, 16⟩
abbrev CAP_ROTCFG_PERIOD : Fld := ⟨CAP_ROTCFG, 15, 0⟩
/-- R128. -/
abbrev CAP_ROTSTAT : Nat := 0x40010
abbrev CAP_ROTSTAT_STATUS : Fld := ⟨CAP_ROTSTAT, 31, 24⟩
abbrev CAP_ROTSTAT_STEP : Fld := ⟨CAP_ROTSTAT, 23, 20⟩
abbrev CAP_ROTSTAT_IN : Fld := ⟨CAP_ROTSTAT, 19, 18⟩
abbrev CAP_ROTSTAT_OUT : Fld := ⟨CAP_ROTSTAT, 17, 16⟩
abbrev CAP_ROTSTAT_COUNT : Fld := ⟨CAP_ROTSTAT, 15, 0⟩
/-- R128. -/
abbrev CAP_ROTRES : Nat := 0x40014
abbrev CAP_ROTRES_GAIN : Fld := ⟨CAP_ROTRES, 31, 22⟩
abbrev CAP_ROTRES_PHASE : Fld := ⟨CAP_ROTRES, 21, 12⟩
abbrev CAP_ROTRES_DELAY : Fld := ⟨CAP_ROTRES, 11, 0⟩
/-- R128. -/
abbrev CAP_ROTTIME_LO : Nat := 0x40018
abbrev CAP_ROTTIME_LO_TIME : Fld := ⟨CAP_ROTTIME_LO, 31, 0⟩
/-- R128. -/
abbrev CAP_ROTTIME_HI : Nat := 0x4001C
abbrev CAP_ROTTIME_HI_TIME : Fld := ⟨CAP_ROTTIME_HI, 31, 0⟩
/-- R128. -/
abbrev CAP_BLKCFG : Nat := 0x40020
abbrev CAP_BLKCFG_STUCK : Fld := ⟨CAP_BLKCFG, 31, 24⟩
abbrev CAP_BLKCFG_POST_B : Fld := ⟨CAP_BLKCFG, 23, 16⟩
abbrev CAP_BLKCFG_POST_A : Fld := ⟨CAP_BLKCFG, 15, 8⟩
abbrev CAP_BLKCFG_POL_B : Fld := ⟨CAP_BLKCFG, 3, 3⟩
abbrev CAP_BLKCFG_POL_A : Fld := ⟨CAP_BLKCFG, 2, 2⟩
abbrev CAP_BLKCFG_EN_B : Fld := ⟨CAP_BLKCFG, 1, 1⟩
abbrev CAP_BLKCFG_EN_A : Fld := ⟨CAP_BLKCFG, 0, 0⟩
/-- R128. -/
abbrev CAP_BLKCNT (i : Nat) : Nat := 0x40024 + i * 0x4
abbrev CAP_BLKCNT_FRAMES (i : Nat) : Fld := ⟨CAP_BLKCNT i, 31, 0⟩
/-- R128. -/
abbrev CAP_EVT : Nat := 0x40030
abbrev CAP_EVT_SEQ : Fld := ⟨CAP_EVT, 31, 24⟩
abbrev CAP_EVT_SNAPDONE : Fld := ⟨CAP_EVT, 10, 10⟩
abbrev CAP_EVT_SNAPTRIG : Fld := ⟨CAP_EVT, 9, 9⟩
abbrev CAP_EVT_BLKSTUCK_B : Fld := ⟨CAP_EVT, 8, 8⟩
abbrev CAP_EVT_BLKSTUCK_A : Fld := ⟨CAP_EVT, 7, 7⟩
abbrev CAP_EVT_OVERRANGE : Fld := ⟨CAP_EVT, 6, 6⟩
abbrev CAP_EVT_STANDBYCHG : Fld := ⟨CAP_EVT, 5, 5⟩
abbrev CAP_EVT_COREFAIL : Fld := ⟨CAP_EVT, 4, 4⟩
abbrev CAP_EVT_CORESUSPECT : Fld := ⟨CAP_EVT, 3, 3⟩
abbrev CAP_EVT_ROTABORT : Fld := ⟨CAP_EVT, 2, 2⟩
abbrev CAP_EVT_ROTDONE : Fld := ⟨CAP_EVT, 1, 1⟩
abbrev CAP_EVT_CMDDONE : Fld := ⟨CAP_EVT, 0, 0⟩
/-- R128. -/
abbrev CAP_EVT_EN : Nat := 0x40034
abbrev CAP_EVT_EN_SNAPDONE : Fld := ⟨CAP_EVT_EN, 10, 10⟩
abbrev CAP_EVT_EN_SNAPTRIG : Fld := ⟨CAP_EVT_EN, 9, 9⟩
abbrev CAP_EVT_EN_BLKSTUCK_B : Fld := ⟨CAP_EVT_EN, 8, 8⟩
abbrev CAP_EVT_EN_BLKSTUCK_A : Fld := ⟨CAP_EVT_EN, 7, 7⟩
abbrev CAP_EVT_EN_OVERRANGE : Fld := ⟨CAP_EVT_EN, 6, 6⟩
abbrev CAP_EVT_EN_STANDBYCHG : Fld := ⟨CAP_EVT_EN, 5, 5⟩
abbrev CAP_EVT_EN_COREFAIL : Fld := ⟨CAP_EVT_EN, 4, 4⟩
abbrev CAP_EVT_EN_CORESUSPECT : Fld := ⟨CAP_EVT_EN, 3, 3⟩
abbrev CAP_EVT_EN_ROTABORT : Fld := ⟨CAP_EVT_EN, 2, 2⟩
abbrev CAP_EVT_EN_ROTDONE : Fld := ⟨CAP_EVT_EN, 1, 1⟩
abbrev CAP_EVT_EN_CMDDONE : Fld := ⟨CAP_EVT_EN, 0, 0⟩
/-- R56. -/
abbrev CAP_CGRP : Nat := 0x40FFC
abbrev CAP_CGRP_PEND : Fld := ⟨CAP_CGRP, 31, 31⟩
abbrev CAP_CGRP_REJ : Fld := ⟨CAP_CGRP, 30, 30⟩
abbrev CAP_CGRP_GROUP : Fld := ⟨CAP_CGRP, 3, 0⟩
/-- R128. -/
abbrev CAP_CC_CTL (i : Nat) : Nat := 0x41000 + i * 0x1000
abbrev CAP_CC_CTL_TRACK (i : Nat) : Fld := ⟨CAP_CC_CTL i, 23, 23⟩
abbrev CAP_CC_CTL_GMAX (i : Nat) : Fld := ⟨CAP_CC_CTL i, 22, 16⟩
abbrev CAP_CC_CTL_ATT (i : Nat) : Fld := ⟨CAP_CC_CTL i, 9, 4⟩
abbrev CAP_CC_CTL_LNA (i : Nat) : Fld := ⟨CAP_CC_CTL i, 3, 2⟩
abbrev CAP_CC_CTL_MODE (i : Nat) : Fld := ⟨CAP_CC_CTL i, 1, 0⟩
/-- R128. -/
abbrev CAP_CC_AGC (i : Nat) : Nat := 0x41004 + i * 0x1000
abbrev CAP_CC_AGC_TARGET (i : Nat) : Fld := ⟨CAP_CC_AGC i, 31, 24⟩
abbrev CAP_CC_AGC_HYST (i : Nat) : Fld := ⟨CAP_CC_AGC i, 23, 20⟩
abbrev CAP_CC_AGC_CLIPN (i : Nat) : Fld := ⟨CAP_CC_AGC i, 19, 16⟩
abbrev CAP_CC_AGC_ATTACK (i : Nat) : Fld := ⟨CAP_CC_AGC i, 15, 15⟩
abbrev CAP_CC_AGC_DECAY (i : Nat) : Fld := ⟨CAP_CC_AGC i, 14, 8⟩
abbrev CAP_CC_AGC_HOLD (i : Nat) : Fld := ⟨CAP_CC_AGC i, 7, 0⟩
/-- R128. -/
abbrev CAP_CC_STAT (i : Nat) : Nat := 0x41008 + i * 0x1000
abbrev CAP_CC_STAT_STATE (i : Nat) : Fld := ⟨CAP_CC_STAT i, 31, 28⟩
abbrev CAP_CC_STAT_SRC (i : Nat) : Fld := ⟨CAP_CC_STAT i, 27, 26⟩
abbrev CAP_CC_STAT_STALE (i : Nat) : Fld := ⟨CAP_CC_STAT i, 25, 25⟩
abbrev CAP_CC_STAT_SUSPECT (i : Nat) : Fld := ⟨CAP_CC_STAT i, 24, 24⟩
abbrev CAP_CC_STAT_BLANKED (i : Nat) : Fld := ⟨CAP_CC_STAT i, 23, 23⟩
abbrev CAP_CC_STAT_FROZEN (i : Nat) : Fld := ⟨CAP_CC_STAT i, 22, 22⟩
abbrev CAP_CC_STAT_LNA (i : Nat) : Fld := ⟨CAP_CC_STAT i, 21, 20⟩
abbrev CAP_CC_STAT_ATT (i : Nat) : Fld := ⟨CAP_CC_STAT i, 19, 14⟩
abbrev CAP_CC_STAT_GIDX (i : Nat) : Fld := ⟨CAP_CC_STAT i, 13, 7⟩
/-- R128. -/
abbrev CAP_CC_LVL (i : Nat) : Nat := 0x4100C + i * 0x1000
abbrev CAP_CC_LVL_RMS (i : Nat) : Fld := ⟨CAP_CC_LVL i, 31, 16⟩
abbrev CAP_CC_LVL_PEAK (i : Nat) : Fld := ⟨CAP_CC_LVL i, 15, 0⟩
/-- R128. -/
abbrev CAP_CC_PWR (i : Nat) : Nat := 0x41010 + i * 0x1000
abbrev CAP_CC_PWR_STALE (i : Nat) : Fld := ⟨CAP_CC_PWR i, 31, 31⟩
abbrev CAP_CC_PWR_PWR (i : Nat) : Fld := ⟨CAP_CC_PWR i, 15, 0⟩
/-- R128. -/
abbrev CAP_CC_CLIP (i : Nat) : Nat := 0x41014 + i * 0x1000
abbrev CAP_CC_CLIP_FRAMES (i : Nat) : Fld := ⟨CAP_CC_CLIP i, 31, 0⟩
/-- R128. -/
abbrev CAP_CC_HEALTH (i : Nat) : Nat := 0x41018 + i * 0x1000
abbrev CAP_CC_HEALTH_SUBSUS (i : Nat) : Fld := ⟨CAP_CC_HEALTH i, 31, 24⟩
abbrev CAP_CC_HEALTH_SUBFAIL (i : Nat) : Fld := ⟨CAP_CC_HEALTH i, 23, 16⟩
abbrev CAP_CC_HEALTH_CAUSE (i : Nat) : Fld := ⟨CAP_CC_HEALTH i, 15, 8⟩
/-- R128. -/
abbrev CAP_CC_FAULT_LO (i : Nat) : Nat := 0x41020 + i * 0x1000
abbrev CAP_CC_FAULT_LO_TIME (i : Nat) : Fld := ⟨CAP_CC_FAULT_LO i, 31, 0⟩
/-- R128. -/
abbrev CAP_CC_FAULT_HI (i : Nat) : Nat := 0x41024 + i * 0x1000
abbrev CAP_CC_FAULT_HI_TIME (i : Nat) : Fld := ⟨CAP_CC_FAULT_HI i, 31, 0⟩
/-- R56. -/
abbrev CAP_CC_CGRP (i : Nat) : Nat := 0x41FFC + i * 0x1000
abbrev CAP_CC_CGRP_PEND (i : Nat) : Fld := ⟨CAP_CC_CGRP i, 31, 31⟩
abbrev CAP_CC_CGRP_REJ (i : Nat) : Fld := ⟨CAP_CC_CGRP i, 30, 30⟩
abbrev CAP_CC_CGRP_GROUP (i : Nat) : Fld := ⟨CAP_CC_CGRP i, 3, 0⟩
/-- R128. -/
abbrev CAP_SNAPCFG : Nat := 0x44000
abbrev CAP_SNAPCFG_MODE : Fld := ⟨CAP_SNAPCFG, 31, 30⟩
abbrev CAP_SNAPCFG_SRC : Fld := ⟨CAP_SNAPCFG, 29, 27⟩
abbrev CAP_SNAPCFG_RAW : Fld := ⟨CAP_SNAPCFG, 26, 26⟩
abbrev CAP_SNAPCFG_TRIG : Fld := ⟨CAP_SNAPCFG, 25, 24⟩
abbrev CAP_SNAPCFG_RING : Fld := ⟨CAP_SNAPCFG, 23, 23⟩
abbrev CAP_SNAPCFG_POST : Fld := ⟨CAP_SNAPCFG, 19, 0⟩
/-- R128. -/
abbrev CAP_SNAPLANES : Nat := 0x44004
abbrev CAP_SNAPLANES_SEL : Fld := ⟨CAP_SNAPLANES, 31, 0⟩
/-- R128. -/
abbrev CAP_SNAPBASE : Nat := 0x44008
abbrev CAP_SNAPBASE_UNITS : Fld := ⟨CAP_SNAPBASE, 20, 0⟩
/-- R128. -/
abbrev CAP_SNAPLEN : Nat := 0x4400C
abbrev CAP_SNAPLEN_UNITS : Fld := ⟨CAP_SNAPLEN, 20, 0⟩
/-- R128. -/
abbrev CAP_SNAPTIME_LO : Nat := 0x44010
abbrev CAP_SNAPTIME_LO_TIME : Fld := ⟨CAP_SNAPTIME_LO, 31, 0⟩
/-- R128. -/
abbrev CAP_SNAPTIME_HI : Nat := 0x44014
abbrev CAP_SNAPTIME_HI_TIME : Fld := ⟨CAP_SNAPTIME_HI, 31, 0⟩
/-- R128. -/
abbrev CAP_SNAPSTAT : Nat := 0x44018
abbrev CAP_SNAPSTAT_STATE : Fld := ⟨CAP_SNAPSTAT, 31, 28⟩
abbrev CAP_SNAPSTAT_WRAPPED : Fld := ⟨CAP_SNAPSTAT, 27, 27⟩
abbrev CAP_SNAPSTAT_TRIGGERED : Fld := ⟨CAP_SNAPSTAT, 26, 26⟩
abbrev CAP_SNAPSTAT_RECORDS : Fld := ⟨CAP_SNAPSTAT, 19, 0⟩
/-- R56. -/
abbrev CAP_SNAP_CGRP : Nat := 0x44FFC
abbrev CAP_SNAP_CGRP_PEND : Fld := ⟨CAP_SNAP_CGRP, 31, 31⟩
abbrev CAP_SNAP_CGRP_REJ : Fld := ⟨CAP_SNAP_CGRP, 30, 30⟩
abbrev CAP_SNAP_CGRP_GROUP : Fld := ⟨CAP_SNAP_CGRP, 3, 0⟩
/-- R148. -/
abbrev GRT_BANKCFG : Nat := 0x50000
abbrev GRT_BANKCFG_PWREN : Fld := ⟨GRT_BANKCFG, 8, 8⟩
abbrev GRT_BANKCFG_AVG : Fld := ⟨GRT_BANKCFG, 4, 0⟩
/-- R148. -/
abbrev GRT_EVT : Nat := 0x50004
abbrev GRT_EVT_SEQ : Fld := ⟨GRT_EVT, 31, 24⟩
abbrev GRT_EVT_PWRDONE : Fld := ⟨GRT_EVT, 3, 3⟩
abbrev GRT_EVT_SPANERR : Fld := ⟨GRT_EVT, 2, 2⟩
abbrev GRT_EVT_REFILLDONE : Fld := ⟨GRT_EVT, 1, 1⟩
abbrev GRT_EVT_LANESAT : Fld := ⟨GRT_EVT, 0, 0⟩
/-- R148. -/
abbrev GRT_EVT_EN : Nat := 0x50008
abbrev GRT_EVT_EN_PWRDONE : Fld := ⟨GRT_EVT_EN, 3, 3⟩
abbrev GRT_EVT_EN_SPANERR : Fld := ⟨GRT_EVT_EN, 2, 2⟩
abbrev GRT_EVT_EN_REFILLDONE : Fld := ⟨GRT_EVT_EN, 1, 1⟩
abbrev GRT_EVT_EN_LANESAT : Fld := ⟨GRT_EVT_EN, 0, 0⟩
/-- R148. -/
abbrev GRT_SATPEND (i : Nat) : Nat := 0x50010 + i * 0x4
abbrev GRT_SATPEND_LANE (i : Nat) : Fld := ⟨GRT_SATPEND i, 31, 0⟩
/-- R148. -/
abbrev GRT_SCOUNT_LO : Nat := 0x50020
abbrev GRT_SCOUNT_LO_COUNT : Fld := ⟨GRT_SCOUNT_LO, 31, 0⟩
/-- R148. -/
abbrev GRT_SCOUNT_HI : Nat := 0x50024
abbrev GRT_SCOUNT_HI_COUNT : Fld := ⟨GRT_SCOUNT_HI, 31, 0⟩
/-- R56. -/
abbrev GRT_CGRP : Nat := 0x50FFC
abbrev GRT_CGRP_PEND : Fld := ⟨GRT_CGRP, 31, 31⟩
abbrev GRT_CGRP_REJ : Fld := ⟨GRT_CGRP, 30, 30⟩
abbrev GRT_CGRP_GROUP : Fld := ⟨GRT_CGRP, 3, 0⟩
/-- R148. -/
abbrev GRT_LCFG (i j : Nat) : Nat := 0x51000 + i * 0x1000 + j * 0x20
abbrev GRT_LCFG_EN (i j : Nat) : Fld := ⟨GRT_LCFG i j, 31, 31⟩
abbrev GRT_LCFG_SRC (i j : Nat) : Fld := ⟨GRT_LCFG i j, 30, 30⟩
abbrev GRT_LCFG_PRESET (i j : Nat) : Fld := ⟨GRT_LCFG i j, 29, 28⟩
abbrev GRT_LCFG_NCOMODE (i j : Nat) : Fld := ⟨GRT_LCFG i j, 27, 27⟩
abbrev GRT_LCFG_DLOG (i j : Nat) : Fld := ⟨GRT_LCFG i j, 23, 20⟩
abbrev GRT_LCFG_NBINS (i j : Nat) : Fld := ⟨GRT_LCFG i j, 17, 16⟩
abbrev GRT_LCFG_BIN (i j : Nat) : Fld := ⟨GRT_LCFG i j, 8, 0⟩
/-- R148. -/
abbrev GRT_LFREQ (i j : Nat) : Nat := 0x51004 + i * 0x1000 + j * 0x20
abbrev GRT_LFREQ_W (i j : Nat) : Fld := ⟨GRT_LFREQ i j, 31, 0⟩
/-- R148. -/
abbrev GRT_LGAIN (i j : Nat) : Nat := 0x51008 + i * 0x1000 + j * 0x20
abbrev GRT_LGAIN_ETHR (i j : Nat) : Fld := ⟨GRT_LGAIN i j, 23, 16⟩
abbrev GRT_LGAIN_GAIN (i j : Nat) : Fld := ⟨GRT_LGAIN i j, 3, 0⟩
/-- R148. -/
abbrev GRT_LPHOFF (i j : Nat) : Nat := 0x5100C + i * 0x1000 + j * 0x20
abbrev GRT_LPHOFF_PHOFF (i j : Nat) : Fld := ⟨GRT_LPHOFF i j, 31, 16⟩
/-- R148. -/
abbrev GRT_LSTAT (i j : Nat) : Nat := 0x51010 + i * 0x1000 + j * 0x20
abbrev GRT_LSTAT_RUN (i j : Nat) : Fld := ⟨GRT_LSTAT i j, 31, 31⟩
abbrev GRT_LSTAT_REFILL (i j : Nat) : Fld := ⟨GRT_LSTAT i j, 30, 30⟩
abbrev GRT_LSTAT_SPAN (i j : Nat) : Fld := ⟨GRT_LSTAT i j, 29, 29⟩
abbrev GRT_LSTAT_NOCORE (i j : Nat) : Fld := ⟨GRT_LSTAT i j, 28, 28⟩
/-- R148. -/
abbrev GRT_LSATCNT (i j : Nat) : Nat := 0x51014 + i * 0x1000 + j * 0x20
abbrev GRT_LSATCNT_COUNT (i j : Nat) : Fld := ⟨GRT_LSATCNT i j, 31, 0⟩
/-- R148. -/
abbrev GRT_LERACNT (i j : Nat) : Nat := 0x51018 + i * 0x1000 + j * 0x20
abbrev GRT_LERACNT_COUNT (i j : Nat) : Fld := ⟨GRT_LERACNT i j, 31, 0⟩
/-- R56. -/
abbrev GRT_L_CGRP (i : Nat) : Nat := 0x51FFC + i * 0x1000
abbrev GRT_L_CGRP_PEND (i : Nat) : Fld := ⟨GRT_L_CGRP i, 31, 31⟩
abbrev GRT_L_CGRP_REJ (i : Nat) : Fld := ⟨GRT_L_CGRP i, 30, 30⟩
abbrev GRT_L_CGRP_GROUP (i : Nat) : Fld := ⟨GRT_L_CGRP i, 3, 0⟩
/-- R148. -/
abbrev GRT_PWR (i j : Nat) : Nat := 0x5D000 + i * 0x800 + j * 0x4
abbrev GRT_PWR_MARKED (i j : Nat) : Fld := ⟨GRT_PWR i j, 16, 16⟩
abbrev GRT_PWR_POWER (i j : Nat) : Fld := ⟨GRT_PWR i j, 15, 0⟩
/-- R189. -/
abbrev LANE_CTL (i : Nat) : Nat := 0x100000 + i * 0x1000
abbrev LANE_CTL_EN (i : Nat) : Fld := ⟨LANE_CTL i, 31, 31⟩
abbrev LANE_CTL_GUARD (i : Nat) : Fld := ⟨LANE_CTL i, 30, 30⟩
abbrev LANE_CTL_WDOG (i : Nat) : Fld := ⟨LANE_CTL i, 23, 16⟩
/-- R189. -/
abbrev LANE_STAT (i : Nat) : Nat := 0x100004 + i * 0x1000
abbrev LANE_STAT_SEQ (i : Nat) : Fld := ⟨LANE_STAT i, 31, 24⟩
abbrev LANE_STAT_LDFAIL (i : Nat) : Fld := ⟨LANE_STAT i, 14, 14⟩
abbrev LANE_STAT_OVLATE (i : Nat) : Fld := ⟨LANE_STAT i, 13, 13⟩
abbrev LANE_STAT_MBOX (i : Nat) : Fld := ⟨LANE_STAT i, 12, 12⟩
abbrev LANE_STAT_NOSPARE (i : Nat) : Fld := ⟨LANE_STAT i, 11, 11⟩
abbrev LANE_STAT_STALL (i : Nat) : Fld := ⟨LANE_STAT i, 10, 10⟩
abbrev LANE_STAT_DIVERGE (i : Nat) : Fld := ⟨LANE_STAT i, 9, 9⟩
abbrev LANE_STAT_GUARDOK (i : Nat) : Fld := ⟨LANE_STAT i, 8, 8⟩
abbrev LANE_STAT_GUARDLOST (i : Nat) : Fld := ⟨LANE_STAT i, 7, 7⟩
abbrev LANE_STAT_GAP (i : Nat) : Fld := ⟨LANE_STAT i, 6, 6⟩
abbrev LANE_STAT_SPLICED (i : Nat) : Fld := ⟨LANE_STAT i, 5, 5⟩
abbrev LANE_STAT_MIGSTART (i : Nat) : Fld := ⟨LANE_STAT i, 4, 4⟩
abbrev LANE_STAT_EXCEPT (i : Nat) : Fld := ⟨LANE_STAT i, 3, 3⟩
abbrev LANE_STAT_HALTED (i : Nat) : Fld := ⟨LANE_STAT i, 2, 2⟩
abbrev LANE_STAT_STARTED (i : Nat) : Fld := ⟨LANE_STAT i, 1, 1⟩
abbrev LANE_STAT_CMDDONE (i : Nat) : Fld := ⟨LANE_STAT i, 0, 0⟩
/-- R189. -/
abbrev LANE_EVTEN (i : Nat) : Nat := 0x100014 + i * 0x1000
abbrev LANE_EVTEN_LDFAIL (i : Nat) : Fld := ⟨LANE_EVTEN i, 14, 14⟩
abbrev LANE_EVTEN_OVLATE (i : Nat) : Fld := ⟨LANE_EVTEN i, 13, 13⟩
abbrev LANE_EVTEN_MBOX (i : Nat) : Fld := ⟨LANE_EVTEN i, 12, 12⟩
abbrev LANE_EVTEN_NOSPARE (i : Nat) : Fld := ⟨LANE_EVTEN i, 11, 11⟩
abbrev LANE_EVTEN_STALL (i : Nat) : Fld := ⟨LANE_EVTEN i, 10, 10⟩
abbrev LANE_EVTEN_DIVERGE (i : Nat) : Fld := ⟨LANE_EVTEN i, 9, 9⟩
abbrev LANE_EVTEN_GUARDOK (i : Nat) : Fld := ⟨LANE_EVTEN i, 8, 8⟩
abbrev LANE_EVTEN_GUARDLOST (i : Nat) : Fld := ⟨LANE_EVTEN i, 7, 7⟩
abbrev LANE_EVTEN_GAP (i : Nat) : Fld := ⟨LANE_EVTEN i, 6, 6⟩
abbrev LANE_EVTEN_SPLICED (i : Nat) : Fld := ⟨LANE_EVTEN i, 5, 5⟩
abbrev LANE_EVTEN_MIGSTART (i : Nat) : Fld := ⟨LANE_EVTEN i, 4, 4⟩
abbrev LANE_EVTEN_EXCEPT (i : Nat) : Fld := ⟨LANE_EVTEN i, 3, 3⟩
abbrev LANE_EVTEN_HALTED (i : Nat) : Fld := ⟨LANE_EVTEN i, 2, 2⟩
abbrev LANE_EVTEN_STARTED (i : Nat) : Fld := ⟨LANE_EVTEN i, 1, 1⟩
abbrev LANE_EVTEN_CMDDONE (i : Nat) : Fld := ⟨LANE_EVTEN i, 0, 0⟩
/-- R189. -/
abbrev LANE_BIND (i : Nat) : Nat := 0x100008 + i * 0x1000
abbrev LANE_BIND_GSTATE (i : Nat) : Fld := ⟨LANE_BIND i, 30, 28⟩
abbrev LANE_BIND_MSTATE (i : Nat) : Fld := ⟨LANE_BIND i, 27, 24⟩
abbrev LANE_BIND_SVALID (i : Nat) : Fld := ⟨LANE_BIND i, 23, 23⟩
abbrev LANE_BIND_SHADOW (i : Nat) : Fld := ⟨LANE_BIND i, 22, 16⟩
abbrev LANE_BIND_HVALID (i : Nat) : Fld := ⟨LANE_BIND i, 7, 7⟩
abbrev LANE_BIND_HEARTH (i : Nat) : Fld := ⟨LANE_BIND i, 6, 0⟩
/-- R189. -/
abbrev LANE_PROG (i : Nat) : Nat := 0x10000C + i * 0x1000
abbrev LANE_PROG_LDSTAT (i : Nat) : Fld := ⟨LANE_PROG i, 31, 24⟩
abbrev LANE_PROG_ACTIVE (i : Nat) : Fld := ⟨LANE_PROG i, 21, 16⟩
abbrev LANE_PROG_SLOT (i : Nat) : Fld := ⟨LANE_PROG i, 5, 0⟩
/-- R189. -/
abbrev LANE_DRAW (i : Nat) : Nat := 0x100010 + i * 0x1000
abbrev LANE_DRAW_ACTIVE (i : Nat) : Fld := ⟨LANE_DRAW i, 27, 16⟩
abbrev LANE_DRAW_DELAY (i : Nat) : Fld := ⟨LANE_DRAW i, 11, 0⟩
/-- R189. -/
abbrev LANE_CMD (i : Nat) : Nat := 0x100018 + i * 0x1000
abbrev LANE_CMD_OP (i : Nat) : Fld := ⟨LANE_CMD i, 31, 24⟩
abbrev LANE_CMD_ARG (i : Nat) : Fld := ⟨LANE_CMD i, 23, 16⟩
abbrev LANE_CMD_TAG (i : Nat) : Fld := ⟨LANE_CMD i, 15, 8⟩
/-- R189. -/
abbrev LANE_BKLOG (i : Nat) : Nat := 0x100020 + i * 0x1000
abbrev LANE_BKLOG_ACTIVE (i : Nat) : Fld := ⟨LANE_BKLOG i, 27, 16⟩
abbrev LANE_BKLOG_LEN (i : Nat) : Fld := ⟨LANE_BKLOG i, 11, 0⟩
/-- R189. -/
abbrev LANE_CKPT (i : Nat) : Nat := 0x100024 + i * 0x1000
abbrev LANE_CKPT_VALID (i : Nat) : Fld := ⟨LANE_CKPT i, 31, 31⟩
abbrev LANE_CKPT_SLOT (i : Nat) : Fld := ⟨LANE_CKPT i, 30, 30⟩
abbrev LANE_CKPT_COUNT (i : Nat) : Fld := ⟨LANE_CKPT i, 15, 0⟩
/-- R189. -/
abbrev LANE_CKSAMP_LO (i : Nat) : Nat := 0x100028 + i * 0x1000
abbrev LANE_CKSAMP_LO_SAMPLE (i : Nat) : Fld := ⟨LANE_CKSAMP_LO i, 31, 0⟩
/-- R189. -/
abbrev LANE_CKSAMP_HI (i : Nat) : Nat := 0x10002C + i * 0x1000
abbrev LANE_CKSAMP_HI_SAMPLE (i : Nat) : Fld := ⟨LANE_CKSAMP_HI i, 31, 0⟩
/-- R189. -/
abbrev LANE_REACQ (i : Nat) : Nat := 0x100030 + i * 0x1000
abbrev LANE_REACQ_TIME (i : Nat) : Fld := ⟨LANE_REACQ i, 31, 0⟩
/-- R189. -/
abbrev LANE_MIG (i : Nat) : Nat := 0x100034 + i * 0x1000
abbrev LANE_MIG_STATUS (i : Nat) : Fld := ⟨LANE_MIG i, 31, 24⟩
abbrev LANE_MIG_COUNT (i : Nat) : Fld := ⟨LANE_MIG i, 23, 16⟩
abbrev LANE_MIG_LAG (i : Nat) : Fld := ⟨LANE_MIG i, 15, 0⟩
/-- R189. -/
abbrev LANE_OVDEM (i : Nat) : Nat := 0x100038 + i * 0x1000
abbrev LANE_OVDEM_LDPC (i : Nat) : Fld := ⟨LANE_OVDEM i, 31, 16⟩
abbrev LANE_OVDEM_TRELLIS (i : Nat) : Fld := ⟨LANE_OVDEM i, 15, 0⟩
/-- R189. -/
abbrev LANE_DIVERGE (i : Nat) : Nat := 0x10003C + i * 0x1000
abbrev LANE_DIVERGE_COUNT (i : Nat) : Fld := ⟨LANE_DIVERGE i, 31, 0⟩
/-- R189. -/
abbrev LANE_CMDSTAT (i : Nat) : Nat := 0x10001C + i * 0x1000
abbrev LANE_CMDSTAT_OP (i : Nat) : Fld := ⟨LANE_CMDSTAT i, 31, 24⟩
abbrev LANE_CMDSTAT_STATUS (i : Nat) : Fld := ⟨LANE_CMDSTAT i, 23, 16⟩
abbrev LANE_CMDSTAT_TAG (i : Nat) : Fld := ⟨LANE_CMDSTAT i, 15, 8⟩
abbrev LANE_CMDSTAT_LOST (i : Nat) : Fld := ⟨LANE_CMDSTAT i, 1, 1⟩
abbrev LANE_CMDSTAT_BUSY (i : Nat) : Fld := ⟨LANE_CMDSTAT i, 0, 0⟩
/-- R254. -/
abbrev LANE_LPB (i j : Nat) : Nat := 0x100100 + i * 0x1000 + j * 0x4
abbrev LANE_LPB_LPB (i j : Nat) : Fld := ⟨LANE_LPB i j, 31, 0⟩
/-- R256. -/
abbrev LANE_LRB (i j : Nat) : Nat := 0x100200 + i * 0x1000 + j * 0x4
abbrev LANE_LRB_LRB (i j : Nat) : Fld := ⟨LANE_LRB i j, 31, 0⟩
/-- R227. -/
abbrev LANE_MBIN (i j : Nat) : Nat := 0x100400 + i * 0x1000 + j * 0x4
abbrev LANE_MBIN_MBIN (i j : Nat) : Fld := ⟨LANE_MBIN i j, 31, 0⟩
/-- R227. -/
abbrev LANE_MBOUT (i j : Nat) : Nat := 0x100600 + i * 0x1000 + j * 0x4
abbrev LANE_MBOUT_MBOUT (i j : Nat) : Fld := ⟨LANE_MBOUT i j, 31, 0⟩
/-- R56. -/
abbrev LANE_CGRP (i : Nat) : Nat := 0x100FFC + i * 0x1000
abbrev LANE_CGRP_PEND (i : Nat) : Fld := ⟨LANE_CGRP i, 31, 31⟩
abbrev LANE_CGRP_REJ (i : Nat) : Fld := ⟨LANE_CGRP i, 30, 30⟩
abbrev LANE_CGRP_GROUP (i : Nat) : Fld := ⟨LANE_CGRP i, 3, 0⟩
/-- R189. -/
abbrev HST_STAT (i : Nat) : Nat := 0x160000 + i * 0x40
abbrev HST_STAT_STATE (i : Nat) : Fld := ⟨HST_STAT i, 31, 28⟩
abbrev HST_STAT_CAUSE (i : Nat) : Fld := ⟨HST_STAT i, 27, 24⟩
abbrev HST_STAT_SUSPECT (i : Nat) : Fld := ⟨HST_STAT i, 23, 23⟩
abbrev HST_STAT_LANE (i : Nat) : Fld := ⟨HST_STAT i, 22, 16⟩
abbrev HST_STAT_LANEV (i : Nat) : Fld := ⟨HST_STAT i, 15, 15⟩
/-- R189. -/
abbrev HST_FAULT_LO (i : Nat) : Nat := 0x160004 + i * 0x40
/-- R189. -/
abbrev HST_FAULT_HI (i : Nat) : Nat := 0x160008 + i * 0x40
/-- R189. -/
abbrev HST_CERR (i : Nat) : Nat := 0x16000C + i * 0x40
/-- R189. -/
abbrev HST_BISTTIME_LO (i : Nat) : Nat := 0x160014 + i * 0x40
/-- R189. -/
abbrev HST_BISTTIME_HI (i : Nat) : Nat := 0x160018 + i * 0x40
/-- R189. -/
abbrev HST_BIST (i : Nat) : Nat := 0x160010 + i * 0x40
abbrev HST_BIST_RESULT (i : Nat) : Fld := ⟨HST_BIST i, 31, 30⟩
abbrev HST_BIST_COUNT (i : Nat) : Fld := ⟨HST_BIST i, 15, 0⟩
/-- R189. -/
abbrev HST_LOAD (i : Nat) : Nat := 0x16001C + i * 0x40
abbrev HST_LOAD_STOKER (i : Nat) : Fld := ⟨HST_LOAD i, 31, 24⟩
abbrev HST_LOAD_HOB (i : Nat) : Fld := ⟨HST_LOAD i, 23, 16⟩
abbrev HST_LOAD_SERVED (i : Nat) : Fld := ⟨HST_LOAD i, 15, 0⟩
/-- R190. -/
abbrev HMG_RSTCFG : Nat := 0x162000
abbrev HMG_RSTCFG_EN : Fld := ⟨HMG_RSTCFG, 31, 31⟩
abbrev HMG_RSTCFG_TRELLIS : Fld := ⟨HMG_RSTCFG, 18, 18⟩
abbrev HMG_RSTCFG_LDPC : Fld := ⟨HMG_RSTCFG, 17, 17⟩
abbrev HMG_RSTCFG_HEARTHS : Fld := ⟨HMG_RSTCFG, 16, 16⟩
abbrev HMG_RSTCFG_PERIOD : Fld := ⟨HMG_RSTCFG, 15, 0⟩
/-- R190. -/
abbrev HMG_RSTSTAT : Nat := 0x162004
abbrev HMG_RSTSTAT_STATE : Fld := ⟨HMG_RSTSTAT, 31, 28⟩
abbrev HMG_RSTSTAT_KIND : Fld := ⟨HMG_RSTSTAT, 27, 27⟩
abbrev HMG_RSTSTAT_UNIT : Fld := ⟨HMG_RSTSTAT, 26, 16⟩
abbrev HMG_RSTSTAT_CYCLES : Fld := ⟨HMG_RSTSTAT, 15, 0⟩
/-- R190. -/
abbrev HMG_MIGSTAT : Nat := 0x162008
abbrev HMG_MIGSTAT_STATUS : Fld := ⟨HMG_MIGSTAT, 31, 24⟩
abbrev HMG_MIGSTAT_LANE : Fld := ⟨HMG_MIGSTAT, 22, 16⟩
abbrev HMG_MIGSTAT_FROM : Fld := ⟨HMG_MIGSTAT, 14, 8⟩
abbrev HMG_MIGSTAT_TO : Fld := ⟨HMG_MIGSTAT, 6, 0⟩
/-- R190. -/
abbrev HMG_MIGCNT : Nat := 0x16200C
/-- R190. -/
abbrev HMG_EVT : Nat := 0x162010
abbrev HMG_EVT_SEQ : Fld := ⟨HMG_EVT, 31, 24⟩
abbrev HMG_EVT_RSTDEFER : Fld := ⟨HMG_EVT, 7, 7⟩
abbrev HMG_EVT_RSTFAIL : Fld := ⟨HMG_EVT, 6, 6⟩
abbrev HMG_EVT_RSTDONE : Fld := ⟨HMG_EVT, 5, 5⟩
abbrev HMG_EVT_GUARDLOST : Fld := ⟨HMG_EVT, 4, 4⟩
abbrev HMG_EVT_RETIRE : Fld := ⟨HMG_EVT, 3, 3⟩
abbrev HMG_EVT_MARGINLOST : Fld := ⟨HMG_EVT, 2, 2⟩
abbrev HMG_EVT_MIGDONE : Fld := ⟨HMG_EVT, 1, 1⟩
abbrev HMG_EVT_MIGSTART : Fld := ⟨HMG_EVT, 0, 0⟩
/-- R190. -/
abbrev HMG_EVT_EN : Nat := 0x162014
abbrev HMG_EVT_EN_RSTDEFER : Fld := ⟨HMG_EVT_EN, 7, 7⟩
abbrev HMG_EVT_EN_RSTFAIL : Fld := ⟨HMG_EVT_EN, 6, 6⟩
abbrev HMG_EVT_EN_RSTDONE : Fld := ⟨HMG_EVT_EN, 5, 5⟩
abbrev HMG_EVT_EN_GUARDLOST : Fld := ⟨HMG_EVT_EN, 4, 4⟩
abbrev HMG_EVT_EN_RETIRE : Fld := ⟨HMG_EVT_EN, 3, 3⟩
abbrev HMG_EVT_EN_MARGINLOST : Fld := ⟨HMG_EVT_EN, 2, 2⟩
abbrev HMG_EVT_EN_MIGDONE : Fld := ⟨HMG_EVT_EN, 1, 1⟩
abbrev HMG_EVT_EN_MIGSTART : Fld := ⟨HMG_EVT_EN, 0, 0⟩
/-- R56. -/
abbrev HMG_CGRP : Nat := 0x162FFC
abbrev HMG_CGRP_PEND : Fld := ⟨HMG_CGRP, 31, 31⟩
abbrev HMG_CGRP_REJ : Fld := ⟨HMG_CGRP, 30, 30⟩
abbrev HMG_CGRP_GROUP : Fld := ⟨HMG_CGRP, 3, 0⟩
/-- R190. -/
abbrev OVN_CFG : Nat := 0x200000
abbrev OVN_CFG_AGE : Fld := ⟨OVN_CFG, 15, 0⟩
/-- R190. -/
abbrev OVN_EVT : Nat := 0x200004
abbrev OVN_EVT_SEQ : Fld := ⟨OVN_EVT, 31, 24⟩
abbrev OVN_EVT_DEMANDHIGH : Fld := ⟨OVN_EVT, 3, 3⟩
abbrev OVN_EVT_LATE : Fld := ⟨OVN_EVT, 2, 2⟩
abbrev OVN_EVT_OVENSUSPECT : Fld := ⟨OVN_EVT, 1, 1⟩
abbrev OVN_EVT_OVENRETIRE : Fld := ⟨OVN_EVT, 0, 0⟩
/-- R190. -/
abbrev OVN_EVT_EN : Nat := 0x200008
abbrev OVN_EVT_EN_DEMANDHIGH : Fld := ⟨OVN_EVT_EN, 3, 3⟩
abbrev OVN_EVT_EN_LATE : Fld := ⟨OVN_EVT_EN, 2, 2⟩
abbrev OVN_EVT_EN_OVENSUSPECT : Fld := ⟨OVN_EVT_EN, 1, 1⟩
abbrev OVN_EVT_EN_OVENRETIRE : Fld := ⟨OVN_EVT_EN, 0, 0⟩
/-- R190. -/
abbrev OVN_DEMAND : Nat := 0x200010
/-- R190. -/
abbrev OVN_CAPACITY : Nat := 0x200014
/-- R190. -/
abbrev OVN_LATE : Nat := 0x200018
/-- R190. -/
abbrev OVN_OSTAT (i : Nat) : Nat := 0x200100 + i * 0x4
abbrev OVN_OSTAT_STATE (i : Nat) : Fld := ⟨OVN_OSTAT i, 31, 28⟩
abbrev OVN_OSTAT_CAUSE (i : Nat) : Fld := ⟨OVN_OSTAT i, 27, 24⟩
abbrev OVN_OSTAT_UTIL (i : Nat) : Fld := ⟨OVN_OSTAT i, 23, 16⟩
abbrev OVN_OSTAT_REQS (i : Nat) : Fld := ⟨OVN_OSTAT i, 15, 0⟩
/-- R56. -/
abbrev OVN_CGRP : Nat := 0x200FFC
abbrev OVN_CGRP_PEND : Fld := ⟨OVN_CGRP, 31, 31⟩
abbrev OVN_CGRP_REJ : Fld := ⟨OVN_CGRP, 30, 30⟩
abbrev OVN_CGRP_GROUP : Fld := ⟨OVN_CGRP, 3, 0⟩
/-- R320. -/
abbrev CHM_EVT : Nat := 0x210000
abbrev CHM_EVT_SEQ : Fld := ⟨CHM_EVT, 31, 24⟩
abbrev CHM_EVT_HOTPORT : Fld := ⟨CHM_EVT, 3, 3⟩
abbrev CHM_EVT_CREDIT : Fld := ⟨CHM_EVT, 2, 2⟩
abbrev CHM_EVT_PARITY : Fld := ⟨CHM_EVT, 1, 1⟩
abbrev CHM_EVT_LINKERR : Fld := ⟨CHM_EVT, 0, 0⟩
/-- R320. -/
abbrev CHM_EVT_EN : Nat := 0x210004
abbrev CHM_EVT_EN_HOTPORT : Fld := ⟨CHM_EVT_EN, 3, 3⟩
abbrev CHM_EVT_EN_CREDIT : Fld := ⟨CHM_EVT_EN, 2, 2⟩
abbrev CHM_EVT_EN_PARITY : Fld := ⟨CHM_EVT_EN, 1, 1⟩
abbrev CHM_EVT_EN_LINKERR : Fld := ⟨CHM_EVT_EN, 0, 0⟩
/-- R320. -/
abbrev CHM_PUTIL (i : Nat) : Nat := 0x210100 + i * 0x8
abbrev CHM_PUTIL_REQ (i : Nat) : Fld := ⟨CHM_PUTIL i, 31, 24⟩
abbrev CHM_PUTIL_RSP (i : Nat) : Fld := ⟨CHM_PUTIL i, 23, 16⟩
abbrev CHM_PUTIL_STREAM (i : Nat) : Fld := ⟨CHM_PUTIL i, 15, 8⟩
abbrev CHM_PUTIL_CTRL (i : Nat) : Fld := ⟨CHM_PUTIL i, 7, 0⟩
/-- R320. -/
abbrev CHM_PERR (i : Nat) : Nat := 0x210104 + i * 0x8
abbrev CHM_PERR_PARITY (i : Nat) : Fld := ⟨CHM_PERR i, 31, 16⟩
abbrev CHM_PERR_STALLK (i : Nat) : Fld := ⟨CHM_PERR i, 15, 0⟩
/-- R321. -/
abbrev ASH_DRAMCFG : Nat := 0x220000
abbrev ASH_DRAMCFG_RANKS : Fld := ⟨ASH_DRAMCFG, 3, 3⟩
abbrev ASH_DRAMCFG_DENSITY : Fld := ⟨ASH_DRAMCFG, 1, 0⟩
/-- R321. -/
abbrev ASH_CMD : Nat := 0x220004
abbrev ASH_CMD_OP : Fld := ⟨ASH_CMD, 31, 24⟩
abbrev ASH_CMD_ARG : Fld := ⟨ASH_CMD, 23, 16⟩
abbrev ASH_CMD_TAG : Fld := ⟨ASH_CMD, 15, 8⟩
/-- R321. -/
abbrev ASH_CMDSTAT : Nat := 0x220008
abbrev ASH_CMDSTAT_OP : Fld := ⟨ASH_CMDSTAT, 31, 24⟩
abbrev ASH_CMDSTAT_STATUS : Fld := ⟨ASH_CMDSTAT, 23, 16⟩
abbrev ASH_CMDSTAT_TAG : Fld := ⟨ASH_CMDSTAT, 15, 8⟩
abbrev ASH_CMDSTAT_LOST : Fld := ⟨ASH_CMDSTAT, 1, 1⟩
abbrev ASH_CMDSTAT_BUSY : Fld := ⟨ASH_CMDSTAT, 0, 0⟩
/-- R321. -/
abbrev ASH_STAT : Nat := 0x22000C
abbrev ASH_STAT_READY : Fld := ⟨ASH_STAT, 31, 31⟩
abbrev ASH_STAT_REFRATE : Fld := ⟨ASH_STAT, 30, 28⟩
abbrev ASH_STAT_RGNBUSY : Fld := ⟨ASH_STAT, 24, 20⟩
abbrev ASH_STAT_USABLE : Fld := ⟨ASH_STAT, 12, 0⟩
/-- R321. -/
abbrev ASH_RGN (i : Nat) : Nat := 0x220010 + i * 0x4
abbrev ASH_RGN_BASE (i : Nat) : Fld := ⟨ASH_RGN i, 31, 16⟩
abbrev ASH_RGN_SIZE (i : Nat) : Fld := ⟨ASH_RGN i, 15, 0⟩
/-- R321. -/
abbrev ASH_CARCFG : Nat := 0x220024
abbrev ASH_CARCFG_PERLANE : Fld := ⟨ASH_CARCFG, 11, 0⟩
/-- R321. -/
abbrev ASH_DRAWCFG : Nat := 0x220028
abbrev ASH_DRAWCFG_LOWWATER : Fld := ⟨ASH_DRAWCFG, 15, 0⟩
/-- R321. -/
abbrev ASH_SCRUB : Nat := 0x22002C
abbrev ASH_SCRUB_EN : Fld := ⟨ASH_SCRUB, 31, 31⟩
abbrev ASH_SCRUB_PERIOD : Fld := ⟨ASH_SCRUB, 7, 0⟩
/-- R321. -/
abbrev ASH_APBASE : Nat := 0x220030
abbrev ASH_APBASE_BASE : Fld := ⟨ASH_APBASE, 12, 0⟩
/-- R321. -/
abbrev ASH_TIFREE : Nat := 0x220034
abbrev ASH_TIFREE_FREE : Fld := ⟨ASH_TIFREE, 15, 0⟩
/-- R321. -/
abbrev ASH_DRAWFREE : Nat := 0x220038
abbrev ASH_DRAWFREE_FREE : Fld := ⟨ASH_DRAWFREE, 15, 0⟩
/-- R321. -/
abbrev ASH_ECCCNT : Nat := 0x220040
abbrev ASH_ECCCNT_CORR : Fld := ⟨ASH_ECCCNT, 31, 16⟩
abbrev ASH_ECCCNT_UNCORR : Fld := ⟨ASH_ECCCNT, 15, 0⟩
/-- R321. -/
abbrev ASH_ECCADDR_LO : Nat := 0x220044
abbrev ASH_ECCADDR_LO_LINE : Fld := ⟨ASH_ECCADDR_LO, 31, 6⟩
/-- R321. -/
abbrev ASH_ECCADDR_HI : Nat := 0x220048
abbrev ASH_ECCADDR_HI_REGION : Fld := ⟨ASH_ECCADDR_HI, 31, 29⟩
abbrev ASH_ECCADDR_HI_LINE_HI : Fld := ⟨ASH_ECCADDR_HI, 0, 0⟩
/-- R321. -/
abbrev ASH_BW (i : Nat) : Nat := 0x220050 + i * 0x4
abbrev ASH_BW_MBPS (i : Nat) : Fld := ⟨ASH_BW i, 15, 0⟩
/-- R321. -/
abbrev ASH_AFAIL : Nat := 0x220070
abbrev ASH_AFAIL_KIND : Fld := ⟨ASH_AFAIL, 31, 30⟩
abbrev ASH_AFAIL_LANE : Fld := ⟨ASH_AFAIL, 29, 23⟩
abbrev ASH_AFAIL_NEED : Fld := ⟨ASH_AFAIL, 11, 0⟩
/-- R321. -/
abbrev ASH_EVT : Nat := 0x220080
abbrev ASH_EVT_SEQ : Fld := ⟨ASH_EVT, 31, 24⟩
abbrev ASH_EVT_HOT : Fld := ⟨ASH_EVT, 9, 9⟩
abbrev ASH_EVT_CAPSKIP : Fld := ⟨ASH_EVT, 8, 8⟩
abbrev ASH_EVT_BKLOST : Fld := ⟨ASH_EVT, 7, 7⟩
abbrev ASH_EVT_DRAWFULL : Fld := ⟨ASH_EVT, 6, 6⟩
abbrev ASH_EVT_DRAWLOW : Fld := ⟨ASH_EVT, 5, 5⟩
abbrev ASH_EVT_ALLOCFAIL : Fld := ⟨ASH_EVT, 4, 4⟩
abbrev ASH_EVT_APWPROT : Fld := ⟨ASH_EVT, 3, 3⟩
abbrev ASH_EVT_ECCUNCORR : Fld := ⟨ASH_EVT, 2, 2⟩
abbrev ASH_EVT_ECCCORR : Fld := ⟨ASH_EVT, 1, 1⟩
abbrev ASH_EVT_CMDDONE : Fld := ⟨ASH_EVT, 0, 0⟩
/-- R321. -/
abbrev ASH_EVT_EN : Nat := 0x220084
abbrev ASH_EVT_EN_HOT : Fld := ⟨ASH_EVT_EN, 9, 9⟩
abbrev ASH_EVT_EN_CAPSKIP : Fld := ⟨ASH_EVT_EN, 8, 8⟩
abbrev ASH_EVT_EN_BKLOST : Fld := ⟨ASH_EVT_EN, 7, 7⟩
abbrev ASH_EVT_EN_DRAWFULL : Fld := ⟨ASH_EVT_EN, 6, 6⟩
abbrev ASH_EVT_EN_DRAWLOW : Fld := ⟨ASH_EVT_EN, 5, 5⟩
abbrev ASH_EVT_EN_ALLOCFAIL : Fld := ⟨ASH_EVT_EN, 4, 4⟩
abbrev ASH_EVT_EN_APWPROT : Fld := ⟨ASH_EVT_EN, 3, 3⟩
abbrev ASH_EVT_EN_ECCUNCORR : Fld := ⟨ASH_EVT_EN, 2, 2⟩
abbrev ASH_EVT_EN_ECCCORR : Fld := ⟨ASH_EVT_EN, 1, 1⟩
abbrev ASH_EVT_EN_CMDDONE : Fld := ⟨ASH_EVT_EN, 0, 0⟩
/-- R56. -/
abbrev ASH_CGRP : Nat := 0x220FFC
abbrev ASH_CGRP_PEND : Fld := ⟨ASH_CGRP, 31, 31⟩
abbrev ASH_CGRP_REJ : Fld := ⟨ASH_CGRP, 30, 30⟩
abbrev ASH_CGRP_GROUP : Fld := ⟨ASH_CGRP, 3, 0⟩
/-- R321. -/
abbrev ASH_LUSE (i : Nat) : Nat := 0x221000 + i * 0x4
abbrev ASH_LUSE_SETS (i : Nat) : Fld := ⟨ASH_LUSE i, 31, 30⟩
abbrev ASH_LUSE_TIPAGES (i : Nat) : Fld := ⟨ASH_LUSE i, 23, 12⟩
abbrev ASH_LUSE_DRAWBLK (i : Nat) : Fld := ⟨ASH_LUSE i, 11, 0⟩
/-- R356. -/
abbrev FLU_CTL (i : Nat) : Nat := 0x300000 + i * 0x8000
abbrev FLU_CTL_EN (i : Nat) : Fld := ⟨FLU_CTL i, 31, 31⟩
abbrev FLU_CTL_TXEN (i : Nat) : Fld := ⟨FLU_CTL i, 30, 30⟩
abbrev FLU_CTL_RXTAG (i : Nat) : Fld := ⟨FLU_CTL i, 29, 29⟩
abbrev FLU_CTL_TTL (i : Nat) : Fld := ⟨FLU_CTL i, 23, 16⟩
abbrev FLU_CTL_RXVID (i : Nat) : Fld := ⟨FLU_CTL i, 11, 0⟩
/-- R356. -/
abbrev FLU_LINK (i : Nat) : Nat := 0x300004 + i * 0x8000
abbrev FLU_LINK_UP (i : Nat) : Fld := ⟨FLU_LINK i, 31, 31⟩
abbrev FLU_LINK_BLOCK (i : Nat) : Fld := ⟨FLU_LINK i, 30, 30⟩
abbrev FLU_LINK_LF (i : Nat) : Fld := ⟨FLU_LINK i, 29, 29⟩
abbrev FLU_LINK_RF (i : Nat) : Fld := ⟨FLU_LINK i, 28, 28⟩
abbrev FLU_LINK_MOD (i : Nat) : Fld := ⟨FLU_LINK i, 27, 27⟩
abbrev FLU_LINK_TXFLT (i : Nat) : Fld := ⟨FLU_LINK i, 26, 26⟩
abbrev FLU_LINK_TXFLTL (i : Nat) : Fld := ⟨FLU_LINK i, 25, 25⟩
abbrev FLU_LINK_RXLOS (i : Nat) : Fld := ⟨FLU_LINK i, 24, 24⟩
abbrev FLU_LINK_TXDIS (i : Nat) : Fld := ⟨FLU_LINK i, 23, 23⟩
/-- R356. -/
abbrev FLU_EVT (i : Nat) : Nat := 0x300008 + i * 0x8000
abbrev FLU_EVT_SEQ (i : Nat) : Fld := ⟨FLU_EVT i, 31, 24⟩
abbrev FLU_EVT_BADID (i : Nat) : Fld := ⟨FLU_EVT i, 10, 10⟩
abbrev FLU_EVT_SFPWEAR (i : Nat) : Fld := ⟨FLU_EVT i, 9, 9⟩
abbrev FLU_EVT_SFPALARM (i : Nat) : Fld := ⟨FLU_EVT i, 8, 8⟩
abbrev FLU_EVT_MODOUT (i : Nat) : Fld := ⟨FLU_EVT i, 7, 7⟩
abbrev FLU_EVT_MODIN (i : Nat) : Fld := ⟨FLU_EVT i, 6, 6⟩
abbrev FLU_EVT_TXFAULT (i : Nat) : Fld := ⟨FLU_EVT i, 5, 5⟩
abbrev FLU_EVT_FMTDROP (i : Nat) : Fld := ⟨FLU_EVT i, 4, 4⟩
abbrev FLU_EVT_ALERTDROP (i : Nat) : Fld := ⟨FLU_EVT i, 3, 3⟩
abbrev FLU_EVT_DROP (i : Nat) : Fld := ⟨FLU_EVT i, 2, 2⟩
abbrev FLU_EVT_LINKDOWN (i : Nat) : Fld := ⟨FLU_EVT i, 1, 1⟩
abbrev FLU_EVT_LINKUP (i : Nat) : Fld := ⟨FLU_EVT i, 0, 0⟩
/-- R356. -/
abbrev FLU_EVT_EN (i : Nat) : Nat := 0x30000C + i * 0x8000
abbrev FLU_EVT_EN_BADID (i : Nat) : Fld := ⟨FLU_EVT_EN i, 10, 10⟩
abbrev FLU_EVT_EN_SFPWEAR (i : Nat) : Fld := ⟨FLU_EVT_EN i, 9, 9⟩
abbrev FLU_EVT_EN_SFPALARM (i : Nat) : Fld := ⟨FLU_EVT_EN i, 8, 8⟩
abbrev FLU_EVT_EN_MODOUT (i : Nat) : Fld := ⟨FLU_EVT_EN i, 7, 7⟩
abbrev FLU_EVT_EN_MODIN (i : Nat) : Fld := ⟨FLU_EVT_EN i, 6, 6⟩
abbrev FLU_EVT_EN_TXFAULT (i : Nat) : Fld := ⟨FLU_EVT_EN i, 5, 5⟩
abbrev FLU_EVT_EN_FMTDROP (i : Nat) : Fld := ⟨FLU_EVT_EN i, 4, 4⟩
abbrev FLU_EVT_EN_ALERTDROP (i : Nat) : Fld := ⟨FLU_EVT_EN i, 3, 3⟩
abbrev FLU_EVT_EN_DROP (i : Nat) : Fld := ⟨FLU_EVT_EN i, 2, 2⟩
abbrev FLU_EVT_EN_LINKDOWN (i : Nat) : Fld := ⟨FLU_EVT_EN i, 1, 1⟩
abbrev FLU_EVT_EN_LINKUP (i : Nat) : Fld := ⟨FLU_EVT_EN i, 0, 0⟩
/-- R356. -/
abbrev FLU_MAC_LO (i : Nat) : Nat := 0x300010 + i * 0x8000
/-- R356. -/
abbrev FLU_MAC_HI (i : Nat) : Nat := 0x300014 + i * 0x8000
/-- R356. -/
abbrev FLU_GWMAC_LO (i : Nat) : Nat := 0x300018 + i * 0x8000
/-- R356. -/
abbrev FLU_GWMAC_HI (i : Nat) : Nat := 0x30001C + i * 0x8000
/-- R356. -/
abbrev FLU_IP4 (i : Nat) : Nat := 0x300020 + i * 0x8000
/-- R356. -/
abbrev FLU_IP6 (i j : Nat) : Nat := 0x300024 + i * 0x8000 + j * 0x4
/-- R356. -/
abbrev FLU_ADST_IP (i j : Nat) : Nat := 0x300044 + i * 0x8000 + j * 0x4
/-- R356. -/
abbrev FLU_TDST_IP (i j : Nat) : Nat := 0x300064 + i * 0x8000 + j * 0x4
/-- R356. -/
abbrev FLU_TLMEN (i j : Nat) : Nat := 0x300074 + i * 0x8000 + j * 0x4
/-- R356. -/
abbrev FLU_PTPLAT (i : Nat) : Nat := 0x300080 + i * 0x8000
/-- R356. -/
abbrev FLU_ADST_CFG (i : Nat) : Nat := 0x300040 + i * 0x8000
abbrev FLU_ADST_CFG_UPORT (i : Nat) : Fld := ⟨FLU_ADST_CFG i, 31, 16⟩
abbrev FLU_ADST_CFG_TCI (i : Nat) : Fld := ⟨FLU_ADST_CFG i, 15, 0⟩
/-- R356. -/
abbrev FLU_TLMCFG (i : Nat) : Nat := 0x300060 + i * 0x8000
abbrev FLU_TLMCFG_UPORT (i : Nat) : Fld := ⟨FLU_TLMCFG i, 31, 16⟩
abbrev FLU_TLMCFG_TCI (i : Nat) : Fld := ⟨FLU_TLMCFG i, 15, 0⟩
/-- R356. -/
abbrev FLU_ADST_MODE (i : Nat) : Nat := 0x300054 + i * 0x8000
abbrev FLU_ADST_MODE_IPV6 (i : Nat) : Fld := ⟨FLU_ADST_MODE i, 31, 31⟩
abbrev FLU_ADST_MODE_TAGGED (i : Nat) : Fld := ⟨FLU_ADST_MODE i, 30, 30⟩
abbrev FLU_ADST_MODE_DSCP (i : Nat) : Fld := ⟨FLU_ADST_MODE i, 29, 24⟩
abbrev FLU_ADST_MODE_REPINT (i : Nat) : Fld := ⟨FLU_ADST_MODE i, 23, 16⟩
/-- R356. -/
abbrev FLU_TLMMODE (i : Nat) : Nat := 0x300084 + i * 0x8000
abbrev FLU_TLMMODE_IPV6 (i : Nat) : Fld := ⟨FLU_TLMMODE i, 31, 31⟩
abbrev FLU_TLMMODE_TAGGED (i : Nat) : Fld := ⟨FLU_TLMMODE i, 30, 30⟩
abbrev FLU_TLMMODE_DSCP (i : Nat) : Fld := ⟨FLU_TLMMODE i, 29, 24⟩
abbrev FLU_TLMMODE_INT (i : Nat) : Fld := ⟨FLU_TLMMODE i, 15, 0⟩
/-- R356. -/
abbrev FLU_TXFRAMES (i : Nat) : Nat := 0x3000A0 + i * 0x8000
/-- R356. -/
abbrev FLU_RXFRAMES (i : Nat) : Nat := 0x3000A4 + i * 0x8000
/-- R356. -/
abbrev FLU_RXFILT (i : Nat) : Nat := 0x3000A8 + i * 0x8000
/-- R356. -/
abbrev FLU_RXERR (i : Nat) : Nat := 0x3000AC + i * 0x8000
/-- R356. -/
abbrev FLU_FMTDROP (i : Nat) : Nat := 0x3000B0 + i * 0x8000
/-- R356. -/
abbrev FLU_ALERTTX (i : Nat) : Nat := 0x3000B4 + i * 0x8000
/-- R356. -/
abbrev FLU_ALERTDROP (i : Nat) : Nat := 0x3000B8 + i * 0x8000
/-- R356. -/
abbrev FLU_SFPCFG (i : Nat) : Nat := 0x300100 + i * 0x8000
abbrev FLU_SFPCFG_POLL (i : Nat) : Fld := ⟨FLU_SFPCFG i, 31, 24⟩
abbrev FLU_SFPCFG_WARNDAYS (i : Nat) : Fld := ⟨FLU_SFPCFG i, 15, 0⟩
/-- R356. -/
abbrev FLU_SFPSTAT (i : Nat) : Nat := 0x300104 + i * 0x8000
abbrev FLU_SFPSTAT_BADID (i : Nat) : Fld := ⟨FLU_SFPSTAT i, 31, 31⟩
abbrev FLU_SFPSTAT_DDM (i : Nat) : Fld := ⟨FLU_SFPSTAT i, 30, 30⟩
abbrev FLU_SFPSTAT_BKNOWN (i : Nat) : Fld := ⟨FLU_SFPSTAT i, 29, 29⟩
abbrev FLU_SFPSTAT_ALARMS (i : Nat) : Fld := ⟨FLU_SFPSTAT i, 15, 0⟩
/-- R356. -/
abbrev FLU_SFPDDM (i : Nat) : Nat := 0x300108 + i * 0x8000
abbrev FLU_SFPDDM_TEMP (i : Nat) : Fld := ⟨FLU_SFPDDM i, 31, 16⟩
abbrev FLU_SFPDDM_BIAS (i : Nat) : Fld := ⟨FLU_SFPDDM i, 15, 0⟩
/-- R356. -/
abbrev FLU_SFPLIFE (i : Nat) : Nat := 0x30010C + i * 0x8000
abbrev FLU_SFPLIFE_WEAR (i : Nat) : Fld := ⟨FLU_SFPLIFE i, 31, 24⟩
abbrev FLU_SFPLIFE_NDAYS (i : Nat) : Fld := ⟨FLU_SFPLIFE i, 23, 16⟩
abbrev FLU_SFPLIFE_DAYS (i : Nat) : Fld := ⟨FLU_SFPLIFE i, 15, 0⟩
/-- R356. -/
abbrev FLU_SFPB0 (i : Nat) : Nat := 0x300110 + i * 0x8000
abbrev FLU_SFPB0_BVALID (i : Nat) : Fld := ⟨FLU_SFPB0 i, 31, 31⟩
abbrev FLU_SFPB0_B0 (i : Nat) : Fld := ⟨FLU_SFPB0 i, 15, 0⟩
/-- R356. -/
abbrev FLU_SFPSN (i : Nat) : Nat := 0x300114 + i * 0x8000
abbrev FLU_SFPSN_SNCRC (i : Nat) : Fld := ⟨FLU_SFPSN i, 31, 0⟩
/-- R356. -/
abbrev FLU_SFPA0 (i j : Nat) : Nat := 0x300400 + i * 0x8000 + j * 0x4
/-- R356. -/
abbrev FLU_SFPA2 (i j : Nat) : Nat := 0x300480 + i * 0x8000 + j * 0x4
/-- R56. -/
abbrev FLU_CGRP (i : Nat) : Nat := 0x300FFC + i * 0x8000
abbrev FLU_CGRP_PEND (i : Nat) : Fld := ⟨FLU_CGRP i, 31, 31⟩
abbrev FLU_CGRP_REJ (i : Nat) : Fld := ⟨FLU_CGRP i, 30, 30⟩
abbrev FLU_CGRP_GROUP (i : Nat) : Fld := ⟨FLU_CGRP i, 3, 0⟩
/-- R328. -/
abbrev FLU_ST_W0 (i j : Nat) : Nat := 0x301000 + i * 0x8000 + j * 0x20
abbrev FLU_ST_W0_EN (i j : Nat) : Fld := ⟨FLU_ST_W0 i j, 31, 31⟩
abbrev FLU_ST_W0_PORTS (i j : Nat) : Fld := ⟨FLU_ST_W0 i j, 30, 28⟩
abbrev FLU_ST_W0_KIND (i j : Nat) : Fld := ⟨FLU_ST_W0 i j, 27, 26⟩
abbrev FLU_ST_W0_ENC (i j : Nat) : Fld := ⟨FLU_ST_W0 i j, 25, 24⟩
abbrev FLU_ST_W0_PRIO (i j : Nat) : Fld := ⟨FLU_ST_W0 i j, 23, 21⟩
abbrev FLU_ST_W0_IPV6 (i j : Nat) : Fld := ⟨FLU_ST_W0 i j, 20, 20⟩
abbrev FLU_ST_W0_VLAN (i j : Nat) : Fld := ⟨FLU_ST_W0 i j, 19, 19⟩
abbrev FLU_ST_W0_LSTREAM (i j : Nat) : Fld := ⟨FLU_ST_W0 i j, 18, 16⟩
abbrev FLU_ST_W0_LANE (i j : Nat) : Fld := ⟨FLU_ST_W0 i j, 14, 8⟩
abbrev FLU_ST_W0_FORMAT (i j : Nat) : Fld := ⟨FLU_ST_W0 i j, 7, 0⟩
/-- R328. -/
abbrev FLU_ST_W1 (i j : Nat) : Nat := 0x301004 + i * 0x8000 + j * 0x20
abbrev FLU_ST_W1_DPORT (i j : Nat) : Fld := ⟨FLU_ST_W1 i j, 31, 16⟩
abbrev FLU_ST_W1_SPORT (i j : Nat) : Fld := ⟨FLU_ST_W1 i j, 15, 0⟩
/-- R328. -/
abbrev FLU_ST_W2 (i j : Nat) : Nat := 0x301008 + i * 0x8000 + j * 0x20
abbrev FLU_ST_W2_DSCP (i j : Nat) : Fld := ⟨FLU_ST_W2 i j, 31, 26⟩
abbrev FLU_ST_W2_MAXQ (i j : Nat) : Fld := ⟨FLU_ST_W2 i j, 25, 16⟩
abbrev FLU_ST_W2_TCI (i j : Nat) : Fld := ⟨FLU_ST_W2 i j, 15, 0⟩
/-- R328. -/
abbrev FLU_ST_W3 (i j : Nat) : Nat := 0x30100C + i * 0x8000 + j * 0x20
abbrev FLU_ST_W3_RATE (i j : Nat) : Fld := ⟨FLU_ST_W3 i j, 31, 16⟩
abbrev FLU_ST_W3_BURST (i j : Nat) : Fld := ⟨FLU_ST_W3 i j, 15, 0⟩
/-- R328. -/
abbrev FLU_ST_W4 (i j : Nat) : Nat := 0x301010 + i * 0x8000 + j * 0x20
abbrev FLU_ST_W4_DADDR (i j : Nat) : Fld := ⟨FLU_ST_W4 i j, 31, 0⟩
/-- R328. -/
abbrev FLU_ST_W5 (i j : Nat) : Nat := 0x301014 + i * 0x8000 + j * 0x20
abbrev FLU_ST_W5_DADDR (i j : Nat) : Fld := ⟨FLU_ST_W5 i j, 31, 0⟩
/-- R328. -/
abbrev FLU_ST_W6 (i j : Nat) : Nat := 0x301018 + i * 0x8000 + j * 0x20
abbrev FLU_ST_W6_DADDR (i j : Nat) : Fld := ⟨FLU_ST_W6 i j, 31, 0⟩
/-- R328. -/
abbrev FLU_ST_W7 (i j : Nat) : Nat := 0x30101C + i * 0x8000 + j * 0x20
abbrev FLU_ST_W7_DADDR (i j : Nat) : Fld := ⟨FLU_ST_W7 i j, 31, 0⟩
/-- R56. -/
abbrev FLU_ST_CGRP (i : Nat) : Nat := 0x301FFC + i * 0x8000
abbrev FLU_ST_CGRP_PEND (i : Nat) : Fld := ⟨FLU_ST_CGRP i, 31, 31⟩
abbrev FLU_ST_CGRP_REJ (i : Nat) : Fld := ⟨FLU_ST_CGRP i, 30, 30⟩
abbrev FLU_ST_CGRP_GROUP (i : Nat) : Fld := ⟨FLU_ST_CGRP i, 3, 0⟩
/-- R328. -/
abbrev FLU_SU_W0 (i j : Nat) : Nat := 0x302000 + i * 0x8000 + j * 0x20
abbrev FLU_SU_W0_EN (i j : Nat) : Fld := ⟨FLU_SU_W0 i j, 31, 31⟩
abbrev FLU_SU_W0_PORTS (i j : Nat) : Fld := ⟨FLU_SU_W0 i j, 30, 28⟩
abbrev FLU_SU_W0_KIND (i j : Nat) : Fld := ⟨FLU_SU_W0 i j, 27, 26⟩
abbrev FLU_SU_W0_ENC (i j : Nat) : Fld := ⟨FLU_SU_W0 i j, 25, 24⟩
abbrev FLU_SU_W0_PRIO (i j : Nat) : Fld := ⟨FLU_SU_W0 i j, 23, 21⟩
abbrev FLU_SU_W0_IPV6 (i j : Nat) : Fld := ⟨FLU_SU_W0 i j, 20, 20⟩
abbrev FLU_SU_W0_VLAN (i j : Nat) : Fld := ⟨FLU_SU_W0 i j, 19, 19⟩
abbrev FLU_SU_W0_LSTREAM (i j : Nat) : Fld := ⟨FLU_SU_W0 i j, 18, 16⟩
abbrev FLU_SU_W0_LANE (i j : Nat) : Fld := ⟨FLU_SU_W0 i j, 14, 8⟩
abbrev FLU_SU_W0_FORMAT (i j : Nat) : Fld := ⟨FLU_SU_W0 i j, 7, 0⟩
/-- R328. -/
abbrev FLU_SU_W1 (i j : Nat) : Nat := 0x302004 + i * 0x8000 + j * 0x20
abbrev FLU_SU_W1_DPORT (i j : Nat) : Fld := ⟨FLU_SU_W1 i j, 31, 16⟩
abbrev FLU_SU_W1_SPORT (i j : Nat) : Fld := ⟨FLU_SU_W1 i j, 15, 0⟩
/-- R328. -/
abbrev FLU_SU_W2 (i j : Nat) : Nat := 0x302008 + i * 0x8000 + j * 0x20
abbrev FLU_SU_W2_DSCP (i j : Nat) : Fld := ⟨FLU_SU_W2 i j, 31, 26⟩
abbrev FLU_SU_W2_MAXQ (i j : Nat) : Fld := ⟨FLU_SU_W2 i j, 25, 16⟩
abbrev FLU_SU_W2_TCI (i j : Nat) : Fld := ⟨FLU_SU_W2 i j, 15, 0⟩
/-- R328. -/
abbrev FLU_SU_W3 (i j : Nat) : Nat := 0x30200C + i * 0x8000 + j * 0x20
abbrev FLU_SU_W3_RATE (i j : Nat) : Fld := ⟨FLU_SU_W3 i j, 31, 16⟩
abbrev FLU_SU_W3_BURST (i j : Nat) : Fld := ⟨FLU_SU_W3 i j, 15, 0⟩
/-- R328. -/
abbrev FLU_SU_W4 (i j : Nat) : Nat := 0x302010 + i * 0x8000 + j * 0x20
abbrev FLU_SU_W4_DADDR (i j : Nat) : Fld := ⟨FLU_SU_W4 i j, 31, 0⟩
/-- R328. -/
abbrev FLU_SU_W5 (i j : Nat) : Nat := 0x302014 + i * 0x8000 + j * 0x20
abbrev FLU_SU_W5_DADDR (i j : Nat) : Fld := ⟨FLU_SU_W5 i j, 31, 0⟩
/-- R328. -/
abbrev FLU_SU_W6 (i j : Nat) : Nat := 0x302018 + i * 0x8000 + j * 0x20
abbrev FLU_SU_W6_DADDR (i j : Nat) : Fld := ⟨FLU_SU_W6 i j, 31, 0⟩
/-- R328. -/
abbrev FLU_SU_W7 (i j : Nat) : Nat := 0x30201C + i * 0x8000 + j * 0x20
abbrev FLU_SU_W7_DADDR (i j : Nat) : Fld := ⟨FLU_SU_W7 i j, 31, 0⟩
/-- R56. -/
abbrev FLU_SU_CGRP (i : Nat) : Nat := 0x302FFC + i * 0x8000
abbrev FLU_SU_CGRP_PEND (i : Nat) : Fld := ⟨FLU_SU_CGRP i, 31, 31⟩
abbrev FLU_SU_CGRP_REJ (i : Nat) : Fld := ⟨FLU_SU_CGRP i, 30, 30⟩
abbrev FLU_SU_CGRP_GROUP (i : Nat) : Fld := ⟨FLU_SU_CGRP i, 3, 0⟩
/-- R328. -/
abbrev HF_ST_W0 (j : Nat) : Nat := 0x30D000 + j * 0x20
abbrev HF_ST_W0_EN (j : Nat) : Fld := ⟨HF_ST_W0 j, 31, 31⟩
abbrev HF_ST_W0_PORTS (j : Nat) : Fld := ⟨HF_ST_W0 j, 30, 28⟩
abbrev HF_ST_W0_KIND (j : Nat) : Fld := ⟨HF_ST_W0 j, 27, 26⟩
abbrev HF_ST_W0_ENC (j : Nat) : Fld := ⟨HF_ST_W0 j, 25, 24⟩
abbrev HF_ST_W0_PRIO (j : Nat) : Fld := ⟨HF_ST_W0 j, 23, 21⟩
abbrev HF_ST_W0_IPV6 (j : Nat) : Fld := ⟨HF_ST_W0 j, 20, 20⟩
abbrev HF_ST_W0_VLAN (j : Nat) : Fld := ⟨HF_ST_W0 j, 19, 19⟩
abbrev HF_ST_W0_LSTREAM (j : Nat) : Fld := ⟨HF_ST_W0 j, 18, 16⟩
abbrev HF_ST_W0_LANE (j : Nat) : Fld := ⟨HF_ST_W0 j, 14, 8⟩
abbrev HF_ST_W0_FORMAT (j : Nat) : Fld := ⟨HF_ST_W0 j, 7, 0⟩
/-- R328. -/
abbrev HF_ST_W1 (j : Nat) : Nat := 0x30D004 + j * 0x20
abbrev HF_ST_W1_DPORT (j : Nat) : Fld := ⟨HF_ST_W1 j, 31, 16⟩
abbrev HF_ST_W1_SPORT (j : Nat) : Fld := ⟨HF_ST_W1 j, 15, 0⟩
/-- R328. -/
abbrev HF_ST_W2 (j : Nat) : Nat := 0x30D008 + j * 0x20
abbrev HF_ST_W2_DSCP (j : Nat) : Fld := ⟨HF_ST_W2 j, 31, 26⟩
abbrev HF_ST_W2_MAXQ (j : Nat) : Fld := ⟨HF_ST_W2 j, 25, 16⟩
abbrev HF_ST_W2_TCI (j : Nat) : Fld := ⟨HF_ST_W2 j, 15, 0⟩
/-- R328. -/
abbrev HF_ST_W3 (j : Nat) : Nat := 0x30D00C + j * 0x20
abbrev HF_ST_W3_RATE (j : Nat) : Fld := ⟨HF_ST_W3 j, 31, 16⟩
abbrev HF_ST_W3_BURST (j : Nat) : Fld := ⟨HF_ST_W3 j, 15, 0⟩
/-- R328. -/
abbrev HF_ST_W4 (j : Nat) : Nat := 0x30D010 + j * 0x20
abbrev HF_ST_W4_DADDR (j : Nat) : Fld := ⟨HF_ST_W4 j, 31, 0⟩
/-- R328. -/
abbrev HF_ST_W5 (j : Nat) : Nat := 0x30D014 + j * 0x20
abbrev HF_ST_W5_DADDR (j : Nat) : Fld := ⟨HF_ST_W5 j, 31, 0⟩
/-- R328. -/
abbrev HF_ST_W6 (j : Nat) : Nat := 0x30D018 + j * 0x20
abbrev HF_ST_W6_DADDR (j : Nat) : Fld := ⟨HF_ST_W6 j, 31, 0⟩
/-- R328. -/
abbrev HF_ST_W7 (j : Nat) : Nat := 0x30D01C + j * 0x20
abbrev HF_ST_W7_DADDR (j : Nat) : Fld := ⟨HF_ST_W7 j, 31, 0⟩
/-- R56. -/
abbrev HF_ST_CGRP : Nat := 0x30DFFC
abbrev HF_ST_CGRP_PEND : Fld := ⟨HF_ST_CGRP, 31, 31⟩
abbrev HF_ST_CGRP_REJ : Fld := ⟨HF_ST_CGRP, 30, 30⟩
abbrev HF_ST_CGRP_GROUP : Fld := ⟨HF_ST_CGRP, 3, 0⟩
/-- R328. -/
abbrev HF_SU_W0 (j : Nat) : Nat := 0x30E000 + j * 0x20
abbrev HF_SU_W0_EN (j : Nat) : Fld := ⟨HF_SU_W0 j, 31, 31⟩
abbrev HF_SU_W0_PORTS (j : Nat) : Fld := ⟨HF_SU_W0 j, 30, 28⟩
abbrev HF_SU_W0_KIND (j : Nat) : Fld := ⟨HF_SU_W0 j, 27, 26⟩
abbrev HF_SU_W0_ENC (j : Nat) : Fld := ⟨HF_SU_W0 j, 25, 24⟩
abbrev HF_SU_W0_PRIO (j : Nat) : Fld := ⟨HF_SU_W0 j, 23, 21⟩
abbrev HF_SU_W0_IPV6 (j : Nat) : Fld := ⟨HF_SU_W0 j, 20, 20⟩
abbrev HF_SU_W0_VLAN (j : Nat) : Fld := ⟨HF_SU_W0 j, 19, 19⟩
abbrev HF_SU_W0_LSTREAM (j : Nat) : Fld := ⟨HF_SU_W0 j, 18, 16⟩
abbrev HF_SU_W0_LANE (j : Nat) : Fld := ⟨HF_SU_W0 j, 14, 8⟩
abbrev HF_SU_W0_FORMAT (j : Nat) : Fld := ⟨HF_SU_W0 j, 7, 0⟩
/-- R328. -/
abbrev HF_SU_W1 (j : Nat) : Nat := 0x30E004 + j * 0x20
abbrev HF_SU_W1_DPORT (j : Nat) : Fld := ⟨HF_SU_W1 j, 31, 16⟩
abbrev HF_SU_W1_SPORT (j : Nat) : Fld := ⟨HF_SU_W1 j, 15, 0⟩
/-- R328. -/
abbrev HF_SU_W2 (j : Nat) : Nat := 0x30E008 + j * 0x20
abbrev HF_SU_W2_DSCP (j : Nat) : Fld := ⟨HF_SU_W2 j, 31, 26⟩
abbrev HF_SU_W2_MAXQ (j : Nat) : Fld := ⟨HF_SU_W2 j, 25, 16⟩
abbrev HF_SU_W2_TCI (j : Nat) : Fld := ⟨HF_SU_W2 j, 15, 0⟩
/-- R328. -/
abbrev HF_SU_W3 (j : Nat) : Nat := 0x30E00C + j * 0x20
abbrev HF_SU_W3_RATE (j : Nat) : Fld := ⟨HF_SU_W3 j, 31, 16⟩
abbrev HF_SU_W3_BURST (j : Nat) : Fld := ⟨HF_SU_W3 j, 15, 0⟩
/-- R328. -/
abbrev HF_SU_W4 (j : Nat) : Nat := 0x30E010 + j * 0x20
abbrev HF_SU_W4_DADDR (j : Nat) : Fld := ⟨HF_SU_W4 j, 31, 0⟩
/-- R328. -/
abbrev HF_SU_W5 (j : Nat) : Nat := 0x30E014 + j * 0x20
abbrev HF_SU_W5_DADDR (j : Nat) : Fld := ⟨HF_SU_W5 j, 31, 0⟩
/-- R328. -/
abbrev HF_SU_W6 (j : Nat) : Nat := 0x30E018 + j * 0x20
abbrev HF_SU_W6_DADDR (j : Nat) : Fld := ⟨HF_SU_W6 j, 31, 0⟩
/-- R328. -/
abbrev HF_SU_W7 (j : Nat) : Nat := 0x30E01C + j * 0x20
abbrev HF_SU_W7_DADDR (j : Nat) : Fld := ⟨HF_SU_W7 j, 31, 0⟩
/-- R56. -/
abbrev HF_SU_CGRP : Nat := 0x30EFFC
abbrev HF_SU_CGRP_PEND : Fld := ⟨HF_SU_CGRP, 31, 31⟩
abbrev HF_SU_CGRP_REJ : Fld := ⟨HF_SU_CGRP, 30, 30⟩
abbrev HF_SU_CGRP_GROUP : Fld := ⟨HF_SU_CGRP, 3, 0⟩
/-- R356. -/
abbrev FLU_CUNITS (i j : Nat) : Nat := 0x303000 + i * 0x8000 + j * 0x10
/-- R356. -/
abbrev HF_CUNITS (j : Nat) : Nat := 0x30F000 + j * 0x10
/-- R356. -/
abbrev FLU_CFRAMES (i j : Nat) : Nat := 0x303004 + i * 0x8000 + j * 0x10
/-- R356. -/
abbrev HF_CFRAMES (j : Nat) : Nat := 0x30F004 + j * 0x10
/-- R356. -/
abbrev FLU_CDROPS (i j : Nat) : Nat := 0x303008 + i * 0x8000 + j * 0x10
/-- R356. -/
abbrev HF_CDROPS (j : Nat) : Nat := 0x30F008 + j * 0x10
/-- R356. -/
abbrev FLU_CGAPQ (i j : Nat) : Nat := 0x30300C + i * 0x8000 + j * 0x10
abbrev FLU_CGAPQ_GAPS (i j : Nat) : Fld := ⟨FLU_CGAPQ i j, 31, 16⟩
abbrev FLU_CGAPQ_QKIB (i j : Nat) : Fld := ⟨FLU_CGAPQ i j, 15, 0⟩
/-- R356. -/
abbrev HF_CGAPQ (j : Nat) : Nat := 0x30F00C + j * 0x10
abbrev HF_CGAPQ_GAPS (j : Nat) : Fld := ⟨HF_CGAPQ j, 31, 16⟩
abbrev HF_CGAPQ_QKIB (j : Nat) : Fld := ⟨HF_CGAPQ j, 15, 0⟩
/-- R356. -/
abbrev HF_CTL : Nat := 0x30C000
abbrev HF_CTL_EN : Fld := ⟨HF_CTL, 31, 31⟩
abbrev HF_CTL_RUN : Fld := ⟨HF_CTL, 30, 30⟩
abbrev HF_CTL_LOG2N : Fld := ⟨HF_CTL, 4, 0⟩
/-- R356. -/
abbrev HF_EVT : Nat := 0x30C008
abbrev HF_EVT_SEQ : Fld := ⟨HF_EVT, 31, 24⟩
abbrev HF_EVT_DMAERR : Fld := ⟨HF_EVT, 4, 4⟩
abbrev HF_EVT_BADDESC : Fld := ⟨HF_EVT, 3, 3⟩
abbrev HF_EVT_STOPPED : Fld := ⟨HF_EVT, 2, 2⟩
abbrev HF_EVT_DROP : Fld := ⟨HF_EVT, 1, 1⟩
abbrev HF_EVT_NODESC : Fld := ⟨HF_EVT, 0, 0⟩
/-- R356. -/
abbrev HF_EVT_EN : Nat := 0x30C00C
abbrev HF_EVT_EN_DMAERR : Fld := ⟨HF_EVT_EN, 4, 4⟩
abbrev HF_EVT_EN_BADDESC : Fld := ⟨HF_EVT_EN, 3, 3⟩
abbrev HF_EVT_EN_STOPPED : Fld := ⟨HF_EVT_EN, 2, 2⟩
abbrev HF_EVT_EN_DROP : Fld := ⟨HF_EVT_EN, 1, 1⟩
abbrev HF_EVT_EN_NODESC : Fld := ⟨HF_EVT_EN, 0, 0⟩
/-- R356. -/
abbrev HF_RING_LO : Nat := 0x30C010
/-- R356. -/
abbrev HF_RING_HI : Nat := 0x30C014
/-- R356. -/
abbrev HF_TAIL : Nat := 0x30C018
/-- R356. -/
abbrev HF_HEAD : Nat := 0x30C01C
/-- R356. -/
abbrev HF_TLMEN (i : Nat) : Nat := 0x30C074 + i * 0x4
/-- R356. -/
abbrev HF_TLMINT : Nat := 0x30C088
abbrev HF_TLMINT_INT : Fld := ⟨HF_TLMINT, 15, 0⟩
/-- R56. -/
abbrev HF_CGRP : Nat := 0x30CFFC
abbrev HF_CGRP_PEND : Fld := ⟨HF_CGRP, 31, 31⟩
abbrev HF_CGRP_REJ : Fld := ⟨HF_CGRP, 30, 30⟩
abbrev HF_CGRP_GROUP : Fld := ⟨HF_CGRP, 3, 0⟩
/-- R356. -/
abbrev FLU_PTPCFG : Nat := 0x304000
abbrev FLU_PTPCFG_EN : Fld := ⟨FLU_PTPCFG, 31, 31⟩
abbrev FLU_PTPCFG_MODE : Fld := ⟨FLU_PTPCFG, 30, 29⟩
abbrev FLU_PTPCFG_PORT : Fld := ⟨FLU_PTPCFG, 28, 28⟩
abbrev FLU_PTPCFG_AUTOPORT : Fld := ⟨FLU_PTPCFG, 27, 27⟩
abbrev FLU_PTPCFG_TRANSPORT : Fld := ⟨FLU_PTPCFG, 26, 25⟩
abbrev FLU_PTPCFG_DOMAIN : Fld := ⟨FLU_PTPCFG, 15, 8⟩
abbrev FLU_PTPCFG_LOGSYNC : Fld := ⟨FLU_PTPCFG, 7, 4⟩
abbrev FLU_PTPCFG_LOGDREQ : Fld := ⟨FLU_PTPCFG, 3, 0⟩
/-- R356. -/
abbrev FLU_PTPANN : Nat := 0x304004
abbrev FLU_PTPANN_PRIO1 : Fld := ⟨FLU_PTPANN, 31, 24⟩
abbrev FLU_PTPANN_PRIO2 : Fld := ⟨FLU_PTPANN, 23, 16⟩
abbrev FLU_PTPANN_CLASS : Fld := ⟨FLU_PTPANN, 15, 8⟩
/-- R356. -/
abbrev FLU_PTPSTAT : Nat := 0x304008
abbrev FLU_PTPSTAT_STATE : Fld := ⟨FLU_PTPSTAT, 31, 28⟩
abbrev FLU_PTPSTAT_LOCKED : Fld := ⟨FLU_PTPSTAT, 27, 27⟩
abbrev FLU_PTPSTAT_PORTNOW : Fld := ⟨FLU_PTPSTAT, 26, 26⟩
/-- R356. -/
abbrev FLU_PTPOFS : Nat := 0x30400C
abbrev FLU_PTPOFS_OFS : Fld := ⟨FLU_PTPOFS, 31, 0⟩
/-- R356. -/
abbrev FLU_PTPDLY : Nat := 0x304010
abbrev FLU_PTPDLY_DELAY : Fld := ⟨FLU_PTPDLY, 31, 0⟩
/-- R356. -/
abbrev FLU_PPSCFG : Nat := 0x304020
abbrev FLU_PPSCFG_OUTEN : Fld := ⟨FLU_PPSCFG, 31, 31⟩
abbrev FLU_PPSCFG_QUAL : Fld := ⟨FLU_PPSCFG, 30, 30⟩
abbrev FLU_PPSCFG_INEN : Fld := ⟨FLU_PPSCFG, 29, 29⟩
abbrev FLU_PPSCFG_WIDTH : Fld := ⟨FLU_PPSCFG, 8, 0⟩
/-- R356. -/
abbrev FLU_PTPGM_LO : Nat := 0x304014
/-- R356. -/
abbrev FLU_PTPGM_HI : Nat := 0x304018
/-- R356. -/
abbrev FLU_PPSIN_LO : Nat := 0x304024
/-- R356. -/
abbrev FLU_PPSIN_HI : Nat := 0x304028
/-- R356. -/
abbrev FLU_SEVT : Nat := 0x304030
abbrev FLU_SEVT_SEQ : Fld := ⟨FLU_SEVT, 31, 24⟩
abbrev FLU_SEVT_PPSIN : Fld := ⟨FLU_SEVT, 5, 5⟩
abbrev FLU_SEVT_GMCHG : Fld := ⟨FLU_SEVT, 4, 4⟩
abbrev FLU_SEVT_PTPPORT : Fld := ⟨FLU_SEVT, 3, 3⟩
abbrev FLU_SEVT_STEP : Fld := ⟨FLU_SEVT, 2, 2⟩
abbrev FLU_SEVT_UNLOCK : Fld := ⟨FLU_SEVT, 1, 1⟩
abbrev FLU_SEVT_LOCK : Fld := ⟨FLU_SEVT, 0, 0⟩
/-- R356. -/
abbrev FLU_SEVT_EN : Nat := 0x304034
abbrev FLU_SEVT_EN_PPSIN : Fld := ⟨FLU_SEVT_EN, 5, 5⟩
abbrev FLU_SEVT_EN_GMCHG : Fld := ⟨FLU_SEVT_EN, 4, 4⟩
abbrev FLU_SEVT_EN_PTPPORT : Fld := ⟨FLU_SEVT_EN, 3, 3⟩
abbrev FLU_SEVT_EN_STEP : Fld := ⟨FLU_SEVT_EN, 2, 2⟩
abbrev FLU_SEVT_EN_UNLOCK : Fld := ⟨FLU_SEVT_EN, 1, 1⟩
abbrev FLU_SEVT_EN_LOCK : Fld := ⟨FLU_SEVT_EN, 0, 0⟩
/-- R56. -/
abbrev FLU_SH_CGRP : Nat := 0x304FFC
abbrev FLU_SH_CGRP_PEND : Fld := ⟨FLU_SH_CGRP, 31, 31⟩
abbrev FLU_SH_CGRP_REJ : Fld := ⟨FLU_SH_CGRP, 30, 30⟩
abbrev FLU_SH_CGRP_GROUP : Fld := ⟨FLU_SH_CGRP, 3, 0⟩
/-- R377. -/
abbrev AUD_TONE_F : Nat := 0x310000
abbrev AUD_TONE_F_F1 : Fld := ⟨AUD_TONE_F, 31, 16⟩
abbrev AUD_TONE_F_F2 : Fld := ⟨AUD_TONE_F, 15, 0⟩
/-- R377. -/
abbrev AUD_TONE_C : Nat := 0x310004
abbrev AUD_TONE_C_FORCE : Fld := ⟨AUD_TONE_C, 31, 31⟩
abbrev AUD_TONE_C_ALT : Fld := ⟨AUD_TONE_C, 30, 30⟩
abbrev AUD_TONE_C_LEVEL : Fld := ⟨AUD_TONE_C, 23, 16⟩
abbrev AUD_TONE_C_ON : Fld := ⟨AUD_TONE_C, 15, 8⟩
abbrev AUD_TONE_C_OFF : Fld := ⟨AUD_TONE_C, 7, 0⟩
/-- R377. -/
abbrev AUD_GSTAT : Nat := 0x310008
abbrev AUD_GSTAT_MCLKOK : Fld := ⟨AUD_GSTAT, 31, 31⟩
abbrev AUD_GSTAT_TONE : Fld := ⟨AUD_GSTAT, 30, 30⟩
abbrev AUD_GSTAT_FEEDS : Fld := ⟨AUD_GSTAT, 29, 24⟩
abbrev AUD_GSTAT_MCLK : Fld := ⟨AUD_GSTAT, 23, 0⟩
/-- R377. -/
abbrev AUD_GEVT : Nat := 0x310010
abbrev AUD_GEVT_SEQ : Fld := ⟨AUD_GEVT, 31, 24⟩
abbrev AUD_GEVT_TONEOFF : Fld := ⟨AUD_GEVT, 3, 3⟩
abbrev AUD_GEVT_TONEON : Fld := ⟨AUD_GEVT, 2, 2⟩
abbrev AUD_GEVT_MCLKOK : Fld := ⟨AUD_GEVT, 1, 1⟩
abbrev AUD_GEVT_MCLKLOST : Fld := ⟨AUD_GEVT, 0, 0⟩
/-- R377. -/
abbrev AUD_GEVT_EN : Nat := 0x310014
abbrev AUD_GEVT_EN_TONEOFF : Fld := ⟨AUD_GEVT_EN, 3, 3⟩
abbrev AUD_GEVT_EN_TONEON : Fld := ⟨AUD_GEVT_EN, 2, 2⟩
abbrev AUD_GEVT_EN_MCLKOK : Fld := ⟨AUD_GEVT_EN, 1, 1⟩
abbrev AUD_GEVT_EN_MCLKLOST : Fld := ⟨AUD_GEVT_EN, 0, 0⟩
/-- R56. -/
abbrev AUD_G_CGRP : Nat := 0x310FFC
abbrev AUD_G_CGRP_PEND : Fld := ⟨AUD_G_CGRP, 31, 31⟩
abbrev AUD_G_CGRP_REJ : Fld := ⟨AUD_G_CGRP, 30, 30⟩
abbrev AUD_G_CGRP_GROUP : Fld := ⟨AUD_G_CGRP, 3, 0⟩
/-- R377. -/
abbrev AUD_CTL (i : Nat) : Nat := 0x311000 + i * 0x1000
abbrev AUD_CTL_EN (i : Nat) : Fld := ⟨AUD_CTL i, 31, 31⟩
abbrev AUD_CTL_MASTER (i : Nat) : Fld := ⟨AUD_CTL i, 30, 30⟩
abbrev AUD_CTL_FMT (i : Nat) : Fld := ⟨AUD_CTL i, 29, 28⟩
abbrev AUD_CTL_AUTOHEAL (i : Nat) : Fld := ⟨AUD_CTL i, 27, 27⟩
abbrev AUD_CTL_BCLKINV (i : Nat) : Fld := ⟨AUD_CTL i, 26, 26⟩
abbrev AUD_CTL_FSINV (i : Nat) : Fld := ⟨AUD_CTL i, 25, 25⟩
abbrev AUD_CTL_DELAY (i : Nat) : Fld := ⟨AUD_CTL i, 24, 24⟩
abbrev AUD_CTL_SLOTS (i : Nat) : Fld := ⟨AUD_CTL i, 19, 16⟩
abbrev AUD_CTL_SWIDTH (i : Nat) : Fld := ⟨AUD_CTL i, 13, 12⟩
abbrev AUD_CTL_SAMPW (i : Nat) : Fld := ⟨AUD_CTL i, 11, 10⟩
abbrev AUD_CTL_MDIV (i : Nat) : Fld := ⟨AUD_CTL i, 7, 0⟩
/-- R377. -/
abbrev AUD_MASK (i : Nat) : Nat := 0x311004 + i * 0x1000
abbrev AUD_MASK_RXMASK (i : Nat) : Fld := ⟨AUD_MASK i, 31, 16⟩
abbrev AUD_MASK_TXMASK (i : Nat) : Fld := ⟨AUD_MASK i, 15, 0⟩
/-- R377. -/
abbrev AUD_RATE (i : Nat) : Nat := 0x311008 + i * 0x1000
abbrev AUD_RATE_NOM (i : Nat) : Fld := ⟨AUD_RATE i, 31, 28⟩
abbrev AUD_RATE_RATE (i : Nat) : Fld := ⟨AUD_RATE i, 24, 0⟩
/-- R377. -/
abbrev AUD_STAT (i : Nat) : Nat := 0x31100C + i * 0x1000
abbrev AUD_STAT_LOCK_TX (i : Nat) : Fld := ⟨AUD_STAT i, 31, 31⟩
abbrev AUD_STAT_LOCK_RX (i : Nat) : Fld := ⟨AUD_STAT i, 30, 30⟩
abbrev AUD_STAT_CLKLOST (i : Nat) : Fld := ⟨AUD_STAT i, 29, 29⟩
abbrev AUD_STAT_MUTED_TX (i : Nat) : Fld := ⟨AUD_STAT i, 28, 28⟩
abbrev AUD_STAT_MUTED_RX (i : Nat) : Fld := ⟨AUD_STAT i, 27, 27⟩
abbrev AUD_STAT_ROTTX (i : Nat) : Fld := ⟨AUD_STAT i, 15, 12⟩
abbrev AUD_STAT_ROTRX (i : Nat) : Fld := ⟨AUD_STAT i, 11, 8⟩
abbrev AUD_STAT_RJCODE (i : Nat) : Fld := ⟨AUD_STAT i, 7, 0⟩
/-- R377. -/
abbrev AUD_TXRATIO_LO (i : Nat) : Nat := 0x311010 + i * 0x1000
abbrev AUD_TXRATIO_LO_FRAC (i : Nat) : Fld := ⟨AUD_TXRATIO_LO i, 31, 0⟩
/-- R377. -/
abbrev AUD_TXRATIO_HI (i : Nat) : Nat := 0x311014 + i * 0x1000
abbrev AUD_TXRATIO_HI_INT (i : Nat) : Fld := ⟨AUD_TXRATIO_HI i, 3, 0⟩
/-- R377. -/
abbrev AUD_RXRATIO_LO (i : Nat) : Nat := 0x311018 + i * 0x1000
abbrev AUD_RXRATIO_LO_FRAC (i : Nat) : Fld := ⟨AUD_RXRATIO_LO i, 31, 0⟩
/-- R377. -/
abbrev AUD_RXRATIO_HI (i : Nat) : Nat := 0x31101C + i * 0x1000
abbrev AUD_RXRATIO_HI_INT (i : Nat) : Fld := ⟨AUD_RXRATIO_HI i, 3, 0⟩
/-- R377. -/
abbrev AUD_EVT (i : Nat) : Nat := 0x311020 + i * 0x1000
abbrev AUD_EVT_SEQ (i : Nat) : Fld := ⟨AUD_EVT i, 31, 24⟩
abbrev AUD_EVT_HEALED (i : Nat) : Fld := ⟨AUD_EVT i, 7, 7⟩
abbrev AUD_EVT_LANEGAP (i : Nat) : Fld := ⟨AUD_EVT i, 6, 6⟩
abbrev AUD_EVT_SLIP (i : Nat) : Fld := ⟨AUD_EVT i, 5, 5⟩
abbrev AUD_EVT_GLITCH (i : Nat) : Fld := ⟨AUD_EVT i, 4, 4⟩
abbrev AUD_EVT_RATECHG (i : Nat) : Fld := ⟨AUD_EVT i, 3, 3⟩
abbrev AUD_EVT_CLKBACK (i : Nat) : Fld := ⟨AUD_EVT i, 2, 2⟩
abbrev AUD_EVT_CLKLOST (i : Nat) : Fld := ⟨AUD_EVT i, 1, 1⟩
abbrev AUD_EVT_LOCKED (i : Nat) : Fld := ⟨AUD_EVT i, 0, 0⟩
/-- R377. -/
abbrev AUD_EVT_EN (i : Nat) : Nat := 0x311024 + i * 0x1000
abbrev AUD_EVT_EN_HEALED (i : Nat) : Fld := ⟨AUD_EVT_EN i, 7, 7⟩
abbrev AUD_EVT_EN_LANEGAP (i : Nat) : Fld := ⟨AUD_EVT_EN i, 6, 6⟩
abbrev AUD_EVT_EN_SLIP (i : Nat) : Fld := ⟨AUD_EVT_EN i, 5, 5⟩
abbrev AUD_EVT_EN_GLITCH (i : Nat) : Fld := ⟨AUD_EVT_EN i, 4, 4⟩
abbrev AUD_EVT_EN_RATECHG (i : Nat) : Fld := ⟨AUD_EVT_EN i, 3, 3⟩
abbrev AUD_EVT_EN_CLKBACK (i : Nat) : Fld := ⟨AUD_EVT_EN i, 2, 2⟩
abbrev AUD_EVT_EN_CLKLOST (i : Nat) : Fld := ⟨AUD_EVT_EN i, 1, 1⟩
abbrev AUD_EVT_EN_LOCKED (i : Nat) : Fld := ⟨AUD_EVT_EN i, 0, 0⟩
/-- R377. -/
abbrev AUD_CNT (i : Nat) : Nat := 0x311028 + i * 0x1000
abbrev AUD_CNT_GLITCH (i : Nat) : Fld := ⟨AUD_CNT i, 31, 16⟩
abbrev AUD_CNT_TXSLIP (i : Nat) : Fld := ⟨AUD_CNT i, 15, 8⟩
abbrev AUD_CNT_RXSLIP (i : Nat) : Fld := ⟨AUD_CNT i, 7, 0⟩
/-- R377. -/
abbrev AUD_ROUTE (i j : Nat) : Nat := 0x311100 + i * 0x1000 + j * 0x4
abbrev AUD_ROUTE_SRC (i j : Nat) : Fld := ⟨AUD_ROUTE i j, 31, 30⟩
abbrev AUD_ROUTE_TONEOVR (i j : Nat) : Fld := ⟨AUD_ROUTE i j, 29, 29⟩
abbrev AUD_ROUTE_INDEX (i j : Nat) : Fld := ⟨AUD_ROUTE i j, 22, 16⟩
abbrev AUD_ROUTE_LSTREAM (i j : Nat) : Fld := ⟨AUD_ROUTE i j, 14, 12⟩
abbrev AUD_ROUTE_CHAN (i j : Nat) : Fld := ⟨AUD_ROUTE i j, 11, 8⟩
abbrev AUD_ROUTE_ATTEN (i j : Nat) : Fld := ⟨AUD_ROUTE i j, 7, 0⟩
/-- R56. -/
abbrev AUD_CGRP (i : Nat) : Nat := 0x311FFC + i * 0x1000
abbrev AUD_CGRP_PEND (i : Nat) : Fld := ⟨AUD_CGRP i, 31, 31⟩
abbrev AUD_CGRP_REJ (i : Nat) : Fld := ⟨AUD_CGRP i, 30, 30⟩
abbrev AUD_CGRP_GROUP (i : Nat) : Fld := ⟨AUD_CGRP i, 3, 0⟩
/-- R428. -/
abbrev AUX_CFG (i : Nat) : Nat := 0x320000 + i * 0x1000
abbrev AUX_CFG_EN (i : Nat) : Fld := ⟨AUX_CFG i, 31, 31⟩
abbrev AUX_CFG_SPEED (i : Nat) : Fld := ⟨AUX_CFG i, 30, 29⟩
abbrev AUX_CFG_AUTOCLR (i : Nat) : Fld := ⟨AUX_CFG i, 28, 28⟩
abbrev AUX_CFG_WRETRY (i : Nat) : Fld := ⟨AUX_CFG i, 27, 27⟩
abbrev AUX_CFG_NAKRETRY (i : Nat) : Fld := ⟨AUX_CFG i, 26, 26⟩
abbrev AUX_CFG_SCLTMO (i : Nat) : Fld := ⟨AUX_CFG i, 23, 16⟩
abbrev AUX_CFG_RETRY (i : Nat) : Fld := ⟨AUX_CFG i, 15, 12⟩
abbrev AUX_CFG_RDELAY (i : Nat) : Fld := ⟨AUX_CFG i, 7, 4⟩
abbrev AUX_CFG_FILTER (i : Nat) : Fld := ⟨AUX_CFG i, 3, 0⟩
/-- R428. -/
abbrev AUX_CMD (i : Nat) : Nat := 0x320004 + i * 0x1000
abbrev AUX_CMD_OP (i : Nat) : Fld := ⟨AUX_CMD i, 31, 24⟩
abbrev AUX_CMD_TAG (i : Nat) : Fld := ⟨AUX_CMD i, 15, 8⟩
/-- R428. -/
abbrev AUX_CMDSTAT (i : Nat) : Nat := 0x320008 + i * 0x1000
abbrev AUX_CMDSTAT_OP (i : Nat) : Fld := ⟨AUX_CMDSTAT i, 31, 24⟩
abbrev AUX_CMDSTAT_STATUS (i : Nat) : Fld := ⟨AUX_CMDSTAT i, 23, 16⟩
abbrev AUX_CMDSTAT_TAG (i : Nat) : Fld := ⟨AUX_CMDSTAT i, 15, 8⟩
abbrev AUX_CMDSTAT_LOST (i : Nat) : Fld := ⟨AUX_CMDSTAT i, 1, 1⟩
abbrev AUX_CMDSTAT_BUSY (i : Nat) : Fld := ⟨AUX_CMDSTAT i, 0, 0⟩
/-- R428. -/
abbrev AUX_XFER (i : Nat) : Nat := 0x32000C + i * 0x1000
abbrev AUX_XFER_ADDR (i : Nat) : Fld := ⟨AUX_XFER i, 30, 24⟩
abbrev AUX_XFER_WLEN (i : Nat) : Fld := ⟨AUX_XFER i, 15, 8⟩
abbrev AUX_XFER_RLEN (i : Nat) : Fld := ⟨AUX_XFER i, 7, 0⟩
/-- R428. -/
abbrev AUX_XSTAT (i : Nat) : Nat := 0x320010 + i * 0x1000
abbrev AUX_XSTAT_WDONE (i : Nat) : Fld := ⟨AUX_XSTAT i, 31, 24⟩
abbrev AUX_XSTAT_RDONE (i : Nat) : Fld := ⟨AUX_XSTAT i, 23, 16⟩
abbrev AUX_XSTAT_TRIES (i : Nat) : Fld := ⟨AUX_XSTAT i, 15, 12⟩
abbrev AUX_XSTAT_BYTE (i : Nat) : Fld := ⟨AUX_XSTAT i, 11, 4⟩
abbrev AUX_XSTAT_BIT (i : Nat) : Fld := ⟨AUX_XSTAT i, 3, 0⟩
/-- R428. -/
abbrev AUX_STAT (i : Nat) : Nat := 0x320014 + i * 0x1000
abbrev AUX_STAT_FREE (i : Nat) : Fld := ⟨AUX_STAT i, 31, 31⟩
abbrev AUX_STAT_OWN (i : Nat) : Fld := ⟨AUX_STAT i, 30, 30⟩
abbrev AUX_STAT_SCLSTUCK (i : Nat) : Fld := ⟨AUX_STAT i, 29, 29⟩
abbrev AUX_STAT_SDASTUCK (i : Nat) : Fld := ⟨AUX_STAT i, 28, 28⟩
abbrev AUX_STAT_SCL (i : Nat) : Fld := ⟨AUX_STAT i, 27, 27⟩
abbrev AUX_STAT_SDA (i : Nat) : Fld := ⟨AUX_STAT i, 26, 26⟩
abbrev AUX_STAT_ATN (i : Nat) : Fld := ⟨AUX_STAT i, 25, 25⟩
/-- R428. -/
abbrev AUX_EVT (i : Nat) : Nat := 0x320020 + i * 0x1000
abbrev AUX_EVT_SEQ (i : Nat) : Fld := ⟨AUX_EVT i, 31, 24⟩
abbrev AUX_EVT_SRABORT (i : Nat) : Fld := ⟨AUX_EVT i, 9, 9⟩
abbrev AUX_EVT_ATTNSTUCK (i : Nat) : Fld := ⟨AUX_EVT i, 8, 8⟩
abbrev AUX_EVT_ATTN (i : Nat) : Fld := ⟨AUX_EVT i, 7, 7⟩
abbrev AUX_EVT_SDASTUCK (i : Nat) : Fld := ⟨AUX_EVT i, 6, 6⟩
abbrev AUX_EVT_STUCK (i : Nat) : Fld := ⟨AUX_EVT i, 5, 5⟩
abbrev AUX_EVT_BUSFREE (i : Nat) : Fld := ⟨AUX_EVT i, 4, 4⟩
abbrev AUX_EVT_BUSERR (i : Nat) : Fld := ⟨AUX_EVT i, 3, 3⟩
abbrev AUX_EVT_ARBLOST (i : Nat) : Fld := ⟨AUX_EVT i, 2, 2⟩
abbrev AUX_EVT_CLEAR (i : Nat) : Fld := ⟨AUX_EVT i, 1, 1⟩
abbrev AUX_EVT_CMDDONE (i : Nat) : Fld := ⟨AUX_EVT i, 0, 0⟩
/-- R428. -/
abbrev AUX_EVT_EN (i : Nat) : Nat := 0x320024 + i * 0x1000
abbrev AUX_EVT_EN_SRABORT (i : Nat) : Fld := ⟨AUX_EVT_EN i, 9, 9⟩
abbrev AUX_EVT_EN_ATTNSTUCK (i : Nat) : Fld := ⟨AUX_EVT_EN i, 8, 8⟩
abbrev AUX_EVT_EN_ATTN (i : Nat) : Fld := ⟨AUX_EVT_EN i, 7, 7⟩
abbrev AUX_EVT_EN_SDASTUCK (i : Nat) : Fld := ⟨AUX_EVT_EN i, 6, 6⟩
abbrev AUX_EVT_EN_STUCK (i : Nat) : Fld := ⟨AUX_EVT_EN i, 5, 5⟩
abbrev AUX_EVT_EN_BUSFREE (i : Nat) : Fld := ⟨AUX_EVT_EN i, 4, 4⟩
abbrev AUX_EVT_EN_BUSERR (i : Nat) : Fld := ⟨AUX_EVT_EN i, 3, 3⟩
abbrev AUX_EVT_EN_ARBLOST (i : Nat) : Fld := ⟨AUX_EVT_EN i, 2, 2⟩
abbrev AUX_EVT_EN_CLEAR (i : Nat) : Fld := ⟨AUX_EVT_EN i, 1, 1⟩
abbrev AUX_EVT_EN_CMDDONE (i : Nat) : Fld := ⟨AUX_EVT_EN i, 0, 0⟩
/-- R428. -/
abbrev AUX_CNT0 (i : Nat) : Nat := 0x320028 + i * 0x1000
abbrev AUX_CNT0_ARBLOST (i : Nat) : Fld := ⟨AUX_CNT0 i, 31, 16⟩
abbrev AUX_CNT0_BUSERR (i : Nat) : Fld := ⟨AUX_CNT0 i, 15, 0⟩
/-- R428. -/
abbrev AUX_CNT1 (i : Nat) : Nat := 0x32002C + i * 0x1000
abbrev AUX_CNT1_SCLTMO (i : Nat) : Fld := ⟨AUX_CNT1 i, 31, 16⟩
abbrev AUX_CNT1_CLEARS (i : Nat) : Fld := ⟨AUX_CNT1 i, 15, 0⟩
/-- R428. -/
abbrev AUX_TCFG : Nat := 0x320040
abbrev AUX_TCFG_ATNEN : Fld := ⟨AUX_TCFG, 31, 31⟩
abbrev AUX_TCFG_ATNQ : Fld := ⟨AUX_TCFG, 30, 30⟩
abbrev AUX_TCFG_TADDR : Fld := ⟨AUX_TCFG, 6, 0⟩
/-- R428. -/
abbrev AUX_ATNLOG : Nat := 0x320044
abbrev AUX_ATNLOG_COUNT : Fld := ⟨AUX_ATNLOG, 31, 16⟩
abbrev AUX_ATNLOG_ADDR : Fld := ⟨AUX_ATNLOG, 6, 0⟩
/-- R428. -/
abbrev AUX_ATNTIME_LO : Nat := 0x320048
/-- R428. -/
abbrev AUX_ATNTIME_HI : Nat := 0x32004C
/-- R428. -/
abbrev AUX_HMUSER (i : Nat) : Nat := 0x320050 + i * 0x4
abbrev AUX_HMUSER_DATA (i : Nat) : Fld := ⟨AUX_HMUSER i, 31, 0⟩
/-- R428. -/
abbrev AUX_TCNT : Nat := 0x320060
abbrev AUX_TCNT_SRABORT : Fld := ⟨AUX_TCNT, 31, 24⟩
abbrev AUX_TCNT_WNACK : Fld := ⟨AUX_TCNT, 23, 16⟩
abbrev AUX_TCNT_TMO : Fld := ⟨AUX_TCNT, 15, 8⟩
abbrev AUX_TCNT_ARA : Fld := ⟨AUX_TCNT, 7, 0⟩
/-- R428. -/
abbrev AUX_BUF (i j : Nat) : Nat := 0x320100 + i * 0x1000 + j * 0x4
/-- R56. -/
abbrev AUX_CGRP (i : Nat) : Nat := 0x320FFC + i * 0x1000
abbrev AUX_CGRP_PEND (i : Nat) : Fld := ⟨AUX_CGRP i, 31, 31⟩
abbrev AUX_CGRP_REJ (i : Nat) : Fld := ⟨AUX_CGRP i, 30, 30⟩
abbrev AUX_CGRP_GROUP (i : Nat) : Fld := ⟨AUX_CGRP i, 3, 0⟩
/-- R407. -/
abbrev SMK_CTL : Nat := 0x330000
abbrev SMK_CTL_EN : Fld := ⟨SMK_CTL, 31, 31⟩
abbrev SMK_CTL_RXON : Fld := ⟨SMK_CTL, 30, 30⟩
abbrev SMK_CTL_COEXEN : Fld := ⟨SMK_CTL, 29, 29⟩
abbrev SMK_CTL_COEXHOLD : Fld := ⟨SMK_CTL, 28, 28⟩
abbrev SMK_CTL_COEXRX : Fld := ⟨SMK_CTL, 27, 27⟩
abbrev SMK_CTL_RXSYS : Fld := ⟨SMK_CTL, 26, 26⟩
abbrev SMK_CTL_RSV : Fld := ⟨SMK_CTL, 15, 8⟩
abbrev SMK_CTL_COEXLEAD : Fld := ⟨SMK_CTL, 5, 0⟩
/-- R407. -/
abbrev SMK_RXCFG : Nat := 0x330004
abbrev SMK_RXCFG_HPF : Fld := ⟨SMK_RXCFG, 31, 30⟩
abbrev SMK_RXCFG_SYNCERR : Fld := ⟨SMK_RXCFG, 29, 28⟩
abbrev SMK_RXCFG_MOD4 : Fld := ⟨SMK_RXCFG, 27, 27⟩
abbrev SMK_RXCFG_RATE : Fld := ⟨SMK_RXCFG, 26, 25⟩
abbrev SMK_RXCFG_DCFAST : Fld := ⟨SMK_RXCFG, 19, 16⟩
abbrev SMK_RXCFG_CH : Fld := ⟨SMK_RXCFG, 11, 0⟩
/-- R407. -/
abbrev SMK_PGCFG : Nat := 0x330008
abbrev SMK_PGCFG_PEN : Fld := ⟨SMK_PGCFG, 31, 31⟩
abbrev SMK_PGCFG_PWR : Fld := ⟨SMK_PGCFG, 30, 25⟩
abbrev SMK_PGCFG_MOD4 : Fld := ⟨SMK_PGCFG, 24, 24⟩
abbrev SMK_PGCFG_RATE : Fld := ⟨SMK_PGCFG, 23, 22⟩
abbrev SMK_PGCFG_LPRE : Fld := ⟨SMK_PGCFG, 19, 12⟩
abbrev SMK_PGCFG_CH : Fld := ⟨SMK_PGCFG, 11, 0⟩
/-- R407. -/
abbrev SMK_PGDEST : Nat := 0x33000C
abbrev SMK_PGDEST_DEST : Fld := ⟨SMK_PGDEST, 31, 16⟩
abbrev SMK_PGDEST_REPEAT : Fld := ⟨SMK_PGDEST, 15, 12⟩
abbrev SMK_PGDEST_PGINT : Fld := ⟨SMK_PGDEST, 9, 0⟩
/-- R407. -/
abbrev SMK_SYNC : Nat := 0x330010
abbrev SMK_SYNC_SYNC : Fld := ⟨SMK_SYNC, 31, 0⟩
/-- R407. -/
abbrev SMK_RADIO : Nat := 0x330014
abbrev SMK_RADIO_PRE : Fld := ⟨SMK_RADIO, 31, 24⟩
abbrev SMK_RADIO_TMO : Fld := ⟨SMK_RADIO, 15, 0⟩
/-- R407. -/
abbrev SMK_TXCMD : Nat := 0x330020
abbrev SMK_TXCMD_OP : Fld := ⟨SMK_TXCMD, 31, 24⟩
abbrev SMK_TXCMD_TAG : Fld := ⟨SMK_TXCMD, 15, 8⟩
/-- R407. -/
abbrev SMK_TXSTAT : Nat := 0x330024
abbrev SMK_TXSTAT_OP : Fld := ⟨SMK_TXSTAT, 31, 24⟩
abbrev SMK_TXSTAT_STATUS : Fld := ⟨SMK_TXSTAT, 23, 16⟩
abbrev SMK_TXSTAT_TAG : Fld := ⟨SMK_TXSTAT, 15, 8⟩
abbrev SMK_TXSTAT_CAUSE : Fld := ⟨SMK_TXSTAT, 7, 4⟩
abbrev SMK_TXSTAT_LOST : Fld := ⟨SMK_TXSTAT, 1, 1⟩
abbrev SMK_TXSTAT_BUSY : Fld := ⟨SMK_TXSTAT, 0, 0⟩
/-- R407. -/
abbrev SMK_TXPAR0 : Nat := 0x330028
abbrev SMK_TXPAR0_DEST : Fld := ⟨SMK_TXPAR0, 31, 16⟩
abbrev SMK_TXPAR0_CH : Fld := ⟨SMK_TXPAR0, 11, 0⟩
/-- R407. -/
abbrev SMK_TXPAR1 : Nat := 0x33002C
abbrev SMK_TXPAR1_PWR : Fld := ⟨SMK_TXPAR1, 31, 26⟩
abbrev SMK_TXPAR1_MOD4 : Fld := ⟨SMK_TXPAR1, 25, 25⟩
abbrev SMK_TXPAR1_RATE : Fld := ⟨SMK_TXPAR1, 24, 23⟩
abbrev SMK_TXPAR1_PRI : Fld := ⟨SMK_TXPAR1, 22, 22⟩
abbrev SMK_TXPAR1_DEADLINE : Fld := ⟨SMK_TXPAR1, 15, 0⟩
/-- R407. -/
abbrev SMK_TXPAR2 : Nat := 0x330030
abbrev SMK_TXPAR2_SEQ : Fld := ⟨SMK_TXPAR2, 31, 0⟩
/-- R407. -/
abbrev SMK_TXPAR3 : Nat := 0x330034
abbrev SMK_TXPAR3_LEN : Fld := ⟨SMK_TXPAR3, 6, 0⟩
/-- R407. -/
abbrev SMK_STAT : Nat := 0x330040
abbrev SMK_STAT_STATE : Fld := ⟨SMK_STAT, 31, 28⟩
abbrev SMK_STAT_LOCK : Fld := ⟨SMK_STAT, 27, 27⟩
abbrev SMK_STAT_ONCH : Fld := ⟨SMK_STAT, 26, 26⟩
abbrev SMK_STAT_GATE : Fld := ⟨SMK_STAT, 25, 25⟩
abbrev SMK_STAT_CLAMPED : Fld := ⟨SMK_STAT, 24, 24⟩
abbrev SMK_STAT_PAGEQ : Fld := ⟨SMK_STAT, 23, 20⟩
abbrev SMK_STAT_CH : Fld := ⟨SMK_STAT, 11, 0⟩
/-- R407. -/
abbrev SMK_PGSTAT : Nat := 0x330044
abbrev SMK_PGSTAT_OUTCOME : Fld := ⟨SMK_PGSTAT, 31, 24⟩
abbrev SMK_PGSTAT_CAUSE : Fld := ⟨SMK_PGSTAT, 23, 20⟩
abbrev SMK_PGSTAT_REPS : Fld := ⟨SMK_PGSTAT, 19, 16⟩
abbrev SMK_PGSTAT_LAT : Fld := ⟨SMK_PGSTAT, 15, 0⟩
/-- R407. -/
abbrev SMK_DUTY : Nat := 0x330048
abbrev SMK_DUTY_SUB : Fld := ⟨SMK_DUTY, 31, 29⟩
abbrev SMK_DUTY_USED : Fld := ⟨SMK_DUTY, 21, 0⟩
/-- R407. -/
abbrev SMK_EVT : Nat := 0x330050
abbrev SMK_EVT_SEQ : Fld := ⟨SMK_EVT, 31, 24⟩
abbrev SMK_EVT_COEXDENY : Fld := ⟨SMK_EVT, 11, 11⟩
abbrev SMK_EVT_UNLOCK : Fld := ⟨SMK_EVT, 10, 10⟩
abbrev SMK_EVT_TXTMO : Fld := ⟨SMK_EVT, 9, 9⟩
abbrev SMK_EVT_DUTYWAIT : Fld := ⟨SMK_EVT, 8, 8⟩
abbrev SMK_EVT_CLAMPED : Fld := ⟨SMK_EVT, 7, 7⟩
abbrev SMK_EVT_CRCERR : Fld := ⟨SMK_EVT, 6, 6⟩
abbrev SMK_EVT_RXOVF : Fld := ⟨SMK_EVT, 5, 5⟩
abbrev SMK_EVT_RXFRAME : Fld := ⟨SMK_EVT, 4, 4⟩
abbrev SMK_EVT_PGFAIL : Fld := ⟨SMK_EVT, 3, 3⟩
abbrev SMK_EVT_PGSENT : Fld := ⟨SMK_EVT, 2, 2⟩
abbrev SMK_EVT_TXFAIL : Fld := ⟨SMK_EVT, 1, 1⟩
abbrev SMK_EVT_TXDONE : Fld := ⟨SMK_EVT, 0, 0⟩
/-- R407. -/
abbrev SMK_EVT_EN : Nat := 0x330054
abbrev SMK_EVT_EN_COEXDENY : Fld := ⟨SMK_EVT_EN, 11, 11⟩
abbrev SMK_EVT_EN_UNLOCK : Fld := ⟨SMK_EVT_EN, 10, 10⟩
abbrev SMK_EVT_EN_TXTMO : Fld := ⟨SMK_EVT_EN, 9, 9⟩
abbrev SMK_EVT_EN_DUTYWAIT : Fld := ⟨SMK_EVT_EN, 8, 8⟩
abbrev SMK_EVT_EN_CLAMPED : Fld := ⟨SMK_EVT_EN, 7, 7⟩
abbrev SMK_EVT_EN_CRCERR : Fld := ⟨SMK_EVT_EN, 6, 6⟩
abbrev SMK_EVT_EN_RXOVF : Fld := ⟨SMK_EVT_EN, 5, 5⟩
abbrev SMK_EVT_EN_RXFRAME : Fld := ⟨SMK_EVT_EN, 4, 4⟩
abbrev SMK_EVT_EN_PGFAIL : Fld := ⟨SMK_EVT_EN, 3, 3⟩
abbrev SMK_EVT_EN_PGSENT : Fld := ⟨SMK_EVT_EN, 2, 2⟩
abbrev SMK_EVT_EN_TXFAIL : Fld := ⟨SMK_EVT_EN, 1, 1⟩
abbrev SMK_EVT_EN_TXDONE : Fld := ⟨SMK_EVT_EN, 0, 0⟩
/-- R407. -/
abbrev SMK_RXSTAT : Nat := 0x330060
abbrev SMK_RXSTAT_COUNT : Fld := ⟨SMK_RXSTAT, 7, 4⟩
abbrev SMK_RXSTAT_HEAD : Fld := ⟨SMK_RXSTAT, 1, 0⟩
/-- R398. -/
abbrev SMK_RXPOP : Nat := 0x330064
/-- R407. -/
abbrev SMK_CNT0 : Nat := 0x330070
abbrev SMK_CNT0_TXFRAMES : Fld := ⟨SMK_CNT0, 31, 16⟩
abbrev SMK_CNT0_RXFRAMES : Fld := ⟨SMK_CNT0, 15, 0⟩
/-- R407. -/
abbrev SMK_CNT1 : Nat := 0x330074
abbrev SMK_CNT1_CRCERR : Fld := ⟨SMK_CNT1, 31, 16⟩
abbrev SMK_CNT1_RXABORT : Fld := ⟨SMK_CNT1, 15, 0⟩
/-- R407. -/
abbrev SMK_CNT2 : Nat := 0x330078
abbrev SMK_CNT2_LATE : Fld := ⟨SMK_CNT2, 31, 16⟩
abbrev SMK_CNT2_PGSKIP : Fld := ⟨SMK_CNT2, 15, 0⟩
/-- R407. -/
abbrev SMK_RGNID : Nat := 0x330100
abbrev SMK_RGNID_VALID : Fld := ⟨SMK_RGNID, 31, 31⟩
abbrev SMK_RGNID_ID : Fld := ⟨SMK_RGNID, 15, 0⟩
/-- R407. -/
abbrev SMK_RGNLIM : Nat := 0x330104
abbrev SMK_RGNLIM_WINDOW : Fld := ⟨SMK_RGNLIM, 31, 20⟩
abbrev SMK_RGNLIM_TXMAX : Fld := ⟨SMK_RGNLIM, 19, 10⟩
/-- R407. -/
abbrev SMK_RGN_W0 (i : Nat) : Nat := 0x330110 + i * 0x8
abbrev SMK_RGN_W0_EN (i : Nat) : Fld := ⟨SMK_RGN_W0 i, 31, 31⟩
abbrev SMK_RGN_W0_HI (i : Nat) : Fld := ⟨SMK_RGN_W0 i, 27, 16⟩
abbrev SMK_RGN_W0_LO (i : Nat) : Fld := ⟨SMK_RGN_W0 i, 11, 0⟩
/-- R407. -/
abbrev SMK_RGN_W1 (i : Nat) : Nat := 0x330114 + i * 0x8
abbrev SMK_RGN_W1_DUTY (i : Nat) : Fld := ⟨SMK_RGN_W1 i, 25, 16⟩
abbrev SMK_RGN_W1_PMAX (i : Nat) : Fld := ⟨SMK_RGN_W1 i, 5, 0⟩
/-- R407. -/
abbrev EMB_CFG : Nat := 0x330800
abbrev EMB_CFG_EN : Fld := ⟨EMB_CFG, 31, 31⟩
abbrev EMB_CFG_WAKE : Fld := ⟨EMB_CFG, 30, 30⟩
abbrev EMB_CFG_FEMRX : Fld := ⟨EMB_CFG, 29, 29⟩
abbrev EMB_CFG_ERRMAX : Fld := ⟨EMB_CFG, 28, 27⟩
abbrev EMB_CFG_THR : Fld := ⟨EMB_CFG, 23, 16⟩
abbrev EMB_CFG_FREQ : Fld := ⟨EMB_CFG, 9, 0⟩
/-- R407. -/
abbrev EMB_PAT : Nat := 0x330804
abbrev EMB_PAT_PAT : Fld := ⟨EMB_PAT, 31, 0⟩
/-- R407. -/
abbrev EMB_STAT : Nat := 0x330808
abbrev EMB_STAT_WOKE : Fld := ⟨EMB_STAT, 31, 31⟩
abbrev EMB_STAT_SEARCH : Fld := ⟨EMB_STAT, 30, 30⟩
abbrev EMB_STAT_ERRS : Fld := ⟨EMB_STAT, 29, 28⟩
abbrev EMB_STAT_MATCHES : Fld := ⟨EMB_STAT, 15, 0⟩
/-- R407. -/
abbrev EMB_TIME_LO : Nat := 0x33080C
/-- R407. -/
abbrev EMB_TIME_HI : Nat := 0x330810
/-- R407. -/
abbrev EMB_EVT : Nat := 0x330820
abbrev EMB_EVT_SEQ : Fld := ⟨EMB_EVT, 31, 24⟩
abbrev EMB_EVT_SKIP : Fld := ⟨EMB_EVT, 2, 2⟩
abbrev EMB_EVT_FALSEDET : Fld := ⟨EMB_EVT, 1, 1⟩
abbrev EMB_EVT_MATCH : Fld := ⟨EMB_EVT, 0, 0⟩
/-- R407. -/
abbrev EMB_EVT_EN : Nat := 0x330824
abbrev EMB_EVT_EN_SKIP : Fld := ⟨EMB_EVT_EN, 2, 2⟩
abbrev EMB_EVT_EN_FALSEDET : Fld := ⟨EMB_EVT_EN, 1, 1⟩
abbrev EMB_EVT_EN_MATCH : Fld := ⟨EMB_EVT_EN, 0, 0⟩
/-- R407. -/
abbrev EMB_CNT : Nat := 0x330828
abbrev EMB_CNT_FALSEDET : Fld := ⟨EMB_CNT, 31, 16⟩
abbrev EMB_CNT_SKIP : Fld := ⟨EMB_CNT, 15, 0⟩
/-- R56. -/
abbrev SMK_CGRP : Nat := 0x330FFC
abbrev SMK_CGRP_PEND : Fld := ⟨SMK_CGRP, 31, 31⟩
abbrev SMK_CGRP_REJ : Fld := ⟨SMK_CGRP, 30, 30⟩
abbrev SMK_CGRP_GROUP : Fld := ⟨SMK_CGRP, 3, 0⟩
/-- R407. -/
abbrev SMK_TXBUF (i : Nat) : Nat := 0x331000 + i * 0x4
/-- R398. -/
abbrev SMK_RXFIFO (i j : Nat) : Nat := 0x332000 + i * 0x100 + j * 0x4
/-- R516. -/
abbrev CAL_CMD : Nat := 0x340000
abbrev CAL_CMD_OP : Fld := ⟨CAL_CMD, 31, 24⟩
abbrev CAL_CMD_TARGET : Fld := ⟨CAL_CMD, 23, 16⟩
abbrev CAL_CMD_TAG : Fld := ⟨CAL_CMD, 15, 8⟩
abbrev CAL_CMD_ARG : Fld := ⟨CAL_CMD, 7, 0⟩
/-- R516. -/
abbrev CAL_CMDSTAT : Nat := 0x340004
abbrev CAL_CMDSTAT_OP : Fld := ⟨CAL_CMDSTAT, 31, 24⟩
abbrev CAL_CMDSTAT_STATUS : Fld := ⟨CAL_CMDSTAT, 23, 16⟩
abbrev CAL_CMDSTAT_TAG : Fld := ⟨CAL_CMDSTAT, 15, 8⟩
abbrev CAL_CMDSTAT_LOST : Fld := ⟨CAL_CMDSTAT, 1, 1⟩
abbrev CAL_CMDSTAT_BUSY : Fld := ⟨CAL_CMDSTAT, 0, 0⟩
/-- R516. -/
abbrev CAL_REFF : Nat := 0x340008
abbrev CAL_REFF_FREQ : Fld := ⟨CAL_REFF, 31, 0⟩
/-- R516. -/
abbrev CAL_REFL : Nat := 0x34000C
abbrev CAL_REFL_LEVEL : Fld := ⟨CAL_REFL, 15, 0⟩
/-- R516. -/
abbrev CAL_EVT : Nat := 0x340010
abbrev CAL_EVT_SEQ : Fld := ⟨CAL_EVT, 31, 24⟩
abbrev CAL_EVT_RESTORED : Fld := ⟨CAL_EVT, 3, 3⟩
abbrev CAL_EVT_CALFAIL : Fld := ⟨CAL_EVT, 2, 2⟩
abbrev CAL_EVT_CALDONE : Fld := ⟨CAL_EVT, 1, 1⟩
abbrev CAL_EVT_CMDDONE : Fld := ⟨CAL_EVT, 0, 0⟩
/-- R516. -/
abbrev CAL_EVT_EN : Nat := 0x340014
abbrev CAL_EVT_EN_RESTORED : Fld := ⟨CAL_EVT_EN, 3, 3⟩
abbrev CAL_EVT_EN_CALFAIL : Fld := ⟨CAL_EVT_EN, 2, 2⟩
abbrev CAL_EVT_EN_CALDONE : Fld := ⟨CAL_EVT_EN, 1, 1⟩
abbrev CAL_EVT_EN_CMDDONE : Fld := ⟨CAL_EVT_EN, 0, 0⟩
/-- R516. -/
abbrev CAL_TST_W0 (i : Nat) : Nat := 0x340100 + i * 0x20
abbrev CAL_TST_W0_STATUS (i : Nat) : Fld := ⟨CAL_TST_W0 i, 31, 24⟩
abbrev CAL_TST_W0_SRC (i : Nat) : Fld := ⟨CAL_TST_W0 i, 23, 16⟩
abbrev CAL_TST_W0_COUNT (i : Nat) : Fld := ⟨CAL_TST_W0 i, 15, 0⟩
/-- R516. -/
abbrev CAL_TST_W1 (i : Nat) : Nat := 0x340104 + i * 0x20
abbrev CAL_TST_W1_DGAIN (i : Nat) : Fld := ⟨CAL_TST_W1 i, 31, 16⟩
abbrev CAL_TST_W1_DPHASE (i : Nat) : Fld := ⟨CAL_TST_W1 i, 15, 0⟩
/-- R516. -/
abbrev CAL_TST_W2 (i : Nat) : Nat := 0x340108 + i * 0x20
/-- R516. -/
abbrev CAL_TST_W3 (i : Nat) : Nat := 0x34010C + i * 0x20
/-- R516. -/
abbrev CAL_TST_W4 (i : Nat) : Nat := 0x340110 + i * 0x20
abbrev CAL_TST_W4_RESTCNT (i : Nat) : Fld := ⟨CAL_TST_W4 i, 31, 16⟩
abbrev CAL_TST_W4_TEMP (i : Nat) : Fld := ⟨CAL_TST_W4 i, 15, 0⟩
/-- R502. -/
abbrev CAL_VAL (i j : Nat) : Nat := 0x341000 + i * 0x400 + j * 0x4
/-- R502. -/
abbrev CAL_STG (i j : Nat) : Nat := 0x342000 + i * 0x400 + j * 0x4
/-- R516. -/
abbrev BST_CMD : Nat := 0x350000
abbrev BST_CMD_OP : Fld := ⟨BST_CMD, 31, 24⟩
abbrev BST_CMD_KIND : Fld := ⟨BST_CMD, 23, 16⟩
abbrev BST_CMD_TAG : Fld := ⟨BST_CMD, 15, 8⟩
abbrev BST_CMD_INDEX : Fld := ⟨BST_CMD, 7, 0⟩
/-- R516. -/
abbrev BST_CMDSTAT : Nat := 0x350004
abbrev BST_CMDSTAT_OP : Fld := ⟨BST_CMDSTAT, 31, 24⟩
abbrev BST_CMDSTAT_STATUS : Fld := ⟨BST_CMDSTAT, 23, 16⟩
abbrev BST_CMDSTAT_TAG : Fld := ⟨BST_CMDSTAT, 15, 8⟩
abbrev BST_CMDSTAT_LOST : Fld := ⟨BST_CMDSTAT, 1, 1⟩
abbrev BST_CMDSTAT_BUSY : Fld := ⟨BST_CMDSTAT, 0, 0⟩
/-- R516. -/
abbrev BST_RES : Nat := 0x350008
abbrev BST_RES_KIND : Fld := ⟨BST_RES, 31, 24⟩
abbrev BST_RES_INDEX : Fld := ⟨BST_RES, 23, 16⟩
abbrev BST_RES_RESULT : Fld := ⟨BST_RES, 15, 8⟩
abbrev BST_RES_MEMBAD : Fld := ⟨BST_RES, 7, 0⟩
/-- R516. -/
abbrev BST_LSIG_LO : Nat := 0x350010
abbrev BST_LSIG_LO_SIG : Fld := ⟨BST_LSIG_LO, 31, 0⟩
/-- R516. -/
abbrev BST_LSIG_HI : Nat := 0x350014
abbrev BST_LSIG_HI_SIG : Fld := ⟨BST_LSIG_HI, 31, 0⟩
/-- R516. -/
abbrev BST_MSIG_LO : Nat := 0x350018
abbrev BST_MSIG_LO_SIG : Fld := ⟨BST_MSIG_LO, 31, 0⟩
/-- R516. -/
abbrev BST_MSIG_HI : Nat := 0x35001C
abbrev BST_MSIG_HI_SIG : Fld := ⟨BST_MSIG_HI, 31, 0⟩
/-- R516. -/
abbrev BST_EVT : Nat := 0x350020
abbrev BST_EVT_SEQ : Fld := ⟨BST_EVT, 31, 24⟩
abbrev BST_EVT_FAIL : Fld := ⟨BST_EVT, 2, 2⟩
abbrev BST_EVT_PASS : Fld := ⟨BST_EVT, 1, 1⟩
abbrev BST_EVT_CMDDONE : Fld := ⟨BST_EVT, 0, 0⟩
/-- R516. -/
abbrev BST_EVT_EN : Nat := 0x350024
abbrev BST_EVT_EN_FAIL : Fld := ⟨BST_EVT_EN, 2, 2⟩
abbrev BST_EVT_EN_PASS : Fld := ⟨BST_EVT_EN, 1, 1⟩
abbrev BST_EVT_EN_CMDDONE : Fld := ⟨BST_EVT_EN, 0, 0⟩
/-- R507. -/
abbrev BST_EXP (i j : Nat) : Nat := 0x350100 + i * 0x10 + j * 0x4
/-- R516. -/
abbrev SOOT_PTR : Nat := 0x360000
abbrev SOOT_PTR_COUNT : Fld := ⟨SOOT_PTR, 31, 0⟩
/-- R516. -/
abbrev SOOT_RD : Nat := 0x360004
abbrev SOOT_RD_COUNT : Fld := ⟨SOOT_RD, 31, 0⟩
/-- R516. -/
abbrev SOOT_ACK : Nat := 0x360008
abbrev SOOT_ACK_COUNT : Fld := ⟨SOOT_ACK, 31, 0⟩
/-- R516. -/
abbrev SOOT_STAT : Nat := 0x36000C
abbrev SOOT_STAT_FIRSTV : Fld := ⟨SOOT_STAT, 31, 31⟩
abbrev SOOT_STAT_UNACK : Fld := ⟨SOOT_STAT, 30, 16⟩
abbrev SOOT_STAT_LOST : Fld := ⟨SOOT_STAT, 15, 0⟩
/-- R516. -/
abbrev SOOT_EVT : Nat := 0x360010
abbrev SOOT_EVT_SEQ : Fld := ⟨SOOT_EVT, 31, 24⟩
abbrev SOOT_EVT_WRAP : Fld := ⟨SOOT_EVT, 2, 2⟩
abbrev SOOT_EVT_SEVERE : Fld := ⟨SOOT_EVT, 1, 1⟩
abbrev SOOT_EVT_NEW : Fld := ⟨SOOT_EVT, 0, 0⟩
/-- R516. -/
abbrev SOOT_EVT_EN : Nat := 0x360014
abbrev SOOT_EVT_EN_WRAP : Fld := ⟨SOOT_EVT_EN, 2, 2⟩
abbrev SOOT_EVT_EN_SEVERE : Fld := ⟨SOOT_EVT_EN, 1, 1⟩
abbrev SOOT_EVT_EN_NEW : Fld := ⟨SOOT_EVT_EN, 0, 0⟩
/-- R513. -/
abbrev SOOT_FIRST (i : Nat) : Nat := 0x360020 + i * 0x4
/-- R513. -/
abbrev SOOT_FSEQ : Nat := 0x360030
/-- R509. -/
abbrev SOOT_RING (i j : Nat) : Nat := 0x361000 + i * 0x10 + j * 0x4
/-- R486. -/
abbrev OTP_WORD (i : Nat) : Nat := 0x400000 + i * 0x4
/-- R266. -/
abbrev PST_CMD : Nat := 0xA00000
abbrev PST_CMD_OP : Fld := ⟨PST_CMD, 31, 24⟩
abbrev PST_CMD_ARG : Fld := ⟨PST_CMD, 23, 16⟩
abbrev PST_CMD_TAG : Fld := ⟨PST_CMD, 15, 8⟩
/-- R266. -/
abbrev PST_CMDSTAT : Nat := 0xA00004
abbrev PST_CMDSTAT_OP : Fld := ⟨PST_CMDSTAT, 31, 24⟩
abbrev PST_CMDSTAT_STATUS : Fld := ⟨PST_CMDSTAT, 23, 16⟩
abbrev PST_CMDSTAT_TAG : Fld := ⟨PST_CMDSTAT, 15, 8⟩
abbrev PST_CMDSTAT_LOST : Fld := ⟨PST_CMDSTAT, 1, 1⟩
abbrev PST_CMDSTAT_BUSY : Fld := ⟨PST_CMDSTAT, 0, 0⟩
/-- R266. -/
abbrev PST_EPOCH : Nat := 0xA00008
abbrev PST_EPOCH_DEV : Fld := ⟨PST_EPOCH, 31, 31⟩
abbrev PST_EPOCH_SILICON : Fld := ⟨PST_EPOCH, 23, 16⟩
abbrev PST_EPOCH_ABI : Fld := ⟨PST_EPOCH, 15, 8⟩
abbrev PST_EPOCH_HOB : Fld := ⟨PST_EPOCH, 7, 0⟩
/-- R266. -/
abbrev PST_EVT : Nat := 0xA00010
abbrev PST_EVT_SEQ : Fld := ⟨PST_EVT, 31, 24⟩
abbrev PST_EVT_SLOTBAD : Fld := ⟨PST_EVT, 2, 2⟩
abbrev PST_EVT_WPROT : Fld := ⟨PST_EVT, 1, 1⟩
abbrev PST_EVT_CMDDONE : Fld := ⟨PST_EVT, 0, 0⟩
/-- R266. -/
abbrev PST_EVT_EN : Nat := 0xA00014
abbrev PST_EVT_EN_SLOTBAD : Fld := ⟨PST_EVT_EN, 2, 2⟩
abbrev PST_EVT_EN_WPROT : Fld := ⟨PST_EVT_EN, 1, 1⟩
abbrev PST_EVT_EN_CMDDONE : Fld := ⟨PST_EVT_EN, 0, 0⟩
/-- R266. -/
abbrev PST_SLOT (i : Nat) : Nat := 0xA00100 + i * 0x4
abbrev PST_SLOT_STATE (i : Nat) : Fld := ⟨PST_SLOT i, 31, 28⟩
abbrev PST_SLOT_TYPE (i : Nat) : Fld := ⟨PST_SLOT i, 27, 26⟩
abbrev PST_SLOT_SIGNER (i : Nat) : Fld := ⟨PST_SLOT i, 25, 24⟩
abbrev PST_SLOT_PIN (i : Nat) : Fld := ⟨PST_SLOT i, 23, 23⟩
abbrev PST_SLOT_LANES (i : Nat) : Fld := ⟨PST_SLOT i, 22, 16⟩
abbrev PST_SLOT_STD (i : Nat) : Fld := ⟨PST_SLOT i, 15, 8⟩
abbrev PST_SLOT_STATUS (i : Nat) : Fld := ⟨PST_SLOT i, 7, 0⟩

end Reg

/-- Registers of block SYS, part 1. -/
def regsSys0 : List Reg := [
  ⟨"SYS_ID", 0x0, 1, 0x0, 1, 0x0, 0xF1E0000, 0, [⟨"VENDOR", 31, 16, .ro, false, .any⟩, ⟨"PART", 15, 0, .ro, false, .any⟩]⟩,
  ⟨"SYS_REV", 0x4, 1, 0x0, 1, 0x0, 0x101, 0, [⟨"EPOCH", 15, 8, .ro, false, .any⟩, ⟨"METAL", 7, 0, .ro, false, .any⟩]⟩,
  ⟨"SYS_FEAT0", 0x10, 1, 0x0, 1, 0x0, 0x8238, 0, [⟨"HEARTHS", 31, 24, .ro, false, .any⟩, ⟨"LANES", 23, 16, .ro, false, .any⟩, ⟨"LDPC_OVENS", 15, 11, .ro, false, .any⟩,
    ⟨"TRELLIS_OVENS", 10, 6, .ro, false, .any⟩, ⟨"CAPCORES", 5, 4, .ro, false, .any⟩, ⟨"GUARDED_MAX", 3, 0, .ro, false, .any⟩]⟩,
  ⟨"SYS_FEAT1", 0x14, 1, 0x0, 1, 0x0, 0xA000, 0, [⟨"ASH_MAX", 27, 24, .ro, false, .any⟩, ⟨"AUDIO", 23, 16, .ro, false, .any⟩, ⟨"FLUE_HF", 15, 15, .ro, false, .any⟩,
    ⟨"FLUE_F1", 14, 14, .ro, false, .any⟩, ⟨"FLUE_F0", 13, 13, .ro, false, .any⟩, ⟨"SMOKE", 12, 12, .ro, false, .any⟩,
    ⟨"EMBER", 11, 11, .ro, false, .any⟩]⟩,
  ⟨"SYS_DEVID", 0x20, 1, 0x0, 1, 0x0, 0x0, 0, [⟨"DEVID", 25, 16, .rw, true, .any⟩, ⟨"SYSID", 15, 0, .rw, true, .any⟩]⟩,
  ⟨"SYS_COMMIT", 0x40, 1, 0x0, 1, 0x0, 0x0, 0, [⟨"TAG", 31, 24, .wo, false, .any⟩, ⟨"TIMED", 16, 16, .wo, false, .any⟩, ⟨"MASK", 15, 0, .wo, false, .any⟩]⟩,
  ⟨"SYS_CMTSTAT", 0x44, 1, 0x0, 1, 0x0, 0x0, 0, [⟨"TAG", 31, 24, .ro, false, .any⟩, ⟨"TPEND", 18, 18, .ro, false, .any⟩, ⟨"ERR", 17, 17, .ro, false, .any⟩,
    ⟨"OVL", 16, 16, .ro, false, .any⟩, ⟨"BUSY", 15, 0, .ro, false, .any⟩]⟩,
  ⟨"SYS_IMMED", 0x48, 1, 0x0, 1, 0x0, 0x0, 0, [⟨"IMMED", 16, 0, .rw, true, .any⟩]⟩,
  ⟨"SYS_CMTTIME_LO", 0x50, 1, 0x0, 1, 0x0, 0x0, 0, [⟨"TIME", 31, 0, .rw, false, .any⟩]⟩,
  ⟨"SYS_CMTTIME_HI", 0x54, 1, 0x0, 1, 0x0, 0x0, 0, [⟨"TIME", 31, 0, .rw, false, .any⟩]⟩,
  ⟨"SYS_EVT", 0x80, 1, 0x0, 1, 0x0, 0x0, 0, [⟨"SEQ", 31, 24, .sqc, false, .any⟩, ⟨"RSTEVT", 10, 10, .sqc, false, .any⟩, ⟨"CLKCHG", 9, 9, .sqc, false, .any⟩,
    ⟨"THERMW", 8, 8, .sqc, false, .any⟩, ⟨"PCIEERR", 7, 7, .sqc, false, .any⟩, ⟨"SPIABORT", 6, 6, .sqc, false, .any⟩,
    ⟨"SPICRC", 5, 5, .sqc, false, .any⟩, ⟨"ALIGN", 4, 4, .sqc, false, .any⟩, ⟨"PRIV", 3, 3, .sqc, false, .any⟩,
    ⟨"CMTOVL", 2, 2, .sqc, false, .any⟩, ⟨"CMTREJ", 1, 1, .sqc, false, .any⟩, ⟨"CMTDONE", 0, 0, .sqc, false, .any⟩]⟩,
  ⟨"SYS_EVT_EN", 0x84, 1, 0x0, 1, 0x0, 0x0, 0, [⟨"RSTEVT", 10, 10, .rw, false, .any⟩, ⟨"CLKCHG", 9, 9, .rw, false, .any⟩, ⟨"THERMW", 8, 8, .rw, false, .any⟩,
    ⟨"PCIEERR", 7, 7, .rw, false, .any⟩, ⟨"SPIABORT", 6, 6, .rw, false, .any⟩, ⟨"SPICRC", 5, 5, .rw, false, .any⟩,
    ⟨"ALIGN", 4, 4, .rw, false, .any⟩, ⟨"PRIV", 3, 3, .rw, false, .any⟩, ⟨"CMTOVL", 2, 2, .rw, false, .any⟩,
    ⟨"CMTREJ", 1, 1, .rw, false, .any⟩, ⟨"CMTDONE", 0, 0, .rw, false, .any⟩]⟩,
  ⟨"SYS_MARGIN", 0x88, 1, 0x0, 1, 0x0, 0x8230, 0, [⟨"SPARES", 31, 24, .ro, false, .any⟩, ⟨"RETIRED", 23, 16, .ro, false, .any⟩, ⟨"LDPC_OK", 15, 11, .ro, false, .any⟩,
    ⟨"TRELLIS_OK", 10, 6, .ro, false, .any⟩, ⟨"CORES_OK", 5, 4, .ro, false, .any⟩, ⟨"STANDBY", 3, 3, .ro, false, .any⟩,
    ⟨"MIGR", 2, 2, .ro, false, .any⟩, ⟨"INTACT", 0, 0, .ro, false, .any⟩]⟩,
  ⟨"SYS_VEC_STAT", 0x90, 1, 0x0, 1, 0x0, 0x0, 0, [⟨"PEND", 16, 0, .ro, false, .any⟩]⟩,
  ⟨"SYS_VEC_EN", 0x94, 1, 0x0, 1, 0x0, 0x20, 0, [⟨"EN_HI", 16, 6, .rw, false, .any⟩, ⟨"EN_MIGR", 5, 5, .ro, false, .any⟩, ⟨"EN_LO", 4, 0, .rw, false, .any⟩]⟩,
  ⟨"SYS_IMOD", 0x98, 1, 0x0, 1, 0x0, 0x0, 0, [⟨"HOLD", 15, 0, .rw, false, .any⟩]⟩,
  ⟨"SYS_LANEPEND", 0xA0, 3, 0x4, 1, 0x0, 0x0, 0, [⟨"LANE", 31, 0, .ro, false, .any⟩]⟩,
  ⟨"SYS_SPICFG", 0xC0, 1, 0x0, 1, 0x0, 0x8, 0, [⟨"CRC", 8, 8, .rw, false, .any⟩, ⟨"DUMMY", 5, 0, .rw, false, .any⟩]⟩,
  ⟨"SYS_SPISTAT", 0xC4, 1, 0x0, 1, 0x0, 0x0, 0, [⟨"CRCERR", 31, 16, .ro, false, .any⟩, ⟨"ABORTS", 15, 0, .ro, false, .any⟩]⟩,
  ⟨"SYS_TIME_LO", 0x100, 1, 0x0, 1, 0x0, 0x0, 0, [⟨"TIME", 31, 0, .ro, false, .any⟩]⟩]

/-- Registers of block SYS, part 2. -/
def regsSys1 : List Reg := [
  ⟨"SYS_TIME_HI", 0x104, 1, 0x0, 1, 0x0, 0x0, 0, [⟨"TIME", 31, 0, .ro, false, .any⟩]⟩]

/-- Every register of block SYS. -/
def regsSys : List Reg := regsSys0 ++ regsSys1

/-- Registers of block CLK, part 1. -/
def regsClk0 : List Reg := [
  ⟨"CLK_STAT", 0x10000, 1, 0x0, 1, 0x0, 0x0, 0, [⟨"NOREF", 8, 8, .ro, false, .any⟩, ⟨"SLEW", 7, 7, .ro, false, .any⟩, ⟨"CORELOCK", 6, 6, .ro, false, .any⟩,
    ⟨"REFOK", 5, 5, .ro, false, .any⟩, ⟨"XO", 4, 4, .ro, false, .any⟩, ⟨"REFSEL", 3, 2, .ro, false, .any⟩,
    ⟨"HOLDOVER", 1, 1, .ro, false, .any⟩, ⟨"LOCK", 0, 0, .ro, false, .any⟩]⟩,
  ⟨"CLK_CFG", 0x10004, 1, 0x0, 1, 0x0, 0xC32024A, 0, [⟨"REFMODE", 31, 30, .rwb, false, .range 0 2⟩, ⟨"SSC", 29, 28, .rwb, false, .range 0 2⟩, ⟨"STEPK", 27, 24, .rwb, false, .any⟩,
    ⟨"HOLDMAX", 23, 16, .rwb, false, .range 1 50⟩, ⟨"REFQUAL", 15, 8, .rwb, false, .range 1 100⟩, ⟨"PHTHR", 7, 4, .rwb, false, .range 1 15⟩,
    ⟨"FSLEW", 3, 0, .rwb, false, .range 1 10⟩]⟩,
  ⟨"CLK_CMD", 0x10008, 1, 0x0, 1, 0x0, 0x0, 0, [⟨"OP", 31, 24, .wo, false, .any⟩, ⟨"TAG", 15, 8, .wo, false, .any⟩]⟩,
  ⟨"CLK_CMDSTAT", 0x1000C, 1, 0x0, 1, 0x0, 0x0, 0, [⟨"OP", 31, 24, .ro, false, .any⟩, ⟨"STATUS", 23, 16, .ro, false, .any⟩, ⟨"TAG", 15, 8, .ro, false, .any⟩,
    ⟨"LOST", 1, 1, .ro, false, .any⟩, ⟨"BUSY", 0, 0, .ro, false, .any⟩]⟩,
  ⟨"CLK_PHTGT", 0x10010, 1, 0x0, 1, 0x0, 0x0, 0, [⟨"TARGET", 31, 0, .rw, false, .any⟩]⟩,
  ⟨"CLK_PHASE", 0x10014, 1, 0x0, 1, 0x0, 0x0, 0, [⟨"PHASE", 31, 0, .ro, false, .any⟩]⟩,
  ⟨"CLK_BOUT", 0x10018, 1, 0x0, 1, 0x0, 0x0, 0, [⟨"B", 31, 0, .ro, false, .any⟩]⟩,
  ⟨"CLK_BOABS", 0x1001C, 1, 0x0, 1, 0x0, 0x0, 0, [⟨"ABS", 31, 0, .ro, false, .any⟩]⟩,
  ⟨"CLK_OUT_CFG", 0x10020, 2, 0x8, 1, 0x0, 0x280, 0, [⟨"EN", 31, 31, .rwb, false, .any⟩, ⟨"OSTEPK", 27, 24, .rwb, false, .any⟩, ⟨"DIV", 15, 0, .rwb, false, .range 26 65535⟩]⟩,
  ⟨"CLK_OUT_PH", 0x10024, 2, 0x8, 1, 0x0, 0x0, 0, [⟨"TARGET", 31, 0, .rw, false, .any⟩]⟩,
  ⟨"CLK_TIMECFG", 0x10040, 1, 0x0, 1, 0x0, 0x640000, 0, [⟨"SRC", 31, 30, .rwb, false, .range 0 2⟩, ⟨"SLEW", 24, 16, .rwb, false, .range 1 500⟩]⟩,
  ⟨"CLK_TRIM", 0x10044, 1, 0x0, 1, 0x0, 0x0, 0, [⟨"TRIM", 31, 0, .rwb, false, .any⟩]⟩,
  ⟨"CLK_TRIMUSE", 0x10048, 1, 0x0, 1, 0x0, 0x0, 0, [⟨"TRIM", 31, 0, .ro, false, .any⟩]⟩,
  ⟨"CLK_TSET_LO", 0x10050, 1, 0x0, 1, 0x0, 0x0, 0, [⟨"VALUE", 31, 0, .rw, false, .any⟩]⟩,
  ⟨"CLK_TSET_HI", 0x10054, 1, 0x0, 1, 0x0, 0x0, 0, [⟨"VALUE", 31, 0, .rw, false, .any⟩]⟩,
  ⟨"CLK_TOFS_LO", 0x10058, 1, 0x0, 1, 0x0, 0x0, 0, [⟨"VALUE", 31, 0, .rw, false, .any⟩]⟩,
  ⟨"CLK_TOFS_HI", 0x1005C, 1, 0x0, 1, 0x0, 0x0, 0, [⟨"VALUE", 31, 0, .rw, false, .any⟩]⟩,
  ⟨"CLK_TSTAT", 0x10060, 1, 0x0, 1, 0x0, 0x0, 0, [⟨"SLEWING", 31, 31, .ro, false, .any⟩, ⟨"PPSLOCK", 30, 30, .ro, false, .any⟩, ⟨"REMAIN", 29, 0, .ro, false, .any⟩]⟩,
  ⟨"CLK_REFMEAS", 0x10070, 1, 0x0, 1, 0x0, 0x0, 0, [⟨"VALID", 31, 31, .ro, false, .any⟩, ⟨"VSXO", 30, 30, .ro, false, .any⟩, ⟨"OFFSET", 29, 0, .ro, false, .any⟩]⟩,
  ⟨"CLK_CNT", 0x10078, 1, 0x0, 1, 0x0, 0x0, 0, [⟨"GLITCH", 31, 16, .ro, false, .any⟩, ⟨"PPSREJ", 15, 8, .ro, false, .any⟩, ⟨"SWITCHES", 7, 0, .ro, false, .any⟩]⟩]

/-- Registers of block CLK, part 2. -/
def regsClk1 : List Reg := [
  ⟨"CLK_EVT", 0x10080, 1, 0x0, 1, 0x0, 0x0, 0, [⟨"SEQ", 31, 24, .sqc, false, .any⟩, ⟨"REFBAD", 13, 13, .sqc, false, .any⟩, ⟨"LOCKLOST", 12, 12, .sqc, false, .any⟩,
    ⟨"CMDDONE", 11, 11, .sqc, false, .any⟩, ⟨"PPSLOCKCHG", 10, 10, .sqc, false, .any⟩, ⟨"TSTEP", 9, 9, .sqc, false, .any⟩,
    ⟨"OUTDONE", 8, 8, .sqc, false, .any⟩, ⟨"PHDONE", 7, 7, .sqc, false, .any⟩, ⟨"SLEWDONE", 6, 6, .sqc, false, .any⟩,
    ⟨"XOFAIL", 5, 5, .sqc, false, .any⟩, ⟨"GLITCH", 4, 4, .sqc, false, .any⟩, ⟨"HOLDEXT", 3, 3, .sqc, false, .any⟩,
    ⟨"XOSWITCH", 2, 2, .sqc, false, .any⟩, ⟨"REFBACK", 1, 1, .sqc, false, .any⟩, ⟨"REFLOST", 0, 0, .sqc, false, .any⟩]⟩,
  ⟨"CLK_EVT_EN", 0x10084, 1, 0x0, 1, 0x0, 0x0, 0, [⟨"REFBAD", 13, 13, .rw, false, .any⟩, ⟨"LOCKLOST", 12, 12, .rw, false, .any⟩, ⟨"CMDDONE", 11, 11, .rw, false, .any⟩,
    ⟨"PPSLOCKCHG", 10, 10, .rw, false, .any⟩, ⟨"TSTEP", 9, 9, .rw, false, .any⟩, ⟨"OUTDONE", 8, 8, .rw, false, .any⟩,
    ⟨"PHDONE", 7, 7, .rw, false, .any⟩, ⟨"SLEWDONE", 6, 6, .rw, false, .any⟩, ⟨"XOFAIL", 5, 5, .rw, false, .any⟩,
    ⟨"GLITCH", 4, 4, .rw, false, .any⟩, ⟨"HOLDEXT", 3, 3, .rw, false, .any⟩, ⟨"XOSWITCH", 2, 2, .rw, false, .any⟩,
    ⟨"REFBACK", 1, 1, .rw, false, .any⟩, ⟨"REFLOST", 0, 0, .rw, false, .any⟩]⟩,
  ⟨"CLK_CGRP", 0x10FFC, 1, 0x0, 1, 0x0, 0x0, 0, [⟨"PEND", 31, 31, .ro, false, .any⟩, ⟨"REJ", 30, 30, .ro, false, .any⟩, ⟨"GROUP", 3, 0, .rw, false, .any⟩]⟩]

/-- Every register of block CLK. -/
def regsClk : List Reg := regsClk0 ++ regsClk1

/-- Registers of block RST. -/
def regsRst0 : List Reg := [
  ⟨"RST_CAUSE", 0x20000, 1, 0x0, 1, 0x0, 0x30000001, 0, [⟨"LEVEL", 31, 28, .ro, false, .any⟩, ⟨"DETAIL", 23, 16, .ro, false, .any⟩, ⟨"WDCOUNT", 15, 8, .ro, false, .any⟩,
    ⟨"CAUSE", 7, 0, .ro, false, .any⟩]⟩,
  ⟨"RST_CMD", 0x20004, 1, 0x0, 1, 0x0, 0x0, 0, [⟨"KEY", 31, 16, .wo, true, .any⟩, ⟨"LEVEL", 7, 0, .wo, true, .any⟩]⟩,
  ⟨"RST_PWR", 0x20008, 1, 0x0, 1, 0x0, 0x0, 0, [⟨"KEY", 31, 16, .wo, true, .any⟩, ⟨"FORCE", 1, 1, .wo, true, .any⟩, ⟨"BANK", 0, 0, .wo, true, .any⟩]⟩,
  ⟨"RST_STAT", 0x2000C, 1, 0x0, 1, 0x0, 0x10000000, 0, [⟨"STATE", 31, 28, .ro, false, .any⟩, ⟨"KSTEP", 27, 24, .ro, false, .any⟩, ⟨"MINIMAL", 23, 23, .ro, false, .any⟩,
    ⟨"PWRREF", 19, 16, .ro, false, .any⟩, ⟨"TEMP", 15, 0, .ro, false, .any⟩]⟩,
  ⟨"RST_BLK", 0x20010, 1, 0x0, 1, 0x0, 0x0, 0, [⟨"HOLD", 16, 1, .rw, true, .any⟩]⟩,
  ⟨"RST_MODE", 0x20014, 1, 0x0, 1, 0x0, 0x1FFAE, 0, [⟨"ISOLATE", 16, 1, .rw, true, .any⟩]⟩,
  ⟨"RST_PEND", 0x20018, 1, 0x0, 1, 0x0, 0x0, 0, [⟨"PEND", 16, 1, .ro, true, .any⟩]⟩,
  ⟨"RST_STRAP", 0x20020, 1, 0x0, 1, 0x0, 0x0, 0, [⟨"RAW2", 27, 24, .ro, false, .any⟩, ⟨"RAW1", 23, 20, .ro, false, .any⟩, ⟨"RAW0", 19, 16, .ro, false, .any⟩,
    ⟨"MISMATCH", 4, 4, .ro, false, .any⟩, ⟨"CODE", 3, 0, .ro, false, .any⟩]⟩,
  ⟨"RST_MNTCMD", 0x20030, 1, 0x0, 1, 0x0, 0x0, 0, [⟨"OP", 31, 24, .wo, true, .any⟩, ⟨"ARG", 23, 16, .wo, true, .any⟩, ⟨"TAG", 15, 8, .wo, true, .any⟩]⟩,
  ⟨"RST_MNTSTAT", 0x20034, 1, 0x0, 1, 0x0, 0x85000000, 0, [⟨"STATUS", 31, 24, .ro, true, .any⟩, ⟨"SOURCE", 23, 20, .ro, true, .any⟩, ⟨"TAG", 15, 8, .ro, true, .any⟩,
    ⟨"LOST", 1, 1, .ro, true, .any⟩, ⟨"BUSY", 0, 0, .ro, true, .any⟩]⟩,
  ⟨"RST_WAKECFG", 0x20040, 1, 0x0, 1, 0x0, 0x3, 0, [⟨"PWROFF", 2, 2, .rw, true, .any⟩, ⟨"WAKEN", 1, 1, .rw, true, .any⟩, ⟨"SPIWAKE", 0, 0, .rw, true, .any⟩]⟩,
  ⟨"RST_OTPCMD", 0x20050, 1, 0x0, 1, 0x0, 0x0, 0, [⟨"KEY", 31, 16, .wo, true, .any⟩, ⟨"WORD", 5, 0, .wo, true, .any⟩]⟩,
  ⟨"RST_OTPDATA", 0x20054, 1, 0x0, 1, 0x0, 0x0, 0, [⟨"VALUE", 31, 0, .rw, true, .any⟩]⟩,
  ⟨"RST_OTPSTAT", 0x20058, 1, 0x0, 1, 0x0, 0x0, 0, [⟨"STATUS", 31, 24, .ro, true, .any⟩, ⟨"BUSY", 0, 0, .ro, true, .any⟩]⟩,
  ⟨"RST_EVT", 0x20060, 1, 0x0, 1, 0x0, 0x0, 0, [⟨"SEQ", 31, 24, .sqc, true, .any⟩, ⟨"PWRREF", 3, 3, .sqc, true, .any⟩, ⟨"OTPDONE", 2, 2, .sqc, true, .any⟩,
    ⟨"MNTFAIL", 1, 1, .sqc, true, .any⟩, ⟨"MNTDONE", 0, 0, .sqc, true, .any⟩]⟩,
  ⟨"RST_EVT_EN", 0x20064, 1, 0x0, 1, 0x0, 0x0, 0, [⟨"PWRREF", 3, 3, .rw, true, .any⟩, ⟨"OTPDONE", 2, 2, .rw, true, .any⟩, ⟨"MNTFAIL", 1, 1, .rw, true, .any⟩,
    ⟨"MNTDONE", 0, 0, .rw, true, .any⟩]⟩]

/-- Every register of block RST. -/
def regsRst : List Reg := regsRst0

/-- Registers of block FWT, part 1. -/
def regsFwt0 : List Reg := [
  ⟨"FWT_CFG", 0x30000, 1, 0x0, 1, 0x0, 0x3C00E0, 0, [⟨"EN", 31, 31, .rwb, false, .any⟩, ⟨"PINMODE", 30, 30, .rwb, false, .any⟩, ⟨"RELAYRX", 29, 29, .rwb, false, .any⟩,
    ⟨"HOLD", 23, 16, .rwb, false, .range 1 255⟩, ⟨"DEFACT", 7, 3, .rwb, false, .any⟩]⟩,
  ⟨"FWT_LMASK", 0x30010, 3, 0x4, 1, 0x0, 0x0, 0, [⟨"LANE", 31, 0, .rwb, false, .any⟩]⟩,
  ⟨"FWT_ACK", 0x30020, 1, 0x0, 1, 0x0, 0x0, 0, [⟨"ALL", 31, 31, .wo, false, .any⟩, ⟨"CLEAR", 30, 30, .wo, false, .any⟩, ⟨"ENTRY", 4, 0, .wo, false, .any⟩]⟩,
  ⟨"FWT_STAT", 0x30024, 1, 0x0, 1, 0x0, 0x0, 0, [⟨"PIN", 31, 31, .ro, false, .any⟩, ⟨"UNACK", 30, 30, .ro, false, .any⟩, ⟨"ACTIVE", 29, 24, .ro, false, .any⟩,
    ⟨"DROPS", 23, 16, .ro, false, .any⟩, ⟨"MASKED", 15, 0, .ro, false, .any⟩]⟩,
  ⟨"FWT_EVT", 0x30030, 1, 0x0, 1, 0x0, 0x0, 0, [⟨"SEQ", 31, 24, .sqc, false, .any⟩, ⟨"LOGWRAP", 8, 8, .sqc, false, .any⟩, ⟨"PAGEFAIL", 7, 7, .sqc, false, .any⟩,
    ⟨"FIFOOVF", 6, 6, .sqc, false, .any⟩, ⟨"TBLFULL", 5, 5, .sqc, false, .any⟩, ⟨"UNCONFIRMED", 4, 4, .sqc, false, .any⟩,
    ⟨"RELAYIN", 3, 3, .sqc, false, .any⟩, ⟨"END", 2, 2, .sqc, false, .any⟩, ⟨"UPDATE", 1, 1, .sqc, false, .any⟩,
    ⟨"NEWALERT", 0, 0, .sqc, false, .any⟩]⟩,
  ⟨"FWT_EVT_EN", 0x30034, 1, 0x0, 1, 0x0, 0x0, 0, [⟨"LOGWRAP", 8, 8, .rw, false, .any⟩, ⟨"PAGEFAIL", 7, 7, .rw, false, .any⟩, ⟨"FIFOOVF", 6, 6, .rw, false, .any⟩,
    ⟨"TBLFULL", 5, 5, .rw, false, .any⟩, ⟨"UNCONFIRMED", 4, 4, .rw, false, .any⟩, ⟨"RELAYIN", 3, 3, .rw, false, .any⟩,
    ⟨"END", 2, 2, .rw, false, .any⟩, ⟨"UPDATE", 1, 1, .rw, false, .any⟩, ⟨"NEWALERT", 0, 0, .rw, false, .any⟩]⟩,
  ⟨"FWT_FRMCFG", 0x30040, 1, 0x0, 1, 0x0, 0x3000064, 0, [⟨"F0", 31, 31, .rwb, false, .any⟩, ⟨"F1", 30, 30, .rwb, false, .any⟩, ⟨"HF", 29, 29, .rwb, false, .any⟩,
    ⟨"REPEAT", 27, 24, .rwb, false, .range 1 8⟩, ⟨"REPINT", 15, 0, .rwb, false, .range 1 1000⟩]⟩,
  ⟨"FWT_PAGECFG", 0x30044, 1, 0x0, 1, 0x0, 0x1F4, 0, [⟨"ENDPAGE", 16, 16, .rwb, false, .any⟩, ⟨"DEADLINE", 15, 0, .rwb, false, .range 1 65535⟩]⟩,
  ⟨"FWT_RLYCNT", 0x30050, 1, 0x0, 1, 0x0, 0x0, 0, [⟨"ACCEPTED", 31, 16, .ro, false, .any⟩, ⟨"DROPPED", 15, 0, .ro, false, .any⟩]⟩,
  ⟨"FWT_LOGPTR", 0x30060, 1, 0x0, 1, 0x0, 0x0, 0, [⟨"COUNT", 31, 16, .ro, false, .any⟩, ⟨"INDEX", 7, 0, .ro, false, .any⟩]⟩,
  ⟨"FWT_LOGRD", 0x30064, 1, 0x0, 1, 0x0, 0x0, 0, [⟨"COUNT", 31, 16, .rw, false, .any⟩, ⟨"INDEX", 7, 0, .ro, false, .any⟩]⟩,
  ⟨"FWT_TW_CFG", 0x30080, 4, 0x10, 1, 0x0, 0x8F0, 1, [⟨"KIND", 31, 30, .rwb, false, .range 0 2⟩, ⟨"LANE", 29, 23, .rwb, false, .any⟩, ⟨"WORD", 22, 16, .rwb, false, .any⟩,
    ⟨"TAG", 11, 0, .rwb, false, .any⟩]⟩,
  ⟨"FWT_TW_MASK", 0x30084, 4, 0x10, 1, 0x0, 0x0, 0, [⟨"MASK", 31, 0, .rwb, false, .any⟩]⟩,
  ⟨"FWT_TW_VAL", 0x30088, 4, 0x10, 1, 0x0, 0x0, 0, [⟨"VAL", 31, 0, .rwb, false, .any⟩]⟩,
  ⟨"FWT_TW_TRIG", 0x3008C, 4, 0x10, 1, 0x0, 0x0, 0, [⟨"WORD", 31, 0, .wo, false, .any⟩]⟩,
  ⟨"FWT_CGRP", 0x30FFC, 1, 0x0, 1, 0x0, 0x0, 0, [⟨"PEND", 31, 31, .ro, false, .any⟩, ⟨"REJ", 30, 30, .ro, false, .any⟩, ⟨"GROUP", 3, 0, .rw, false, .any⟩]⟩,
  ⟨"FWT_TAG_CGRP", 0x31FFC, 1, 0x0, 1, 0x0, 0x0, 0, [⟨"PEND", 31, 31, .ro, false, .any⟩, ⟨"REJ", 30, 30, .ro, false, .any⟩, ⟨"GROUP", 3, 0, .rw, false, .any⟩]⟩,
  ⟨"FWT_TAG_W0", 0x31000, 16, 0x10, 1, 0x0, 0xFFF, 0, [⟨"VALID", 31, 31, .rwb, false, .any⟩, ⟨"TAG", 27, 16, .rwb, false, .any⟩, ⟨"TMASK", 11, 0, .rwb, false, .any⟩]⟩,
  ⟨"FWT_TAG_W1", 0x31004, 16, 0x10, 1, 0x0, 0xE8F8, 0, [⟨"RACT", 23, 19, .rwb, false, .any⟩, ⟨"LACT", 15, 11, .rwb, false, .any⟩, ⟨"ACT", 7, 3, .rwb, false, .any⟩,
    ⟨"NOEND", 2, 2, .rwb, false, .any⟩, ⟨"PRIO", 1, 0, .rwb, false, .any⟩]⟩,
  ⟨"FWT_TAG_W2", 0x31008, 16, 0x10, 1, 0x0, 0x7FFFFFFF, 0, [⟨"KEYMASK", 30, 0, .rwb, false, .any⟩]⟩]

/-- Registers of block FWT, part 2. -/
def regsFwt1 : List Reg := [
  ⟨"FWT_LOG", 0x32000, 256, 0x20, 8, 0x4, 0x0, 0, [⟨"VALUE", 31, 0, .ro, false, .any⟩]⟩,
  ⟨"FWT_ACT_W0", 0x34000, 32, 0x10, 1, 0x0, 0x0, 0, [⟨"VALID", 31, 31, .ro, false, .any⟩, ⟨"ENDED", 30, 30, .ro, false, .any⟩, ⟨"ACKED", 29, 29, .ro, false, .any⟩,
    ⟨"LATE", 28, 28, .ro, false, .any⟩, ⟨"RELAY", 27, 27, .ro, false, .any⟩, ⟨"UNCONF", 26, 26, .ro, false, .any⟩,
    ⟨"PRIO", 25, 24, .ro, false, .any⟩, ⟨"LANE", 22, 16, .ro, false, .any⟩, ⟨"TAG", 11, 0, .ro, false, .any⟩]⟩,
  ⟨"FWT_ACT_W1", 0x34004, 32, 0x10, 1, 0x0, 0x0, 0, [⟨"WORD", 31, 0, .ro, false, .any⟩]⟩,
  ⟨"FWT_ACT_W2", 0x34008, 32, 0x10, 1, 0x0, 0x0, 0, [⟨"TIME", 31, 0, .ro, false, .any⟩]⟩,
  ⟨"FWT_ACT_W3", 0x3400C, 32, 0x10, 1, 0x0, 0x0, 0, [⟨"DUPS", 31, 16, .ro, false, .any⟩, ⟨"PEER", 15, 0, .ro, false, .any⟩]⟩]

/-- Every register of block FWT. -/
def regsFwt : List Reg := regsFwt0 ++ regsFwt1

/-- Registers of block CAP, part 1. -/
def regsCap0 : List Reg := [
  ⟨"CAP_ROLE", 0x40000, 1, 0x0, 1, 0x0, 0x6C, 0, [⟨"CORE_A", 9, 8, .ro, false, .any⟩, ⟨"CORE_B", 7, 6, .ro, false, .any⟩, ⟨"CORE_SB", 5, 4, .ro, false, .any⟩,
    ⟨"SB_SRC", 3, 2, .ro, false, .any⟩]⟩,
  ⟨"CAP_CMD", 0x40004, 1, 0x0, 1, 0x0, 0x0, 0, [⟨"OP", 31, 24, .wo, false, .any⟩, ⟨"ARG", 23, 16, .wo, false, .any⟩, ⟨"TAG", 15, 8, .wo, false, .any⟩]⟩,
  ⟨"CAP_CMDSTAT", 0x40008, 1, 0x0, 1, 0x0, 0x0, 0, [⟨"OP", 31, 24, .ro, false, .any⟩, ⟨"STATUS", 23, 16, .ro, false, .any⟩, ⟨"TAG", 15, 8, .ro, false, .any⟩,
    ⟨"LOST", 1, 1, .ro, false, .any⟩, ⟨"BUSY", 0, 0, .ro, false, .any⟩]⟩,
  ⟨"CAP_ROTCFG", 0x4000C, 1, 0x0, 1, 0x0, 0x1003C, 0, [⟨"AUTO", 16, 16, .rwb, false, .any⟩, ⟨"PERIOD", 15, 0, .rwb, false, .any⟩]⟩,
  ⟨"CAP_ROTSTAT", 0x40010, 1, 0x0, 1, 0x0, 0x0, 0, [⟨"STATUS", 31, 24, .ro, false, .any⟩, ⟨"STEP", 23, 20, .ro, false, .any⟩, ⟨"IN", 19, 18, .ro, false, .any⟩,
    ⟨"OUT", 17, 16, .ro, false, .any⟩, ⟨"COUNT", 15, 0, .ro, false, .any⟩]⟩,
  ⟨"CAP_ROTRES", 0x40014, 1, 0x0, 1, 0x0, 0x0, 0, [⟨"GAIN", 31, 22, .ro, false, .any⟩, ⟨"PHASE", 21, 12, .ro, false, .any⟩, ⟨"DELAY", 11, 0, .ro, false, .any⟩]⟩,
  ⟨"CAP_ROTTIME_LO", 0x40018, 1, 0x0, 1, 0x0, 0x0, 0, [⟨"TIME", 31, 0, .ro, false, .any⟩]⟩,
  ⟨"CAP_ROTTIME_HI", 0x4001C, 1, 0x0, 1, 0x0, 0x0, 0, [⟨"TIME", 31, 0, .ro, false, .any⟩]⟩,
  ⟨"CAP_BLKCFG", 0x40020, 1, 0x0, 1, 0x0, 0xA0A0A0C, 0, [⟨"STUCK", 31, 24, .rwb, false, .range 1 255⟩, ⟨"POST_B", 23, 16, .rwb, false, .any⟩, ⟨"POST_A", 15, 8, .rwb, false, .any⟩,
    ⟨"POL_B", 3, 3, .rwb, false, .any⟩, ⟨"POL_A", 2, 2, .rwb, false, .any⟩, ⟨"EN_B", 1, 1, .rwb, false, .any⟩,
    ⟨"EN_A", 0, 0, .rwb, false, .any⟩]⟩,
  ⟨"CAP_BLKCNT", 0x40024, 2, 0x4, 1, 0x0, 0x0, 0, [⟨"FRAMES", 31, 0, .ro, false, .any⟩]⟩,
  ⟨"CAP_EVT", 0x40030, 1, 0x0, 1, 0x0, 0x0, 0, [⟨"SEQ", 31, 24, .sqc, false, .any⟩, ⟨"SNAPDONE", 10, 10, .sqc, false, .any⟩, ⟨"SNAPTRIG", 9, 9, .sqc, false, .any⟩,
    ⟨"BLKSTUCK_B", 8, 8, .sqc, false, .any⟩, ⟨"BLKSTUCK_A", 7, 7, .sqc, false, .any⟩, ⟨"OVERRANGE", 6, 6, .sqc, false, .any⟩,
    ⟨"STANDBYCHG", 5, 5, .sqc, false, .any⟩, ⟨"COREFAIL", 4, 4, .sqc, false, .any⟩, ⟨"CORESUSPECT", 3, 3, .sqc, false, .any⟩,
    ⟨"ROTABORT", 2, 2, .sqc, false, .any⟩, ⟨"ROTDONE", 1, 1, .sqc, false, .any⟩, ⟨"CMDDONE", 0, 0, .sqc, false, .any⟩]⟩,
  ⟨"CAP_EVT_EN", 0x40034, 1, 0x0, 1, 0x0, 0x0, 0, [⟨"SNAPDONE", 10, 10, .rw, false, .any⟩, ⟨"SNAPTRIG", 9, 9, .rw, false, .any⟩, ⟨"BLKSTUCK_B", 8, 8, .rw, false, .any⟩,
    ⟨"BLKSTUCK_A", 7, 7, .rw, false, .any⟩, ⟨"OVERRANGE", 6, 6, .rw, false, .any⟩, ⟨"STANDBYCHG", 5, 5, .rw, false, .any⟩,
    ⟨"COREFAIL", 4, 4, .rw, false, .any⟩, ⟨"CORESUSPECT", 3, 3, .rw, false, .any⟩, ⟨"ROTABORT", 2, 2, .rw, false, .any⟩,
    ⟨"ROTDONE", 1, 1, .rw, false, .any⟩, ⟨"CMDDONE", 0, 0, .rw, false, .any⟩]⟩,
  ⟨"CAP_CGRP", 0x40FFC, 1, 0x0, 1, 0x0, 0x0, 0, [⟨"PEND", 31, 31, .ro, false, .any⟩, ⟨"REJ", 30, 30, .ro, false, .any⟩, ⟨"GROUP", 3, 0, .rw, false, .any⟩]⟩,
  ⟨"CAP_CC_CTL", 0x41000, 3, 0x1000, 1, 0x0, 0xE3000C, 0, [⟨"TRACK", 23, 23, .rwb, false, .any⟩, ⟨"GMAX", 22, 16, .rwb, false, .range 0 99⟩, ⟨"ATT", 9, 4, .rwb, false, .any⟩,
    ⟨"LNA", 3, 2, .rwb, false, .any⟩, ⟨"MODE", 1, 0, .rwb, false, .range 0 2⟩]⟩,
  ⟨"CAP_CC_AGC", 0x41004, 3, 0x1000, 1, 0x0, 0x20448A0A, 0, [⟨"TARGET", 31, 24, .rwb, false, .any⟩, ⟨"HYST", 23, 20, .rwb, false, .any⟩, ⟨"CLIPN", 19, 16, .rwb, false, .range 1 15⟩,
    ⟨"ATTACK", 15, 15, .rwb, false, .any⟩, ⟨"DECAY", 14, 8, .rwb, false, .range 1 127⟩, ⟨"HOLD", 7, 0, .rwb, false, .any⟩]⟩,
  ⟨"CAP_CC_STAT", 0x41008, 3, 0x1000, 1, 0x0, 0x303180, 0, [⟨"STATE", 31, 28, .ro, false, .any⟩, ⟨"SRC", 27, 26, .ro, false, .any⟩, ⟨"STALE", 25, 25, .ro, false, .any⟩,
    ⟨"SUSPECT", 24, 24, .ro, false, .any⟩, ⟨"BLANKED", 23, 23, .ro, false, .any⟩, ⟨"FROZEN", 22, 22, .ro, false, .any⟩,
    ⟨"LNA", 21, 20, .ro, false, .any⟩, ⟨"ATT", 19, 14, .ro, false, .any⟩, ⟨"GIDX", 13, 7, .ro, false, .any⟩]⟩,
  ⟨"CAP_CC_LVL", 0x4100C, 3, 0x1000, 1, 0x0, 0x0, 0, [⟨"RMS", 31, 16, .ro, false, .any⟩, ⟨"PEAK", 15, 0, .ro, false, .any⟩]⟩,
  ⟨"CAP_CC_PWR", 0x41010, 3, 0x1000, 1, 0x0, 0x0, 0, [⟨"STALE", 31, 31, .ro, false, .any⟩, ⟨"PWR", 15, 0, .ro, false, .any⟩]⟩,
  ⟨"CAP_CC_CLIP", 0x41014, 3, 0x1000, 1, 0x0, 0x0, 0, [⟨"FRAMES", 31, 0, .ro, false, .any⟩]⟩,
  ⟨"CAP_CC_HEALTH", 0x41018, 3, 0x1000, 1, 0x0, 0x0, 0, [⟨"SUBSUS", 31, 24, .ro, false, .any⟩, ⟨"SUBFAIL", 23, 16, .ro, false, .any⟩, ⟨"CAUSE", 15, 8, .ro, false, .any⟩]⟩]

/-- Registers of block CAP, part 2. -/
def regsCap1 : List Reg := [
  ⟨"CAP_CC_FAULT_LO", 0x41020, 3, 0x1000, 1, 0x0, 0x0, 0, [⟨"TIME", 31, 0, .ro, false, .any⟩]⟩,
  ⟨"CAP_CC_FAULT_HI", 0x41024, 3, 0x1000, 1, 0x0, 0x0, 0, [⟨"TIME", 31, 0, .ro, false, .any⟩]⟩,
  ⟨"CAP_CC_CGRP", 0x41FFC, 3, 0x1000, 1, 0x0, 0x0, 0, [⟨"PEND", 31, 31, .ro, false, .any⟩, ⟨"REJ", 30, 30, .ro, false, .any⟩, ⟨"GROUP", 3, 0, .rw, false, .any⟩]⟩,
  ⟨"CAP_SNAPCFG", 0x44000, 1, 0x0, 1, 0x0, 0x0, 0, [⟨"MODE", 31, 30, .rwb, false, .range 0 1⟩, ⟨"SRC", 29, 27, .rwb, false, .range 0 4⟩, ⟨"RAW", 26, 26, .rwb, false, .any⟩,
    ⟨"TRIG", 25, 24, .rwb, false, .any⟩, ⟨"RING", 23, 23, .rwb, false, .any⟩, ⟨"POST", 19, 0, .rwb, false, .any⟩]⟩,
  ⟨"CAP_SNAPLANES", 0x44004, 1, 0x0, 1, 0x0, 0x0, 0, [⟨"SEL", 31, 0, .rwb, false, .any⟩]⟩,
  ⟨"CAP_SNAPBASE", 0x44008, 1, 0x0, 1, 0x0, 0x0, 0, [⟨"UNITS", 20, 0, .rwb, false, .any⟩]⟩,
  ⟨"CAP_SNAPLEN", 0x4400C, 1, 0x0, 1, 0x0, 0x0, 0, [⟨"UNITS", 20, 0, .rwb, false, .any⟩]⟩,
  ⟨"CAP_SNAPTIME_LO", 0x44010, 1, 0x0, 1, 0x0, 0x0, 0, [⟨"TIME", 31, 0, .rwb, false, .any⟩]⟩,
  ⟨"CAP_SNAPTIME_HI", 0x44014, 1, 0x0, 1, 0x0, 0x0, 0, [⟨"TIME", 31, 0, .rwb, false, .any⟩]⟩,
  ⟨"CAP_SNAPSTAT", 0x44018, 1, 0x0, 1, 0x0, 0x0, 0, [⟨"STATE", 31, 28, .ro, false, .any⟩, ⟨"WRAPPED", 27, 27, .ro, false, .any⟩, ⟨"TRIGGERED", 26, 26, .ro, false, .any⟩,
    ⟨"RECORDS", 19, 0, .ro, false, .any⟩]⟩,
  ⟨"CAP_SNAP_CGRP", 0x44FFC, 1, 0x0, 1, 0x0, 0x0, 0, [⟨"PEND", 31, 31, .ro, false, .any⟩, ⟨"REJ", 30, 30, .ro, false, .any⟩, ⟨"GROUP", 3, 0, .rw, false, .any⟩]⟩]

/-- Every register of block CAP. -/
def regsCap : List Reg := regsCap0 ++ regsCap1

/-- Registers of block GRT. -/
def regsGrt0 : List Reg := [
  ⟨"GRT_BANKCFG", 0x50000, 1, 0x0, 1, 0x0, 0x110, 0, [⟨"PWREN", 8, 8, .rwb, false, .any⟩, ⟨"AVG", 4, 0, .rwb, false, .range 12 20⟩]⟩,
  ⟨"GRT_EVT", 0x50004, 1, 0x0, 1, 0x0, 0x0, 0, [⟨"SEQ", 31, 24, .sqc, false, .any⟩, ⟨"PWRDONE", 3, 3, .sqc, false, .any⟩, ⟨"SPANERR", 2, 2, .sqc, false, .any⟩,
    ⟨"REFILLDONE", 1, 1, .sqc, false, .any⟩, ⟨"LANESAT", 0, 0, .sqc, false, .any⟩]⟩,
  ⟨"GRT_EVT_EN", 0x50008, 1, 0x0, 1, 0x0, 0x0, 0, [⟨"PWRDONE", 3, 3, .rw, false, .any⟩, ⟨"SPANERR", 2, 2, .rw, false, .any⟩, ⟨"REFILLDONE", 1, 1, .rw, false, .any⟩,
    ⟨"LANESAT", 0, 0, .rw, false, .any⟩]⟩,
  ⟨"GRT_SATPEND", 0x50010, 3, 0x4, 1, 0x0, 0x0, 0, [⟨"LANE", 31, 0, .ro, false, .any⟩]⟩,
  ⟨"GRT_SCOUNT_LO", 0x50020, 1, 0x0, 1, 0x0, 0x0, 0, [⟨"COUNT", 31, 0, .ro, false, .any⟩]⟩,
  ⟨"GRT_SCOUNT_HI", 0x50024, 1, 0x0, 1, 0x0, 0x0, 0, [⟨"COUNT", 31, 0, .ro, false, .any⟩]⟩,
  ⟨"GRT_CGRP", 0x50FFC, 1, 0x0, 1, 0x0, 0x0, 0, [⟨"PEND", 31, 31, .ro, false, .any⟩, ⟨"REJ", 30, 30, .ro, false, .any⟩, ⟨"GROUP", 3, 0, .rw, false, .any⟩]⟩,
  ⟨"GRT_LCFG", 0x51000, 12, 0x1000, 8, 0x20, 0x10030000, 0, [⟨"EN", 31, 31, .rwb, false, .any⟩, ⟨"SRC", 30, 30, .rwb, false, .any⟩, ⟨"PRESET", 29, 28, .rwb, false, .any⟩,
    ⟨"NCOMODE", 27, 27, .rwb, false, .any⟩, ⟨"DLOG", 23, 20, .rwb, false, .range 0 11⟩, ⟨"NBINS", 17, 16, .rwb, false, .any⟩,
    ⟨"BIN", 8, 0, .rwb, false, .any⟩]⟩,
  ⟨"GRT_LFREQ", 0x51004, 12, 0x1000, 8, 0x20, 0x0, 0, [⟨"W", 31, 0, .rwb, false, .any⟩]⟩,
  ⟨"GRT_LGAIN", 0x51008, 12, 0x1000, 8, 0x20, 0x100000, 0, [⟨"ETHR", 23, 16, .rwb, false, .any⟩, ⟨"GAIN", 3, 0, .rwb, false, .any⟩]⟩,
  ⟨"GRT_LPHOFF", 0x5100C, 12, 0x1000, 8, 0x20, 0x0, 0, [⟨"PHOFF", 31, 16, .rwb, false, .any⟩]⟩,
  ⟨"GRT_LSTAT", 0x51010, 12, 0x1000, 8, 0x20, 0x0, 0, [⟨"RUN", 31, 31, .ro, false, .any⟩, ⟨"REFILL", 30, 30, .ro, false, .any⟩, ⟨"SPAN", 29, 29, .ro, false, .any⟩,
    ⟨"NOCORE", 28, 28, .ro, false, .any⟩]⟩,
  ⟨"GRT_LSATCNT", 0x51014, 12, 0x1000, 8, 0x20, 0x0, 0, [⟨"COUNT", 31, 0, .ro, false, .any⟩]⟩,
  ⟨"GRT_LERACNT", 0x51018, 12, 0x1000, 8, 0x20, 0x0, 0, [⟨"COUNT", 31, 0, .ro, false, .any⟩]⟩,
  ⟨"GRT_L_CGRP", 0x51FFC, 12, 0x1000, 1, 0x0, 0x0, 0, [⟨"PEND", 31, 31, .ro, false, .any⟩, ⟨"REJ", 30, 30, .ro, false, .any⟩, ⟨"GROUP", 3, 0, .rw, false, .any⟩]⟩,
  ⟨"GRT_PWR", 0x5D000, 2, 0x800, 512, 0x4, 0x8000, 0, [⟨"MARKED", 16, 16, .ro, false, .any⟩, ⟨"POWER", 15, 0, .ro, false, .any⟩]⟩]

/-- Every register of block GRT. -/
def regsGrt : List Reg := regsGrt0

/-- Registers of block LANE, part 1. -/
def regsLane0 : List Reg := [
  ⟨"LANE_CTL", 0x100000, 96, 0x1000, 1, 0x0, 0xA0000, 0, [⟨"EN", 31, 31, .rwb, false, .any⟩, ⟨"GUARD", 30, 30, .rwb, false, .any⟩, ⟨"WDOG", 23, 16, .rwb, false, .any⟩]⟩,
  ⟨"LANE_STAT", 0x100004, 96, 0x1000, 1, 0x0, 0x0, 0, [⟨"SEQ", 31, 24, .sqc, false, .any⟩, ⟨"LDFAIL", 14, 14, .sqc, false, .any⟩, ⟨"OVLATE", 13, 13, .sqc, false, .any⟩,
    ⟨"MBOX", 12, 12, .sqc, false, .any⟩, ⟨"NOSPARE", 11, 11, .sqc, false, .any⟩, ⟨"STALL", 10, 10, .sqc, false, .any⟩,
    ⟨"DIVERGE", 9, 9, .sqc, false, .any⟩, ⟨"GUARDOK", 8, 8, .sqc, false, .any⟩, ⟨"GUARDLOST", 7, 7, .sqc, false, .any⟩,
    ⟨"GAP", 6, 6, .sqc, false, .any⟩, ⟨"SPLICED", 5, 5, .sqc, false, .any⟩, ⟨"MIGSTART", 4, 4, .sqc, false, .any⟩,
    ⟨"EXCEPT", 3, 3, .sqc, false, .any⟩, ⟨"HALTED", 2, 2, .sqc, false, .any⟩, ⟨"STARTED", 1, 1, .sqc, false, .any⟩,
    ⟨"CMDDONE", 0, 0, .sqc, false, .any⟩]⟩,
  ⟨"LANE_EVTEN", 0x100014, 96, 0x1000, 1, 0x0, 0x0, 0, [⟨"LDFAIL", 14, 14, .rw, false, .any⟩, ⟨"OVLATE", 13, 13, .rw, false, .any⟩, ⟨"MBOX", 12, 12, .rw, false, .any⟩,
    ⟨"NOSPARE", 11, 11, .rw, false, .any⟩, ⟨"STALL", 10, 10, .rw, false, .any⟩, ⟨"DIVERGE", 9, 9, .rw, false, .any⟩,
    ⟨"GUARDOK", 8, 8, .rw, false, .any⟩, ⟨"GUARDLOST", 7, 7, .rw, false, .any⟩, ⟨"GAP", 6, 6, .rw, false, .any⟩,
    ⟨"SPLICED", 5, 5, .rw, false, .any⟩, ⟨"MIGSTART", 4, 4, .rw, false, .any⟩, ⟨"EXCEPT", 3, 3, .rw, false, .any⟩,
    ⟨"HALTED", 2, 2, .rw, false, .any⟩, ⟨"STARTED", 1, 1, .rw, false, .any⟩, ⟨"CMDDONE", 0, 0, .rw, false, .any⟩]⟩,
  ⟨"LANE_BIND", 0x100008, 96, 0x1000, 1, 0x0, 0x0, 0, [⟨"GSTATE", 30, 28, .ro, false, .any⟩, ⟨"MSTATE", 27, 24, .ro, false, .any⟩, ⟨"SVALID", 23, 23, .ro, false, .any⟩,
    ⟨"SHADOW", 22, 16, .ro, false, .any⟩, ⟨"HVALID", 7, 7, .ro, false, .any⟩, ⟨"HEARTH", 6, 0, .ro, false, .any⟩]⟩,
  ⟨"LANE_PROG", 0x10000C, 96, 0x1000, 1, 0x0, 0x0, 0, [⟨"LDSTAT", 31, 24, .ro, false, .any⟩, ⟨"ACTIVE", 21, 16, .ro, false, .any⟩, ⟨"SLOT", 5, 0, .rwb, false, .any⟩]⟩,
  ⟨"LANE_DRAW", 0x100010, 96, 0x1000, 1, 0x0, 0x5DC, 0, [⟨"ACTIVE", 27, 16, .ro, false, .any⟩, ⟨"DELAY", 11, 0, .rwb, false, .range 250 4000⟩]⟩,
  ⟨"LANE_CMD", 0x100018, 96, 0x1000, 1, 0x0, 0x0, 0, [⟨"OP", 31, 24, .wo, false, .any⟩, ⟨"ARG", 23, 16, .wo, false, .any⟩, ⟨"TAG", 15, 8, .wo, false, .any⟩]⟩,
  ⟨"LANE_BKLOG", 0x100020, 96, 0x1000, 1, 0x0, 0x190, 0, [⟨"ACTIVE", 27, 16, .ro, false, .any⟩, ⟨"LEN", 11, 0, .rwb, false, .range 50 2000⟩]⟩,
  ⟨"LANE_CKPT", 0x100024, 96, 0x1000, 1, 0x0, 0x0, 0, [⟨"VALID", 31, 31, .ro, false, .any⟩, ⟨"SLOT", 30, 30, .ro, false, .any⟩, ⟨"COUNT", 15, 0, .ro, false, .any⟩]⟩,
  ⟨"LANE_CKSAMP_LO", 0x100028, 96, 0x1000, 1, 0x0, 0x0, 0, [⟨"SAMPLE", 31, 0, .ro, false, .any⟩]⟩,
  ⟨"LANE_CKSAMP_HI", 0x10002C, 96, 0x1000, 1, 0x0, 0x0, 0, [⟨"SAMPLE", 31, 0, .ro, false, .any⟩]⟩,
  ⟨"LANE_REACQ", 0x100030, 96, 0x1000, 1, 0x0, 0x0, 0, [⟨"TIME", 31, 0, .ro, false, .any⟩]⟩,
  ⟨"LANE_MIG", 0x100034, 96, 0x1000, 1, 0x0, 0x0, 0, [⟨"STATUS", 31, 24, .ro, false, .any⟩, ⟨"COUNT", 23, 16, .ro, false, .any⟩, ⟨"LAG", 15, 0, .ro, false, .any⟩]⟩,
  ⟨"LANE_OVDEM", 0x100038, 96, 0x1000, 1, 0x0, 0x0, 0, [⟨"LDPC", 31, 16, .ro, false, .any⟩, ⟨"TRELLIS", 15, 0, .ro, false, .any⟩]⟩,
  ⟨"LANE_DIVERGE", 0x10003C, 96, 0x1000, 1, 0x0, 0x0, 0, [⟨"COUNT", 31, 0, .ro, false, .any⟩]⟩,
  ⟨"LANE_CMDSTAT", 0x10001C, 96, 0x1000, 1, 0x0, 0x0, 0, [⟨"OP", 31, 24, .ro, false, .any⟩, ⟨"STATUS", 23, 16, .ro, false, .any⟩, ⟨"TAG", 15, 8, .ro, false, .any⟩,
    ⟨"LOST", 1, 1, .ro, false, .any⟩, ⟨"BUSY", 0, 0, .ro, false, .any⟩]⟩,
  ⟨"LANE_LPB", 0x100100, 96, 0x1000, 64, 0x4, 0x0, 0, [⟨"LPB", 31, 0, .rwb, false, .any⟩]⟩,
  ⟨"LANE_LRB", 0x100200, 96, 0x1000, 128, 0x4, 0x0, 0, [⟨"LRB", 31, 0, .ro, false, .any⟩]⟩,
  ⟨"LANE_MBIN", 0x100400, 96, 0x1000, 128, 0x4, 0x0, 0, [⟨"MBIN", 31, 0, .rw, false, .any⟩]⟩,
  ⟨"LANE_MBOUT", 0x100600, 96, 0x1000, 128, 0x4, 0x0, 0, [⟨"MBOUT", 31, 0, .ro, false, .any⟩]⟩]

/-- Registers of block LANE, part 2. -/
def regsLane1 : List Reg := [
  ⟨"LANE_CGRP", 0x100FFC, 96, 0x1000, 1, 0x0, 0x0, 0, [⟨"PEND", 31, 31, .ro, false, .any⟩, ⟨"REJ", 30, 30, .ro, false, .any⟩, ⟨"GROUP", 3, 0, .rw, false, .any⟩]⟩]

/-- Every register of block LANE. -/
def regsLane : List Reg := regsLane0 ++ regsLane1

/-- Registers of block HST. -/
def regsHst0 : List Reg := [
  ⟨"HST_STAT", 0x160000, 104, 0x40, 1, 0x0, 0x10000000, 0, [⟨"STATE", 31, 28, .ro, false, .any⟩, ⟨"CAUSE", 27, 24, .ro, false, .any⟩, ⟨"SUSPECT", 23, 23, .ro, false, .any⟩,
    ⟨"LANE", 22, 16, .ro, false, .any⟩, ⟨"LANEV", 15, 15, .ro, false, .any⟩]⟩,
  ⟨"HST_FAULT_LO", 0x160004, 104, 0x40, 1, 0x0, 0x0, 0, [⟨"VALUE", 31, 0, .ro, false, .any⟩]⟩,
  ⟨"HST_FAULT_HI", 0x160008, 104, 0x40, 1, 0x0, 0x0, 0, [⟨"VALUE", 31, 0, .ro, false, .any⟩]⟩,
  ⟨"HST_CERR", 0x16000C, 104, 0x40, 1, 0x0, 0x0, 0, [⟨"VALUE", 31, 0, .ro, false, .any⟩]⟩,
  ⟨"HST_BISTTIME_LO", 0x160014, 104, 0x40, 1, 0x0, 0x0, 0, [⟨"VALUE", 31, 0, .ro, false, .any⟩]⟩,
  ⟨"HST_BISTTIME_HI", 0x160018, 104, 0x40, 1, 0x0, 0x0, 0, [⟨"VALUE", 31, 0, .ro, false, .any⟩]⟩,
  ⟨"HST_BIST", 0x160010, 104, 0x40, 1, 0x0, 0x0, 0, [⟨"RESULT", 31, 30, .ro, false, .any⟩, ⟨"COUNT", 15, 0, .ro, false, .any⟩]⟩,
  ⟨"HST_LOAD", 0x16001C, 104, 0x40, 1, 0x0, 0x0, 0, [⟨"STOKER", 31, 24, .ro, false, .any⟩, ⟨"HOB", 23, 16, .ro, false, .any⟩, ⟨"SERVED", 15, 0, .ro, false, .any⟩]⟩,
  ⟨"HMG_RSTCFG", 0x162000, 1, 0x0, 1, 0x0, 0x8007001E, 0, [⟨"EN", 31, 31, .rwb, false, .any⟩, ⟨"TRELLIS", 18, 18, .rwb, false, .any⟩, ⟨"LDPC", 17, 17, .rwb, false, .any⟩,
    ⟨"HEARTHS", 16, 16, .rwb, false, .any⟩, ⟨"PERIOD", 15, 0, .rwb, false, .range 1 65535⟩]⟩,
  ⟨"HMG_RSTSTAT", 0x162004, 1, 0x0, 1, 0x0, 0x0, 0, [⟨"STATE", 31, 28, .ro, false, .any⟩, ⟨"KIND", 27, 27, .ro, false, .any⟩, ⟨"UNIT", 26, 16, .ro, false, .any⟩,
    ⟨"CYCLES", 15, 0, .ro, false, .any⟩]⟩,
  ⟨"HMG_MIGSTAT", 0x162008, 1, 0x0, 1, 0x0, 0x0, 0, [⟨"STATUS", 31, 24, .ro, false, .any⟩, ⟨"LANE", 22, 16, .ro, false, .any⟩, ⟨"FROM", 14, 8, .ro, false, .any⟩,
    ⟨"TO", 6, 0, .ro, false, .any⟩]⟩,
  ⟨"HMG_MIGCNT", 0x16200C, 1, 0x0, 1, 0x0, 0x0, 0, [⟨"VALUE", 31, 0, .ro, false, .any⟩]⟩,
  ⟨"HMG_EVT", 0x162010, 1, 0x0, 1, 0x0, 0x0, 0, [⟨"SEQ", 31, 24, .sqc, false, .any⟩, ⟨"RSTDEFER", 7, 7, .sqc, false, .any⟩, ⟨"RSTFAIL", 6, 6, .sqc, false, .any⟩,
    ⟨"RSTDONE", 5, 5, .sqc, false, .any⟩, ⟨"GUARDLOST", 4, 4, .sqc, false, .any⟩, ⟨"RETIRE", 3, 3, .sqc, false, .any⟩,
    ⟨"MARGINLOST", 2, 2, .sqc, false, .any⟩, ⟨"MIGDONE", 1, 1, .sqc, false, .any⟩, ⟨"MIGSTART", 0, 0, .sqc, false, .any⟩]⟩,
  ⟨"HMG_EVT_EN", 0x162014, 1, 0x0, 1, 0x0, 0x7, 0, [⟨"RSTDEFER", 7, 7, .rw, false, .any⟩, ⟨"RSTFAIL", 6, 6, .rw, false, .any⟩, ⟨"RSTDONE", 5, 5, .rw, false, .any⟩,
    ⟨"GUARDLOST", 4, 4, .rw, false, .any⟩, ⟨"RETIRE", 3, 3, .rw, false, .any⟩, ⟨"MARGINLOST", 2, 2, .ro, false, .any⟩,
    ⟨"MIGDONE", 1, 1, .ro, false, .any⟩, ⟨"MIGSTART", 0, 0, .ro, false, .any⟩]⟩,
  ⟨"HMG_CGRP", 0x162FFC, 1, 0x0, 1, 0x0, 0x0, 0, [⟨"PEND", 31, 31, .ro, false, .any⟩, ⟨"REJ", 30, 30, .ro, false, .any⟩, ⟨"GROUP", 3, 0, .rw, false, .any⟩]⟩]

/-- Every register of block HST. -/
def regsHst : List Reg := regsHst0

/-- Registers of block OVN. -/
def regsOvn0 : List Reg := [
  ⟨"OVN_CFG", 0x200000, 1, 0x0, 1, 0x0, 0xC8, 0, [⟨"AGE", 15, 0, .rwb, false, .range 10 65535⟩]⟩,
  ⟨"OVN_EVT", 0x200004, 1, 0x0, 1, 0x0, 0x0, 0, [⟨"SEQ", 31, 24, .sqc, false, .any⟩, ⟨"DEMANDHIGH", 3, 3, .sqc, false, .any⟩, ⟨"LATE", 2, 2, .sqc, false, .any⟩,
    ⟨"OVENSUSPECT", 1, 1, .sqc, false, .any⟩, ⟨"OVENRETIRE", 0, 0, .sqc, false, .any⟩]⟩,
  ⟨"OVN_EVT_EN", 0x200008, 1, 0x0, 1, 0x0, 0x0, 0, [⟨"DEMANDHIGH", 3, 3, .rw, false, .any⟩, ⟨"LATE", 2, 2, .rw, false, .any⟩, ⟨"OVENSUSPECT", 1, 1, .rw, false, .any⟩,
    ⟨"OVENRETIRE", 0, 0, .rw, false, .any⟩]⟩,
  ⟨"OVN_DEMAND", 0x200010, 1, 0x0, 1, 0x0, 0x0, 0, [⟨"VALUE", 31, 0, .ro, false, .any⟩]⟩,
  ⟨"OVN_CAPACITY", 0x200014, 1, 0x0, 1, 0x0, 0x0, 0, [⟨"VALUE", 31, 0, .ro, false, .any⟩]⟩,
  ⟨"OVN_LATE", 0x200018, 1, 0x0, 1, 0x0, 0x0, 0, [⟨"VALUE", 31, 0, .ro, false, .any⟩]⟩,
  ⟨"OVN_OSTAT", 0x200100, 24, 0x4, 1, 0x0, 0x10000000, 0, [⟨"STATE", 31, 28, .ro, false, .any⟩, ⟨"CAUSE", 27, 24, .ro, false, .any⟩, ⟨"UTIL", 23, 16, .ro, false, .any⟩,
    ⟨"REQS", 15, 0, .ro, false, .any⟩]⟩,
  ⟨"OVN_CGRP", 0x200FFC, 1, 0x0, 1, 0x0, 0x0, 0, [⟨"PEND", 31, 31, .ro, false, .any⟩, ⟨"REJ", 30, 30, .ro, false, .any⟩, ⟨"GROUP", 3, 0, .rw, false, .any⟩]⟩]

/-- Every register of block OVN. -/
def regsOvn : List Reg := regsOvn0

/-- Registers of block CHM. -/
def regsChm0 : List Reg := [
  ⟨"CHM_EVT", 0x210000, 1, 0x0, 1, 0x0, 0x0, 0, [⟨"SEQ", 31, 24, .sqc, false, .any⟩, ⟨"HOTPORT", 3, 3, .sqc, false, .any⟩, ⟨"CREDIT", 2, 2, .sqc, false, .any⟩,
    ⟨"PARITY", 1, 1, .sqc, false, .any⟩, ⟨"LINKERR", 0, 0, .sqc, false, .any⟩]⟩,
  ⟨"CHM_EVT_EN", 0x210004, 1, 0x0, 1, 0x0, 0x0, 0, [⟨"HOTPORT", 3, 3, .rw, false, .any⟩, ⟨"CREDIT", 2, 2, .rw, false, .any⟩, ⟨"PARITY", 1, 1, .rw, false, .any⟩,
    ⟨"LINKERR", 0, 0, .rw, false, .any⟩]⟩,
  ⟨"CHM_PUTIL", 0x210100, 14, 0x8, 1, 0x0, 0x0, 0, [⟨"REQ", 31, 24, .ro, false, .any⟩, ⟨"RSP", 23, 16, .ro, false, .any⟩, ⟨"STREAM", 15, 8, .ro, false, .any⟩,
    ⟨"CTRL", 7, 0, .ro, false, .any⟩]⟩,
  ⟨"CHM_PERR", 0x210104, 14, 0x8, 1, 0x0, 0x0, 0, [⟨"PARITY", 31, 16, .ro, false, .any⟩, ⟨"STALLK", 15, 0, .ro, false, .any⟩]⟩]

/-- Every register of block CHM. -/
def regsChm : List Reg := regsChm0

/-- Registers of block ASH. -/
def regsAsh0 : List Reg := [
  ⟨"ASH_DRAMCFG", 0x220000, 1, 0x0, 1, 0x0, 0x1, 0, [⟨"RANKS", 3, 3, .rwb, false, .any⟩, ⟨"DENSITY", 1, 0, .rwb, false, .range 0 2⟩]⟩,
  ⟨"ASH_CMD", 0x220004, 1, 0x0, 1, 0x0, 0x0, 0, [⟨"OP", 31, 24, .wo, false, .any⟩, ⟨"ARG", 23, 16, .wo, false, .any⟩, ⟨"TAG", 15, 8, .wo, false, .any⟩]⟩,
  ⟨"ASH_CMDSTAT", 0x220008, 1, 0x0, 1, 0x0, 0x0, 0, [⟨"OP", 31, 24, .ro, false, .any⟩, ⟨"STATUS", 23, 16, .ro, false, .any⟩, ⟨"TAG", 15, 8, .ro, false, .any⟩,
    ⟨"LOST", 1, 1, .ro, false, .any⟩, ⟨"BUSY", 0, 0, .ro, false, .any⟩]⟩,
  ⟨"ASH_STAT", 0x22000C, 1, 0x0, 1, 0x0, 0x0, 0, [⟨"READY", 31, 31, .ro, false, .any⟩, ⟨"REFRATE", 30, 28, .ro, false, .any⟩, ⟨"RGNBUSY", 24, 20, .ro, false, .any⟩,
    ⟨"USABLE", 12, 0, .ro, false, .any⟩]⟩,
  ⟨"ASH_RGN", 0x220010, 5, 0x4, 1, 0x0, 0x0, 0, [⟨"BASE", 31, 16, .rwb, false, .any⟩, ⟨"SIZE", 15, 0, .rwb, false, .any⟩]⟩,
  ⟨"ASH_CARCFG", 0x220024, 1, 0x0, 1, 0x0, 0x10, 0, [⟨"PERLANE", 11, 0, .rwb, false, .range 1 4095⟩]⟩,
  ⟨"ASH_DRAWCFG", 0x220028, 1, 0x0, 1, 0x0, 0x100, 0, [⟨"LOWWATER", 15, 0, .rwb, false, .any⟩]⟩,
  ⟨"ASH_SCRUB", 0x22002C, 1, 0x0, 1, 0x0, 0x80000018, 0, [⟨"EN", 31, 31, .rwb, false, .any⟩, ⟨"PERIOD", 7, 0, .rwb, false, .range 1 255⟩]⟩,
  ⟨"ASH_APBASE", 0x220030, 1, 0x0, 1, 0x0, 0x0, 0, [⟨"BASE", 12, 0, .rw, false, .any⟩]⟩,
  ⟨"ASH_TIFREE", 0x220034, 1, 0x0, 1, 0x0, 0x0, 0, [⟨"FREE", 15, 0, .ro, false, .any⟩]⟩,
  ⟨"ASH_DRAWFREE", 0x220038, 1, 0x0, 1, 0x0, 0x0, 0, [⟨"FREE", 15, 0, .ro, false, .any⟩]⟩,
  ⟨"ASH_ECCCNT", 0x220040, 1, 0x0, 1, 0x0, 0x0, 0, [⟨"CORR", 31, 16, .ro, false, .any⟩, ⟨"UNCORR", 15, 0, .ro, false, .any⟩]⟩,
  ⟨"ASH_ECCADDR_LO", 0x220044, 1, 0x0, 1, 0x0, 0x0, 0, [⟨"LINE", 31, 6, .ro, false, .any⟩]⟩,
  ⟨"ASH_ECCADDR_HI", 0x220048, 1, 0x0, 1, 0x0, 0xE0000000, 0, [⟨"REGION", 31, 29, .ro, false, .any⟩, ⟨"LINE_HI", 0, 0, .ro, false, .any⟩]⟩,
  ⟨"ASH_BW", 0x220050, 6, 0x4, 1, 0x0, 0x0, 0, [⟨"MBPS", 15, 0, .ro, false, .any⟩]⟩,
  ⟨"ASH_AFAIL", 0x220070, 1, 0x0, 1, 0x0, 0x0, 0, [⟨"KIND", 31, 30, .ro, false, .any⟩, ⟨"LANE", 29, 23, .ro, false, .any⟩, ⟨"NEED", 11, 0, .ro, false, .any⟩]⟩,
  ⟨"ASH_EVT", 0x220080, 1, 0x0, 1, 0x0, 0x0, 0, [⟨"SEQ", 31, 24, .sqc, false, .any⟩, ⟨"HOT", 9, 9, .sqc, false, .any⟩, ⟨"CAPSKIP", 8, 8, .sqc, false, .any⟩,
    ⟨"BKLOST", 7, 7, .sqc, false, .any⟩, ⟨"DRAWFULL", 6, 6, .sqc, false, .any⟩, ⟨"DRAWLOW", 5, 5, .sqc, false, .any⟩,
    ⟨"ALLOCFAIL", 4, 4, .sqc, false, .any⟩, ⟨"APWPROT", 3, 3, .sqc, false, .any⟩, ⟨"ECCUNCORR", 2, 2, .sqc, false, .any⟩,
    ⟨"ECCCORR", 1, 1, .sqc, false, .any⟩, ⟨"CMDDONE", 0, 0, .sqc, false, .any⟩]⟩,
  ⟨"ASH_EVT_EN", 0x220084, 1, 0x0, 1, 0x0, 0x0, 0, [⟨"HOT", 9, 9, .rw, false, .any⟩, ⟨"CAPSKIP", 8, 8, .rw, false, .any⟩, ⟨"BKLOST", 7, 7, .rw, false, .any⟩,
    ⟨"DRAWFULL", 6, 6, .rw, false, .any⟩, ⟨"DRAWLOW", 5, 5, .rw, false, .any⟩, ⟨"ALLOCFAIL", 4, 4, .rw, false, .any⟩,
    ⟨"APWPROT", 3, 3, .rw, false, .any⟩, ⟨"ECCUNCORR", 2, 2, .rw, false, .any⟩, ⟨"ECCCORR", 1, 1, .rw, false, .any⟩,
    ⟨"CMDDONE", 0, 0, .rw, false, .any⟩]⟩,
  ⟨"ASH_CGRP", 0x220FFC, 1, 0x0, 1, 0x0, 0x0, 0, [⟨"PEND", 31, 31, .ro, false, .any⟩, ⟨"REJ", 30, 30, .ro, false, .any⟩, ⟨"GROUP", 3, 0, .rw, false, .any⟩]⟩,
  ⟨"ASH_LUSE", 0x221000, 96, 0x4, 1, 0x0, 0x0, 0, [⟨"SETS", 31, 30, .ro, false, .any⟩, ⟨"TIPAGES", 23, 12, .ro, false, .any⟩, ⟨"DRAWBLK", 11, 0, .ro, false, .any⟩]⟩]

/-- Every register of block ASH. -/
def regsAsh : List Reg := regsAsh0

/-- Registers of block FLU, part 1. -/
def regsFlu0 : List Reg := [
  ⟨"FLU_CTL", 0x300000, 2, 0x8000, 1, 0x0, 0x400000, 0, [⟨"EN", 31, 31, .rwb, false, .any⟩, ⟨"TXEN", 30, 30, .rwb, false, .any⟩, ⟨"RXTAG", 29, 29, .rwb, false, .any⟩,
    ⟨"TTL", 23, 16, .rwb, false, .range 1 255⟩, ⟨"RXVID", 11, 0, .rwb, false, .any⟩]⟩,
  ⟨"FLU_LINK", 0x300004, 2, 0x8000, 1, 0x0, 0x800000, 0, [⟨"UP", 31, 31, .ro, false, .any⟩, ⟨"BLOCK", 30, 30, .ro, false, .any⟩, ⟨"LF", 29, 29, .ro, false, .any⟩,
    ⟨"RF", 28, 28, .ro, false, .any⟩, ⟨"MOD", 27, 27, .ro, false, .any⟩, ⟨"TXFLT", 26, 26, .ro, false, .any⟩,
    ⟨"TXFLTL", 25, 25, .ro, false, .any⟩, ⟨"RXLOS", 24, 24, .ro, false, .any⟩, ⟨"TXDIS", 23, 23, .ro, false, .any⟩]⟩,
  ⟨"FLU_EVT", 0x300008, 2, 0x8000, 1, 0x0, 0x0, 0, [⟨"SEQ", 31, 24, .sqc, false, .any⟩, ⟨"BADID", 10, 10, .sqc, false, .any⟩, ⟨"SFPWEAR", 9, 9, .sqc, false, .any⟩,
    ⟨"SFPALARM", 8, 8, .sqc, false, .any⟩, ⟨"MODOUT", 7, 7, .sqc, false, .any⟩, ⟨"MODIN", 6, 6, .sqc, false, .any⟩,
    ⟨"TXFAULT", 5, 5, .sqc, false, .any⟩, ⟨"FMTDROP", 4, 4, .sqc, false, .any⟩, ⟨"ALERTDROP", 3, 3, .sqc, false, .any⟩,
    ⟨"DROP", 2, 2, .sqc, false, .any⟩, ⟨"LINKDOWN", 1, 1, .sqc, false, .any⟩, ⟨"LINKUP", 0, 0, .sqc, false, .any⟩]⟩,
  ⟨"FLU_EVT_EN", 0x30000C, 2, 0x8000, 1, 0x0, 0x0, 0, [⟨"BADID", 10, 10, .rw, false, .any⟩, ⟨"SFPWEAR", 9, 9, .rw, false, .any⟩, ⟨"SFPALARM", 8, 8, .rw, false, .any⟩,
    ⟨"MODOUT", 7, 7, .rw, false, .any⟩, ⟨"MODIN", 6, 6, .rw, false, .any⟩, ⟨"TXFAULT", 5, 5, .rw, false, .any⟩,
    ⟨"FMTDROP", 4, 4, .rw, false, .any⟩, ⟨"ALERTDROP", 3, 3, .rw, false, .any⟩, ⟨"DROP", 2, 2, .rw, false, .any⟩,
    ⟨"LINKDOWN", 1, 1, .rw, false, .any⟩, ⟨"LINKUP", 0, 0, .rw, false, .any⟩]⟩,
  ⟨"FLU_MAC_LO", 0x300010, 2, 0x8000, 1, 0x0, 0x0, 0, [⟨"VALUE", 31, 0, .rwb, false, .any⟩]⟩,
  ⟨"FLU_MAC_HI", 0x300014, 2, 0x8000, 1, 0x0, 0x0, 0, [⟨"VALUE", 15, 0, .rwb, false, .any⟩]⟩,
  ⟨"FLU_GWMAC_LO", 0x300018, 2, 0x8000, 1, 0x0, 0x0, 0, [⟨"VALUE", 31, 0, .rwb, false, .any⟩]⟩,
  ⟨"FLU_GWMAC_HI", 0x30001C, 2, 0x8000, 1, 0x0, 0x0, 0, [⟨"VALUE", 15, 0, .rwb, false, .any⟩]⟩,
  ⟨"FLU_IP4", 0x300020, 2, 0x8000, 1, 0x0, 0x0, 0, [⟨"VALUE", 31, 0, .rwb, false, .any⟩]⟩,
  ⟨"FLU_IP6", 0x300024, 2, 0x8000, 4, 0x4, 0x0, 0, [⟨"VALUE", 31, 0, .rwb, false, .any⟩]⟩,
  ⟨"FLU_ADST_IP", 0x300044, 2, 0x8000, 4, 0x4, 0x0, 0, [⟨"VALUE", 31, 0, .rwb, false, .any⟩]⟩,
  ⟨"FLU_TDST_IP", 0x300064, 2, 0x8000, 4, 0x4, 0x0, 0, [⟨"VALUE", 31, 0, .rwb, false, .any⟩]⟩,
  ⟨"FLU_TLMEN", 0x300074, 2, 0x8000, 3, 0x4, 0x0, 0, [⟨"VALUE", 31, 0, .rwb, false, .any⟩]⟩,
  ⟨"FLU_PTPLAT", 0x300080, 2, 0x8000, 1, 0x0, 0x0, 0, [⟨"VALUE", 31, 0, .rwb, false, .any⟩]⟩,
  ⟨"FLU_ADST_CFG", 0x300040, 2, 0x8000, 1, 0x0, 0x0, 0, [⟨"UPORT", 31, 16, .rwb, false, .any⟩, ⟨"TCI", 15, 0, .rwb, false, .any⟩]⟩,
  ⟨"FLU_TLMCFG", 0x300060, 2, 0x8000, 1, 0x0, 0x0, 0, [⟨"UPORT", 31, 16, .rwb, false, .any⟩, ⟨"TCI", 15, 0, .rwb, false, .any⟩]⟩,
  ⟨"FLU_ADST_MODE", 0x300054, 2, 0x8000, 1, 0x0, 0x2E3C0000, 0, [⟨"IPV6", 31, 31, .rwb, false, .any⟩, ⟨"TAGGED", 30, 30, .rwb, false, .any⟩, ⟨"DSCP", 29, 24, .rwb, false, .any⟩,
    ⟨"REPINT", 23, 16, .rwb, false, .range 1 255⟩]⟩,
  ⟨"FLU_TLMMODE", 0x300084, 2, 0x8000, 1, 0x0, 0x2E000064, 0, [⟨"IPV6", 31, 31, .rwb, false, .any⟩, ⟨"TAGGED", 30, 30, .rwb, false, .any⟩, ⟨"DSCP", 29, 24, .rwb, false, .any⟩,
    ⟨"INT", 15, 0, .rwb, false, .range 10 10000⟩]⟩,
  ⟨"FLU_TXFRAMES", 0x3000A0, 2, 0x8000, 1, 0x0, 0x0, 0, [⟨"VALUE", 31, 0, .ro, false, .any⟩]⟩,
  ⟨"FLU_RXFRAMES", 0x3000A4, 2, 0x8000, 1, 0x0, 0x0, 0, [⟨"VALUE", 31, 0, .ro, false, .any⟩]⟩]

/-- Registers of block FLU, part 2. -/
def regsFlu1 : List Reg := [
  ⟨"FLU_RXFILT", 0x3000A8, 2, 0x8000, 1, 0x0, 0x0, 0, [⟨"VALUE", 31, 0, .ro, false, .any⟩]⟩,
  ⟨"FLU_RXERR", 0x3000AC, 2, 0x8000, 1, 0x0, 0x0, 0, [⟨"VALUE", 31, 0, .ro, false, .any⟩]⟩,
  ⟨"FLU_FMTDROP", 0x3000B0, 2, 0x8000, 1, 0x0, 0x0, 0, [⟨"VALUE", 31, 0, .ro, false, .any⟩]⟩,
  ⟨"FLU_ALERTTX", 0x3000B4, 2, 0x8000, 1, 0x0, 0x0, 0, [⟨"VALUE", 31, 0, .ro, false, .any⟩]⟩,
  ⟨"FLU_ALERTDROP", 0x3000B8, 2, 0x8000, 1, 0x0, 0x0, 0, [⟨"VALUE", 31, 0, .ro, false, .any⟩]⟩,
  ⟨"FLU_SFPCFG", 0x300100, 2, 0x8000, 1, 0x0, 0x100005A, 0, [⟨"POLL", 31, 24, .rwb, false, .range 1 255⟩, ⟨"WARNDAYS", 15, 0, .rwb, false, .any⟩]⟩,
  ⟨"FLU_SFPSTAT", 0x300104, 2, 0x8000, 1, 0x0, 0x0, 0, [⟨"BADID", 31, 31, .ro, false, .any⟩, ⟨"DDM", 30, 30, .ro, false, .any⟩, ⟨"BKNOWN", 29, 29, .ro, false, .any⟩,
    ⟨"ALARMS", 15, 0, .ro, false, .any⟩]⟩,
  ⟨"FLU_SFPDDM", 0x300108, 2, 0x8000, 1, 0x0, 0x0, 0, [⟨"TEMP", 31, 16, .ro, false, .any⟩, ⟨"BIAS", 15, 0, .ro, false, .any⟩]⟩,
  ⟨"FLU_SFPLIFE", 0x30010C, 2, 0x8000, 1, 0x0, 0xFFFE, 0, [⟨"WEAR", 31, 24, .ro, false, .any⟩, ⟨"NDAYS", 23, 16, .ro, false, .any⟩, ⟨"DAYS", 15, 0, .ro, false, .any⟩]⟩,
  ⟨"FLU_SFPB0", 0x300110, 2, 0x8000, 1, 0x0, 0x0, 0, [⟨"BVALID", 31, 31, .rw, false, .any⟩, ⟨"B0", 15, 0, .rw, false, .any⟩]⟩,
  ⟨"FLU_SFPSN", 0x300114, 2, 0x8000, 1, 0x0, 0x0, 0, [⟨"SNCRC", 31, 0, .rw, false, .any⟩]⟩,
  ⟨"FLU_SFPA0", 0x300400, 2, 0x8000, 24, 0x4, 0x0, 0, [⟨"VALUE", 31, 0, .ro, false, .any⟩]⟩,
  ⟨"FLU_SFPA2", 0x300480, 2, 0x8000, 30, 0x4, 0x0, 0, [⟨"VALUE", 31, 0, .ro, false, .any⟩]⟩,
  ⟨"FLU_CGRP", 0x300FFC, 2, 0x8000, 1, 0x0, 0x0, 0, [⟨"PEND", 31, 31, .ro, false, .any⟩, ⟨"REJ", 30, 30, .ro, false, .any⟩, ⟨"GROUP", 3, 0, .rw, false, .any⟩]⟩,
  ⟨"FLU_ST_W0", 0x301000, 2, 0x8000, 64, 0x20, 0x0, 0, [⟨"EN", 31, 31, .rwb, false, .any⟩, ⟨"PORTS", 30, 28, .rwb, false, .any⟩, ⟨"KIND", 27, 26, .rwb, false, .any⟩,
    ⟨"ENC", 25, 24, .rwb, false, .any⟩, ⟨"PRIO", 23, 21, .rwb, false, .any⟩, ⟨"IPV6", 20, 20, .rwb, false, .any⟩,
    ⟨"VLAN", 19, 19, .rwb, false, .any⟩, ⟨"LSTREAM", 18, 16, .rwb, false, .any⟩, ⟨"LANE", 14, 8, .rwb, false, .any⟩,
    ⟨"FORMAT", 7, 0, .rwb, false, .any⟩]⟩,
  ⟨"FLU_ST_W1", 0x301004, 2, 0x8000, 64, 0x20, 0x0, 0, [⟨"DPORT", 31, 16, .rwb, false, .any⟩, ⟨"SPORT", 15, 0, .rwb, false, .any⟩]⟩,
  ⟨"FLU_ST_W2", 0x301008, 2, 0x8000, 64, 0x20, 0x0, 0, [⟨"DSCP", 31, 26, .rwb, false, .any⟩, ⟨"MAXQ", 25, 16, .rwb, false, .any⟩, ⟨"TCI", 15, 0, .rwb, false, .any⟩]⟩,
  ⟨"FLU_ST_W3", 0x30100C, 2, 0x8000, 64, 0x20, 0x0, 0, [⟨"RATE", 31, 16, .rwb, false, .any⟩, ⟨"BURST", 15, 0, .rwb, false, .any⟩]⟩,
  ⟨"FLU_ST_W4", 0x301010, 2, 0x8000, 64, 0x20, 0x0, 0, [⟨"DADDR", 31, 0, .rwb, false, .any⟩]⟩,
  ⟨"FLU_ST_W5", 0x301014, 2, 0x8000, 64, 0x20, 0x0, 0, [⟨"DADDR", 31, 0, .rwb, false, .any⟩]⟩]

/-- Registers of block FLU, part 3. -/
def regsFlu2 : List Reg := [
  ⟨"FLU_ST_W6", 0x301018, 2, 0x8000, 64, 0x20, 0x0, 0, [⟨"DADDR", 31, 0, .rwb, false, .any⟩]⟩,
  ⟨"FLU_ST_W7", 0x30101C, 2, 0x8000, 64, 0x20, 0x0, 0, [⟨"DADDR", 31, 0, .rwb, false, .any⟩]⟩,
  ⟨"FLU_ST_CGRP", 0x301FFC, 2, 0x8000, 1, 0x0, 0x0, 0, [⟨"PEND", 31, 31, .ro, false, .any⟩, ⟨"REJ", 30, 30, .ro, false, .any⟩, ⟨"GROUP", 3, 0, .rw, false, .any⟩]⟩,
  ⟨"FLU_SU_W0", 0x302000, 2, 0x8000, 64, 0x20, 0x0, 0, [⟨"EN", 31, 31, .rwb, false, .any⟩, ⟨"PORTS", 30, 28, .rwb, false, .any⟩, ⟨"KIND", 27, 26, .rwb, false, .any⟩,
    ⟨"ENC", 25, 24, .rwb, false, .any⟩, ⟨"PRIO", 23, 21, .rwb, false, .any⟩, ⟨"IPV6", 20, 20, .rwb, false, .any⟩,
    ⟨"VLAN", 19, 19, .rwb, false, .any⟩, ⟨"LSTREAM", 18, 16, .rwb, false, .any⟩, ⟨"LANE", 14, 8, .rwb, false, .any⟩,
    ⟨"FORMAT", 7, 0, .rwb, false, .any⟩]⟩,
  ⟨"FLU_SU_W1", 0x302004, 2, 0x8000, 64, 0x20, 0x0, 0, [⟨"DPORT", 31, 16, .rwb, false, .any⟩, ⟨"SPORT", 15, 0, .rwb, false, .any⟩]⟩,
  ⟨"FLU_SU_W2", 0x302008, 2, 0x8000, 64, 0x20, 0x0, 0, [⟨"DSCP", 31, 26, .rwb, false, .any⟩, ⟨"MAXQ", 25, 16, .rwb, false, .any⟩, ⟨"TCI", 15, 0, .rwb, false, .any⟩]⟩,
  ⟨"FLU_SU_W3", 0x30200C, 2, 0x8000, 64, 0x20, 0x0, 0, [⟨"RATE", 31, 16, .rwb, false, .any⟩, ⟨"BURST", 15, 0, .rwb, false, .any⟩]⟩,
  ⟨"FLU_SU_W4", 0x302010, 2, 0x8000, 64, 0x20, 0x0, 0, [⟨"DADDR", 31, 0, .rwb, false, .any⟩]⟩,
  ⟨"FLU_SU_W5", 0x302014, 2, 0x8000, 64, 0x20, 0x0, 0, [⟨"DADDR", 31, 0, .rwb, false, .any⟩]⟩,
  ⟨"FLU_SU_W6", 0x302018, 2, 0x8000, 64, 0x20, 0x0, 0, [⟨"DADDR", 31, 0, .rwb, false, .any⟩]⟩,
  ⟨"FLU_SU_W7", 0x30201C, 2, 0x8000, 64, 0x20, 0x0, 0, [⟨"DADDR", 31, 0, .rwb, false, .any⟩]⟩,
  ⟨"FLU_SU_CGRP", 0x302FFC, 2, 0x8000, 1, 0x0, 0x0, 0, [⟨"PEND", 31, 31, .ro, false, .any⟩, ⟨"REJ", 30, 30, .ro, false, .any⟩, ⟨"GROUP", 3, 0, .rw, false, .any⟩]⟩,
  ⟨"HF_ST_W0", 0x30D000, 1, 0x0, 64, 0x20, 0x0, 0, [⟨"EN", 31, 31, .rwb, false, .any⟩, ⟨"PORTS", 30, 28, .rwb, false, .any⟩, ⟨"KIND", 27, 26, .rwb, false, .any⟩,
    ⟨"ENC", 25, 24, .rwb, false, .any⟩, ⟨"PRIO", 23, 21, .rwb, false, .any⟩, ⟨"IPV6", 20, 20, .rwb, false, .any⟩,
    ⟨"VLAN", 19, 19, .rwb, false, .any⟩, ⟨"LSTREAM", 18, 16, .rwb, false, .any⟩, ⟨"LANE", 14, 8, .rwb, false, .any⟩,
    ⟨"FORMAT", 7, 0, .rwb, false, .any⟩]⟩,
  ⟨"HF_ST_W1", 0x30D004, 1, 0x0, 64, 0x20, 0x0, 0, [⟨"DPORT", 31, 16, .rwb, false, .any⟩, ⟨"SPORT", 15, 0, .rwb, false, .any⟩]⟩,
  ⟨"HF_ST_W2", 0x30D008, 1, 0x0, 64, 0x20, 0x0, 0, [⟨"DSCP", 31, 26, .rwb, false, .any⟩, ⟨"MAXQ", 25, 16, .rwb, false, .any⟩, ⟨"TCI", 15, 0, .rwb, false, .any⟩]⟩,
  ⟨"HF_ST_W3", 0x30D00C, 1, 0x0, 64, 0x20, 0x0, 0, [⟨"RATE", 31, 16, .rwb, false, .any⟩, ⟨"BURST", 15, 0, .rwb, false, .any⟩]⟩,
  ⟨"HF_ST_W4", 0x30D010, 1, 0x0, 64, 0x20, 0x0, 0, [⟨"DADDR", 31, 0, .rwb, false, .any⟩]⟩,
  ⟨"HF_ST_W5", 0x30D014, 1, 0x0, 64, 0x20, 0x0, 0, [⟨"DADDR", 31, 0, .rwb, false, .any⟩]⟩,
  ⟨"HF_ST_W6", 0x30D018, 1, 0x0, 64, 0x20, 0x0, 0, [⟨"DADDR", 31, 0, .rwb, false, .any⟩]⟩,
  ⟨"HF_ST_W7", 0x30D01C, 1, 0x0, 64, 0x20, 0x0, 0, [⟨"DADDR", 31, 0, .rwb, false, .any⟩]⟩]

/-- Registers of block FLU, part 4. -/
def regsFlu3 : List Reg := [
  ⟨"HF_ST_CGRP", 0x30DFFC, 1, 0x0, 1, 0x0, 0x0, 0, [⟨"PEND", 31, 31, .ro, false, .any⟩, ⟨"REJ", 30, 30, .ro, false, .any⟩, ⟨"GROUP", 3, 0, .rw, false, .any⟩]⟩,
  ⟨"HF_SU_W0", 0x30E000, 1, 0x0, 64, 0x20, 0x0, 0, [⟨"EN", 31, 31, .rwb, false, .any⟩, ⟨"PORTS", 30, 28, .rwb, false, .any⟩, ⟨"KIND", 27, 26, .rwb, false, .any⟩,
    ⟨"ENC", 25, 24, .rwb, false, .any⟩, ⟨"PRIO", 23, 21, .rwb, false, .any⟩, ⟨"IPV6", 20, 20, .rwb, false, .any⟩,
    ⟨"VLAN", 19, 19, .rwb, false, .any⟩, ⟨"LSTREAM", 18, 16, .rwb, false, .any⟩, ⟨"LANE", 14, 8, .rwb, false, .any⟩,
    ⟨"FORMAT", 7, 0, .rwb, false, .any⟩]⟩,
  ⟨"HF_SU_W1", 0x30E004, 1, 0x0, 64, 0x20, 0x0, 0, [⟨"DPORT", 31, 16, .rwb, false, .any⟩, ⟨"SPORT", 15, 0, .rwb, false, .any⟩]⟩,
  ⟨"HF_SU_W2", 0x30E008, 1, 0x0, 64, 0x20, 0x0, 0, [⟨"DSCP", 31, 26, .rwb, false, .any⟩, ⟨"MAXQ", 25, 16, .rwb, false, .any⟩, ⟨"TCI", 15, 0, .rwb, false, .any⟩]⟩,
  ⟨"HF_SU_W3", 0x30E00C, 1, 0x0, 64, 0x20, 0x0, 0, [⟨"RATE", 31, 16, .rwb, false, .any⟩, ⟨"BURST", 15, 0, .rwb, false, .any⟩]⟩,
  ⟨"HF_SU_W4", 0x30E010, 1, 0x0, 64, 0x20, 0x0, 0, [⟨"DADDR", 31, 0, .rwb, false, .any⟩]⟩,
  ⟨"HF_SU_W5", 0x30E014, 1, 0x0, 64, 0x20, 0x0, 0, [⟨"DADDR", 31, 0, .rwb, false, .any⟩]⟩,
  ⟨"HF_SU_W6", 0x30E018, 1, 0x0, 64, 0x20, 0x0, 0, [⟨"DADDR", 31, 0, .rwb, false, .any⟩]⟩,
  ⟨"HF_SU_W7", 0x30E01C, 1, 0x0, 64, 0x20, 0x0, 0, [⟨"DADDR", 31, 0, .rwb, false, .any⟩]⟩,
  ⟨"HF_SU_CGRP", 0x30EFFC, 1, 0x0, 1, 0x0, 0x0, 0, [⟨"PEND", 31, 31, .ro, false, .any⟩, ⟨"REJ", 30, 30, .ro, false, .any⟩, ⟨"GROUP", 3, 0, .rw, false, .any⟩]⟩,
  ⟨"FLU_CUNITS", 0x303000, 2, 0x8000, 128, 0x10, 0x0, 0, [⟨"VALUE", 31, 0, .ro, false, .any⟩]⟩,
  ⟨"HF_CUNITS", 0x30F000, 1, 0x0, 128, 0x10, 0x0, 0, [⟨"VALUE", 31, 0, .ro, false, .any⟩]⟩,
  ⟨"FLU_CFRAMES", 0x303004, 2, 0x8000, 128, 0x10, 0x0, 0, [⟨"VALUE", 31, 0, .ro, false, .any⟩]⟩,
  ⟨"HF_CFRAMES", 0x30F004, 1, 0x0, 128, 0x10, 0x0, 0, [⟨"VALUE", 31, 0, .ro, false, .any⟩]⟩,
  ⟨"FLU_CDROPS", 0x303008, 2, 0x8000, 128, 0x10, 0x0, 0, [⟨"VALUE", 31, 0, .ro, false, .any⟩]⟩,
  ⟨"HF_CDROPS", 0x30F008, 1, 0x0, 128, 0x10, 0x0, 0, [⟨"VALUE", 31, 0, .ro, false, .any⟩]⟩,
  ⟨"FLU_CGAPQ", 0x30300C, 2, 0x8000, 128, 0x10, 0x0, 0, [⟨"GAPS", 31, 16, .ro, false, .any⟩, ⟨"QKIB", 15, 0, .ro, false, .any⟩]⟩,
  ⟨"HF_CGAPQ", 0x30F00C, 1, 0x0, 128, 0x10, 0x0, 0, [⟨"GAPS", 31, 16, .ro, false, .any⟩, ⟨"QKIB", 15, 0, .ro, false, .any⟩]⟩,
  ⟨"HF_CTL", 0x30C000, 1, 0x0, 1, 0x0, 0x6, 0, [⟨"EN", 31, 31, .rw, false, .any⟩, ⟨"RUN", 30, 30, .ro, false, .any⟩, ⟨"LOG2N", 4, 0, .rwb, false, .range 6 16⟩]⟩,
  ⟨"HF_EVT", 0x30C008, 1, 0x0, 1, 0x0, 0x0, 0, [⟨"SEQ", 31, 24, .sqc, false, .any⟩, ⟨"DMAERR", 4, 4, .sqc, false, .any⟩, ⟨"BADDESC", 3, 3, .sqc, false, .any⟩,
    ⟨"STOPPED", 2, 2, .sqc, false, .any⟩, ⟨"DROP", 1, 1, .sqc, false, .any⟩, ⟨"NODESC", 0, 0, .sqc, false, .any⟩]⟩]

/-- Registers of block FLU, part 5. -/
def regsFlu4 : List Reg := [
  ⟨"HF_EVT_EN", 0x30C00C, 1, 0x0, 1, 0x0, 0x0, 0, [⟨"DMAERR", 4, 4, .rw, false, .any⟩, ⟨"BADDESC", 3, 3, .rw, false, .any⟩, ⟨"STOPPED", 2, 2, .rw, false, .any⟩,
    ⟨"DROP", 1, 1, .rw, false, .any⟩, ⟨"NODESC", 0, 0, .rw, false, .any⟩]⟩,
  ⟨"HF_RING_LO", 0x30C010, 1, 0x0, 1, 0x0, 0x0, 0, [⟨"VALUE", 31, 0, .rwb, false, .any⟩]⟩,
  ⟨"HF_RING_HI", 0x30C014, 1, 0x0, 1, 0x0, 0x0, 0, [⟨"VALUE", 31, 0, .rwb, false, .any⟩]⟩,
  ⟨"HF_TAIL", 0x30C018, 1, 0x0, 1, 0x0, 0x0, 0, [⟨"VALUE", 15, 0, .rw, false, .any⟩]⟩,
  ⟨"HF_HEAD", 0x30C01C, 1, 0x0, 1, 0x0, 0x0, 0, [⟨"VALUE", 15, 0, .ro, false, .any⟩]⟩,
  ⟨"HF_TLMEN", 0x30C074, 3, 0x4, 1, 0x0, 0x0, 0, [⟨"VALUE", 31, 0, .rwb, false, .any⟩]⟩,
  ⟨"HF_TLMINT", 0x30C088, 1, 0x0, 1, 0x0, 0x64, 0, [⟨"INT", 15, 0, .rwb, false, .range 10 10000⟩]⟩,
  ⟨"HF_CGRP", 0x30CFFC, 1, 0x0, 1, 0x0, 0x0, 0, [⟨"PEND", 31, 31, .ro, false, .any⟩, ⟨"REJ", 30, 30, .ro, false, .any⟩, ⟨"GROUP", 3, 0, .rw, false, .any⟩]⟩,
  ⟨"FLU_PTPCFG", 0x304000, 1, 0x0, 1, 0x0, 0xA000000, 0, [⟨"EN", 31, 31, .rwb, false, .any⟩, ⟨"MODE", 30, 29, .rwb, false, .range 0 2⟩, ⟨"PORT", 28, 28, .rwb, false, .any⟩,
    ⟨"AUTOPORT", 27, 27, .rwb, false, .any⟩, ⟨"TRANSPORT", 26, 25, .rwb, false, .range 0 2⟩, ⟨"DOMAIN", 15, 8, .rwb, false, .any⟩,
    ⟨"LOGSYNC", 7, 4, .rwb, false, .any⟩, ⟨"LOGDREQ", 3, 0, .rwb, false, .any⟩]⟩,
  ⟨"FLU_PTPANN", 0x304004, 1, 0x0, 1, 0x0, 0x8080F800, 0, [⟨"PRIO1", 31, 24, .rwb, false, .any⟩, ⟨"PRIO2", 23, 16, .rwb, false, .any⟩, ⟨"CLASS", 15, 8, .rwb, false, .any⟩]⟩,
  ⟨"FLU_PTPSTAT", 0x304008, 1, 0x0, 1, 0x0, 0x0, 0, [⟨"STATE", 31, 28, .ro, false, .any⟩, ⟨"LOCKED", 27, 27, .ro, false, .any⟩, ⟨"PORTNOW", 26, 26, .ro, false, .any⟩]⟩,
  ⟨"FLU_PTPOFS", 0x30400C, 1, 0x0, 1, 0x0, 0x0, 0, [⟨"OFS", 31, 0, .ro, false, .any⟩]⟩,
  ⟨"FLU_PTPDLY", 0x304010, 1, 0x0, 1, 0x0, 0x0, 0, [⟨"DELAY", 31, 0, .ro, false, .any⟩]⟩,
  ⟨"FLU_PPSCFG", 0x304020, 1, 0x0, 1, 0x0, 0x40000064, 0, [⟨"OUTEN", 31, 31, .rwb, false, .any⟩, ⟨"QUAL", 30, 30, .rwb, false, .any⟩, ⟨"INEN", 29, 29, .rwb, false, .any⟩,
    ⟨"WIDTH", 8, 0, .rwb, false, .range 1 500⟩]⟩,
  ⟨"FLU_PTPGM_LO", 0x304014, 1, 0x0, 1, 0x0, 0x0, 0, [⟨"VALUE", 31, 0, .ro, false, .any⟩]⟩,
  ⟨"FLU_PTPGM_HI", 0x304018, 1, 0x0, 1, 0x0, 0x0, 0, [⟨"VALUE", 31, 0, .ro, false, .any⟩]⟩,
  ⟨"FLU_PPSIN_LO", 0x304024, 1, 0x0, 1, 0x0, 0x0, 0, [⟨"VALUE", 31, 0, .ro, false, .any⟩]⟩,
  ⟨"FLU_PPSIN_HI", 0x304028, 1, 0x0, 1, 0x0, 0x0, 0, [⟨"VALUE", 31, 0, .ro, false, .any⟩]⟩,
  ⟨"FLU_SEVT", 0x304030, 1, 0x0, 1, 0x0, 0x0, 0, [⟨"SEQ", 31, 24, .sqc, false, .any⟩, ⟨"PPSIN", 5, 5, .sqc, false, .any⟩, ⟨"GMCHG", 4, 4, .sqc, false, .any⟩,
    ⟨"PTPPORT", 3, 3, .sqc, false, .any⟩, ⟨"STEP", 2, 2, .sqc, false, .any⟩, ⟨"UNLOCK", 1, 1, .sqc, false, .any⟩,
    ⟨"LOCK", 0, 0, .sqc, false, .any⟩]⟩,
  ⟨"FLU_SEVT_EN", 0x304034, 1, 0x0, 1, 0x0, 0x0, 0, [⟨"PPSIN", 5, 5, .rw, false, .any⟩, ⟨"GMCHG", 4, 4, .rw, false, .any⟩, ⟨"PTPPORT", 3, 3, .rw, false, .any⟩,
    ⟨"STEP", 2, 2, .rw, false, .any⟩, ⟨"UNLOCK", 1, 1, .rw, false, .any⟩, ⟨"LOCK", 0, 0, .rw, false, .any⟩]⟩]

/-- Registers of block FLU, part 6. -/
def regsFlu5 : List Reg := [
  ⟨"FLU_SH_CGRP", 0x304FFC, 1, 0x0, 1, 0x0, 0x0, 0, [⟨"PEND", 31, 31, .ro, false, .any⟩, ⟨"REJ", 30, 30, .ro, false, .any⟩, ⟨"GROUP", 3, 0, .rw, false, .any⟩]⟩]

/-- Every register of block FLU. -/
def regsFlu : List Reg := regsFlu0 ++ regsFlu1 ++ regsFlu2 ++ regsFlu3 ++ regsFlu4 ++ regsFlu5

/-- Registers of block AUD. -/
def regsAud0 : List Reg := [
  ⟨"AUD_TONE_F", 0x310000, 1, 0x0, 1, 0x0, 0x35503C0, 0, [⟨"F1", 31, 16, .rwb, false, .range 100 4000⟩, ⟨"F2", 15, 0, .rwb, false, .any⟩]⟩,
  ⟨"AUD_TONE_C", 0x310004, 1, 0x0, 1, 0x0, 0xC3200, 0, [⟨"FORCE", 31, 31, .rwb, false, .any⟩, ⟨"ALT", 30, 30, .rwb, false, .any⟩, ⟨"LEVEL", 23, 16, .rwb, false, .any⟩,
    ⟨"ON", 15, 8, .rwb, false, .range 1 255⟩, ⟨"OFF", 7, 0, .rwb, false, .any⟩]⟩,
  ⟨"AUD_GSTAT", 0x310008, 1, 0x0, 1, 0x0, 0x0, 0, [⟨"MCLKOK", 31, 31, .ro, false, .any⟩, ⟨"TONE", 30, 30, .ro, false, .any⟩, ⟨"FEEDS", 29, 24, .ro, false, .any⟩,
    ⟨"MCLK", 23, 0, .ro, false, .any⟩]⟩,
  ⟨"AUD_GEVT", 0x310010, 1, 0x0, 1, 0x0, 0x0, 0, [⟨"SEQ", 31, 24, .sqc, false, .any⟩, ⟨"TONEOFF", 3, 3, .sqc, false, .any⟩, ⟨"TONEON", 2, 2, .sqc, false, .any⟩,
    ⟨"MCLKOK", 1, 1, .sqc, false, .any⟩, ⟨"MCLKLOST", 0, 0, .sqc, false, .any⟩]⟩,
  ⟨"AUD_GEVT_EN", 0x310014, 1, 0x0, 1, 0x0, 0x0, 0, [⟨"TONEOFF", 3, 3, .rw, false, .any⟩, ⟨"TONEON", 2, 2, .rw, false, .any⟩, ⟨"MCLKOK", 1, 1, .rw, false, .any⟩,
    ⟨"MCLKLOST", 0, 0, .rw, false, .any⟩]⟩,
  ⟨"AUD_G_CGRP", 0x310FFC, 1, 0x0, 1, 0x0, 0x0, 0, [⟨"PEND", 31, 31, .ro, false, .any⟩, ⟨"REJ", 30, 30, .ro, false, .any⟩, ⟨"GROUP", 3, 0, .rw, false, .any⟩]⟩,
  ⟨"AUD_CTL", 0x311000, 8, 0x1000, 1, 0x0, 0x9012407, 0, [⟨"EN", 31, 31, .rwb, false, .any⟩, ⟨"MASTER", 30, 30, .rwb, false, .any⟩, ⟨"FMT", 29, 28, .rwb, false, .range 0 2⟩,
    ⟨"AUTOHEAL", 27, 27, .rwb, false, .any⟩, ⟨"BCLKINV", 26, 26, .rwb, false, .any⟩, ⟨"FSINV", 25, 25, .rwb, false, .any⟩,
    ⟨"DELAY", 24, 24, .rwb, false, .any⟩, ⟨"SLOTS", 19, 16, .rwb, false, .any⟩, ⟨"SWIDTH", 13, 12, .rwb, false, .range 0 2⟩,
    ⟨"SAMPW", 11, 10, .rwb, false, .range 0 2⟩, ⟨"MDIV", 7, 0, .rwb, false, .any⟩]⟩,
  ⟨"AUD_MASK", 0x311004, 8, 0x1000, 1, 0x0, 0x0, 0, [⟨"RXMASK", 31, 16, .rwb, false, .any⟩, ⟨"TXMASK", 15, 0, .rwb, false, .any⟩]⟩,
  ⟨"AUD_RATE", 0x311008, 8, 0x1000, 1, 0x0, 0x0, 0, [⟨"NOM", 31, 28, .ro, false, .any⟩, ⟨"RATE", 24, 0, .ro, false, .any⟩]⟩,
  ⟨"AUD_STAT", 0x31100C, 8, 0x1000, 1, 0x0, 0x0, 0, [⟨"LOCK_TX", 31, 31, .ro, false, .any⟩, ⟨"LOCK_RX", 30, 30, .ro, false, .any⟩, ⟨"CLKLOST", 29, 29, .ro, false, .any⟩,
    ⟨"MUTED_TX", 28, 28, .ro, false, .any⟩, ⟨"MUTED_RX", 27, 27, .ro, false, .any⟩, ⟨"ROTTX", 15, 12, .ro, false, .any⟩,
    ⟨"ROTRX", 11, 8, .ro, false, .any⟩, ⟨"RJCODE", 7, 0, .ro, false, .any⟩]⟩,
  ⟨"AUD_TXRATIO_LO", 0x311010, 8, 0x1000, 1, 0x0, 0x0, 0, [⟨"FRAC", 31, 0, .ro, false, .any⟩]⟩,
  ⟨"AUD_TXRATIO_HI", 0x311014, 8, 0x1000, 1, 0x0, 0x0, 0, [⟨"INT", 3, 0, .ro, false, .any⟩]⟩,
  ⟨"AUD_RXRATIO_LO", 0x311018, 8, 0x1000, 1, 0x0, 0x0, 0, [⟨"FRAC", 31, 0, .ro, false, .any⟩]⟩,
  ⟨"AUD_RXRATIO_HI", 0x31101C, 8, 0x1000, 1, 0x0, 0x0, 0, [⟨"INT", 3, 0, .ro, false, .any⟩]⟩,
  ⟨"AUD_EVT", 0x311020, 8, 0x1000, 1, 0x0, 0x0, 0, [⟨"SEQ", 31, 24, .sqc, false, .any⟩, ⟨"HEALED", 7, 7, .sqc, false, .any⟩, ⟨"LANEGAP", 6, 6, .sqc, false, .any⟩,
    ⟨"SLIP", 5, 5, .sqc, false, .any⟩, ⟨"GLITCH", 4, 4, .sqc, false, .any⟩, ⟨"RATECHG", 3, 3, .sqc, false, .any⟩,
    ⟨"CLKBACK", 2, 2, .sqc, false, .any⟩, ⟨"CLKLOST", 1, 1, .sqc, false, .any⟩, ⟨"LOCKED", 0, 0, .sqc, false, .any⟩]⟩,
  ⟨"AUD_EVT_EN", 0x311024, 8, 0x1000, 1, 0x0, 0x0, 0, [⟨"HEALED", 7, 7, .rw, false, .any⟩, ⟨"LANEGAP", 6, 6, .rw, false, .any⟩, ⟨"SLIP", 5, 5, .rw, false, .any⟩,
    ⟨"GLITCH", 4, 4, .rw, false, .any⟩, ⟨"RATECHG", 3, 3, .rw, false, .any⟩, ⟨"CLKBACK", 2, 2, .rw, false, .any⟩,
    ⟨"CLKLOST", 1, 1, .rw, false, .any⟩, ⟨"LOCKED", 0, 0, .rw, false, .any⟩]⟩,
  ⟨"AUD_CNT", 0x311028, 8, 0x1000, 1, 0x0, 0x0, 0, [⟨"GLITCH", 31, 16, .ro, false, .any⟩, ⟨"TXSLIP", 15, 8, .ro, false, .any⟩, ⟨"RXSLIP", 7, 0, .ro, false, .any⟩]⟩,
  ⟨"AUD_ROUTE", 0x311100, 8, 0x1000, 16, 0x4, 0x0, 0, [⟨"SRC", 31, 30, .rwb, false, .any⟩, ⟨"TONEOVR", 29, 29, .rwb, false, .any⟩, ⟨"INDEX", 22, 16, .rwb, false, .any⟩,
    ⟨"LSTREAM", 14, 12, .rwb, false, .any⟩, ⟨"CHAN", 11, 8, .rwb, false, .any⟩, ⟨"ATTEN", 7, 0, .rwb, false, .any⟩]⟩,
  ⟨"AUD_CGRP", 0x311FFC, 8, 0x1000, 1, 0x0, 0x0, 0, [⟨"PEND", 31, 31, .ro, false, .any⟩, ⟨"REJ", 30, 30, .ro, false, .any⟩, ⟨"GROUP", 3, 0, .rw, false, .any⟩]⟩]

/-- Every register of block AUD. -/
def regsAud : List Reg := regsAud0

/-- Registers of block AUX. -/
def regsAux0 : List Reg := [
  ⟨"AUX_CFG", 0x320000, 3, 0x1000, 1, 0x0, 0x90193015, 0, [⟨"EN", 31, 31, .rwb, false, .any⟩, ⟨"SPEED", 30, 29, .rwb, false, .range 0 2⟩, ⟨"AUTOCLR", 28, 28, .rwb, false, .any⟩,
    ⟨"WRETRY", 27, 27, .rwb, false, .any⟩, ⟨"NAKRETRY", 26, 26, .rwb, false, .any⟩, ⟨"SCLTMO", 23, 16, .rwb, false, .range 1 255⟩,
    ⟨"RETRY", 15, 12, .rwb, false, .any⟩, ⟨"RDELAY", 7, 4, .rwb, false, .any⟩, ⟨"FILTER", 3, 0, .rwb, false, .any⟩]⟩,
  ⟨"AUX_CMD", 0x320004, 3, 0x1000, 1, 0x0, 0x0, 0, [⟨"OP", 31, 24, .wo, false, .any⟩, ⟨"TAG", 15, 8, .wo, false, .any⟩]⟩,
  ⟨"AUX_CMDSTAT", 0x320008, 3, 0x1000, 1, 0x0, 0x0, 0, [⟨"OP", 31, 24, .ro, false, .any⟩, ⟨"STATUS", 23, 16, .ro, false, .any⟩, ⟨"TAG", 15, 8, .ro, false, .any⟩,
    ⟨"LOST", 1, 1, .ro, false, .any⟩, ⟨"BUSY", 0, 0, .ro, false, .any⟩]⟩,
  ⟨"AUX_XFER", 0x32000C, 3, 0x1000, 1, 0x0, 0x0, 0, [⟨"ADDR", 30, 24, .rw, false, .any⟩, ⟨"WLEN", 15, 8, .rw, false, .any⟩, ⟨"RLEN", 7, 0, .rw, false, .any⟩]⟩,
  ⟨"AUX_XSTAT", 0x320010, 3, 0x1000, 1, 0x0, 0x0, 0, [⟨"WDONE", 31, 24, .ro, false, .any⟩, ⟨"RDONE", 23, 16, .ro, false, .any⟩, ⟨"TRIES", 15, 12, .ro, false, .any⟩,
    ⟨"BYTE", 11, 4, .ro, false, .any⟩, ⟨"BIT", 3, 0, .ro, false, .any⟩]⟩,
  ⟨"AUX_STAT", 0x320014, 3, 0x1000, 1, 0x0, 0xC000000, 0, [⟨"FREE", 31, 31, .ro, false, .any⟩, ⟨"OWN", 30, 30, .ro, false, .any⟩, ⟨"SCLSTUCK", 29, 29, .ro, false, .any⟩,
    ⟨"SDASTUCK", 28, 28, .ro, false, .any⟩, ⟨"SCL", 27, 27, .ro, false, .any⟩, ⟨"SDA", 26, 26, .ro, false, .any⟩,
    ⟨"ATN", 25, 25, .ro, false, .any⟩]⟩,
  ⟨"AUX_EVT", 0x320020, 3, 0x1000, 1, 0x0, 0x0, 0, [⟨"SEQ", 31, 24, .sqc, false, .any⟩, ⟨"SRABORT", 9, 9, .sqc, false, .any⟩, ⟨"ATTNSTUCK", 8, 8, .sqc, false, .any⟩,
    ⟨"ATTN", 7, 7, .sqc, false, .any⟩, ⟨"SDASTUCK", 6, 6, .sqc, false, .any⟩, ⟨"STUCK", 5, 5, .sqc, false, .any⟩,
    ⟨"BUSFREE", 4, 4, .sqc, false, .any⟩, ⟨"BUSERR", 3, 3, .sqc, false, .any⟩, ⟨"ARBLOST", 2, 2, .sqc, false, .any⟩,
    ⟨"CLEAR", 1, 1, .sqc, false, .any⟩, ⟨"CMDDONE", 0, 0, .sqc, false, .any⟩]⟩,
  ⟨"AUX_EVT_EN", 0x320024, 3, 0x1000, 1, 0x0, 0x0, 0, [⟨"SRABORT", 9, 9, .rw, false, .any⟩, ⟨"ATTNSTUCK", 8, 8, .rw, false, .any⟩, ⟨"ATTN", 7, 7, .rw, false, .any⟩,
    ⟨"SDASTUCK", 6, 6, .rw, false, .any⟩, ⟨"STUCK", 5, 5, .rw, false, .any⟩, ⟨"BUSFREE", 4, 4, .rw, false, .any⟩,
    ⟨"BUSERR", 3, 3, .rw, false, .any⟩, ⟨"ARBLOST", 2, 2, .rw, false, .any⟩, ⟨"CLEAR", 1, 1, .rw, false, .any⟩,
    ⟨"CMDDONE", 0, 0, .rw, false, .any⟩]⟩,
  ⟨"AUX_CNT0", 0x320028, 3, 0x1000, 1, 0x0, 0x0, 0, [⟨"ARBLOST", 31, 16, .ro, false, .any⟩, ⟨"BUSERR", 15, 0, .ro, false, .any⟩]⟩,
  ⟨"AUX_CNT1", 0x32002C, 3, 0x1000, 1, 0x0, 0x0, 0, [⟨"SCLTMO", 31, 16, .ro, false, .any⟩, ⟨"CLEARS", 15, 0, .ro, false, .any⟩]⟩,
  ⟨"AUX_TCFG", 0x320040, 1, 0x0, 1, 0x0, 0x0, 0, [⟨"ATNEN", 31, 31, .rwb, false, .any⟩, ⟨"ATNQ", 30, 30, .rwb, false, .any⟩, ⟨"TADDR", 6, 0, .ro, false, .any⟩]⟩,
  ⟨"AUX_ATNLOG", 0x320044, 1, 0x0, 1, 0x0, 0x0, 0, [⟨"COUNT", 31, 16, .ro, false, .any⟩, ⟨"ADDR", 6, 0, .ro, false, .any⟩]⟩,
  ⟨"AUX_ATNTIME_LO", 0x320048, 1, 0x0, 1, 0x0, 0x0, 0, [⟨"VALUE", 31, 0, .ro, false, .any⟩]⟩,
  ⟨"AUX_ATNTIME_HI", 0x32004C, 1, 0x0, 1, 0x0, 0x0, 0, [⟨"VALUE", 31, 0, .ro, false, .any⟩]⟩,
  ⟨"AUX_HMUSER", 0x320050, 4, 0x4, 1, 0x0, 0x0, 0, [⟨"DATA", 31, 0, .rw, false, .any⟩]⟩,
  ⟨"AUX_TCNT", 0x320060, 1, 0x0, 1, 0x0, 0x0, 0, [⟨"SRABORT", 31, 24, .ro, false, .any⟩, ⟨"WNACK", 23, 16, .ro, false, .any⟩, ⟨"TMO", 15, 8, .ro, false, .any⟩,
    ⟨"ARA", 7, 0, .ro, false, .any⟩]⟩,
  ⟨"AUX_BUF", 0x320100, 3, 0x1000, 64, 0x4, 0x0, 0, [⟨"VALUE", 31, 0, .rw, false, .any⟩]⟩,
  ⟨"AUX_CGRP", 0x320FFC, 3, 0x1000, 1, 0x0, 0x0, 0, [⟨"PEND", 31, 31, .ro, false, .any⟩, ⟨"REJ", 30, 30, .ro, false, .any⟩, ⟨"GROUP", 3, 0, .rw, false, .any⟩]⟩]

/-- Every register of block AUX. -/
def regsAux : List Reg := regsAux0

/-- Registers of block SMK, part 1. -/
def regsSmk0 : List Reg := [
  ⟨"SMK_CTL", 0x330000, 1, 0x0, 1, 0x0, 0x14003214, 0, [⟨"EN", 31, 31, .rwb, false, .any⟩, ⟨"RXON", 30, 30, .rwb, false, .any⟩, ⟨"COEXEN", 29, 29, .rwb, false, .any⟩,
    ⟨"COEXHOLD", 28, 28, .rwb, false, .any⟩, ⟨"COEXRX", 27, 27, .rwb, false, .any⟩, ⟨"RXSYS", 26, 26, .rwb, false, .any⟩,
    ⟨"RSV", 15, 8, .rwb, false, .range 0 100⟩, ⟨"COEXLEAD", 5, 0, .rwb, false, .range 0 40⟩]⟩,
  ⟨"SMK_RXCFG", 0x330004, 1, 0x0, 1, 0x0, 0x40080208, 0, [⟨"HPF", 31, 30, .rwb, false, .any⟩, ⟨"SYNCERR", 29, 28, .rwb, false, .any⟩, ⟨"MOD4", 27, 27, .rwb, false, .any⟩,
    ⟨"RATE", 26, 25, .rwb, false, .any⟩, ⟨"DCFAST", 19, 16, .rwb, false, .range 4 15⟩, ⟨"CH", 11, 0, .rwb, false, .any⟩]⟩,
  ⟨"SMK_PGCFG", 0x330008, 1, 0x0, 1, 0x0, 0x208, 0, [⟨"PEN", 31, 31, .rwb, false, .any⟩, ⟨"PWR", 30, 25, .rwb, false, .range 0 60⟩, ⟨"MOD4", 24, 24, .rwb, false, .any⟩,
    ⟨"RATE", 23, 22, .rwb, false, .any⟩, ⟨"LPRE", 19, 12, .rwb, false, .any⟩, ⟨"CH", 11, 0, .rwb, false, .any⟩]⟩,
  ⟨"SMK_PGDEST", 0x33000C, 1, 0x0, 1, 0x0, 0xFFFF3064, 0, [⟨"DEST", 31, 16, .rwb, false, .any⟩, ⟨"REPEAT", 15, 12, .rwb, false, .range 1 8⟩, ⟨"PGINT", 9, 0, .rwb, false, .range 10 1000⟩]⟩,
  ⟨"SMK_SYNC", 0x330010, 1, 0x0, 1, 0x0, 0x7A0E6D35, 0, [⟨"SYNC", 31, 0, .rwb, false, .any⟩]⟩,
  ⟨"SMK_RADIO", 0x330014, 1, 0x0, 1, 0x0, 0x8000064, 0, [⟨"PRE", 31, 24, .rwb, false, .range 4 32⟩, ⟨"TMO", 15, 0, .rwb, false, .range 1 1000⟩]⟩,
  ⟨"SMK_TXCMD", 0x330020, 1, 0x0, 1, 0x0, 0x0, 0, [⟨"OP", 31, 24, .wo, false, .any⟩, ⟨"TAG", 15, 8, .wo, false, .any⟩]⟩,
  ⟨"SMK_TXSTAT", 0x330024, 1, 0x0, 1, 0x0, 0x0, 0, [⟨"OP", 31, 24, .ro, false, .any⟩, ⟨"STATUS", 23, 16, .ro, false, .any⟩, ⟨"TAG", 15, 8, .ro, false, .any⟩,
    ⟨"CAUSE", 7, 4, .ro, false, .any⟩, ⟨"LOST", 1, 1, .ro, false, .any⟩, ⟨"BUSY", 0, 0, .ro, false, .any⟩]⟩,
  ⟨"SMK_TXPAR0", 0x330028, 1, 0x0, 1, 0x0, 0xFFFF0208, 0, [⟨"DEST", 31, 16, .rw, false, .any⟩, ⟨"CH", 11, 0, .rw, false, .any⟩]⟩,
  ⟨"SMK_TXPAR1", 0x33002C, 1, 0x0, 1, 0x0, 0x0, 0, [⟨"PWR", 31, 26, .rw, false, .any⟩, ⟨"MOD4", 25, 25, .rw, false, .any⟩, ⟨"RATE", 24, 23, .rw, false, .any⟩,
    ⟨"PRI", 22, 22, .rw, false, .any⟩, ⟨"DEADLINE", 15, 0, .rw, false, .any⟩]⟩,
  ⟨"SMK_TXPAR2", 0x330030, 1, 0x0, 1, 0x0, 0x0, 0, [⟨"SEQ", 31, 0, .rw, false, .any⟩]⟩,
  ⟨"SMK_TXPAR3", 0x330034, 1, 0x0, 1, 0x0, 0x0, 0, [⟨"LEN", 6, 0, .rw, false, .any⟩]⟩,
  ⟨"SMK_STAT", 0x330040, 1, 0x0, 1, 0x0, 0x0, 0, [⟨"STATE", 31, 28, .ro, false, .any⟩, ⟨"LOCK", 27, 27, .ro, false, .any⟩, ⟨"ONCH", 26, 26, .ro, false, .any⟩,
    ⟨"GATE", 25, 25, .ro, false, .any⟩, ⟨"CLAMPED", 24, 24, .ro, false, .any⟩, ⟨"PAGEQ", 23, 20, .ro, false, .any⟩,
    ⟨"CH", 11, 0, .ro, false, .any⟩]⟩,
  ⟨"SMK_PGSTAT", 0x330044, 1, 0x0, 1, 0x0, 0x0, 0, [⟨"OUTCOME", 31, 24, .ro, false, .any⟩, ⟨"CAUSE", 23, 20, .ro, false, .any⟩, ⟨"REPS", 19, 16, .ro, false, .any⟩,
    ⟨"LAT", 15, 0, .ro, false, .any⟩]⟩,
  ⟨"SMK_DUTY", 0x330048, 1, 0x0, 1, 0x0, 0x0, 0, [⟨"SUB", 31, 29, .ro, false, .any⟩, ⟨"USED", 21, 0, .ro, false, .any⟩]⟩,
  ⟨"SMK_EVT", 0x330050, 1, 0x0, 1, 0x0, 0x0, 0, [⟨"SEQ", 31, 24, .sqc, false, .any⟩, ⟨"COEXDENY", 11, 11, .sqc, false, .any⟩, ⟨"UNLOCK", 10, 10, .sqc, false, .any⟩,
    ⟨"TXTMO", 9, 9, .sqc, false, .any⟩, ⟨"DUTYWAIT", 8, 8, .sqc, false, .any⟩, ⟨"CLAMPED", 7, 7, .sqc, false, .any⟩,
    ⟨"CRCERR", 6, 6, .sqc, false, .any⟩, ⟨"RXOVF", 5, 5, .sqc, false, .any⟩, ⟨"RXFRAME", 4, 4, .sqc, false, .any⟩,
    ⟨"PGFAIL", 3, 3, .sqc, false, .any⟩, ⟨"PGSENT", 2, 2, .sqc, false, .any⟩, ⟨"TXFAIL", 1, 1, .sqc, false, .any⟩,
    ⟨"TXDONE", 0, 0, .sqc, false, .any⟩]⟩,
  ⟨"SMK_EVT_EN", 0x330054, 1, 0x0, 1, 0x0, 0x0, 0, [⟨"COEXDENY", 11, 11, .rw, false, .any⟩, ⟨"UNLOCK", 10, 10, .rw, false, .any⟩, ⟨"TXTMO", 9, 9, .rw, false, .any⟩,
    ⟨"DUTYWAIT", 8, 8, .rw, false, .any⟩, ⟨"CLAMPED", 7, 7, .rw, false, .any⟩, ⟨"CRCERR", 6, 6, .rw, false, .any⟩,
    ⟨"RXOVF", 5, 5, .rw, false, .any⟩, ⟨"RXFRAME", 4, 4, .rw, false, .any⟩, ⟨"PGFAIL", 3, 3, .rw, false, .any⟩,
    ⟨"PGSENT", 2, 2, .rw, false, .any⟩, ⟨"TXFAIL", 1, 1, .rw, false, .any⟩, ⟨"TXDONE", 0, 0, .rw, false, .any⟩]⟩,
  ⟨"SMK_RXSTAT", 0x330060, 1, 0x0, 1, 0x0, 0x0, 0, [⟨"COUNT", 7, 4, .ro, false, .any⟩, ⟨"HEAD", 1, 0, .ro, false, .any⟩]⟩,
  ⟨"SMK_RXPOP", 0x330064, 1, 0x0, 1, 0x0, 0x0, 0, [⟨"VALUE", 31, 0, .wo, false, .any⟩]⟩,
  ⟨"SMK_CNT0", 0x330070, 1, 0x0, 1, 0x0, 0x0, 0, [⟨"TXFRAMES", 31, 16, .ro, false, .any⟩, ⟨"RXFRAMES", 15, 0, .ro, false, .any⟩]⟩]

/-- Registers of block SMK, part 2. -/
def regsSmk1 : List Reg := [
  ⟨"SMK_CNT1", 0x330074, 1, 0x0, 1, 0x0, 0x0, 0, [⟨"CRCERR", 31, 16, .ro, false, .any⟩, ⟨"RXABORT", 15, 0, .ro, false, .any⟩]⟩,
  ⟨"SMK_CNT2", 0x330078, 1, 0x0, 1, 0x0, 0x0, 0, [⟨"LATE", 31, 16, .ro, false, .any⟩, ⟨"PGSKIP", 15, 0, .ro, false, .any⟩]⟩,
  ⟨"SMK_RGNID", 0x330100, 1, 0x0, 1, 0x0, 0x0, 0, [⟨"VALID", 31, 31, .ro, false, .any⟩, ⟨"ID", 15, 0, .ro, false, .any⟩]⟩,
  ⟨"SMK_RGNLIM", 0x330104, 1, 0x0, 1, 0x0, 0x0, 0, [⟨"WINDOW", 31, 20, .ro, false, .any⟩, ⟨"TXMAX", 19, 10, .ro, false, .any⟩]⟩,
  ⟨"SMK_RGN_W0", 0x330110, 8, 0x8, 1, 0x0, 0x0, 0, [⟨"EN", 31, 31, .ro, false, .any⟩, ⟨"HI", 27, 16, .ro, false, .any⟩, ⟨"LO", 11, 0, .ro, false, .any⟩]⟩,
  ⟨"SMK_RGN_W1", 0x330114, 8, 0x8, 1, 0x0, 0x0, 0, [⟨"DUTY", 25, 16, .ro, false, .any⟩, ⟨"PMAX", 5, 0, .ro, false, .any⟩]⟩,
  ⟨"EMB_CFG", 0x330800, 1, 0x0, 1, 0x0, 0x1600BE, 0, [⟨"EN", 31, 31, .rwb, false, .any⟩, ⟨"WAKE", 30, 30, .rwb, false, .any⟩, ⟨"FEMRX", 29, 29, .rwb, false, .any⟩,
    ⟨"ERRMAX", 28, 27, .rwb, false, .any⟩, ⟨"THR", 23, 16, .rwb, false, .range 15 50⟩, ⟨"FREQ", 9, 0, .rwb, false, .any⟩]⟩,
  ⟨"EMB_PAT", 0x330804, 1, 0x0, 1, 0x0, 0x0, 0, [⟨"PAT", 31, 0, .rwb, false, .any⟩]⟩,
  ⟨"EMB_STAT", 0x330808, 1, 0x0, 1, 0x0, 0x0, 0, [⟨"WOKE", 31, 31, .ro, false, .any⟩, ⟨"SEARCH", 30, 30, .ro, false, .any⟩, ⟨"ERRS", 29, 28, .ro, false, .any⟩,
    ⟨"MATCHES", 15, 0, .ro, false, .any⟩]⟩,
  ⟨"EMB_TIME_LO", 0x33080C, 1, 0x0, 1, 0x0, 0x0, 0, [⟨"VALUE", 31, 0, .ro, false, .any⟩]⟩,
  ⟨"EMB_TIME_HI", 0x330810, 1, 0x0, 1, 0x0, 0x0, 0, [⟨"VALUE", 31, 0, .ro, false, .any⟩]⟩,
  ⟨"EMB_EVT", 0x330820, 1, 0x0, 1, 0x0, 0x0, 0, [⟨"SEQ", 31, 24, .sqc, false, .any⟩, ⟨"SKIP", 2, 2, .sqc, false, .any⟩, ⟨"FALSEDET", 1, 1, .sqc, false, .any⟩,
    ⟨"MATCH", 0, 0, .sqc, false, .any⟩]⟩,
  ⟨"EMB_EVT_EN", 0x330824, 1, 0x0, 1, 0x0, 0x0, 0, [⟨"SKIP", 2, 2, .rw, false, .any⟩, ⟨"FALSEDET", 1, 1, .rw, false, .any⟩, ⟨"MATCH", 0, 0, .rw, false, .any⟩]⟩,
  ⟨"EMB_CNT", 0x330828, 1, 0x0, 1, 0x0, 0x0, 0, [⟨"FALSEDET", 31, 16, .ro, false, .any⟩, ⟨"SKIP", 15, 0, .ro, false, .any⟩]⟩,
  ⟨"SMK_CGRP", 0x330FFC, 1, 0x0, 1, 0x0, 0x0, 0, [⟨"PEND", 31, 31, .ro, false, .any⟩, ⟨"REJ", 30, 30, .ro, false, .any⟩, ⟨"GROUP", 3, 0, .rw, false, .any⟩]⟩,
  ⟨"SMK_TXBUF", 0x331000, 29, 0x4, 1, 0x0, 0x0, 0, [⟨"VALUE", 31, 0, .rw, false, .any⟩]⟩,
  ⟨"SMK_RXFIFO", 0x332000, 4, 0x100, 64, 0x4, 0x0, 0, [⟨"VALUE", 31, 0, .ro, false, .any⟩]⟩]

/-- Every register of block SMK. -/
def regsSmk : List Reg := regsSmk0 ++ regsSmk1

/-- Registers of block CAL, part 1. -/
def regsCal0 : List Reg := [
  ⟨"CAL_CMD", 0x340000, 1, 0x0, 1, 0x0, 0x0, 0, [⟨"OP", 31, 24, .wo, false, .any⟩, ⟨"TARGET", 23, 16, .wo, false, .any⟩, ⟨"TAG", 15, 8, .wo, false, .any⟩,
    ⟨"ARG", 7, 0, .wo, false, .any⟩]⟩,
  ⟨"CAL_CMDSTAT", 0x340004, 1, 0x0, 1, 0x0, 0x0, 0, [⟨"OP", 31, 24, .ro, false, .any⟩, ⟨"STATUS", 23, 16, .ro, false, .any⟩, ⟨"TAG", 15, 8, .ro, false, .any⟩,
    ⟨"LOST", 1, 1, .ro, false, .any⟩, ⟨"BUSY", 0, 0, .ro, false, .any⟩]⟩,
  ⟨"CAL_REFF", 0x340008, 1, 0x0, 1, 0x0, 0x0, 0, [⟨"FREQ", 31, 0, .rw, false, .any⟩]⟩,
  ⟨"CAL_REFL", 0x34000C, 1, 0x0, 1, 0x0, 0x0, 0, [⟨"LEVEL", 15, 0, .rw, false, .any⟩]⟩,
  ⟨"CAL_EVT", 0x340010, 1, 0x0, 1, 0x0, 0x0, 0, [⟨"SEQ", 31, 24, .sqc, false, .any⟩, ⟨"RESTORED", 3, 3, .sqc, false, .any⟩, ⟨"CALFAIL", 2, 2, .sqc, false, .any⟩,
    ⟨"CALDONE", 1, 1, .sqc, false, .any⟩, ⟨"CMDDONE", 0, 0, .sqc, false, .any⟩]⟩,
  ⟨"CAL_EVT_EN", 0x340014, 1, 0x0, 1, 0x0, 0x0, 0, [⟨"RESTORED", 3, 3, .rw, false, .any⟩, ⟨"CALFAIL", 2, 2, .rw, false, .any⟩, ⟨"CALDONE", 1, 1, .rw, false, .any⟩,
    ⟨"CMDDONE", 0, 0, .rw, false, .any⟩]⟩,
  ⟨"CAL_TST_W0", 0x340100, 7, 0x20, 1, 0x0, 0x0, 0, [⟨"STATUS", 31, 24, .ro, false, .any⟩, ⟨"SRC", 23, 16, .ro, false, .any⟩, ⟨"COUNT", 15, 0, .ro, false, .any⟩]⟩,
  ⟨"CAL_TST_W1", 0x340104, 7, 0x20, 1, 0x0, 0x0, 0, [⟨"DGAIN", 31, 16, .ro, false, .any⟩, ⟨"DPHASE", 15, 0, .ro, false, .any⟩]⟩,
  ⟨"CAL_TST_W2", 0x340108, 7, 0x20, 1, 0x0, 0x0, 0, [⟨"VALUE", 31, 0, .ro, false, .any⟩]⟩,
  ⟨"CAL_TST_W3", 0x34010C, 7, 0x20, 1, 0x0, 0x0, 0, [⟨"VALUE", 31, 0, .ro, false, .any⟩]⟩,
  ⟨"CAL_TST_W4", 0x340110, 7, 0x20, 1, 0x0, 0x0, 0, [⟨"RESTCNT", 31, 16, .ro, false, .any⟩, ⟨"TEMP", 15, 0, .ro, false, .any⟩]⟩,
  ⟨"CAL_VAL", 0x341000, 4, 0x400, 256, 0x4, 0x0, 0, [⟨"VALUE", 31, 0, .ro, false, .any⟩]⟩,
  ⟨"CAL_STG", 0x342000, 4, 0x400, 256, 0x4, 0x0, 0, [⟨"VALUE", 31, 0, .rw, false, .any⟩]⟩,
  ⟨"BST_CMD", 0x350000, 1, 0x0, 1, 0x0, 0x0, 0, [⟨"OP", 31, 24, .wo, false, .any⟩, ⟨"KIND", 23, 16, .wo, false, .any⟩, ⟨"TAG", 15, 8, .wo, false, .any⟩,
    ⟨"INDEX", 7, 0, .wo, false, .any⟩]⟩,
  ⟨"BST_CMDSTAT", 0x350004, 1, 0x0, 1, 0x0, 0x0, 0, [⟨"OP", 31, 24, .ro, false, .any⟩, ⟨"STATUS", 23, 16, .ro, false, .any⟩, ⟨"TAG", 15, 8, .ro, false, .any⟩,
    ⟨"LOST", 1, 1, .ro, false, .any⟩, ⟨"BUSY", 0, 0, .ro, false, .any⟩]⟩,
  ⟨"BST_RES", 0x350008, 1, 0x0, 1, 0x0, 0x0, 0, [⟨"KIND", 31, 24, .ro, false, .any⟩, ⟨"INDEX", 23, 16, .ro, false, .any⟩, ⟨"RESULT", 15, 8, .ro, false, .any⟩,
    ⟨"MEMBAD", 7, 0, .ro, false, .any⟩]⟩,
  ⟨"BST_LSIG_LO", 0x350010, 1, 0x0, 1, 0x0, 0x0, 0, [⟨"SIG", 31, 0, .ro, false, .any⟩]⟩,
  ⟨"BST_LSIG_HI", 0x350014, 1, 0x0, 1, 0x0, 0x0, 0, [⟨"SIG", 31, 0, .ro, false, .any⟩]⟩,
  ⟨"BST_MSIG_LO", 0x350018, 1, 0x0, 1, 0x0, 0x0, 0, [⟨"SIG", 31, 0, .ro, false, .any⟩]⟩,
  ⟨"BST_MSIG_HI", 0x35001C, 1, 0x0, 1, 0x0, 0x0, 0, [⟨"SIG", 31, 0, .ro, false, .any⟩]⟩]

/-- Registers of block CAL, part 2. -/
def regsCal1 : List Reg := [
  ⟨"BST_EVT", 0x350020, 1, 0x0, 1, 0x0, 0x0, 0, [⟨"SEQ", 31, 24, .sqc, false, .any⟩, ⟨"FAIL", 2, 2, .sqc, false, .any⟩, ⟨"PASS", 1, 1, .sqc, false, .any⟩,
    ⟨"CMDDONE", 0, 0, .sqc, false, .any⟩]⟩,
  ⟨"BST_EVT_EN", 0x350024, 1, 0x0, 1, 0x0, 0x0, 0, [⟨"FAIL", 2, 2, .rw, false, .any⟩, ⟨"PASS", 1, 1, .rw, false, .any⟩, ⟨"CMDDONE", 0, 0, .rw, false, .any⟩]⟩,
  ⟨"BST_EXP", 0x350100, 8, 0x10, 4, 0x4, 0x0, 0, [⟨"VALUE", 31, 0, .ro, false, .any⟩]⟩,
  ⟨"SOOT_PTR", 0x360000, 1, 0x0, 1, 0x0, 0x0, 0, [⟨"COUNT", 31, 0, .ro, false, .any⟩]⟩,
  ⟨"SOOT_RD", 0x360004, 1, 0x0, 1, 0x0, 0x0, 0, [⟨"COUNT", 31, 0, .rw, false, .any⟩]⟩,
  ⟨"SOOT_ACK", 0x360008, 1, 0x0, 1, 0x0, 0x0, 0, [⟨"COUNT", 31, 0, .rw, false, .any⟩]⟩,
  ⟨"SOOT_STAT", 0x36000C, 1, 0x0, 1, 0x0, 0x0, 0, [⟨"FIRSTV", 31, 31, .ro, false, .any⟩, ⟨"UNACK", 30, 16, .ro, false, .any⟩, ⟨"LOST", 15, 0, .ro, false, .any⟩]⟩,
  ⟨"SOOT_EVT", 0x360010, 1, 0x0, 1, 0x0, 0x0, 0, [⟨"SEQ", 31, 24, .sqc, false, .any⟩, ⟨"WRAP", 2, 2, .sqc, false, .any⟩, ⟨"SEVERE", 1, 1, .sqc, false, .any⟩,
    ⟨"NEW", 0, 0, .sqc, false, .any⟩]⟩,
  ⟨"SOOT_EVT_EN", 0x360014, 1, 0x0, 1, 0x0, 0x0, 0, [⟨"WRAP", 2, 2, .rw, false, .any⟩, ⟨"SEVERE", 1, 1, .rw, false, .any⟩, ⟨"NEW", 0, 0, .rw, false, .any⟩]⟩,
  ⟨"SOOT_FIRST", 0x360020, 4, 0x4, 1, 0x0, 0x0, 0, [⟨"VALUE", 31, 0, .ro, false, .any⟩]⟩,
  ⟨"SOOT_FSEQ", 0x360030, 1, 0x0, 1, 0x0, 0x0, 0, [⟨"VALUE", 31, 0, .ro, false, .any⟩]⟩,
  ⟨"SOOT_RING", 0x361000, 1024, 0x10, 4, 0x4, 0x0, 0, [⟨"VALUE", 31, 0, .ro, false, .any⟩]⟩]

/-- Every register of block CAL. -/
def regsCal : List Reg := regsCal0 ++ regsCal1

/-- Registers of block OTP. -/
def regsOtp0 : List Reg := [
  ⟨"OTP_WORD", 0x400000, 36, 0x4, 1, 0x0, 0x0, 0, [⟨"VALUE", 31, 0, .ro, true, .any⟩]⟩]

/-- Every register of block OTP. -/
def regsOtp : List Reg := regsOtp0

/-- Registers of block PST. -/
def regsPst0 : List Reg := [
  ⟨"PST_CMD", 0xA00000, 1, 0x0, 1, 0x0, 0x0, 0, [⟨"OP", 31, 24, .wo, false, .any⟩, ⟨"ARG", 23, 16, .wo, false, .any⟩, ⟨"TAG", 15, 8, .wo, false, .any⟩]⟩,
  ⟨"PST_CMDSTAT", 0xA00004, 1, 0x0, 1, 0x0, 0x0, 0, [⟨"OP", 31, 24, .ro, false, .any⟩, ⟨"STATUS", 23, 16, .ro, false, .any⟩, ⟨"TAG", 15, 8, .ro, false, .any⟩,
    ⟨"LOST", 1, 1, .ro, false, .any⟩, ⟨"BUSY", 0, 0, .ro, false, .any⟩]⟩,
  ⟨"PST_EPOCH", 0xA00008, 1, 0x0, 1, 0x0, 0x10001, 0, [⟨"DEV", 31, 31, .ro, false, .any⟩, ⟨"SILICON", 23, 16, .ro, false, .any⟩, ⟨"ABI", 15, 8, .ro, false, .any⟩,
    ⟨"HOB", 7, 0, .ro, false, .any⟩]⟩,
  ⟨"PST_EVT", 0xA00010, 1, 0x0, 1, 0x0, 0x0, 0, [⟨"SEQ", 31, 24, .sqc, false, .any⟩, ⟨"SLOTBAD", 2, 2, .sqc, false, .any⟩, ⟨"WPROT", 1, 1, .sqc, false, .any⟩,
    ⟨"CMDDONE", 0, 0, .sqc, false, .any⟩]⟩,
  ⟨"PST_EVT_EN", 0xA00014, 1, 0x0, 1, 0x0, 0x0, 0, [⟨"SLOTBAD", 2, 2, .rw, false, .any⟩, ⟨"WPROT", 1, 1, .rw, false, .any⟩, ⟨"CMDDONE", 0, 0, .rw, false, .any⟩]⟩,
  ⟨"PST_SLOT", 0xA00100, 64, 0x4, 1, 0x0, 0x0, 0, [⟨"STATE", 31, 28, .ro, false, .any⟩, ⟨"TYPE", 27, 26, .ro, false, .any⟩, ⟨"SIGNER", 25, 24, .ro, false, .any⟩,
    ⟨"PIN", 23, 23, .ro, false, .any⟩, ⟨"LANES", 22, 16, .ro, false, .any⟩, ⟨"STD", 15, 8, .ro, false, .any⟩,
    ⟨"STATUS", 7, 0, .ro, false, .any⟩]⟩]

/-- Every register of block PST. -/
def regsPst : List Reg := regsPst0

/-- The rows of the block whose range of R55 holds an address. -/
def blockRegs (a : Nat) : List Reg :=
  if a < 0x10000 then regsSys
  else if a < 0x20000 then regsClk
  else if a < 0x30000 then regsRst
  else if a < 0x40000 then regsFwt
  else if a < 0x50000 then regsCap
  else if a < 0x60000 then regsGrt
  else if a < 0x100000 then []
  else if a < 0x160000 then regsLane
  else if a < 0x170000 then regsHst
  else if a < 0x200000 then []
  else if a < 0x210000 then regsOvn
  else if a < 0x220000 then regsChm
  else if a < 0x230000 then regsAsh
  else if a < 0x300000 then []
  else if a < 0x310000 then regsFlu
  else if a < 0x320000 then regsAud
  else if a < 0x330000 then regsAux
  else if a < 0x340000 then regsSmk
  else if a < 0x370000 then regsCal
  else if a < 0x400000 then []
  else if a < 0x410000 then regsOtp
  else if a < 0xA00000 then []
  else if a < 0xA10000 then regsPst
  else []

/-- Word (i, j) of a register that lies at an address, if one does. -/
def Reg.at? (r : Reg) (a : Nat) : Option (Nat × Nat) :=
  if a < r.base then none
  else
    let k := a - r.base
    let i := if r.c1 ≤ 1 then 0 else k / r.s1
    let m := if r.c1 ≤ 1 then k else k % r.s1
    let j := if r.c2 ≤ 1 then 0 else m / r.s2
    if i < r.c1 && j < r.c2 && k == i * r.s1 + j * r.s2 then some (i, j) else none

/-- The first row among `rs` that holds an address. -/
def findReg (a : Nat) : List Reg → Option Reg
  | [] => none
  | r :: rs => if (r.at? a).isSome then some r else findReg a rs

/-- The register at a word address (R55); none for an unassigned address (R13). -/
def lookupReg (a : Nat) : Option Reg := findReg a (blockRegs a)

/-- The word an unlisted register address reads as: its reset value. The rows whose reset differs from word to word are
CAP_CCn_STAT (R128: 4 for CC0 and CC1 on their aerials, 1 for CC2 on CAL_IN), FWT_LMASK (R285: every lane enabled; absent
lanes are masked when read) and the nominal header words of CAL_VAL and CAL_STG (R502, R504). -/
def regReset (a : Nat) : Word :=
  if a = Reg.CAP_CC_STAT 0 then 0x44303180
  else if a = Reg.CAP_CC_STAT 1 then 0x48303180
  else if a = Reg.CAP_CC_STAT 2 then 0x1C303180
  else if a = Reg.FWT_LMASK 0 ∨ a = Reg.FWT_LMASK 1 ∨ a = Reg.FWT_LMASK 2 then 0xFFFFFFFF
  else if 0x341000 ≤ a ∧ a < 0x343000 then
    (if a % 0x400 = 0 then BitVec.ofNat 32 (0x01000000 + a % 0x1000 / 0x400 * 0x10000)
     else if a % 0x400 = 4 then 0x80F8D2C4 else 0)
  else
    match lookupReg a with
    | some r =>
      match r.at? a with
      | some (i, _) => BitVec.ofNat 32 (r.reset + r.rstep * i)
      | none => 0
    | none => 0

end Sys2Proof.Machine
end

