-- ==== Sys2Proof/Machine/SMap.lean ====
section
/-! DEFINITION. Sparse data by key, in ONE canonical form: keys strictly rising, and no entry equal to what an unlisted
key reads as. Registers, engine records and byte memories are all kept this way, so that equal contents are equal data. -/

namespace Sys2Proof.Machine

/-- A sparse map from numbers. -/
abbrev SMap (α : Type) := List (Nat × α)

/-- The listed value at a key. -/
def SMap.find? {α : Type} (k : Nat) : SMap α → Option α
  | [] => none
  | (j, v) :: m => if j = k then some v else SMap.find? k m

/-- The value at a key; an unlisted key reads as `dflt`. -/
def SMap.get {α : Type} (dflt : α) (m : SMap α) (k : Nat) : α := (SMap.find? k m).getD dflt

/-- The map with a key no longer listed. -/
def SMap.erase {α : Type} (k : Nat) : SMap α → SMap α
  | [] => []
  | (j, v) :: m => if j = k then SMap.erase k m else (j, v) :: SMap.erase k m

/-- The map with an entry put before the first greater key. -/
def SMap.ins {α : Type} (k : Nat) (v : α) : SMap α → SMap α
  | [] => [(k, v)]
  | (j, u) :: m => if k < j then (k, v) :: (j, u) :: m else (j, u) :: SMap.ins k v m

/-- The map with the value at a key replaced; writing what an unlisted key reads as removes the entry. -/
def SMap.put {α : Type} [DecidableEq α] (dflt : α) (m : SMap α) (k : Nat) (v : α) : SMap α :=
  if v = dflt then SMap.erase k m else SMap.ins k v (SMap.erase k m)

/-- Every key is above `lo`, keys rise strictly, and no entry equals its default. -/
def SMap.wfFrom {α : Type} [DecidableEq α] (dflt : Nat → α) : Nat → SMap α → Bool
  | _, [] => true
  | lo, (k, v) :: m => decide (lo ≤ k) && decide (v ≠ dflt k) && SMap.wfFrom dflt (k + 1) m

/-- The canonical form. -/
def SMap.wf {α : Type} [DecidableEq α] (dflt : Nat → α) (m : SMap α) : Bool := SMap.wfFrom dflt 0 m

/-- A byte-addressed memory: `Host.Cell` entries in the canonical form over the byte an unlisted address reads as. -/
abbrev Memory := List Host.Cell

/-- The byte an unlisted address of a RAM of the device reads as (DESIGN CHOICE, log 4: the spec gives RAM no contents
after power-on). -/
def Memory.empty : Byte := 0

/-- The byte at an address. -/
def Memory.read (m : Memory) (a : Nat) : Byte := SMap.get Memory.empty m a

/-- A byte written. -/
def Memory.write (m : Memory) (a : Nat) (b : Byte) : Memory := SMap.put Memory.empty m a b

/-- The canonical form of a byte memory. -/
def Memory.wf (m : Memory) : Bool := SMap.wf (fun _ => Memory.empty) m

/-- Bytes written at rising addresses. -/
def Memory.writeList (m : Memory) (a : Nat) : List Byte → Memory
  | [] => m
  | b :: bs => Memory.writeList (Memory.write m a b) (a + 1) bs

/-- `n` bytes read from an address. -/
def Memory.readList (m : Memory) (a : Nat) : Nat → List Byte
  | 0 => []
  | n + 1 => Memory.read m a :: Memory.readList m (a + 1) n

/-- The little-endian word at an address. -/
def Memory.readWord (m : Memory) (a : Nat) : Word :=
  (Memory.read m (a + 3)) ++ (Memory.read m (a + 2)) ++ (Memory.read m (a + 1)) ++ (Memory.read m a)

/-- A little-endian word written. -/
def Memory.writeWord (m : Memory) (a : Nat) (w : Word) : Memory :=
  Memory.writeList m a [w.extractLsb' 0 8, w.extractLsb' 8 8, w.extractLsb' 16 8, w.extractLsb' 24 8]

/-- Every listed byte from `a` to `a + n - 1` removed: the span reads as an unlisted address. -/
def Memory.clear (m : Memory) (a n : Nat) : Memory := m.filter (fun c => decide (c.1 < a) || decide (a + n ≤ c.1))

/-- The bytes from `a` to `a + n - 1`, as a memory from address `b`. -/
def Memory.window (m : Memory) (a n b : Nat) : Memory :=
  (m.filter (fun c => decide (a ≤ c.1) && decide (c.1 < a + n))).map (fun c => (c.1 - a + b, c.2))

/-- `n` bytes from `a` replaced by those of `w`, which holds them at the same addresses. -/
def Memory.paste (m : Memory) (a n : Nat) (w : Memory) : Memory :=
  w.foldl (fun m c => m.write c.1 c.2) (m.clear a n)

end Sys2Proof.Machine
end

