-- ==== Sys2Proof/Machine/State.lean ====
section
/-! DEFINITION. The state of the device as plain data: every register of the map, every buffer, queue, memory and engine
the spec gives it, and the queue of commands that wait. -/

namespace Sys2Proof.Machine


/-- The orderable part (R1, R10). A field of the state, so that statements hold on every part. -/
inductive Part where
  | fa9604 | fa9600 | fa4802
deriving DecidableEq, Repr

/-- One captured word of a page: its address and the value its shadow held at capture (R58, R65). -/
abbrev Captured := Nat × Word

/-- A page whose captured fields wait for their block's boundary (R60). -/
structure Capture where
  page : Nat
  /-- The commit group the capture belongs to; none for an immediate-mode capture (R65). -/
  group : Option Nat
  /-- Addresses and words captured (R58). -/
  words : List Captured
  /-- A shadow write arrived after the capture cycle, so PEND stays 1 past the apply (R58). -/
  late : Bool
  /-- `now` at the capture (R63, R230). -/
  at_ : Nat
deriving DecidableEq, Repr

/-- A commit that has been broadcast and is not complete (R60). -/
structure Commit where
  tag : Nat
  /-- Its groups that are not complete. -/
  groups : List Nat
  /-- The pages it reached, each with its group: they stay in it until the group is complete (R56). -/
  pages : List (Nat × Nat)
  /-- At least one of its groups was rejected (R59). -/
  err : Bool
deriving DecidableEq, Repr

/-- An armed timed commit (R62): its label, its groups, the pages that belonged to them at arming (R56, R61), and the
DEVTIME read at arming. -/
structure Armed where
  tag : Nat
  groups : List Nat
  pages : List (Nat × Nat)
  time : Nat
deriving DecidableEq, Repr

/-- One 16-byte place of the soot log's holding stage (R509, R512). -/
structure SootItem where
  w0 : Word
  w1 : Word
  w2 : Word
  w3 : Word
  /-- It holds one of the twelve general places, not one of the four kept for severe entries. -/
  general : Bool
deriving DecidableEq, Repr

/-- The latest entry of a source, which a repeat within 1 ms may merge into (R512). -/
structure SootLast where
  code : Nat
  detail : Word
  at_ : Nat
  /-- Its number when it has been written; none while it waits. -/
  written : Option Nat
deriving DecidableEq, Repr

/-- The soot log's own state beside its registers and ring (R509 to R514). -/
structure Soot where
  stage : List SootItem := []
  /-- The entry of each source that a repeat continues (R512). -/
  last : SMap (Option SootLast) := []
  /-- Numbers of the severe entries not yet acknowledged. -/
  unack : List Nat := []
  /-- Severe entries written, for the attention signal (R424). -/
  severe : Nat := 0
deriving DecidableEq, Repr

/-- The PCIe port: link, MSI-X capability state and message spacing (R39 to R44, R79, R82). -/
structure Pcie where
  linkUp : Bool := false
  enable : Bool := false
  fmask : Bool := false
  /-- The 128 words of the MSI-X table that differ from reset, by word index. -/
  table : SMap Word := []
  /-- The pending-bit array, one bit a vector. -/
  pba : Nat := 0
  /-- Vectors whose next message waits for SYS_IMOD.HOLD (R82). -/
  held : List Nat := []
  /-- When the last message of a vector was sent, plus one; 0 for never. -/
  lastMsg : SMap Nat := []
  /-- The base addresses of BAR0 and BAR2 as written (R40), by BAR number. -/
  bars : SMap Word := []
  /-- The function is in D3hot (R39). -/
  d3hot : Bool := false
  /-- Errors logged in the AER capability (R39, R83). -/
  aer : Word := 0
deriving DecidableEq, Repr

/-- The quad-SPI port (R45 to R53). -/
structure Spi where
  /-- Words waiting in the write buffer, oldest first: address, data, privilege (R48). -/
  buffer : List (Nat × Word × Bool) := []
  /-- LASTERR and TXCNT of STAT (R51). -/
  lastErr : Nat := 0
  txCount : Nat := 0
deriving DecidableEq, Repr

/-- One lane output sample as it reaches the hob input (R138, R139): its lane sample number, I, Q, its erasure mark and
the DEVTIME of its arrival (R19). -/
structure Sample where
  m : Nat
  i : BitVec 16
  q : BitVec 16
  mark : Bool
  t : Nat
deriving DecidableEq, Repr

/-- A unit in a draw line: the fields of its record (R169, R311) and when it was appended. -/
structure DUnit where
  key : Nat
  index : Nat
  crc : Word
  stream : Nat
  err : Bool
  marked : Bool
  replaced : Bool
  ref : Nat
  release : Nat
  app : Nat
  payload : List Byte
deriving DecidableEq, Repr

/-- A wait instruction MAIN has issued and that has not completed (R199). -/
inductive Wait where
  | hput (unit cmd : Nat) (arg : Word) (imm : Nat)
  | hwait (unit : Nat)
  | oawait (rd : Nat) (t : Word)
  | aawait (rd : Nat) (t : Word)
  | tick (rd : Nat) (target : Word)
  | yield (rd mask : Nat)
  | sysrd (rd addr : Nat)
  | syswr (addr : Nat) (w : Word)
  /-- A flput whose payload is being copied out, or that finds the output queue full: the descriptor's address. -/
  | flput (addr : Word)
  /-- A wait that ended in the background while URGENT had the stoker (R208): the register to be written and its word. -/
  | got (rd : Option Nat) (w : Word)
deriving DecidableEq, Repr

/-- The state each stoker thread has for itself (R191). -/
structure Thread where
  /-- w0 to w15. -/
  w : SMap Word := []
  /-- The two 40-bit accumulators (R202). -/
  a0 : BitVec 40 := 0
  a1 : BitVec 40 := 0
  /-- p1 to p3; p0 always reads 1. -/
  p1 : Bool := false
  p2 : Bool := false
  p3 : Bool := false
  /-- The flags N, Z, C, V and S (R201). -/
  n : Bool := false
  z : Bool := false
  c : Bool := false
  v : Bool := false
  s : Bool := false
  /-- 14 bits, a byte address; bits [1:0] are zero. -/
  pc : BitVec 14 := 0
deriving DecidableEq, Repr

/-- A command in a hob unit's queue (R212): its number, the value of ws, imm12 and when it was issued. -/
structure HobCmd where
  cmd : Nat
  arg : Word
  imm : Nat
  issued : Nat
deriving DecidableEq, Repr

/-- A descriptor of four words (R212, R218, R223). -/
structure Desc where
  d0 : Word
  d1 : Word
  d2 : Word
  d3 : Word
deriving DecidableEq, Repr

/-- A command a hob unit executes, with the descriptor it read when it started. -/
structure HobRun where
  cmd : HobCmd
  desc : Desc
  /-- `now` at its start. -/
  started : Nat
  /-- Lane samples it has taken so far (CAPTURE, SKIP). -/
  taken : List Sample
  /-- A TI transfer that was in flight when the ashpit was reset in QUIESCED mode: it never completes (R294). -/
  lost : Bool := false
deriving DecidableEq, Repr

/-- A hob unit (R212, R213). -/
structure HobUnit where
  queue : List HobCmd := []
  running : Option HobRun := none
  /-- Error code of the last failed command. -/
  err : Nat := 0
  /-- A command has failed since the last hget of sel 0 (R222, HERR). -/
  herr : Bool := false
  /-- Commands completed, mod 256. -/
  done : Nat := 0
  /-- An hput has named the unit since the start (R222, HOBIDLE). -/
  used : Bool := false
  /-- Result words by sel, 1 to 3. -/
  results : SMap Word := []
deriving DecidableEq, Repr

/-- An oven ticket that is outstanding (R215, R216): the result word once the request has completed. -/
structure OTicket where
  done : Option Word := none
deriving DecidableEq, Repr

/-- An ashpit ticket that is outstanding (R218, R219): its descriptor, and the result word once it has completed. -/
structure ATicket where
  desc : Desc
  done : Option Word := none
  /-- `now` at its issue (R318). -/
  at_ : Nat := 0
  /-- It was in flight when the ashpit was reset in QUIESCED mode: it never completes (R294). -/
  lost : Bool := false
deriving DecidableEq, Repr

/-- An armed SIG watch (R212). -/
structure Watch where
  line : Nat
  off : Nat
  mask : Word
  unit : Nat
  every : Bool
  last : Word
deriving DecidableEq, Repr

/-- A hearth: its stoker, its hob and what its monitors remember (R149 to R152, R163, R191 to R231). Its state, cause
and lane are in its HST registers. -/
structure Hearth where
  main : Thread := {}
  urg : Thread := {}
  /-- URGENT has the stoker (R207). -/
  urgOn : Bool := false
  /-- A program is started and has neither halted nor been stopped. -/
  running : Bool := false
  /-- What MAIN waits for at a wait instruction (R199). -/
  wait : Option Wait := none
  /-- Entry addresses of the image it runs: main, resume, urgent (R193, R207, R244). -/
  entMain : Nat := 0
  entRes : Nat := 0
  entUrg : Nat := 0
  /-- SR_START, and `now` at the start. -/
  start : Nat := 0
  startAt : Nat := 0
  /-- SR_CKSAMP and SR_RSYNC, as 64-bit counts. -/
  ckSamp : Nat := 0
  rsync : Nat := 0
  /-- The urgent mailbox, oldest first, and SR_UMBOX.OVF. -/
  umbox : List Word := []
  uovf : Bool := false
  /-- The SYS mailbox (R226, R228). -/
  sys : List Word := []
  /-- HIN is non-empty (R227). -/
  hin : Bool := false
  /-- The nine hob units, by number (R212). -/
  units : SMap HobUnit := []
  /-- Oven tickets, by number (R216, R217). -/
  ovens : SMap (Option OTicket) := []
  /-- Ashpit tickets, by number (R218, R219). -/
  ashes : SMap (Option ATicket) := []
  /-- The sample number written for the next checkpoint commit (R167). -/
  ckLo : Word := 0
  ckHi : Word := 0
  /-- TI transfers of DEINT outstanding, at most 6 (R152). -/
  tiOut : Nat := 0
  /-- The pair (key, index) of the last unit, as key × 65,536 + index (R224). -/
  lastUnit : Option Nat := none
  /-- SR_FLBAD: units discarded because their pair did not increase (R224). -/
  flbad : Nat := 0
  /-- The output queue: units that have not reached the draw line yet, oldest first, at most 64 (R223). -/
  flq : List DUnit := []
  /-- The INPUT FIFO, oldest first, and the samples lost since the last CAPTURE (R214). -/
  fifo : List Sample := []
  lost : Nat := 0
  /-- S of R221 and the DEVTIME at which it arrived (R19). -/
  smp : Nat := 0
  smpT : Nat := 0
  /-- A sample has entered the FIFO since the previous yield (R222). -/
  newSmp : Bool := false
  /-- Armed watches, by number (R207, R212). -/
  watches : SMap (Option Watch) := []
  /-- A pattern is loaded for the correlator, and a constellation for the demapper (R151, R212). -/
  patLoaded : Bool := false
  conLoaded : Bool := false
  /-- LLRs the demapper gives for a cell, from the constellation loaded (log 96). -/
  llrs : Nat := 0
  /-- Derotator frequency and its 32-bit phase accumulator, resampler ratio in use, the low bits that wait, and the phase
  of the interpolator in 2^−47 output samples (R151, R212). -/
  freq : Word := 0
  phase : Word := 0
  ratio : Nat := 0
  ratioLo : Word := 0
  interp : Nat := 0
  /-- The posting buffer of syswr, oldest first, at most 4 (R231). -/
  posted : List (Nat × Word) := []
  /-- LRB and mailbox words it has written while another hearth feeds the lane: it reads them back (R231). -/
  own : SMap Word := []
  /-- Applies of the lane page in the lane's history that its program has made in its replay (R168). -/
  applied : Nat := 0
  /-- Instruction memory, data memory and the hob buffer (R152, R192, R193). -/
  imem : Memory := []
  dmem : Memory := []
  hob : Memory := []
  /-- The set of TI pages the hearth uses (R306, R308). -/
  set : Option Nat := none
  /-- The next backlog sample to deliver while it replays; none when its input is live (R173). -/
  replay : Option Nat := none
  /-- `now` of the last retirement and of the last completed tick (R163). -/
  lastRetire : Nat := 0
  lastTick : Nat := 0
  /-- Corrected errors: `now` of each within the last second (R163, cause 8). -/
  cerrs : List Nat := []
  /-- The last transforms that failed the energy check, newest first: true a failure (R163, cause 4), and FAULT_T of the
  first failing one. -/
  fftFails : List Bool := []
  fftFirst : Nat := 0
  /-- `now` of the last link parity error, plus one (R163, cause 7). -/
  linkAt : Nat := 0
  /-- It passed its most recent BIST (R153). -/
  passed : Bool := false
  /-- The state it held before a test, and why it is tested: 0 none, 1 start-up, 2 rolling, 3 host, 4 after a stall. -/
  before : Nat := 0
  testKind : Nat := 0
deriving DecidableEq, Repr

/-- A capture core's own state beside CAP_CCn_STAT (R91 to R97, R103, R113, R126). -/
structure CapCore where
  /-- The bellows mode in effect: CAP_CCn_CTL.MODE as last taken up (R93, R126). -/
  mode : Nat := 0
  /-- A gain change decided and due at the next frame boundary: LNA code, ATT code, GIDX (R92). -/
  gainNext : Option (Nat × Nat × Nat) := none
  /-- `now` before which the loop makes no increase (R94). -/
  holdTo : Nat := 0
  /-- `now` of the last attack step, plus one; 0 for none (R94). -/
  lastAttack : Nat := 0
  /-- The most recent completed frame is marked as an erasure (R92, R99, R116). -/
  marked : Bool := false
  /-- The core has a calibration in effect, so that as standby it is ready (R36, R113). -/
  calibrated : Bool := false
  /-- A gain change lands in the present frame (R92). -/
  stepped : Bool := false
  /-- Monitors at their suspect level: cause code and sub-converter (R114). -/
  sus : List (Nat × Nat) := []
  /-- `now` of the last comparison of the slow loop (R95). -/
  decayAt : Nat := 0
  /-- `now` at which it entered its role (R107). -/
  since : Nat := 0
  /-- OVERRANGE was last raised for the core at this `now`, plus one (R96: once per millisecond per core). -/
  lastOver : Nat := 0
  /-- Gain changes of the last few milliseconds, newest first: `now`, LNA code, ATT code, GIDX (R116). -/
  gains : List (Nat × Nat × Nat × Nat) := []
  /-- The scaling of the converter output that undoes the bellows steps since power-on: gain in 0.001 dB, phase in 0.01° (R92). -/
  comp : Int := 0
  compPhase : Int := 0
  /-- What the background estimator has added to the correction values: per sub-converter offset, gain, skew and bandwidth, in 1/4096
  of the estimator's full step; a missing entry is 0 (R103). -/
  drift : List Int := []
  /-- The core's fractional-delay filter, gain and phase beside them (R108 step 7, R116): 0.01 ps, 0.001 dB, 0.01°. -/
  alignDelay : Int := 0
  alignGain : Int := 0
  alignPhase : Int := 0
  /-- The samples of its most recent frame as they go to a bank, corrected and compensated (R92, R103, R129). -/
  frame : List (BitVec 12) := []
deriving DecidableEq, Repr

/-- Where a rotation stands, by the rows of R108. -/
inductive RotPhase where
  | connect | firstRun | secondRun | applying | moved | coarse | fine | verify | ready | crossfade
  | refreshWait | refreshFirst | refreshSecond | refreshApply
deriving DecidableEq, Repr

/-- A rotation in progress (R107 to R113). -/
structure Rotation where
  phase : RotPhase
  /-- The outgoing core X. -/
  x : Nat
  /-- The incoming core S. -/
  s : Nat
  /-- The role that rotates: 0 for A, 1 for B. -/
  role : Nat
  /-- The SBSRC source restored by an abandonment (R111). -/
  savedSrc : Nat
  /-- CAL_REFF and CAL_REFL at acceptance (R113). -/
  refF : Word
  refL : Word
  /-- The words of S's block before the rotation (R111). -/
  saved : List Word
  /-- `now` of step 6, and the frames since then, all and marked (R109). -/
  alignAt : Nat
  frames : Nat
  marked : Nat
  /-- The background corrections, delay, gain and phase of S before the rotation (R111). -/
  savedDrift : List Int := []
  savedAlign : Int × Int × Int := (0, 0, 0)
  /-- The residual the verification ended with: gain, phase, delay (R109). -/
  res : Int × Int × Int := (0, 0, 0)
deriving DecidableEq, Repr

/-- A BLANK input (R98 to R101). -/
structure Blank where
  /-- The level at the ball. -/
  level : Bool := false
  /-- BLANK is asserted, as EN and POL read it. -/
  active : Bool := false
  /-- `now` at which marking ends after the release; 0 before the first. -/
  endAt : Nat := 0
  /-- BLKSTUCK has been raised for this assertion. -/
  stuckRaised : Bool := false
  /-- `now` of the assertion. -/
  since : Nat := 0
deriving DecidableEq, Repr

/-- What a full-band record under way has gathered for its descriptor (R123). -/
structure SnapAcc where
  time : Nat := 0
  frames : Nat := 0
  marks : Nat := 0
  gidx : Nat := 0
  core : Nat := 0
  flags : Nat := 0
  /-- Gain changes, in order: frame, GIDX, LNA, ATT packed as R123 gives them. -/
  changes : List Word := []
  /-- The samples' codes, in order. -/
  codes : List (BitVec 12) := []
deriving DecidableEq, Repr

/-- A lane record under way (R124). -/
structure SnapLane where
  samples : List Sample := []
  flags : Nat := 0
  /-- Complete records that wait to be written, oldest first: samples and flags. -/
  full : List (List Sample × Nat) := []
deriving DecidableEq, Repr

/-- A snapshot from its arming to its end (R121 to R125), as the snapshot page stood at arming. -/
structure Snap where
  mode : Nat
  src : Nat
  raw : Bool
  trig : Nat
  ring : Bool
  post : Nat
  lanes : List Nat
  /-- Byte address of the buffer in the ashpit's usable space, the buffer's records, and one record's bytes. -/
  base : Nat
  n : Nat
  z : Nat
  /-- The trigger time, and SYS_DEVID for the header (R121, R122). -/
  time : Nat
  devid : Word
  /-- Records written since arming, and records skipped (R315). -/
  written : Nat
  skipped : Nat
  /-- Records of each lane since arming (R124). -/
  laneSeq : SMap Nat
  /-- The record number in which the trigger fell, and its DEVTIME. -/
  trigRec : Option (Nat × Nat)
  /-- The record a full-band snapshot gathers (R123). -/
  acc : SnapAcc
  /-- Complete full-band records that wait to be written, oldest first. -/
  full : List SnapAcc := []
  /-- The records a lane snapshot gathers, by lane (R124), and that SNAP_ABORT was accepted (R121). -/
  lacc : SMap SnapLane
  aborting : Bool
  /-- Recording has begun. -/
  running : Bool
deriving DecidableEq, Repr

/-- A replacement between its declaration and its settling (R116): the failed core, the standby, the role, and `now` of the
declaration; whether the standby has joined the failed core's aerial (step 2). -/
structure Replacing where
  failed : Nat
  s : Nat
  role : Nat
  since : Nat
  joined : Bool := false
deriving DecidableEq, Repr

/-- An analysis bank's input and power average (R110, R129, R141, R147). -/
structure GrateBank where
  /-- The most recent converter frame that entered the bank; a marked one enters as zeros. -/
  frame : List (BitVec 12) := []
  /-- Spans of marked samples by root sample index, newest first: first, end (R141). -/
  marks : List (Nat × Nat) := []
  /-- The root sample index at which the core that fed the bank was declared failed (R116). -/
  gap : Option Nat := none
  /-- The power average under way (R147): for each of its bin frames, oldest first, whether its weight is zero. -/
  clean : List Bool := []
deriving DecidableEq, Repr

/-- The capture block's own state (chapter 3) beside its registers. -/
structure Cap where
  cores : SMap CapCore := []
  rot : Option Rotation := none
  /-- `now` at which the last rotation ended (R107). -/
  rotEnd : Nat := 0
  /-- A host-commanded calibration of the standby has succeeded since POR or SYSTEM reset (R107). -/
  periodicOk : Bool := false
  /-- The blanking inputs of the two aerials (R98 to R101), and the snapshot in progress (R121). -/
  blankA : Blank := {}
  blankB : Blank := {}
  snap : Option Snap := none
  /-- The replacement of a failed core that is under way (R116). -/
  replacing : Option Replacing := none
deriving DecidableEq, Repr

/-- Values on their way into a block (R499): the words from the first, old and new, and the steps taken of 256. -/
structure CalApply where
  block : Nat
  /-- Index of the first word in the block. -/
  base : Nat
  /-- The values before and after, and the steps done of 256 (R499). -/
  old : List Word
  new : List Word
  step : Nat
deriving DecidableEq, Repr

/-- The CAL command that runs (R497 to R505). -/
structure CalCmd where
  /-- 1 RUN, 2 RESTORE, 3 LOADSET. -/
  op : Nat
  /-- The target of a RUN (0 to 6), or the block being restored. -/
  target : Nat
  /-- The RSSI point. -/
  arg : Nat := 0
  /-- CAL_REFF and CAL_REFL at acceptance (R495). -/
  refF : Word := 0
  refL : Word := 0
  /-- The first run has ended. -/
  second : Bool := false
  /-- Blocks still to be restored after this one. -/
  rest : List Nat := []
  /-- ABORT was written (R500). -/
  abort : Bool := false
deriving DecidableEq, Repr

/-- The calibration block beside its registers (R494 to R505). -/
structure Cal where
  cmd : Option CalCmd := none
  applies : List CalApply := []
deriving DecidableEq, Repr

/-- A backlog block (R166): the number of its first sample, its 44 bytes, the arrival times of its samples, and whether
it was dropped (R310). -/
structure BkBlock where
  first : Nat
  bytes : List Byte
  times : List Nat
  lost : Bool
deriving DecidableEq, Repr

/-- What a checkpoint slot holds: the lane sample number it was committed with, when, and that nothing has been written
to it since (R167, R308). -/
structure CkSlot where
  sample : Nat
  at_ : Nat
  intact : Bool
deriving DecidableEq, Repr

/-- A set of TI pages (R306 to R308): its lane, its pages, its bytes from offset 0, its two checkpoint slots and which of
them is valid. -/
structure SetMem where
  lane : Nat
  pages : Nat
  tiNeed : Nat
  mem : Memory
  slot0 : Option CkSlot
  slot1 : Option CkSlot
  valid : Option Nat
deriving DecidableEq, Repr

/-- The kinds of migration and resumption (R171, R175, R177, R180). -/
inductive MigKind where
  | unplanned | planned | resync
deriving DecidableEq, Repr

/-- A migration or resync in progress. -/
structure Mig where
  kind : MigKind
  src : Nat
  dst : Nat
  /-- FAULT_T of the first failure, as `now` and as DEVTIME (R28). -/
  fault : Nat
  faultT : Nat
  /-- FAULT_T of the latest failure, as DEVTIME: a checkpoint lies before it (R170). -/
  ckT : Nat
  /-- The pair (key, index) of the last good unit (R170). -/
  kLast : Option Nat
  /-- A unit that was compared differs (R172). -/
  diverged : Bool
  /-- Some unit of the overlap was settled. -/
  overlap : Bool
  /-- The first unit after K_last has been appended. -/
  spliced : Bool
  /-- 0x13 once the spare's units skipped the expected one (R176), 0x10 once re-acquisition exceeded the draw delay
  (R185); else 0. -/
  status : Nat
  /-- The target has been loaded and started. -/
  loaded : Bool
  /-- The target waits for a set copy (R308). -/
  copying : Bool
  /-- The target has reached the live point: a planned one waits for the frame boundary (R175), another for its splice. -/
  live : Bool
  /-- The source goes on to rolling self-test (R186). -/
  test : Bool
  /-- PCM of the target in the overlap, to be crossfaded at the splice (R172): pair and payload. -/
  fade : List (Nat × List Byte)
  /-- Units of a planned target above everything the source has appended, until the cutover (R175). -/
  ahead : List DUnit
deriving DecidableEq, Repr

/-- A lane's own state beside its window (R139, R155 to R185). -/
structure Lane where
  /-- The next lane sample number (R139). -/
  next : Nat := 0
  /-- A sample saturated in the present 1 ms interval (R138). -/
  sat : Bool := false
  /-- The phase accumulator of the lane's NCO, in 2^-32 turn, and the root sample index it stands for (R134, R135). -/
  nco : Word := 0
  ncoAt : Nat := 0
  /-- The root sample index at which the refill after a start or restart is over (R144). -/
  refillTo : Nat := 0
  /-- The lane has started and its active EN is 1 (R155, R184). -/
  started : Bool := false
  /-- The draw line and the shadow line, oldest first (R169, R181). -/
  main : List DUnit := []
  shadow : List DUnit := []
  /-- Bytes of records ever put on each line and ever released from it, since the line was last empty (R311). -/
  mainHead : Nat := 0
  mainTail : Nat := 0
  shHead : Nat := 0
  shTail : Nat := 0
  /-- The correction of R19. -/
  corr : Nat := 0
  /-- Output is paused (R32), since `now`. -/
  paused : Bool := false
  /-- Key of the last complete broadcast frame at a pause (R32). -/
  holdKey : Option Nat := none
  /-- The pair of the last released unit. -/
  released : Option Nat := none
  /-- The pair of the last unit appended, for R172. -/
  appended : Option Nat := none
  /-- The backlog in the ashpit, oldest block first (R165). -/
  bk : List BkBlock := []
  /-- Samples of the block being filled. -/
  cur : List Sample := []
  /-- Blocks that wait in the cluster port (R310). -/
  bkBuf : List BkBlock := []
  /-- TI pages of the backlog, and the number of blocks it keeps (R306). -/
  bkPages : Nat := 0
  bkCap : Nat := 0
  /-- The migration or resync in progress (R171, R177). -/
  mig : Option Mig := none
  /-- A BIND or an EN that waits for a tested hearth (R155): the hearth asked for, 0x7F for any; none for an EN. -/
  waitBind : Option (Option Nat) := none
  /-- `now` of the last stall migration, plus one (R164). -/
  stallAt : Nat := 0
  /-- A resync request is unanswered (R177, R228): FAULT_T as a lane sample number. -/
  resync : Option Nat := none
  /-- FAULT_T of that request, as DEVTIME. -/
  resyncT : Nat := 0
  /-- Active copies of the lane page before each apply since the last checkpoint commit, oldest first, with the lane sample
  number of the apply that replaced them (R168). -/
  prev : List (List (Nat × Word) × Nat) := []
  /-- Messages to the SYS mailbox that wait in the mantel (R228). -/
  sysHeld : List Word := []
  /-- Units at or below this pair are not appended: K_last of a migration that ended without its splice (R176). -/
  floor : Option Nat := none
  /-- The program has stopped by itself: it starts again only by RESTART, a new program or EN (R204). -/
  halted : Bool := false
  /-- The joining shadow's start waits for its set copy (R308). -/
  shCopy : Bool := false
  /-- A new shadow that joins while the old one still serves, so that the old one can be tested (R186), and that its set
  copy is outstanding. -/
  swap : Option Nat := none
  swapCopy : Bool := false
  /-- The draw line plays out after EN went to 0 (R156). -/
  playout : Bool := false
  /-- LRB LOCK was 2 or above (R511, 0x4007), and `now` at which it fell, plus one. -/
  locked : Bool := false
  lockFell : Nat := 0
  /-- `now` of the last DIVERGE, plus one (R181: at most one per second). -/
  diverge : Nat := 0
deriving DecidableEq, Repr

/-- An oven request (R158, R159, R215). -/
structure OReq where
  hearth : Nat
  lane : Nat
  shadow : Bool
  ticket : Nat
  code : Nat
  /-- The source is read from the lane's TI area (R158). -/
  fromTi : Bool
  /-- The result goes to the hob buffer, else to data memory; where; the iteration limit; the deadline (R216). -/
  toHob : Bool
  dst : Nat
  limit : Nat
  deadline : Nat
  /-- `now` at submission. -/
  at_ : Nat
  /-- Re-issued after an oven failure (R159). -/
  reissued : Bool
  /-- Its result is to be discarded (R171, R236). -/
  dropped : Bool
deriving DecidableEq, Repr

/-- The oven pool (R157 to R162). -/
structure Pool where
  /-- Requests that wait, in order of submission: LDPC, then trellis. -/
  ldpc : List OReq := []
  trellis : List OReq := []
  /-- What each oven serves. -/
  busy : SMap (Option OReq) := []
  /-- The lane served last of each kind, as 2 × lane + shadow, plus one (R159). -/
  lastL : Nat := 0
  lastT : Nat := 0
  /-- `now` of each check disagreement of an oven within the last second (R162). -/
  checks : SMap (List Nat) := []
  /-- An oven is withdrawn for a test after its current request (R186); what it was before. -/
  testing : SMap Nat := []
deriving DecidableEq, Repr

/-- The rolling self-test (R186, R187). -/
structure Rolling where
  /-- The next unit of the cycle: 0 to 103 hearths, 128 to 151 ovens; 0 after the last. -/
  next : Nat := 0
  /-- Suspect units to be visited out of turn, oldest first. -/
  suspects : List Nat := []
  /-- The unit a planned migration or a new shadow makes room for. -/
  unit : Option Nat := none
  /-- The unit visited is the last of its pass (R190). -/
  lastOfPass : Bool := false
  /-- `now` of the last test start, plus one (R186). -/
  startedAt : Nat := 0
deriving DecidableEq, Repr

/-- The ashpit beside its registers (R296 to R317). What a byte of the CAR, CAP and HOST regions holds is in `dram`, by its
address in the usable space. The spec lets TI pages and DRAW blocks be handed out in any order (R306, R311): sets,
backlogs and draw lines are held as what they store, not by address. -/
structure Ash where
  dram : Memory := []
  sets : SMap (Option SetMem) := []
  nextSet : Nat := 0
  /-- An INIT in progress: RETAIN (R298). -/
  init : Option Bool := none
  /-- The parts are in self-refresh (R299). -/
  selfRefresh : Bool := false
  /-- The line the scrubber reads next, and the corrections of each line in this pass (R302, R303). -/
  scrub : Nat := 0
  /-- `now` at the start of the scrub pass (R303). -/
  scrubAt : Nat := 0
  /-- Corrected errors of a line in this scrub pass, by line (R302). -/
  corr : SMap Nat := []
  /-- Requests each class of level 3 may still be served in the present round: TI, DRAW, CAR (R318). -/
  quota : List Nat := [6, 2, 1]
  /-- The rate a report announced, applied from the next refresh (R300). -/
  rate : Nat := 0
deriving DecidableEq, Repr

/-- The chimney (R286 to R292). A link direction is a number: 2 × port, plus 1 towards the switch. -/
structure Chimney where
  /-- Credits spent and not returned, by link direction × 4 + class (R289). -/
  used : SMap Nat := []
  /-- Messages that wait at an output, oldest first, each with the flits it has still to send and whether it has begun: by link
  direction (R291). -/
  queues : SMap (List (LinkMsg × Nat × Bool)) := []
  /-- Flits each class may still send in the present round, by link direction × 4 + class (R291). -/
  quota : SMap Nat := []
  /-- The input served last, plus one, by link direction × 4 + class (R291). -/
  lastIn : SMap Nat := []
  /-- Replies for which room is reserved, one entry each (R290), and messages that wait for a reservation. -/
  reserved : List Requester := []
  blocked : List LinkMsg := []
  /-- Requesters that have received RSP status ERROR (R288). -/
  failed : List Requester := []
deriving DecidableEq, Repr

/-- The program store: the bytes of the 2 MiB window, the hidden mirror, and the slots being worked on (R238, R241,
R242). -/
structure Store where
  mem : Memory := []
  mirror : Memory := []
  /-- The command that runs: OP and slot. -/
  cmd : Option (Nat × Nat) := none
  /-- Slots an ERASE works on: their content is undefined until it completes (R242). -/
  erasing : List Nat := []
  /-- Slots a validated page pins until it applies, by lane (R242). -/
  pins : SMap (Option Nat) := []
deriving DecidableEq, Repr

/-- A unit in a damper (R325): what its frames carry. `kind` is 0 for a lane unit, 1 for telemetry, 2 for IQ (R338). -/
structure QUnit where
  kind : Nat
  lane : Nat
  stream : Nat
  err : Bool
  key : Nat
  index : Nat
  /-- The TIME field of its GSF frames, and the release DEVTIME. -/
  time : Nat
  rel : Nat
  /-- `now` at which it entered the damper. -/
  enq : Nat
  /-- FIRST is due because the lane's grate chain restarted (R340). -/
  first : Bool
  /-- The bytes of the unit. -/
  payload : List Byte
  /-- A unit was lost between the one before it in its damper and this one (R333). -/
  afterLoss : Bool := false
deriving DecidableEq, Repr

/-- What the packetiser keeps of a PID (R333). -/
structure PidSt where
  last : Nat
  off : Nat
  heal : Bool
deriving DecidableEq, Repr

/-- The damper and framer of a stream-table entry (R325 to R340). -/
structure Damper where
  queue : List QUnit := []
  /-- Payload bytes of the head unit that have been sent. -/
  sent : Nat := 0
  /-- Bytes in the token bucket times 8,000 (the bits of 1 ms at 1 Mbit/s are 1,000), and `now` of the last filling. -/
  tokens : Int := 0
  tokAt : Nat := 0
  /-- SEQ of its GSF frames and the RTP sequence number (R329, R332). -/
  seq : Nat := 0
  rtp : Nat := 0
  /-- FIRST is due in the next frame (R329). -/
  first : Bool := true
  /-- The run of lost units that has no marker yet: the cause of its first loss, and its units when known (R334). -/
  gap : Option Nat := none
  gapLost : Nat := 0
  gapKnown : Bool := true
  /-- A PAUSE marker for the present run has been sent, or waits to be sent. -/
  pauseSent : Bool := false
  pauseDue : Bool := false
  /-- KEY and INDEX of the last unit that was sent (R334). -/
  lastKey : Nat := 0
  lastIndex : Nat := 0
  /-- Continuity state by PID, and a discontinuity indicator that is due (R333). -/
  pids : SMap (Option PidSt) := []
  discDue : Bool := false
  /-- A unit was lost behind all that are queued (R333). -/
  tailLoss : Bool := false
  /-- TS packets the packetiser holds, each with its unit's release time; `now` at which the oldest arrived; and that
  they go out short (R332). -/
  ts : List (Nat × List Byte) := []
  tsAt : Nat := 0
  tsFlush : Bool := false
  /-- IQ samples of the frame being built (R340), and that the chain restarted. -/
  iq : List Sample := []
  iqRestart : Bool := false
deriving DecidableEq, Repr

/-- An alert frame ready to be sent (R279, R342). -/
structure AlertTx where
  kind : Nat
  flags : Nat
  hearth : Nat
  role : Nat
  prio : Nat
  tag : Nat
  word : Word
  lane : Nat
  rep : Nat
  seq : Nat
  time : Nat
deriving DecidableEq, Repr

/-- PTP messages and membership reports (R348, R349). The kind of a PTP message is 0 Sync, 1 Follow_Up, 2 Delay_Req,
3 Delay_Resp, 4 Announce; `t` is the time a Follow_Up or a Delay_Resp carries, in 0.1 ns. -/
inductive Ctrl where
  | ptp (kind seq t : Nat)
  | report (v6 : Bool) (groups : List (List Byte))
deriving DecidableEq, Repr

/-- What the device remembers of an SFP+ module (R353 to R355). -/
structure Sfp where
  /-- `now` of each module reset within the last 60 s, and that one runs. -/
  resets : List Nat := []
  pulse : Bool := false
  /-- TXEN has been 0 since the latch was set. -/
  cleared : Bool := false
  /-- The serial-number CRC of the last module, and what the host wrote to FLU_SFPSN and FLU_SFPB0 (R355). -/
  sn : Option Word := none
  hostSn : Word := 0
  hostB0 : Option Nat := none
  /-- The baseline measured. -/
  known : Option Nat := none
  /-- Daily means of the bias, oldest first (R355). -/
  days : List Nat := []
  /-- Readings of the present day: their sum and their number. -/
  sum : Nat := 0
  cnt : Nat := 0
deriving DecidableEq, Repr

/-- A flue port beside its registers. -/
structure FluePort where
  dampers : SMap Damper := []
  alerts : List AlertTx := []
  ctrl : List Ctrl := []
  /-- IPv4 identification (R330). -/
  ident : Nat := 0
  /-- The entry served last at each priority (R327). -/
  last : SMap Nat := []
  /-- The entry whose unit has segments left (R327). -/
  cur : Option Nat := none
  /-- Telemetry: frames that wait, and SEQ by lane (R339, R341). -/
  tele : List QUnit := []
  teleSeq : SMap Nat := []
  /-- `now` of the last alert frame passed to the firewatch, plus one (R347). -/
  relayAt : Nat := 0
  /-- Damper drops not yet in the soot log, and `now` of the last such entry, plus one (R511, 0x7004). -/
  drops : Nat := 0
  dropAt : Nat := 0
  /-- `now` at which the port went down, plus one (R349). -/
  downAt : Nat := 0
  /-- The module in the cage (R353 to R355). -/
  sfp : Sfp := {}
deriving DecidableEq, Repr

/-- The PTP clock and the PPS path (R349 to R352, R460). -/
structure Ptp where
  seqSync : Nat := 0
  seqReq : Nat := 0
  seqAnn : Nat := 0
  /-- Timestamps of the exchange in progress: t1 and t2, t3 and t4 (0.1 ns). -/
  t1 : Nat := 0
  t2 : Nat := 0
  t3 : Nat := 0
  /-- Consecutive Sync intervals within ±100 ns. -/
  good : Nat := 0
  /-- PPS_OUT is high, until DEVTIME. -/
  ppsOut : Bool := false
  ppsFall : Nat := 0
  /-- `now` of the last PPS_IN edge, plus one, and consecutive good edges (R460). -/
  ppsAt : Nat := 0
  ppsGood : Nat := 0
deriving DecidableEq, Repr

/-- An event on its way to the firewatch or latched by it (R267, R268). -/
structure FwEvent where
  /-- The input: 0 to 103 a hearth, 200 to 203 a host tripwire, 300 and 301 the relay of F0 and F1. -/
  input : Nat
  lane : Nat
  hearth : Nat
  /-- 0 primary, 1 shadow, 2 joining, 3 tripwire or relay (R283). -/
  role : Nat
  tag : Nat
  word : Word
  /-- Bit 31 of the word, or the kind of a relayed frame (R282). -/
  start : Bool
  late : Bool
  /-- DEVID of the peer of a relayed event. -/
  peer : Option Nat
  /-- DEVTIME and `now` of the latch. -/
  time : Nat := 0
  at_ : Nat := 0
  /-- As qualified (R270, R273): the action set, PIN bit 4 to LOG bit 0, and what its FWT_TAG entry gives. -/
  acts : Nat := 0
  prio : Nat := 0
  keymask : Word := 0x7FFFFFFF
  noend : Bool := false
deriving DecidableEq, Repr

/-- An alert frame that is to be repeated (R279): the table entry it belongs to, transmissions made, and when the next
falls due. -/
structure FwRep where
  entry : Option Nat
  frame : AlertTx
  done : Nat
  due : Nat
deriving DecidableEq, Repr

/-- What the alert table keeps of an entry beside FWT_ACT (R273, R274, R276). -/
structure FwEntry where
  key : Word
  keymask : Word
  acts : Nat
  noend : Bool
  hearth : Nat
  role : Nat
  /-- The hearths that reported it. -/
  hearths : List Nat
  /-- DEVTIME of the first latch, and `now` of the last start or update. -/
  latch : Nat
  startAt : Nat
  /-- It asserted the pin; it keeps the tone. -/
  pin : Bool
  tone : Bool
deriving DecidableEq, Repr

/-- A page in the firewatch's queue (R281) or in the radio's hands (R395). -/
structure SmkPage where
  prio : Nat
  /-- DEVTIME and `now` of the latch, and `now` of its deadline. -/
  latch : Nat
  at_ : Nat
  deadline : Nat
  /-- The count of its log entry. -/
  log : Nat
  /-- The alert came by relay from the device with DEVID `peer` (R282); what its payload carries (R281, R395). -/
  relay : Bool
  peer : Nat
  alert : AlertTx
deriving DecidableEq, Repr

/-- A host tripwire of kind LRBMATCH (R269): its word is equal, and the last word it reported. -/
structure Trip where
  eq : Bool := false
  last : Word := 0
deriving DecidableEq, Repr

/-- The firewatch beside its registers (R267 to R284). -/
structure Fire where
  /-- Events that have left their source and are not latched yet, oldest first. -/
  flight : List FwEvent := []
  /-- The FIFO of each input, oldest first, and the input served last. -/
  fifo : SMap (List FwEvent) := []
  served : Nat := 0
  /-- The alert table, by slot; what holds the pin and the tone; repeats of frames that are due; the host tripwires (R269, R275, R279). -/
  entries : SMap (Option FwEntry) := []
  pinHold : Bool := false
  toneHold : Bool := false
  reps : List FwRep := []
  trips : SMap Trip := []
  /-- Relay frames accepted: DEVID, sequence number and `now` (R282). -/
  relays : List (Nat × Nat × Nat) := []
  /-- Alert sequence number of the last frame event, 0 before the first (R561); in the always-on domain. -/
  seq : Nat := 0
  /-- The page queue, in its order (R281). -/
  pages : List SmkPage := []
deriving DecidableEq, Repr

/-- The setting of a smoke transmission, as latched when it is taken (R379, R384, R385, R389, R395). -/
structure SmkSet where
  ch : Nat
  pwr : Nat
  mod4 : Bool
  rate : Nat
  lpre : Nat
  pre : Nat
  /-- The sub-band that contains it, and its airtime in whole ms. -/
  sub : Nat
  air : Nat
deriving DecidableEq, Repr

/-- Where a transmission stands: it waits for duty budget, for lock, for the grant; the PA ramps up; the frame is in the
air; it ramps down with the status it ends with. -/
inductive SmkPhase where
  | duty | synth | grant | ramp | onAir
  | cut (status : Nat)
deriving DecidableEq, Repr

/-- A smoke transmission (R395, R399): of a page, or of host DATA. -/
structure SmkTx where
  page : Option SmkPage
  /-- SEQ, REPNO and DEST of its frame (R380). -/
  num : Nat
  repno : Nat
  dest : Nat
  /-- Its payload and the settings it is sent with (R380, R382). -/
  payload : List Byte
  set : SmkSet
  /-- Transmissions of the page, and ms between their starts. -/
  count : Nat
  gap : Nat
  /-- `now` of its latest start, and COEX_PRI. -/
  latest : Nat
  pri : Bool
  /-- What the radio does with it (R387, R395). -/
  phase : SmkPhase
  /-- `now` at which SMK_TXEN rose, and of its start. -/
  txAt : Nat := 0
  startAt : Nat := 0
deriving DecidableEq, Repr

/-- The smoke radio and the ember beside their registers (R378 to R406). -/
structure Smoke where
  /-- The channel the synthesiser holds, that it is locked there, and that a band calibration is under way (R386). -/
  chan : Nat := 0
  lock : Bool := false
  band : Bool := false
  /-- The transmission the radio has in hand, and a page taken that waits for a ramp down (R395). -/
  job : Option SmkTx := none
  next : Option SmkTx := none
  /-- The SEND that is queued (R399). -/
  send : Option SmkTx := none
  /-- Page repeats by `now` of their scheduled start. -/
  reps : List (Nat × SmkTx) := []
  /-- The number of the next page (R382). -/
  pageNo : Nat := 0
  /-- ms used, by sub-band × 2^32 + second of `now` (R385). -/
  duty : SMap Nat := []
  /-- The level of COEX_GNT (R393). -/
  gnt : Bool := false
  /-- A background calibration step runs (R387). -/
  calStep : Bool := false
  /-- The last measurement for PA control: 0.1 °C and mV; and what the PA is set to: power code and that measurement
  (R389). -/
  sense : Int × Nat := (0, 0)
  pa : Nat × Int × Nat := (0, 0, 0)
  /-- The RSSI of the last entry with a calibrated value (R398). -/
  rssi : Nat := 0
  /-- The pattern and the tolerance a search in progress uses, and FEMRX (R400, R406). -/
  pat : Word := 0
  errMax : Nat := 0
  /-- EMB registers whose shadow a SYSTEM reset or a wake has reset and nothing has written since: a read shows the active
  value (R404). -/
  embOld : List Nat := []
deriving DecidableEq, Repr

/-- What an AUX controller transaction is for (R411, R419, R425). -/
inductive AuxUse where
  | host | query
deriving DecidableEq, Repr

/-- A controller transaction with the settings it started with (R411, R417, R427). -/
structure AuxTx where
  use : AuxUse
  addr : Nat
  wlen : Nat
  rlen : Nat
  data : List Byte
  retries : Nat
  wretry : Bool
  nakretry : Bool
  /-- Tries made, that one is on the bus, and that RDELAY runs after the bus became free. -/
  tries : Nat
  running : Bool
  delay : Bool
deriving DecidableEq, Repr

/-- An AUX bus beside its registers (R413 to R419). -/
structure AuxBus where
  cur : Option AuxTx := none
  /-- A host transaction that waits for its turn (R412). -/
  wait : Option AuxTx := none
  /-- A bus clear is due before the next transaction (R418, R426). -/
  clearDue : Bool := true
  /-- A query waits for its turn, and that the last user was a query or a module poll (R412, R425). -/
  query : Bool := false
  lastQuery : Bool := false
deriving DecidableEq, Repr

/-- A transaction that addresses the AUX0 target (R421 to R424). -/
inductive AuxTarget where
  | writing (count : Nat)
  | reading
  | alert
deriving DecidableEq, Repr

/-- The AUX0 target, in the always-on domain (R420 to R424). -/
structure AuxTgt where
  cur : Option AuxTarget := none
  pointer : Nat := 0
  /-- The values behind the mailbox as last refreshed, and the snapshot a read returns. -/
  values : List Byte := []
  snap : List Byte := []
  /-- Severe entries seen at the last refresh (R424). -/
  severe : Nat := 0
  /-- A query found no answer and ATN_N has not been high since (R425). -/
  stuck : Bool := false
deriving DecidableEq, Repr

/-- A feed (R367): the words it buffers, oldest first; that it plays; its ramp, counted in internal samples; the sample it
carries now and carried last, left and right. -/
structure Feed where
  buf : List Word := []
  playing : Bool := false
  /-- It has run empty, and the ramp to zero is under way. -/
  gap : Bool := false
  ramp : Nat := 32
  left : Word := 0
  right : Word := 0
deriving DecidableEq, Repr

/-- An audio port beside its registers (R369 to R375). -/
structure AudPort where
  /-- 0 stopped, 1 framing search, 2 framing acquired, 3 ratio known, 4 locked once. -/
  phase : Nat := 0
  /-- Good frames in this phase. -/
  frames : Nat := 0
  /-- The last internal frames of the output ASRC and the last outside frames of the input ASRC, newest first, at most 32;
  one word a slot (R363). -/
  tx : List (List Word) := []
  rx : List (List Word) := []
  /-- The lock rate in 0.01 Hz; 0 before the first measurement (R369, R374). -/
  lockRate : Nat := 0
  /-- The FIFOs are to be flushed at the next FSYNC (R374). -/
  flush : Bool := false
  /-- Frames an AUTOHEAL mute still lasts (R375). -/
  healTx : Nat := 0
  healRx : Nat := 0
  /-- The clock came back and its first rate measurement is due (R372). -/
  back : Bool := false
  /-- The port's own clock is stopped because AUD_MCLK_IN is lost (R361). -/
  held : Bool := false
  /-- The ramps of the output and the input, from 0 muted to 32 (R369, R370). -/
  ramp : Nat := 0
  rampRx : Nat := 0
  /-- The ramps of slots newly unmasked or switched to or from the tone; 32 where unlisted (R368, R371), and whether the tone ran
  in the last internal sample. -/
  slots : SMap Nat := []
  tone : Bool := false
  /-- What the input ASRC gave in the last internal sample, one word a slot. -/
  inp : List Word := []
  /-- The slots driven in the last frame, one word each; none where the slot is high-impedance (R359). -/
  out : List (Option Word) := []
deriving DecidableEq, Repr

/-- The audio block (chapter 11) beside its registers. -/
structure Audio where
  ports : SMap AudPort := []
  feeds : SMap Feed := []
  /-- Firewatch entries and untracked holds that keep the tone running (R368), and the internal samples of the tone. -/
  toneHolds : Nat := 0
  toneAt : Nat := 0
  /-- The tone is in a burst (R368). -/
  burst : Bool := false
  /-- Which of F1 and F2 an alternate burst carries. -/
  second : Bool := false
deriving DecidableEq, Repr

/-- A firmware image in mantel memory (R482, R485): its bytes, the CRC held with it, the ABI it provides and where it came
from (RST_MNTSTAT.SOURCE). -/
structure Firmware where
  image : Memory
  crc : Word
  abi : Nat
  source : Nat
deriving DecidableEq, Repr

/-- Reset, kindling and power beside their registers (R464 to R492). -/
structure Rst where
  /-- VDD_AON is good. -/
  aon : Bool := true
  /-- A reset is asserted; RESET_N is driven low (R468). -/
  asserted : Bool := false
  /-- The 100 µs stretch runs; it does not while the cause persists. -/
  stretching : Bool := false
  /-- `now` at which the device last released RESET_N, plus one (R468). -/
  relAt : Nat := 0
  /-- The level of the reset in progress: 1 CORE, 2 SYSTEM, 3 POR (R469). -/
  level : Nat := 3
  /-- Supplies that are not good, by the numbers of R467. -/
  bad : List Nat := []
  /-- The voltage each VDDIO bank sensed when its supply became good, in mV; 3,300 for one not listed (R529, R542). -/
  vio : SMap Nat := []
  /-- A thermal hold is in force, its peak and the last measurement in 0.1 °C (R470). -/
  thermal : Bool := false
  peak : Int := 0
  temp : Int := 0
  /-- Kindling steps still to come, in order (R471, R472; 7 is the end of the staged release, R475), and that kindling has stopped at the ROM check. -/
  steps : List Nat := [1, 2, 3, 4, 5, 6, 7]
  romBad : Bool := false
  /-- OTP words whose ECC found a double-bit error at the last read. -/
  otpBad : List Nat := []
  /-- The fuses themselves: a programmed value is read at the next kindling (R486, R487). -/
  fuses : SMap Word := []
  /-- The word being programmed, and its value. -/
  otpProg : Option (Nat × Word) := none
  /-- The firmware in mantel memory, and that it runs (R480, R485). -/
  fw : Option Firmware := none
  /-- `now` of the watchdog resets of the last 600 s, and that a loop is recorded (R484). -/
  wdAt : List Nat := []
  wdLoop : Bool := false
  /-- Blocks whose ISOLATE wrapper has closed and whose reset is not asserted yet (R478). -/
  isolating : List Nat := []
  /-- Blocks whose ISOLATE wrapper is closed, until their release is carried out (R478). -/
  closed : List Nat := []
  /-- Steps of BANKED entry still to come; the device is in BANKED (R489). -/
  bankSteps : List Nat := []
  banked : Bool := false
  /-- A wake event latched during entry, by its detail (R489). -/
  wake : Option Nat := none
  /-- The CLK configuration saved at BANKED entry (R491). -/
  clk : List (Nat × Word) := []
  /-- `now` at the end of the last kindling (R423). -/
  kindledAt : Nat := 0
  /-- The host port is released (R472). -/
  host : Bool := false
deriving DecidableEq, Repr

/-- A clock output at its ball (R454, R455): it runs; the divider of the period in progress; the phase in progress is the high one; what
is left of that phase, in 1/64 VCO period; it stops at the end of the high phase. -/
structure ClkOut where
  run : Bool := false
  div : Nat := 0
  high : Bool := false
  left : Nat := 0
  stopping : Bool := false
deriving DecidableEq, Repr

/-- The clocks beside their registers (chapter 14). -/
structure Clk where
  /-- The 32-bit fraction below DEVTIME's nanosecond (R456). -/
  frac : Nat := 0
  /-- Time ticks since kindling, which the spread profile counts, and the profile in use (R441, R461). -/
  ticks : Nat := 0
  ssc : Nat := 0
  /-- Comparisons blanked in a row (R443). -/
  blanked : Nat := 0
  /-- What a DEVTIME slew has still to add, in 2^−32 ns, and its rate in ppm (R458, R460). -/
  left : Int := 0
  rate : Nat := 0
  /-- The value of a TSET that waits for the next tick (R459). -/
  tset : Option Nat := none
  /-- The positions of the two output phase steppers (R454). -/
  out0 : Int := 0
  out1 : Int := 0
  /-- CLKOUT0 and CLKOUT1 (R455). -/
  co0 : ClkOut := {}
  co1 : ClkOut := {}
  /-- `now` of the last REFBAD, plus one (R430: once per minute). -/
  badAt : Nat := 0
  /-- A REALIGN moves B (R450). -/
  realign : Bool := false
  /-- PPS edges ignored in a row, and that the next edge counts as the first (R460). -/
  ppsBad : Nat := 0
  ppsFirst : Bool := true
  /-- The slew of a first edge is in progress (R460). -/
  ppsSlew : Bool := false
deriving DecidableEq, Repr


/-- Balls the device drives with state of its own (the ball chapter and each block's). IRQ0_N and IRQ1_N follow from the
events and are not listed. -/
inductive Ball where
  | alertN | resetN | smkTxen | smkRxen | coexReq | coexPri | pllLockf | ppsOut | pwrEn | atnN
  | sfpTxdis (port : Nat)
  | scl (bus : Nat)
  | sda (bus : Nat)
  | clkout (n : Nat)
  | ddrResetN
  /-- CKE of a rank; CS of a rank, CK and CA, high where the controller drives them in operation and low in the static state of R479. -/
  | ddrCke (rank : Nat)
  | ddrCs (rank : Nat)
  | ddrCk
deriving DecidableEq, Repr

/-- A number for each ball, the key of its level. -/
def Ball.code : Ball → Nat
  | .alertN => 0
  | .resetN => 1
  | .smkTxen => 2
  | .smkRxen => 3
  | .coexReq => 4
  | .coexPri => 5
  | .pllLockf => 6
  | .ppsOut => 7
  | .pwrEn => 8
  | .atnN => 9
  | .sfpTxdis p => 16 + p
  | .scl b => 32 + b
  | .sda b => 48 + b
  | .clkout n => 64 + n
  | .ddrResetN => 68
  | .ddrCke r => 70 + r
  | .ddrCs r => 72 + r
  | .ddrCk => 74

/-- The level of a ball at reset: the active-low and pulled-up ones are high. -/
def Ball.resetHigh : Nat → Bool
  | 0 => true
  | 1 => true
  | 8 => true
  | 9 => true
  | n => decide (16 ≤ n) && decide (n < 64)

/-- What leaves the device. -/
inductive Out where
  /-- An MSI-X message: vector, address low and high, data (R79). -/
  | msix (v : Nat) (lo hi data : Word)
  /-- A frame on a flue port, from the destination address to the FCS (R330). -/
  | frame (port : Nat) (bytes : List Byte)
  /-- A PTP message or a membership report on a flue port (R348, R349). -/
  | ctrl (port : Nat) (c : Ctrl)
  /-- A DMA write into host memory (R344). -/
  | dma (addr : Nat) (bytes : List Byte)
  /-- The answer to a register access: who made it, the address, the data of a read, and that it ended in error (R13, R14,
  R72). -/
  | reply (who : Initiator) (addr : Nat) (data : Word) (err : Bool)
  /-- The answer to a read of the ashpit aperture: who read, the device offset, the bytes, and that a double-bit error
  poisons them (R316, R317). -/
  | aperture (who : Initiator) (off : Nat) (bytes : List Byte) (poison : Bool)
  /-- Nibbles a SPI transaction returns on the four data balls: wait nibbles, tokens and data (R45 to R47). -/
  | spi (nibbles : List (BitVec 4))
  /-- The answer to a read of PCIe configuration space (R39, R40). -/
  | cfg (r : CfgReg) (data : Word)
  /-- A controller transaction starts on an AUX bus: address, bytes to write and number of bytes to read (R411). -/
  | aux (bus addr : Nat) (data : List Byte) (rlen : Nat)
  /-- The AUX0 target's answer in an acknowledge slot, and the byte it sends (R421 to R424). -/
  | target (ack : Bool) (sent : Option Byte)
  /-- A smoke frame on air: its setting, the preamble bytes sent before the sync word, and the bytes from the sync word to
  the CRC, whitened (R380). -/
  | smoke (s : SmkSet) (pwr : Nat) (preamble : Nat) (bytes : List Byte)
  /-- An output ball takes a level. -/
  | ball (b : Ball) (high : Bool)
deriving DecidableEq, Repr

/-- The device: everything but the queue of commands. -/
structure Dev where
  part : Part := .fa9604
  /-- Elapsed root time in ns, advanced by the 100 MHz time tick; the model's own clock for intervals (log 6). -/
  now : Nat := 0
  /-- The n-th free value is the next one used; the model's own field (log 3). -/
  free : Nat := 0
  /-- What has left the device, newest first; the model's own record (log 2). -/
  out : List Out := []
  /-- The active copy of every register of the map that differs from its reset value (R12, R55). -/
  regs : SMap Word := []
  /-- The shadow of every buffered register word that differs from its reset value (R57). -/
  shadow : SMap Word := []
  /-- Pages captured and waiting for their block's boundary (R58, R60, R65). -/
  captures : List Capture := []
  /-- Commits broadcast and not complete (R60). -/
  commits : List Commit := []
  /-- The armed timed commit (R62). -/
  armed : Option Armed := none
  /-- `now` plus one of the last raising of each rate-limited event bit (R84). -/
  evtLast : SMap Nat := []
  /-- High words latched by a read of a LO register, by port and address of the HI register (R83 and its like). -/
  latches : SMap (Option Word) := []
  /-- DEVTIME in ns (R83, R456). -/
  devtime : Nat := 0
  /-- The root sample index s, in converter sample periods (R130). -/
  scount : Nat := 0
  /-- Bin frames of the present bin power average (R147). -/
  binCount : Nat := 0
  /-- The two analysis banks, A and B (R129). -/
  bankA : GrateBank := {}
  bankB : GrateBank := {}
  pcie : Pcie := {}
  spi : Spi := {}
  soot : Soot := {}
  cap : Cap := {}
  cal : Cal := {}
  /-- The unit under host BIST: kind and index (R506). -/
  bist : Option (Nat × Nat) := none
  /-- The hearths, by number; an unlisted one is as after a power-on reset. -/
  hearths : SMap Hearth := []
  lanes : SMap Lane := []
  pool : Pool := {}
  rolling : Rolling := {}
  ash : Ash := {}
  chimney : Chimney := {}
  store : Store := {}
  fire : Fire := {}
  flue : SMap FluePort := []
  ptp : Ptp := {}
  audio : Audio := {}
  smoke : Smoke := {}
  aux : SMap AuxBus := []
  target : AuxTgt := {}
  rst : Rst := {}
  clk : Clk := {}
  /-- Levels of the output balls that differ from reset, by `Ball.code`. -/
  balls : SMap Bool := []
deriving DecidableEq, Repr

/-- The machine: the commands that wait, first in first out, and the device. -/
structure State where
  pending : List Instr
  dev : Dev
deriving DecidableEq, Repr

/-- The device after a power-on reset: every register at the value its table gives, kindling about to begin (R466). -/
def Dev.por : Dev := {}

/-- The machine right after reset: nothing waits. -/
def State.reset : State := { pending := [], dev := Dev.por }

/-- The reasons a step stops with a fault. No command of this block does: the spec answers every access and every event
(an absent or unassigned address reads zero and ignores writes, R4, R13). -/
inductive Fault where
  /-- Raised by no meaning; it is here so that the type names a reason. Safe: it can only stop a run. -/
  | unreachable
deriving DecidableEq, Repr

/-- The reasons a step refuses a command. -/
inductive Refusal where
  /-- A command with no meaning in the model yet, by its mnemonic; raised by its arm of `exec` alone. Safe. -/
  | notModelled (mnemonic : String)
deriving DecidableEq, Repr

/-- A command's effect on the device: the queue is untouched. -/
def State.onDev (s : State) (f : Dev → Dev) : Host.Outcome State Fault Refusal := .next { s with dev := f s.dev }

end Sys2Proof.Machine
end

