-- ==== Sys2Proof/Machine/Ops.lean ====
section
/-! DEFINITION. The named operations every family is written over: reading and writing the register map, presence on the
part, events and interrupt vectors (R69 to R82), the soot log's holding stage (R512), free values, the pages and commit
groups of R56 to R66. -/

namespace Sys2Proof.Machine

/-! ## The register map -/

/-- The active word at a register address. -/
def Dev.rd (d : Dev) (a : Nat) : Word := SMap.get (regReset a) d.regs a

/-- The active word at a register address replaced. -/
def Dev.wr (d : Dev) (a : Nat) (w : Word) : Dev := { d with regs := SMap.put (regReset a) d.regs a w }

/-- A field of the active copy. -/
def Dev.get (d : Dev) (f : Fld) : Nat := getBits (d.rd f.addr) f.hi f.lo

/-- A field of the active copy, set. -/
def Dev.set (d : Dev) (f : Fld) (v : Nat) : Dev := d.wr f.addr (putBits (d.rd f.addr) f.hi f.lo v)

/-- A one-bit field is 1. -/
def Dev.is (d : Dev) (f : Fld) : Bool := d.get f == 1

/-- A field read as two's complement. -/
def Dev.getI (d : Dev) (f : Fld) : Int := toSigned (f.hi + 1 - f.lo) (d.get f)

/-- A field set from an integer. -/
def Dev.setI (d : Dev) (f : Fld) (i : Int) : Dev := d.set f (ofSigned (f.hi + 1 - f.lo) i)

/-- A saturating counter field advanced by `k`. -/
def Dev.incSat (d : Dev) (f : Fld) (k : Nat) : Dev := d.set f (satInc (f.hi + 1 - f.lo) (d.get f) k)

/-- A wrapping counter field advanced by `k`. -/
def Dev.incMod (d : Dev) (f : Fld) (k : Nat) : Dev := d.set f (d.get f + k)

/-- A whole-word saturating counter advanced by `k`. -/
def Dev.incWordSat (d : Dev) (a k : Nat) : Dev := d.wr a (BitVec.ofNat 32 (satInc 32 (d.rd a).toNat k))

/-- A whole-word wrapping counter advanced by `k`. -/
def Dev.incWord (d : Dev) (a k : Nat) : Dev := d.wr a (BitVec.ofNat 32 ((d.rd a).toNat + k))

/-- A pair of registers set from a 64-bit count. -/
def Dev.wr64 (d : Dev) (lo hi n : Nat) : Dev := (d.wr lo (lo32 n)).wr hi (hi32 n)

/-- A 64-bit count read from a pair of registers. -/
def Dev.rd64 (d : Dev) (lo hi : Nat) : Nat := of64 (d.rd lo) (d.rd hi)

/-- The shadow word of a register that holds buffered fields (R57). -/
def Dev.sh (d : Dev) (a : Nat) : Word := SMap.get (regReset a) d.shadow a

/-- The shadow word replaced. -/
def Dev.shWr (d : Dev) (a : Nat) (w : Word) : Dev := { d with shadow := SMap.put (regReset a) d.shadow a w }

/-! ## Free values -/

/-- The free word the next undefined value takes, and the state that has used it (log 3). -/
def Dev.fresh (d : Dev) : Word × Dev := (Config.freeWord d.free, { d with free := d.free + 1 })

/-- `n` free bytes (log 3). -/
def Dev.freeBytes (d : Dev) (n : Nat) : List Byte × Dev :=
  ((List.range n).map (fun i => Config.freeByte (d.free + i)), { d with free := d.free + n })

/-! ## Presence on the part (R1 to R8, R10) -/

/-- SYS_FEAT0.LANES. -/
def Part.lanes : Part → Nat
  | .fa4802 => 48
  | _ => 96

/-- SYS_FEAT0.HEARTHS. -/
def Part.hearths : Part → Nat
  | .fa4802 => 52
  | _ => 104

/-- SYS_FEAT1.AUDIO, as a count of ports. -/
def Part.audio : Part → Nat
  | .fa4802 => 4
  | _ => 8

/-- SYS_FEAT1.FLUE_F1. -/
def Part.hasF1 : Part → Bool
  | .fa4802 => false
  | _ => true

/-- SYS_FEAT1.SMOKE and EMBER. -/
def Part.hasSmoke : Part → Bool
  | .fa9600 => false
  | _ => true

/-- SYS_FEAT1.ASH_MAX, GiB. -/
def Part.ashMax : Part → Nat
  | .fa4802 => 4
  | _ => 8

/-- SYS_ID.PART. -/
def Part.code : Part → Nat
  | .fa9604 => 0x9604
  | .fa9600 => 0x9600
  | .fa4802 => 0x4802

/-- The unit that owns an address exists on the part (R4). -/
def Part.has (p : Part) (a : Nat) : Bool :=
  if a < 0x51000 then true
  else if a < 0x5D000 then (a - 0x51000) / 0x1000 * 8 < p.lanes
  else if a < 0x100000 then true
  else if a < 0x160000 then (a - 0x100000) / 0x1000 < p.lanes
  else if a < 0x162000 then (a - 0x160000) / 0x40 < p.hearths
  else if 0x210100 ≤ a ∧ a < 0x210170 then (a - 0x210100) / 8 = 13 || (a - 0x210100) / 8 * 8 < p.hearths
  else if a < 0x221000 then true
  else if a < 0x221180 then (a - 0x221000) / 4 < p.lanes
  else if a < 0x308000 then true
  else if a < 0x30C000 then p.hasF1
  else if a < 0x311000 then true
  else if a < 0x319000 then (a - 0x311000) / 0x1000 < p.audio
  else if a < 0x322000 then true
  else if a < 0x323000 then p.hasF1
  else if a < 0x330000 then true
  else if a < 0x333000 then p.hasSmoke
  else true

/-- The bits of word `k` of a lane bitmap that belong to present lanes. -/
def Part.laneMask (p : Part) (k : Nat) : Word := BitVec.ofNat 32 (2 ^ (min 32 (p.lanes - 32 * k)) - 1)

/-! ## Outputs -/

/-- Something that leaves the device, recorded newest first (log 2). -/
def Dev.emit (d : Dev) (o : Out) : Dev := { d with out := o :: d.out }

/-- The level of an output ball. -/
def Dev.ball (d : Dev) (b : Ball) : Bool := SMap.get (Ball.resetHigh b.code) d.balls b.code

/-- An output ball driven: a change leaves the device. -/
def Dev.drive (d : Dev) (b : Ball) (high : Bool) : Dev :=
  if d.ball b = high then d
  else { d with balls := SMap.put (Ball.resetHigh b.code) d.balls b.code high, out := .ball b high :: d.out }

/-! ## Events and vectors (R69, R77 to R82, R84) -/

/-- The enable register and the vector of an SQC register (R77, R78 and each block's chapter). -/
def evtInfo (a : Nat) : Nat × Nat :=
  if a = Reg.SYS_EVT then (Reg.SYS_EVT_EN, 2)
  else if a = Reg.CLK_EVT then (Reg.CLK_EVT_EN, 2)
  else if a = Reg.RST_EVT then (Reg.RST_EVT_EN, 2)
  else if a = Reg.PST_EVT then (Reg.PST_EVT_EN, 2)
  else if a = Reg.FWT_EVT then (Reg.FWT_EVT_EN, 0)
  else if a = Reg.SOOT_EVT then (Reg.SOOT_EVT_EN, 1)
  else if a = Reg.CAP_EVT then (Reg.CAP_EVT_EN, 3)
  else if a = Reg.GRT_EVT then (Reg.GRT_EVT_EN, 4)
  else if a = Reg.HMG_EVT then (Reg.HMG_EVT_EN, 5)
  else if a = Reg.OVN_EVT then (Reg.OVN_EVT_EN, 10)
  else if a = Reg.CHM_EVT then (Reg.CHM_EVT_EN, 10)
  else if a = Reg.ASH_EVT then (Reg.ASH_EVT_EN, 11)
  else if a = Reg.HF_EVT then (Reg.HF_EVT_EN, 12)
  else if a = Reg.FLU_SEVT then (Reg.FLU_SEVT_EN, 12)
  else if a = Reg.AUD_GEVT then (Reg.AUD_GEVT_EN, 13)
  else if a = Reg.SMK_EVT then (Reg.SMK_EVT_EN, 15)
  else if a = Reg.EMB_EVT then (Reg.EMB_EVT_EN, 15)
  else if a = Reg.CAL_EVT then (Reg.CAL_EVT_EN, 16)
  else if a = Reg.BST_EVT then (Reg.BST_EVT_EN, 16)
  else if a < 0x160000 then (a + 0x10, 6 + (a - 0x100000) / 0x1000 / 24)
  else if a < 0x310000 then (a + 4, 12)
  else if a < 0x320000 then (a + 4, 13)
  else (a + 4, 14)

/-- The SQC registers that drive a vector (R77). -/
def vecSources (v : Nat) : List Nat :=
  match v with
  | 0 => [Reg.FWT_EVT]
  | 1 => [Reg.SOOT_EVT]
  | 2 => [Reg.SYS_EVT, Reg.CLK_EVT, Reg.RST_EVT, Reg.PST_EVT]
  | 3 => [Reg.CAP_EVT]
  | 4 => [Reg.GRT_EVT]
  | 5 => [Reg.HMG_EVT]
  | 10 => [Reg.OVN_EVT, Reg.CHM_EVT]
  | 11 => [Reg.ASH_EVT]
  | 12 => [Reg.FLU_EVT 0, Reg.FLU_EVT 1, Reg.HF_EVT, Reg.FLU_SEVT]
  | 13 => Reg.AUD_GEVT :: (List.range 8).map Reg.AUD_EVT
  | 14 => (List.range 3).map Reg.AUX_EVT
  | 15 => [Reg.SMK_EVT, Reg.EMB_EVT]
  | 16 => [Reg.CAL_EVT, Reg.BST_EVT]
  | v => if 6 ≤ v ∧ v ≤ 9 then (List.range 24).map (fun i => Reg.LANE_STAT (24 * (v - 6) + i)) else []

/-- The least time in ns between two raisings of an event bit; 0 for none (R84, R160, R320, R321, R356, R377, R407,
R428, R463, R516, the tables of chapters 4, 5 and 7). -/
def evtRate (a b : Nat) : Nat :=
  if a = Reg.SYS_EVT ∨ a = Reg.CLK_EVT ∨ a = Reg.CHM_EVT ∨ a = Reg.ASH_EVT ∨ a = Reg.SMK_EVT ∨ a = Reg.CAL_EVT
      ∨ a = Reg.BST_EVT ∨ a = Reg.SOOT_EVT then 1000000
  else if a = Reg.EMB_EVT then 100000000
  else if a = Reg.GRT_EVT then (if b ≤ 2 then 1000000 else 0)
  else if a = Reg.OVN_EVT then (if b = 2 then 1000000 else 0)
  else if a = Reg.PST_EVT then (if b = 1 then 1000000 else 0)
  else if a < 0x100000 then 0
  else if a < 0x160000 then (if b = 13 then 1000000 else 0)
  else if a < 0x300000 then 0
  else if a < 0x330000 then 1000000
  else 0

/-- An SQC register holds an event bit that its enable register passes to the vector (R78). -/
def Dev.evtPending (d : Dev) (a : Nat) : Bool :=
  ((d.rd a) &&& (d.rd (evtInfo a).1) &&& 0x00FFFFFF) != 0

/-- A vector is pending (R78). -/
def Dev.vecPending (d : Dev) (v : Nat) : Bool := (vecSources v).any d.evtPending

/-- SYS_VEC_EN bit v; bit 5 reads as 1 (R81). -/
def Dev.vecEnabled (d : Dev) (v : Nat) : Bool := v == 5 || bit (d.rd Reg.SYS_VEC_EN) v

/-- The vector counts as masked: its Mask bit, or MSI-X Enable 0 (R79). -/
def Dev.vecMasked (d : Dev) (v : Nat) : Bool :=
  !d.pcie.enable || bit (SMap.get (BitVec.ofNat 32 1) d.pcie.table (4 * v + 3)) 0

/-- The vectors whose messages SYS_IMOD.HOLD spaces (R82). -/
def imodVec (v : Nat) : Bool := (6 ≤ v && v ≤ 9) || v == 12

/-- The message of a vector leaves the device (R79): its pending-array bit clears and its spacing starts. -/
def Dev.msixSend (d : Dev) (v : Nat) : Dev :=
  { d with
    pcie := { d.pcie with
      pba := d.pcie.pba &&& (2 ^ 32 - 1 - 2 ^ v)
      held := d.pcie.held.filter (· != v)
      lastMsg := if imodVec v then SMap.put 0 d.pcie.lastMsg v (d.now + 1) else d.pcie.lastMsg }
    out := .msix v (SMap.get 0 d.pcie.table (4 * v)) (SMap.get 0 d.pcie.table (4 * v + 1))
        (SMap.get 0 d.pcie.table (4 * v + 2)) :: d.out }

/-- The spacing of R82 still holds a vector's next message back. -/
def Dev.imodHeld (d : Dev) (v : Nat) : Bool :=
  imodVec v && SMap.get 0 d.pcie.lastMsg v != 0 &&
    decide (d.now < SMap.get 0 d.pcie.lastMsg v - 1 + d.get Reg.SYS_IMOD_HOLD * 1000)

/-- A message of a vector falls due (R79, R82): it is sent, waits for its spacing, or sets the pending-array bit. -/
def Dev.notify (d : Dev) (v : Nat) : Dev :=
  if !d.vecEnabled v then d
  else if d.vecMasked v || d.pcie.fmask then { d with pcie := { d.pcie with pba := d.pcie.pba ||| 2 ^ v } }
  else if d.imodHeld v then { d with pcie := { d.pcie with held := v :: d.pcie.held.filter (· != v) } }
  else d.msixSend v

/-- Pending-array bits and held messages of vectors that stopped being pending are dropped (R79, R82). -/
def Dev.settle (d : Dev) : Dev :=
  { d with pcie := { d.pcie with
      pba := (setBits 17 d.pcie.pba).foldl (fun p v => if d.vecPending v && d.vecEnabled v then p ||| 2 ^ v else p) 0
      held := d.pcie.held.filter (fun v => d.vecPending v && d.vecEnabled v) } }

/-- The key under which the last raising of an event bit is kept; `unit` tells ports that share one register apart. -/
def evtKey (a b unit : Nat) : Nat := (a * 32 + b) * 16 + unit

/-- An event bit may be raised now (R84 and its like). -/
def Dev.evtFree (d : Dev) (a b unit : Nat) : Bool :=
  let last := SMap.get 0 d.evtLast (evtKey a b unit)
  last == 0 || decide (last - 1 + evtRate a b ≤ d.now)

/-- Events of one SQC register that occur in the same cycle (R69): each sets its bit, SEQ advances once, and an enabled
one makes the vector's message fall due (R79). Bits raised too recently are left out (R84). -/
def Dev.raiseUnit (d : Dev) (a unit : Nat) (bits : List Nat) : Dev :=
  let bs := bits.filter (fun b => d.evtFree a b unit)
  if bs.isEmpty then d
  else
    let d := { d with evtLast := bs.foldl (fun m b => if evtRate a b = 0 then m else SMap.put 0 m (evtKey a b unit) (d.now + 1)) d.evtLast }
    let set := bs.foldl (fun w b => w ||| 2 ^ b) 0
    let w := d.rd a
    let d := d.wr a (putBits (w ||| BitVec.ofNat 32 set) 31 24 (getBits w 31 24 + 1))
    if (BitVec.ofNat 32 set &&& d.rd (evtInfo a).1) != 0 then d.notify (evtInfo a).2 else d

/-- One event (R69). -/
def Dev.raise (d : Dev) (a b : Nat) : Dev := d.raiseUnit a 0 [b]

/-- A write to an SQC register: clears the written bits only when the written SEQ is the current one (R70). -/
def Dev.sqcClear (d : Dev) (a : Nat) (w : Word) : Dev :=
  if getBits w 31 24 = getBits (d.rd a) 31 24 then
    (d.wr a (d.rd a &&& ~~~(w &&& 0x00FFFFFF))).settle
  else d

/-- IRQ0_N is asserted (R80). -/
def Dev.irq0 (d : Dev) : Bool := (List.range 17).any (fun v => d.vecEnabled v && d.vecPending v)

/-- IRQ1_N is asserted (R81). -/
def Dev.irq1 (d : Dev) : Bool := d.vecPending 5 || !d.soot.unack.isEmpty

/-! ## The soot log's holding stage (R509 to R512) -/

/-- The four words of a log entry (R509). -/
def sootItem (time sev source code : Nat) (detail : Word) (cont isCont general : Bool) : SootItem :=
  { w0 := lo32 time, w1 := hi32 time,
    w2 := BitVec.ofNat 32 (sev + 4 * b2n cont + 8 * b2n isCont + 256 * source + 65536 * code),
    w3 := detail, general := general }

/-- REPEAT of an entry's third word advanced, saturating at 15 (R509, R512). -/
def repeatInc (w : Word) : Word := putBits w 7 4 (satInc 4 (getBits w 7 4) 1)

/-- The waiting entry of a source that is not a continuation, the last of them, with REPEAT advanced. -/
def bumpStaged (source : Nat) (st : List SootItem) : List SootItem :=
  let rec go : List SootItem → List SootItem
    | [] => []
    | i :: is => if getBits i.w2 15 8 = source ∧ bit i.w2 3 = false then { i with w2 := repeatInc i.w2 } :: is else i :: go is
  (go st.reverse).reverse

/-- Entries lost: counted in SOOT_STAT.LOST (R512). -/
def Dev.sootLost (d : Dev) (n : Nat) : Dev := d.incSat Reg.SOOT_STAT_LOST n

/-- An entry arises (R512): it merges into the source's previous entry, enters the holding stage with its continuation,
or is lost. `cont` is the continuation's 12 bytes as three words. -/
def Dev.sootC (d : Dev) (sev source code : Nat) (detail : Word) (cont : Option (Word × Word × Word)) : Dev :=
  let lst := SMap.get none d.soot.last source
  let merge := match lst with
    | some l => sev != 2 && l.code == code && l.detail == detail && decide (d.now < l.at_ + 1000000)
    | none => false
  if merge then
    match lst with
    | some l =>
      match l.written with
      | some n => d.wr (Reg.SOOT_RING (n % 1024) 2) (repeatInc (d.rd (Reg.SOOT_RING (n % 1024) 2)))
      | none => { d with soot := { d.soot with stage := bumpStaged source d.soot.stage } }
    | none => d
  else
    let need := if cont.isSome then 2 else 1
    let gen := (d.soot.stage.filter (·.general)).length
    let tot := d.soot.stage.length
    let fits := if sev = 2 then decide (tot + need ≤ 16) else decide (gen + need ≤ 12)
    if !fits then d.sootLost need
    else
      let main := sootItem d.devtime sev source code detail cont.isSome false (decide (gen < 12))
      let rest := match cont with
        | none => []
        | some (a, b, c) =>
          [{ sootItem 0 sev source code c false true (decide (gen + 1 < 12)) with w0 := a, w1 := b }]
      { d with soot := { d.soot with
          stage := d.soot.stage ++ main :: rest
          last := SMap.put none d.soot.last source (some ⟨code, detail, d.now, none⟩) } }

/-- An entry without a continuation. -/
def Dev.sootE (d : Dev) (sev source code : Nat) (detail : Nat) : Dev :=
  d.sootC sev source code (BitVec.ofNat 32 detail) none

/-! ## Command status registers (the layout of CAP_CMDSTAT, R127) -/

/-- A command accepted for execution: OP, TAG, BUSY, LOST cleared. -/
def Dev.cmdStart (d : Dev) (a op tag : Nat) : Dev :=
  d.wr a (BitVec.ofNat 32 (op % 256 * 2 ^ 24 + tag % 256 * 2 ^ 8 + 1))

/-- A command ended with a status: BUSY 0. -/
def Dev.cmdEnd (d : Dev) (a status : Nat) : Dev :=
  d.wr a (putBits (putBits (d.rd a) 23 16 status) 0 0 0)

/-- A command accepted and ended at once. -/
def Dev.cmdDone (d : Dev) (a op tag status : Nat) : Dev := (d.cmdStart a op tag).cmdEnd a status

/-- A command addressed to an absent unit completes with ABSENT (R4); its registers read zero and it raises nothing. -/
def Dev.cmdAbsent (d : Dev) (a op tag : Nat) : Dev := d.cmdDone a op tag 0xFE

/-- A command status register shows BUSY. -/
def Dev.cmdBusy (d : Dev) (a : Nat) : Bool := bit (d.rd a) 0

/-- A command written while BUSY is 1 is discarded and LOST is set. -/
def Dev.cmdLost (d : Dev) (a : Nat) : Dev := d.wr a (putBits (d.rd a) 1 1 1)

/-! ## Pages, groups and blocks (R56, R66) -/

/-- The 4 KiB page of an address. -/
def pageOf (a : Nat) : Nat := a / 0x1000 * 0x1000

/-- The CGRP register of a page (R56). -/
abbrev cgrp (p : Nat) : Nat := p + 0xFFC

/-- The commit group a page belongs to (R56). -/
def Dev.groupOf (d : Dev) (p : Nat) : Nat := getBits (d.rd (cgrp p)) 3 0

/-- Every page with a CGRP register that exists on the part (R56, R4). -/
def allPages (p : Part) : List Nat :=
  ([0x10000, 0x30000, 0x31000, 0x40000, 0x41000, 0x42000, 0x43000, 0x44000, 0x50000]
    ++ (List.range 12).map (fun i => 0x51000 + i * 0x1000)
    ++ (List.range 96).map (fun i => 0x100000 + i * 0x1000)
    ++ [0x162000, 0x200000, 0x220000, 0x300000, 0x301000, 0x302000, 0x304000, 0x308000, 0x309000, 0x30A000,
        0x30C000, 0x30D000, 0x30E000, 0x310000]
    ++ (List.range 8).map (fun i => 0x311000 + i * 0x1000)
    ++ [0x320000, 0x321000, 0x322000, 0x330000]).filter p.has

/-- The block of R66 that owns a register address. -/
def blockOf (a : Nat) : Nat :=
  if a < 0x20000 then 0
  else if a < 0x40000 then 1
  else if a < 0x50000 then 2
  else if a < 0x100000 then 3
  else if a < 0x200000 then 4
  else if a < 0x210000 then 5
  else if a < 0x220000 then 6
  else if a < 0x300000 then 7
  else if a < 0x308000 then 8
  else if a < 0x30C000 then 9
  else if a < 0x310000 then 10
  else if a < 0x320000 then 11
  else if a < 0x330000 then 12
  else if a < 0x330800 then 13
  else if a < 0x330830 then 14
  else if a < 0x340000 then 13
  else if a < 0x350000 then 15
  else 16

/-- The blocks whose buffered fields a page holds: SMK and EMB share one page (R65, R378, R400). -/
def pageBlocks (p : Nat) : List Nat := if p = 0x330000 then [13, 14] else [blockOf p]

/-- The gated domains are switched off: BANKED, and its entry from step 5 on (R489). -/
def Rst.gated (r : Rst) : Bool := r.banked || r.bankSteps.head? == some 6

/-- A block that a reset or its kindling has not released yet, or that BANKED or its entry has stopped (R466, R472, R475, R489). The
ember is in the always-on domain and runs; a CORE reset resets the firewatch, the lanes, the ovens and the chimney alone among
the blocks that act on their own. -/
def Dev.unreleased (d : Dev) (b : Nat) : Bool :=
  b != 14 && ((!d.rst.steps.isEmpty && (d.rst.level != 1 || [1, 4, 5, 6].contains b)) || d.rst.gated
    || (!d.rst.bankSteps.isEmpty && (b == 1 || b == 4)))

/-- A block is held in reset by RST_BLK, or waits for its deferred release (R476 to R478). -/
def Dev.heldBlk (d : Dev) (b : Nat) : Bool :=
  (bit (d.rd Reg.RST_BLK) b && !d.rst.isolating.contains b) || bit (d.rd Reg.RST_PEND) b

/-- A block does nothing: RST_BLK or a reset of the device holds it. -/
def Dev.held (d : Dev) (b : Nat) : Bool := d.heldBlk b || d.unreleased b

/-- A block's ISOLATE wrapper is closed: requests to it complete with ERROR (R478). -/
def Dev.wrapped (d : Dev) (b : Nat) : Bool := d.rst.closed.contains b

/-- What happens to a block has no effect on it while it is held in reset (R477). -/
def State.onBlock (s : State) (b : Nat) (f : Dev → Dev) : Host.Outcome State Fault Refusal :=
  s.onDev (fun d => if d.held b then d else f d)

/-- A block is in immediate mode (R65). -/
def Dev.immed (d : Dev) (b : Nat) : Bool := bit (d.rd Reg.SYS_IMMED) b

/-- The mask of a register's fields of a kind. -/
def Reg.maskBy (r : Reg) (q : Field → Bool) : Word :=
  r.fields.foldl (fun m f => if q f then m ||| maskOf f.hi f.lo else m) 0

/-- The buffered fields of a register. -/
def Reg.rwb (r : Reg) : Word := r.maskBy (fun f => f.acc == .rwb)

/-- The buffered fields at an address. -/
def rwbMask (a : Nat) : Word :=
  match lookupReg a with
  | some r => r.rwb
  | none => 0

/-- A field's value lies in its stated range (R59). -/
def Field.ok (f : Field) (w : Word) : Bool :=
  match f.legal with
  | .any => true
  | .range lo hi => decide (lo ≤ getBits w f.hi f.lo) && decide (getBits w f.hi f.lo ≤ hi)

/-- Every buffered field of a word at an address lies in its stated range (R59, R65). -/
def wordLegal (a : Nat) (w : Word) : Bool :=
  match lookupReg a with
  | some r => r.fields.all (fun f => f.acc != .rwb || f.ok w)
  | none => true

/-- PEND of a page set (R56). -/
def Dev.setPend (d : Dev) (p : Nat) (v : Bool) : Dev := d.wr (cgrp p) (putBits (d.rd (cgrp p)) 31 31 (b2n v))

/-- REJ of a page set (R56, R59). -/
def Dev.setRej (d : Dev) (p : Nat) (v : Bool) : Dev := d.wr (cgrp p) (putBits (d.rd (cgrp p)) 30 30 (b2n v))

/-- The addresses of a page whose buffered fields may differ from reset, in the shadow or in the active copy. -/
def Dev.pageKeys (d : Dev) (p : Nat) : List Nat :=
  let inPage := fun (c : Nat × Word) => pageOf c.1 == p && rwbMask c.1 != 0
  let ks := (d.shadow.filter inPage).map (·.1)
  ks ++ ((d.regs.filter inPage).map (·.1)).filter (fun k => !ks.contains k)

/-- What a page's shadows hold, to be captured (R58): a block in immediate mode has captured its words already (R65). -/
def Dev.pageShadow (d : Dev) (p : Nat) : List Captured :=
  ((d.pageKeys p).filter (fun a => !d.immed (blockOf a))).map (fun a => (a, d.sh a))

/-- The value a captured page gives an address: the captured word, or the active one (for a check of R59). -/
def capWord (d : Dev) (ws : List Captured) (a : Nat) : Word := (SMap.find? a ws).getD (d.rd a)

/-- The captured field, for a check of R59. -/
def capGet (d : Dev) (ws : List Captured) (f : Fld) : Nat := getBits (capWord d ws f.addr) f.hi f.lo

/-- A word's buffered fields replaced by the captured ones (R60). -/
def Dev.applyWord (d : Dev) (c : Captured) : Dev :=
  d.wr c.1 (mergeMask (rwbMask c.1) (d.rd c.1) c.2)

/-- A page's captures removed from those that wait. -/
def dropCaptures (p : Nat) (cs : List Capture) : List Capture := cs.filter (fun c => c.page != p)

/-- A byte of a 64-bit count in ns. -/
def msNs (n : Nat) : Nat := n * 1000000

end Sys2Proof.Machine
end

