-- ==== Sys2Proof/Machine/Net.lean ====
section
/-! DEFINITION. Bytes on the wire: CRC-32 (R246), big-endian fields, the Internet checksum, the headers of R330, the
destination address of R331 and the frame check sequence. -/

namespace Sys2Proof.Machine

/-- A number as `n` bytes, the most significant first. -/
def beBytes : Nat → Nat → List Byte
  | 0, _ => []
  | n + 1, v => BitVec.ofNat 8 (v / 2 ^ (8 * n)) :: beBytes n v

/-- A number as `n` bytes, the least significant first. -/
def leBytes : Nat → Nat → List Byte
  | 0, _ => []
  | n + 1, v => BitVec.ofNat 8 v :: leBytes n (v / 256)

/-- The number of bytes read most significant first. -/
def beNat (bs : List Byte) : Nat := bs.foldl (fun n b => n * 256 + b.toNat) 0

/-- The number of bytes read least significant first. -/
def leNat (bs : List Byte) : Nat := beNat bs.reverse

/-- One bit of the reflected CRC-32 of IEEE 802.3. -/
def crcBit (c : Word) : Word := if bit c 0 then (c >>> 1) ^^^ 0xEDB88320 else c >>> 1

/-- One byte of it. -/
def crcByte (c : Word) (b : Byte) : Word :=
  crcBit (crcBit (crcBit (crcBit (crcBit (crcBit (crcBit (crcBit (c ^^^ b.setWidth 32))))))))

/-- The CRC-32 of R246: reflected, initial value and final exclusive-or of all ones. -/
def crc32 (bs : List Byte) : Word := ~~~ (bs.foldl crcByte 0xFFFFFFFF)

/-- One byte of the CRC-16 of R50: x^16 + x^12 + x^5 + 1, most significant bit first. -/
def crc16Byte (c : BitVec 16) (b : Byte) : BitVec 16 :=
  (List.range 8).foldl (fun c _ => if c.getLsbD 15 then (c <<< 1) ^^^ 0x1021 else c <<< 1) (c ^^^ (b.setWidth 16 <<< 8))

/-- The CRC-16 of R50 over bytes: initial value 0xFFFF, no reflection, no final inversion. -/
def crc16 (bs : List Byte) : BitVec 16 := bs.foldl crc16Byte 0xFFFF

/-- The sum of 16-bit big-endian words, an odd last byte padded with zero. -/
def sum16 : List Byte → Nat
  | a :: b :: bs => a.toNat * 256 + b.toNat + sum16 bs
  | [a] => a.toNat * 256
  | [] => 0

/-- The one's complement of the one's-complement sum (RFC 1071). -/
def inetSum (n : Nat) : Nat :=
  let f := fun (x : Nat) => x % 65536 + x / 65536
  65535 - f (f (f n))

/-- The destination MAC address of an IPv4 address (R331): multicast by RFC 1112, else the gateway. -/
def mac4 (gw ip : List Byte) : List Byte :=
  match ip with
  | a :: b :: c :: e :: _ => if a.toNat / 16 = 14 then [0x01, 0x00, 0x5E, b &&& 0x7F, c, e] else gw
  | _ => gw

/-- The destination MAC address of an IPv6 address (R331): multicast by RFC 2464, else the gateway. -/
def mac6 (gw ip : List Byte) : List Byte :=
  match ip with
  | a :: _ => if a = 0xFF then [0x33, 0x33] ++ ip.drop 12 else gw
  | _ => gw

/-- An IPv4 header without options (R330): DSCP, total length, identification, DF, TTL, UDP, addresses. -/
def ip4Header (dscp len ident ttl : Nat) (src dst : List Byte) : List Byte :=
  let h := fun (ck : Nat) => [0x45, BitVec.ofNat 8 (dscp * 4)] ++ beBytes 2 len ++ beBytes 2 ident ++ [0x40, 0x00]
    ++ [BitVec.ofNat 8 ttl, 17] ++ beBytes 2 ck ++ src ++ dst
  h (inetSum (sum16 (h 0)))

/-- An IPv6 header without extensions (R330): traffic class DSCP × 4, flow label 0. -/
def ip6Header (dscp len hop : Nat) (src dst : List Byte) : List Byte :=
  beBytes 4 (6 * 2 ^ 28 + dscp * 4 * 2 ^ 20) ++ beBytes 2 len ++ [17, BitVec.ofNat 8 hop] ++ src ++ dst

/-- A UDP datagram with its checksum over the pseudo-header (R330). -/
def udp (sport dport : Nat) (src dst payload : List Byte) : List Byte :=
  let len := 8 + payload.length
  let h := fun (ck : Nat) => beBytes 2 sport ++ beBytes 2 dport ++ beBytes 2 len ++ beBytes 2 ck
  let ck := inetSum (sum16 (src ++ dst) + 17 + len + sum16 (h 0) + sum16 payload)
  h (if ck = 0 then 65535 else ck) ++ payload

/-- A frame from the destination address to the FCS, padded to 64 bytes (R322, R330). -/
def ethFrame (dmac smac : List Byte) (tag : Option Nat) (etype : Nat) (body : List Byte) : List Byte :=
  let h := dmac ++ smac ++ (match tag with | some t => beBytes 2 0x8100 ++ beBytes 2 t | none => [])
    ++ beBytes 2 etype ++ body
  let p := h ++ List.replicate (60 - h.length) 0
  p ++ leBytes 4 (crc32 p).toNat

/-- The bytes of a register, byte 0 first. -/
def wordBytes (w : Word) : List Byte := [byteOf w 0, byteOf w 1, byteOf w 2, byteOf w 3]

/-- A MAC address from its two registers (the flue chapter's address table). -/
def macBytes (lo hi : Word) : List Byte := beBytes 2 (hi.toNat % 65536) ++ beBytes 4 lo.toNat

/-- Registers from an address as bytes. -/
def Dev.regBytes (d : Dev) (a : Nat) : Nat → List Byte
  | 0 => []
  | n + 1 => wordBytes (d.rd a) ++ d.regBytes (a + 4) n

end Sys2Proof.Machine
end

