-- ==== Sys2Proof/Machine/FlueOps.lean ====
section
/-! DEFINITION. The flue's operations: dampers and losses (R325 to R329, R334), the packetiser (R332, R333), the framers
(R330, R335 to R342) and the HF ring (R343 to R345). Ports are 0 F0, 1 F1, 2 HF. -/

namespace Sys2Proof.Machine

/-- A port's first page. -/
def portBase (p : Nat) : Nat := match p with
  | 0 => 0x300000
  | 1 => 0x308000
  | _ => 0x30C000

/-- The address of an entry's word `k` (the stream table of R328). -/
def entAddr (p e k : Nat) : Nat := portBase p + (if e < 64 then 0x1000 else 0x2000) + (e % 64) * 0x20 + 4 * k

/-- The address of an entry's counter `k`: units, frames, drops, gaps and queue. -/
def cntAddr (p e k : Nat) : Nat := portBase p + 0x3000 + e * 0x10 + 4 * k

def Dev.fport (d : Dev) (p : Nat) : FluePort := SMap.get {} d.flue p
def Dev.setFport (d : Dev) (p : Nat) (x : FluePort) : Dev := { d with flue := SMap.put {} d.flue p x }
def Dev.damper (d : Dev) (p e : Nat) : Damper := SMap.get {} (d.fport p).dampers e
def Dev.setDamper (d : Dev) (p e : Nat) (x : Damper) : Dev :=
  d.setFport p { d.fport p with dampers := SMap.put {} (d.fport p).dampers e x }

/-- Bits of an entry's word. -/
def Dev.ent (d : Dev) (p e k hi lo : Nat) : Nat := getBits (d.rd (entAddr p e k)) hi lo

def Dev.entOn (d : Dev) (p e : Nat) : Bool := d.ent p e 0 31 31 == 1
def Dev.entKind (d : Dev) (p e : Nat) : Nat := d.ent p e 0 27 26
def Dev.entEnc (d : Dev) (p e : Nat) : Nat := d.ent p e 0 25 24

/-- The voltage a VDDIO bank sensed, and that the bank runs in 3.3 V mode (R529, R542). -/
def Dev.bankMv (d : Dev) (b : Nat) : Nat := SMap.get 3300 d.rst.vio b
def Dev.bank33 (d : Dev) (b : Nat) : Bool := decide (2500 < d.bankMv b)

/-- Bank 3 sensed less than 2.9 V: the F ports stay down with their lasers off (R529). -/
def Dev.sfpLow (d : Dev) : Bool := decide (d.bankMv 3 < 2900)

/-- The port can send: UP for F0 and F1, RUN for HF (R324, R325). -/
def Dev.portUp (d : Dev) (p : Nat) : Bool := if p < 2 then d.is (Reg.FLU_LINK_UP p) else d.is Reg.HF_CTL_RUN

/-- An event of a port (R356). -/
def Dev.portEvt (d : Dev) (p b : Nat) : Dev := d.raise (portBase p + 8) b

/-- Damper memory of a port, and what a unit occupies of it (R325). -/
def damperMem (p : Nat) : Nat := if p < 2 then 0x100000 else 0x200000
def unitRoom (u : QUnit) : Nat := (u.payload.length + 63) / 64 * 64
def damperUsed (x : Damper) : Nat := (x.queue.map unitRoom).foldl (· + ·) 0
def Dev.portUsed (d : Dev) (p : Nat) : Nat :=
  (((d.fport p).dampers.map (fun c => damperUsed c.2)) ++ (d.fport p).tele.map unitRoom).foldl (· + ·) 0

/-- QKIB of an entry brought up to date. -/
def Dev.qkib (d : Dev) (p e : Nat) : Dev :=
  d.wr (cntAddr p e 3) (putBits (d.rd (cntAddr p e 3)) 15 0 (damperUsed (d.damper p e) / 1024))

/-- The packetiser has reached a loss: continuity of every PID is to be repaired (R333). -/
def Damper.healDue (x : Damper) : Damper :=
  { x with discDue := true, pids := x.pids.map (fun c => (c.1, c.2.map (fun s => { s with heal := true }))) }

/-- A loss in an entry's stream (R333, R334): the run of the gap marker, and continuity repair for TS. `known` is the number of units
when it is known, `head` that the unit was lost ahead of those queued, not behind them. -/
def Damper.loss (x : Damper) (cause : Nat) (known : Option Nat) (head : Bool) : Damper :=
  let x := if head || x.queue.isEmpty then x.healDue else { x with tailLoss := true }
  { x with
    gap := match x.gap with | some c => some c | none => if x.pauseSent then none else some cause
    gapLost := x.gapLost + known.getD 0
    gapKnown := x.gapKnown && known.isSome }

/-- Drops of a port entered in the soot log, at most one entry per second (R511, 0x7004). -/
def Dev.sootDrops (d : Dev) (p : Nat) : Dev :=
  let x := d.fport p
  let x := { x with drops := x.drops + 1 }
  if x.dropAt = 0 ∨ x.dropAt - 1 + 1000000000 ≤ d.now then
    (d.setFport p { x with drops := 0, dropAt := d.now + 1 }).sootE 2 (8 + p) 0x7004 (p * 65536 + min x.drops 65535)
  else d.setFport p x

/-- A unit of an entry lost for DAMPER, LINK or FORMAT (R325, R332, R334). -/
def Dev.dropUnit (d : Dev) (p e cause : Nat) : Dev :=
  let d := d.setDamper p e ((d.damper p e).loss cause (some 1) (cause == 4))
  let d := d.incWordSat (cntAddr p e 2) 1
  let d := if cause = 6 then (if p < 2 then (d.incWordSat (Reg.FLU_FMTDROP p) 1).portEvt p 4 else d)
    else d.portEvt p (if p < 2 then 2 else 1)
  if cause = 4 then d.sootDrops p else d

/-- A list without its first element that satisfies a test. -/
def dropFirst {α : Type} (q : α → Bool) : List α → List α
  | [] => []
  | x :: xs => if q x then xs else x :: dropFirst q xs

/-- The entry that gives up a unit at a full damper memory (R325): the lowest priority that holds one, the highest index
among equals. Telemetry takes part as entry 128 of priority 7 (log 63). -/
def Dev.victim (d : Dev) (p : Nat) : Option Nat :=
  let tele := !(d.fport p).tele.isEmpty
  let v := ((List.range 128).filter (fun e => !((d.damper p e).queue.drop (if (d.damper p e).sent = 0 then 0 else 1)).isEmpty)).foldl
    (fun b e => match b with
      | none => some e
      | some x => if d.ent p e 0 23 21 ≤ d.ent p x 0 23 21 then some e else some x) none
  match v with
  | some e => if tele && d.ent p e 0 23 21 == 7 then some 128 else v
  | none => if tele then some 128 else none

/-- A damper without its oldest unit that is not being sent. -/
def Damper.dropOldest (x : Damper) : Damper :=
  if x.sent = 0 then { x with queue := x.queue.drop 1 } else { x with queue := x.queue.take 1 ++ x.queue.drop 2 }

/-- The oldest telemetry frame of a port dropped. -/
def Dev.teleDrop (d : Dev) (p : Nat) : Dev :=
  ((d.setFport p { d.fport p with tele := (d.fport p).tele.drop 1 }).portEvt p (if p < 2 then 2 else 1)).sootDrops p

/-- Units dropped until the damper memory is not exceeded (R325). -/
def Dev.fitDamper (d : Dev) (p : Nat) : Nat → Dev
  | 0 => d
  | n + 1 =>
    if d.portUsed p ≤ damperMem p then d
    else match d.victim p with
      | none => d
      | some 128 => (d.teleDrop p).fitDamper p n
      | some e => (((d.setDamper p e (d.damper p e).dropOldest).dropUnit p e 4).qkib p e).fitDamper p n

/-- The IPv4 datagram checks of R335. -/
def ipOk (bs : List Byte) : Bool :=
  match bs.head? with
  | some b => decide (b = 0x45) && decide (20 ≤ bs.length) && decide (beNat ((bs.drop 2).take 2) = bs.length)
      && decide (inetSum (sum16 (bs.take 20)) = 0)
  | none => false

/-- The TS packets of a unit (R332); none when its form is wrong. -/
def tsPackets : Nat → List Byte → Option (List (List Byte))
  | 0, bs => if bs.isEmpty then some [] else none
  | n + 1, bs =>
    if bs.isEmpty then some []
    else if bs.length < 188 ∨ bs.head? ≠ some 0x47 then none
    else (tsPackets n (bs.drop 188)).map (fun r => bs.take 188 :: r)

/-- The unit's form is one the entry accepts (R332, R335). -/
def Dev.formOk (d : Dev) (p e : Nat) (u : QUnit) : Bool :=
  match d.entEnc p e with
  | 0 => !u.payload.isEmpty && (tsPackets (u.payload.length / 188) u.payload).isSome
  | 1 => !u.err && ipOk u.payload
  | _ => true

/-- A unit arrives at the damper of an entry (R325). -/
def Dev.damperIn (d : Dev) (p e : Nat) (u : QUnit) : Dev :=
  if !d.portUp p then d.dropUnit p e 5
  else if !d.formOk p e u then d.dropUnit p e 6
  else
    let x := d.damper p e
    ((d.setDamper p e { x with queue := x.queue ++ [{ u with enq := d.now, afterLoss := x.tailLoss }], tailLoss := false }).fitDamper p 70).qkib p e

/-- The ports present on the part. -/
def Dev.ports (d : Dev) : List Nat := if d.part.hasF1 then [0, 1, 2] else [0, 2]

/-- The enabled DATA entries that name a lane and one of its streams, by port. -/
def Dev.entriesOf (d : Dev) (lane : Nat) (stream : Option Nat) : List (Nat × Nat) :=
  d.ports.flatMap (fun p => ((List.range 128).filter (fun e =>
    d.entOn p e && d.entKind p e == 0 && d.ent p e 0 14 8 == lane &&
      (match stream with | some s => d.ent p e 0 18 16 == s | none => true))).map (fun e => (p, e)))

/-- A released unit is copied to the damper of every entry that names it (R312, R325). -/
def Dev.toDampers (d : Dev) (u : QUnit) : Dev :=
  (d.entriesOf u.lane (some u.stream)).foldl (fun d pe => d.damperIn pe.1 pe.2 u) d

/-- Units of a lane's stream lost before the dampers (R334): PAUSE 1, DRAWLOSS 2, DRAWFULL 3. A PAUSE marker is sent of
its own accord. -/
def Dev.lossAll (d : Dev) (lane : Nat) (stream : Option Nat) (cause : Nat) : Dev :=
  (d.entriesOf lane stream).foldl (fun d pe =>
    let x := d.damper pe.1 pe.2
    let y := x.loss cause (if cause = 3 then some 1 else none) false
    let y := if cause = 1 ∧ !x.pauseSent then { y with pauseDue := true } else y
    let d := d.setDamper pe.1 pe.2 y
    if cause = 3 then d.incWordSat (cntAddr pe.1 pe.2 2) 1 else d) d

/-- An entry starts (R329): sequence numbers afresh, FIRST due, the bucket full. On an F port that bank 3's voltage keeps down it is
reported (R529). -/
def Dev.entryStart (d : Dev) (p e : Nat) : Dev :=
  let d := if p < 2 ∧ d.sfpLow then d.sootE 2 (8 + p) 0x7002 p else d
  d.setDamper p e { rtp := d.devtime % 65536, tokens := (d.ent p e 3 15 0 * 8000 : Nat), tokAt := d.now }

/-- An entry stops (R329): its queued units are discarded and counted in DROPS. -/
def Dev.entryStop (d : Dev) (p e : Nat) : Dev :=
  ((d.incWordSat (cntAddr p e 2) (d.damper p e).queue.length).setDamper p e {}).qkib p e

/-! ## GSF (R337 to R342) -/

/-- A GSF header. -/
def Dev.gsfHeader (d : Dev) (ty flags stream lane fmt : Nat) (last : Bool) (off seq time key index : Nat) : List Byte :=
  [0x47, 0x53, BitVec.ofNat 8 (0x10 + ty), BitVec.ofNat 8 flags] ++ beBytes 2 (d.get Reg.SYS_DEVID_SYSID)
    ++ beBytes 2 (d.get Reg.SYS_DEVID_DEVID * 64 + stream) ++ [BitVec.ofNat 8 lane, BitVec.ofNat 8 fmt]
    ++ beBytes 2 (b2n last * 32768 + off) ++ beBytes 4 (seq % 2 ^ 32) ++ beBytes 8 time ++ beBytes 6 key
    ++ beBytes 2 index

/-- Bytes of a unit's payload in one frame (R340): SEGMAX on F0 and F1, all of it on HF. -/
def Dev.segMax (d : Dev) (p e : Nat) : Nat :=
  if p = 2 then 65536
  else 1518 - 14 - 4 - (if d.ent p e 0 20 20 = 1 then 40 else 20) - 8 - 32 - (if d.ent p e 0 19 19 = 1 then 4 else 0)

/-- A UDP datagram in a frame of an F port (R330, R331). -/
def Dev.ipFrame (d : Dev) (p : Nat) (v6 : Bool) (tag : Option Nat) (dscp sport dport : Nat) (dst : List Byte)
    (payload : List Byte) : List Byte :=
  let gw := macBytes (d.rd (Reg.FLU_GWMAC_LO p)) (d.rd (Reg.FLU_GWMAC_HI p))
  let own := macBytes (d.rd (Reg.FLU_MAC_LO p)) (d.rd (Reg.FLU_MAC_HI p))
  let ttl := d.get (Reg.FLU_CTL_TTL p)
  if v6 then
    let src := d.regBytes (Reg.FLU_IP6 p 0) 4
    let u := udp sport dport src dst payload
    ethFrame (mac6 gw dst) own tag 0x86DD (ip6Header dscp u.length ttl src dst ++ u)
  else
    let src := wordBytes (d.rd (Reg.FLU_IP4 p))
    let dst := dst.take 4
    let u := udp sport dport src dst payload
    ethFrame (mac4 gw dst) own tag 0x0800 (ip4Header dscp (20 + u.length) (d.fport p).ident ttl src dst ++ u)

/-- The frame of an entry's own addresses. -/
def Dev.entFrame (d : Dev) (p e : Nat) (payload : List Byte) : List Byte :=
  d.ipFrame p (d.ent p e 0 20 20 == 1) (if d.ent p e 0 19 19 = 1 then some (d.ent p e 2 15 0) else none)
    (d.ent p e 2 31 26) (d.ent p e 1 15 0) (d.ent p e 1 31 16) (d.regBytes (entAddr p e 4) 4) payload

/-- A frame leaves an F port: the identification and TXFRAMES advance (R330). -/
def Dev.sendFrame (d : Dev) (p : Nat) (bs : List Byte) : Dev :=
  let x := d.fport p
  ((d.setFport p { x with ident := (x.ident + 1) % 65536 }).emit (.frame p bs)).incWordSat (Reg.FLU_TXFRAMES p) 1

/-! ## HF (R343 to R345) -/

/-- The ring stops (R345): RUN cleared, HEAD and TAIL zero, STOPPED, a severe entry whose detail the spec leaves open. -/
def Dev.hfStop (d : Dev) (evt : Option Nat) : Dev :=
  if !d.is Reg.HF_CTL_RUN then d
  else
    let d := ((d.set Reg.HF_CTL_RUN 0).wr Reg.HF_HEAD 0).wr Reg.HF_TAIL 0
    let d := d.raiseUnit Reg.HF_EVT 0 (match evt with | some b => [2, b] | none => [2])
    let (w, d) := d.fresh
    let d := d.setFport 2 { d.fport 2 with dampers := (d.fport 2).dampers.map (fun c =>
      (c.1, c.2.loss 5 (some 0) false)) }
    d.sootC 2 10 0x7003 w none

/-- A descriptor is available (R344). -/
def Dev.hfReady (d : Dev) : Bool := d.is Reg.HF_CTL_RUN && d.rd Reg.HF_HEAD != d.rd Reg.HF_TAIL

/-- A record is written to a descriptor (R343, R344): `idx` the entry index, `ok` that the DMA writes completed. Answers
whether the record was written. -/
def Dev.hfRecord (d : Dev) (buf : HfDesc) (idx lane : Nat) (err : Bool) (bs : List Byte) : Bool × Dev :=
  if buf.len < 4160 then (false, d.hfStop (some 3))
  else if !buf.ok then (false, d.hfStop (some 4))
  else
    let head := (d.rd Reg.HF_HEAD).toNat
    let ring := d.rd64 Reg.HF_RING_LO Reg.HF_RING_HI + 16 * head
    let d := d.emit (.dma buf.addr bs)
    let d := d.emit (.dma (ring + 10) (leBytes 2 bs.length ++ [BitVec.ofNat 8 idx, if err then 3 else 1] ++ leBytes 2 lane))
    (true, d.wr Reg.HF_HEAD (BitVec.ofNat 32 ((head + 1) % 2 ^ d.get Reg.HF_CTL_LOG2N)))

/-- A record of a stream entry or of telemetry makes vector 12 fall due (R344). -/
def Dev.hfNotify (d : Dev) : Dev := d.notify 12

/-! ## Alert frames (R279, R280, R342) -/

/-- The payload of an alert frame. -/
def AlertTx.payload (a : AlertTx) : List Byte :=
  [BitVec.ofNat 8 a.kind, BitVec.ofNat 8 a.flags, BitVec.ofNat 8 a.hearth, BitVec.ofNat 8 a.role]
    ++ beBytes 2 (a.prio * 4096 + a.tag) ++ [0, 0] ++ beBytes 4 a.word.toNat ++ beBytes 4 (a.rep % 256)

/-- The GSF frame of an alert. -/
def Dev.alertGsf (d : Dev) (a : AlertTx) : List Byte :=
  d.gsfHeader 5 (if a.rep = 0 then 0 else 4) 0 a.lane 0 true 0 a.seq a.time 0 0 ++ a.payload

/-- An alert frame handed to a port: discarded and counted when an F port is down (R324). -/
def Dev.alertTo (d : Dev) (p : Nat) (a : AlertTx) : Dev :=
  if p < 2 ∧ !d.portUp p then (d.incWordSat (Reg.FLU_ALERTDROP p) 1).portEvt p 3
  else d.setFport p { d.fport p with alerts := (d.fport p).alerts ++ [a] }

/-! ## The packetiser (R332, R333) -/

/-- A TS packet after continuity repair. -/
def Damper.fixTs (x : Damper) (err : Bool) (bs : List Byte) : List Byte × Damper :=
  match bs with
  | b0 :: b1 :: b2 :: b3 :: rest =>
    let pid := (b1.toNat % 32) * 256 + b2.toNat
    let cc := b3.toNat % 16
    let hasPl := b3.getLsbD 4
    let st := (SMap.get none x.pids pid).getD ⟨(cc + 15) % 16, 0, false⟩
    let st := if hasPl ∧ st.heal then { st with off := (st.last + 1 + 16 - cc) % 16, heal := false } else st
    let out := (cc + st.off) % 16
    let st := { st with last := out }
    let af := b3.getLsbD 5 && decide (0 < (rest.headD 0).toNat)
    let fl := (rest.drop 1).headD 0
    let pcr := af && fl.getLsbD 4
    let mark := x.discDue && pcr
    let rest := if mark then rest.take 1 ++ [fl ||| 0x80] ++ rest.drop 2 else rest
    (b0 :: (if err then b1 ||| 0x80 else b1) :: b2 :: ((b3 &&& 0xF0) ||| BitVec.ofNat 8 out) :: rest,
      { x with pids := SMap.put none x.pids pid (some st), discDue := x.discDue && !mark })
  | _ => (bs, x)

/-- A unit's packets collected. -/
def Damper.collect (x : Damper) (err : Bool) (rel : Nat) : List (List Byte) → Damper
  | [] => x
  | b :: bs =>
    let (o, y) := x.fixTs err b
    Damper.collect { y with ts := y.ts ++ [(rel, o)] } err rel bs

/-- Units collected until seven packets are held (R332). -/
def Dev.pull (d : Dev) (p e : Nat) : Nat → Dev
  | 0 => d
  | n + 1 =>
    let x := d.damper p e
    match x.queue with
    | u :: us =>
      if 7 ≤ x.ts.length then d
      else
        let y : Damper := { x with queue := us, tsAt := if x.ts.isEmpty then d.now else x.tsAt, lastKey := u.key, lastIndex := u.index }
        let y := if u.afterLoss then y.healDue else y
        let y := y.collect u.err u.rel ((tsPackets (u.payload.length / 188) u.payload).getD [])
        (((d.setDamper p e { y with gap := none, gapLost := 0, gapKnown := true, pauseSent := false }).incWord (cntAddr p e 0) 1).qkib p e).pull p e n
    | [] => d

/-- An RTP datagram's content (R332). -/
def rtpPacket (seq rel ssrc : Nat) (ps : List (List Byte)) : List Byte :=
  [0x80, 33] ++ beBytes 2 seq ++ beBytes 4 (rel * 9 / 100000 % 2 ^ 32) ++ beBytes 4 ssrc ++ ps.flatten

/-! ## What an entry would send next (R326, R327, R334 to R340) -/

/-- The next record of an entry: its content after the transport headers (an IP datagram for IPPASS), whether it ends the
unit at the head, whether it is the marker of a gap, the unit's error flag, and the damper once it has gone. -/
structure NextTx where
  bytes : List Byte
  raw : Bool
  endsUnit : Bool
  isGap : Bool
  err : Bool
  after : Damper
deriving DecidableEq, Repr

/-- A gap marker (R338). -/
def Dev.gapTx (d : Dev) (p e : Nat) (x : Damper) : NextTx :=
  let cause := x.gap.getD 1
  let known := x.gapKnown && cause != 1 && cause != 2
  let pl := [BitVec.ofNat 8 cause, 0] ++ beBytes 6 x.lastKey ++ beBytes 2 x.lastIndex ++ [0, 0]
    ++ beBytes 4 (if known then min x.gapLost (2 ^ 32 - 1) else 2 ^ 32 - 1)
  { bytes := d.gsfHeader 2 (if x.first then 2 else 0) 0 (d.ent p e 0 14 8) (d.ent p e 0 7 0) true 0 x.seq d.devtime 0 0 ++ pl
    raw := false, endsUnit := false, isGap := true, err := false
    after := { x with seq := x.seq + 1, first := false, gap := none, gapLost := 0, gapKnown := true,
                      pauseSent := x.pauseDue, pauseDue := false } }

/-- The next GSF frame of a unit. -/
def Dev.gsfTx (d : Dev) (p e : Nat) (x : Damper) (u : QUnit) : NextTx :=
  let m := d.segMax p e
  let seg := (u.payload.drop x.sent).take m
  let last := decide (u.payload.length ≤ x.sent + m)
  let ty := if u.kind = 2 then 4 else 1
  let fl := b2n u.err + (if x.first || u.first then 2 else 0)
  { bytes := d.gsfHeader ty fl (if u.kind = 0 then u.stream else 0) u.lane (d.ent p e 0 7 0) last x.sent x.seq u.time u.key u.index ++ seg
    raw := false, endsUnit := last, isGap := false, err := u.err
    after := { x with
      seq := x.seq + 1, first := false, sent := if last then 0 else x.sent + m
      queue := if last then x.queue.drop 1 else x.queue
      pauseSent := false
      lastKey := if last then u.key else x.lastKey, lastIndex := if last then u.index else x.lastIndex } }

/-- The next datagram or fragment of an IPPASS unit (R335, R336); none where it must be dropped for its length. -/
def Dev.ipTx (d : Dev) (p e : Nat) (x : Damper) (u : QUnit) : Option NextTx :=
  let room := if p = 2 then 65536 else if d.ent p e 0 19 19 = 1 then 1496 else 1500
  let done : Damper := { x with queue := x.queue.drop 1, sent := 0, first := false, lastKey := u.key, lastIndex := u.index,
                                gap := none, gapLost := 0, gapKnown := true, pauseSent := false, pauseDue := false }
  if u.payload.length ≤ room then
    some { bytes := u.payload, raw := true, endsUnit := true, isGap := false, err := false, after := done }
  else if (u.payload.drop 6).headD 0 &&& 0x40 ≠ 0 then none
  else
    let hdr := u.payload.take 20
    let data := u.payload.drop 20
    let n := (room - 20) / 8 * 8
    let last := decide (data.length ≤ x.sent + (room - 20))
    let seg := if last then data.drop x.sent else (data.drop x.sent).take n
    let fo := beNat ((hdr.drop 6).take 2)
    let off := (fo % 8192) + x.sent / 8
    let mf := if last then fo / 8192 % 2 else 1
    let h := fun (ck : Nat) => hdr.take 2 ++ beBytes 2 (20 + seg.length) ++ (hdr.drop 4).take 2
      ++ beBytes 2 (fo / 16384 * 16384 + mf * 8192 + off) ++ (hdr.drop 8).take 2 ++ beBytes 2 ck ++ hdr.drop 12
    some { bytes := h (inetSum (sum16 (h 0))) ++ seg, raw := true, endsUnit := last, isGap := false, err := false,
           after := if last then done else { x with sent := x.sent + n } }

/-- What an entry would send next; none when nothing is ready. -/
def Dev.nextTx (d : Dev) (p e : Nat) : Option NextTx :=
  let x := d.damper p e
  match d.entEnc p e with
  | 0 =>
    if 7 ≤ x.ts.length ∨ (x.tsFlush ∧ !x.ts.isEmpty) then
      let ps := x.ts.take 7
      let ssrc := d.get Reg.SYS_DEVID_DEVID * 2 ^ 22 + p * 2 ^ 20 + e * 2 ^ 13
      some { bytes := rtpPacket x.rtp (ps.headD (0, [])).1 ssrc (ps.map (·.2)), raw := false, endsUnit := false,
             isGap := false, err := false,
             after := { x with ts := x.ts.drop 7, tsFlush := false, tsAt := d.now, rtp := (x.rtp + 1) % 65536, first := false } }
    else none
  | 1 => match x.queue with
    | u :: _ => d.ipTx p e x u
    | [] => none
  | _ =>
    if d.entKind p e = 0 ∧ x.sent = 0 ∧ (x.pauseDue ∨ (x.gap.isSome ∧ !x.queue.isEmpty)) then some (d.gapTx p e x)
    else match x.queue with
      | u :: _ => some (d.gsfTx p e x u)
      | [] => none

/-- The frame of what an entry sends next on an F port. -/
def Dev.txFrame (d : Dev) (p e : Nat) (t : NextTx) : List Byte :=
  if t.raw then
    let gw := macBytes (d.rd (Reg.FLU_GWMAC_LO p)) (d.rd (Reg.FLU_GWMAC_HI p))
    let own := macBytes (d.rd (Reg.FLU_MAC_LO p)) (d.rd (Reg.FLU_MAC_HI p))
    ethFrame (mac4 gw ((t.bytes.drop 16).take 4)) own
      (if d.ent p e 0 19 19 = 1 then some (d.ent p e 2 15 0) else none) 0x0800 t.bytes
  else d.entFrame p e t.bytes

/-- The token bucket filled up to now (R326): RATE Mbit/s up to BURST bytes, in 1/8,000 byte. -/
def Dev.fill (d : Dev) (p e : Nat) : Dev :=
  let x := d.damper p e
  let cap : Int := (d.ent p e 3 15 0 * 8000 : Nat)
  d.setDamper p e { x with tokens := min cap (x.tokens + ((d.now - x.tokAt) * d.ent p e 3 31 16 : Nat)), tokAt := d.now }

/-- The bytes of the record or frame, from the destination address to the FCS on an F port. -/
def Dev.txSize (d : Dev) (p e : Nat) (t : NextTx) : Nat := if p < 2 then (d.txFrame p e t).length else t.bytes.length

/-- The head of an entry may be sent (R326). -/
def Dev.eligible (d : Dev) (p e : Nat) : Bool :=
  d.entOn p e && (match d.nextTx p e with
    | none => false
    | some t => d.ent p e 3 31 16 == 0 || decide ((d.txSize p e t * 8000 : Nat) ≤ (d.damper p e).tokens))

/-- IPPASS units too long to send and not to be fragmented are dropped (R336). -/
def Dev.dropLong (d : Dev) (p e : Nat) (room : Nat) : Dev :=
  let x := d.damper p e
  match x.queue with
  | u :: _ =>
    if d.entEnc p e = 1 ∧ d.entOn p e ∧ ((p < 2 ∧ (d.ipTx p e x u).isNone) ∨ (p = 2 ∧ room < u.payload.length)) then
      ((d.setDamper p e { x with queue := x.queue.drop 1, sent := 0 }).dropUnit p e 6).qkib p e
    else d
  | [] => d

/-- The entry whose turn it is (R327): highest priority, round-robin among equals. Telemetry takes part as entry 128 of
priority 7. -/
def Dev.pick (d : Dev) (p : Nat) : Option Nat :=
  let prio := fun e => if e = 128 then 7 else d.ent p e 0 23 21
  let ready := ((List.range 128).filter (d.eligible p)) ++ (if (d.fport p).tele.isEmpty then [] else [128])
  let top := ready.foldl (fun m e => max m (prio e)) 0
  let lst := SMap.get 0 (d.fport p).last top
  (ready.filter (fun e => prio e == top)).foldl (fun b e => match b with
    | none => some e
    | some x => if (e + 129 - lst) % 129 < (x + 129 - lst) % 129 then some e else some x) none

end Sys2Proof.Machine
end

