-- ==== Sys2Proof/Machine/AudioOps.lean ====
section
/-! DEFINITION. The audio block's operations: feeds (R367), the tone (R368), starting, muting and restarting a port
(R369 to R371). -/

namespace Sys2Proof.Machine

def Dev.aport (d : Dev) (p : Nat) : AudPort := SMap.get {} d.audio.ports p
def Dev.setAport (d : Dev) (p : Nat) (x : AudPort) : Dev :=
  { d with audio := { d.audio with ports := SMap.put {} d.audio.ports p x } }
def Dev.feed (d : Dev) (k : Nat) : Feed := SMap.get {} d.audio.feeds k
def Dev.setFeed (d : Dev) (k : Nat) (x : Feed) : Dev :=
  { d with audio := { d.audio with feeds := SMap.put {} d.audio.feeds k x } }

/-- Internal samples in 8 ms and in 24 ms at 48,828.125 Hz: 390.625 and 1,171.875, so 391 hold 8 ms and 1,172 are more
than 24 ms (R367). -/
def feedMin : Nat := 391
def feedMax : Nat := 1171

/-- Slots of a frame (R357): two for I2S and left-justified. -/
def Dev.audSlots (d : Dev) (p : Nat) : Nat :=
  if d.get (Reg.AUD_CTL_FMT p) = 2 then d.get (Reg.AUD_CTL_SLOTS p) + 1 else 2

/-- The ports of the part whose active EN is 1. -/
def Dev.audOn (d : Dev) : List Nat := (List.range d.part.audio).filter (fun p => d.is (Reg.AUD_CTL_EN p))

/-- A route's feed: 8 × lane + LSTREAM; none when it names no lane PCM (R365, R367). -/
def routeFeed (w : Word) : Option Nat :=
  if getBits w 31 30 = 1 then some (getBits w 22 16 * 8 + getBits w 14 12) else none

/-- The feeds the routes of enabled ports name, each once (R367). -/
def Dev.feedKeys (d : Dev) : List Nat :=
  (d.audOn.flatMap (fun p => (List.range 16).filterMap (fun s => routeFeed (d.rd (Reg.AUD_ROUTE p s))))).eraseDups

/-- The ports whose routes name a feed. -/
def Dev.feedPorts (d : Dev) (k : Nat) : List Nat :=
  d.audOn.filter (fun p => (List.range 16).any (fun s => routeFeed (d.rd (Reg.AUD_ROUTE p s)) == some k))

/-- A feed carries stereo units: some route takes a channel of a stereo unit from it (R365). -/
def Dev.feedStereo (d : Dev) (k : Nat) : Bool :=
  d.audOn.any (fun p => (List.range 16).any (fun s =>
    let w := d.rd (Reg.AUD_ROUTE p s)
    routeFeed w == some k && getBits w 11 8 != 0))

/-- Words of one internal sample. -/
def Dev.feedWords (d : Dev) (k : Nat) : Nat := if d.feedStereo k then 2 else 1

/-- Little-endian words of bytes. -/
def wordsLE : List Byte → List Word
  | a :: b :: c :: e :: bs => wordOfBytes a b c e :: wordsLE bs
  | _ => []

/-- Feeds no longer named by a route are released, and GSTAT.FEEDS shows how many are in use. -/
def Dev.feedsRefresh (d : Dev) : Dev :=
  let ks := d.feedKeys
  ({ d with audio := { d.audio with feeds := d.audio.feeds.filter (fun c => ks.contains c.1) } }).set
    Reg.AUD_GSTAT_FEEDS ks.length

/-- A feed has run empty (R367): its slots ramp to zero and LANEGAP is raised on the ports it serves. -/
def Dev.feedGap (d : Dev) (k : Nat) : Dev :=
  (d.feedPorts k).foldl (fun d p => d.raise (Reg.AUD_EVT p) 6) d

/-- A released unit of lane PCM enters its feed (R367): a unit of the wrong length is dropped whole and counts as a gap;
more than 24 ms are cut back to 8 ms. -/
def Dev.feedIn (d : Dev) (lane stream : Nat) (payload : List Byte) : Dev :=
  let k := lane * 8 + stream
  if !d.feedKeys.contains k then d
  else
    let n := d.feedWords k
    if payload.length % (4 * n) ≠ 0 then d.feedGap k
    else
      let x := d.feed k
      let buf := x.buf ++ wordsLE payload
      let buf := if feedMax * n < buf.length then buf.drop (buf.length - feedMin * n) else buf
      d.setFeed k { x with buf := buf }

/-- The tone generator brought up to date (R368): `holds` entries and holds ask for it. -/
def Dev.toneSet (d : Dev) (holds : Nat) : Dev :=
  let d := { d with audio := { d.audio with toneHolds := holds } }
  let run := decide (0 < holds) || d.is Reg.AUD_TONE_C_FORCE
  if run = d.is Reg.AUD_GSTAT_TONE then d
  else
    let d := { d with audio := { d.audio with toneAt := 0, burst := run, second := false } }
    (d.set Reg.AUD_GSTAT_TONE (b2n run)).raise Reg.AUD_GEVT (if run then 2 else 3)

/-- Both directions of a port muted or unmuted in its status. -/
def Dev.audMute (d : Dev) (p : Nat) (m : Bool) : Dev :=
  (d.set (Reg.AUD_STAT_MUTED_TX p) (b2n m)).set (Reg.AUD_STAT_MUTED_RX p) (b2n m)

/-- The sequence of R369 begins: FIFOs flushed, rotation removed, both directions muted and not locked. -/
def Dev.audRestart (d : Dev) (p : Nat) : Dev :=
  let d := ((d.set (Reg.AUD_STAT_LOCK_TX p) 0).set (Reg.AUD_STAT_LOCK_RX p) 0).audMute p true
  let d := (d.set (Reg.AUD_STAT_ROTTX p) 0).set (Reg.AUD_STAT_ROTRX p) 0
  d.setAport p { phase := 1, held := d.is (Reg.AUD_CTL_MASTER p) && !d.is Reg.AUD_GSTAT_MCLKOK }

/-- A port stops (R359, R360): its balls go high-impedance. -/
def Dev.audStop (d : Dev) (p : Nat) : Dev :=
  let d := ((d.set (Reg.AUD_STAT_LOCK_TX p) 0).set (Reg.AUD_STAT_LOCK_RX p) 0).set (Reg.AUD_STAT_CLKLOST p) 0
  (d.audMute p false).setAport p {}

/-- What the apply of a port's page does, from the control word before it (R369, R371). -/
def Dev.audApplied (d : Dev) (p : Nat) (old : Word) : Dev :=
  let new := d.rd (Reg.AUD_CTL p)
  let d := d.set (Reg.AUD_STAT_RJCODE p) 0
  let mask : Word := 0x770F3CFF
  let d :=
    if bit new 31 = false then (if bit old 31 then d.audStop p else d)
    else if bit old 31 = false ∨ (old &&& mask) ≠ (new &&& mask) then d.audRestart p
    else d
  d.feedsRefresh

end Sys2Proof.Machine
end

