-- ==== Sys2Proof/Machine/FireOps.lean ====
section
/-! DEFINITION. The firewatch's operations: qualification (R270, R271), ALERT_N (R272), the alert table (R273 to R276),
alert frames (R279), pages (R281), the alert log (R283) and the relay's acceptance (R282). -/

namespace Sys2Proof.Machine

def fwEntry (d : Dev) (j : Nat) : Option FwEntry := SMap.get none d.fire.entries j
def Dev.setFwEntry (d : Dev) (j : Nat) (x : Option FwEntry) : Dev :=
  { d with fire := { d.fire with entries := SMap.put none d.fire.entries j x } }

/-- PIN, FRAME, PAGE, TONE and LOG of an action set (R270). -/
def actPin (a : Nat) : Bool := a.testBit 4
def actFrame (a : Nat) : Bool := a.testBit 3
def actPage (a : Nat) : Bool := a.testBit 2
def actTone (a : Nat) : Bool := a.testBit 1
def actLog (a : Nat) : Bool := a.testBit 0

/-- A table entry is in use; it is active. -/
def Dev.fwValid (d : Dev) (j : Nat) : Bool := d.is (Reg.FWT_ACT_W0_VALID j)
def Dev.fwActive (d : Dev) (j : Nat) : Bool := d.fwValid j && !d.is (Reg.FWT_ACT_W0_ENDED j)

/-- The valid entries with what the table keeps of them. -/
def Dev.fwList (d : Dev) : List (Nat × FwEntry) :=
  (List.range 32).filterMap (fun j => if d.fwValid j then (fwEntry d j).map (fun x => (j, x)) else none)

/-- A pin-path assertion that has not reached the table waits in a FIFO (R272). -/
def Dev.pinWaits (d : Dev) : Bool := d.fire.fifo.any (fun c => c.2.any (fun e => e.start && actPin e.acts))

/-- ALERT_N is driven low by the pin path (R271); it stays high-impedance while EN is 0 (R272). -/
def Dev.assertPin (d : Dev) : Dev :=
  if d.is Reg.FWT_CFG_EN then (d.set Reg.FWT_STAT_PIN 1).drive .alertN false else d

/-- FWT_STAT, the release of ALERT_N and the tone brought up to date (R272, R281, R284). -/
def Dev.fwRefresh (d : Dev) : Dev :=
  let xs := d.fwList
  let unacked := xs.any (fun c => c.2.pin && !d.is (Reg.FWT_ACT_W0_ACKED c.1))
  let follow := xs.any (fun c => actPin c.2.acts && d.fwActive c.1)
  let held := d.fire.pinHold || d.pinWaits || (if d.is Reg.FWT_CFG_PINMODE then follow else unacked)
  let d := d.set Reg.FWT_STAT_ACTIVE (xs.filter (fun c => d.fwActive c.1)).length
  let d := d.set Reg.FWT_STAT_UNACK (b2n (unacked || d.fire.pinHold))
  let pin := d.is Reg.FWT_STAT_PIN && d.is Reg.FWT_CFG_EN && held
  let d := (d.set Reg.FWT_STAT_PIN (b2n pin)).drive .alertN (!pin)
  d.toneSet ((xs.filter (fun c => c.2.tone && d.fwActive c.1)).length + b2n d.fire.toneHold)

/-! ## Qualification (R270) -/

/-- The lowest-numbered FWT_TAG entry that matches a tag. -/
def Dev.tagEntry (d : Dev) (tag : Nat) : Option Nat :=
  (List.range 16).find? (fun k => d.is (Reg.FWT_TAG_W0_VALID k) &&
    Nat.land tag (d.get (Reg.FWT_TAG_W0_TMASK k)) == Nat.land (d.get (Reg.FWT_TAG_W0_TAG k)) (d.get (Reg.FWT_TAG_W0_TMASK k)))

/-- An event as the tag table qualifies it: its action set, priority, key mask and NOEND. -/
def Dev.qualify (d : Dev) (e : FwEvent) : FwEvent :=
  let e := { e with time := d.devtime, at_ := d.now }
  match d.tagEntry e.tag with
  | none => { e with acts := d.get Reg.FWT_CFG_DEFACT }
  | some k => { e with
      acts := d.get (if e.peer.isSome then Reg.FWT_TAG_W1_RACT k else if e.late then Reg.FWT_TAG_W1_LACT k else Reg.FWT_TAG_W1_ACT k)
      prio := d.get (Reg.FWT_TAG_W1_PRIO k)
      keymask := BitVec.ofNat 32 (d.get (Reg.FWT_TAG_W2_KEYMASK k))
      noend := d.is (Reg.FWT_TAG_W1_NOEND k) }

/-- The lane mask passes an event; relay events are not masked (R270). -/
def Dev.laneMasked (d : Dev) (e : FwEvent) : Bool :=
  e.peer.isNone && !bit (d.rd (Reg.FWT_LMASK (e.lane / 32))) (e.lane % 32)

/-! ## The alert log (R283) -/

/-- An entry written to the alert log; its count. -/
def Dev.fwLog (d : Dev) (kind flags lane hearth role tag prio peer : Nat) (word : Word) (seq outcome entry time : Nat) :
    Nat × Dev :=
  let n := d.get Reg.FWT_LOGPTR_COUNT
  let k := n % 256
  let d := if 256 ≤ (n + 65536 - d.get Reg.FWT_LOGRD_COUNT) % 65536 then d.raise Reg.FWT_EVT 8 else d
  let ws : List Nat := [time % 2 ^ 32, time / 2 ^ 32 % 2 ^ 32,
    kind + 256 * flags + 65536 * (lane % 256) + 16777216 * (hearth % 256),
    tag % 4096 + 4096 * prio + 65536 * (peer % 65536), word.toNat, seq, outcome + 256 * entry, role % 4 * 16777216]
  let d := (ws.zipIdx).foldl (fun d w => d.wr (Reg.FWT_LOG k w.2) (BitVec.ofNat 32 w.1)) d
  (n, (d.set Reg.FWT_LOGPTR_COUNT (n + 1)).set Reg.FWT_LOGPTR_INDEX ((n + 1) % 256))

/-- A log entry's page outcome, once known (R281): 1 SENT, 2 TXLATE, 3 DROPPED, 4 ABSENT. The entry may have been overwritten, or
cleared with the log (R283; its count is then 65,536). An outcome other than SENT raises PAGEFAIL and is entered in the soot log. -/
def Dev.pageOutcome (d : Dev) (log outcome : Nat) : Dev :=
  let back := (d.get Reg.FWT_LOGPTR_COUNT + 65536 - log) % 65536
  let d :=
    if log < 65536 ∧ 1 ≤ back ∧ back ≤ 256 then
      d.wr (Reg.FWT_LOG (log % 256) 6) (putBits (d.rd (Reg.FWT_LOG (log % 256) 6)) 7 0 outcome)
    else d
  if outcome = 1 then d else (d.raise Reg.FWT_EVT 7).sootE 1 1 0xE002 outcome

/-! ## Frames and pages (R279, R281) -/

/-- The ports FWT_FRMCFG enables. -/
def Dev.alertPorts (d : Dev) : List Nat :=
  d.ports.filter (fun p => d.is (if p = 0 then Reg.FWT_FRMCFG_F0 else if p = 1 then Reg.FWT_FRMCFG_F1 else Reg.FWT_FRMCFG_HF))

/-- The next alert sequence number (R561). -/
def nextSeq (n : Nat) : Nat := if n = 2 ^ 32 - 1 then 1 else n + 1

/-- An alert frame handed to the enabled ports. -/
def Dev.sendAlert (d : Dev) (a : AlertTx) : Dev := d.alertPorts.foldl (fun d p => d.alertTo p a) d

/-- A frame event of an entry (R279): the frame is numbered and sent, its repeats planned, those of the entry's previous
event cancelled. The number of the frame. -/
def Dev.frameEvent (d : Dev) (entry : Option Nat) (a : AlertTx) : Nat × Dev :=
  let n := nextSeq d.fire.seq
  let a := { a with seq := n, rep := 0 }
  let reps := d.fire.reps.filter (fun r => entry.isNone || r.entry != entry)
  let more : List FwRep :=
    if 1 < d.get Reg.FWT_FRMCFG_REPEAT then [⟨entry, a, 1, d.now + msNs (d.get Reg.FWT_FRMCFG_REPINT)⟩] else []
  (n, ({ d with fire := { d.fire with seq := n, reps := reps ++ more } }).sendAlert a)

/-- SMK_STAT.PAGEQ brought up to date. -/
def Dev.pageq (d : Dev) : Dev := d.set Reg.SMK_STAT_PAGEQ (min 8 d.fire.pages.length)

/-- A page put at its place in the queue (R281): by priority, highest first, then by latch time, then as they arrived. -/
def pageInsert (p : SmkPage) : List SmkPage → List SmkPage
  | [] => [p]
  | q :: qs => if q.prio < p.prio ∨ (q.prio = p.prio ∧ p.latch < q.latch) then p :: q :: qs else q :: pageInsert p qs

/-- A page is queued (R281); where the queue was full, the last one is dropped. -/
def Dev.queuePage (d : Dev) (p : SmkPage) : Dev :=
  if !d.part.hasSmoke then d.pageOutcome p.log 4
  else
    let qs := pageInsert p d.fire.pages
    let d := ({ d with fire := { d.fire with pages := qs.take 8 } }).pageq
    match qs.drop 8 with
    | [] => d
    | q :: _ => d.pageOutcome q.log 3

/-- What one frame, page and log event of an alert carries. -/
structure FwAct where
  kind : Nat
  acts : Nat
  /-- LATE, UNCONF, NOSLOT in bits 0 to 2. -/
  flags : Nat
  page : Bool
  entry : Option Nat
  lane : Nat
  hearth : Nat
  role : Nat
  tag : Nat
  prio : Nat
  word : Word
  peer : Option Nat
  time : Nat
  at_ : Nat

/-- The frame, the log entry and the page of an alert event (R274, R279, R281, R283). -/
def Dev.fwAct (d : Dev) (x : FwAct) : Dev :=
  let a : AlertTx := { kind := x.kind, flags := x.flags, hearth := x.hearth, role := x.role, prio := x.prio, tag := x.tag,
                       word := x.word, lane := x.lane, rep := 0, seq := 0, time := x.time }
  let relay := x.peer.isSome
  let (seq, d) := if actFrame x.acts && !relay then d.frameEvent x.entry a else (0, d)
  let logKind := if relay && x.kind = 1 then 6 else x.kind
  let (log, d) := d.fwLog logKind (x.flags + 8 * b2n relay + 16 * b2n (!d.ball .alertN)) x.lane x.hearth x.role x.tag x.prio (x.peer.getD 0)
    x.word seq (if x.page then 5 else 0) (x.entry.getD 255) x.time
  if x.page then
    d.queuePage { prio := x.prio, latch := x.time, at_ := x.at_,
                  deadline := x.at_ + msNs (d.get Reg.FWT_PAGECFG_DEADLINE), log := log, relay := relay,
                  peer := x.peer.getD 0, alert := { a with seq := seq } }
  else d

/-! ## The alert table (R273 to R276) -/

/-- The key of an event under a mask: that of its own tag entry, or the one an entry has latched (R273, R284). -/
def FwEvent.keyUnder (e : FwEvent) (mask : Word) : Word := (e.word &&& 0x7FFFFFFF) &&& mask
def FwEvent.key (e : FwEvent) : Word := e.keyUnder e.keymask

/-- The active entry that carries an event's key. -/
def Dev.fwFind (d : Dev) (e : FwEvent) : Option Nat :=
  (List.range 32).find? (fun j => d.fwActive j &&
    d.get (Reg.FWT_ACT_W0_LANE j) == e.lane && d.get (Reg.FWT_ACT_W0_TAG j) == e.tag &&
    d.is (Reg.FWT_ACT_W0_RELAY j) == e.peer.isSome && d.get (Reg.FWT_ACT_W3_PEER j) == e.peer.getD 0 &&
    (match fwEntry d j with | some x => x.key == e.keyUnder x.keymask | none => false))

/-- The place of a new entry: the lowest free one, else the lowest that is both ENDED and acknowledged (R274, R275). -/
def Dev.fwPlace (d : Dev) : Option Nat :=
  match (List.range 32).find? (fun j => !d.fwValid j) with
  | some j => some j
  | none => (List.range 32).find? (fun j => d.is (Reg.FWT_ACT_W0_ENDED j) && d.is (Reg.FWT_ACT_W0_ACKED j))

/-- The first word of a new entry. -/
def fwWord0 (e : FwEvent) : Word :=
  BitVec.ofNat 32 (2 ^ 31 + b2n e.late * 2 ^ 28 + b2n e.peer.isSome * 2 ^ 27 + e.prio % 4 * 2 ^ 24 + e.lane % 128 * 65536
    + e.tag % 4096)

def FwEvent.act (e : FwEvent) (kind flags : Nat) (entry : Option Nat) (page : Bool) : FwAct :=
  { kind := kind, acts := e.acts, flags := flags, page := page, entry := entry,
    lane := e.lane, hearth := e.hearth, role := e.role, tag := e.tag, prio := e.prio, word := e.word, peer := e.peer,
    time := e.time, at_ := e.at_ }

/-- RELAYIN of an event that created or changed an entry. -/
def Dev.relayIn (d : Dev) (e : FwEvent) (bits : List Nat) : Dev :=
  d.raiseUnit Reg.FWT_EVT 0 (if e.peer.isSome then bits ++ [3] else bits)

/-- A start whose key is active (R274): a duplicate, or an update when its word differs, with the actions the entry has latched
(R284); UNCONF clears (R276). -/
def Dev.fwAgain (d : Dev) (e : FwEvent) (j : Nat) : Dev :=
  let x := (fwEntry d j).getD ⟨0, 0, 0, false, 0, 0, [], 0, 0, false, false⟩
  let d := d.set (Reg.FWT_ACT_W0_UNCONF j) 0
  let x := { x with
    hearths := if e.role = 3 ∨ x.hearths.contains e.hearth then x.hearths else x.hearths ++ [e.hearth]
    pin := x.pin || actPin e.acts }
  if d.rd (Reg.FWT_ACT_W1 j) = e.word then (d.setFwEntry j (some x)).incSat (Reg.FWT_ACT_W3_DUPS j) 1
  else
    let d := (d.setFwEntry j (some { x with startAt := e.at_ })).wr (Reg.FWT_ACT_W1 j) e.word
    (d.relayIn e [1]).fwAct ({ e with acts := x.acts }.act 2 (b2n e.late) (some j) (actPage x.acts))

/-- A start with a new key (R274, R275). Repeats of an entry that had the place before go on (R279). -/
def Dev.fwNew (d : Dev) (e : FwEvent) : Dev :=
  match d.fwPlace with
  | some j =>
    let x : FwEntry := { key := e.key, keymask := e.keymask, acts := e.acts, noend := e.noend, hearth := e.hearth, role := e.role,
                         hearths := [e.hearth], latch := e.time, startAt := e.at_, pin := actPin e.acts, tone := actTone e.acts }
    let d := (((d.wr (Reg.FWT_ACT_W0 j) (fwWord0 e)).wr (Reg.FWT_ACT_W1 j) e.word).wr (Reg.FWT_ACT_W2 j) (lo32 e.time)).wr
      (Reg.FWT_ACT_W3 j) (BitVec.ofNat 32 (e.peer.getD 0))
    let d := { d with fire := { d.fire with reps := d.fire.reps.map (fun (r : FwRep) => if r.entry = some j then { r with entry := none } else r) } }
    ((d.setFwEntry j (some x)).relayIn e [0]).fwAct (e.act 1 (b2n e.late) (some j) (actPage e.acts))
  | none =>
    let d := { d with fire := { d.fire with pinHold := d.fire.pinHold || actPin e.acts, toneHold := d.fire.toneHold || actTone e.acts } }
    (d.raiseUnit Reg.FWT_EVT 0 [5, 0]).fwAct (e.act 1 (b2n e.late + 4) none (actPage e.acts))

/-- An end (R274): the actions are those the entry has latched (R284). -/
def Dev.fwEnd (d : Dev) (e : FwEvent) : Dev :=
  match d.fwFind e with
  | some j =>
    let flags := b2n e.late + 2 * d.get (Reg.FWT_ACT_W0_UNCONF j)
    let d := d.set (Reg.FWT_ACT_W0_ENDED j) 1
    let acts := match fwEntry d j with | some x => x.acts | none => e.acts
    (d.relayIn e [2]).fwAct ({ e with acts := acts }.act 3 flags (some j) (actPage acts && d.is Reg.FWT_PAGECFG_ENDPAGE))
  | none =>
    let d := d.incSat Reg.FWT_STAT_MASKED 1
    if actLog e.acts then
      (d.fwLog 8 (b2n e.late + 8 * b2n e.peer.isSome + 16 * b2n (!d.ball .alertN)) e.lane e.hearth e.role e.tag e.prio (e.peer.getD 0) e.word 0 0 255 e.time).2
    else d

/-- The table handles one qualified event (R274). -/
def Dev.fwTable (d : Dev) (e : FwEvent) : Dev :=
  (if e.start then
    match d.fwFind e with
    | some j => d.fwAgain e j
    | none => d.fwNew e
   else d.fwEnd e).fwRefresh

/-- An entry's own event: EXPIRE 4 or CLEARED 5 (R274, R279), from what the table holds. -/
def Dev.fwOwn (d : Dev) (j kind : Nat) : Dev :=
  match fwEntry d j with
  | none => d
  | some x =>
    let w := d.rd (Reg.FWT_ACT_W0 j)
    d.fwAct { kind := kind, acts := x.acts, flags := getBits w 28 28 + 2 * getBits w 26 26, page := false,
              entry := some j, lane := getBits w 22 16, hearth := x.hearth, role := x.role, tag := getBits w 11 0,
              prio := getBits w 25 24, word := d.rd (Reg.FWT_ACT_W1 j),
              peer := if bit w 27 then some (d.get (Reg.FWT_ACT_W3_PEER j)) else none, time := x.latch, at_ := d.now }

/-- A NOEND entry whose HOLD has passed ends with kind EXPIRE (R274). -/
def Dev.fwExpire (d : Dev) (j : Nat) : Dev :=
  match fwEntry d j with
  | some x =>
    if d.fwActive j ∧ x.noend ∧ x.startAt + d.get Reg.FWT_CFG_HOLD * 1000000000 ≤ d.now then
      (((d.set (Reg.FWT_ACT_W0_ENDED j) 1).fwOwn j 4).raise Reg.FWT_EVT 2).fwRefresh
    else d
  | none => d

/-- An entry removed by the host (R274). -/
def Dev.fwClear (d : Dev) (j : Nat) : Dev :=
  if !d.fwValid j then d
  else
    let d := (d.fwOwn j 5).raise Reg.FWT_EVT 2
    (((d.wr (Reg.FWT_ACT_W0 j) 0).wr (Reg.FWT_ACT_W1 j) 0).wr (Reg.FWT_ACT_W2 j) 0).wr (Reg.FWT_ACT_W3 j) 0 |>.setFwEntry j none

/-- A hearth is declared failed (R276): its reports since FAULT_T that no other hearth confirmed become UNCONF. -/
def Dev.fwHearthFailed (d : Dev) (h faultT : Nat) : Dev :=
  d.fwList.foldl (fun d c =>
    if d.fwActive c.1 && c.2.hearth == h && c.2.role != 3 && decide (faultT ≤ c.2.latch) && c.2.hearths.all (· == h) then
      d.set (Reg.FWT_ACT_W0_UNCONF c.1) 1
    else d) d

/-- A lane's MSTATE returns to IDLE (R276): entries still UNCONF raise UNCONFIRMED and are logged. -/
def Dev.fwLaneIdle (d : Dev) (lane : Nat) : Dev :=
  d.fwList.foldl (fun d c =>
    if d.is (Reg.FWT_ACT_W0_UNCONF c.1) && d.get (Reg.FWT_ACT_W0_LANE c.1) == lane && !d.is (Reg.FWT_ACT_W0_RELAY c.1) then
      let w := d.rd (Reg.FWT_ACT_W0 c.1)
      ((d.fwLog 7 (getBits w 28 28 + 2 + 16 * b2n (!d.ball .alertN)) lane c.2.hearth c.2.role (getBits w 11 0) (getBits w 25 24) 0
        (d.rd (Reg.FWT_ACT_W1 c.1)) 0 0 c.1 c.2.latch).2).raise Reg.FWT_EVT 4
    else d) d

/-- An event leaves its source for the firewatch (R225, R269, R282). -/
def Dev.fwSend (d : Dev) (e : FwEvent) : Dev := { d with fire := { d.fire with flight := d.fire.flight ++ [e] } }

/-- An event of host tripwire `t` on a lane, with its tag (R269). -/
def Dev.tripEvent (d : Dev) (t lane : Nat) (word : Word) (late : Bool) (tag : Nat) : Dev :=
  d.fwSend { input := 200 + t, lane := lane, hearth := 0, role := 3, tag := tag, word := word, start := bit word 31,
             late := late, peer := none }

end Sys2Proof.Machine
end

