-- ==== Sys2Proof/Machine/LaneOps.lean ====
section
/-! DEFINITION. What lanes and hearths are made of: hearth states and SYS_MARGIN (R36, R153), oven demand (R161), TI pages
and sets (R304 to R309), backlogs (R165, R166), draw lines (R19, R169, R311 to R313) and the images of the program store
as a lane reads them (R243, R244). -/

namespace Sys2Proof.Machine

def Dev.hearth (d : Dev) (h : Nat) : Hearth := SMap.get {} d.hearths h
def Dev.setHearth (d : Dev) (h : Nat) (x : Hearth) : Dev := { d with hearths := SMap.put {} d.hearths h x }
def Dev.lane (d : Dev) (n : Nat) : Lane := SMap.get {} d.lanes n
def Dev.setLane (d : Dev) (n : Nat) (x : Lane) : Dev := { d with lanes := SMap.put {} d.lanes n x }

/-! ## Hearth states (R153) -/

/-- HST_n_STAT.STATE; 0 on an absent hearth. -/
def Dev.hstate (d : Dev) (h : Nat) : Nat := if h < d.part.hearths then d.get (Reg.HST_STAT_STATE h) else 0

def stUntested : Nat := 1
def stFree : Nat := 2
def stPrimary : Nat := 3
def stShadow : Nat := 4
def stJoining : Nat := 5
def stTesting : Nat := 6
def stIsolated : Nat := 7
def stRetired : Nat := 8

/-- The hearths in a state, lowest number first. -/
def Dev.hearthsIn (d : Dev) (st : Nat) : List Nat := (List.range d.part.hearths).filter (fun h => d.hstate h == st)

/-- Start-up BIST is still to come or runs on some hearth (R154, R155). -/
def Dev.awaitsTest (d : Dev) : Bool :=
  (List.range d.part.hearths).any (fun h => d.hstate h == stUntested || (d.hstate h == stTesting && (d.hearth h).testKind == 1))

/-- The mantel runs full firmware (R22, R36). -/
def Dev.migr (d : Dev) : Bool := d.is Reg.SYS_MARGIN_MIGR

/-- The lanes whose active EN is 1. -/
def Dev.lanesOn (d : Dev) : List Nat := (List.range d.part.lanes).filter (fun n => d.is (Reg.LANE_CTL_EN n))

/-- The bound hearth, the shadow (LANE_BIND). -/
def Dev.bound (d : Dev) (n : Nat) : Option Nat :=
  if d.is (Reg.LANE_BIND_HVALID n) then some (d.get (Reg.LANE_BIND_HEARTH n)) else none
def Dev.shadowOf (d : Dev) (n : Nat) : Option Nat :=
  if d.is (Reg.LANE_BIND_SVALID n) then some (d.get (Reg.LANE_BIND_SHADOW n)) else none

/-- The lane a hearth serves. -/
def Dev.laneOf (d : Dev) (h : Nat) : Option Nat :=
  if d.is (Reg.HST_STAT_LANEV h) then some (d.get (Reg.HST_STAT_LANE h)) else none

/-! ## Ovens and margin (R36, R157, R161) -/

/-- An oven is in service: not retired, and no retired one under test (R36 counts ovens under test). -/
def Dev.ovenIn (d : Dev) (k : Nat) : Bool :=
  let s := d.get (Reg.OVN_OSTAT_STATE k)
  s == 1 || s == 3 || (s == 2 && SMap.find? k d.pool.testing != some 4)
def Dev.ldpcOk (d : Dev) : Nat := ((List.range 16).filter d.ovenIn).length
def Dev.trellisOk (d : Dev) : Nat := ((List.range 8).filter (fun k => d.ovenIn (16 + k))).length

/-- Declared demand of a kind (R161): a guarded lane counts twice. -/
def Dev.demand (d : Dev) (trellis : Bool) : Nat :=
  (d.lanesOn.map (fun n => (if d.is (Reg.LANE_CTL_GUARD n) then 2 else 1) *
    d.get (if trellis then Reg.LANE_OVDEM_TRELLIS n else Reg.LANE_OVDEM_LDPC n))).foldl (· + ·) 0

/-- Ovens of a kind cover a demand with the margin of 1.2 (R161). -/
def covers (ovens rating demand : Nat) : Bool := decide (12 * demand ≤ 10 * (ovens * rating))

/-- Capture cores not failed, one that is being replaced counted until its replacement settles (R36, R116); a calibrated standby is
ready (R36, R105). -/
def Dev.coresOk (d : Dev) : Nat :=
  ((List.range 3).filter (fun c => d.get (Reg.CAP_CC_STAT_STATE c) != 5 || d.cap.replacing.any (fun r => r.failed == c))).length
def Dev.capCore (d : Dev) (c : Nat) : CapCore := SMap.get {} d.cap.cores c
def Dev.setCapCore (d : Dev) (c : Nat) (x : CapCore) : Dev :=
  { d with cap := { d.cap with cores := SMap.put {} d.cap.cores c x } }
def Dev.standbyCore (d : Dev) : Option Nat :=
  let c := d.get Reg.CAP_ROLE_CORE_SB
  if c < 3 ∧ d.get (Reg.CAP_CC_STAT_STATE c) ≠ 5 ∧ (d.capCore c).calibrated then some c else none

/-- SYS_MARGIN.SPARES: FREE hearths, the hearth under rolling self-test and shadows of guarded lanes (R36). -/
def Dev.spares (d : Dev) : Nat :=
  (d.hearthsIn stFree).length
    + ((d.hearthsIn stTesting).filter (fun h => (d.hearth h).testKind == 2)).length
    + ((List.range d.part.lanes).filter (fun n => d.is (Reg.LANE_BIND_SVALID n))).length

/-- SYS_MARGIN, OVN_DEMAND and OVN_CAPACITY brought up to date, with the events of a change: DEMANDHIGH when the demand of a kind
is no longer covered (R36, R161, R190). -/
def Dev.refreshMargin (d : Dev) : Dev :=
  let dl := d.demand false
  let dt := d.demand true
  let ol := d.ldpcOk
  let ot := d.trellisOk
  let wasL := covers (getBits (d.rd Reg.OVN_CAPACITY) 31 16) 1 (getBits (d.rd Reg.OVN_DEMAND) 31 16)
  let wasT := covers (getBits (d.rd Reg.OVN_CAPACITY) 15 0) 1 (getBits (d.rd Reg.OVN_DEMAND) 15 0)
  let high := (wasL && !covers ol 800 dl) || (wasT && !covers ot 250 dt)
  let d := d.wr Reg.OVN_DEMAND (BitVec.ofNat 32 (min dl 65535 * 65536 + min dt 65535))
  let d := d.wr Reg.OVN_CAPACITY (BitVec.ofNat 32 (ol * 800 * 65536 + ot * 250))
  let d := if high then d.raise Reg.OVN_EVT 3 else d
  let was := d.is Reg.SYS_MARGIN_INTACT
  let sb := d.standbyCore.isSome
  let intact := d.migr && sb && decide (1 ≤ d.spares) && covers (ol - 1) 800 dl && covers (ot - 1) 250 dt
  let w := d.rd Reg.SYS_MARGIN
  let w := putBits (putBits w 31 24 d.spares) 15 11 ol
  let w := putBits (putBits (putBits (putBits w 10 6 ot) 5 4 d.coresOk) 3 3 (b2n sb)) 0 0 (b2n intact)
  let sbWas := d.is Reg.SYS_MARGIN_STANDBY
  let d := d.wr Reg.SYS_MARGIN w
  let d := if sbWas = sb then d else d.raise Reg.CAP_EVT 5
  if was ∧ !intact then d.raise Reg.HMG_EVT 2 else d

/-- A hearth put into a state, with the lane it serves; SYS_MARGIN follows. -/
def Dev.setHstate (d : Dev) (h st : Nat) (lane : Option Nat) : Dev :=
  let w := putBits (d.rd (Reg.HST_STAT h)) 31 28 st
  let w := putBits (putBits w 22 16 (lane.getD 0)) 15 15 (b2n lane.isSome)
  (d.wr (Reg.HST_STAT h) w).refreshMargin

/-! ## The program store as a lane reads it (R243, R244) -/

/-- A byte of the store as a load reads it: undefined in a slot that is being erased (R242). -/
def Dev.storeByte (d : Dev) (a : Nat) : Byte :=
  if d.store.erasing.contains (a / 0x8000) then Config.erasedByte d.free a else Memory.read d.store.mem a

/-- A byte of an image from the first byte of its first slot. -/
def Dev.imgByte (d : Dev) (slot off : Nat) : Nat := (d.storeByte (slot * 0x8000 + off)).toNat
def Dev.img16 (d : Dev) (slot off : Nat) : Nat := d.imgByte slot off + 256 * d.imgByte slot (off + 1)
def Dev.img32 (d : Dev) (slot off : Nat) : Nat := d.img16 slot off + 65536 * d.img16 slot (off + 2)

/-- Slot states (R239). -/
def Dev.slotState (d : Dev) (k : Nat) : Nat := d.get (Reg.PST_SLOT_STATE k)

/-- Descriptor fields (R244). -/
def Dev.imgStd (d : Dev) (s : Nat) : Nat := d.imgByte s 0x30
def Dev.imgXfade (d : Dev) (s : Nat) : Bool := d.imgByte s 0x31 == 1
def Dev.imgBklog (d : Dev) (s : Nat) : Nat := d.img16 s 0x38
def Dev.imgTiNeed (d : Dev) (s : Nat) : Nat := d.img32 s 0x40

/-- PST_SLOT's LANES and PIN brought up to date (R242). -/
def Dev.refreshSlot (d : Dev) (k : Nat) : Dev :=
  let users := (d.lanesOn.filter (fun n => d.get (Reg.LANE_PROG_ACTIVE n) == k)).length
  let pinned := decide (0 < users) || d.store.pins.any (fun c => c.2 == some k)
  let d := d.set (Reg.PST_SLOT_LANES k) users
  d.set (Reg.PST_SLOT_PIN k) (b2n pinned)

/-- All slots brought up to date. -/
def Dev.refreshSlots (d : Dev) : Dev := (List.range 64).foldl (fun d k => d.refreshSlot k) d

/-! ## The ashpit's regions, pages and blocks (R304 to R311) -/

def Dev.ready (d : Dev) : Bool := d.is Reg.ASH_STAT_READY
def mib : Nat := 1048576
def Dev.rgnBase (d : Dev) (k : Nat) : Nat := d.get (Reg.ASH_RGN_BASE k) * mib
def Dev.rgnSize (d : Dev) (k : Nat) : Nat := d.get (Reg.ASH_RGN_SIZE k) * mib

/-- Pages of the TI region: a MiB holds four (R306). -/
def Dev.tiPages (d : Dev) : Nat := d.get (Reg.ASH_RGN_SIZE 0) * 4

def Dev.setMem (d : Dev) (i : Nat) : Option SetMem := SMap.get none d.ash.sets i
def Dev.putSet (d : Dev) (i : Nat) (s : Option SetMem) : Dev :=
  { d with ash := { d.ash with sets := SMap.put none d.ash.sets i s } }

/-- Sets and pages of a lane. -/
def Dev.laneSets (d : Dev) (n : Nat) : List SetMem := (d.ash.sets.filterMap (·.2)).filter (fun s => s.lane == n)
def Dev.laneTi (d : Dev) (n : Nat) : Nat := (d.lane n).bkPages + ((d.laneSets n).map (·.pages)).foldl (· + ·) 0
def Dev.tiUsed (d : Dev) : Nat :=
  (d.lanes.map (fun c => c.2.bkPages)).foldl (· + ·) 0 + ((d.ash.sets.filterMap (·.2)).map (·.pages)).foldl (· + ·) 0

/-- Record bytes a DRAW block takes (R311). -/
def blockRoom : Nat := 65472

/-- Blocks of a line from its byte counters: every block that holds an unreleased byte (R311). -/
def lineBlocks (head tail : Nat) : Nat := if tail ≤ head then 0 else (tail - 1) / blockRoom + 1 - head / blockRoom
def Lane.blocks (x : Lane) : Nat := lineBlocks x.mainHead x.mainTail + lineBlocks x.shHead x.shTail
def Dev.drawUsed (d : Dev) : Nat := (d.lanes.map (fun c => c.2.blocks)).foldl (· + ·) 0
def Dev.drawTotal (d : Dev) : Nat := d.get (Reg.ASH_RGN_SIZE 1) * 16
def Dev.drawFree (d : Dev) : Nat := d.drawTotal - d.drawUsed

/-- ASH_TIFREE, ASH_DRAWFREE and a lane's ASH_LUSE brought up to date. -/
def Dev.refreshAsh (d : Dev) (n : Nat) : Dev :=
  let d := d.set Reg.ASH_TIFREE_FREE (min 65535 (d.tiPages - d.tiUsed))
  let d := d.set Reg.ASH_DRAWFREE_FREE (min 65535 d.drawFree)
  d.wr (Reg.ASH_LUSE n) (BitVec.ofNat 32
    ((d.laneSets n).length % 4 * 2 ^ 30 + d.laneTi n % 4096 * 4096 + min 0xFFF (d.lane n).blocks))

/-- An allocation failed (R309): recorded and raised. -/
def Dev.allocFail (d : Dev) (kind n need : Nat) : Dev :=
  (d.wr Reg.ASH_AFAIL (BitVec.ofNat 32 (kind * 2 ^ 30 + n * 2 ^ 23 + min need 4095))).raise Reg.ASH_EVT 4

/-- Pages of a set (R306). -/
def setPages (tiNeed : Nat) : Nat := (64 + tiNeed + 255) / 256

/-- Pages of a backlog of `ms` at decimation `dlog` (R306): the samples' 2.75 bytes, in units that keep it exact. -/
def bkPagesFor (ms dlog : Nat) : Nat := (ms * 25000 * 11 + 4 * 2 ^ dlog * 262144 - 1) / (4 * 2 ^ dlog * 262144)

/-- A new set for a hearth of a lane (R306, R308): its number, none when too few pages are free. -/
def Dev.newSet (d : Dev) (n tiNeed : Nat) : Option (Nat × Dev) :=
  let need := setPages tiNeed
  if d.tiUsed + need ≤ d.tiPages then
    let i := d.ash.nextSet
    let d := { d with ash := { d.ash with nextSet := i + 1 } }
    some (i, (d.putSet i (some ⟨n, need, tiNeed, [], none, none, none⟩)).refreshAsh n)
  else none

/-- A set goes back to the pool. -/
def Dev.freeSet (d : Dev) (i : Nat) : Dev :=
  match d.setMem i with
  | some s => (d.putSet i none).refreshAsh s.lane
  | none => d

/-- The hearth's set goes back to the pool. -/
def Dev.freeHearthSet (d : Dev) (h : Nat) : Dev :=
  match (d.hearth h).set with
  | some i => (d.setHearth h { d.hearth h with set := none }).freeSet i
  | none => d

/-- LANE_CKPT and LANE_CKSAMP show the valid checkpoint of the primary's set (R308); COUNT is kept. -/
def SetMem.slot (s : SetMem) (k : Nat) : Option CkSlot := if k = 0 then s.slot0 else s.slot1
def Dev.showCkpt (d : Dev) (n : Nat) : Dev :=
  let v := (d.bound n).bind (fun h => (d.hearth h).set.bind (fun i => (d.setMem i).bind (fun s =>
    s.valid.bind (fun k => (s.slot k).map (fun c => (k, c.sample))))))
  match v with
  | some (k, m) => ((d.set (Reg.LANE_CKPT_VALID n) 1).set (Reg.LANE_CKPT_SLOT n) k).wr64 (Reg.LANE_CKSAMP_LO n) (Reg.LANE_CKSAMP_HI n) m
  | none => d.set (Reg.LANE_CKPT_VALID n) 0

/-! ## The grate chain of a lane, as others need it (R134 to R139) -/

def Dev.dlog (d : Dev) (n : Nat) : Nat := d.get (Reg.GRT_LCFG_DLOG (n / 8) (n % 8))

/-- Converter sample periods in one lane sample (R139). -/
def Dev.grid (d : Dev) (n : Nat) : Nat := 128 * 2 ^ d.dlog n

/-! ## Backlogs (R165, R166, R310) -/

/-- A value over 2^e, to the nearest mantissa; one midway between two goes up (R166 does not say which: log 110). -/
def roundDiv (v : Int) (e : Nat) : Int := if e = 0 then v else (v + 2 ^ (e - 1)) / 2 ^ e
def fits10 (v : Int) : Bool := decide (-512 ≤ v) && decide (v ≤ 511)

/-- The exponent of a backlog block: the smallest at which every value's rounded mantissa fits ten bits, at most 6 (R166; that the
rounded mantissas decide, and what becomes of one beyond them at 6, is log 110). -/
def blockExp (vs : List Int) : Nat :=
  ((List.range 7).find? (fun e => vs.all (fun v => fits10 (roundDiv v e)))).getD 6

/-- Values packed as ten-bit mantissas, little-endian. -/
def pack10 (vs : List Int) : Nat := (vs.reverse).foldl (fun n v => n * 1024 + ofSigned 10 v) 0

/-- A backlog block of 16 samples (R166): 44 bytes. -/
def encodeBlock (ss : List Sample) : BkBlock :=
  let vs := ss.flatMap (fun s => [toSigned 16 s.i.toNat, toSigned 16 s.q.toNat])
  let e := blockExp vs
  let marks := (ss.zipIdx.map (fun p => b2n p.1.mark * 2 ^ p.2)).foldl (· + ·) 0
  { first := (ss.head?.map (·.m)).getD 0
    bytes := leBytes 40 (pack10 (vs.map (fun v => clampI (-512) 511 (roundDiv v e)))) ++ [BitVec.ofNat 8 e, 0] ++ leBytes 2 marks
    times := ss.map (·.t), lost := false }

/-- Sample `k` of a block as a replay delivers it (R166, R310): a lost block's samples are erasures. -/
def decodeSample (b : BkBlock) (k : Nat) : Sample :=
  let m := leNat (b.bytes.take 40)
  let e := ((b.bytes.drop 40).headD 0).toNat % 16
  let f := fun (j : Nat) => toSigned 10 (m / 1024 ^ j % 1024) * 2 ^ e
  let marks := leNat (b.bytes.drop 42)
  if b.lost then ⟨b.first + k, 0, 0, true, b.times.getD k 0⟩
  else ⟨b.first + k, BitVec.ofInt 16 (f (2 * k)), BitVec.ofInt 16 (f (2 * k + 1)), marks.testBit k, b.times.getD k 0⟩

/-- The live write point: the number of the next sample the backlog will hold in the ashpit. -/
def Lane.bkNext (x : Lane) : Nat := match x.bk.getLast? with
  | some b => b.first + b.times.length
  | none => 0

/-- A sample of the backlog by its number. -/
def Lane.bkSample (x : Lane) (m : Nat) : Option Sample :=
  (x.bk.find? (fun b => decide (b.first ≤ m) && decide (m < b.first + b.times.length))).map (fun b => decodeSample b (m - b.first))

/-- The backlog holds a sample number. -/
def Lane.bkHolds (x : Lane) (m : Nat) : Bool := match x.bk.head? with
  | some b => decide (b.first ≤ m)
  | none => false

/-- DEVTIME at which a lane sample reached the hob input: from the backlog or the live record; its number's grid time
otherwise. -/
def Lane.sampleTime (x : Lane) (m : Nat) : Option Nat := (x.bkSample m).map (·.t)

/-- The first lane sample that arrived at the hob input at or after a DEVTIME, in the ashpit or still in the cluster port: the
FAULT_T of a hearth as a lane sample number (R170). -/
def Lane.sampleAt (x : Lane) (t : Nat) : Nat :=
  let ss := (x.bk ++ x.bkBuf).flatMap (fun b => b.times.zipIdx.map (fun p => (b.first + p.2, p.1))) ++ x.cur.map (fun s => (s.m, s.t))
  match ss.find? (fun s => decide (t ≤ s.2)) with
  | some s => s.1
  | none => x.next

/-- A DEVTIME at the balls as a number of a lane's samples: the first of the lane's grid at or after it (R139, R177). -/
def Dev.ballSample (d : Dev) (n t : Nat) : Nat :=
  (d.scount - (d.devtime - t) * 16 / 5 + d.grid n - 1) / d.grid n

/-! ## Draw lines (R19, R32, R169 to R172, R311 to R313) -/

/-- Bytes of a unit's record (R311). -/
def recBytes (len : Nat) : Nat := 32 + (len + 31) / 32 * 32
def DUnit.pair (u : DUnit) : Nat := u.key * 65536 + u.index
def DUnit.size (u : DUnit) : Nat := recBytes u.payload.length

/-- What a damper gets of a unit. -/
def DUnit.toQ (u : DUnit) (lane : Nat) (now : Nat) : QUnit :=
  { kind := 0, lane := lane, stream := u.stream, err := u.err, key := u.key, index := u.index, time := u.ref,
    rel := u.release, enq := now, first := false, payload := u.payload }

/-- DRAWLOW is raised when the free blocks fall below LOWWATER (R313). -/
def Dev.drawLow (d : Dev) (before : Nat) : Dev :=
  let lw := d.get Reg.ASH_DRAWCFG_LOWWATER
  if lw ≤ before ∧ d.drawFree < lw then d.raise Reg.ASH_EVT 5 else d

/-- An append needs a new block and none is free (R311, R313). -/
def Dev.drawRoom (d : Dev) (head tail size : Nat) : Bool :=
  decide (lineBlocks head (tail + size) ≤ lineBlocks head tail + d.drawFree)

/-- Does a unit carry lane PCM to feeds: FM and AM deliver it on stream 0; the feed decides by its route. A unit appended
to the main line (R169, R311): its reference time corrected where its release has passed (R19), DRAWFULL where no block
is free (R313). -/
def Dev.appendMain (d : Dev) (n : Nat) (u : DUnit) : Dev :=
  let x := d.lane n
  let delay := d.get (Reg.LANE_DRAW_ACTIVE n) * 1000000
  let ref := u.ref + x.corr
  let late := decide (ref + delay < d.devtime)
  let corr := if late then x.corr + (d.devtime - ref) else x.corr
  let ref := if late then d.devtime else ref
  let u := { u with ref := ref, release := ref + delay, app := d.now }
  if !d.drawRoom x.mainHead x.mainTail u.size then
    let d := d.setLane n { x with corr := corr, appended := some u.pair }
    ((d.lossAll n (some u.stream) 3).raise Reg.ASH_EVT 6).sootE 2 7 0x6004 (n * 65536)
  else
    let before := d.drawFree
    let d := d.setLane n { x with main := x.main ++ [u], mainTail := x.mainTail + u.size, corr := corr, appended := some u.pair }
    (d.drawLow before).refreshAsh n

/-- A unit appended to the shadow line (R181): not stored where its release time has passed; the correction of R19 never
applies to it. -/
def Dev.appendShadow (d : Dev) (n : Nat) (u : DUnit) : Dev :=
  let x := d.lane n
  let delay := d.get (Reg.LANE_DRAW_ACTIVE n) * 1000000
  let u := { u with release := u.ref + delay, app := d.now }
  if u.release ≤ d.devtime then d
  else if !d.drawRoom x.shHead x.shTail u.size then (d.raise Reg.ASH_EVT 6).sootE 2 7 0x6004 (n * 65536)
  else
    let before := d.drawFree
    let d := d.setLane n { x with shadow := x.shadow ++ [u], shTail := x.shTail + u.size }
    (d.drawLow before).refreshAsh n

/-- A unit of each line with the same key and index compared (R181): a mismatch counts in LANE_DIVERGE and raises DIVERGE
at most once a second. -/
def Dev.compare (d : Dev) (n : Nat) (u : DUnit) (other : List DUnit) : Dev :=
  match other.find? (fun v => v.pair == u.pair) with
  | none => d
  | some v =>
    if v.crc = u.crc then d
    else
      let d := d.incWordSat (Reg.LANE_DIVERGE n) 1
      let x := d.lane n
      if x.diverge = 0 ∨ x.diverge - 1 + 1000000000 ≤ d.now then
        (d.setLane n { x with diverge := d.now + 1 }).raise (Reg.LANE_STAT n) 9
      else d

/-- Units of the main line that satisfy a test are discarded, their bytes with them. -/
def Dev.discardMain (d : Dev) (n : Nat) (q : DUnit → Bool) : Dev :=
  let x := d.lane n
  let gone := ((x.main.filter q).map DUnit.size).foldl (· + ·) 0
  let keep := x.main.filter (fun u => !q u)
  (d.setLane n { x with main := keep, mainTail := x.mainTail - gone,
                        mainHead := if keep.isEmpty then x.mainTail - gone else x.mainHead }).refreshAsh n

/-- A unit that does not leave as it stands: one marked for replacement (R170), and while output is paused one after the last
complete frame (R32), even once it has been reproduced: it leaves with the resumed output. -/
def Lane.awaits (x : Lane) (u : DUnit) : Bool :=
  u.marked || (x.paused && (match x.holdKey with
    | some k => decide (k < u.key)
    | none => true))

/-- A unit that does not leave and has not been reproduced: it is discarded with the marked ones (R32). -/
def Lane.heldBack (x : Lane) (u : DUnit) : Bool := x.awaits u && (u.marked || !u.replaced)

/-- Bytes released from the head of the main line. -/
def Lane.released_ (x : Lane) (u : DUnit) : Lane :=
  let rest := x.main.drop 1
  { x with main := rest, mainHead := x.mainHead + u.size, released := some u.pair }

end Sys2Proof.Machine
end

