-- ==== Sys2Proof/Machine/ChimneyOps.lean ====
section
/-! DEFINITION. The chimney's links (R286 to R292): classes, credits, reservations, the choice of the next flit at an output, and a
message's way from its source's hub over the switch to its destination. -/

namespace Sys2Proof

/-- The class of a transfer: REQ 0, RSP 1, STREAM 2, CTRL 3 (R287). -/
def Transfer.cls : Transfer → Nat
  | .ashRead | .ashWrite | .ovenDesc | .ovenResult | .joinWrite => 0
  | .reply => 1
  | .laneSample | .backlogWrite | .flputUnit | .drawReadout | .snapRecord => 2
  | .regRead | .regWrite | .commitBroadcast | .mantelCommand | .msix => 3

/-- A transfer needs a reply: ashpit reads and writes, writes of join copies, register reads (R287). -/
def Transfer.needsReply : Transfer → Bool
  | .ashRead | .ashWrite | .joinWrite | .regRead => true
  | _ => false

/-- Flits of a message: a header, and up to two data flits (R288). -/
def LinkMsg.flits (m : LinkMsg) : Nat := 1 + min m.data 2

/-- The input an output takes a message from: the member of the source's hub, or the source port at the switch (R291). -/
def LinkMsg.input (m : LinkMsg) (up : Bool) : Nat := if up then m.member else m.src

/-- Replies a requester may have room reserved for. -/
def Requester.limit : Requester → Nat
  | .ash _ _ => 1
  | .reg _ => 4
  | .oven _ => 16
  | .host => 32
  | .mantel => 16
  | .join => 32

end Sys2Proof

namespace Sys2Proof.Machine

/-- Ports of the part: CP0 to CP12, then SP (R286). -/
def Part.hasPort (p : Part) (port : Nat) : Bool := decide (port < 14) && (port == 13 || decide (8 * port < p.hearths))

/-- Flits a receiver holds of a class (R289). -/
def linkRoom (cls : Nat) : Nat := match cls with
  | 0 => 16
  | 1 => 16
  | 2 => 32
  | _ => 8

/-- Flits a class may send in a round (R291). -/
def linkWeight (cls : Nat) : Nat := match cls with
  | 0 => 4
  | 1 => 4
  | 2 => 8
  | _ => 1

/-- The order in which an output looks at the classes (R291). -/
def linkOrder : List Nat := [3, 1, 0, 2]

/-- The number of a link direction of a port: towards the switch or from it; and of one class of it. -/
def linkNo (port : Nat) (up : Bool) : Nat := port * 2 + b2n up
def linkKey (port : Nat) (up : Bool) (cls : Nat) : Nat := linkNo port up * 4 + cls % 4

/-- Credits of a class left at a link direction (R289). -/
def Dev.linkFree (d : Dev) (port : Nat) (up : Bool) (cls : Nat) : Nat := linkRoom cls - SMap.get 0 d.chimney.used (linkKey port up cls)

/-- A message that waits at an output, with the flits it has still to send and whether its first has gone. -/
abbrev LinkWait := LinkMsg × Nat × Bool

/-- The message of a class that sends next (R291): one that has begun; else the first of the input that follows the one served last. -/
def nextMsg (up : Bool) (last : Nat) (q : List LinkWait) : Option LinkWait :=
  match q.find? (fun w => w.2.2) with
  | some w => some w
  | none =>
    let dist := fun (w : LinkWait) => (w.1.input up + 64 - last) % 64
    q.foldl (fun b w => match b with
      | none => some w
      | some c => if dist w < dist c then some w else some c) none

/-- A message put back with one flit less, or taken out, in its place. -/
def setWait (w : LinkWait) (new : Option LinkWait) : List LinkWait → List LinkWait
  | [] => []
  | v :: q => if v = w then (match new with | some n => n :: q | none => q) else v :: setWait w new q

/-- The classes of an output that have a flit ready and a credit (R291). -/
def Dev.readyClasses (d : Dev) (port : Nat) (up : Bool) : List Nat :=
  let q := SMap.get [] d.chimney.queues (linkNo port up)
  linkOrder.filter (fun c => q.any (fun w => w.1.kind.cls == c) && decide (0 < d.linkFree port up c))

/-- One flit of a class crosses (R289, R291): a credit and a place of the round are spent. The message, once its last flit is over. -/
def Dev.sendFlit (d : Dev) (port : Nat) (up : Bool) (c : Nat) : Option LinkMsg × Dev :=
  let l := linkNo port up
  let k := linkKey port up c
  let x := d.chimney
  let q := SMap.get [] x.queues l
  match nextMsg up (SMap.get 0 x.lastIn k) (q.filter (fun w => w.1.kind.cls == c)) with
  | none => (none, d)
  | some w =>
    let done := decide (w.2.1 ≤ 1)
    let x := { x with
      used := SMap.put 0 x.used k (SMap.get 0 x.used k + 1)
      quota := SMap.put 0 x.quota k (SMap.get 0 x.quota k - 1)
      queues := SMap.put [] x.queues l (setWait w (if done then none else some (w.1, w.2.1 - 1, true)) q)
      lastIn := if done then SMap.put 0 x.lastIn k (w.1.input up + 1) else x.lastIn }
    (if done then some w.1 else none, { d with chimney := x })

/-- A new round of an output: every class has its weight again. -/
def Dev.newRound (d : Dev) (port : Nat) (up : Bool) : Dev :=
  { d with chimney := { d.chimney with
    quota := (List.range 4).foldl (fun m c => SMap.put 0 m (linkKey port up c) (linkWeight c)) d.chimney.quota } }

/-- Flits are chosen and sent until a whole message has crossed, or none has a credit (R291). -/
def Dev.runLink (d : Dev) (port : Nat) (up : Bool) : Nat → Option LinkMsg × Dev
  | 0 => (none, d)
  | fuel + 1 =>
    match d.readyClasses port up with
    | [] => (none, d)
    | c :: cs =>
      let left := fun (c : Nat) => decide (0 < SMap.get 0 d.chimney.quota (linkKey port up c))
      let r := match (c :: cs).find? left with
        | some k => d.sendFlit port up k
        | none => (d.newRound port up).sendFlit port up c
      match r.1 with
      | some m => (some m, r.2)
      | none => r.2.runLink port up fuel

/-! ## Reservations (R290) -/

/-- A message may leave: it needs no reply, or room for its reply can be reserved. -/
def Dev.mayReserve (d : Dev) (m : LinkMsg) : Bool :=
  !m.kind.needsReply || (match m.req with
    | some r => decide ((d.chimney.reserved.filter (· == r)).length < r.limit)
    | none => false)

/-- A message enters its source's link towards the switch, with room for its reply reserved. -/
def Dev.enterLink (d : Dev) (m : LinkMsg) : Dev :=
  let x := d.chimney
  let l := linkNo m.src true
  { d with chimney := { x with
    queues := SMap.put [] x.queues l (SMap.get [] x.queues l ++ [(m, m.flits, false)])
    reserved := if m.kind.needsReply then (match m.req with | some r => x.reserved ++ [r] | none => x.reserved) else x.reserved } }

/-- A unit offers a message: it waits while no room for its reply can be reserved (R290). A message inside SP crosses no link (R286). -/
def Dev.offerMsg (d : Dev) (m : LinkMsg) : Dev :=
  if m.src = m.dst ∨ !d.part.hasPort m.src ∨ !d.part.hasPort m.dst then d
  else if d.mayReserve m then d.enterLink m
  else { d with chimney := { d.chimney with blocked := d.chimney.blocked ++ [m] } }

/-- The oldest message that waits for a reservation and can have it now enters its link. -/
def Dev.unblock (d : Dev) : Dev :=
  match d.chimney.blocked.find? d.mayReserve with
  | some m => ({ d with chimney := { d.chimney with blocked := d.chimney.blocked.erase m } }).enterLink m
  | none => d

/-- A message has crossed a link: at the switch it goes to its destination's output; at its destination a reply gives its room back. -/
def Dev.arriveMsg (d : Dev) (up : Bool) (m : LinkMsg) : Dev :=
  let x := d.chimney
  if up then
    let l := linkNo m.dst false
    { d with chimney := { x with queues := SMap.put [] x.queues l (SMap.get [] x.queues l ++ [(m, m.flits, false)]) } }
  else match m.kind, m.req with
    | .reply, some r => ({ d with chimney := { x with reserved := x.reserved.erase r } }).unblock
    | _, _ => d

/-- A receiver returns credits of its classes, in the order REQ, RSP, STREAM, CTRL (R289); the second part says that a count went above
its initial value. -/
def Dev.returnCredits (d : Dev) (port : Nat) (up : Bool) (ret : List Nat) : Dev × Bool :=
  let u := fun (c : Nat) => SMap.get 0 d.chimney.used (linkKey port up c)
  let bad := (List.range 4).any (fun c => decide (u c < ret.getD c 0))
  ({ d with chimney := { d.chimney with
      used := (List.range 4).foldl (fun m c => SMap.put 0 m (linkKey port up c) (u c - ret.getD c 0)) d.chimney.used } }, bad)

/-- A requester takes note that its reply was an error (R288), or forgets it. -/
def Dev.failReply (d : Dev) (r : Requester) : Dev :=
  { d with chimney := { d.chimney with failed := r :: d.chimney.failed.filter (· != r) } }
def Dev.takeFailed (d : Dev) (r : Requester) : Bool × Dev :=
  (d.chimney.failed.contains r, { d with chimney := { d.chimney with failed := d.chimney.failed.filter (· != r) } })

end Sys2Proof.Machine
end

