-- ==== Sys2Proof/Machine/MigOps.lean ====
section
/-! DEFINITION. Starting and stopping lane programs (R155, R156, R184, R193, R234, R241), the pools they draw on (R306 to
R309), declaring a hearth failed (R163, R171, R182), choosing a spare (R27, R28), settling a resuming hearth's units
(R170 to R176), and shadows (R180 to R183). -/

namespace Sys2Proof.Machine

/-- A hearth's record, a lane's record, changed by a function. -/
def Dev.updHearth (d : Dev) (h : Nat) (f : Hearth → Hearth) : Dev := d.setHearth h (f (d.hearth h))
def Dev.updLane (d : Dev) (n : Nat) (f : Lane → Lane) : Dev := d.setLane n (f (d.lane n))

/-! ## Images (R243 to R245) and their damage (R241) -/

/-- An entry of an image's section table. -/
structure Sec where
  kind : Nat
  off : Nat
  addr : Nat
  len : Nat

/-- The sections of an image that NSEC names. -/
def Dev.imgSecs (d : Dev) (s : Nat) : List Sec :=
  (List.range (min 8 (d.imgByte s 0x20))).map (fun i =>
    let o := 0x80 + 16 * i
    ⟨d.imgByte s o, d.img32 s (o + 4), d.img32 s (o + 8), d.img32 s (o + 12)⟩)

/-- The contents of a section, as a memory from an address. -/
def Dev.imgSec (d : Dev) (s : Nat) (x : Sec) (b : Nat) : Memory :=
  let a := s * 0x8000 + x.off
  if d.store.erasing.any (fun k => decide (k * 0x8000 < a + x.len) && decide (a < (k + 1) * 0x8000)) then
    Memory.writeList [] b ((List.range x.len).map (fun i => d.storeByte (a + i)))
  else Memory.window d.store.mem a x.len b

/-- IMEM as a start loads it: TEXT from address 0 (R193, R245). -/
def Dev.imgText (d : Dev) (s : Nat) : Memory :=
  match (d.imgSecs s).find? (fun x => x.kind == 1) with
  | some x => d.imgSec s x 0
  | none => []

/-- DMEM as a COLD start loads it: cleared, then every DATA section (R193). -/
def Dev.imgData (d : Dev) (s : Nat) : Memory :=
  ((d.imgSecs s).filter (fun x => x.kind == 2)).foldl (fun m x => Memory.paste m x.addr x.len (d.imgSec s x x.addr)) []

/-- The first double-bit error in either copy of a verified image (R241). -/
def Dev.slotBad (d : Dev) (k : Nat) : Dev :=
  if d.slotState k = 2 then ((d.set (Reg.PST_SLOT_STATE k) 4).raise Reg.PST_EVT 2).sootE 1 0x11 0xD002 k else d

/-- What a load's read of the image finds; true when some word cannot be had from either copy (R241). -/
def Dev.loadDamage (d : Dev) (k : Nat) (dmg : Damage) : Bool × Dev :=
  match dmg with
  | .intact => (false, d)
  | .oneCopy => (false, d.slotBad k)
  | .bothCopies => (true, (d.slotBad k).sootE 2 0x11 0xD003 k)

/-! ## Retirement (R36, R153) -/

/-- A hearth is retired: counted, and raised. -/
def Dev.retireHearth (d : Dev) (h : Nat) : Dev :=
  ((d.incSat Reg.SYS_MARGIN_RETIRED 1).setHstate h stRetired none).raise Reg.HMG_EVT 3

/-! ## Stopping and starting a program (R193, R204, R236) -/

/-- Oven requests of a hearth withdrawn from the queues; one in progress completes and is discarded (R171). -/
def Dev.withdraw (d : Dev) (h : Nat) : Dev :=
  { d with pool := { d.pool with
      ldpc := d.pool.ldpc.filter (fun r => r.hearth != h)
      trellis := d.pool.trellis.filter (fun r => r.hearth != h)
      busy := d.pool.busy.map (fun c => (c.1, c.2.map (fun r => if r.hearth = h then { r with dropped := true } else r))) } }

/-- Oven requests of a hearth complete, and their results are discarded (R204, R236). -/
def Dev.discardOven (d : Dev) (h : Nat) : Dev :=
  let f := fun (r : OReq) => if r.hearth = h then { r with dropped := true } else r
  { d with pool := { d.pool with
      ldpc := d.pool.ldpc.map f, trellis := d.pool.trellis.map f, busy := d.pool.busy.map (fun c => (c.1, c.2.map f)) } }

/-- The hob units stop and their queues are emptied. -/
def Hearth.hobStop (x : Hearth) : Hearth :=
  { x with units := x.units.map (fun c => (c.1, { c.2 with queue := [], running := none })) }

/-- Both threads and the hob stop; requests outstanding complete unseen (R204, R236). -/
def Dev.haltHearth (d : Dev) (h : Nat) : Dev :=
  (d.updHearth h (fun x => { x.hobStop with running := false, wait := none, urgOn := false, replay := none, ovens := [] })).discardOven h

/-- The hearths that serve a lane in any role. -/
def Dev.laneHearths (d : Dev) (n : Nat) : List Nat :=
  (List.range d.part.hearths).filter (fun h => d.laneOf h == some n)

/-- The program of a lane stops on every hearth that runs it (R204, R236): it starts again only by RESTART, a new program or EN, and
declares no demand (R161); event bits of LANE_STAT are raised together. -/
def Dev.haltLane (d : Dev) (n : Nat) (bits : List Nat) : Dev :=
  let d := ((d.laneHearths n).foldl (fun d h => d.haltHearth h) d).updLane n (fun x => { x with halted := true })
  ((d.wr (Reg.LANE_OVDEM n) 0).refreshMargin).raiseUnit (Reg.LANE_STAT n) 0 bits

/-- A failed hearth stops: its queued oven requests are withdrawn, and nothing of its requests is seen (R171). -/
def Dev.killHearth (d : Dev) (h : Nat) : Dev :=
  (d.updHearth h (fun x => { x.hobStop with
    running := false, wait := none, urgOn := false, replay := none, ovens := [], ashes := [], tiOut := 0, fifo := [],
    flq := [] })).withdraw h

/-- A hearth leaves its lane for another state; its set goes back to the pool (R308). -/
def Dev.leave (d : Dev) (h st : Nat) : Dev := ((d.killHearth h).freeHearthSet h).setHstate h st none

/-- Applies in a lane's history that a program starting from a sample has behind it (R168): those before the sample; all of them
at a start on the live stream. -/
def Lane.appliesBefore (x : Lane) (sample : Option Nat) : Nat :=
  match sample with
  | some m => (x.prev.takeWhile (fun p => decide (p.2 ≤ m))).length
  | none => x.prev.length

/-- Messages that waited in the mantel enter the SYS mailbox of the lane's hearth while it has room (R228). -/
def Dev.sysRefill (d : Dev) (n h : Nat) : Dev :=
  if d.bound n = some h ∧ (d.hearth h).running then
    let k := 4 - (d.hearth h).sys.length
    let held := (d.lane n).sysHeld
    (d.updHearth h (fun x => { x with sys := x.sys ++ held.take k })).updLane n (fun y => { y with sysHeld := held.drop k })
  else d

/-- A message to the SYS mailbox of a lane's program: one that finds the box full waits in the mantel (R228). -/
def Dev.sysPost (d : Dev) (n : Nat) (w : Word) : Dev :=
  let d := d.updLane n (fun y => { y with sysHeld := y.sysHeld ++ [w] })
  match d.bound n with
  | some h => d.sysRefill n h
  | none => d

/-- A program start (R193): every register, unit, mailbox and ticket of the hearth as the manual states, IMEM from the
image, DMEM from the image or from a checkpoint with the number of its sample. Messages that wait for the lane's program follow. -/
def Dev.startHearth (d : Dev) (h slot reason : Nat) (ck : Option (Nat × Memory)) : Dev :=
  let x := d.hearth h
  let n := (d.laneOf h).getD 0
  let resume := d.img16 slot 0x1A
  let entry := d.img16 slot 0x18
  (d.setHearth h { x with
    main := { pc := BitVec.ofNat 14 (if ck.isSome then resume else entry) }
    urg := {}
    urgOn := false, running := true, wait := none
    entMain := entry, entRes := resume, entUrg := d.img16 slot 0x1C
    start := reason, startAt := d.now
    ckSamp := (ck.map (·.1)).getD 0
    umbox := [], uovf := false, sys := [], hin := false, rsync := ((d.lane n).resync).getD x.rsync
    units := [], ovens := [], ashes := [], tiOut := 0
    lastUnit := none, flbad := 0
    fifo := [], lost := 0, smp := 0, smpT := d.devtime, newSmp := false
    watches := [], patLoaded := false, conLoaded := false, llrs := 0, freq := 0, phase := 0, ratio := 0, ratioLo := 0, interp := 0
    own := [], applied := (d.lane n).appliesBefore (ck.map (·.1))
    imem := d.imgText slot
    dmem := match ck with | some c => c.2 | none => d.imgData slot
    replay := ck.map (·.1)
    lastRetire := d.now, lastTick := d.now, fftFails := [], fftFirst := 0 }).sysRefill n h

/-! ## Replay (R173, R214) -/

/-- The samples of backlog blocks. -/
def blockSamples (bs : List BkBlock) : List Sample := bs.flatMap (fun b => (List.range b.times.length).map (decodeSample b))

/-- The samples a lane has on record, in the ashpit, waiting for it and in the block being filled. -/
def Lane.record (x : Lane) : List Sample := blockSamples x.bk ++ blockSamples x.bkBuf ++ x.cur

/-- Samples enter the INPUT FIFO; those that find it full are lost, and neither S nor the SAMPLE event takes note of them
(R214, R221, R222). -/
def Hearth.arrive (x : Hearth) (ss : List Sample) : Hearth :=
  let room := 1024 - x.fifo.length
  let lost := x.lost + (ss.length - room)
  match (ss.take room).getLast? with
  | none => { x with lost := lost }
  | some s => { x with fifo := x.fifo ++ ss.take room, lost := lost, smp := s.m, smpT := s.t, newSmp := true }

/-- How many samples the running INPUT command still takes (R212). -/
def HobRun.wants (r : HobRun) : Nat :=
  (if r.cmd.cmd = 0 then getBits r.desc.d0 31 16 else r.cmd.arg.toNat) - r.taken.length

/-- The running INPUT command takes what the FIFO holds. -/
def Hearth.inputTake (x : Hearth) : Hearth :=
  let u := SMap.get {} x.units 0
  match u.running with
  | none => x
  | some r =>
    let k := min r.wants x.fifo.length
    if k = 0 then x
    else { x with fifo := x.fifo.drop k
                  units := SMap.put {} x.units 0 { u with running := some { r with taken := r.taken ++ x.fifo.take k } } }

/-- The lag of a replay in ms: lane samples behind the live stream (R173). -/
def Dev.lag (d : Dev) (n r : Nat) : Nat := min 65535 (((d.lane n).next - r) * d.grid n / 3200000)

/-- LANE_MIG.LAG: how far the target of a migration or resync of the lane is behind; 0 when live (R173). -/
def Dev.laneLag (d : Dev) (n : Nat) : Nat :=
  match (d.lane n).mig with
  | some m => match (d.hearth m.dst).replay with
    | some r => if m.loaded then d.lag n r else 0
    | none => 0
  | none => 0

/-- A replaying hearth's FIFO is filled from the backlog as far as it has room, and the running INPUT command served (R214). -/
def Dev.refill (d : Dev) (h : Nat) : Dev :=
  match d.laneOf h with
  | none => d
  | some n =>
    let one := fun (d : Dev) =>
      let x := (d.hearth h).inputTake
      match (if d.held 7 then none else x.replay) with
      | none => d.setHearth h x
      | some r =>
        let u := SMap.get {} x.units 0
        let want := match u.running with | some r => r.wants | none => 0
        let ss := ((d.lane n).record.filter (fun s => decide (r ≤ s.m))).take (want + 1024 - x.fifo.length)
        match ss.getLast? with
        | none => d.setHearth h x
        | some s =>
          let k := ss.take want
          let x := { x with
            units := match u.running with
              | some q => SMap.put {} x.units 0 { u with running := some { q with taken := q.taken ++ k } }
              | none => x.units
            fifo := x.fifo ++ ss.drop k.length, replay := some (s.m + 1), smp := s.m, smpT := s.t, newSmp := true }
          d.setHearth h x
    one d

/-! ## Migration bookkeeping (R171, R188) -/

/-- Units held back or marked are discarded; the lane's GSF streams carry one PAUSE marker for them (R170, R32). -/
def Dev.dropHeld (d : Dev) (n : Nat) : Dev :=
  let x := d.lane n
  let some_ := x.paused || x.main.any x.awaits
  let d := (d.discardMain n x.awaits).updLane n (fun x => { x with paused := false, holdKey := none })
  if some_ then d.lossAll n none 1 else d

/-- A migration or resync starts (R171, R177). -/
def Dev.migStart (d : Dev) (n mstate : Nat) : Dev :=
  ((d.set (Reg.LANE_BIND_MSTATE n) mstate).raise (Reg.LANE_STAT n) 4).raise Reg.HMG_EVT 0

/-- The visit of a unit by the rolling self-test is over: a pass is complete with its last unit (R186, R190). -/
def Dev.visitEnd (d : Dev) (state : Nat) : Dev :=
  let d := d.set Reg.HMG_RSTSTAT_STATE state
  let d := if d.rolling.lastOfPass then d.incMod Reg.HMG_RSTSTAT_CYCLES 1 else d
  { d with rolling := { d.rolling with unit := none, lastOfPass := false } }

/-- The record of a migration or resync that ends (R35, R188). -/
def Dev.migRecord (d : Dev) (n status frm tgt : Nat) : Dev :=
  let bad := decide (0x10 ≤ status)
  let d := (d.set (Reg.LANE_MIG_STATUS n) status).incMod (Reg.LANE_MIG_COUNT n) 1
  let d := d.wr Reg.HMG_MIGSTAT (BitVec.ofNat 32 (status * 2 ^ 24 + n % 128 * 2 ^ 16 + frm % 128 * 2 ^ 8 + tgt % 128))
  let c := d.rd Reg.HMG_MIGCNT
  let d := d.wr Reg.HMG_MIGCNT (BitVec.ofNat 32 (satInc 16 (getBits c 31 16) 1 * 65536 + satInc 16 (getBits c 15 0) (b2n bad)))
  let d := d.raise Reg.HMG_EVT 1
  let d := if bad then d.raise (Reg.LANE_STAT n) 6 else d
  d.sootE (if bad then 2 else 1) 0x20 0x4001 (status * 2 ^ 24 + n % 128 * 2 ^ 16 + frm % 128 * 2 ^ 8 + tgt % 128)

/-- A migration ends with a status of R188. -/
def Dev.endMig (d : Dev) (n status frm tgt : Nat) : Dev :=
  let idle := d.get (Reg.LANE_BIND_MSTATE n) == 0
  let dropTest := (d.lane n).mig.any (·.test) && d.rolling.unit == some frm && d.hstate frm != stTesting
  let d := if dropTest then d.visitEnd 0 else d
  let d := d.migRecord n status frm tgt
  let d := (d.updLane n (fun x => { x with mig := none, resync := none })).set (Reg.LANE_BIND_MSTATE n) 0
  let d := if idle then d else d.fwLaneIdle n
  if status = 0x11 ∨ status = 0x12 ∨ status = 0x13 ∨ status = 0x14 ∨ status = 0x15 ∨ status = 0x16 then d.dropHeld n else d

/-- LANE_REACQ: microseconds from FAULT_T to now. -/
def Dev.setReacq (d : Dev) (n fault : Nat) : Dev :=
  d.wr (Reg.LANE_REACQ n) (BitVec.ofNat 32 (min (2 ^ 32 - 1) ((d.now - fault) / 1000)))

/-- Every unit appended at or after FAULT_T is marked; K_last and the last complete frame follow (R170, R32). -/
def Dev.markFrom (d : Dev) (n fault : Nat) : Option Nat × Dev :=
  let x := d.lane n
  let main := x.main.map (fun u => if fault ≤ u.app then { u with marked := true } else u)
  let k := match (main.filter (fun u => !u.marked)).getLast? with
    | some u => some u.pair
    | none => x.released
  let hold := k.bind (fun p => if p / 65536 = 0 then none else some (p / 65536 - 1))
  (k, d.setLane n { x with main := main, holdKey := hold })

/-- The output pauses (R32): the PAUSE markers are sent of their own accord. -/
def Dev.pause (d : Dev) (n : Nat) : Dev :=
  if (d.lane n).paused then d else (d.updLane n (fun x => { x with paused := true })).lossAll n none 1

/-! ## Settling a resuming hearth's units (R172) -/

/-- The image the lane runs. -/
def Dev.laneSlot (d : Dev) (n : Nat) : Nat := d.get (Reg.LANE_PROG_ACTIVE n)

/-- PCM of an XFADE program: stream 0 (the FM and AM programs of the library chapter). PCM units are crossfaded, every other unit
of the lane is compared as EXACT (R261). -/
def Dev.isPcm (d : Dev) (n stream : Nat) : Bool := d.imgXfade (d.laneSlot n) && stream == 0

/-- Words in 10 ms of PCM: 488 internal samples, two words each for the FM program (R265). -/
def Dev.fadeWords (d : Dev) (n : Nat) : Nat := if d.imgStd (d.laneSlot n) = 1 then 976 else 488

/-- Word `k` of `n` of a linear crossfade from the old word to the new one, weighed at the middle of its step as R110 weighs a
frame's samples (R172; log 69). -/
def fadeWord (n k : Nat) (a b : Word) : Word :=
  BitVec.ofInt 32 (roundOpen ((2 * n - (2 * k + 1) : Nat) * a.toInt + (2 * k + 1 : Nat) * b.toInt) (2 * n))

/-- The last words of two word lists crossfaded (R172). -/
def fadeList (n k : Nat) : List Word → List Word → List Word
  | a :: as, b :: bs => fadeWord n k a b :: fadeList n (k + 1) as bs
  | as, _ => as

/-- The last 10 ms of unreleased PCM at or below K_last crossfaded into the target's PCM (R172). -/
def Dev.crossfade (d : Dev) (n : Nat) (fade : List (Nat × List Byte)) : Dev :=
  let x := d.lane n
  let units := x.main.filter (fun u => u.stream == 0 && !u.marked && fade.any (fun f => f.1 == u.pair && f.2.length == u.payload.length))
  let total := (units.map (fun u => u.payload.length / 4)).foldl (· + ·) 0
  let len := min (d.fadeWords n) total
  let skip := total - len
  let go := fun (acc : Nat × List DUnit) (u : DUnit) =>
    match (if u.stream = 0 ∧ !u.marked then fade.find? (fun f => f.1 == u.pair && f.2.length == u.payload.length) else none) with
    | none => (acc.1, acc.2 ++ [u])
    | some f =>
      let a := wordsLE u.payload
      let b := wordsLE f.2
      let keep := min a.length (skip - acc.1)
      let ws := a.take keep ++ fadeList len (acc.1 + keep - skip) (a.drop keep) (b.drop keep)
      let p := ws.flatMap wordBytes
      (acc.1 + a.length, acc.2 ++ [{ u with payload := p, crc := crc32 p }])
  d.setLane n { x with main := (x.main.foldl go (0, [])).2 }

/-- The unit expected after K_last (R172): the next index of its frame, the first of a later frame, or the first unit that
was marked (DEDUCED, log 31). -/
def Dev.expected (d : Dev) (n k pair : Nat) : Bool :=
  pair == k + 1 || (pair % 65536 == 0 && decide (k / 65536 < pair / 65536)) ||
    (match (d.lane n).main.find? (fun u => u.marked && decide (k < u.pair)) with
     | some u => u.pair == pair
     | none => false)

/-- A unit of the target at or below K_last: PCM of an XFADE program is kept for the crossfade, every other unit is compared by
CRC (R172, R261). -/
def Dev.overlapUnit (d : Dev) (n : Nat) (m : Mig) (u : DUnit) : Dev :=
  let x := d.lane n
  let m := { m with overlap := true }
  match x.main.find? (fun v => v.pair == u.pair && !v.marked) with
  | none => d.setLane n { x with mig := some m }
  | some v =>
    if d.isPcm n u.stream then
      d.setLane n { x with
        mig := some { m with fade := m.fade ++ [(u.pair, u.payload)] }
        main := x.main.map (fun w => if w.pair = u.pair then { w with replaced := true } else w) }
    else
      let m := { m with diverged := m.diverged || u.crc != v.crc }
      let w := if m.diverged then { v with payload := u.payload, crc := u.crc, err := u.err, stream := u.stream } else v
      d.setLane n { x with
        mig := some m
        main := x.main.map (fun y => if y.pair = u.pair ∧ !y.marked then { w with replaced := true } else y) }

/-- The status with which a migration ends once its splice is made (R188). -/
def Dev.spliceStatus (d : Dev) (n : Nat) (m : Mig) : Nat :=
  if m.status ≠ 0 then m.status
  else if m.diverged then 2
  else if !m.fade.isEmpty ∧ d.imgXfade (d.laneSlot n) then 4
  else if !m.overlap then 1
  else 0

/-- The first unit after K_last (R171 step 4): marked units and held units that were not reproduced are discarded, and
output resumes, held units that were reproduced with it (R32). Output that was not paused pauses here when the splice comes after
the draw delay (R185), and at a skip (R176). -/
def Dev.makeSplice (d : Dev) (n : Nat) (m : Mig) (u : DUnit) : Dev :=
  let d := if m.fade.isEmpty then d else d.crossfade n m.fade
  let x := d.lane n
  let wasPaused := x.paused
  let delay := d.get (Reg.LANE_DRAW_ACTIVE n) * 1000000
  let late := decide (m.fault + delay < d.now)
  let skip := m.kLast.any (fun k => !d.expected n k u.pair)
  let d := d.discardMain n x.heldBack
  let d := if (late || skip) && !wasPaused then d.lossAll n none 1 else d
  let d := d.updLane n (fun x => { x with
    paused := false, holdKey := none
    main := x.main.map (fun v => if x.awaits v then { v with release := d.devtime + delay } else v) })
  let m := { m with spliced := true, status := if skip then 0x13 else if late then 0x10 else m.status }
  let d := (d.updLane n (fun x => { x with mig := some m })).setReacq n m.fault
  let d := (d.appendMain n u).raise (Reg.LANE_STAT n) 5
  if m.live then d.endMig n (d.spliceStatus n m) m.src m.dst
  else d.set (Reg.LANE_BIND_MSTATE n) 3

/-- A unit of the target of an unplanned migration or resync (R172). -/
def Dev.spliceUnit (d : Dev) (n : Nat) (m : Mig) (u : DUnit) : Dev :=
  if m.spliced then d.appendMain n u
  else match m.kLast with
    | some k => if u.pair ≤ k then d.overlapUnit n m u else d.makeSplice n m u
    | none => d.makeSplice n m u

/-- A unit of the target of a planned migration (R175): overlap up to the source's latest, kept until the cutover above. -/
def Dev.plannedUnit (d : Dev) (n : Nat) (m : Mig) (u : DUnit) : Dev :=
  let x := d.lane n
  if (match x.appended with | some k => decide (u.pair ≤ k) | none => false) then d.overlapUnit n m u
  else d.setLane n { x with mig := some { m with ahead := m.ahead ++ [u] } }

/-- A unit of the hearth that feeds a lane, outside a migration to it: appended, and compared with the shadow's (R181); after a
migration that ended without its splice, only from the first unit above K_last on (R176). -/
def Dev.ownUnit (d : Dev) (n : Nat) (u : DUnit) : Dev :=
  let x := d.lane n
  if x.floor.any (fun k => decide (u.pair ≤ k)) then d
  else ((d.setLane n { x with floor := none }).appendMain n u).compare n u x.shadow

/-- A unit of a lane's shadow: compared once both lines hold it (R181). -/
def Dev.shadowUnit (d : Dev) (n : Nat) (u : DUnit) : Dev :=
  let x := d.lane n
  let after := d.appendShadow n u
  if (after.lane n).shadow.length = x.shadow.length then after else after.compare n u x.main

/-- A unit that reaches a lane from a hearth (R169, R172, R175, R181). -/
def Dev.laneUnit (d : Dev) (h n : Nat) (u : DUnit) : Dev :=
  match (d.lane n).mig with
  | some m =>
    if m.dst = h ∧ m.kind ≠ .planned then d.spliceUnit n m u
    else if m.dst = h then d.plannedUnit n m u
    else if d.bound n = some h then d.ownUnit n u
    else if d.shadowOf n = some h then d.shadowUnit n u
    else d
  | none =>
    if d.bound n = some h then d.ownUnit n u
    else if d.shadowOf n = some h then d.shadowUnit n u
    else d

/-! ## Shadows (R180 to R182) -/

/-- A shadow granted from a FREE hearth: it joins with a new set (R180, R308); none when no set can be had. -/
def Dev.grantShadow (d : Dev) (n h : Nat) : Option Dev :=
  match d.newSet n (d.imgTiNeed (d.laneSlot n)) with
  | none => none
  | some (i, d) =>
    let d := (d.updHearth h (fun x => { x with set := some i })).setHstate h stJoining (some n)
    let d := (d.set (Reg.LANE_BIND_SVALID n) 1).set (Reg.LANE_BIND_SHADOW n) h
    some ((d.set (Reg.LANE_BIND_GSTATE n) 1).updLane n (fun x => { x with shCopy := true }))

/-- A guarded lane has no shadow: GSTATE LOST (R27, R182). -/
def Dev.loseShadow (d : Dev) (n : Nat) : Dev :=
  ((d.set (Reg.LANE_BIND_GSTATE n) 3).raise (Reg.LANE_STAT n) 7).raise Reg.HMG_EVT 4

/-- The lane has no shadow hearth any more; the shadow line is dropped. -/
def Dev.noShadow (d : Dev) (n : Nat) : Dev :=
  let d := (d.set (Reg.LANE_BIND_SVALID n) 0).set (Reg.LANE_BIND_SHADOW n) 0
  (d.updLane n (fun x => { x with shadow := [], shHead := 0, shTail := 0, shCopy := false })).refreshMargin.refreshAsh n

/-- A new shadow after the old one was lost (R182). -/
def Dev.regrant (d : Dev) (n : Nat) : Dev :=
  match d.hearthsIn stFree with
  | [] => d.loseShadow n
  | h :: _ =>
    match d.grantShadow n h with
    | some d => d
    | none => (d.allocFail 2 n (setPages (d.imgTiNeed (d.laneSlot n)))).loseShadow n

/-- The shadow, if any, returns to FREE and GSTATE to NONE. -/
def Dev.dropShadow (d : Dev) (n : Nat) : Dev :=
  let d := match d.shadowOf n with
    | some s => (d.leave s stFree).noShadow n
    | none => d
  let d := match (d.lane n).swap with
    | some s => (d.leave s stFree).updLane n (fun x => { x with swap := none, swapCopy := false })
    | none => d
  d.set (Reg.LANE_BIND_GSTATE n) 0

/-! ## Choosing a spare (R27) -/

/-- The hearth under a rolling self-test or a host BIST, which R27 may take (R187, the BIST table). -/
def Dev.underTest (d : Dev) : Option Nat :=
  match (d.hearthsIn stTesting).find? (fun h => (d.hearth h).testKind == 2) with
  | some h => some h
  | none => (d.hearthsIn stTesting).find? (fun h => (d.hearth h).testKind == 3)

/-- A hearth's test is abandoned and its result discarded; a host BIST ends with PREEMPT (R187). -/
def Dev.abandonTest (d : Dev) (h : Nat) : Dev :=
  let x := d.hearth h
  let d := d.setHearth h { x with testKind := 0 }
  if x.testKind = 3 then
    let d := { d with bist := none }.wr Reg.BST_RES (BitVec.ofNat 32 (2 ^ 24 + h * 65536 + 3 * 256))
    (d.cmdEnd Reg.BST_CMDSTAT 0x16).raise Reg.BST_EVT 0
  else if x.testKind = 2 then
    d.visitEnd 0
  else d

/-- The guarded lane with the highest number that has a shadow. -/
def Dev.topShadow (d : Dev) : Option (Nat × Nat) :=
  ((List.range d.part.lanes).reverse.findSome? (fun n => (d.shadowOf n).map (fun s => (n, s))))

/-- The spare R27 takes: a FREE hearth, the one under test, a shadow. It is free on return. -/
def Dev.pickSpare (d : Dev) : Option Nat × Dev :=
  match d.hearthsIn stFree with
  | h :: _ => (some h, d)
  | [] =>
    match d.underTest with
    | some h => (some h, (d.abandonTest h).setHstate h stFree none)
    | none =>
      match d.topShadow with
      | some (n, s) => (some s, ((d.leave s stFree).noShadow n).loseShadow n)
      | none => (none, d)

/-- A spare takes a lane over from a failed hearth, with its set (R171 step 2, R308). -/
def Dev.takeSpare (d : Dev) (n s failed : Nat) : Dev :=
  let d := d.freeHearthSet s
  let d := d.updHearth s (fun x => { x with set := (d.hearth failed).set })
  let d := if s = failed then d else d.updHearth failed (fun x => { x with set := none })
  let d := (d.setHstate s stJoining (some n)).incMod (Reg.HST_LOAD_SERVED s) 1
  ((d.set (Reg.LANE_BIND_HEARTH n) s).set (Reg.LANE_BIND_HVALID n) 1).set (Reg.LANE_BIND_MSTATE n) 1

/-- A write of the LRB (R256): the word with LOCK starts or ends the watch of a lost synchronisation (R511, 0x4007). -/
def Dev.lrbWrite (d : Dev) (n b : Nat) (w : Word) : Dev :=
  let d := d.wr b w
  if b = Reg.LANE_LRB n 1 then
    let on := decide (2 ≤ getBits w 15 8)
    d.updLane n (fun x => { x with locked := on, lockFell := if on then 0 else if x.locked then d.now + 1 else x.lockFell })
  else d

/-- A hearth becomes the one that feeds a lane: the words it wrote while another did take their places in the lane's window (R231,
log 92), and messages that wait for the lane's program reach it (R228). -/
def Dev.adopt (d : Dev) (n h : Nat) : Dev :=
  let d := (d.set (Reg.LANE_BIND_HEARTH n) h).set (Reg.LANE_BIND_HVALID n) 1
  let d := (d.hearth h).own.foldl (fun d c => d.lrbWrite n c.1 c.2) d
  let d := d.updHearth h (fun x => { x with own := [], rsync := ((d.lane n).resync).getD x.rsync })
  d.sysRefill n h

/-! ## A lane stops for want of a hearth -/

/-- The lane stops: no program, no demand (R155, R179). -/
def Dev.laneDead (d : Dev) (n : Nat) : Dev :=
  let d := (d.updLane n (fun x => { x with started := false })).wr (Reg.LANE_OVDEM n) 0
  (d.raise (Reg.LANE_STAT n) 2).refreshMargin

/-! ## Declaring a failure (R163, R171, R182) -/

/-- ρ in 1/16 (R244). -/
def Dev.imgRho (d : Dev) (s : Nat) : Nat := d.imgByte s 0x32

/-- The output pauses where a replay from a sample will reach FAULT_T only after the draw delay (R32, R171 step 4; log 43). -/
def Dev.pauseFor (d : Dev) (n : Nat) (m : Mig) (sample : Nat) : Dev :=
  let age := ((d.lane n).sampleAt m.ckT - sample) * d.grid n * 5 / 16
  let est := (d.now - m.fault) + age * 16 / max 1 (d.imgRho (d.laneSlot n))
  if d.get (Reg.LANE_DRAW_ACTIVE n) * 1000000 < est then d.pause n else d

/-- An unplanned migration from a failed hearth: the next spare of R27, or NOSPARE (R28, R179). A resync whose hearth fails goes on
as an unplanned migration. -/
def Dev.toSpare (d : Dev) (n failed : Nat) (m : Mig) : Dev :=
  match d.pickSpare with
  | (some s, d) =>
    (d.takeSpare n s failed).updLane n (fun x => { x with
      mig := some { m with kind := .unplanned, dst := s, loaded := false, copying := false, live := false } })
  | (none, d) =>
    let d := (d.set (Reg.LANE_BIND_HVALID n) 0).raise (Reg.LANE_STAT n) 11
    (d.laneDead n).endMig n 0x11 m.src failed

/-- The record of a new migration. -/
def newMig (kind : MigKind) (src dst fault faultT : Nat) (k : Option Nat) : Mig :=
  { kind := kind, src := src, dst := dst, fault := fault, faultT := faultT, ckT := faultT, kLast := k, diverged := false, overlap := false,
    spliced := false, status := 0, loaded := false, copying := false, live := false, test := false, fade := [], ahead := [] }

/-- Release switches to the shadow line from the unit after K_last (R182). -/
def Dev.shadowSwitch (d : Dev) (n h s fault : Nat) : Dev :=
  let (k, d) := d.markFrom n fault
  let x := d.lane n
  let keep := x.main.filter (fun u => !u.marked)
  let more := x.shadow.filter (fun u => match k with | some k => decide (k < u.pair) | none => true)
  let main := keep ++ more
  let d := d.setLane n { x with
    main := main, shadow := [], shHead := 0, shTail := 0, holdKey := none, paused := false
    mainTail := x.mainHead + (main.map DUnit.size).foldl (· + ·) 0
    appended := match main.getLast? with | some u => some u.pair | none => k }
  let d := ((d.setHstate s stPrimary (some n)).incMod (Reg.HST_LOAD_SERVED s) 1).adopt n s
  let d := d.noShadow n
  let d := ((d.setReacq n fault).raise (Reg.LANE_STAT n) 5).showCkpt n
  (d.endMig n 3 h s).regrant n

/-- The primary of a lane has failed (R171, R179, R182, R183). A shadow that joins serves as the spare: once it is loaded it keeps
its replay position. In MINIMAL the lane stops and no migration follows. -/
def Dev.primaryFault (d : Dev) (n h fault faultT : Nat) (ran : Bool) : Dev :=
  let d := (d.set (Reg.LANE_BIND_HVALID n) 0).set (Reg.LANE_BIND_HEARTH n) 0
  if !ran then d
  else if !d.migr then ((d.markFrom n fault).2.laneDead n).endMig n 0x15 h h
  else
    let d := d.migStart n 1
    match d.shadowOf n with
    | some s =>
      if d.get (Reg.LANE_BIND_GSTATE n) = 2 then d.shadowSwitch n h s fault
      else
        let (k, d) := d.markFrom n fault
        let m := newMig .unplanned h s fault faultT k
        let copying := (d.lane n).shCopy
        let d := (d.noShadow n).set (Reg.LANE_BIND_GSTATE n) 0
        if copying then (d.takeSpare n s h).updLane n (fun x => { x with mig := some m })
        else
          let d := ((d.incMod (Reg.HST_LOAD_SERVED s) 1).adopt n s).set (Reg.LANE_BIND_MSTATE n) 2
          let d := d.updLane n (fun x => { x with mig := some { m with loaded := true } })
          d.pauseFor n m (((d.hearth s).replay).getD (d.lane n).next)
    | none =>
      let (k, d) := d.markFrom n fault
      d.toSpare n h (newMig .unplanned h h fault faultT k)

/-- The target of a planned migration has failed: the old hearth goes on, and the next spare is tried; without one the migration
ends NOSPARE (R175). -/
def Dev.plannedFault (d : Dev) (n h : Nat) (m : Mig) : Dev :=
  let d := d.updLane n (fun x => { x with mig := none })
  match d.pickSpare with
  | (some s, d) =>
    match d.newSet n (d.imgTiNeed (d.laneSlot n)) with
    | some (i, d) =>
      let d := ((d.freeHearthSet s).updHearth s (fun y => { y with set := some i })).setHstate s stJoining (some n)
      (d.updLane n (fun x => { x with mig := some { newMig .planned m.src s m.fault m.faultT none with copying := true, test := m.test } })).set
        (Reg.LANE_BIND_MSTATE n) 1
    | none => (d.allocFail 2 n (setPages (d.imgTiNeed (d.laneSlot n)))).endMig n 0x11 m.src h
  | (none, d) => (d.raise (Reg.LANE_STAT n) 11).endMig n 0x11 m.src h

/-- The resuming hearth of a lane has failed (R28): the next spare resumes. Before the splice K_last and the checkpoint's limit stay;
after it, what was appended since the new FAULT_T is marked, and a newer checkpoint serves (R173). -/
def Dev.targetFault (d : Dev) (n h fault faultT : Nat) (m : Mig) : Dev :=
  let d := d.set (Reg.LANE_BIND_HVALID n) 0
  if m.spliced then
    let (k, d) := d.markFrom n fault
    d.toSpare n h { m with ckT := faultT, kLast := k, spliced := false, overlap := false, diverged := false, fade := [] }
  else d.toSpare n h m

/-- The old hearth of a planned migration has failed: the migration is unplanned from its FAULT_T (R175). A target that still waits
for its copy takes the failed hearth's set; one that runs keeps its position, and its units above K_last follow at once. -/
def Dev.sourceFault (d : Dev) (n h fault faultT : Nat) (m : Mig) : Dev :=
  let (k, d) := d.markFrom n fault
  let m' := { m with kind := .unplanned, fault := fault, faultT := faultT, ckT := faultT, kLast := k, copying := false, ahead := [] }
  if m.copying then (d.takeSpare n m.dst h).updLane n (fun x => { x with mig := some m' })
  else
    let d := ((d.incMod (Reg.HST_LOAD_SERVED m.dst) 1).adopt n m.dst).set (Reg.LANE_BIND_MSTATE n) 2
    let d := d.updLane n (fun x => { x with mig := some m' })
    let d := if m.live then d else d.pauseFor n m' (((d.hearth m.dst).replay).getD (d.lane n).next)
    m.ahead.foldl (fun d u => match (d.lane n).mig with
      | some m => d.spliceUnit n m u
      | none => d.appendMain n u) d

/-- A hearth of a lane whose program has halted fails: its role is given up, and a migration it took part in ends (R178). -/
def Dev.haltedFault (d : Dev) (n h : Nat) (m : Mig) : Dev :=
  let d := if m.kind = .planned ∧ m.src = h then d.leave m.dst stFree else d
  let d := if d.bound n = some h then (d.set (Reg.LANE_BIND_HVALID n) 0).set (Reg.LANE_BIND_HEARTH n) 0 else d
  d.endMig n 0x16 m.src m.dst

/-- What a hearth's failure means for the lane it serves (R28, R175, R182). -/
def Dev.laneFault (d : Dev) (n h fault faultT : Nat) (ran : Bool) : Dev :=
  let x := d.lane n
  if x.swap = some h then (d.setLane n { x with swap := none, swapCopy := false }).visitEnd 0
  else match x.mig with
    | some m =>
      if x.halted ∧ (m.dst = h ∨ m.src = h) then d.haltedFault n h m
      else if m.dst = h ∧ m.kind = .planned then d.plannedFault n h m
      else if m.dst = h then d.targetFault n h fault faultT m
      else if m.src = h then d.sourceFault n h fault faultT m
      else if d.shadowOf n = some h then (d.noShadow n).regrant n
      else d
    | none =>
      if d.bound n = some h then d.primaryFault n h fault faultT ran
      else if d.shadowOf n = some h then (d.noShadow n).regrant n
      else d

/-- A hearth is declared failed (R163, R171 step 1): the lane it served, and whether its program ran. FAULT_T is given as DEVTIME.
A stall (cause 9) goes on to a test and not to RETIRED (R164). -/
def Dev.declare (d : Dev) (h cause faultT : Nat) : Option (Nat × Bool) × Dev :=
  let st := d.hstate h
  if st < 2 ∨ 5 < st then (none, d)
  else
    let lane := d.laneOf h
    let ran := (d.hearth h).running
    let d := (d.set (Reg.HST_STAT_CAUSE h) cause).wr64 (Reg.HST_FAULT_LO h) (Reg.HST_FAULT_HI h) faultT
    let d := (d.killHearth h).updHearth h (fun x => { x with testKind := if cause = 9 then 4 else 0 })
    (lane.map (fun n => (n, ran)), (d.setHstate h stIsolated none).fwHearthFailed h faultT)

/-- A hearth is declared failed, with FAULT_T as `now` and as DEVTIME, and its lane served. -/
def Dev.declareFail (d : Dev) (h cause fault faultT : Nat) : Dev :=
  match d.declare h cause faultT with
  | (none, d) => d
  | (some (n, ran), d) => d.laneFault n h fault faultT ran

/-- A failure that has been declared: the hearth, its lane, FAULT_T as `now` and as DEVTIME, and whether its program ran. -/
structure Failure where
  hearth : Nat
  lane : Nat
  fault : Nat
  faultT : Nat
  ran : Bool

/-- The order in which the lanes of hearths that fail at the same moment are served (R29): guarded lanes first, then in ascending lane
number; of one lane, the hearths that do not feed it before the one that does (log 93). -/
def Dev.serveOrder (d : Dev) (fs : List Failure) : List Failure :=
  let of := fun (n : Nat) =>
    let mine := fs.filter (fun f => f.lane == n)
    mine.filter (fun f => d.bound n != some f.hearth) ++ mine.filter (fun f => d.bound n == some f.hearth)
  let ns := List.range d.part.lanes
  (ns.filter (fun n => d.is (Reg.LANE_CTL_GUARD n)) ++ ns.filter (fun n => !d.is (Reg.LANE_CTL_GUARD n))).flatMap of

/-- Hearths that fail at the same moment (R29): each is declared, with its cause and FAULT_T as `now`, then their lanes are served in
order. -/
def Dev.declareAll (d : Dev) (hs : List (Nat × Nat × Nat)) : Dev :=
  let go := fun (r : List Failure × Dev) (f : Nat × Nat × Nat) =>
    let t := r.2.devtime - (r.2.now - f.2.2)
    match r.2.declare f.1 f.2.1 t with
    | (some (n, ran), d) => (r.1 ++ [⟨f.1, n, f.2.2, t, ran⟩], d)
    | (none, d) => (r.1, d)
  let r := hs.foldl go ([], d)
  (r.2.serveOrder r.1).foldl (fun d f => d.laneFault f.lane f.hearth f.fault f.faultT f.ran) r.2

/-! ## Planned migration (R175) -/

/-- A planned migration of a lane to a FREE hearth; false when no set can be had (R308, R309). -/
def Dev.planMove (d : Dev) (n s : Nat) (test : Bool) : Bool × Dev :=
  match d.bound n with
  | none => (false, d)
  | some h =>
    match d.newSet n (d.imgTiNeed (d.laneSlot n)) with
    | none => (false, d.allocFail 2 n (setPages (d.imgTiNeed (d.laneSlot n))))
    | some (i, d) =>
      let d := (d.updHearth s (fun x => { x with set := some i })).setHstate s stJoining (some n)
      let m := { newMig .planned h s d.now d.devtime none with copying := true, test := test }
      (true, (d.updLane n (fun x => { x with mig := some m })).migStart n 1)

/-- A suspect level is reached (R163): recorded, visited next by the rolling self-test, and the lane moved. -/
def Dev.suspect (d : Dev) (h cause : Nat) : Dev :=
  let d := (d.set (Reg.HST_STAT_SUSPECT h) 1).set (Reg.HST_STAT_CAUSE h) cause
  let d := if d.rolling.suspects.contains h then d
    else { d with rolling := { d.rolling with suspects := d.rolling.suspects ++ [h] } }
  match d.laneOf h with
  | none => d
  | some n =>
    if d.migr ∧ d.bound n = some h ∧ d.hstate h = stPrimary ∧ (d.lane n).mig.isNone ∧ (d.hearth h).running then
      match d.hearthsIn stFree with
      | s :: _ => (d.planMove n s false).2
      | [] => d
    else d

/-- A corrected error in a hearth's memories: counted and logged (R35; the region of a memory outside the ashpit is 7, its line the model
leaves free: log 94); 16 within 1 s are suspect (R163, cause 8). -/
def Dev.corrected (d : Dev) (h : Nat) : Dev :=
  let d := (d.incWordSat (Reg.HST_CERR h) 1)
  let d := d.fresh.2.sootE 0 (0x80 + h) 0x6001 (7 * 2 ^ 29 + d.fresh.1.toNat % 2 ^ 27)
  let ts := d.now :: (d.hearth h).cerrs.filter (fun t => decide (d.now < t + 1000000000))
  let hit := decide (16 ≤ ts.length)
  let d := d.updHearth h (fun x => { x with cerrs := if hit then [] else ts })
  if hit then d.suspect h 8 else d

/-! ## Starting and stopping a lane (R155, R156, R165, R184, R306) -/

/-- A lane releases its backlog (R156, R306): every page of it goes back to the pool. -/
def Dev.releaseBacklog (d : Dev) (n : Nat) : Dev :=
  let d := match d.bound n with | some h => d.freeHearthSet h | none => d
  let d := match d.shadowOf n with | some h => d.freeHearthSet h | none => d
  let d := d.updLane n (fun x => { x with bk := [], cur := [], bkBuf := [], bkPages := 0, bkCap := 0, playout := false })
  ((d.set (Reg.LANE_CKPT_VALID n) 0).set (Reg.LANE_BKLOG_ACTIVE n) 0).refreshAsh n

/-- A lane takes a hearth as its primary. -/
def Dev.bindTo (d : Dev) (n h : Nat) : Dev :=
  ((d.setHstate h stPrimary (some n)).set (Reg.LANE_BIND_HEARTH n) h).set (Reg.LANE_BIND_HVALID n) 1

/-- A load is refused at the start itself (R241, R309): the lane is stopped and declares no demand. -/
def Dev.loadFail (d : Dev) (n ldstat : Nat) : Dev :=
  let ran := (d.lane n).started && !(d.lane n).halted
  let d := (d.set (Reg.LANE_PROG_LDSTAT n) ldstat).updLane n (fun x => { x with started := false })
  ((d.wr (Reg.LANE_OVDEM n) 0).refreshMargin).raiseUnit (Reg.LANE_STAT n) 0 (if ran then [14, 2] else [14])

/-- The page's program is the lane's (R184, R251): ACTIVE takes SLOT, and LDSTAT reads 0. -/
def Dev.takeSlot (d : Dev) (n : Nat) : Dev :=
  ((d.set (Reg.LANE_PROG_ACTIVE n) (d.get (Reg.LANE_PROG_SLOT n))).set (Reg.LANE_PROG_LDSTAT n) 0).refreshSlots

/-- A bound lane starts its program afresh (R184, R193, R165, R306), COLD or at a RESTART of a lane that has not started. -/
def Dev.startOn (d : Dev) (n h reason : Nat) (dmg : Damage) : Dev :=
  let slot := d.get (Reg.LANE_PROG_SLOT n)
  let len := max (d.get (Reg.LANE_BKLOG_LEN n)) (d.imgBklog slot)
  let d := d.dropShadow n
  let d := ((d.killHearth h).freeHearthSet h).setHstate h stPrimary (some n)
  let d := d.updLane n (fun x => { x with bkPages := 0 })
  let d := d.takeSlot n
  let d := (d.set (Reg.LANE_DRAW_ACTIVE n) (d.get (Reg.LANE_DRAW_DELAY n))).set (Reg.LANE_BKLOG_ACTIVE n) len
  let d := ((d.set (Reg.LANE_CKPT_VALID n) 0).set (Reg.LANE_CKPT_COUNT n) 0).wr64 (Reg.LANE_CKSAMP_LO n) (Reg.LANE_CKSAMP_HI n) 0
  let pages := bkPagesFor len (d.dlog n)
  let need := pages + setPages (d.imgTiNeed slot)
  if !d.ready ∨ d.tiPages < d.tiUsed + need then ((d.allocFail 1 n need).loadFail n 0x38)
  else
    let (lostWord, d) := d.loadDamage slot dmg
    if lostWord then d.loadFail n 0x33
    else
      let cap := (len * 25000 + 16 * 2 ^ d.dlog n - 1) / (16 * 2 ^ d.dlog n)
      let d := d.updLane n (fun x => { x with
        bk := [], cur := [], bkBuf := [], bkPages := pages, bkCap := cap, started := true, halted := false, corr := 0, playout := false
        prev := [], sysHeld := [], floor := none, locked := false, lockFell := 0, mig := none, resync := none, appended := none })
      let d := match d.newSet n (d.imgTiNeed slot) with
        | some (i, d) => d.updHearth h (fun x => { x with set := some i })
        | none => d
      let d := (d.startHearth h slot reason none).wr (Reg.LANE_OVDEM n)
        (BitVec.ofNat 32 (d.img16 slot 0x34 * 65536 + d.img16 slot 0x36))
      (d.raise (Reg.LANE_STAT n) 1).refreshMargin.refreshAsh n

/-- EN = 1 or a new program applies to a lane, or RESTART names one that has not started (R155, R184): an unbound lane takes the lowest
FREE hearth, waits for a tested one, or stays stopped, with its program loaded at a later BIND. A BIND that waits goes on waiting. -/
def Dev.laneStart (d : Dev) (n reason : Nat) (dmg : Damage) : Dev :=
  match d.bound n with
  | some h => d.startOn n h reason dmg
  | none =>
    match d.hearthsIn stFree with
    | h :: _ => (d.bindTo n h).startOn n h reason dmg
    | [] =>
      let d := d.takeSlot n
      if d.awaitsTest then d.updLane n (fun x => { x with waitBind := if x.waitBind.any (·.isSome) then x.waitBind else some none })
      else d.raise (Reg.LANE_STAT n) 11

/-- A migration in progress is abandoned because EN went to 0 (R178). -/
def Dev.abortMig (d : Dev) (n : Nat) : Dev :=
  match (d.lane n).mig with
  | none => if d.get (Reg.LANE_BIND_MSTATE n) = 0 ∧ (d.lane n).resync.isNone then d
      else d.endMig n 0x16 (d.get (Reg.LANE_BIND_HEARTH n)) (d.get (Reg.LANE_BIND_HEARTH n))
  | some m =>
    let d :=
      match m.kind with
      | .planned => d.leave m.dst stFree
      | .unplanned => ((d.leave m.dst stFree).set (Reg.LANE_BIND_HVALID n) 0).set (Reg.LANE_BIND_HEARTH n) 0
      | .resync => (d.haltHearth m.dst).setHstate m.dst stPrimary (some n)
    d.endMig n 0x16 m.src m.dst

/-- EN = 0 applies (R156, R178): the program stops, the draw line plays out, then the backlog is released. -/
def Dev.laneStop (d : Dev) (n : Nat) : Dev :=
  let d := d.abortMig n
  let d := match (d.lane n).swap with
    | some s => ((d.leave s stFree).updLane n (fun x => { x with swap := none, swapCopy := false })).visitEnd 0
    | none => d
  let d := match d.bound n with | some h => d.haltHearth h | none => d
  let d := match d.shadowOf n with | some h => d.haltHearth h | none => d
  let d := (d.updLane n (fun x => { x with
    started := false, waitBind := if x.waitBind.any (·.isSome) then x.waitBind else none, playout := true })).wr (Reg.LANE_OVDEM n) 0
  let d := (d.raise (Reg.LANE_STAT n) 2).refreshMargin.refreshSlots
  if (d.lane n).main.isEmpty then d.releaseBacklog n else d

/-- The demand of a running program (R161, R244). -/
def Dev.showDemand (d : Dev) (n : Nat) : Dev :=
  let slot := d.laneSlot n
  (d.wr (Reg.LANE_OVDEM n) (BitVec.ofNat 32 (d.img16 slot 0x34 * 65536 + d.img16 slot 0x36))).refreshMargin

/-- The program starts again from its main entry on the same hearth (R163, R193); the checkpoint stays. A word damaged in both copies
stops the lane (R241). -/
def Dev.laneRestart (d : Dev) (n h : Nat) (dmg : Damage) : Dev :=
  let slot := d.laneSlot n
  let (lostWord, d) := d.loadDamage slot dmg
  if lostWord then (d.set (Reg.LANE_PROG_LDSTAT n) 0x33).haltLane n (if (d.hearth h).running then [14, 2] else [14])
  else
    let d := ((d.dropShadow n).killHearth h).updLane n (fun x => { x with halted := false, sysHeld := [] })
    ((d.startHearth h slot 1 none).showDemand n).raise (Reg.LANE_STAT n) 1

/-! ## Resync (R177, R228) -/

/-- The program of a lane is asked to resynchronise from a FAULT_T given as DEVTIME at the balls (R177): its lane sample number is in
SR_RSYNC. A lane in migration is asked as any other. -/
def Dev.askResync (d : Dev) (n faultT : Nat) : Dev :=
  let sample := d.ballSample n faultT
  if (d.lane n).started ∧ !(d.lane n).halted then
    let d := d.updLane n (fun x => { x with resync := some sample, resyncT := faultT })
    let d := match d.bound n with
      | some h => d.updHearth h (fun x => { x with rsync := sample })
      | none => d
    (d.sysPost n 0x10000000).migStart n (d.get (Reg.LANE_BIND_MSTATE n))
  else d

/-- KEEP: re-acquisition is complete at once (R177). A migration in progress goes on. -/
def Dev.resyncKeep (d : Dev) (n h : Nat) : Dev :=
  let d := d.wr (Reg.LANE_REACQ n) 0
  if (d.lane n).mig.isSome then (d.migRecord n 5 h h).updLane n (fun x => { x with resync := none }) else d.endMig n 5 h h

/-- The lane resumes on its own hearth from a FAULT_T, given as `now` and as DEVTIME (R177). -/
def Dev.resumeOwn (d : Dev) (n h fault faultT : Nat) : Dev :=
  let (k, d) := d.markFrom n fault
  let d := (d.killHearth h).setHstate h stJoining (some n)
  (d.updLane n (fun x => { x with mig := some (newMig .resync h h fault faultT k), resync := none })).set (Reg.LANE_BIND_MSTATE n) 1

/-- RESUME (R177). In a planned migration the target goes back and the lane resumes on the hearth it runs on; a lane that is resuming
already does so again, from the earlier FAULT_T before its splice and from the new one after it (log 95). -/
def Dev.resyncResume (d : Dev) (n h : Nat) : Dev :=
  let x := d.lane n
  let faultT := x.resyncT
  let fault := d.now - (d.devtime - faultT)
  match x.mig with
  | none => d.resumeOwn n h fault faultT
  | some m =>
    if m.kind = .planned then
      let d := if m.test then d.visitEnd 0 else d
      (d.leave m.dst stFree).resumeOwn n h fault faultT
    else if m.spliced then d.resumeOwn n h fault faultT
    else if fault < m.fault then d.resumeOwn n h fault faultT
    else
      let d := (d.killHearth h).setHstate h stJoining (some n)
      (d.updLane n (fun x => { x with mig := some { m with loaded := false, live := false }, resync := none })).set
        (Reg.LANE_BIND_MSTATE n) 1

end Sys2Proof.Machine
end

