-- ==== Sys2Proof/Machine/Flags.lean ====
section
/-! DEFINITION. The flags of a stoker thread and the conditions over them (R191, R197, R200, R202). -/

namespace Sys2Proof.Machine

/-- N and Z from a result; C, V and S kept. -/
def Thread.setNZ (t : Thread) (w : Word) : Thread := { t with n := w.msb, z := w == 0 }

/-- N, Z and C. -/
def Thread.setNZC (t : Thread) (w : Word) (c : Bool) : Thread := { t with n := w.msb, z := w == 0, c := c }

/-- N, Z, C and V. -/
def Thread.setNZCV (t : Thread) (w : Word) (c v : Bool) : Thread := { t with n := w.msb, z := w == 0, c := c, v := v }

/-- The carry out of an addition. -/
def addCarry (a b : Word) : Bool := decide (2 ^ 32 ≤ a.toNat + b.toNat)

/-- Signed overflow of an addition. -/
def addOverflow (a b : Word) : Bool := a.msb == b.msb && (a + b).msb != a.msb

/-- C after a subtraction: no borrow occurred (R197). -/
def subCarry (a b : Word) : Bool := decide (b.toNat ≤ a.toNat)

/-- Signed overflow of a subtraction. -/
def subOverflow (a b : Word) : Bool := a.msb != b.msb && (a - b).msb != a.msb

/-- C after a shift: the last bit shifted out, 0 for an amount of 0 (R200). -/
def shlCarry (a : Word) (n : Nat) : Bool := decide (n ≠ 0) && a.getLsbD (32 - n)
def shrCarry (a : Word) (n : Nat) : Bool := decide (n ≠ 0) && a.getLsbD (n - 1)

/-- The condition codes of R197. -/
def Thread.cond (t : Thread) (c : BitVec 4) : Bool :=
  match c.toNat with
  | 0 => t.z
  | 1 => !t.z
  | 2 => t.n != t.v
  | 3 => t.n == t.v
  | 4 => !t.z && t.n == t.v
  | 5 => t.z || t.n != t.v
  | 6 => !t.c
  | 7 => t.c
  | 8 => t.c && !t.z
  | 9 => !t.c || t.z
  | 10 => t.n
  | 11 => !t.n
  | 12 => t.v
  | 13 => !t.v
  | 14 => t.s
  | _ => true

/-- The flags as SR_FLAGS holds them: S, N, Z, C, V in [4:0]. -/
def Thread.flagWord (t : Thread) : Word :=
  BitVec.ofNat 32 (16 * t.s.toNat + 8 * t.n.toNat + 4 * t.z.toNat + 2 * t.c.toNat + t.v.toNat)

/-- The flags written through SR_FLAGS. -/
def Thread.setFlags (t : Thread) (w : Word) : Thread :=
  { t with s := w.getLsbD 4, n := w.getLsbD 3, z := w.getLsbD 2, c := w.getLsbD 1, v := w.getLsbD 0 }

/-- A value kept within 40 bits, and that it left them (R202). -/
def fits40 (i : Int) : Bool := decide (-(2 ^ 39) ≤ i) && decide (i < 2 ^ 39)

/-- An accumulator after an exact sum: it wraps and sets S when the sum leaves the 40-bit range (R202). -/
def Thread.setAcc (t : Thread) (x : Bool) (i : Int) : Thread :=
  let w := BitVec.ofInt 40 i
  let t := if x then { t with a1 := w } else { t with a0 := w }
  { t with s := t.s || !fits40 i }

end Sys2Proof.Machine
end

