-- ==== Sys2Proof/Machine/Operands.lean ====
section
/-! DEFINITION. The instruction words of the stoker (R194 to R205): every instruction with its fields, its word, the
instruction a word spells, the fields that make a word illegal, and the operand forms. -/

namespace Sys2Proof.Machine

/-- ALU operations with an immediate form whose second operand is 16 bits (R200). -/
inductive AluOp where
  | add | sub | and | or | xor
deriving DecidableEq, Repr

/-- The shifts. -/
inductive ShiftOp where
  | shl | shr | sar
deriving DecidableEq, Repr

/-- ALU operations with a register form alone. -/
inductive RegOp where
  | mul | min | max
deriving DecidableEq, Repr

/-- Loads and stores (R203). -/
inductive MemOp where
  | ldw | ldh | ldb | stw | sth | stb
deriving DecidableEq, Repr

/-- An instruction of the stoker, with the fields its format gives it; the predicate stands beside it. -/
inductive Yil where
  | alu (op : AluOp) (rd ra : BitVec 4) (o : Op2)
  | shift (op : ShiftOp) (rd ra : BitVec 4) (o : ShOp)
  | reg (op : RegOp) (rd ra rb : BitVec 4)
  | clz (rd ra : BitVec 4)
  | cmp (ra : BitVec 4) (o : Op2)
  | movi (rd : BitVec 4) (i : BitVec 16)
  | movhi (rd : BitVec 4) (i : BitVec 16)
  | pset (pd ps : BitVec 2) (cond : BitVec 4) (op : BitVec 2)
  | mac (fn : BitVec 4) (x : BitVec 1) (ra rb : BitVec 4)
  | sat (rd : BitVec 4) (x : BitVec 1) (sh : BitVec 5) (mode : BitVec 3)
  | mem (op : MemOp) (r ra : BitVec 4) (off : BitVec 16)
  | bcpy (rd ra n : BitVec 4)
  | br (off : BitVec 20)
  | bcc (c : BitVec 4) (off : BitVec 20)
  | call (off : BitVec 20)
  | ret (ra : BitVec 4)
  | loop (wc : BitVec 4) (off : BitVec 20)
  | uret
  | halt
  | nop
  | hput (unit cmd ws : BitVec 4) (imm : BitVec 12)
  | hget (rd unit : BitVec 4) (sel : BitVec 16)
  | hwait (unit : BitVec 4)
  | oreq (pd : BitVec 2) (wd ws : BitVec 4)
  | oawait (rd ra : BitVec 4)
  | areq (pd : BitVec 2) (wd ws : BitVec 4)
  | aawait (rd ra : BitVec 4)
  | tick (rd ra : BitVec 4)
  | yield (rd : BitVec 4) (mask : BitVec 16)
  | fwal (rs : BitVec 4) (tag : BitVec 12)
  | flput (ra : BitVec 4)
  | mget (rd box : BitVec 4)
  | mput (rs box : BitVec 4)
  | sysrd (rd ra : BitVec 4) (off : BitVec 16)
  | syswr (rs ra : BitVec 4) (off : BitVec 16)
deriving DecidableEq, Repr

/-! ## Words (R194) -/

/-- Opcode, predicate and the 24 bits below them. -/
def wordOf (op : BitVec 6) (p : BitVec 2) (b : BitVec 24) : Word := op ++ p ++ b

/-- The formats' 24 bits: REG, IMM, BR; HOB and MBX have the places of IMM with [15:12] apart. -/
def fReg (rd ra rb fn : BitVec 4) : BitVec 24 := rd ++ ra ++ rb ++ fn ++ 0#8
def fImm (rd ra : BitVec 4) (i : BitVec 16) : BitVec 24 := rd ++ ra ++ i
def fBr (c : BitVec 4) (off : BitVec 20) : BitVec 24 := c ++ off
def fHob (u c w : BitVec 4) (i : BitVec 12) : BitVec 24 := u ++ c ++ w ++ i

/-- The opcodes of the ALU instructions in their REG form; the IMM form is 0x10 higher (R200). -/
def AluOp.code : AluOp → BitVec 6
  | .add => 0x01
  | .sub => 0x02
  | .and => 0x03
  | .or => 0x04
  | .xor => 0x05

def ShiftOp.code : ShiftOp → BitVec 6
  | .shl => 0x06
  | .shr => 0x07
  | .sar => 0x08

def RegOp.code : RegOp → BitVec 6
  | .mul => 0x09
  | .min => 0x0A
  | .max => 0x0B

def MemOp.code : MemOp → BitVec 6
  | .ldw => 0x20
  | .ldh => 0x21
  | .ldb => 0x22
  | .stw => 0x23
  | .sth => 0x24
  | .stb => 0x25

/-- The word of an instruction under predicate `p` (R194 to R205). -/
def Yil.encode (p : BitVec 2) : Yil → Word
  | .alu op rd ra (.reg rb) => wordOf op.code p (fReg rd ra rb 0)
  | .alu op rd ra (.imm i) => wordOf (op.code ||| 0x10) p (fImm rd ra i)
  | .shift op rd ra (.reg rb) => wordOf op.code p (fReg rd ra rb 0)
  | .shift op rd ra (.imm i) => wordOf (op.code ||| 0x10) p (fImm rd ra (0#11 ++ i))
  | .reg op rd ra rb => wordOf op.code p (fReg rd ra rb 0)
  | .clz rd ra => wordOf 0x0C p (fReg rd ra 0 0)
  | .cmp ra (.reg rb) => wordOf 0x0D p (fReg 0 ra rb 0)
  | .cmp ra (.imm i) => wordOf 0x1D p (fImm 0 ra i)
  | .movi rd i => wordOf 0x1E p (fImm rd 0 i)
  | .movhi rd i => wordOf 0x1F p (fImm rd 0 i)
  | .pset pd ps cond op => wordOf 0x0E p (pd ++ ps ++ 0#8 ++ cond ++ op ++ 0#6)
  | .mac fn x ra rb => wordOf 0x0F p (0#3 ++ x ++ ra ++ rb ++ fn ++ 0#8)
  | .sat rd x sh mode => wordOf 0x10 p (rd ++ 0#3 ++ x ++ 0#8 ++ sh ++ mode)
  | .mem op r ra off => wordOf op.code p (fImm r ra off)
  | .bcpy rd ra n => wordOf 0x26 p (fReg rd ra 0 n)
  | .br off => wordOf 0x28 p (fBr 0 off)
  | .bcc c off => wordOf 0x29 p (fBr c off)
  | .call off => wordOf 0x2A p (fBr 0 off)
  | .ret ra => wordOf 0x2B p (fReg 0 ra 0 0)
  | .loop wc off => wordOf 0x2C p (fBr wc off)
  | .uret => wordOf 0x2D p 0
  | .halt => wordOf 0x2E p 0
  | .nop => wordOf 0x3F p 0
  | .hput unit cmd ws imm => wordOf 0x30 p (fHob unit cmd ws imm)
  | .hget rd unit sel => wordOf 0x31 p (fImm rd unit sel)
  | .hwait unit => wordOf 0x32 p (fHob unit 0 0 0)
  | .oreq pd wd ws => wordOf 0x33 p (fImm wd ws (pd ++ 0#14))
  | .oawait rd ra => wordOf 0x34 p (fReg rd ra 0 0)
  | .areq pd wd ws => wordOf 0x35 p (fImm wd ws (pd ++ 0#14))
  | .aawait rd ra => wordOf 0x36 p (fReg rd ra 0 0)
  | .tick rd ra => wordOf 0x37 p (fReg rd ra 0 0)
  | .yield rd mask => wordOf 0x38 p (fImm rd 0 mask)
  | .fwal rs tag => wordOf 0x39 p (fHob rs 0 0 tag)
  | .flput ra => wordOf 0x3A p (fHob 0 ra 0 0)
  | .mget rd box => wordOf 0x3B p (fHob rd 0 box 0)
  | .mput rs box => wordOf 0x3C p (fHob rs 0 box 0)
  | .sysrd rd ra off => wordOf 0x3D p (fImm rd ra off)
  | .syswr rs ra off => wordOf 0x3E p (fImm rs ra off)

/-- Commands each hob unit has (R212). -/
def unitCmds : Nat → Nat
  | 0 => 2
  | 1 => 3
  | 2 => 3
  | 3 => 1
  | 4 => 3
  | 5 => 2
  | 6 => 3
  | 7 => 2
  | 8 => 2
  | _ => 0

/-- The values a field may take, beyond those its place in the word bounds (R201, R202, R205, R213, R226, R235). -/
def Yil.legal : Yil → Bool
  | .pset pd ps cond op => pd != 0 && (op != 3 || cond == 15) && (op != 0 || ps == 0)
  | .mac fn _ ra rb => decide (fn.toNat ≤ 7) && (fn != 6 || (ra == 0 && rb == 0)) && (fn != 7 || rb == 0)
  | .sat _ _ _ mode => decide (mode.toNat < 4)
  | .hput unit cmd _ _ => decide (cmd.toNat < unitCmds unit.toNat)
  | .hget _ unit _ => decide (unit.toNat < 9)
  | .hwait unit => decide (unit.toNat < 9)
  | .mget _ box => decide (box.toNat < 3)
  | .mput _ box => box == 0 || box == 1 || box == 3
  | _ => true

/-- The fields of a word. -/
def wOp (w : Word) : Nat := (w.extractLsb' 26 6).toNat
def wPred (w : Word) : BitVec 2 := w.extractLsb' 24 2
def wA (w : Word) : BitVec 4 := w.extractLsb' 20 4
def wB (w : Word) : BitVec 4 := w.extractLsb' 16 4
def wC (w : Word) : BitVec 4 := w.extractLsb' 12 4
def wD (w : Word) : BitVec 4 := w.extractLsb' 8 4
def wImm (w : Word) : BitVec 16 := w.extractLsb' 0 16
def wOff (w : Word) : BitVec 20 := w.extractLsb' 0 20
def wImm12 (w : Word) : BitVec 12 := w.extractLsb' 0 12

/-- What an instruction's opcode and fields spell, before its unused fields are looked at. -/
def Yil.read (w : Word) : Option Yil :=
  match wOp w with
  | 0x01 => some (.alu .add (wA w) (wB w) (.reg (wC w)))
  | 0x02 => some (.alu .sub (wA w) (wB w) (.reg (wC w)))
  | 0x03 => some (.alu .and (wA w) (wB w) (.reg (wC w)))
  | 0x04 => some (.alu .or (wA w) (wB w) (.reg (wC w)))
  | 0x05 => some (.alu .xor (wA w) (wB w) (.reg (wC w)))
  | 0x06 => some (.shift .shl (wA w) (wB w) (.reg (wC w)))
  | 0x07 => some (.shift .shr (wA w) (wB w) (.reg (wC w)))
  | 0x08 => some (.shift .sar (wA w) (wB w) (.reg (wC w)))
  | 0x09 => some (.reg .mul (wA w) (wB w) (wC w))
  | 0x0A => some (.reg .min (wA w) (wB w) (wC w))
  | 0x0B => some (.reg .max (wA w) (wB w) (wC w))
  | 0x0C => some (.clz (wA w) (wB w))
  | 0x0D => some (.cmp (wB w) (.reg (wC w)))
  | 0x0E => some (.pset (w.extractLsb' 22 2) (w.extractLsb' 20 2) (wD w) (w.extractLsb' 6 2))
  | 0x0F => some (.mac (wD w) (w.extractLsb' 20 1) (wB w) (wC w))
  | 0x10 => some (.sat (wA w) (w.extractLsb' 16 1) (w.extractLsb' 3 5) (w.extractLsb' 0 3))
  | 0x11 => some (.alu .add (wA w) (wB w) (.imm (wImm w)))
  | 0x12 => some (.alu .sub (wA w) (wB w) (.imm (wImm w)))
  | 0x13 => some (.alu .and (wA w) (wB w) (.imm (wImm w)))
  | 0x14 => some (.alu .or (wA w) (wB w) (.imm (wImm w)))
  | 0x15 => some (.alu .xor (wA w) (wB w) (.imm (wImm w)))
  | 0x16 => some (.shift .shl (wA w) (wB w) (.imm (w.extractLsb' 0 5)))
  | 0x17 => some (.shift .shr (wA w) (wB w) (.imm (w.extractLsb' 0 5)))
  | 0x18 => some (.shift .sar (wA w) (wB w) (.imm (w.extractLsb' 0 5)))
  | 0x1D => some (.cmp (wB w) (.imm (wImm w)))
  | 0x1E => some (.movi (wA w) (wImm w))
  | 0x1F => some (.movhi (wA w) (wImm w))
  | 0x20 => some (.mem .ldw (wA w) (wB w) (wImm w))
  | 0x21 => some (.mem .ldh (wA w) (wB w) (wImm w))
  | 0x22 => some (.mem .ldb (wA w) (wB w) (wImm w))
  | 0x23 => some (.mem .stw (wA w) (wB w) (wImm w))
  | 0x24 => some (.mem .sth (wA w) (wB w) (wImm w))
  | 0x25 => some (.mem .stb (wA w) (wB w) (wImm w))
  | 0x26 => some (.bcpy (wA w) (wB w) (wD w))
  | 0x28 => some (.br (wOff w))
  | 0x29 => some (.bcc (wA w) (wOff w))
  | 0x2A => some (.call (wOff w))
  | 0x2B => some (.ret (wB w))
  | 0x2C => some (.loop (wA w) (wOff w))
  | 0x2D => some .uret
  | 0x2E => some .halt
  | 0x30 => some (.hput (wA w) (wB w) (wC w) (wImm12 w))
  | 0x31 => some (.hget (wA w) (wB w) (wImm w))
  | 0x32 => some (.hwait (wA w))
  | 0x33 => some (.oreq (w.extractLsb' 14 2) (wA w) (wB w))
  | 0x34 => some (.oawait (wA w) (wB w))
  | 0x35 => some (.areq (w.extractLsb' 14 2) (wA w) (wB w))
  | 0x36 => some (.aawait (wA w) (wB w))
  | 0x37 => some (.tick (wA w) (wB w))
  | 0x38 => some (.yield (wA w) (wImm w))
  | 0x39 => some (.fwal (wA w) (wImm12 w))
  | 0x3A => some (.flput (wB w))
  | 0x3B => some (.mget (wA w) (wC w))
  | 0x3C => some (.mput (wA w) (wC w))
  | 0x3D => some (.sysrd (wA w) (wB w) (wImm w))
  | 0x3E => some (.syswr (wA w) (wB w) (wImm w))
  | 0x3F => some .nop
  | _ => none

/-- The instruction a word spells with its predicate; none for an illegal word (R195): an unassigned opcode, a non-zero
unused field, a field value that is not listed. -/
def Yil.decode (w : Word) : Option (BitVec 2 × Yil) :=
  match Yil.read w with
  | some y => if y.legal && y.encode (wPred w) == w then some (wPred w, y) else none
  | none => none

/-! ## Operand forms (R200) -/

/-- A register of a thread. -/
def Thread.reg (t : Thread) (r : BitVec 4) : Word := SMap.get 0 t.w r.toNat

/-- A register written. -/
def Thread.setReg (t : Thread) (r : BitVec 4) (w : Word) : Thread := { t with w := SMap.put 0 t.w r.toNat w }

/-- A predicate; p0 always reads 1 (R191). -/
def Thread.pred (t : Thread) (p : BitVec 2) : Bool :=
  if p = 0 then true else if p = 1 then t.p1 else if p = 2 then t.p2 else t.p3

/-- A predicate written; a write to p0 is discarded (R191). -/
def Thread.setPred (t : Thread) (p : BitVec 2) (b : Bool) : Thread :=
  if p = 0 then t else if p = 1 then { t with p1 := b } else if p = 2 then { t with p2 := b } else { t with p3 := b }

/-- add, sub and cmp sign-extend imm16; and, or and xor zero-extend it. -/
def Thread.op2 (t : Thread) (o : Op2) (signed : Bool) : Word :=
  match o with
  | .reg rb => t.reg rb
  | .imm i => if signed then i.signExtend 32 else i.setWidth 32

/-- The shifts use op2[4:0]. -/
def Thread.shAmount (t : Thread) (o : ShOp) : Nat :=
  match o with
  | .reg rb => ((t.reg rb).setWidth 5).toNat
  | .imm i => i.toNat

/-- An accumulator; x selects a1. -/
def Thread.acc (t : Thread) (x : BitVec 1) : BitVec 40 := if x = 1 then t.a1 else t.a0

/-- The halves of a cell as Q15 integers: I in [15:0], Q in [31:16]. -/
def halfI (w : Word) : Int := (w.extractLsb' 0 16).toInt
def halfQ (w : Word) : Int := (w.extractLsb' 16 16).toInt

/-- P(u, v) of R202: the exact Q31 product. -/
def prodQ (u v : Int) : Int := 2 * (u * v)

/-- The effective address of a load, store or register access: ra plus the sign-extended offset. -/
def Thread.addr (t : Thread) (ra : BitVec 4) (off : BitVec 16) : Word := t.reg ra + off.signExtend 32

/-- The target of a branch at `pc`, as an integer: pc + 4 × off20 (R194). -/
def branchTo (pc : BitVec 14) (off : BitVec 20) : Int := (pc.toNat : Int) + 4 * off.toInt

end Sys2Proof.Machine
end

