-- ==== Sys2Proof/Machine/View.lean ====
section
/-! DEFINITION. What a read of a register shows: the stored word, or for the few registers that show other state a word
computed from it (R4, R10, R57, R78, R83). -/

namespace Sys2Proof.Machine

/-- SYS_FEAT1 of a part (R10). -/
def Part.feat1 (p : Part) : Nat :=
  p.ashMax * 2 ^ 24 + (2 ^ p.audio - 1) * 65536 + 32768 + b2n p.hasF1 * 16384 + 8192 + b2n p.hasSmoke * 4096 + b2n p.hasSmoke * 2048

/-- Vectors whose sources exist on the part (R8). -/
def Part.vecMask (p : Part) : Word :=
  BitVec.ofNat 32 (match p with
    | .fa9604 => 0x1FFFF
    | .fa9600 => 0x17FFF
    | .fa4802 => 0x1FCFF)

/-- SYS_VEC_STAT (R78). -/
def Dev.vecStat (d : Dev) : Word :=
  (List.range 17).foldl (fun w v => if d.vecPending v then w ||| BitVec.ofNat 32 (2 ^ v) else w) 0

/-- SYS_LANEPENDk. -/
def Dev.lanePend (d : Dev) (k : Nat) : Word :=
  (List.range 32).foldl (fun w i => if d.evtPending (Reg.LANE_STAT (32 * k + i)) then w ||| BitVec.ofNat 32 (2 ^ i) else w) 0
    &&& d.part.laneMask k

/-- The bits of a word that stand for units present on the part: the others read zero (R4, R11, R285). -/
def Part.unitMask (p : Part) (a : Nat) : Word :=
  if Reg.FWT_LMASK 0 ≤ a ∧ a ≤ Reg.FWT_LMASK 2 then p.laneMask ((a - Reg.FWT_LMASK 0) / 4)
  else if a = Reg.FWT_FRMCFG ∧ !p.hasF1 then 0xBFFFFFFF
  else if 0x300000 ≤ a ∧ a < 0x310000 ∧ 0x74 ≤ a % 0x4000 ∧ a % 0x4000 < 0x80 ∧ a % 0x10000 / 0x4000 ≠ 1 then p.laneMask ((a % 0x4000 - 0x74) / 4)
  else 0xFFFFFFFF

/-- The word a register shows, without side effect; buffered fields show their active copy. -/
def Dev.view (d : Dev) (a : Nat) : Word :=
  if !d.part.has a then 0
  else if a = Reg.SYS_ID then BitVec.ofNat 32 (0x0F1E * 65536 + d.part.code)
  else if a = Reg.SYS_FEAT0 then
    BitVec.ofNat 32 (d.part.hearths * 2 ^ 24 + d.part.lanes * 65536 + 16 * 2048 + 8 * 64 + 3 * 16 + 8)
  else if a = Reg.SYS_FEAT1 then BitVec.ofNat 32 d.part.feat1
  else if a = Reg.SYS_VEC_STAT then d.vecStat
  else if a = Reg.SYS_VEC_EN then d.rd a &&& d.part.vecMask
  else if a = Reg.SYS_LANEPEND 0 then d.lanePend 0
  else if a = Reg.SYS_LANEPEND 1 then d.lanePend 1
  else if a = Reg.SYS_LANEPEND 2 then d.lanePend 2
  else if a = Reg.SYS_TIME_LO then lo32 d.devtime
  else if a = Reg.SYS_TIME_HI then hi32 d.devtime
  else if a = Reg.GRT_SCOUNT_LO then lo32 d.scount
  else if a = Reg.GRT_SCOUNT_HI then hi32 d.scount
  else if 0x100000 ≤ a ∧ a = Reg.LANE_MIG ((a - 0x100000) / 0x1000) then putBits (d.rd a) 15 0 (d.laneLag ((a - 0x100000) / 0x1000))
  else if Reg.BST_EXP 0 0 ≤ a ∧ a < Reg.BST_EXP 8 0 then Config.bistSignature ((a - Reg.BST_EXP 0 0) / 16) ((a - Reg.BST_EXP 0 0) / 4 % 4)
  else d.rd a &&& d.part.unitMask a

/-- The word as the host sees it: buffered fields show their shadow (R57). -/
def Dev.hostView (d : Dev) (a : Nat) : Word :=
  let m := rwbMask a
  if m = 0 ∨ !d.part.has a ∨ d.smoke.embOld.contains a then d.view a else mergeMask m (d.view a) (d.sh a) &&& d.part.unitMask a

end Sys2Proof.Machine
end

