-- ==== Sys2Proof/Machine/Stoker.lean ====
section
/-! DEFINITION. What every instruction of a stoker is built on: issue (R194 to R199, R207), exceptions (R235, R236), data
memory (R192, R203), the urgent mailbox (R207) and the registers lanes reach (R230, R231). -/

namespace Sys2Proof.Machine

/-! ## Threads -/

/-- The thread that has the stoker. -/
def Hearth.thr (x : Hearth) : Thread := if x.urgOn then x.urg else x.main
def Hearth.setThr (x : Hearth) (t : Thread) : Hearth := if x.urgOn then { x with urg := t } else { x with main := t }

/-- Past the current instruction; the PC has 14 bits. -/
def Thread.next (t : Thread) : Thread := { t with pc := t.pc + 4 }

/-- The word at the PC. -/
def Hearth.fetchWord (x : Hearth) : Word := Memory.readWord x.imem x.thr.pc.toNat

/-- An instruction may issue: the program runs, and URGENT has the stoker, or MAIN has it, waits for nothing and no urgent
word is pending (R199, R207). -/
def Dev.canIssue (d : Dev) (h : Nat) : Bool :=
  let x := d.hearth h
  x.running && (x.urgOn || (x.wait.isNone && x.umbox.isEmpty))

/-- The present thread changed, then past the instruction. -/
def Dev.thr (d : Dev) (h : Nat) (f : Thread → Thread) : Dev := d.updHearth h (fun x => x.setThr (f x.thr).next)

/-- An exception (R235, R236): logged with class, subcode, thread, PC, instruction word and address; both threads stop. -/
def Dev.exception (d : Dev) (h cls sub : Nat) (addr : Option Word) : Dev :=
  let x := d.hearth h
  let n := (d.laneOf h).getD 0
  let det := cls * 2 ^ 28 + sub * 2 ^ 24 + b2n x.urgOn * 2 ^ 23 + n * 65536 + x.thr.pc.toNat
  (d.sootC 2 (0x80 + h) 0x4004 (BitVec.ofNat 32 det) (some (x.fetchWord, addr.getD 0, 0))).haltLane n [3, 2]

/-- A double-bit error of a stoker memory declares the hearth failed; a corrected one is counted (R163). -/
def Dev.eccThen (d : Dev) (h cause : Nat) (e : Ecc) (f : Dev → Dev) : Dev :=
  match e with
  | .clean => f d
  | .single => f (d.corrected h)
  | .double => d.declareFail h cause d.now d.devtime

/-- An instruction issues (R194 to R196, R235): it must stand at the PC; a false predicate makes it do nothing; an illegal
field traps; else `f` does it. -/
def Dev.issue (d : Dev) (i : Issue) (y : Yil) (f : Dev → Dev) : Dev :=
  let h := i.hearth
  if !d.canIssue h || (d.hearth h).fetchWord != y.encode i.pred then d
  else d.eccThen h 1 i.fetch (fun d =>
    let d := d.updHearth h (fun x => { x with lastRetire := d.now })
    if !(d.hearth h).thr.pred i.pred then d.thr h id
    else if !y.legal then d.exception h 1 2 none
    else f d)

/-- An instruction that only changes its thread. -/
def Dev.alu (d : Dev) (i : Issue) (y : Yil) (f : Thread → Thread) : Dev := d.issue i y (fun d => d.thr i.hearth f)

/-- MAIN starts to wait; its PC stays at the instruction (R199). -/
def Dev.waitFor (d : Dev) (h : Nat) (w : Wait) : Dev := d.updHearth h (fun x => { x with wait := some w })

/-- The hearth resumes its lane and has not acquired yet: it applies no page that the host committed since (R64). -/
def Dev.acquiring (d : Dev) (n h : Nat) : Bool :=
  (d.lane n).mig.any (fun m => m.kind != .planned && m.dst == h && !m.live)

/-- The lane page of a hearth was captured 250 ms ago or more, and the program has reached no apply point: it applies at MAIN's next
wait instruction (R230). -/
def Dev.applyDue (d : Dev) (h : Nat) : Bool :=
  (d.laneOf h).any (fun n => d.bound n == some h && !d.acquiring n h && decide ((d.lane n).prev.length ≤ (d.hearth h).applied)
    && d.captures.any (fun c => c.page == pageOf (Reg.LANE_CTL n) && decide (c.at_ + 250000000 ≤ d.now)))

/-- MAIN executes a wait instruction: a page that is due applies while it waits (R230), and it ends as its condition says; else `f`
does it. -/
def Dev.waitIns (d : Dev) (h : Nat) (w : Wait) (f : Dev → Dev) : Dev := if d.applyDue h then d.waitFor h w else f d

/-! ## Data memory (R192, R203) -/

/-- An access of `n` bytes at an address: in DMEM and aligned, or the subcode of the D-memory range exception (R203, R235). -/
def dmemCheck (a : Word) (len align : Nat) : Option Nat :=
  if 0x8000 ≤ a.toNat then some 1 else if a.toNat % align ≠ 0 then some 2
  else if 0x8000 < a.toNat + len then some 1 else none

/-- An access checked; the exception records the address. -/
def Dev.dmem (d : Dev) (h : Nat) (a : Word) (len align : Nat) (f : Dev → Dev) : Dev :=
  match dmemCheck a len align with
  | some sub => d.exception h 3 sub (some a)
  | none => f d

/-- A halfword of data memory. -/
def Memory.readHalf (m : Memory) (a : Nat) : BitVec 16 := Memory.read m (a + 1) ++ Memory.read m a

/-- A descriptor of four words in data memory. -/
def Memory.readDesc (m : Memory) (a : Nat) : Desc :=
  ⟨Memory.readWord m a, Memory.readWord m (a + 4), Memory.readWord m (a + 8), Memory.readWord m (a + 12)⟩

/-! ## The urgent mailbox (R207) -/

/-- A word arrives at the urgent mailbox: discarded at a full one, with OVF and a soot entry. -/
def Dev.urgentPut (d : Dev) (h : Nat) (w : Word) : Dev :=
  let x := d.hearth h
  if x.umbox.length < 8 then d.setHearth h { x with umbox := x.umbox ++ [w] }
  else (d.setHearth h { x with uovf := true }).sootE 1 (0x80 + h) 0x4006 ((d.laneOf h).getD 0 * 65536)

/-! ## What a program sees of its hob, tickets and mailboxes (R212, R222, SR_TKT) -/

def Hearth.unit (x : Hearth) (u : Nat) : HobUnit := SMap.get {} x.units u
def Hearth.setUnit (x : Hearth) (u : Nat) (q : HobUnit) : Hearth := { x with units := SMap.put {} x.units u q }

/-- A unit is idle with an empty queue. -/
def HobUnit.idle (q : HobUnit) : Bool := q.queue.isEmpty && q.running.isNone

/-- hget with sel 0 (R212). -/
def HobUnit.status (q : HobUnit) : Word :=
  BitVec.ofNat 32 (q.err % 256 * 2 ^ 24 + q.done % 256 * 65536 + q.queue.length % 16 * 16 + b2n q.running.isSome)

def Hearth.oven (x : Hearth) (t : Nat) : Option OTicket := SMap.get none x.ovens t
def Hearth.ash (x : Hearth) (t : Nat) : Option ATicket := SMap.get none x.ashes t

/-- Bit masks of tickets that satisfy a test. -/
def bitsOf (n : Nat) (q : Nat → Bool) : Nat := ((List.range n).map (fun i => b2n (q i) * 2 ^ i)).foldl (· + ·) 0

/-- SR_TKT. -/
def Hearth.tkt (x : Hearth) : Word :=
  let odone := fun t => match x.oven t with | some k => k.done.isSome | none => false
  let adone := fun t => match x.ash t with | some k => k.done.isSome | none => false
  BitVec.ofNat 32 (bitsOf 8 adone * 2 ^ 24 + bitsOf 8 (fun t => (x.ash t).isSome) * 65536 + x.tiOut % 16 * 4096
    + bitsOf 4 odone * 16 + bitsOf 4 (fun t => (x.oven t).isSome))

/-- The pending word of yield (R222). -/
def Hearth.pendingWord (x : Hearth) : Word :=
  let us := (List.range 9).map x.unit
  BitVec.ofNat 32
    (b2n (us.any (fun q => q.used && q.idle))
      + 2 * b2n ((List.range 4).any (fun t => match x.oven t with | some k => k.done.isSome | none => false))
      + 4 * b2n ((List.range 8).any (fun t => match x.ash t with | some k => k.done.isSome | none => false))
      + 8 * b2n (!x.sys.isEmpty) + 16 * b2n x.hin + 32 * b2n (decide (x.flq.length < 64)) + 64 * b2n x.newSmp + 128 * b2n (us.any (·.herr)))

/-- ROLE of SR_CTX, and the role of an alert event (R225): 0 PRIMARY, 1 SHADOW, 2 JOINING. -/
def Dev.role (d : Dev) (h : Nat) : Nat := if d.hstate h = stJoining then 2 else if d.hstate h = stShadow then 1 else 0

/-! ## Registers reached by sysrd and syswr (R231) -/

/-- The key of a latched high word: who reads, and which register. -/
def portKey : Initiator → Nat
  | .bar0 => 0
  | .bar2 => 1
  | .spi _ => 2
  | .mantel => 3
  | .stoker h => 16 + h
def latchKey (who : Initiator) (hi : Nat) : Nat := hi * 256 + portKey who

/-- A LO read latches the word for the next HI read of the same port (R83, R130, R221). -/
def Dev.latch (d : Dev) (who : Initiator) (hi : Nat) (w : Word) : Dev :=
  { d with latches := SMap.put none d.latches (latchKey who hi) (some w) }

/-- The next HI read takes the latched word, or the live one. -/
def Dev.takeLatch (d : Dev) (who : Initiator) (hi : Nat) (live : Word) : Word × Dev :=
  match SMap.get none d.latches (latchKey who hi) with
  | some w => (w, { d with latches := SMap.put none d.latches (latchKey who hi) none })
  | none => (live, d)

/-- A block address as the map has it: SELF_LANE and SELF_GRT stand for the lane's own (R231). -/
def selfAddr (n a : Nat) : Nat :=
  if 0xFF0000 ≤ a ∧ a < 0xFF1000 then 0x100000 + n * 0x1000 + (a - 0xFF0000)
  else if 0xFF1000 ≤ a ∧ a < 0xFF1020 then Reg.GRT_LCFG (n / 8) (n % 8) + (a - 0xFF1000)
  else a

/-- An address lies in the SR block. -/
def isSr (a : Nat) : Bool := decide (0xFF2000 ≤ a) && decide (a < 0xFF2100)

/-- A lane's own window. -/
def inWindow (n a : Nat) : Bool := decide (0x100000 + n * 0x1000 ≤ a) && decide (a < 0x100000 + (n + 1) * 0x1000)

/-- A register outside SR that a lane's stoker may read (R128, R148, R189, R231, R36). -/
def mayRead (n a : Nat) : Bool :=
  let b := selfAddr n a
  inWindow n b
    || (decide (Reg.GRT_LCFG (n / 8) (n % 8) ≤ b) && decide (b < Reg.GRT_LCFG (n / 8) (n % 8) + 0x20))
    || (decide (Reg.GRT_PWR 0 0 ≤ b) && decide (b < Reg.GRT_PWR 2 0))
    || [Reg.CAP_ROLE, Reg.SYS_ID, Reg.SYS_REV, Reg.SYS_FEAT0, Reg.SYS_FEAT1, Reg.SYS_TIME_LO, Reg.SYS_TIME_HI, Reg.SYS_MARGIN].contains b
    || (List.range 3).any (fun c => [Reg.CAP_CC_STAT c, Reg.CAP_CC_LVL c, Reg.CAP_CC_PWR c].contains b)

/-- A register outside SR that it may write (R189). -/
def mayWrite (n a : Nat) : Bool :=
  let b := selfAddr n a
  b == Reg.LANE_CKPT n || b == Reg.LANE_CKSAMP_LO n || b == Reg.LANE_CKSAMP_HI n
    || (decide (Reg.LANE_LRB n 0 ≤ b) && decide (b < Reg.LANE_LRB n 128))
    || (decide (Reg.LANE_MBOUT n 0 ≤ b) && decide (b < Reg.LANE_MBOUT n 128))

/-- A register of the stoker itself that is listed (the table of stoker registers), and those it may write. -/
def srListed (a : Nat) : Bool := isSr a && decide (a % 4 = 0) && decide (a - 0xFF2000 ≤ 0x38)
def srWritable (a : Nat) : Bool := a == 0xFF2028 || a == 0xFF2034

/-- The word a stoker sees at a register: as any read, the shadow of a buffered field (R12, R57); the previous active copy
of its page until its program reaches the sample of the apply (R168); its own staged checkpoint sample and the words it wrote while
another hearth feeds the lane. -/
def Dev.laneView (d : Dev) (h n b : Nat) : Word :=
  let x := d.lane n
  let y := d.hearth h
  if d.bound n ≠ some h ∧ b = Reg.LANE_CKSAMP_LO n then y.ckLo
  else if d.bound n ≠ some h ∧ b = Reg.LANE_CKSAMP_HI n then y.ckHi
  else match (if d.bound n = some h then none else SMap.find? b y.own) with
    | some w => w
    | none => match x.prev[y.applied]? with
      | some e => (SMap.find? b e.1).getD (d.hostView b)
      | none => d.hostView b

/-- The SR registers (their table). SR_SAMPLE_LO latches its high half; SR_APPLY is read by the apply point alone. -/
def Dev.srRead (d : Dev) (h a : Nat) : Word × Dev :=
  let x := d.hearth h
  let n := (d.laneOf h).getD 0
  match a - 0xFF2000 with
  | 0x00 => (lo32 x.smp, d.latch (.stoker h) 0xFF2004 (hi32 x.smp))
  | 0x04 => d.takeLatch (.stoker h) 0xFF2004 (hi32 x.smp)
  | 0x08 => (BitVec.ofNat 32 ((d.now - x.startAt) * 2 / 5), d)
  | 0x0C => (BitVec.ofNat 32 (n * 65536 + h * 256 + d.role h * 2 + b2n x.urgOn), d)
  | 0x10 => (BitVec.ofNat 32 x.start, d)
  | 0x14 => (lo32 x.ckSamp, d)
  | 0x18 => (hi32 x.ckSamp, d)
  | 0x1C => (lo32 x.rsync, d)
  | 0x20 => (hi32 x.rsync, d)
  | 0x28 => (BitVec.ofNat 32 (b2n x.uovf * 256 + x.umbox.length), d)
  | 0x2C => (x.tkt, d)
  | 0x30 => (BitVec.ofNat 32 (64 - x.flq.length), d)
  | 0x34 => (x.thr.flagWord, d)
  | 0x38 => (BitVec.ofNat 32 x.flbad, d)
  | _ => (0, d)

/-- A word written to SR_UMBOX or SR_FLAGS. -/
def Dev.srWrite (d : Dev) (h a : Nat) (w : Word) : Dev :=
  if a = 0xFF2028 then d.updHearth h (fun x => { x with uovf := x.uovf && !bit w 8 })
  else d.updHearth h (fun x => x.setThr (x.thr.setFlags w))

/-- The history of applies that every program of a lane has behind it is dropped (R168). -/
def Dev.pruneApplies (d : Dev) (n : Nat) : Dev :=
  let hs := (d.laneHearths n).filter (fun h => (d.hearth h).running)
  let k := hs.foldl (fun k h => min k (d.hearth h).applied) (d.lane n).prev.length
  let d := hs.foldl (fun d h => d.updHearth h (fun x => { x with applied := x.applied - k })) d
  d.updLane n (fun y => { y with prev := y.prev.drop k })

/-- A checkpoint is committed (R167, R168, R232, R308): the slot becomes the set's valid one; the primary's shows. -/
def Dev.commitCkpt (d : Dev) (h n : Nat) (w : Word) : Dev :=
  let x := d.hearth h
  let k := b2n (bit w 30)
  match x.set.bind d.setMem with
  | none => d
  | some s =>
    let c : CkSlot := ⟨of64 x.ckLo x.ckHi, d.now, true⟩
    let s := if k = 0 then { s with slot0 := some c, valid := some 0 } else { s with slot1 := some c, valid := some 1 }
    let d := d.putSet (x.set.getD 0) (some s)
    if d.bound n = some h then
      ((d.incMod (Reg.LANE_CKPT_COUNT n) 1).showCkpt n).pruneApplies n
    else d

/-- A posted write takes effect (R231). The LRB and the outbound mailbox show the words of the lane's bound hearth; another hearth of
the lane keeps its own (log 92). -/
def Dev.postedWrite (d : Dev) (h b : Nat) (w : Word) : Dev :=
  match d.laneOf h with
  | none => d
  | some n =>
    let own := d.bound n == some h
    if b = Reg.LANE_CKPT n then d.commitCkpt h n w
    else if b = Reg.LANE_CKSAMP_LO n then
      let d := d.updHearth h (fun x => { x with ckLo := w })
      if own then d.wr b w else d
    else if b = Reg.LANE_CKSAMP_HI n then
      let d := d.updHearth h (fun x => { x with ckHi := w })
      if own then d.wr b w else d
    else if !own then d.updHearth h (fun x => { x with own := SMap.ins b w (SMap.erase b x.own) })
    else if Reg.LANE_LRB n 0 ≤ b ∧ b < Reg.LANE_LRB n 128 then d.lrbWrite n b w
    else d.wr b w

/-- The posting buffer of a hearth takes effect, oldest first. -/
def Dev.drainPosted (d : Dev) (h : Nat) : Dev :=
  (d.hearth h).posted.foldl (fun d c => d.postedWrite h c.1 c.2) (d.updHearth h (fun x => { x with posted := [] }))

/-- A stoker's access outside what lanes may reach: logged as R74, and the exception (R231, R235). -/
def Dev.privFault (d : Dev) (h sub : Nat) (a : Word) (write : Bool) : Dev :=
  ((d.sootE 1 (0x80 + h) 0xC001 (b2n write * 2 ^ 31 + a.toNat % 2 ^ 26)).raise Reg.SYS_EVT 3).exception h 2 sub (some a)

/-- The value of a register outside SR, with its read side effect. -/
def Dev.sysRead (d : Dev) (h a : Nat) : Word × Dev :=
  let n := (d.laneOf h).getD 0
  let b := selfAddr n a
  if b = Reg.SYS_TIME_LO then (lo32 d.devtime, d.latch (.stoker h) Reg.SYS_TIME_HI (hi32 d.devtime))
  else if b = Reg.SYS_TIME_HI then d.takeLatch (.stoker h) Reg.SYS_TIME_HI (hi32 d.devtime)
  else (d.laneView h n b, d)

end Sys2Proof.Machine
end

