-- ==== Sys2Proof/Machine/Alu.lean ====
section
/-! DEFINITION. The arithmetic of the stoker: ALU (R200), predicates (R201) and accumulators (R202). -/

namespace Sys2Proof.Machine

/-- The result of an ALU operation on a thread (R200). -/
def Thread.doAlu (t : Thread) (op : AluOp) (rd ra : BitVec 4) (o : Op2) : Thread :=
  let a := t.reg ra
  match op with
  | .add => let b := t.op2 o true; (t.setReg rd (a + b)).setNZCV (a + b) (addCarry a b) (addOverflow a b)
  | .sub => let b := t.op2 o true; (t.setReg rd (a - b)).setNZCV (a - b) (subCarry a b) (subOverflow a b)
  | .and => let w := a &&& t.op2 o false; (t.setReg rd w).setNZ w
  | .or => let w := a ||| t.op2 o false; (t.setReg rd w).setNZ w
  | .xor => let w := a ^^^ t.op2 o false; (t.setReg rd w).setNZ w

/-- The result of a shift: NZ of the result, C the last bit shifted out (R200). -/
def Thread.doShift (t : Thread) (op : ShiftOp) (rd ra : BitVec 4) (o : ShOp) : Thread :=
  let a := t.reg ra
  let n := t.shAmount o
  match op with
  | .shl => (t.setReg rd (a <<< n)).setNZC (a <<< n) (shlCarry a n)
  | .shr => (t.setReg rd (a >>> n)).setNZC (a >>> n) (shrCarry a n)
  | .sar => (t.setReg rd (a.sshiftRight n)).setNZC (a.sshiftRight n) (shrCarry a n)

/-- mul, min and max, setting NZ (R200). -/
def Thread.doReg (t : Thread) (op : RegOp) (rd ra rb : BitVec 4) : Thread :=
  let a := t.reg ra
  let b := t.reg rb
  let w := match op with
    | .mul => a * b
    | .min => if a.toInt ≤ b.toInt then a else b
    | .max => if a.toInt ≤ b.toInt then b else a
  (t.setReg rd w).setNZ w

/-- The number of leading zero bits, 0 to 32. -/
def leadingZeros (w : Word) : Nat := ((List.range 32).find? (fun i => w.getLsbD (31 - i))).getD 32

/-- A predicate from a condition (R201). -/
def Thread.doPset (t : Thread) (pd ps : BitVec 2) (cond : BitVec 4) (op : BitVec 2) : Thread :=
  let c := t.cond cond
  let s := t.pred ps
  t.setPred pd (if op = 0 then c else if op = 1 then s && c else if op = 2 then s || c else !s)

/-- The accumulator operations by fn (R202): exact in the integers, then wrapped at 40 bits with S set. -/
def Thread.doMac (t : Thread) (fn : BitVec 4) (x : BitVec 1) (ra rb : BitVec 4) : Thread :=
  let a := t.reg ra
  let b := t.reg rb
  let v := (t.acc x).toInt
  let k := x == 1
  match fn.toNat with
  | 0 => t.setAcc k (v + prodQ (halfI a) (halfI b))
  | 1 => t.setAcc k (v - prodQ (halfI a) (halfI b))
  | 2 => t.setAcc k (prodQ (halfI a) (halfI b))
  | 3 => t.setAcc k (v + prodQ (halfQ a) (halfQ b))
  | 4 => (t.setAcc false (t.a0.toInt + prodQ (halfI a) (halfI b) - prodQ (halfQ a) (halfQ b))).setAcc true
      (t.a1.toInt + prodQ (halfI a) (halfQ b) + prodQ (halfQ a) (halfI b))
  | 5 => (t.setAcc false (t.a0.toInt + prodQ (halfI a) (halfI b) + prodQ (halfQ a) (halfQ b))).setAcc true
      (t.a1.toInt + prodQ (halfQ a) (halfI b) - prodQ (halfI a) (halfQ b))
  | 6 => t.setAcc k 0
  | _ => t.setAcc k a.toInt

/-- An accumulator shifted right with rounding to nearest, ties away from zero (R202, mode 2). -/
def roundShift (v : Int) (n : Nat) : Int :=
  if n = 0 then v else if 0 ≤ v then (v + 2 ^ (n - 1)) / 2 ^ n else -((-v + 2 ^ (n - 1)) / 2 ^ n)

/-- A value saturated, and that saturation took place. -/
def satTo (bits : Nat) (v : Int) : Int × Bool :=
  let w := clampI (-(2 ^ (bits - 1))) (2 ^ (bits - 1) - 1) v
  (w, w != v)

/-- sat (R202). -/
def Thread.doSat (t : Thread) (rd : BitVec 4) (x : BitVec 1) (sh : BitVec 5) (mode : BitVec 3) : Thread :=
  let a := (t.acc x).toInt
  let v := a / 2 ^ sh.toNat
  let (w, s) := match mode.toNat with
    | 0 => satTo 32 v
    | 1 => satTo 16 v
    | 2 => satTo 16 (roundShift a sh.toNat)
    | _ => (v, false)
  { t.setReg rd (BitVec.ofInt 32 w) with s := t.s || s }

/-- add (R200). -/
def execAdd (i : Issue) (rd ra : BitVec 4) (o : Op2) (s : State) : Host.Outcome State Fault Refusal :=
  s.onDev (fun d => d.alu i (.alu .add rd ra o) (fun t => t.doAlu .add rd ra o))

/-- sub (R200). -/
def execSub (i : Issue) (rd ra : BitVec 4) (o : Op2) (s : State) : Host.Outcome State Fault Refusal :=
  s.onDev (fun d => d.alu i (.alu .sub rd ra o) (fun t => t.doAlu .sub rd ra o))

/-- and (R200). -/
def execAnd (i : Issue) (rd ra : BitVec 4) (o : Op2) (s : State) : Host.Outcome State Fault Refusal :=
  s.onDev (fun d => d.alu i (.alu .and rd ra o) (fun t => t.doAlu .and rd ra o))

/-- or (R200). -/
def execOr (i : Issue) (rd ra : BitVec 4) (o : Op2) (s : State) : Host.Outcome State Fault Refusal :=
  s.onDev (fun d => d.alu i (.alu .or rd ra o) (fun t => t.doAlu .or rd ra o))

/-- xor (R200). -/
def execXor (i : Issue) (rd ra : BitVec 4) (o : Op2) (s : State) : Host.Outcome State Fault Refusal :=
  s.onDev (fun d => d.alu i (.alu .xor rd ra o) (fun t => t.doAlu .xor rd ra o))

/-- shl (R200). -/
def execShl (i : Issue) (rd ra : BitVec 4) (o : ShOp) (s : State) : Host.Outcome State Fault Refusal :=
  s.onDev (fun d => d.alu i (.shift .shl rd ra o) (fun t => t.doShift .shl rd ra o))

/-- shr (R200). -/
def execShr (i : Issue) (rd ra : BitVec 4) (o : ShOp) (s : State) : Host.Outcome State Fault Refusal :=
  s.onDev (fun d => d.alu i (.shift .shr rd ra o) (fun t => t.doShift .shr rd ra o))

/-- sar (R200). -/
def execSar (i : Issue) (rd ra : BitVec 4) (o : ShOp) (s : State) : Host.Outcome State Fault Refusal :=
  s.onDev (fun d => d.alu i (.shift .sar rd ra o) (fun t => t.doShift .sar rd ra o))

/-- mul (R200). -/
def execMul (i : Issue) (rd ra rb : BitVec 4) (s : State) : Host.Outcome State Fault Refusal :=
  s.onDev (fun d => d.alu i (.reg .mul rd ra rb) (fun t => t.doReg .mul rd ra rb))

/-- min (R200). -/
def execMin (i : Issue) (rd ra rb : BitVec 4) (s : State) : Host.Outcome State Fault Refusal :=
  s.onDev (fun d => d.alu i (.reg .min rd ra rb) (fun t => t.doReg .min rd ra rb))

/-- max (R200). -/
def execMax (i : Issue) (rd ra rb : BitVec 4) (s : State) : Host.Outcome State Fault Refusal :=
  s.onDev (fun d => d.alu i (.reg .max rd ra rb) (fun t => t.doReg .max rd ra rb))

/-- clz (R200). -/
def execClz (i : Issue) (rd ra : BitVec 4) (s : State) : Host.Outcome State Fault Refusal :=
  s.onDev (fun d => d.alu i (.clz rd ra) (fun t =>
    let w := BitVec.ofNat 32 (leadingZeros (t.reg ra))
    (t.setReg rd w).setNZ w))

/-- cmp (R200). -/
def execCmp (i : Issue) (ra : BitVec 4) (o : Op2) (s : State) : Host.Outcome State Fault Refusal :=
  s.onDev (fun d => d.alu i (.cmp ra o) (fun t =>
    let a := t.reg ra
    let b := t.op2 o true
    t.setNZCV (a - b) (subCarry a b) (subOverflow a b)))

/-- movi (R200). -/
def execMovi (i : Issue) (rd : BitVec 4) (v : BitVec 16) (s : State) : Host.Outcome State Fault Refusal :=
  s.onDev (fun d => d.alu i (.movi rd v) (fun t => (t.setReg rd (v.setWidth 32)).setNZ (v.setWidth 32)))

/-- movhi (R200). -/
def execMovhi (i : Issue) (rd : BitVec 4) (v : BitVec 16) (s : State) : Host.Outcome State Fault Refusal :=
  s.onDev (fun d => d.alu i (.movhi rd v) (fun t =>
    let w : Word := v ++ (t.reg rd).setWidth 16
    (t.setReg rd w).setNZ w))

/-- pset, op 0 (R201). -/
def execPsetCond (i : Issue) (pd ps : BitVec 2) (cond : BitVec 4) (s : State) : Host.Outcome State Fault Refusal :=
  s.onDev (fun d => d.alu i (.pset pd ps cond 0) (fun t => t.doPset pd ps cond 0))

/-- pset, op 1 (R201). -/
def execPsetAnd (i : Issue) (pd ps : BitVec 2) (cond : BitVec 4) (s : State) : Host.Outcome State Fault Refusal :=
  s.onDev (fun d => d.alu i (.pset pd ps cond 1) (fun t => t.doPset pd ps cond 1))

/-- pset, op 2 (R201). -/
def execPsetOr (i : Issue) (pd ps : BitVec 2) (cond : BitVec 4) (s : State) : Host.Outcome State Fault Refusal :=
  s.onDev (fun d => d.alu i (.pset pd ps cond 2) (fun t => t.doPset pd ps cond 2))

/-- pset, op 3 (R201). -/
def execPsetNot (i : Issue) (pd ps : BitVec 2) (cond : BitVec 4) (s : State) : Host.Outcome State Fault Refusal :=
  s.onDev (fun d => d.alu i (.pset pd ps cond 3) (fun t => t.doPset pd ps cond 3))

/-- mac, fn 0 (R202). -/
def execMac (i : Issue) (x : BitVec 1) (ra rb : BitVec 4) (s : State) : Host.Outcome State Fault Refusal :=
  s.onDev (fun d => d.alu i (.mac 0 x ra rb) (fun t => t.doMac 0 x ra rb))

/-- mac, fn 1 (R202). -/
def execMsu (i : Issue) (x : BitVec 1) (ra rb : BitVec 4) (s : State) : Host.Outcome State Fault Refusal :=
  s.onDev (fun d => d.alu i (.mac 1 x ra rb) (fun t => t.doMac 1 x ra rb))

/-- mac, fn 2 (R202). -/
def execMpy (i : Issue) (x : BitVec 1) (ra rb : BitVec 4) (s : State) : Host.Outcome State Fault Refusal :=
  s.onDev (fun d => d.alu i (.mac 2 x ra rb) (fun t => t.doMac 2 x ra rb))

/-- mac, fn 3 (R202). -/
def execMach (i : Issue) (x : BitVec 1) (ra rb : BitVec 4) (s : State) : Host.Outcome State Fault Refusal :=
  s.onDev (fun d => d.alu i (.mac 3 x ra rb) (fun t => t.doMac 3 x ra rb))

/-- mac, fn 4 (R202). -/
def execCmac (i : Issue) (x : BitVec 1) (ra rb : BitVec 4) (s : State) : Host.Outcome State Fault Refusal :=
  s.onDev (fun d => d.alu i (.mac 4 x ra rb) (fun t => t.doMac 4 x ra rb))

/-- mac, fn 5 (R202). -/
def execCmacj (i : Issue) (x : BitVec 1) (ra rb : BitVec 4) (s : State) : Host.Outcome State Fault Refusal :=
  s.onDev (fun d => d.alu i (.mac 5 x ra rb) (fun t => t.doMac 5 x ra rb))

/-- mac, fn 6 (R202). -/
def execAclr (i : Issue) (x : BitVec 1) (s : State) : Host.Outcome State Fault Refusal :=
  s.onDev (fun d => d.alu i (.mac 6 x 0 0) (fun t => t.doMac 6 x 0 0))

/-- mac, fn 7 (R202). -/
def execAload (i : Issue) (x : BitVec 1) (ra : BitVec 4) (s : State) : Host.Outcome State Fault Refusal :=
  s.onDev (fun d => d.alu i (.mac 7 x ra 0) (fun t => t.doMac 7 x ra 0))

/-- sat (R202). -/
def execSat (i : Issue) (rd : BitVec 4) (x : BitVec 1) (sh : BitVec 5) (mode : BitVec 3) (s : State) :
    Host.Outcome State Fault Refusal :=
  s.onDev (fun d => d.alu i (.sat rd x sh mode) (fun t => t.doSat rd x sh mode))

end Sys2Proof.Machine
end

