-- ==== Sys2Proof/Machine/AshOps.lean ====
section
/-! DEFINITION. The ashpit's operations: error reporting (R34, R302, R511), the areas a hearth reaches and the movement of
its requests (R218, R219, R307, R314). -/

namespace Sys2Proof.Machine

/-- Usable capacity in bytes; 0 while READY is 0 (R296). -/
def Dev.usable (d : Dev) : Nat := d.get Reg.ASH_STAT_USABLE * mib

/-- The region a byte address of the usable space lies in, or 7 (R304). -/
def Dev.regionOf (d : Dev) (a : Nat) : Nat :=
  ((List.range 5).find? (fun k => decide (d.rgnBase k ≤ a) && decide (a < d.rgnBase k + d.rgnSize k))).getD 7

/-- The detail of an ECC entry (R511): the region, and the line's number. -/
def eccDetail (region line : Nat) : Nat := region % 8 * 2 ^ 29 + line % 2 ^ 27

/-- A single-bit error corrected and written back at a line (R302): the third within one scrub pass is named. -/
def Dev.ashCorrected (d : Dev) (line : Nat) : Dev :=
  let r := d.regionOf (line * 64)
  let n := SMap.get 0 d.ash.corr line + 1
  let d := ((d.incSat Reg.ASH_ECCCNT_CORR 1).raise Reg.ASH_EVT 1).sootE 0 7 0x6001 (eccDetail r line)
  let d := { d with ash := { d.ash with corr := SMap.put 0 d.ash.corr line n } }
  if n = 3 then d.sootE 1 7 0x6003 (eccDetail r line) else d

/-- A double-bit error at a line (R302): counted, recorded, raised, and entered by its region. -/
def Dev.ashUncorr (d : Dev) (line : Nat) : Dev :=
  let r := d.regionOf (line * 64)
  let d := d.incSat Reg.ASH_ECCCNT_UNCORR 1
  let d := d.wr Reg.ASH_ECCADDR_LO (BitVec.ofNat 32 (line * 64))
  let d := d.wr Reg.ASH_ECCADDR_HI (BitVec.ofNat 32 (r % 8 * 2 ^ 29 + line * 64 / 2 ^ 32 % 2))
  (d.raise Reg.ASH_EVT 2).sootE (if r = 0 then 1 else 2) 7 0x6002 (eccDetail r line)

/-- What the ECC of an ashpit line finds at a read of it. -/
def Dev.ashEcc (d : Dev) (e : Ecc) (line : Nat) : Dev :=
  match e with
  | .clean => d
  | .single => d.ashCorrected line
  | .double => d.ashUncorr line

/-! ## The order of service (R318) -/

/-- The class of level 3 a hearth's request belongs to: 0 TI, 2 CAR. -/
def ashClass (x : Desc) : Nat := if getBits x.d1 31 28 = 3 then 2 else 0

/-- `now` at which the oldest block of a backlog that waits was complete. -/
def Dev.blockSince (d : Dev) (b : BkBlock) : Nat := d.now - (d.devtime - (b.times.getLast?.getD d.devtime))

/-- The requests of level 3 that wait for the ashpit, with their class and since when: hearths' tickets and backlog blocks. -/
def Dev.ashWaiting (d : Dev) : List (Nat × Nat) :=
  (d.hearths.flatMap (fun c => c.2.ashes.filterMap (fun t => match t.2 with
    | some k => if k.done.isNone && !k.lost then some (ashClass k.desc, k.at_) else none
    | none => none)))
  ++ d.lanes.filterMap (fun c => c.2.bkBuf.head?.map (fun b => (0, d.blockSince b)))

/-- A place of a class in the present round is spent; a new round begins where none is left. -/
def Dev.ashSpend (d : Dev) (cls : Nat) : Dev :=
  let q := if d.ash.quota.getD cls 0 = 0 then [6, 2, 1] else d.ash.quota
  { d with ash := { d.ash with quota := q.set cls (q.getD cls 0 - 1) } }

/-- The request of a class, waiting since a time, may be served next (R318): requests that have waited 2 µs go first; else its class
must have a place in the round, unless no class that waits has one (log 99). -/
def Dev.ashTurn (d : Dev) (cls since : Nat) : Bool :=
  let ws := d.ashWaiting
  let aged := fun (t : Nat) => decide (t + 2000 ≤ d.now)
  if ws.any (fun w => aged w.2) then aged since
  else d.ash.quota.getD cls 0 != 0 || !ws.any (fun w => d.ash.quota.getD w.1 0 != 0)

/-! ## Requests of a hearth (R218 to R220) -/

/-- The fields of an ashpit descriptor (R218). -/
def Desc.aWrite (x : Desc) : Bool := bit x.d0 31
def Desc.aHob (x : Desc) : Bool := bit x.d0 30
def Desc.aLen (x : Desc) : Nat := getBits x.d0 15 0
def Desc.aTarget (x : Desc) : Nat := getBits x.d1 31 28
def Desc.aOff (x : Desc) : Nat := getBits x.d1 27 0
def Desc.aLocal (x : Desc) : Nat := x.d2.toNat

/-- The descriptor is well formed (R218, BADDESC otherwise). -/
def Desc.aOk (x : Desc) : Bool :=
  getBits x.d0 29 16 == 0 && x.d3 == 0 && decide (4 ≤ x.aLen) && decide (x.aLen ≤ 4096) && x.aLen % 4 == 0 && x.aOff % 4 == 0
    && (if x.aHob then x.aLen % 64 == 0 && decide (x.aLocal * 64 + x.aLen ≤ 393216)
        else x.aLocal % 4 == 0 && decide (x.aLocal + x.aLen ≤ 0x8000))

/-- Lane n's CAR area: its first byte and its length; absent without a CAR region (R304, R314). -/
def Dev.carArea (d : Dev) (n : Nat) : Option (Nat × Nat) :=
  if d.get (Reg.ASH_RGN_SIZE 2) = 0 then none
  else some (d.rgnBase 2 + n * (d.get Reg.ASH_CARCFG_PERLANE * 65536), d.get Reg.ASH_CARCFG_PERLANE * 65536)

/-- Where a target lies: in the hearth's set at an offset, or in the ashpit at an address, with its length (R307). -/
inductive AshArea where
  | set (i off len : Nat)
  | car (base len : Nat)
deriving DecidableEq, Repr

def Dev.ashArea (d : Dev) (h target : Nat) : Option AshArea :=
  match target with
  | 0 => (d.hearth h).set.bind (fun i => (d.setMem i).map (fun s => .set i 0x10000 (s.tiNeed * 1024)))
  | 1 => (d.hearth h).set.map (fun i => .set i 0 0x8000)
  | 2 => (d.hearth h).set.map (fun i => .set i 0x8000 0x8000)
  | 3 => (d.laneOf h).bind (fun n => (d.carArea n).map (fun c => .car c.1 c.2))
  | _ => none

def AshArea.len : AshArea → Nat
  | .set _ _ n => n
  | .car _ n => n

/-- Bytes of an area, and bytes written to one. -/
def Dev.areaRead (d : Dev) (a : AshArea) (off n : Nat) : List Byte :=
  match a with
  | .set i b _ => match d.setMem i with
    | some s => Memory.readList s.mem (b + off) n
    | none => []
  | .car b _ => Memory.readList d.ash.dram (b + off) n

def Dev.areaWrite (d : Dev) (a : AshArea) (off : Nat) (bs : List Byte) : Dev :=
  match a with
  | .set i b _ => match d.setMem i with
    | some s => d.putSet i (some { s with mem := Memory.writeList s.mem (b + off) bs })
    | none => d
  | .car b _ => { d with ash := { d.ash with dram := Memory.writeList d.ash.dram (b + off) bs } }

/-- The checkpoint slot a target names. -/
def targetSlot (target : Nat) : Option Nat := if target = 1 then some 0 else if target = 2 then some 1 else none

/-- A slot has been written since its commit (R167). -/
def SetMem.touched (s : SetMem) (k : Nat) : SetMem :=
  if k = 0 then { s with slot0 := s.slot0.map (fun c => { c with intact := false }) }
  else { s with slot1 := s.slot1.map (fun c => { c with intact := false }) }

/-- The slot that holds the valid checkpoint of the hearth's set. -/
def Dev.validSlot (d : Dev) (h : Nat) : Option Nat := (d.hearth h).set.bind (fun i => (d.setMem i).bind (·.valid))

/-- The local side of a request, read and written. -/
def Dev.localRead (d : Dev) (h : Nat) (x : Desc) : List Byte :=
  if x.aHob then Memory.readList (d.hearth h).hob (x.aLocal * 64) x.aLen else Memory.readList (d.hearth h).dmem x.aLocal x.aLen

def Dev.localWrite (d : Dev) (h : Nat) (x : Desc) (bs : List Byte) : Dev :=
  d.updHearth h (fun y =>
    if x.aHob then { y with hob := Memory.writeList y.hob (x.aLocal * 64) bs }
    else { y with dmem := Memory.writeList y.dmem x.aLocal bs })

/-- The status a request ends with before anything moves (R219): 4 BADDESC, 2 BOUNDS, 3 PROTECT, 6 ERROR, 0 to go on. -/
def Dev.ashStatus (d : Dev) (h : Nat) (x : Desc) (err : Bool) : Nat :=
  if !x.aOk then 4
  else match d.ashArea h x.aTarget with
    | none => 2
    | some a =>
      if a.len < x.aOff + x.aLen then 2
      else if x.aWrite ∧ (targetSlot x.aTarget).isSome ∧ targetSlot x.aTarget = d.validSlot h then 3
      else if err then 6 else 0

/-- Words of a transfer as read: those with a double-bit error are as the memory gives them, which the manual leaves open (R219, log 3). -/
def Dev.badWords (d : Dev) (bs : List Byte) (a : AshRead) : List Byte × Dev :=
  if a.e = .double then
    (bs.zipIdx.map (fun p => if a.bad.contains (p.2 / 4) then Config.freeByte (d.free + p.2) else p.1), { d with free := d.free + bs.length })
  else (bs, d)

/-- The data of a request move (R218, R220): a write from the local side, a read to it while the program runs. -/
def Dev.ashMove (d : Dev) (h : Nat) (x : Desc) (r : AshRead) : Dev :=
  match d.ashArea h x.aTarget with
  | none => d
  | some a =>
    if x.aWrite then
      let d := d.areaWrite a x.aOff (d.localRead h x)
      match targetSlot x.aTarget, a with
      | some k, .set i _ _ => (match d.setMem i with
        | some s => d.putSet i (some (s.touched k))
        | none => d)
      | _, _ => d
    else if !(d.hearth h).running then d
    else
      let (bs, d) := d.badWords (d.areaRead a x.aOff x.aLen) r
      d.localWrite h x bs

end Sys2Proof.Machine
end

