-- ==== Sys2Proof/Machine/GrateOps.lean ====
section
/-! DEFINITION. The grate's operations: span and tuning checks (R131 to R135, R145), starts and restarts of a lane's chain
(R143, R144), marks (R141, R142), the backlog's filling (R165, R166, R310) and IQ frames (R340). -/

namespace Sys2Proof.Machine

/-- The frequency W lies outside F_c ± U_s of bins B to B + n − 1 (R131, R134, R135): |W − C| · 3.2 GHz against
(n · 1.5625 − 1.25) MHz · 2^32. -/
def spanBad (w b n : Nat) : Bool :=
  let c : Int := ((2 * b + n - 1) * 2 ^ 21 : Nat)
  decide (((n * 1562500 - 1250000) * 2 ^ 32 : Nat) < ((w : Int) - c).natAbs * 3200000000)

def Dev.lcfg (d : Dev) (n : Nat) : Word := d.rd (Reg.GRT_LCFG (n / 8) (n % 8))

/-- SPAN of a lane's active fields. -/
def Dev.spanNow (d : Dev) (n : Nat) : Bool :=
  spanBad (d.get (Reg.GRT_LFREQ_W (n / 8) (n % 8))) (d.get (Reg.GRT_LCFG_BIN (n / 8) (n % 8)))
    (d.get (Reg.GRT_LCFG_NBINS (n / 8) (n % 8)) + 1)

/-- The core in a role: 0 A, 1 B (R88). -/
def Dev.roleCore (d : Dev) (r : Nat) : Nat := d.get (if r = 0 then Reg.CAP_ROLE_CORE_A else Reg.CAP_ROLE_CORE_B)

/-- A bank has no in-service core (R118, R142). -/
def Dev.noCore (d : Dev) (bank : Nat) : Bool := d.get (Reg.CAP_CC_STAT_STATE (d.roleCore bank)) != 4

/-- NOCORE of a lane brought up to date; 0 while its chain does not run (log 101). -/
def Dev.refreshNocore (d : Dev) (n : Nat) : Dev :=
  d.set (Reg.GRT_LSTAT_NOCORE (n / 8) (n % 8)) (b2n (d.is (Reg.GRT_LSTAT_RUN (n / 8) (n % 8)) &&
    d.noCore (d.get (Reg.GRT_LCFG_SRC (n / 8) (n % 8)))))

def Dev.refreshNocores (d : Dev) : Dev := (List.range d.part.lanes).foldl (fun d n => d.refreshNocore n) d

/-- SPAN follows the active fields, whether or not the chain runs; SPANERR as it becomes 1 (R145). -/
def Dev.refreshSpan (d : Dev) (n : Nat) : Dev :=
  let bad := d.spanNow n
  let was := d.is (Reg.GRT_LSTAT_SPAN (n / 8) (n % 8))
  let d := d.set (Reg.GRT_LSTAT_SPAN (n / 8) (n % 8)) (b2n bad)
  if bad ∧ !was then d.raise Reg.GRT_EVT 2 else d

/-- The IQ entries of a lane: KIND 2, on (R340). -/
def Dev.iqEntries (d : Dev) (n : Nat) : List (Nat × Nat) :=
  d.ports.flatMap (fun p => ((List.range 128).filter (fun e =>
    d.entOn p e && d.entKind p e == 2 && d.ent p e 0 14 8 == n)).map (fun e => (p, e)))

/-- Taps of a preset (R136). -/
def taps (preset : Nat) : Nat := match preset with
  | 0 => 95
  | 1 => 63
  | 2 => 39
  | _ => 23

/-- The delay of synthesis and decimation, 1.280 µs + k_p · (D − 1), in converter sample periods (R16, R17). -/
def Dev.chainDelay (d : Dev) (n : Nat) : Nat :=
  4096 + 64 * (taps (d.get (Reg.GRT_LCFG_PRESET (n / 8) (n % 8))) - 1) * (2 ^ d.dlog n - 1)

/-- The constant delay of a lane in converter sample periods: 80 of the converter, 8,192 of the bank, and the chain's (R16, R137). -/
def Dev.laneDelay (d : Dev) (n : Nat) : Nat := 8272 + d.chainDelay n

/-- The root sample index at which the lane's sample with a number is presented at the hob input (R139). -/
def Dev.dueAt (d : Dev) (n m : Nat) : Nat := m * d.grid n + d.laneDelay n

/-- The offset of a lane's frequency word from its span centre: Δ = W − C (R134). -/
def Dev.ncoStep (d : Dev) (n : Nat) : Word :=
  d.rd (Reg.GRT_LFREQ (n / 8) (n % 8)) -
    BitVec.ofNat 32 ((2 * d.get (Reg.GRT_LCFG_BIN (n / 8) (n % 8)) + d.get (Reg.GRT_LCFG_NBINS (n / 8) (n % 8))) * 2 ^ 21)

/-- The phase at which the sample of root sample index `s` is mixed beside its span centre (R134, R135): in TIMEREF the total is
W · s + PHOFF · 2^16; in CONTINUOUS the accumulator has gone on by Δ a converter sample, which is 128 · Δ a synthesis sample. -/
def Dev.ncoPhase (d : Dev) (n s : Nat) : Word :=
  if d.is (Reg.GRT_LCFG_NCOMODE (n / 8) (n % 8)) then
    d.ncoStep n * BitVec.ofNat 32 s + BitVec.ofNat 32 (d.get (Reg.GRT_LPHOFF_PHOFF (n / 8) (n % 8)) * 65536)
  else (d.lane n).nco + d.ncoStep n * BitVec.ofNat 32 (s - (d.lane n).ncoAt)

/-- The lane's chain starts afresh under its active configuration at the next grid point, in refill for 2 · (1.280 µs + k_p · (D − 1))
from there (R143, R144). A start gives the accumulator a phase the spec does not state; a restart keeps it. -/
def Dev.chainRestart (d : Dev) (n : Nat) : Dev :=
  let (φ, d) := if d.is (Reg.GRT_LSTAT_RUN (n / 8) (n % 8)) then ((d.lane n).nco, d) else d.fresh
  let d := (d.set (Reg.GRT_LSTAT_RUN (n / 8) (n % 8)) 1).set (Reg.GRT_LSTAT_REFILL (n / 8) (n % 8)) 1
  let m := if d.scount < d.laneDelay n then 0 else (d.scount - d.laneDelay n) / d.grid n + 1
  let d := d.updLane n (fun x =>
    { x with next := m, nco := φ, ncoAt := m * d.grid n, refillTo := d.dueAt n m + 2 * d.chainDelay n })
  let d := (d.iqEntries n).foldl (fun d pe =>
    d.setDamper pe.1 pe.2 { d.damper pe.1 pe.2 with iq := [], iqRestart := true }) d
  { d with cap := { d.cap with snap := d.cap.snap.map (fun s => { s with
      lacc := if s.lanes.contains n && !(SMap.get {} s.lacc n).samples.isEmpty then
        SMap.put {} s.lacc n { (SMap.get {} s.lacc n) with flags := (SMap.get {} s.lacc n).flags ||| 2 } else s.lacc }) } }

/-- LANE_BKLOG.ACTIVE after a change of D: the same blocks hold another length (R306). -/
def Dev.bklogShow (d : Dev) (n : Nat) : Dev :=
  if (d.lane n).bkCap = 0 then d
  else d.set (Reg.LANE_BKLOG_ACTIVE n) (min 4095 ((d.lane n).bkCap * 16 * 2 ^ d.dlog n / 25000))

/-- The lane's chain stops (R143). -/
def Dev.chainStop (d : Dev) (n : Nat) : Dev :=
  ((d.set (Reg.GRT_LSTAT_RUN (n / 8) (n % 8)) 0).set (Reg.GRT_LSTAT_REFILL (n / 8) (n % 8)) 0).set
    (Reg.GRT_LSTAT_NOCORE (n / 8) (n % 8)) 0

/-- The fields of GRT_LnCFG whose change restarts the chain: SRC, PRESET, DLOG, NBINS, BIN (R143). -/
def restartMask : Word := 0x70F301FF

/-- A lane's GRT fields have been applied: what its chain does, from GRT_LnCFG before (R143). -/
def Dev.grateApplied (d : Dev) (n : Nat) (was : Word) : Dev :=
  let now := d.lcfg n
  if !bit now 31 then (if bit was 31 then d.chainStop n else d).refreshSpan n
  else
    let d := if !bit was 31 ∨ (now &&& restartMask) ≠ (was &&& restartMask) then d.chainRestart n else d
    let d := if getBits now 23 20 = getBits was 23 20 then d else d.bklogShow n
    (d.refreshNocore n).refreshSpan n

/-! ## The backlog -/

/-- A block reaches the ring in the ashpit, which keeps the latest (R165). -/
def Lane.pushBk (x : Lane) (b : BkBlock) : Lane :=
  let bk := x.bk ++ [b]
  { x with bk := bk.drop (bk.length - x.bkCap) }

/-- The block being filled is closed (R166): it waits in the cluster port; with 64 waiting the oldest is dropped and marked
lost in the ring (R310). -/
def Dev.closeBlock (d : Dev) (n : Nat) : Dev :=
  let x := d.lane n
  if x.cur.isEmpty then d
  else
    let x := { x with cur := [], bkBuf := x.bkBuf ++ [encodeBlock x.cur] }
    match x.bkBuf with
    | b :: rest =>
      if 64 < x.bkBuf.length then
        (d.setLane n ((Lane.pushBk { x with bkBuf := rest }) { b with lost := true })).raise Reg.ASH_EVT 7
      else d.setLane n x
    | [] => d.setLane n x

/-- A sample enters the backlog (R165, R166): 16 make a block; a jump of the sample number closes the block before. -/
def Dev.backlogIn (d : Dev) (n : Nat) (s : Sample) : Dev :=
  if !(d.is (Reg.LANE_CTL_EN n) && (d.lane n).started) then d
  else
    let x := d.lane n
    let jump := match x.cur.getLast? with
      | some l => l.m + 1 != s.m
      | none => false
    let d := if jump then d.closeBlock n else d
    let d := d.updLane n (fun x => { x with cur := x.cur ++ [s] })
    if 16 ≤ (d.lane n).cur.length then d.closeBlock n else d

/-! ## Delivery -/

/-- DEVTIME at the ball of a sample: its output time less the constant delay (R124). -/
def Dev.ballTime (d : Dev) (n : Nat) (s : Sample) : Nat := (s.t * 16 - d.laneDelay n * 5) / 16

/-- A sample in the format of R124: I, then Q, little-endian. -/
def Sample.bytes (s : Sample) : List Byte := leBytes 2 s.i.toNat ++ leBytes 2 s.q.toNat

/-- One mark bit a sample. -/
def markBits (ss : List Sample) : Nat := (ss.zipIdx.map (fun p => b2n p.1.mark * 2 ^ p.2)).foldl (· + ·) 0

/-- A sample enters an IQ entry: 256 of them are one frame (R340). -/
def Dev.iqIn (d : Dev) (n : Nat) (s : Sample) (pe : Nat × Nat) : Dev :=
  let x := d.damper pe.1 pe.2
  let iq := x.iq ++ [s]
  if iq.length < 256 then d.setDamper pe.1 pe.2 { x with iq := iq }
  else
    let first := (iq.headD s)
    let u : QUnit := {
      kind := 2, lane := n, stream := 0, err := false, key := first.m % 2 ^ 48, index := 0
      time := d.ballTime n first, rel := d.devtime, enq := d.now, first := x.iqRestart
      payload := leBytes 32 (markBits iq) ++ iq.flatMap Sample.bytes }
    (d.setDamper pe.1 pe.2 { x with iq := [], iqRestart := false }).damperIn pe.1 pe.2 u

/-- A sample enters a lane record; with 256 it is complete and the next begins (R124). -/
def SnapLane.add (x : SnapLane) (s : Sample) : SnapLane :=
  let ss := x.samples ++ [s]
  if ss.length < 256 then { x with samples := ss } else { samples := [], flags := 0, full := x.full ++ [(ss, x.flags)] }

/-- A sample enters the record of a lane snapshot (R124). -/
def Dev.snapLaneIn (d : Dev) (n : Nat) (s : Sample) : Dev :=
  { d with cap := { d.cap with snap := d.cap.snap.map (fun x =>
      if x.running && x.lanes.contains n then { x with lacc := SMap.put {} x.lacc n ((SMap.get {} x.lacc n).add s) } else x) } }

/-- The hearths that serve a lane with a running program and live input (R140). -/
def Dev.liveHearths (d : Dev) (n : Nat) : List Nat :=
  (List.range d.part.hearths).filter (fun h => d.laneOf h == some n && (d.hearth h).running && (d.hearth h).replay.isNone)

/-- A lane sample reaches every place it goes: the hobs, the backlog, IQ entries and a lane snapshot (R139, R140). -/
def Dev.deliver (d : Dev) (n : Nat) (s : Sample) : Dev :=
  let d := (d.liveHearths n).foldl (fun d h => d.updHearth h (fun x => (x.arrive [s]).inputTake)) d
  let d := d.backlogIn n s
  let d := (d.iqEntries n).foldl (fun d pe => d.iqIn n s pe) d
  d.snapLaneIn n s

/-- A value held within ±32,767 (R138). -/
def sat16 (v : Int) : BitVec 16 := BitVec.ofInt 16 (clampI (-32767) 32767 v)
def beyond (v : Int) : Bool := decide (32767 < v.natAbs)

/-! ## Marks and mixing -/

/-- The power averages of both banks begin anew (R143, R147). -/
def Dev.powerRestart (d : Dev) : Dev :=
  { d with binCount := 0, bankA := { d.bankA with clean := [] }, bankB := { d.bankB with clean := [] } }

def Dev.gbank (d : Dev) (b : Nat) : GrateBank := if b = 0 then d.bankA else d.bankB
def Dev.setBank (d : Dev) (b : Nat) (x : GrateBank) : Dev := if b = 0 then { d with bankA := x } else { d with bankB := x }

/-- Samples `[lo, hi)` of a bank are marked; a span that follows the last one extends it, and spans no filter reaches any more are
dropped (R141). -/
def GrateBank.addMark (x : GrateBank) (lo hi : Nat) : GrateBank :=
  let old := x.marks.filter (fun p => decide (hi < p.2 + 2 ^ 25))
  { x with marks := match old with
      | p :: rest => if lo ≤ p.2 then (min lo p.1, max hi p.2) :: rest else (lo, hi) :: p :: rest
      | [] => [(lo, hi)] }

/-- The marked spans of a bank up to `hi`: a bank whose core has failed is marked from its declaration on (R116, R118). -/
def GrateBank.spans (x : GrateBank) (hi : Nat) : List (Nat × Nat) := match x.gap with
  | some t => (t, max t hi) :: x.marks
  | none => x.marks

/-- The weight of a sample whose taps cover `[lo, hi)`: 0 where none of them is marked, 256 where all are, and between them at least 1;
what the fixed filters' taps make of the rest is `w` (R141). -/
def GrateBank.weight (x : GrateBank) (lo hi w : Nat) : Nat :=
  let ms := x.spans hi
  if ms.any (fun p => decide (p.1 ≤ lo) && decide (hi ≤ p.2)) then 256
  else if ms.any (fun p => decide (p.1 < hi) && decide (lo < p.2)) then clampN 1 256 w
  else 0

/-- The weight of a lane's sample: its taps reach the bank's and the chain's delay to both sides of its ball time (R17, R141). -/
def Dev.laneWeight (d : Dev) (n m w : Nat) : Nat :=
  let s := m * d.grid n
  let r := 8192 + d.chainDelay n
  (d.gbank (d.get (Reg.GRT_LCFG_SRC (n / 8) (n % 8)))).weight (s - r) (s + r + 1) w

/-- The erasure mark of a lane sample of weight `w` (R141, R142). -/
def Dev.laneMark (d : Dev) (n w : Nat) : Bool :=
  let t := d.get (Reg.GRT_LGAIN_ETHR (n / 8) (n % 8))
  (if t = 0 then decide (w ≠ 0) else decide (t ≤ w)) || d.is (Reg.GRT_LSTAT_REFILL (n / 8) (n % 8))
    || d.is (Reg.GRT_LSTAT_SPAN (n / 8) (n % 8)) || d.is (Reg.GRT_LSTAT_NOCORE (n / 8) (n % 8))

/-- A value turned back by the mixing phase (R134). -/
def mixed (φ : Word) (i q : Int) : Int × Int := if φ = 0 then (i, q) else Config.rotate φ i q

/-- The output gain, from units of 2^-15 at GAIN 0 (R138). -/
def Dev.scaled (d : Dev) (n : Nat) (v : Int) : Int := roundOpen (v * 2 ^ d.get (Reg.GRT_LGAIN_GAIN (n / 8) (n % 8))) 32768

/-- The lane output sample that is due is presented (R134, R138, R139, R141); `i` and `q` are what the fixed filters give before the
mixing phase and the gain, in units of 2^-15, and `w` its weight as far as the filters' taps decide it. None is presented before its
time. -/
def Dev.laneSample (d : Dev) (n : Nat) (i q : Int) (w : Nat) : Dev :=
  let m := (d.lane n).next
  let φ := d.ncoPhase n (m * d.grid n)
  let v := mixed φ i q
  let i := d.scaled n v.1
  let q := d.scaled n v.2
  let mark := d.laneMark n (d.laneWeight n m w)
  let sat := beyond i || beyond q
  let s : Sample := ⟨m, sat16 i, sat16 q, mark, d.devtime - (d.scount - d.dueAt n m) * 5 / 16⟩
  let d := if sat then d.incWordSat (Reg.GRT_LSATCNT (n / 8) (n % 8)) 1 else d
  let d := if mark then d.incWordSat (Reg.GRT_LERACNT (n / 8) (n % 8)) 1 else d
  let d := d.updLane n (fun x => { x with next := m + 1, sat := x.sat || sat, nco := φ, ncoAt := m * d.grid n })
  d.deliver n s

/-- The next sample of a lane's chain is due. -/
def Dev.laneDue (d : Dev) (n : Nat) : Bool :=
  d.is (Reg.GRT_LSTAT_RUN (n / 8) (n % 8)) && decide (d.dueAt n (d.lane n).next ≤ d.scount)

end Sys2Proof.Machine
end

