-- ==== Sys2Proof/Machine/SmokeOps.lean ====
section
/-! DEFINITION. The smoke radio's operations (R378 to R399): settings and the region profile, the synthesiser and its gate,
the balls, frames, and the course of a transmission. -/

namespace Sys2Proof.Machine

/-! ## The DDR balls (R479, R526) -/

/-- CKE, CS, CK and CA of the DRAM in operation, or in the static state; those of rank 1 are driven low with one rank. -/
def Dev.ddrDrive (d : Dev) (run : Bool) : Dev :=
  let two := run && d.is Reg.ASH_DRAMCFG_RANKS
  ((((d.drive (.ddrCke 0) run).drive (.ddrCke 1) two).drive (.ddrCs 0) run).drive (.ddrCs 1) two).drive .ddrCk run

/-! ## Settings and the region profile (R378 to R385) -/

/-- A channel lies in a permitted range (R378). -/
def chanOk (n : Nat) : Bool := (decide (520 ≤ n) && decide (n ≤ 800)) || (decide (2080 ≤ n) && decide (n ≤ 3120))

/-- The bit rate of a RATE code (R379). -/
def smkRate (r : Nat) : Nat := match r with
  | 0 => 50000
  | 1 => 100000
  | 2 => 200000
  | _ => 300000

/-- Occupied width in Hz: 2 × symbol rate (R379). -/
def smkWidth (mod4 : Bool) (rate : Nat) : Nat := if mod4 then smkRate rate else 2 * smkRate rate

/-- Airtime in whole milliseconds, rounded up (R381). -/
def smkAir (lpre pre len rate : Nat) : Nat :=
  let bits := 8 * (pre + 4 + 1 + len + 2)
  let r := smkRate rate
  ((lpre * 1000 + 32) * r + bits * 1000000 + 1000 * r - 1) / (1000 * r)

/-- The enabled sub-band that contains a transmission (R384). -/
def Dev.smkSub (d : Dev) (ch width : Nat) : Option Nat :=
  (List.range 8).find? (fun k =>
    let lo := d.get (Reg.SMK_RGN_W0_LO k)
    let hi := d.get (Reg.SMK_RGN_W0_HI k)
    d.is (Reg.SMK_RGN_W0_EN k) && decide (width + 50000 * lo ≤ 50000 * ch) && decide (width + 50000 * ch ≤ 50000 * hi))

/-- What R384 says of a transmission: none where the profile or the sub-bands refuse it, else its sub-band and whether its
airtime fits. -/
def Dev.smkRegion (d : Dev) (ch : Nat) (mod4 : Bool) (rate air tmo : Nat) : Option (Nat × Bool) :=
  if d.is Reg.SMK_RGNID_VALID then
    (d.smkSub ch (smkWidth mod4 rate)).map (fun k => (k, decide (air ≤ min (d.get Reg.SMK_RGNLIM_TXMAX) tmo)))
  else none

/-- LEN of a page frame (R380, R382). -/
def pageLen : Nat := 31

/-- A page setting is permitted (R384), from the words of SMK_PGCFG and SMK_RADIO. -/
def Dev.pageSet (d : Dev) (pg rad : Word) : Option SmkSet :=
  let rate := getBits pg 23 22
  let mod4 := bit pg 24
  let pre := getBits rad 31 24
  let lpre := getBits pg 19 12
  let air := smkAir lpre pre pageLen rate
  match d.smkRegion (getBits pg 11 0) mod4 rate air (getBits rad 15 0) with
  | some (k, true) => some ⟨getBits pg 11 0, getBits pg 30 25, mod4, rate, lpre, pre, k, air⟩
  | _ => none

/-- The longest transmission in ms (R384, R390). -/
def Dev.smkLimit (d : Dev) : Nat := min (d.get Reg.SMK_RGNLIM_TXMAX) (d.get Reg.SMK_RADIO_TMO)

/-! ## Duty (R385) -/

def dutyKey (sub second : Nat) : Nat := sub * 2 ^ 32 + second

/-- ms of a sub-band used in the current window. -/
def Dev.dutyUsed (d : Dev) (sub : Nat) : Nat :=
  let sec := d.now / 1000000000
  let win := d.get Reg.SMK_RGNLIM_WINDOW
  ((d.smoke.duty.filter (fun c => c.1 / 2 ^ 32 == sub && decide (sec < c.1 % 2 ^ 32 + win))).map (·.2)).foldl (· + ·) 0

/-- A transmission's budget in ms: DUTY × WINDOW, less RSV for host DATA. -/
def Dev.dutyLimit (d : Dev) (t : SmkTx) : Nat :=
  let full := d.get (Reg.SMK_RGN_W1_DUTY t.set.sub) * d.get Reg.SMK_RGNLIM_WINDOW
  if t.page.isSome then full else full * (100 - d.get Reg.SMK_CTL_RSV) / 100

def Dev.dutyFits (d : Dev) (t : SmkTx) : Bool := decide (d.dutyUsed t.set.sub + t.set.air ≤ d.dutyLimit t)

/-- SMK_DUTY brought up to date. -/
def Dev.refreshDuty (d : Dev) : Dev := d.set Reg.SMK_DUTY_USED (min (2 ^ 22 - 1) (d.dutyUsed (d.get Reg.SMK_DUTY_SUB)))

/-! ## The radio's balls and status (R386, R388, R391, R393, R405) -/

/-- A host-commanded calibration of the smoke radio runs (R387). -/
def Dev.smkCal (d : Dev) : Bool := d.cal.cmd.any (fun k => k.op == 1 && k.target == 6)

/-- SMK_TXEN is high for a transmission. -/
def SmkTx.keyed (t : SmkTx) : Bool := match t.phase with
  | .ramp => true
  | .onAir => true
  | .cut _ => true
  | _ => false
def Dev.smkKeyed (d : Dev) : Bool := d.smoke.job.any SmkTx.keyed

/-- COEX_REQ stands for a transmission. -/
def SmkTx.asks (t : SmkTx) : Bool := t.phase != .duty

/-- The receiver listens (R397). -/
def Dev.smkListens (d : Dev) : Bool :=
  d.is Reg.SMK_CTL_EN && d.is Reg.SMK_CTL_RXON && d.smoke.lock && !d.smoke.job.any SmkTx.asks && d.smoke.next.isNone && !d.smkCal
    && !d.smoke.calStep

/-- SMK_STAT.STATE. -/
def Dev.smkState (d : Dev) : Nat :=
  if !d.is Reg.SMK_CTL_EN then 0
  else if d.smkKeyed then 5
  else if d.smkCal || d.smoke.calStep then 6
  else if !d.smoke.lock then (if d.smoke.band then 3 else 4)
  else if d.smkListens then 2 else 1

/-- The PA gate is open (R388). -/
def Dev.smkGate (d : Dev) : Bool := d.is Reg.SMK_CTL_EN && d.smoke.lock && !d.smoke.calStep && !d.smkCal

/-- SMK_STAT brought up to date. -/
def Dev.smkStat (d : Dev) : Dev :=
  let en := d.is Reg.SMK_CTL_EN
  let d := (d.set Reg.SMK_STAT_STATE d.smkState).set Reg.SMK_STAT_LOCK (b2n (en && d.smoke.lock))
  let d := d.set Reg.SMK_STAT_ONCH (b2n (en && d.smoke.lock && d.smoke.chan == d.get Reg.SMK_PGCFG_CH))
  (d.set Reg.SMK_STAT_GATE (b2n d.smkGate)).set Reg.SMK_STAT_CH (if en then d.smoke.chan else 0)

/-- SMK_STAT and the balls brought up to date; SMK_RXEN and SMK_TXEN are never high together (R391). -/
def Dev.smkShow (d : Dev) : Dev :=
  let d := d.smkStat
  let keyed := d.smkKeyed
  let hears := d.smkListens
  let ember := d.is Reg.EMB_STAT_SEARCH && d.is Reg.EMB_CFG_FEMRX && !keyed
  let coex := d.is Reg.SMK_CTL_EN && d.is Reg.SMK_CTL_COEXEN
  let asks := d.smoke.job.any SmkTx.asks
  let req := coex && (asks || (d.is Reg.SMK_CTL_COEXRX && hears))
  let pri := coex && asks && d.smoke.job.any (·.pri)
  let d := if keyed then d else d.drive .smkTxen false
  let d := (d.drive .smkRxen (hears || ember)).drive .coexReq req
  (d.drive .coexPri pri).drive .smkTxen keyed

/-- The radio's record changed, and what shows of it. -/
def Dev.updSmoke (d : Dev) (f : Smoke → Smoke) : Dev := { d with smoke := f d.smoke }

/-! ## Frames (R380, R382) -/

/-- The first `n` bits of the whitening sequence PN9: nine ones, then each bit the sum of those nine and four places
before. -/
def pn9 : Nat → List Bool → List Bool
  | 0, _ => []
  | n + 1, s => s.headD false :: pn9 n (s.drop 1 ++ [xor (s.headD false) (s.getD 5 false)])

/-- Bits as bytes, the most significant first. -/
def bitsByte (bs : List Bool) : Byte := BitVec.ofNat 8 (bs.foldl (fun n b => 2 * n + b2n b) 0)

/-- Bytes whitened (R380). -/
def whiten (bs : List Byte) : List Byte :=
  let s := pn9 (8 * bs.length) (List.replicate 9 true)
  bs.zipIdx.map (fun p => p.1 ^^^ bitsByte ((s.drop (8 * p.2)).take 8))

/-- LEN, header and payload of a frame. -/
def Dev.smkBody (d : Dev) (t : SmkTx) : List Byte :=
  let payload := match t.page with
    | some p => [BitVec.ofNat 8 p.alert.lane, BitVec.ofNat 8 (b2n p.relay)] ++ beBytes 2 p.peer ++ { p.alert with rep := t.repno }.payload
    | none => t.payload
  [BitVec.ofNat 8 (11 + payload.length), if t.page.isSome then 0x11 else 0x12] ++ beBytes 2 (d.get Reg.SYS_DEVID_SYSID)
    ++ beBytes 2 (d.get Reg.SYS_DEVID_DEVID * 64 + t.repno) ++ beBytes 2 t.dest ++ beBytes 4 t.num ++ payload

/-- The bytes from the sync word to the CRC as they go on air. -/
def Dev.smkFrame (d : Dev) (t : SmkTx) : List Byte :=
  let b := d.smkBody t
  beBytes 4 (d.rd Reg.SMK_SYNC).toNat ++ whiten (b ++ beBytes 2 (crc16 b).toNat)

/-! ## The course of a transmission (R385 to R395, R399) -/

/-- The synthesiser goes to a channel: with a band calibration where it changes (R386). -/
def Dev.smkTune (d : Dev) (ch : Nat) : Dev :=
  d.updSmoke (fun s => { s with chan := ch, lock := false, band := s.chan != ch, calStep := false })

/-- The radio settles back to the RX channel (R386, R392). -/
def Dev.smkBack (d : Dev) : Dev := d.smkTune (d.get Reg.SMK_RXCFG_CH)

/-- The radio prepares a transmission, or waits for duty budget (R385, R386). -/
def Dev.smkPrep (d : Dev) (t : SmkTx) : Dev :=
  if d.dutyFits t then
    let d := d.smkTune t.set.ch
    (d.updSmoke (fun s => { s with job := some { t with phase := .synth } })).smkShow
  else ((d.updSmoke (fun s => { s with job := some { t with phase := .duty } })).raise Reg.SMK_EVT 8).smkShow

/-- The radio turns to what waits: a page it has taken, else the queued SEND unless pages wait (R395, R399). -/
def Dev.smkTurn (d : Dev) : Dev :=
  if d.smoke.job.isSome || !d.is Reg.SMK_CTL_EN then d.smkShow
  else match d.smoke.next, d.smoke.send with
    | some t, _ => (d.updSmoke (fun s => { s with next := none })).smkPrep t
    | none, some t =>
      if d.fire.pages.isEmpty && !d.smkCal then (d.updSmoke (fun s => { s with send := none })).smkPrep t else d.smkShow
    | none, none => d.smkShow

/-- A SEND ends with a status and a cause (R399). -/
def Dev.sendEnd (d : Dev) (status cause : Nat) : Dev :=
  let d := (d.cmdEnd Reg.SMK_TXSTAT status).set Reg.SMK_TXSTAT_CAUSE cause
  let d := if status = 0x60 then d.incSat Reg.SMK_CNT2_LATE 1 else d
  d.raise Reg.SMK_EVT (if status = 0 then 0 else 1)

/-- A page ends TXLATE (R395). -/
def Dev.pageLate (d : Dev) (log reps cause : Nat) : Dev :=
  let d := if reps = 0 then d.wr Reg.SMK_PGSTAT 0 else d
  let d := (d.set Reg.SMK_PGSTAT_OUTCOME 2).set Reg.SMK_PGSTAT_CAUSE cause
  ((d.incSat Reg.SMK_CNT2_LATE 1).raise Reg.SMK_EVT 3).pageOutcome log 2

/-- The next repeat of a page is scheduled, its start PGINT after `start` (R395). -/
def Dev.planRepeat (d : Dev) (t : SmkTx) (start : Nat) : Dev :=
  if t.repno + 1 < t.count then
    let due := start + msNs t.gap
    d.updSmoke (fun s => { s with reps := s.reps ++ [(due, { t with repno := t.repno + 1, latest := due + msNs t.gap, phase := .synth })] })
  else d

/-- A repeat is skipped (R395). -/
def Dev.skipRepeat (d : Dev) (t : SmkTx) (due : Nat) : Dev := (d.incSat Reg.SMK_CNT2_PGSKIP 1).planRepeat t due

/-- The cause a page that was cut is late with (R394). -/
def cutCause (status : Nat) : Nat := if status = 0x64 then 2 else 1

/-- The end of a page's transmission with a status (R394, R395). -/
def Dev.pageEnd (d : Dev) (t : SmkTx) (p : SmkPage) (status : Nat) : Dev :=
  if t.repno ≠ 0 then d.planRepeat t t.startAt
  else if status = 0x64 ∨ status = 0x65 then
    if d.now < t.latest then d.updSmoke (fun s => { s with next := some t }) else d.pageLate p.log 1 (cutCause status)
  else
    let d := (d.set Reg.SMK_PGSTAT_OUTCOME 1).set Reg.SMK_PGSTAT_CAUSE 0
    ((d.raise Reg.SMK_EVT 2).pageOutcome p.log 1).planRepeat t t.startAt

/-- The transmit time of a transmission is counted (R385). -/
def Dev.dutyAdd (d : Dev) (t : SmkTx) (status : Nat) : Dev :=
  let ms := if status = 0 then t.set.air else (d.now - t.txAt + 999999) / 1000000
  let k := dutyKey t.set.sub (t.txAt / 1000000000)
  (d.updSmoke (fun s => { s with duty := SMap.put 0 s.duty k (SMap.get 0 s.duty k + ms) })).refreshDuty

/-- A transmission ends with a status: SMK_TXEN falls and the radio settles back (R392). -/
def Dev.smkFinish (d : Dev) (t : SmkTx) (status : Nat) : Dev :=
  let d := (d.updSmoke (fun s => { s with job := none })).dutyAdd t status
  let d := if status = 0 then d.incSat Reg.SMK_CNT0_TXFRAMES 1 else d
  let d := match t.page with
    | some p => d.pageEnd t p status
    | none => d.sendEnd status 0
  (d.smkBack.smkShow).smkTurn

/-- SMK_TXEN rises (R385, R389 to R391); an ember search is cut (R403). -/
def Dev.smkKey (d : Dev) (t : SmkTx) : Dev :=
  let pmax := d.get (Reg.SMK_RGN_W1_PMAX t.set.sub)
  let cut := decide (pmax < t.set.pwr)
  let d := (d.set Reg.SMK_STAT_CLAMPED (b2n cut)).set Reg.SMK_DUTY_SUB t.set.sub
  let d := (if cut then d.raise Reg.SMK_EVT 7 else d).refreshDuty
  let d := if d.is Reg.EMB_STAT_SEARCH then
      ((d.set Reg.EMB_STAT_SEARCH 0).incSat Reg.EMB_CNT_SKIP 1).raise Reg.EMB_EVT 2
    else d
  (d.updSmoke (fun s => { s with
    job := some { t with phase := .ramp, txAt := d.now }
    pa := (min t.set.pwr pmax, s.sense) })).smkShow

/-- Lock is confirmed: the grant is sampled (R393). -/
def Dev.smkSample (d : Dev) (t : SmkTx) : Dev :=
  if d.is Reg.SMK_CTL_COEXEN && !d.smoke.gnt then
    ((d.updSmoke (fun s => { s with job := some { t with phase := .grant } })).raise Reg.SMK_EVT 11).smkShow
  else d.smkKey t

/-- A transmission that has not begun to emit is given up; the radio returns to RX. -/
def Dev.smkDrop (d : Dev) : Dev := (d.updSmoke (fun s => { s with job := none })).smkBack.smkShow

/-- EN is 0 in the active copy (R405): what has not started ends with cause DISABLED, and the balls fall. -/
def Dev.smkOff (d : Dev) : Dev :=
  let late := fun (d : Dev) (t : SmkTx) => match t.page with
    | some p => if t.repno = 0 then d.pageLate p.log 0 5 else d.incSat Reg.SMK_CNT2_PGSKIP 1
    | none => d.sendEnd 0x60 5
  let ts := d.smoke.job.toList ++ d.smoke.next.toList ++ d.smoke.send.toList ++ d.smoke.reps.map (·.2)
  let d := d.updSmoke (fun s => { s with job := none, next := none, send := none, reps := [], lock := false, calStep := false })
  (ts.foldl late d).smkShow

/-- The page at 0x0033_0000 has applied (R406): `rx` is SMK_RXCFG and `en` EN as they were. -/
def Dev.smkApplied (d : Dev) (rx : Word) (en : Bool) : Dev :=
  if !d.is Reg.SMK_CTL_EN then (if en then d.smkOff else d.smkShow)
  else if !en then (d.updSmoke (fun s => { s with chan := d.get Reg.SMK_RXCFG_CH, lock := false, band := true })).smkTurn
  else if (rx ^^^ d.rd Reg.SMK_RXCFG) &&& 0x0E000FFF != 0 ∧ d.smoke.job.isNone then
    ((d.smkBack).updSmoke (fun s => { s with band := true })).smkTurn
  else d.smkTurn

/-- A SEND that a reset ends is over: the spec names no status for it (log 107). -/
def Dev.sendCut (d : Dev) : Dev :=
  if d.smoke.send.isSome || d.smoke.job.any (·.page.isNone) then
    let (w, d) := d.fresh
    (d.cmdEnd Reg.SMK_TXSTAT (getBits w 7 0)).set Reg.SMK_TXSTAT_CAUSE 0
  else d

/-- A CORE reset, and BANKED: a transmission ramps down, the queues and the RX FIFO are emptied (R405, R477). What was sent counts
against its sub-band (R385). -/
def Dev.smkHalt (d : Dev) : Dev :=
  let d := match d.smoke.job with
    | some t => if t.keyed then d.dutyAdd t 0x67 else d
    | none => d
  let d := d.sendCut
  let d := d.updSmoke (fun s => { s with job := none, next := none, send := none, reps := [], calStep := false })
  let d := (d.set Reg.SMK_RXSTAT_COUNT 0).set Reg.SMK_RXSTAT_HEAD 0
  ({ d with fire := { d.fire with pages := [] } }).pageq.smkBack.smkShow

end Sys2Proof.Machine
end

