-- ==== Sys2Proof/Machine/CapOps.lean ====
section
/-! DEFINITION. The capture block's operations: the bellows (R90 to R96), blanking (R98 to R101), calibration runs and their
application (R494 to R505), rotation (R107 to R113), failure and replacement (R114 to R119) and snapshots (R120 to R125). -/

namespace Sys2Proof.Machine

def Dev.coreState (d : Dev) (c : Nat) : Nat := d.get (Reg.CAP_CC_STAT_STATE c)
def Dev.updCore (d : Dev) (c : Nat) (f : CapCore → CapCore) : Dev := d.setCapCore c (f (d.capCore c))

/-- The core's state and crosspoint source (R87, R105). -/
def Dev.setCore (d : Dev) (c st src : Nat) : Dev := (d.set (Reg.CAP_CC_STAT_STATE c) st).set (Reg.CAP_CC_STAT_SRC c) src

/-- STALE of a core's level and power (R97). -/
def Dev.setStale (d : Dev) (c : Nat) (v : Bool) : Dev :=
  (d.set (Reg.CAP_CC_STAT_STALE c) (b2n v)).set (Reg.CAP_CC_PWR_STALE c) (b2n v)

/-! ## The bellows -/

/-- GIDX of a setting (R91): the LNA in steps of 6 dB, the attenuator in steps of 0.5 dB. -/
def gidxOf (lna att : Nat) : Nat := 12 * lna + 63 - att

/-- LNA and ATT of a gain index (R91): the largest LNA with LNA − G of 12 dB at most. -/
def splitGain (gidx : Nat) : Nat × Nat :=
  let lna := if 75 ≤ gidx then 3 else if 63 ≤ gidx then 2 else if 51 ≤ gidx then 1 else 0
  (lna, 12 * lna + 63 - gidx)

/-- The upper and lower half of a word of CAL_VAL, signed: gain in 0.001 dB, phase in 0.01° (R502). -/
def Dev.calHi (d : Dev) (b i : Nat) : Int := toSigned 16 ((d.rd (Reg.CAL_VAL b i)).toNat / 65536)
def Dev.calLo (d : Dev) (b i : Nat) : Int := toSigned 16 ((d.rd (Reg.CAL_VAL b i)).toNat % 65536)

/-- The gain of a setting of a core as calibration gives it, in 0.001 dB: nominal, and the corrections of the two codes (R91, R502). -/
def Dev.gainOf (d : Dev) (c lna att : Nat) : Int :=
  6000 * (lna : Int) - 500 * (att : Int) + d.calHi c (36 + lna) + d.calHi c (40 + att)

/-- The phase of a setting against LNA 18 dB and ATT 0, in 0.01° (R502). -/
def Dev.phaseOf (d : Dev) (c lna att : Nat) : Int := d.calLo c (36 + lna) + d.calLo c (40 + att)

/-- A setting takes effect (R92): the output is scaled by the inverse of the step. It is remembered for R116. -/
def Dev.setGain (d : Dev) (c lna att : Nat) : Dev :=
  let l0 := d.get (Reg.CAP_CC_STAT_LNA c)
  let a0 := d.get (Reg.CAP_CC_STAT_ATT c)
  let d := d.updCore c (fun x =>
    let hist := if x.gains.isEmpty then [(0, l0, a0, d.get (Reg.CAP_CC_STAT_GIDX c))] else x.gains
    let keep := hist.takeWhile (fun g => decide (d.devtime < g.1 + 4000000))
    { x with gains := (d.devtime, lna, att, gidxOf lna att) :: keep ++ (hist.drop keep.length).take 1
             comp := x.comp - (d.gainOf c lna att - d.gainOf c l0 a0)
             compPhase := x.compPhase - (d.phaseOf c lna att - d.phaseOf c l0 a0) })
  ((d.set (Reg.CAP_CC_STAT_LNA c) lna).set (Reg.CAP_CC_STAT_ATT c) att).set (Reg.CAP_CC_STAT_GIDX c) (gidxOf lna att)

/-- The setting a core had at a DEVTIME (R116). -/
def Dev.gainAt (d : Dev) (c t : Nat) : Nat × Nat :=
  match (d.capCore c).gains.find? (fun g => decide (g.1 ≤ t)) with
  | some g => (g.2.1, g.2.2.1)
  | none => (d.get (Reg.CAP_CC_STAT_LNA c), d.get (Reg.CAP_CC_STAT_ATT c))

/-! ## Blanking -/

def Dev.blank (d : Dev) (x : Nat) : Blank := if x = 0 then d.cap.blankA else d.cap.blankB
def Dev.setBlank (d : Dev) (x : Nat) (b : Blank) : Dev :=
  if x = 0 then { d with cap := { d.cap with blankA := b } } else { d with cap := { d.cap with blankB := b } }

/-- The marked window of an aerial is open (R99). -/
def Dev.blankOpen (d : Dev) (x : Nat) : Bool := (d.blank x).active || decide (d.now < (d.blank x).endAt)

/-- The aerial a core samples: 0 A, 1 B. -/
def Dev.aerialOf (d : Dev) (c : Nat) : Option Nat := match d.get (Reg.CAP_CC_STAT_SRC c) with
  | 1 => some 0
  | 2 => some 1
  | _ => none

def Dev.coreBlanked (d : Dev) (c : Nat) : Bool := match d.aerialOf c with
  | some x => d.blankOpen x
  | none => false

/-- A frame that ends now holds a sample of the marked window (R99). -/
def Dev.frameBlanked (d : Dev) (c : Nat) : Bool := match d.aerialOf c with
  | some x => (d.blank x).active || decide (d.now < (d.blank x).endAt + 20) && decide ((d.blank x).endAt ≠ 0)
  | none => false

/-- The rotation freezes the bellows of S and X from step 5 to step 10 (R108, R126). -/
def Dev.rotFrozen (d : Dev) (c : Nat) : Bool := match d.cap.rot with
  | some r => (c == r.x || c == r.s) &&
      (r.phase == .moved || r.phase == .coarse || r.phase == .fine || r.phase == .verify || r.phase == .ready || r.phase == .crossfade)
  | none => false

/-- BLANKED and FROZEN of a core brought up to date (R100). -/
def Dev.refreshCore (d : Dev) (c : Nat) : Dev :=
  let b := d.coreBlanked c
  (d.set (Reg.CAP_CC_STAT_BLANKED c) (b2n b)).set (Reg.CAP_CC_STAT_FROZEN c) (b2n (b || d.rotFrozen c))
def Dev.refreshCores (d : Dev) : Dev := (List.range 3).foldl (fun d c => d.refreshCore c) d

/-- The level of BLANK_A or BLANK_B as EN and POL read it (R98, R101): an assertion opens the window, a release leaves it
open for POST frames. -/
def Dev.blankEval (d : Dev) (x : Nat) : Dev :=
  let b := d.blank x
  let en := d.is (if x = 0 then Reg.CAP_BLKCFG_EN_A else Reg.CAP_BLKCFG_EN_B)
  let pol := d.is (if x = 0 then Reg.CAP_BLKCFG_POL_A else Reg.CAP_BLKCFG_POL_B)
  let post := d.get (if x = 0 then Reg.CAP_BLKCFG_POST_A else Reg.CAP_BLKCFG_POST_B)
  let act := en && (b.level == pol)
  let b := if act && !b.active then { b with active := true, stuckRaised := false, since := d.now }
    else if !act && b.active then { b with active := false, endAt := d.now + 20 * post }
    else b
  (d.setBlank x b).refreshCores

/-! ## Calibration values (R499, R502) -/

/-- The byte an index of a block's word. -/
def Dev.calBlock (d : Dev) (b base n : Nat) : List Word := (List.range n).map (fun i => d.rd (Reg.CAL_VAL b (base + i)))
def Dev.setCalBlock (d : Dev) (b base : Nat) (ws : List Word) : Dev :=
  (ws.zipIdx).foldl (fun d p => d.wr (Reg.CAL_VAL b (base + p.2)) p.1) d

/-- CRC-32 of bytes 0x008 to 0x3FF of a block of words (R502). -/
def blockCrc (rd : Nat → Word) : Word := crc32 ((List.range 254).flatMap (fun i => wordBytes (rd (i + 2))))

/-- The header, TEMP and CRC of a block rewritten after an application (R502). -/
def Dev.calHeader (d : Dev) (b : Nat) : Dev :=
  let d := d.wr (Reg.CAL_VAL b 0) (BitVec.ofNat 32 (0x01000000 + b * 65536 + d.get Reg.RST_STAT_TEMP))
  d.wr (Reg.CAL_VAL b 1) (blockCrc (fun i => d.rd (Reg.CAL_VAL b i)))

/-- An application begins (R499). -/
def Dev.calApply (d : Dev) (b base : Nat) (new : List Word) : Dev :=
  { d with cal := { d.cal with applies := ⟨b, base, d.calBlock b base new.length, new, 0⟩ :: d.cal.applies } }

/-- A value k of 256 equal steps on its way (R499). -/
def stepInt (k : Nat) (o n : Int) : Int := roundOpen (o * (256 - k : Nat) + n * k) 256

/-- Word `i` of block `b` k steps on its way: the values in it are as R502 lays them out, two of 16 bits, one signed of 32, or a
frequency. -/
def stepWord (b i k : Nat) (o n : Word) : Word :=
  if b = 3 ∨ (36 ≤ i ∧ i < 104) ∨ i = 105 ∨ (108 ≤ i ∧ i % 2 = 1) then
    BitVec.ofInt 16 (stepInt k (toSigned 16 (o.toNat / 65536)) (toSigned 16 (n.toNat / 65536))) ++
      BitVec.ofInt 16 (stepInt k (toSigned 16 (o.toNat % 65536)) (toSigned 16 (n.toNat % 65536)))
  else if 108 ≤ i then BitVec.ofInt 32 (stepInt k o.toNat n.toNat)
  else BitVec.ofInt 32 (stepInt k o.toInt n.toInt)

/-- The words of an application after its step k. -/
def CalApply.at_ (a : CalApply) (k : Nat) : List Word :=
  if 256 ≤ k then a.new else (a.old.zip a.new).zipIdx.map (fun p => stepWord a.block (a.base + p.2) k p.1.1 p.1.2)

/-- An application no longer in progress. -/
def Dev.calDrop (d : Dev) (b : Nat) : Dev :=
  { d with cal := { d.cal with applies := d.cal.applies.filter (fun a => a.block != b) } }

/-- What remains of an application done at once. Tracking carries on from the values applied (R499). -/
def Dev.calFinish (d : Dev) (b : Nat) : Dev :=
  match d.cal.applies.find? (fun a => a.block == b) with
  | some a =>
    let d := ((d.setCalBlock b a.base a.new).calDrop b).calHeader b
    if b < 3 ∧ a.base = 4 then d.updCore b (fun x => { x with drift := [] }) else d
  | none => d

/-- An application given up, the values of before it in use again. -/
def Dev.calUndo (d : Dev) (b : Nat) : Dev :=
  match d.cal.applies.find? (fun a => a.block == b) with
  | some a => (d.setCalBlock b a.base a.old).calDrop b
  | none => d

/-- Words a CORE run writes: 0x010 to 0x1AF (R502). -/
def coreWords : Nat := 104

/-- The list of new words for a span, the current ones where the measurement gives fewer. -/
def Dev.newWords (d : Dev) (b base n : Nat) (ws : List Word) : List Word :=
  ws.take n ++ (d.calBlock b base n).drop (ws.take n).length

/-- A run applied its values (R497 step 5, R501). -/
def Dev.calApplied (d : Dev) (target src : Nat) : Dev :=
  let d := d.wr (Reg.CAL_TST_W0 target) (BitVec.ofNat 32 (src * 65536 + (d.get (Reg.CAL_TST_W0_COUNT target) + 1) % 65536))
  let d := d.wr64 (Reg.CAL_TST_W2 target) (Reg.CAL_TST_W3 target) d.devtime
  (d.set (Reg.CAL_TST_W4_TEMP target) (d.get Reg.RST_STAT_TEMP)).raise Reg.CAL_EVT 1

/-- A run ended without applying (R113, R497). -/
def Dev.calFailed (d : Dev) (target src status : Nat) : Dev :=
  let d := (d.set (Reg.CAL_TST_W0_STATUS target) status).set (Reg.CAL_TST_W0_SRC target) src
  (d.raise Reg.CAL_EVT 2).sootE 1 15 0xB001 (status * 256 + target)

/-- The tone is where it was stated (R495). -/
def toneOk (f l : Word) (m : CalMeas) : Bool :=
  decide (((m.toneHz : Int) - f.toNat).natAbs ≤ 10000) && decide ((m.toneLvl - toSigned 16 (l.toNat % 65536)).natAbs ≤ 300)

/-- The disagreement of two runs recorded (R502 and the CAL_TST table). -/
def Dev.calCompare (d : Dev) (target : Nat) (m : CalMeas) : Dev :=
  d.wr (Reg.CAL_TST_W1 target) (BitVec.ofNat 32 (min m.dGain 65535 * 65536 + (if target < 3 then min m.dPhase 65535 else 0)))

/-- The two runs agree (R494). -/
def calAgree (target : Nat) (m : CalMeas) : Bool :=
  if target < 3 then decide (m.dGain ≤ 50) && decide (m.dPhase ≤ 20) else if target < 6 then decide (m.dGain ≤ 50) else decide (m.dGain ≤ 200)

/-! ## The end of a CAL command (R497, R500) -/

/-- The core a target names. -/
def calCore (target : Nat) : Option Nat := if target < 6 then some (target % 3) else none

/-- A core leaves CALIBRATING for STANDBY with its SBSRC source (R497). -/
def Dev.coreBack (d : Dev) (c : Nat) : Dev :=
  if d.coreState c = 2 then ((d.setCore c 1 (d.get Reg.CAP_ROLE_SB_SRC)).setStale c false).refreshCore c else d

/-- The block of CAL_VAL that a CAL command writes. -/
def CalCmd.block (k : CalCmd) : Nat := if k.op ≠ 1 then k.target else if k.target < 6 then k.target % 3 else 3

/-- The CAL command in progress ends with a status. -/
def Dev.calEnd (d : Dev) (status : Nat) : Dev :=
  match d.cal.cmd with
  | none => d
  | some k =>
    let d := { d with cal := { d.cal with cmd := none } }
    let d := if k.op ≠ 1 then d
      else
        let d := match calCore k.target with | some c => d.coreBack c | none => d
        if status = 0 then
          let d := d.calApplied k.target 0
          if k.target < 3 then
            let d := d.updCore k.target (fun x => { x with calibrated := true })
            (if d.cap.periodicOk then d else { d with cap := { d.cap with periodicOk := true, rotEnd := d.now } }).refreshMargin
          else d
        else d.calFailed k.target 0 status
    let d := (d.cmdEnd Reg.CAL_CMDSTAT status).raise Reg.CAL_EVT 0
    if k.op = 1 ∧ k.target = 6 then d.smkTurn else d

/-- A run of a core is stopped before its end: what it applied of its values is taken back. -/
def Dev.calStopRun (d : Dev) (c status : Nat) : Dev :=
  match d.cal.cmd with
  | some k =>
    if k.op = 1 ∧ calCore k.target = some c then (d.calUndo c).calEnd status else d
  | none => d

/-- A CORE or RSSI run is in progress. -/
def Dev.coreRun (d : Dev) : Bool := match d.cal.cmd with
  | some k => k.op == 1 && decide (k.target < 6)
  | none => false

/-! ## Rotation (R107 to R113) -/

/-- The crosspoint code of a role's aerial: 1 AER_A, 2 AER_B. -/
def Dev.roleOf (d : Dev) (c : Nat) : Option Nat :=
  if d.get Reg.CAP_ROLE_CORE_A = c then some 0 else if d.get Reg.CAP_ROLE_CORE_B = c then some 1 else none
def Dev.setRole (d : Dev) (r c : Nat) : Dev := d.set (if r = 0 then Reg.CAP_ROLE_CORE_A else Reg.CAP_ROLE_CORE_B) c

/-- The rotation's STEP. -/
def Dev.rotStep (d : Dev) (k : Nat) : Dev := d.set Reg.CAP_ROTSTAT_STEP k
def Dev.setRot (d : Dev) (r : Option Rotation) : Dev := { d with cap := { d.cap with rot := r } }

/-- A rotation of role `r` starts (R108 step 1): a host run of the standby ends with PREEMPT (R500). -/
def Dev.rotStart (d : Dev) (r : Nat) : Dev :=
  let s := d.get Reg.CAP_ROLE_CORE_SB
  let x := d.roleCore r
  let d := d.calStopRun s 0x16
  let d := d.setRot (some {
    phase := .connect, x := x, s := s, role := r, savedSrc := d.get Reg.CAP_ROLE_SB_SRC
    refF := d.rd Reg.CAL_REFF, refL := d.rd Reg.CAL_REFL, saved := d.calBlock s 4 coreWords
    alignAt := 0, frames := 0, marked := 0, savedDrift := (d.capCore s).drift
    savedAlign := ((d.capCore s).alignDelay, (d.capCore s).alignGain, (d.capCore s).alignPhase) })
  let d := ((d.setCore s 2 3).setStale s true).refreshCore s
  ((d.rotStep 1).set Reg.CAP_ROTSTAT_IN s).set Reg.CAP_ROTSTAT_OUT x

/-- The core of a role is IN_SERVICE. -/
def Dev.inService (d : Dev) (r : Nat) : Bool := d.coreState (d.roleCore r) == 4

/-- The role of the core longest in service (R107); role A where both are equal (log 36). -/
def Dev.longestRole (d : Dev) : Nat :=
  if !d.inService 0 then 1
  else if !d.inService 1 then 0
  else if (d.capCore (d.roleCore 1)).since < (d.capCore (d.roleCore 0)).since then 1 else 0

/-- A rotation may start (R107, R116): a standby is ready, and a core is in service to be taken out. -/
def Dev.rotReady (d : Dev) : Bool :=
  d.cap.rot.isNone && d.migr && d.standbyCore.isSome && d.cap.replacing.isNone && (d.inService 0 || d.inService 1)

/-- A core in service that is SUSPECT is taken out when the standby is ready (R115). -/
def Dev.rotSuspects (d : Dev) : Dev :=
  if !d.rotReady then d
  else match [0, 1].find? (fun r => d.coreState (d.roleCore r) == 4 && d.is (Reg.CAP_CC_STAT_SUSPECT (d.roleCore r))) with
    | some r => d.rotStart r
    | none => d

/-- PERIOD minutes have passed since the end of the last rotation and periodic rotation is enabled (R107); a host run of
the standby goes first (R500). -/
def Dev.rotPeriodic (d : Dev) : Dev :=
  if d.rotReady && d.cap.periodicOk && d.is Reg.CAP_ROTCFG_AUTO && !d.coreRun
      && decide (d.cap.rotEnd + d.get Reg.CAP_ROTCFG_PERIOD * 60000000000 ≤ d.now) then d.rotStart d.longestRole
  else d

/-- The end of a rotation, or of its refresh: idle, and PERIOD counts from here. -/
def Dev.rotFinish (d : Dev) : Dev :=
  let d := { d with cap := { d.cap with rot := none, rotEnd := d.now } }
  (d.rotStep 0).refreshCores.refreshMargin

/-- S has its corrections of before the rotation again, and goes back to STANDBY (R111). -/
def Dev.rotRestore (d : Dev) (r : Rotation) : Dev :=
  let d := ((d.calDrop r.s).setCalBlock r.s 4 r.saved).calHeader r.s
  let d := d.updCore r.s (fun x => { x with
    drift := r.savedDrift, alignDelay := r.savedAlign.1, alignGain := r.savedAlign.2.1, alignPhase := r.savedAlign.2.2 })
  (if d.coreState r.s = 5 then d else d.setCore r.s 1 r.savedSrc).setStale r.s false

/-- A rotation ends without completing (R111, R112). -/
def Dev.rotAbandon (d : Dev) (r : Rotation) (status : Nat) : Dev :=
  let d := (d.rotRestore r).set Reg.CAP_ROTSTAT_STATUS status
  let d := if status = 0x10 ∨ status = 0x11 then d.calFailed r.s 1 status else d
  (d.raise Reg.CAP_EVT 2).rotFinish

/-- Step 9: the crossfade frame begins at a frame boundary: the residual and the DEVTIME of its first sample (R108, R109). -/
def Dev.crossStart (d : Dev) (r : Rotation) : Dev :=
  let d := ((d.setI Reg.CAP_ROTRES_GAIN r.res.1).setI Reg.CAP_ROTRES_PHASE r.res.2.1).setI Reg.CAP_ROTRES_DELAY r.res.2.2
  (d.wr64 Reg.CAP_ROTTIME_LO Reg.CAP_ROTTIME_HI d.devtime).setRot (some { r with phase := .crossfade })

/-- Step 10: S takes X's role, X becomes the standby on CAL_IN, and its refresh follows (R108). -/
def Dev.rotComplete (d : Dev) (r : Rotation) : Dev :=
  let d := ((d.setRole r.role r.s).set Reg.CAP_ROLE_CORE_SB r.x).set Reg.CAP_ROLE_SB_SRC 3
  let d := (d.set (Reg.CAP_CC_STAT_STATE r.s) 4).setCore r.x 1 3
  let d := (d.updCore r.s (fun c => { c with since := d.now })).updCore r.x (fun c => { c with calibrated := true })
  let d := ((d.set Reg.CAP_ROTSTAT_STATUS 0).incMod Reg.CAP_ROTSTAT_COUNT 1).rotStep 6
  let d := (d.setRot (some { r with phase := .refreshWait })).raise Reg.CAP_EVT 1
  d.refreshCores.refreshNocores.refreshMargin

/-! ## Snapshots (R120 to R125) -/

/-- Record bytes: full band, lane (R123, R124). -/
def recSize (mode : Nat) : Nat := if mode = 0 then 12352 else 1088

/-- Two 12-bit samples in 3 bytes, the first in the low bits (R123). -/
def packCodes : List (BitVec 12) → List Byte
  | a :: b :: rest => leBytes 3 (a.toNat + 4096 * b.toNat) ++ packCodes rest
  | [a] => leBytes 3 a.toNat
  | [] => []

def Dev.setSnap (d : Dev) (s : Option Snap) : Dev := { d with cap := { d.cap with snap := s } }

/-- The core a full-band snapshot follows (R120). -/
def Dev.snapCore (d : Dev) (s : Snap) : Nat := if s.src < 3 then s.src else d.roleCore (s.src - 3)

/-- Bytes written to the ashpit at an address of its usable space. -/
def Dev.dramWrite (d : Dev) (a : Nat) (bs : List Byte) : Dev :=
  { d with ash := { d.ash with dram := Memory.writeList d.ash.dram a bs } }

/-- Recording begins at a record boundary: STATE RUNNING. -/
def Dev.snapRun (d : Dev) (s : Snap) : Dev :=
  (d.setSnap (some { s with running := true })).set Reg.CAP_SNAPSTAT_STATE 2

/-- A trigger of a kind (1 time, 2 alert, 3 software) reaches the snapshot (R121). -/
def Dev.snapTrigger (d : Dev) (kind : Nat) : Dev :=
  match d.cap.snap with
  | none => d
  | some s =>
    if s.trig ≠ kind ∨ s.trigRec.isSome ∨ s.aborting then d
    else
      let s := { s with trigRec := some (s.written, d.devtime) }
      let d := (d.set Reg.CAP_SNAPSTAT_TRIGGERED 1).raise Reg.CAP_EVT 9
      if s.running then d.setSnap (some s) else d.snapRun s

/-- The header (R122). -/
def Dev.snapHeader (s : Snap) (core : Nat) (aborted : Bool) : List Byte :=
  let wrapped := decide (s.n < s.written)
  let flags := b2n s.raw + 2 * b2n s.ring + 4 * b2n wrapped + 8 * b2n s.trigRec.isSome + 16 * b2n aborted
  [BitVec.ofNat 8 (s.mode + 1), BitVec.ofNat 8 (if s.mode = 0 then core else s.lanes.length), BitVec.ofNat 8 flags, 0]
    ++ leBytes 4 s.z ++ leBytes 4 s.n ++ leBytes 4 (if wrapped then s.written % s.n else 0) ++ leBytes 4 (min s.written s.n)
    ++ leBytes 4 (match s.trigRec with | some t => t.1 % s.n | none => 0xFFFFFFFF)
    ++ leBytes 8 (match s.trigRec with | some t => t.2 | none => 0)
    ++ wordBytes s.devid ++ [BitVec.ofNat 8 s.trig] ++ List.replicate 4059 0

/-- Recording stops: the header is written, DONE or ABORTED (R121). -/
def Dev.snapStop (d : Dev) (s : Snap) (aborted : Bool) : Dev :=
  let d := if s.running then d.dramWrite s.base (Dev.snapHeader s (d.snapCore s) aborted) else d
  ((d.setSnap none).set Reg.CAP_SNAPSTAT_STATE (if aborted then 4 else 3)).raise Reg.CAP_EVT 10

/-- A record is written and the snapshot goes on or stops (R121). WRAPPED is set as the first record overwrites another, as the field of
CAP_SNAPSTAT has it (log 102). -/
def Dev.snapRecord (d : Dev) (s : Snap) (bs : List Byte) : Dev :=
  let d := d.dramWrite (s.base + 4096 + s.written % s.n * s.z) bs
  let d := if s.n ≤ s.written then d.set Reg.CAP_SNAPSTAT_WRAPPED 1 else d
  let d := d.incSat Reg.CAP_SNAPSTAT_RECORDS 1
  let s := { s with written := s.written + 1 }
  let full := if s.ring then (match s.trigRec with | some t => decide (t.1 + 1 + s.post ≤ s.written) | none => false)
    else decide (s.n ≤ s.written)
  if s.aborting then d.snapStop s true else if full then d.snapStop s false else d.setSnap (some s)

/-- The source core of a full-band snapshot changed within a record (R120, R123). -/
def Dev.snapChg (d : Dev) (role flag : Nat) : Dev :=
  match d.cap.snap with
  | some s => if s.mode = 0 ∧ s.src = 3 + role ∧ s.acc.frames ≠ 0 then
      d.setSnap (some { s with acc := { s.acc with flags := s.acc.flags ||| flag } }) else d
  | none => d

/-- Lane records under way of lanes fed from a bank whose core changed (R124: CORECHG). -/
def Dev.snapLaneChg (d : Dev) (role : Nat) : Dev :=
  match d.cap.snap with
  | some s => if s.mode = 1 then
      d.setSnap (some { s with lacc := s.lanes.foldl (fun m n =>
        if d.get (Reg.GRT_LCFG_SRC (n / 8) (n % 8)) = role ∧ !(SMap.get {} m n).samples.isEmpty then
          SMap.put {} m n { (SMap.get {} m n) with flags := (SMap.get {} m n).flags ||| 1 } else m) s.lacc }) else d
  | none => d

/-! ## A bank's input (R92, R110, R129, R141) -/

/-- The crossfade of two frames (R110): sample k is (1 − w) · x_X + w · x_S with w = (k + 1/2) / 64. -/
def crossfadeFrame (x s : List (BitVec 12)) : List (BitVec 12) :=
  (List.range 64).map (fun k =>
    BitVec.ofInt 12 (roundOpen ((127 - 2 * k : Nat) * (x.getD k 0).toInt + (2 * k + 1 : Nat) * (s.getD k 0).toInt) 128))

/-- A frame enters a bank: as zeros where it is marked (R141). -/
def Dev.bankFrame (d : Dev) (r : Nat) (mark : Bool) (xs : List (BitVec 12)) : Dev :=
  let x := d.gbank r
  if mark then d.setBank r { (x.addMark (d.scount - 64) d.scount) with frame := List.replicate 64 0 } else d.setBank r { x with frame := xs }

/-- The crossfade is over: the records it falls in, and step 10 (R108, R120). -/
def Dev.crossDone (d : Dev) (r : Rotation) : Dev := ((d.snapChg r.role 9).snapLaneChg r.role).rotComplete r

/-! ## Failure and replacement (R112, R116 to R119) -/

/-- A block's marks set for the samples from a number on (R177). -/
def BkBlock.markFrom (b : BkBlock) (m0 : Nat) : BkBlock :=
  let m := ((b.times.zipIdx.map (fun p => if m0 ≤ b.first + p.2 then 2 ^ p.2 else 0)).foldl (· + ·) 0)
  { b with bytes := b.bytes.take 42 ++ leBytes 2 (Nat.lor (leNat (b.bytes.drop 42)) m) }

/-- The marks of a lane's backlog set from FAULT_T on (R177). -/
def Lane.markFrom (x : Lane) (m : Nat) : Lane :=
  { x with
    bk := x.bk.map (fun b => b.markFrom m), bkBuf := x.bkBuf.map (fun b => b.markFrom m)
    cur := x.cur.map (fun s => if m ≤ s.m then { s with mark := true } else s) }

/-- Lanes fed from a bank are asked to re-acquire from FAULT_T (R117). -/
def Dev.bankResync (d : Dev) (role faultT : Nat) : Dev :=
  (List.range d.part.lanes).foldl (fun d n =>
    if d.is (Reg.GRT_LSTAT_RUN (n / 8) (n % 8)) && d.get (Reg.GRT_LCFG_SRC (n / 8) (n % 8)) == role && (d.lane n).started then
      (d.updLane n (fun x => x.markFrom (d.ballSample n faultT))).askResync n faultT else d) d

/-- A core is recorded as FAILED and isolated (R114, R119). -/
def Dev.coreRecord (d : Dev) (c cause faultT : Nat) : Dev :=
  let d := (d.set (Reg.CAP_CC_HEALTH_CAUSE c) cause).wr64 (Reg.CAP_CC_FAULT_LO c) (Reg.CAP_CC_FAULT_HI c) faultT
  let d := ((d.setCore c 5 0).updCore c (fun x => { x with calibrated := false })).raise Reg.CAP_EVT 4
  d.refreshCores.refreshNocores

/-- A bank's core is gone: its samples are marked from here on (R116). -/
def Dev.bankLost (d : Dev) (r : Nat) : Dev :=
  let x := d.gbank r
  d.setBank r { x with gap := some (x.gap.getD d.scount) }

/-- A bank is fed again: what came in between stays marked (R116). -/
def Dev.bankBack (d : Dev) (r : Nat) : Dev :=
  let x := d.gbank r
  match x.gap with
  | some t => d.setBank r ({ x with gap := none }.addMark t d.scount)
  | none => d

/-- What the failure of a core means for the role it held (R116, R118). -/
def Dev.roleFailed (d : Dev) (c cause faultT : Nat) : Dev :=
  if d.get Reg.CAP_ROLE_CORE_SB = c then
    let d := (d.set Reg.CAP_ROLE_CORE_SB 3).sootE 1 2 0x3004 (cause * 256 + c)
    match d.cap.replacing with
    | some p => if p.s = c then
        { d with cap := { d.cap with replacing := none } }.sootE 2 2 0x3003 (d.get (Reg.CAP_CC_HEALTH_CAUSE p.failed) * 256 + p.failed) else d
    | none => d
  else match d.roleOf c with
    | none => d
    | some r =>
      let d := d.bankLost r
      if d.standbyCore.isSome ∧ d.cap.replacing.isNone ∧ d.migr then
        let s := d.get Reg.CAP_ROLE_CORE_SB
        let d := (d.calStopRun s 0x16).sootE 1 2 0x3002 (cause * 256 + c)
        { d with cap := { d.cap with replacing := some { failed := c, s := s, role := r, since := d.now } } }.bankResync r faultT
      else d.sootE 2 2 0x3003 (cause * 256 + c)

/-- Step 2 of a replacement: the standby joins the failed core's aerial with its last setting before FAULT_T, and its delay, gain and
phase are set from the differences of the two cores' calibrations against CAL_IN (R116, R502). -/
def Dev.replaceJoin (d : Dev) (p : Replacing) : Dev :=
  let f := p.failed
  let g := d.gainAt f (d.rd64 (Reg.CAP_CC_FAULT_LO f) (Reg.CAP_CC_FAULT_HI f))
  let x := d.capCore f
  let dg := d.gainOf f g.1 g.2 - d.gainOf f (d.get (Reg.CAP_CC_STAT_LNA f)) (d.get (Reg.CAP_CC_STAT_ATT f))
  let dp := d.phaseOf f g.1 g.2 - d.phaseOf f (d.get (Reg.CAP_CC_STAT_LNA f)) (d.get (Reg.CAP_CC_STAT_ATT f))
  let d := { d with cap := { d.cap with replacing := some { p with joined := true } } }
  let d := ((d.set (Reg.CAP_CC_STAT_SRC p.s) (p.role + 1)).setGain p.s g.1 g.2).updCore p.s (fun y => { y with
    comp := x.comp - dg, compPhase := x.compPhase - dp
    alignDelay := x.alignDelay + ((d.rd (Reg.CAL_VAL f 104)).toInt - (d.rd (Reg.CAL_VAL p.s 104)).toInt)
    alignGain := x.alignGain + (d.calHi f 105 - d.calHi p.s 105), alignPhase := x.alignPhase + (d.calLo f 105 - d.calLo p.s 105) })
  d.refreshCores

/-- X failed from step 5 on: output switches at once to S (R31). -/
def Dev.rotSwitch (d : Dev) (r : Rotation) (c cause : Nat) : Dev :=
  let d := (d.setRole r.role r.s).set Reg.CAP_ROLE_CORE_SB 3
  let d := (d.set (Reg.CAP_CC_STAT_STATE r.s) 4).updCore r.s (fun x => { x with since := d.now })
  let d := ((d.set Reg.CAP_ROTSTAT_STATUS 0x15).raise Reg.CAP_EVT 2).snapChg r.role 1
  ((d.snapLaneChg r.role).refreshNocores.sootE 1 2 0x3002 (cause * 256 + c)).rotFinish

/-- The refresh of X is cut short: X keeps the corrections it had, and CAL_TST says why where a run had begun (R113, R500). -/
def Dev.refreshCut (d : Dev) (r : Rotation) (status : Nat) : Dev :=
  let d := ((d.calUndo r.x).coreBack r.x).setStale r.x false
  if r.phase = .refreshWait then d else d.calFailed r.x 1 status

/-- Another core than S and X fails at step 9 or later: the crossfade completes first (R112). -/
def Dev.rotThrough (d : Dev) (c : Nat) : Dev :=
  match d.cap.rot with
  | some r =>
    if c = r.x ∨ c = r.s then d
    else if r.phase = .ready then (d.crossStart r).crossDone r
    else if r.phase = .crossfade then d.crossDone r
    else d
  | none => d

/-- A failure level is reached: the core is declared FAILED (R112, R114, R116, R118, R500). -/
def Dev.coreFail (d : Dev) (c cause faultT : Nat) : Dev :=
  if 2 < c ∨ d.coreState c = 5 then d
  else
    let d := (d.calStopRun c 0x15).rotThrough c
    match d.cap.rot with
    | none => ((d.coreRecord c cause faultT).roleFailed c cause faultT).refreshMargin
    | some r =>
      let d := d.coreRecord c cause faultT
      let st := if c = r.x ∨ c = r.s then 0x15 else 0x16
      match r.phase with
      | .refreshWait | .refreshFirst | .refreshSecond | .refreshApply =>
        (((d.refreshCut r (if c = r.x then 0x15 else 0x16)).rotFinish).roleFailed c cause faultT).refreshMargin
      | .connect | .firstRun | .secondRun | .applying => ((d.rotAbandon r st).roleFailed c cause faultT).refreshMargin
      | _ =>
        if c = r.x then (d.rotSwitch r c cause).refreshMargin
        else ((d.rotAbandon r st).roleFailed c cause faultT).refreshMargin

/-- The refresh of X ends without applying (R113): a suspect X is declared FAILED (R115), with the DEVTIME at which the refresh ended
as its FAULT_T (log 103). -/
def Dev.refreshFail (d : Dev) (r : Rotation) (status : Nat) : Dev :=
  let d := ((((d.calUndo r.x).coreBack r.x).setStale r.x false).calFailed r.x 1 status).rotFinish
  if d.is (Reg.CAP_CC_STAT_SUSPECT r.x) then d.coreFail r.x (d.get (Reg.CAP_CC_HEALTH_CAUSE r.x)) d.devtime else d

end Sys2Proof.Machine
end

