-- ==== Sys2Proof/Machine/Ashpit.lean ====
section
/-! DEFINITION. The commands of the chimney and the ashpit (chapter 9). -/

namespace Sys2Proof.Machine

/-! ## The chimney (R286 to R292, R320) -/

/-- A parity error on a hearth's cluster link (R163, cause 7): suspect, and failed at the second within 1 ms. -/
def Dev.linkError (d : Dev) (h : Nat) : Dev :=
  let x := d.hearth h
  if x.linkAt ≠ 0 ∧ d.now < x.linkAt - 1 + 1000000 then d.declareFail h 7 (x.linkAt - 1) (d.devtime - (d.now - (x.linkAt - 1)))
  else (d.setHearth h { x with linkAt := d.now + 1 }).suspect h 7

/-- A parity error of a port (R288). -/
def Dev.parityError (d : Dev) (port h : Nat) : Dev :=
  let d := d.incSat (Reg.CHM_PERR_PARITY port) 1
  if port = 13 then (d.raiseUnit Reg.CHM_EVT port [1]).sootE 1 6 0x5003 0
  else
    let d := d.raiseUnit Reg.CHM_EVT port [0]
    if h / 8 = port ∧ h < d.part.hearths ∧ 2 ≤ d.hstate h ∧ d.hstate h ≤ 5 then d.linkError h else d

/-- A message has crossed with a parity error (R288): on a cluster link its monitor counts it against the hearth it is of; on the SP
link the message goes on with its error flag, so that its requester receives ERROR. -/
def Dev.damagedMsg (d : Dev) (port : Nat) (m : LinkMsg) : Dev :=
  let h := match m.req with
    | some (.ash h _) => h
    | some (.reg h) => h
    | _ => port * 8 + m.member
  let d := d.parityError port h
  if port = 13 then (match m.req with | some r => d.failReply r | none => d) else d

/-- CHIMNEY_MESSAGE: a message crosses the link of a port, towards the switch (`up`) or from it (R286 to R292). `new` is a message that
a unit offers meanwhile at its own hub, carrying `kind` and `data` flits of data, `ret` the credits the receiver of this link has returned, by class; `parity` says that a flit
of the message that crosses has a parity error. -/
def execChimneyMessage (port : Nat) (up : Bool) (new : Option LinkEnds) (kind : Transfer) (data : Nat) (ret : List Nat) (parity : Bool) (s : State) :
    Host.Outcome State Fault Refusal :=
  s.onDev (fun d =>
    if !d.part.hasPort port || d.held 6 then d
    else
      let d := match new with | some m => d.offerMsg ⟨m.src, m.dst, m.member, kind, data, m.req⟩ | none => d
      let (d, bad) := d.returnCredits port up ret
      let d := if bad then (d.raiseUnit Reg.CHM_EVT port [2]).sootE 2 6 0x5002 port else d
      match d.runLink port up 64 with
      | (none, d) => d
      | (some m, d) => (if parity then d.damagedMsg port m else d).arriveMsg up m)

/-- HOTPORT_WINDOW: a 1 ms window of a port ends, its busier link direction `busy` percent busy; every 100 ms the counters
of R319 and R320 take what was measured. -/
def execHotportWindow (port busy : Nat) (use : Option LinkUse) (s : State) : Host.Outcome State Fault Refusal :=
  s.onDev (fun d =>
    if !d.part.hasPort port then d
    else
      let d := if 90 < busy then d.raiseUnit Reg.CHM_EVT port [3] else d
      match use with
      | none => d
      | some u =>
        let d := (d.wr (Reg.CHM_PUTIL port) u.putil).set (Reg.CHM_PERR_STALLK port) (min u.stallk 65535)
        ((List.range 6).zip u.bw).foldl (fun d p => d.set (Reg.ASH_BW_MBPS p.1) (min p.2 65535)) d)

/-! ## INIT, refresh, scrubbing (R296 to R303) -/

/-- USABLE in MiB for a density (R10, R296). -/
def Part.usable (p : Part) (density : Nat) : Nat :=
  let m := if density = 0 then 1792 else if density = 1 then 3584 else 7168
  if p.ashMax = 4 then min m 3584 else m

/-- INIT (R298): READY falls until it completes; the DDR balls leave their state of reset (R479). -/
def Dev.ashInit (d : Dev) (arg tag : Nat) : Dev :=
  if d.cmdBusy Reg.ASH_CMDSTAT then d.cmdLost Reg.ASH_CMDSTAT
  else if 1 < arg then (d.cmdDone Reg.ASH_CMDSTAT 1 tag 3).raise Reg.ASH_EVT 0
  else if !d.lanesOn.isEmpty ∨ d.cap.snap.isSome then (d.cmdDone Reg.ASH_CMDSTAT 1 tag 7).raise Reg.ASH_EVT 0
  else
    let d := ((d.cmdStart Reg.ASH_CMDSTAT 1 tag).set Reg.ASH_STAT_READY 0).set Reg.ASH_STAT_USABLE 0
    (({ d with ash := { d.ash with init := some (arg == 1) } }).drive .ddrResetN true).ddrDrive true

def execInit (arg tag : Nat) (s : State) : Host.Outcome State Fault Refusal := s.onBlock 7 (fun d => d.ashInit arg tag)

/-- A write of ASH_CMD. -/
def Dev.ashWrite (d : Dev) (w : Word) : Dev :=
  if getBits w 31 24 = 1 then d.ashInit (getBits w 23 16) (getBits w 15 8)
  else if d.cmdBusy Reg.ASH_CMDSTAT then d.cmdLost Reg.ASH_CMDSTAT
  else (d.cmdDone Reg.ASH_CMDSTAT (getBits w 31 24) (getBits w 15 8) 3).raise Reg.ASH_EVT 0

/-- INIT ends with a status; READY is set by OK alone. -/
def Dev.ashInitEnd (d : Dev) (retain : Bool) (density ranks : Nat) (trained : Bool) : Dev :=
  let st := if density ≠ d.get Reg.ASH_DRAMCFG_DENSITY ∨ ranks ≠ d.get Reg.ASH_DRAMCFG_RANKS then 0x51
    else if !trained then 0x50 else 0
  let d := if st ≠ 0 then d
    else
      let d := (d.set Reg.ASH_STAT_READY 1).set Reg.ASH_STAT_USABLE (d.part.usable density)
      { d with ash := { d.ash with selfRefresh := false, scrub := 0, scrubAt := d.now, corr := [], dram := if retain then d.ash.dram else [] } }
  let d := { d with ash := { d.ash with init := none } }
  (d.cmdEnd Reg.ASH_CMDSTAT st).raise Reg.ASH_EVT 0

/-- INIT_DONE: the mode registers gave a density code and a rank code, and training passed or not (R298). -/
def execInitDone (density ranks : Nat) (trained : Bool) (s : State) : Host.Outcome State Fault Refusal :=
  s.onBlock 7 (fun d => match d.ash.init with
    | none => d
    | some r => d.ashInitEnd r density ranks trained)

/-- DRAM_REFRESH: a refresh takes place, from which a rate reported before applies (R300). -/
def execDramRefresh (s : State) : Host.Outcome State Fault Refusal :=
  s.onBlock 7 (fun d => if d.ready ∧ !d.ash.selfRefresh then d.set Reg.ASH_STAT_REFRATE d.ash.rate else d)

/-- DRAM_TEMP_POLL: the parts report a refresh multiplier: 0 1×, 1 2×, 2 4×, 3 above (R300). -/
def execDramTempPoll (rate : Nat) (s : State) : Host.Outcome State Fault Refusal :=
  s.onBlock 7 (fun d =>
    if !d.ready then d
    else
      let d := { d with ash := { d.ash with rate := min rate 3 } }
      if 3 ≤ rate then (d.raise Reg.ASH_EVT 9).sootE 1 7 0x6005 0 else d)

/-- Units of a lane's main line whose records start in the same block as the record at a place, from it on (R312). -/
def Lane.blockUnits (x : Lane) (place : Nat) : List DUnit :=
  let starts := x.main.foldl (fun (acc : Nat × List (Nat × DUnit)) u => (acc.1 + u.size, acc.2 ++ [(acc.1, u)])) (x.mainHead, [])
  let from_ := starts.2.drop place
  match from_ with
  | [] => []
  | p :: _ => (from_.takeWhile (fun q => q.1 / blockRoom == p.1 / blockRoom)).map (·.2)

/-- A double-bit error in a record of the main line (R312): a payload flags the unit; a header makes the rest of its block
unreadable, and the lane's streams carry a gap. -/
def Dev.drawDamage (d : Dev) (n place : Nat) (header : Bool) : Dev :=
  let x := d.lane n
  if header then
    let gone := x.blockUnits place
    (d.discardMain n (fun u => gone.contains u)).lossAll n none 2
  else d.setLane n { x with main := x.main.zipIdx.map (fun p => if p.2 = place then { p.1 with err := true } else p.1) }

/-- The scrubber is more than 1 % behind its schedule of PERIOD hours for every usable line (R303). -/
def Dev.scrubLate (d : Dev) : Bool :=
  let lines := d.usable / 64
  let period := d.get Reg.ASH_SCRUB_PERIOD * 3600000000000
  decide ((100 * d.ash.scrub + lines) * period < 100 * (d.now - d.ash.scrubAt) * lines)

/-- The scrubber may read: nothing of a higher level waits, or it is raised to the TI class and has its turn there (R303, R318). -/
def Dev.scrubTurn (d : Dev) : Bool := if d.scrubLate then d.ashTurn 0 d.now else d.ashWaiting.isEmpty

/-- SCRUB_STEP: the scrubber reads the next line (R302, R303, R312): `e` what its ECC finds, `hit` where the line lies. -/
def execScrubStep (e : Ecc) (hit : ScrubHit) (s : State) : Host.Outcome State Fault Refusal :=
  s.onBlock 7 (fun d =>
    if !d.ready || !d.is Reg.ASH_SCRUB_EN || !d.scrubTurn then d
    else
      let d := if d.scrubLate then d.ashSpend 0 else d
      let line := d.ash.scrub
      let d := d.ashEcc e line
      let d := match e, hit with
        | .double, .unit n place header => d.drawDamage n place header
        | _, _ => d
      let next := if d.usable / 64 ≤ line + 1 then 0 else line + 1
      { d with ash := { d.ash with
        scrub := next, corr := if next = 0 then [] else d.ash.corr, scrubAt := if next = 0 then d.now else d.ash.scrubAt } })

/-! ## The aperture (R316, R317) -/

/-- What a byte of the usable space reads as through the aperture: TI pages and DRAW blocks are placed as the device
pleases, so a byte of theirs is free (log 3). -/
def Dev.apByte (d : Dev) (a i : Nat) : Byte :=
  if d.usable ≤ a then 0
  else if d.regionOf a < 2 then Config.freeByte (d.free + i)
  else Memory.read d.ash.dram a

/-- What an aperture read from ashpit address `a` answers: the bytes, and that a double-bit error poisons them. -/
def Dev.apData (d : Dev) (a len : Nat) (e : Ecc) : List Byte × Bool × Dev :=
  if !d.ready || d.held 7 then (List.replicate len 0, false, d)
  else if e = .double then
    let r := d.freeBytes len
    (r.1, true, r.2.ashUncorr (a / 64))
  else
    ((List.range len).map (fun i => d.apByte (a + i) i), false, { d with free := d.free + len }.ashEcc e (a / 64))

/-- The ashpit address of an aperture offset (R316). -/
def Dev.apAddr (d : Dev) (off : Nat) : Nat := d.get Reg.ASH_APBASE_BASE * mib + off

/-- An aperture read. -/
def Dev.apRead (d : Dev) (who : Initiator) (off a len : Nat) (e : Ecc) : Dev :=
  let r := d.apData a len e
  r.2.2.emit (.aperture who off r.1 r.2.1)

/-- An aperture write: only bytes of the HOST region take effect. -/
def Dev.apWrite (d : Dev) (a : Nat) (data : List Byte) : Dev :=
  if !d.ready || d.held 7 then d
  else
    let inHost := fun (x : Nat) => decide (x < d.usable) && d.regionOf x == 4
    let bad := (List.range data.length).any (fun i => !inHost (a + i))
    let m := data.zipIdx.foldl (fun m p => if inHost (a + p.2) then Memory.write m (a + p.2) p.1 else m) d.ash.dram
    let d := { d with ash := { d.ash with dram := m } }
    if bad then (d.raise Reg.ASH_EVT 3).sootE 1 7 0x6006 (a / mib) else d

/-- APERTURE_ACCESS: the host reads `len` bytes or writes `data` at an offset of the aperture. Stokers have none. -/
def execApertureAccess (who : Initiator) (write : Bool) (off len : Nat) (data : List Byte) (e : Ecc) (s : State) :
    Host.Outcome State Fault Refusal :=
  s.onDev (fun d =>
    let a := d.apAddr off
    match who with
    | .stoker _ => d
    | _ => if 0x1000000 ≤ off then d else if write then d.apWrite a data else d.apRead who off a len e)

/-! ## Backlogs and draw lines (R310 to R312) -/

/-- BACKLOG_BLOCK_WRITE: the oldest block that waits reaches the ring once its turn has come (R318), and hearths in replay get on (R165,
R214). -/
def execBacklogBlockWrite (n : Nat) (s : State) : Host.Outcome State Fault Refusal :=
  s.onDev (fun d => match (d.lane n).bkBuf with
    | [] => d
    | b :: rest =>
      if d.held 7 || !d.ashTurn 0 (d.blockSince b) then d
      else
      let d := (d.ashSpend 0).updLane n (fun x => { x with bkBuf := rest }.pushBk b)
      ((List.range d.part.hearths).filter (fun h => d.laneOf h == some n && (d.hearth h).replay.isSome)).foldl (fun d h => d.refill h) d)

/-- Units of the shadow line whose release has come go with the primary's (R181). -/
def Dev.shadowExpire (d : Dev) (n : Nat) : Dev :=
  let x := d.lane n
  let gone := x.shadow.takeWhile (fun u => decide (u.release ≤ d.devtime))
  if gone.isEmpty then d
  else
    let rest := x.shadow.drop gone.length
    d.setLane n { x with shadow := rest, shHead := x.shHead + (gone.map DUnit.size).foldl (· + ·) 0 }

/-- A unit leaves its draw line for the dampers and the audio feeds (R312, R325, R367). -/
def Dev.release (d : Dev) (n : Nat) (u : DUnit) : Dev :=
  let d := (d.updLane n (fun x => x.released_ u)).shadowExpire n
  let d := (d.toDampers (u.toQ n d.now)).feedIn n u.stream u.payload
  let d := d.refreshAsh n
  if (d.lane n).playout && (d.lane n).main.isEmpty then d.releaseBacklog n else d

/-- Whether the resuming hearth will still reach FAULT_T within the draw delay is judged again as units fall due (R32, R185). -/
def Dev.judgePause (d : Dev) (n : Nat) : Dev :=
  match (d.lane n).mig with
  | some m =>
    if m.kind = .planned || m.spliced then d
    else d.pauseFor n m (((d.hearth m.dst).replay).getD ((d.lane n).sampleAt m.ckT))
  | none => d

/-- DRAW_RELEASE: the unit at the head of lane `n`'s line reaches its release time; `e` is what the ECC finds in its record
at ashpit line `line`, in the header or in the payload. A unit that awaits its replacement or the resumed output stays (R32),
as all do while the ashpit is held in reset (R477). -/
def execDrawRelease (n : Nat) (e : Ecc) (line : Nat) (header : Bool) (s : State) : Host.Outcome State Fault Refusal :=
  s.onDev (fun d =>
    let d := d.judgePause n
    match (d.lane n).main with
    | [] => d
    | u :: _ =>
      if d.devtime < u.release || (d.lane n).awaits u || d.held 7 then d
      else
        let d := d.ashEcc e line
        if e = .double then
          let d := d.drawDamage n 0 header
          if header then (if (d.lane n).playout && (d.lane n).main.isEmpty then d.releaseBacklog n else d)
          else d.release n { u with err := true }
        else d.release n u)

end Sys2Proof.Machine
end

