-- ==== Sys2Proof/Machine/Firewatch.lean ====
section
/-! DEFINITION. The commands of the firewatch (chapter 8). -/

namespace Sys2Proof.Machine

/-- An event finds its input's FIFO full (R268, R275): dropped from the table path, its pin kept as an untracked hold. -/
def Dev.fwOverflow (d : Dev) (e : FwEvent) : Dev :=
  let d := ((d.raise Reg.FWT_EVT 6).incSat Reg.FWT_STAT_DROPS 1).sootE 1 1 0xE001 (if e.input < 200 then e.hearth else e.input)
  if e.start && actPin e.acts then { d with fire := { d.fire with pinHold := true } } else d

/-- A qualified event with some action reaches the pin path and the FIFO of its input (R268, R271). -/
def Dev.fwEnter (d : Dev) (e : FwEvent) : Dev :=
  let d := if e.start && actPin e.acts then d.assertPin else d
  let d := if e.start then d.snapTrigger 2 else d
  let q := SMap.get [] d.fire.fifo e.input
  if 4 ≤ q.length then d.fwOverflow e
  else { d with fire := { d.fire with fifo := SMap.put [] d.fire.fifo e.input (q ++ [e]) } }

/-- An event at the firewatch (R268, R270, R271, R284). -/
def Dev.fwLatch (d : Dev) (e : FwEvent) : Dev :=
  if !d.is Reg.FWT_CFG_EN then d
  else
    let e := d.qualify e
    if d.laneMasked e || e.acts == 0 then d.incSat Reg.FWT_STAT_MASKED 1
    else (d.fwEnter e).fwRefresh

/-- FIREWATCH_LATCH: the oldest event that has left its source is latched. -/
def execFirewatchLatch (s : State) : Host.Outcome State Fault Refusal :=
  s.onBlock 1 (fun d => match d.fire.flight with
    | [] => d
    | e :: rest => ({ d with fire := { d.fire with flight := rest } }).fwLatch e)

/-- The inputs with waiting events, in the order of the round-robin (R268). -/
def Dev.fwTurn (d : Dev) : Option Nat :=
  let ready := (d.fire.fifo.filter (fun c => !c.2.isEmpty)).map (·.1)
  match ready.find? (fun k => decide (d.fire.served < k)) with
  | some k => some k
  | none => ready.head?

/-- ALERT_TABLE_EVENT: the table takes one event (R268, R274). -/
def execAlertTableEvent (s : State) : Host.Outcome State Fault Refusal :=
  s.onBlock 1 (fun d => match d.fwTurn with
    | none => d
    | some k => match SMap.get [] d.fire.fifo k with
      | [] => d
      | e :: rest =>
        ({ d with fire := { d.fire with fifo := SMap.put [] d.fire.fifo k rest, served := k } }).fwTable e)

/-- A write to FWT_TWn_TRIG (R269). -/
def Dev.tripWrite (d : Dev) (t : Nat) (w : Word) : Dev :=
  if t < 4 ∧ d.get (Reg.FWT_TW_CFG_KIND t) = 1 then
    d.tripEvent t (d.get (Reg.FWT_TW_CFG_LANE t)) w false (d.get (Reg.FWT_TW_CFG_TAG t))
  else d

/-- TRIPWIRE_TRIG_WRITE. -/
def execTripwireTrigWrite (t : Nat) (w : Word) (s : State) : Host.Outcome State Fault Refusal := s.onBlock 1 (fun d => d.tripWrite t w)

def Dev.trip (d : Dev) (t : Nat) : Trip := SMap.get {} d.fire.trips t
def Dev.setTrip (d : Dev) (t : Nat) (x : Trip) : Dev := { d with fire := { d.fire with trips := SMap.put {} d.fire.trips t x } }

/-- The LRB word with bit 31 forced to the start or end value (R269). -/
def trigWord (w : Word) (start : Bool) : Word := putBits w 31 31 (b2n start)

/-- The comparison of an LRBMATCH tripwire at a consistent update (R269). -/
def Dev.lrbEval (d : Dev) (t : Nat) : Dev :=
  let n := d.get (Reg.FWT_TW_CFG_LANE t)
  let w := d.rd (Reg.LANE_LRB n (d.get (Reg.FWT_TW_CFG_WORD t)))
  let eq := (w &&& d.rd (Reg.FWT_TW_MASK t)) == d.rd (Reg.FWT_TW_VAL t)
  let was := (d.trip t).eq
  if eq = was then d
  else (d.setTrip t ⟨eq, w⟩).tripEvent t n (trigWord w eq) (d.get (Reg.LANE_BIND_MSTATE n) != 0) (d.get (Reg.FWT_TW_CFG_TAG t))

/-- LRBMATCH_EVAL: the program of the tripwire's lane has written an even value to LRB SEQ. -/
def execLrbmatchEval (t : Nat) (s : State) : Host.Outcome State Fault Refusal :=
  s.onBlock 1 (fun d =>
    if t < 4 ∧ d.get (Reg.FWT_TW_CFG_KIND t) = 2 ∧ (d.rd (Reg.LANE_LRB (d.get (Reg.FWT_TW_CFG_LANE t)) 0)).toNat % 2 = 0 then d.lrbEval t
    else d)

/-- The table entries a write to FWT_ACK acts on. -/
def ackTargets (all : Bool) (entry : Nat) : List Nat := if all then List.range 32 else [entry % 32]

/-- ALL ends the untracked holds (R275). -/
def Dev.endHolds (d : Dev) (all : Bool) : Dev :=
  if all then { d with fire := { d.fire with pinHold := false, toneHold := false } } else d

/-- A write to FWT_ACK with CLEAR = 0 (R274, R275). -/
def Dev.fwAck (d : Dev) (all : Bool) (entry : Nat) : Dev :=
  (((ackTargets all entry).foldl (fun d j => if d.fwValid j then d.set (Reg.FWT_ACT_W0_ACKED j) 1 else d) d).endHolds all).fwRefresh

/-- A write to FWT_ACK with CLEAR = 1 (R274, R275). -/
def Dev.fwClears (d : Dev) (all : Bool) (entry : Nat) : Dev :=
  (((ackTargets all entry).foldl (fun d j => d.fwClear j) d).endHolds all).fwRefresh

/-- A write to FWT_ACK. -/
def Dev.ackWrite (d : Dev) (w : Word) : Dev :=
  if bit w 30 then d.fwClears (bit w 31) (getBits w 4 0) else d.fwAck (bit w 31) (getBits w 4 0)

def execFwtAck (all : Bool) (entry : Nat) (s : State) : Host.Outcome State Fault Refusal := s.onBlock 1 (fun d => d.fwAck all entry)
def execFwtClear (all : Bool) (entry : Nat) (s : State) : Host.Outcome State Fault Refusal := s.onBlock 1 (fun d => d.fwClears all entry)

/-- ALERT_ENTRY_EXPIRE (R274). -/
def execAlertEntryExpire (j : Nat) (s : State) : Host.Outcome State Fault Refusal :=
  s.onBlock 1 (fun d => if j < 32 then d.fwExpire j else d)

/-- The next transmission of a repeated frame (R279). -/
def Dev.fwRepeat (d : Dev) (r : FwRep) (others : List FwRep) : Dev :=
  let again := decide (r.done + 1 < d.get Reg.FWT_FRMCFG_REPEAT)
  let r' := { r with done := r.done + 1, due := r.due + msNs (d.get Reg.FWT_FRMCFG_REPINT) }
  ({ d with fire := { d.fire with reps := if again then others ++ [r'] else others } }).sendAlert { r.frame with rep := r.done }

/-- ALERT_FRAME_REPEAT: the first repeat that is due is sent (R279). -/
def execAlertFrameRepeat (s : State) : Host.Outcome State Fault Refusal :=
  s.onBlock 1 (fun d => match d.fire.reps.find? (fun r => decide (r.due ≤ d.now)) with
    | some r => d.fwRepeat r (dropFirst (fun x => x == r) d.fire.reps)
    | none => d)

end Sys2Proof.Machine
end

