-- ==== Sys2Proof/Machine/Grate.lean ====
section
/-! DEFINITION. The commands of the grate (chapter 4), but for the samples, the bin frame and the read of the root sample index. -/

namespace Sys2Proof.Machine

/-- REFILL_END: the refill time of a lane is over (R144). -/
def execRefillEnd (n : Nat) (s : State) : Host.Outcome State Fault Refusal :=
  s.onBlock 3 (fun d => if n < d.part.lanes ∧ d.is (Reg.GRT_LSTAT_REFILL (n / 8) (n % 8)) ∧ (d.lane n).refillTo ≤ d.scount then
      (d.set (Reg.GRT_LSTAT_REFILL (n / 8) (n % 8)) 0).raise Reg.GRT_EVT 1
    else d)

/-- The bits of GRT_SATPENDk: the lanes that saturated in the interval that ends. -/
def Dev.satWord (d : Dev) (k : Nat) : Nat :=
  ((List.range 32).map (fun i => b2n (decide (32 * k + i < d.part.lanes) && (d.lane (32 * k + i)).sat) * 2 ^ i)).foldl (· + ·) 0

/-- SATURATION_INTERVAL: GRT_SATPEND is updated every 1 ms, and LANESAT raised when a lane saturated (R138). -/
def execSaturationInterval (s : State) : Host.Outcome State Fault Refusal :=
  s.onBlock 3 (fun d =>
    let ws := (List.range 3).map d.satWord
    let d := ((List.range 3).zip ws).foldl (fun d p => d.wr (Reg.GRT_SATPEND p.1) (BitVec.ofNat 32 p.2)) d
    let d := (List.range d.part.lanes).foldl (fun d n => if (d.lane n).sat then d.updLane n (fun x => { x with sat := false }) else d) d
    if ws.any (· != 0) then d.raise Reg.GRT_EVT 0 else d)

/-- A bin power word (R147): none where the bin's whole window was marked; 2^30 is the square of a full-scale sine. -/
def powerWord (clean sum : Nat) : Word :=
  if clean = 0 then 0x00018000 else (Config.decibel sum (clean * 2 ^ 30)).setWidth 32

/-- The sum of |x|² of bin `k` over the bin frames of weight zero: `clean` says which of `fs` they are. -/
def binSum (clean : List Bool) (fs : List (List (Int × Int))) (k : Nat) : Nat :=
  ((clean.zip fs).map (fun p =>
    let v := p.2.getD k (0, 0)
    if p.1 then v.1.natAbs ^ 2 + v.2.natAbs ^ 2 else 0)).foldl (· + ·) 0

/-- A bank's 512 bin powers from the samples of the average's bin frames, and a new average begun. -/
def Dev.bankPower (d : Dev) (b : Nat) (fs : List (List (Int × Int))) : Dev :=
  let x := d.gbank b
  let d := (List.range 512).foldl (fun d k => d.wr (Reg.GRT_PWR b k) (powerWord (x.clean.count true) (binSum x.clean fs k))) d
  d.setBank b { x with clean := [] }

/-- BIN_POWER_UPDATE: an average over 2^AVG bin samples completes (R147). `a` and `b` are the samples of bins 0 to 511 that the two
banks' fixed filters made in the bin frames of the average, oldest first, 32,768 standing for a full-scale sine (R129). -/
def execBinPowerUpdate (a b : List (List (Int × Int))) (s : State) : Host.Outcome State Fault Refusal :=
  s.onBlock 3 (fun d => if d.is Reg.GRT_BANKCFG_PWREN ∧ 2 ^ d.get Reg.GRT_BANKCFG_AVG ≤ d.binCount then
      { ((d.bankPower 0 a).bankPower 1 b).raise Reg.GRT_EVT 3 with binCount := 0 }
    else d)

/-- A bin frame enters a bank's power average: whether its weight is zero (R129, R147). The taps of the samples that leave the bank
now cover 16,385 converter samples. -/
def Dev.binIn (d : Dev) (b : Nat) : Dev :=
  let x := d.gbank b
  d.setBank b { x with clean := x.clean ++ [x.weight (d.scount - 16464) (d.scount - 79) 0 == 0] }

end Sys2Proof.Machine
end

