-- ==== Sys2Proof/Machine/Capture.lean ====
section
/-! DEFINITION. The commands and events of the capture block (chapter 3). -/

namespace Sys2Proof.Machine

/-! ## CAP commands (R127) -/

/-- A CAP command: discarded with LOST while one executes, else carried out with its status (R127). -/
def Dev.capCmd (d : Dev) (op tag : Nat) (f : Dev → Nat × Dev) : Dev :=
  if d.cmdBusy Reg.CAP_CMDSTAT then d.cmdLost Reg.CAP_CMDSTAT
  else
    let (st, d) := f d
    (d.cmdDone Reg.CAP_CMDSTAT op tag st).raise Reg.CAP_EVT 0

/-- ROTATE (R107, R127, R500). Where more than one status holds, BADARG goes before BUSY, UNAVAIL and NOSTANDBY, in this order; only
ROTATE is UNAVAIL in MINIMAL; during a replacement there is no standby; a role with no core in service is no role to rotate (log 36). -/
def Dev.capRotate (d : Dev) (arg : Nat) : Nat × Dev :=
  if 2 < arg then (3, d)
  else if d.cap.rot.isSome then (2, d)
  else if !d.migr then (4, d)
  else if d.standbyCore.isNone || d.cap.replacing.isSome then (5, d)
  else if (if arg = 0 then !d.inService 0 && !d.inService 1 else !d.inService (arg - 1)) then (3, d)
  else (0, d.rotStart (if arg = 0 then d.longestRole else arg - 1))

def execRotate (arg tag : Nat) (s : State) : Host.Outcome State Fault Refusal :=
  s.onBlock 2 (fun d => d.capCmd 1 tag (fun d => d.capRotate arg))

/-- SBSRC (R89, R127, R500). NOSTANDBY where no core holds the standby role, calibrated or not; BUSY during a replacement (log 36). -/
def Dev.capSbsrc (d : Dev) (arg : Nat) : Nat × Dev :=
  let sb := d.get Reg.CAP_ROLE_CORE_SB
  if 3 < arg then (3, d)
  else if sb = 3 then (5, d)
  else if d.cap.rot.isSome || d.cap.replacing.isSome || d.coreState sb != 1 then (2, d)
  else (0, ((d.set Reg.CAP_ROLE_SB_SRC arg).set (Reg.CAP_CC_STAT_SRC sb) arg).refreshCores)

def execSbsrc (arg tag : Nat) (s : State) : Host.Outcome State Fault Refusal :=
  s.onBlock 2 (fun d => d.capCmd 2 tag (fun d => d.capSbsrc arg))

/-- The lanes CAP_SNAPLANES names (R120). -/
def Dev.snapLanes (d : Dev) : List Nat :=
  (List.range 4).filterMap (fun i =>
    let b := (byteOf (d.rd Reg.CAP_SNAPLANES) i).toNat
    if b / 128 = 1 then some (b % 128) else none)

/-- SNAP_ARM: the status (R121, R122, R124, R127). -/
def Dev.snapStatus (d : Dev) : Nat :=
  let mode := d.get Reg.CAP_SNAPCFG_MODE
  let ring := d.is Reg.CAP_SNAPCFG_RING
  let len := d.get Reg.CAP_SNAPLEN_UNITS * 4096
  let n := (len - 4096) / recSize mode
  if d.cap.snap.isSome then 2
  else if ring ∧ d.get Reg.CAP_SNAPCFG_TRIG = 0 then 3
  else if mode = 1 ∧ d.snapLanes.any (fun l => decide (d.part.lanes ≤ l)) then 0xFE
  else if mode = 1 ∧ (d.snapLanes.isEmpty || d.snapLanes.any (fun l => !d.is (Reg.GRT_LCFG_EN (l / 8) (l % 8)))) then 0x22
  else if !d.ready ∨ d.rgnSize 3 = 0 ∨ d.rgnSize 3 < d.get Reg.CAP_SNAPBASE_UNITS * 4096 + len then 0x23
  else if n = 0 ∨ (ring ∧ n ≤ d.get Reg.CAP_SNAPCFG_POST) then 0x21
  else 0

/-- SNAP_ARM accepted: the snapshot as the page stands; a ring and an immediate one record at once (R121). -/
def Dev.snapArm (d : Dev) : Nat × Dev :=
  let st := d.snapStatus
  if st ≠ 0 then (st, d)
  else
    let mode := d.get Reg.CAP_SNAPCFG_MODE
    let s : Snap := {
      mode := mode, src := d.get Reg.CAP_SNAPCFG_SRC, raw := d.is Reg.CAP_SNAPCFG_RAW, trig := d.get Reg.CAP_SNAPCFG_TRIG
      ring := d.is Reg.CAP_SNAPCFG_RING, post := d.get Reg.CAP_SNAPCFG_POST, lanes := if mode = 1 then d.snapLanes else []
      base := d.rgnBase 3 + d.get Reg.CAP_SNAPBASE_UNITS * 4096
      n := (d.get Reg.CAP_SNAPLEN_UNITS * 4096 - 4096) / recSize mode, z := recSize mode
      time := d.rd64 Reg.CAP_SNAPTIME_LO Reg.CAP_SNAPTIME_HI, devid := d.rd Reg.SYS_DEVID, written := 0, skipped := 0, laneSeq := []
      trigRec := none, acc := {}, lacc := [], aborting := false, running := false }
    let d := (d.wr Reg.CAP_SNAPSTAT 0x10000000).setSnap (some s)
    (0, if s.ring ∨ s.trig = 0 then d.snapRun s else d)

def execSnapArm (tag : Nat) (s : State) : Host.Outcome State Fault Refusal :=
  s.onBlock 2 (fun d => d.capCmd 3 tag Dev.snapArm)

/-- SNAP_TRIG (R121). -/
def execSnapTrig (tag : Nat) (s : State) : Host.Outcome State Fault Refusal :=
  s.onBlock 2 (fun d => d.capCmd 4 tag (fun d => if d.cap.snap.isNone then (6, d) else (0, d.snapTrigger 3)))

/-- SNAP_ABORT (R121): recording stops at the next record boundary; one that has not begun ends at once. -/
def Dev.snapAbort (d : Dev) : Nat × Dev :=
  match d.cap.snap with
  | none => (6, d)
  | some s => (0, if s.running then d.setSnap (some { s with aborting := true }) else d.snapStop s true)

def execSnapAbort (tag : Nat) (s : State) : Host.Outcome State Fault Refusal :=
  s.onBlock 2 (fun d => d.capCmd 5 tag Dev.snapAbort)

/-- The rotation is before its step 9 (R111, R127). -/
def Rotation.early (r : Rotation) : Bool :=
  r.phase == .connect || r.phase == .firstRun || r.phase == .secondRun || r.phase == .applying || r.phase == .moved
    || r.phase == .coarse || r.phase == .fine || r.phase == .verify

/-- ROT_ABORT (R111). -/
def Dev.rotAbort (d : Dev) : Nat × Dev :=
  match d.cap.rot with
  | none => (6, d)
  | some r => if r.early then (0, d.rotAbandon r 0x17) else (6, d)

def execRotAbort (tag : Nat) (s : State) : Host.Outcome State Fault Refusal :=
  s.onBlock 2 (fun d => (d.capCmd 6 tag Dev.rotAbort).rotSuspects)

/-- A write of CAP_CMD (R127): the command its OP names; an unknown one completes with BADARG. -/
def Dev.capWrite (d : Dev) (w : Word) : Dev :=
  let op := getBits w 31 24
  let arg := getBits w 23 16
  d.capCmd op (getBits w 15 8) (fun d => match op with
    | 1 => d.capRotate arg
    | 2 => d.capSbsrc arg
    | 3 => d.snapArm
    | 4 => if d.cap.snap.isNone then (6, d) else (0, d.snapTrigger 3)
    | 5 => d.snapAbort
    | 6 => let (st, d) := d.rotAbort; (st, d.rotSuspects)
    | _ => (3, d))

/-! ## Rotation (R107 to R110) -/

/-- ROTATION_PERIOD_EXPIRY (R107). -/
def execRotationPeriodExpiry (s : State) : Host.Outcome State Fault Refusal := s.onBlock 2 Dev.rotPeriodic

/-- The residual is within the limits of R109: gain in 0.001 dB, phase in 0.01°, delay in 0.01 ps. -/
def residOk (g p t : Int) : Bool := decide (g.natAbs ≤ 50) && decide (p.natAbs ≤ 30) && decide (t.natAbs ≤ 50)

/-- Step 5: S joins X's aerial with X's setting, frozen, ALIGNING (R108). -/
def Dev.rotMoved (d : Dev) (r : Rotation) : Dev :=
  let d := ((d.calFinish r.s).calApplied r.s 1).updCore r.s (fun c => { c with calibrated := true })
  let d := (d.setCore r.s 3 (d.get (Reg.CAP_CC_STAT_SRC r.x))).setStale r.s false
  let d := d.setGain r.s (d.get (Reg.CAP_CC_STAT_LNA r.x)) (d.get (Reg.CAP_CC_STAT_ATT r.x))
  ((d.setRot (some { r with phase := .moved })).rotStep 2).refreshCores.refreshMargin

/-- Step 12: the refresh of X has been applied (R108). -/
def Dev.refreshDone (d : Dev) (r : Rotation) : Dev := (((d.calFinish r.x).calApplied r.x 1).coreBack r.x).rotFinish

/-- The verification passed: the crossfade comes at the next frame boundary (R108 step 9). -/
def Dev.rotVerified (d : Dev) (r : Rotation) (g p t : Int) : Dev :=
  (d.setRot (some { r with phase := .ready, res := (g, p, t) })).rotStep 5

/-- The fine loop sets S's delay, gain and phase; what it finds is not stated (R108 step 7). -/
def Dev.fineLoop (d : Dev) (c : Nat) : Dev :=
  let (a, d) := d.fresh
  let (g, d) := d.fresh
  let (p, d) := d.fresh
  d.updCore c (fun x => { x with alignDelay := a.toInt, alignGain := g.toInt, alignPhase := p.toInt })

/-- The second run of a core ends: the runs are compared, and the application begins (R108 steps 4 and 12, R499). -/
def Dev.rotSecond (d : Dev) (c : Nat) (m : CalMeas) : Dev := d.calApply c 4 (d.newWords c 4 coreWords m.vals)

/-- A timed phase of a rotation completes (R108): `m` is what a calibration run measured, `g`, `p` and `t` the residual
between S and X. -/
def Dev.rotPhase (d : Dev) (m : CalMeas) (g p t : Int) : Dev :=
  match d.cap.rot with
  | none => d
  | some r =>
    let go := fun (ph : RotPhase) => some { r with phase := ph }
    match r.phase with
    | .connect => d.setRot (go .firstRun)
    | .firstRun => if toneOk r.refF r.refL m then d.setRot (go .secondRun) else d.rotAbandon r 0x11
    | .secondRun =>
      if !toneOk r.refF r.refL m then d.rotAbandon r 0x11
      else
        let d := d.calCompare r.s m
        if calAgree r.s m then (d.rotSecond r.s m).setRot (go .applying) else d.rotAbandon r 0x10
    | .applying => d.rotMoved r
    | .moved => (d.setRot (some { r with phase := .coarse, alignAt := d.now, frames := 0, marked := 0 })).rotStep 3
    | .coarse => d.setRot (go .fine)
    | .fine => if residOk g p t then ((d.fineLoop r.s).setRot (go .verify)).rotStep 4 else d.fineLoop r.s
    | .verify => if residOk g p t then d.rotVerified r g p t else (d.setRot (go .fine)).rotStep 3
    | .ready | .crossfade => d
    | .refreshWait => ((d.setCore r.x 2 3).setStale r.x true).setRot (go .refreshFirst)
    | .refreshFirst => if toneOk r.refF r.refL m then d.setRot (go .refreshSecond) else d.refreshFail r 0x11
    | .refreshSecond =>
      if !toneOk r.refF r.refL m then d.refreshFail r 0x11
      else
        let d := d.calCompare r.x m
        if calAgree r.x m then (d.rotSecond r.x m).setRot (go .refreshApply) else d.refreshFail r 0x10
    | .refreshApply => d.refreshDone r

/-- ROTATION_PHASE_DONE. -/
def execRotationPhaseDone (m : CalMeas) (g p t : Int) (s : State) : Host.Outcome State Fault Refusal :=
  s.onBlock 2 (fun d => (d.rotPhase m g p t).rotSuspects)

/-- ROTATION_ALIGN_TIMEOUT: 100 ms after step 6 without the residual (R109); a verification that has not ended by then counts as not
reached (log 104). -/
def execRotationAlignTimeout (s : State) : Host.Outcome State Fault Refusal :=
  s.onBlock 2 (fun d => match d.cap.rot with
    | some r =>
      if (r.phase = .coarse ∨ r.phase = .fine ∨ r.phase = .verify) ∧ r.alignAt + 100000000 ≤ d.now then
        (d.rotAbandon r (if r.frames < 2 * r.marked then 0x13 else 0x12)).rotSuspects
      else d
    | none => d)

/-! ## Frames and the bellows (R91 to R96, R99 to R102) -/

/-- OVERRANGE, at most once per millisecond per core (R96). -/
def Dev.overrange (d : Dev) (c : Nat) : Dev :=
  let x := d.capCore c
  if x.lastOver = 0 ∨ x.lastOver - 1 + 1000000 ≤ d.now then
    (d.setCapCore c { x with lastOver := d.now + 1 }).raise Reg.CAP_EVT 6
  else d

/-- The bellows is frozen (R100, R108). -/
def Dev.frozen (d : Dev) (c : Nat) : Bool := d.coreBlanked c || d.rotFrozen c

/-- What AUTO does on a clip frame (R94, R96). -/
def Dev.attack (d : Dev) (c : Nat) : Dev :=
  let x := d.capCore c
  let g := d.get (Reg.CAP_CC_STAT_GIDX c)
  if g = 0 then d.overrange c
  else if d.frozen c || !(x.lastAttack == 0 || decide (x.lastAttack - 1 + 1000 ≤ d.now)) then d
  else
    let (lna, att) := splitGain (g - (if d.is (Reg.CAP_CC_AGC_ATTACK c) then 12 else 6))
    d.setCapCore c { x with
      gainNext := some (lna, att, gidxOf lna att), lastAttack := d.now + 1
      holdTo := d.now + d.get (Reg.CAP_CC_AGC_HOLD c) * 10000000 }

/-- A clip frame (R94, R96, R111): on S or X between steps 5 and 9 it ends the rotation, and with it the freeze. -/
def Dev.clipFrame (d : Dev) (c : Nat) : Dev :=
  let d := d.incWordSat (Reg.CAP_CC_CLIP c) 1
  let d := match d.cap.rot with
    | some r => if d.rotFrozen c && r.phase != RotPhase.crossfade && r.phase != RotPhase.ready then (d.rotAbandon r 0x14).rotSuspects else d
    | none => d
  if (d.capCore c).mode = 0 then d.attack c else d.overrange c

/-- The record a full-band snapshot gathers takes in a frame of its core (R123). -/
def SnapAcc.frame (a : SnapAcc) (time gidx core flags : Nat) (mark : Bool) (xs : List (BitVec 12)) : SnapAcc :=
  let a := if a.frames = 0 then { a with time := time - 20, gidx := gidx, core := core } else a
  { a with frames := a.frames + 1, marks := a.marks + b2n mark * 2 ^ a.frames, flags := a.flags ||| flags, codes := a.codes ++ xs }

/-- A frame reaches the snapshot: with 128 the record is complete and the next begins. -/
def Dev.snapFrame (d : Dev) (c : Nat) (mark blanked ecc cross : Bool) (raw out : List (BitVec 12)) : Dev :=
  match d.cap.snap with
  | some s => if s.running ∧ s.mode = 0 ∧ d.snapCore s = c then
      let fl := 2 * b2n blanked + 4 * b2n ecc + (if cross ∧ 3 ≤ s.src then 9 else 0)
      let a := s.acc.frame d.devtime (d.get (Reg.CAP_CC_STAT_GIDX c)) c fl mark (if s.raw then raw else out)
      d.setSnap (some (if a.frames < 128 then { s with acc := a } else { s with acc := {}, full := s.full ++ [a] })) else d
  | none => d

/-- A setting lands at the frame boundary (R92): the next frame is marked, and a snapshot notes the change. -/
def Dev.landGain (d : Dev) (c lna att : Nat) : Dev :=
  let d := (d.setGain c lna att).updCore c (fun x => { x with stepped := true, gainNext := none })
  match d.cap.snap with
  | some s => if s.running ∧ s.mode = 0 ∧ d.snapCore s = c then
      let w := BitVec.ofNat 32 (s.acc.frames + gidxOf lna att * 256 + lna * 65536 + att * 16777216)
      d.setSnap (some { s with acc := { s.acc with changes := s.acc.changes ++ [w] } }) else d
  | none => d

/-- A setting a core takes where it differs from the one in use. -/
def Dev.wantGain (d : Dev) (c : Nat) (w : Nat × Nat) : Dev :=
  if w = (d.get (Reg.CAP_CC_STAT_LNA c), d.get (Reg.CAP_CC_STAT_ATT c)) then d else d.landGain c w.1 w.2

/-- The bellows at a frame boundary (R91 to R93, R100, R126): the mode and the manual setting as last written, a step that is due, and
GMAX. Blanking holds LNA and ATT, a rotation from step 5 to 10 the mode too. -/
def Dev.bellows (d : Dev) (c : Nat) : Dev :=
  if d.rotFrozen c then d
  else
    let d := d.updCore c (fun x => { x with mode := d.get (Reg.CAP_CC_CTL_MODE c) })
    if d.coreBlanked c then d
    else match (d.capCore c).mode with
      | 0 =>
        let g := match (d.capCore c).gainNext with
          | some s => s.2.2
          | none => d.get (Reg.CAP_CC_STAT_GIDX c)
        (d.wantGain c (splitGain (min g (d.get (Reg.CAP_CC_CTL_GMAX c))))).updCore c (fun x => { x with gainNext := none })
      | 1 => d.wantGain c (d.get (Reg.CAP_CC_CTL_LNA c), d.get (Reg.CAP_CC_CTL_ATT c))
      | _ => d.updCore c (fun x => { x with gainNext := none })

/-- A frame of X ends in a rotation: it counts for the alignment; the boundary after the verification begins the crossfade, and the
frame that follows is it (R108 steps 6 to 10). -/
def Dev.rotFrame (d : Dev) (c : Nat) (mark : Bool) : Dev :=
  match d.cap.rot with
  | none => d
  | some r =>
    if c ≠ r.x then d
    else match r.phase with
      | .coarse | .fine | .verify => d.setRot (some { r with frames := r.frames + 1, marked := r.marked + b2n mark })
      | .ready => d.crossStart r
      | .crossfade => d.crossDone r
      | _ => d

/-- A converter code that counts as clipped (R94). -/
def clipped (v : BitVec 12) : Bool := v == 0x800 || v == 0x801 || v == 0x7FF

/-- The converter's codes after the interleave correction (R103); with every correction zero they are unchanged. -/
def Dev.corrected12 (d : Dev) (c : Nat) (xs : List (BitVec 12)) : List (BitVec 12) :=
  let ws := d.calBlock c 4 32
  let dr := (d.capCore c).drift
  if ws.all (· == 0) && dr.all (· == 0) then xs else (List.range 64).map (Config.interleave ws dr xs)

/-- The corrected codes as they go to the grate: the bellows steps undone, and the core's alignment (R92, R116, R129). -/
def CapCore.toBank (x : CapCore) (xs : List (BitVec 12)) : List (BitVec 12) :=
  let g := x.comp + x.alignGain
  let p := x.compPhase + x.alignPhase
  if g = 0 ∧ p = 0 ∧ x.alignDelay = 0 then xs else (List.range 64).map (Config.compensate g p x.alignDelay xs)

/-- The frame of a core as its bank takes it: in the crossfade, X's blended into S's (R110). -/
def Dev.bankIn (d : Dev) (c : Nat) (xs : List (BitVec 12)) : List (BitVec 12) :=
  match d.cap.rot with
  | some r => if r.phase = .crossfade ∧ r.x = c then crossfadeFrame xs (d.capCore r.s).frame else xs
  | none => xs

/-- The frame that ends is the crossfade of its role. -/
def Dev.crossing (d : Dev) (c : Nat) : Bool := d.cap.rot.any (fun r => r.phase == RotPhase.crossfade && r.x == c)

/-- A replacement's step 2 is due: 5 µs after the declaration (R116). -/
def Dev.replaceDue (d : Dev) : Dev :=
  match d.cap.replacing with
  | some p => if !p.joined && decide (p.since + 5000 ≤ d.now) then d.replaceJoin p else d
  | none => d

/-- A 64-sample frame of a core completes with the codes `xs`; `ecc` says that a double-bit error of the capture buffer fell in it
(R34, R92, R94, R99, R102, R103, R110). Without LOCK, and while the block is held in reset, every frame is marked (R437, R477). -/
def Dev.adcFrame (d : Dev) (c : Nat) (xs : List (BitVec 12)) (ecc : Bool) : Dev :=
  let d := d.replaceDue
  let blanked := d.frameBlanked c
  let mark := (d.capCore c).stepped || blanked || ecc || !d.is Reg.CLK_STAT_LOCK || d.held 2
  let out := d.corrected12 c xs
  let fed := (d.capCore c).toBank out
  let d := match d.roleOf c with
    | some r =>
      let d := if blanked then d.incWordSat (Reg.CAP_BLKCNT r) 1 else d
      d.bankFrame r mark (d.bankIn c fed)
    | none => d
  let d := (d.updCore c (fun x => { x with marked := mark, stepped := false, frame := fed })).snapFrame c mark blanked ecc (d.crossing c) xs out
  let d := d.rotFrame c mark
  let d := if !mark && decide (d.get (Reg.CAP_CC_AGC_CLIPN c) ≤ xs.countP clipped) then d.clipFrame c else d
  (d.refreshCore c).bellows c

/-- ADC_FRAME. A core that is OFF or FAILED gives none. -/
def execAdcFrame (c : Nat) (xs : List (BitVec 12)) (ecc : Bool) (s : State) : Host.Outcome State Fault Refusal :=
  s.onDev (fun d => if c < 3 ∧ d.coreState c ≠ 0 ∧ d.coreState c ≠ 5 then d.adcFrame c xs ecc else d)

/-- The slow loop (R95): the 1 ms RMS against TARGET and HYST. -/
def Dev.decayStep (d : Dev) (c : Nat) : Dev :=
  let x := d.capCore c
  let rms := d.getI (Reg.CAP_CC_LVL_RMS c)
  let target : Int := -5 * (d.get (Reg.CAP_CC_AGC_TARGET c) : Nat)
  let hyst : Int := 5 * (d.get (Reg.CAP_CC_AGC_HYST c) : Nat)
  let g := d.get (Reg.CAP_CC_STAT_GIDX c)
  let g' := if target + hyst < rms then g - 1
    else if rms < target - hyst ∧ g < d.get (Reg.CAP_CC_CTL_GMAX c) ∧ x.holdTo ≤ d.now then g + 1
    else g
  let s := splitGain g'
  d.setCapCore c { x with decayAt := d.now, gainNext := if g' = g then x.gainNext else some (s.1, s.2, g') }

/-- AGC_DECAY_STEP: once per DECAY ms in AUTO, unless the bellows is frozen (R95, R100). -/
def execAgcDecayStep (c : Nat) (s : State) : Host.Outcome State Fault Refusal :=
  s.onBlock 2 (fun d =>
    if c < 3 ∧ (d.coreState c = 1 ∨ d.coreState c = 4) ∧ (d.capCore c).mode = 0 ∧ !d.frozen c
        ∧ (d.capCore c).decayAt + msNs (d.get (Reg.CAP_CC_AGC_DECAY c)) ≤ d.now then d.decayStep c
    else d)

/-! ## Power at the ball (R90, R97, R498) -/

/-- FS_ball in 0.001 dBm (R90). -/
def fsBall (lna att : Nat) : Int := -2000 + 500 * (att : Int) - 6000 * (lna : Int)

/-- The valid RSSI points of a core, by frequency: kHz and 0.01 dB (R498, R502). -/
def Dev.rssiPoints (d : Dev) (c : Nat) : List (Nat × Int) :=
  ((List.range 8).filterMap (fun p =>
    let f := (d.rd (Reg.CAL_VAL c (108 + 2 * p))).toNat
    if f = 0 then none else some (f, d.calHi c (109 + 2 * p)))).mergeSort (fun a b => decide (a.1 ≤ b.1))

/-- The spans between neighbouring points. -/
def rssiSpans (ps : List (Nat × Int)) : List ((Nat × Int) × (Nat × Int)) := ps.zip ps.tail

/-- A denominator common to every interpolated value. -/
def rssiDen (ps : List (Nat × Int)) : Nat := ((rssiSpans ps).map (fun s => max 1 (s.2.1 - s.1.1))).foldl (· * ·) 1

/-- The offset at a frequency, interpolated and held beyond the outermost points, times `rssiDen` (R498). -/
def rssiAt (ps : List (Nat × Int)) (f : Nat) : Int :=
  let den : Int := rssiDen ps
  match ps.head?, ps.getLast? with
  | some lo, some hi =>
    if f ≤ lo.1 then lo.2 * den
    else if hi.1 ≤ f then hi.2 * den
    else match (rssiSpans ps).find? (fun s => decide (s.1.1 ≤ f) && decide (f < s.2.1)) with
      | some s => s.1.2 * den + (s.2.2 - s.1.2) * (f - s.1.1 : Nat) * (den / (s.2.1 - s.1.1 : Nat))
      | none => 0
  | _, _ => 0

/-- Twice the integral of the offset over 150 to 1,550,000 kHz, times `rssiDen`: the interpolation is straight between the points. -/
def rssiArea (ps : List (Nat × Int)) : Int :=
  let fs := [150] ++ (ps.map (·.1)).filter (fun f => decide (150 < f) && decide (f < 1550000)) ++ [1550000]
  ((fs.zip fs.tail).map (fun s => (rssiAt ps s.1 + rssiAt ps s.2) * (s.2 - s.1 : Nat))).foldl (· + ·) 0

/-- The power of bin `k` of a bank as a weight (R147, R498). -/
def Dev.binWeight (d : Dev) (r k : Nat) : Nat :=
  let w := d.rd (Reg.GRT_PWR r k)
  if bit w 16 then 0 else Config.linPower (w.setWidth 16)

/-- The RSSI offset as a fraction in 0.01 dB (R498): weighted by the bin powers of an in-service core with PWREN, else, and where no bin
has power (log 105), the plain mean over 0.15 to 1,550 MHz. -/
def Dev.rssiOffset (d : Dev) (c : Nat) : Int × Nat :=
  let ps := d.rssiPoints c
  let plain := (rssiArea ps, 2 * 1549850 * rssiDen ps)
  if ps.isEmpty then (0, 1)
  else match d.roleOf c with
    | none => plain
    | some r =>
      if !d.is Reg.GRT_BANKCFG_PWREN then plain
      else
        let ws := (List.range 512).map (fun k => (k, d.binWeight r k))
        let tot := (ws.map (·.2)).foldl (· + ·) 0
        if tot = 0 then plain
        else ((ws.map (fun (p : Nat × Nat) => rssiAt ps (3125 * p.1) * p.2)).foldl (· + ·) 0, tot * rssiDen ps)

/-- CAP_CCn_PWR from a level in 0.1 dBFS: the nominal gain of the setting, its step correction and the RSSI offset added (R97, R498). -/
def Dev.ballPower (d : Dev) (c : Nat) (rms : BitVec 16) : Int :=
  let lna := d.get (Reg.CAP_CC_STAT_LNA c)
  let att := d.get (Reg.CAP_CC_STAT_ATT c)
  let o := d.rssiOffset c
  roundOpen ((100 * rms.toInt + fsBall lna att + d.calHi c (36 + lna) + d.calHi c (40 + att)) * o.2 + 10 * o.1) (100 * o.2)

/-- The background estimator's update of a core: at most 1/64 of its full step each (R103). -/
def Dev.trackStep (d : Dev) (c : Nat) (est : List Int) : Dev :=
  if d.is (Reg.CAP_CC_CTL_TRACK c) then
    d.updCore c (fun x => { x with drift := (List.range 32).map (fun k => x.drift.getD k 0 + clampI (-64) 64 (est.getD k 0)) })
  else d

/-- CORE_LEVEL_UPDATE: the RMS level and the peak of the last 1 ms, the power at the ball computed from them, and what the
background estimator found, in 1/4096 of its full step (R97, R103, R498); held while a calibration of the core runs. -/
def execCoreLevelUpdate (c : Nat) (v : CoreLevel) (est : List Int) (s : State) : Host.Outcome State Fault Refusal :=
  s.onBlock 2 (fun d =>
    if c < 3 ∧ d.coreState c ≠ 0 ∧ d.coreState c ≠ 5 ∧ !d.is (Reg.CAP_CC_STAT_STALE c) then
      let d := (d.wr (Reg.CAP_CC_LVL c) (v.rms ++ v.peak)).trackStep c est
      d.setI (Reg.CAP_CC_PWR_PWR c) (d.ballPower c v.rms)
    else d)

/-! ## Blanking (R98 to R101) -/

/-- BLANK_ASSERT: the ball of BLANK_A (0) or BLANK_B (1) takes its active level. -/
def execBlankAssert (x : Nat) (s : State) : Host.Outcome State Fault Refusal :=
  s.onDev (fun d => if x < 2 then
      let pol := d.is (if x = 0 then Reg.CAP_BLKCFG_POL_A else Reg.CAP_BLKCFG_POL_B)
      (d.setBlank x { d.blank x with level := pol }).blankEval x
    else d)

/-- BLANK_RELEASE: the ball takes its inactive level. -/
def execBlankRelease (x : Nat) (s : State) : Host.Outcome State Fault Refusal :=
  s.onDev (fun d => if x < 2 then
      let pol := d.is (if x = 0 then Reg.CAP_BLKCFG_POL_A else Reg.CAP_BLKCFG_POL_B)
      (d.setBlank x { d.blank x with level := !pol }).blankEval x
    else d)

/-- BLKSTUCK: asserted for longer than STUCK ms, raised once (R101). -/
def execBlkstuck (x : Nat) (s : State) : Host.Outcome State Fault Refusal :=
  s.onBlock 2 (fun d =>
    if x < 2 ∧ (d.blank x).active ∧ !(d.blank x).stuckRaised ∧ (d.blank x).since + msNs (d.get Reg.CAP_BLKCFG_STUCK) ≤ d.now then
      (d.setBlank x { d.blank x with stuckRaised := true }).raise Reg.CAP_EVT (7 + x)
    else d)

/-! ## Monitors (R114, R115) -/

/-- The level a monitor's reading reaches: 0 none, 1 suspect, 2 failure. Readings: distinct codes; mismatch in 0.001 dB;
skew in 0.001 ps; missing clock edges; double-bit errors in 1 ms. `others` says that the other seven sub-converters have
RMS above −60 dBFS. -/
def monitorLevel (cause v : Nat) (others : Bool) : Nat :=
  match cause with
  | 1 => if v < 8 ∧ others then 2 else if v < 32 then 1 else 0
  | 2 => if 1000 < v then 2 else if 500 < v then 1 else 0
  | 3 => if 10000 < v then 2 else if 5000 < v then 1 else 0
  | 4 => if 0 < v then 2 else 0
  | 5 => if 16 ≤ v then 2 else if 4 ≤ v then 1 else 0
  | _ => 0

/-- The suspect bits of a core follow the monitors at their suspect level. -/
def Dev.refreshSuspect (d : Dev) (c : Nat) : Dev :=
  let sus := (d.capCore c).sus
  let bits := ((List.range 8).map (fun k => b2n (sus.any (fun p => p.1 != 5 && p.2 == k)) * 2 ^ k)).foldl (· + ·) 0
  (d.set (Reg.CAP_CC_HEALTH_SUBSUS c) bits).set (Reg.CAP_CC_STAT_SUSPECT c) (b2n !sus.isEmpty)

/-- A monitor's window ends. The clock monitor has no suspect level. -/
def Dev.monitor (d : Dev) (c cause sub v : Nat) (others : Bool) (start : Nat) : Dev :=
  let lvl := monitorLevel cause v others
  let was := d.is (Reg.CAP_CC_STAT_SUSPECT c)
  let d := d.updCore c (fun x =>
    { x with sus := if lvl = 0 ∨ cause = 4 then x.sus.filter (· != (cause, sub)) else (cause, sub) :: x.sus.filter (· != (cause, sub)) })
  let d := d.refreshSuspect c
  if lvl = 0 then d
  else
    let d := d.set (Reg.CAP_CC_HEALTH_CAUSE c) cause
    let d := if was ∨ cause = 4 then d else (d.raise Reg.CAP_EVT 3).sootE 1 2 0x3001 (cause * 256 + c)
    if lvl = 2 then
      let d := if cause = 5 then d else d.set (Reg.CAP_CC_HEALTH_SUBFAIL c) (d.get (Reg.CAP_CC_HEALTH_SUBFAIL c) ||| 2 ^ sub)
      d.coreFail c cause start
    else d.rotSuspects

/-- CORE_MONITOR_WINDOW: the window of a monitor of core `c`, sub-converter `sub`, ends with reading `v`; `start` is the
DEVTIME at which it began (R114). -/
def execCoreMonitorWindow (c cause sub v : Nat) (others : Bool) (start : Nat) (s : State) : Host.Outcome State Fault Refusal :=
  s.onBlock 2 (fun d => if c < 3 ∧ d.coreState c ≠ 0 ∧ d.coreState c ≠ 5 then d.monitor c cause (sub % 8) v others start else d)

/-- CORE_REPLACEMENT_SETTLED: the standby feeds the bank and takes the failed core's role (R116 step 3). -/
def execCoreReplacementSettled (s : State) : Host.Outcome State Fault Refusal :=
  s.onBlock 2 (fun d => match d.cap.replacing with
    | none => d
    | some p =>
      let d := if p.joined then d else d.replaceJoin p
      let d := { d with cap := { d.cap with replacing := none } }
      let d := (((d.setRole p.role p.s).set Reg.CAP_ROLE_CORE_SB 3).setCore p.s 4 (p.role + 1)).bankBack p.role
      let d := (d.setStale p.s false).updCore p.s (fun x => { x with since := d.now })
      ((d.snapChg p.role 1).snapLaneChg p.role).refreshCores.refreshNocores.refreshMargin)

/-! ## Snapshot records (R121 to R124) -/

/-- The descriptor of a full-band record (R123). -/
def SnapAcc.desc (a : SnapAcc) (seq : Nat) : List Byte :=
  leBytes 8 a.time ++ leBytes 16 a.marks ++ [BitVec.ofNat 8 a.gidx, BitVec.ofNat 8 (if 4 < a.changes.length then 255 else a.changes.length),
    BitVec.ofNat 8 a.flags, BitVec.ofNat 8 a.core] ++ leBytes 4 seq
    ++ ((a.changes.take 4) ++ List.replicate (4 - a.changes.length) 0).flatMap wordBytes ++ List.replicate 16 0

/-- The bytes of a lane record (R124). -/
def Dev.laneRecord (d : Dev) (n seq flags : Nat) (ss : List Sample) : List Byte :=
  ss.flatMap Sample.bytes ++ leBytes 8 ((ss.head?.map (d.ballTime n)).getD 0) ++ leBytes 32 (markBits ss)
    ++ [BitVec.ofNat 8 n, BitVec.ofNat 8 (d.dlog n), BitVec.ofNat 8 (d.get (Reg.GRT_LCFG_PRESET (n / 8) (n % 8))), BitVec.ofNat 8 flags]
    ++ leBytes 4 seq ++ List.replicate 16 0

/-- A record skipped because the ashpit was not ready for it (R315). -/
def Dev.snapSkip (d : Dev) (s : Snap) : Dev :=
  let d := d.raise Reg.ASH_EVT 8
  if s.aborting then d.snapStop s true else d.setSnap (some { s with skipped := s.skipped + 1 })

/-- The first complete record of lane `n`, taken out of the snapshot. -/
def Snap.takeLane (s : Snap) (n : Nat) : Snap :=
  { s with lacc := SMap.put {} s.lacc n { (SMap.get {} s.lacc n) with full := (SMap.get {} s.lacc n).full.drop 1 }
           laneSeq := SMap.put 0 s.laneSeq n (SMap.get 0 s.laneSeq n + 1) }

/-- A complete record of a running snapshot is written, or skipped (R121 to R124, R315). -/
def Dev.snapDone (d : Dev) (x : Snap) (n : Nat) (skip : Bool) : Dev :=
  if x.mode = 0 then
    match x.full with
    | [] => d
    | a :: rest =>
      if skip then d.snapSkip { x with full := rest }
      else d.snapRecord { x with full := rest } (packCodes a.codes ++ a.desc (x.written + x.skipped))
  else
    match (SMap.get {} x.lacc n).full with
    | [] => d
    | r :: _ =>
      if skip then d.snapSkip (x.takeLane n)
      else d.snapRecord (x.takeLane n) (d.laneRecord n (SMap.get 0 x.laneSeq n) r.2 r.1)

/-- SNAP_RECORD_DONE: a complete record of a full-band snapshot, or (`lane`) of lane `n` of a lane snapshot, is written; `skip` says
that it could not be written in time. -/
def execSnapRecordDone (lane : Bool) (n : Nat) (skip : Bool) (s : State) : Host.Outcome State Fault Refusal :=
  s.onBlock 2 (fun d => match d.cap.snap with
    | none => d
    | some x => if x.running && lane == (x.mode != 0) then d.snapDone x n skip else d)

end Sys2Proof.Machine
end

