-- ==== Sys2Proof/Machine/BlockRegs.lean ====
section
/-! DEFINITION. The registers a block has after its reset: what the always-on domain and the blocks' own rules keep (R404, R426, R466,
R477, R561). -/

namespace Sys2Proof.Machine

/-- A register that a SYSTEM reset spares. The strap code stays in force until it is read again (R474). -/
def aonReg (a : Nat) : Bool :=
  a == Reg.EMB_CFG || a == Reg.EMB_PAT || a == Reg.EMB_STAT || a == Reg.EMB_CNT || a == Reg.AUX_TCFG || a == Reg.AUX_TCNT
    || (decide (Reg.AUX_HMUSER 0 ≤ a) && decide (a ≤ Reg.AUX_HMUSER 3)) || a == Reg.RST_WAKECFG || a == Reg.RST_CAUSE
    || a == Reg.RST_STRAP

/-- What survives at an address of block `b` when the block is reset: GROUP (R56), and what R477 and the blocks' own rules
keep: roles and sources, retirements, the ashpit's READY, the region profile, the always-on registers and the calibration
values. -/
def Dev.blockKeep (d : Dev) (b a : Nat) (w : Word) : Word :=
  if a % 0x1000 = 0xFFC then w &&& 0xF
  else if aonReg a then w
  else match b with
    | 2 => if a = Reg.CAP_ROLE then w
           else if a = Reg.CAP_CC_STAT 0 ∨ a = Reg.CAP_CC_STAT 1 ∨ a = Reg.CAP_CC_STAT 2 then mergeMask 0xFC000000 (regReset a) w
           else match (List.range 3).find? (fun c => a == Reg.CAP_CC_HEALTH c || a == Reg.CAP_CC_FAULT_LO c || a == Reg.CAP_CC_FAULT_HI c) with
             | some c => if d.coreState c = 5 then w else regReset a
             | none => regReset a
    | 5 => if Reg.OVN_OSTAT 0 ≤ a ∧ a < Reg.OVN_OSTAT 24 then mergeMask 0xFF000000 (regReset a) w else regReset a
    | 7 => if a = Reg.ASH_STAT then w else regReset a
    | 13 => if Reg.SMK_RGNID ≤ a ∧ a ≤ Reg.SMK_RGN_W1 7 then w else regReset a
    | 15 => if Reg.CAL_TST_W0 0 ≤ a then w else regReset a
    | _ => regReset a

/-- The registers and shadows of the block's pages reset. -/
def Dev.blockRegs (d : Dev) (b : Nat) : Dev :=
  let mine := fun (a : Nat) => decide (0x30000 ≤ a) && decide (a < 0x360000) && blockOf a == b
  let ks := (d.regs.filter (fun c => mine c.1)).map (·.1)
  let d := ks.foldl (fun d a => d.wr a (d.blockKeep b a (d.rd a))) d
  { d with shadow := d.shadow.filter (fun c => !mine c.1) }

end Sys2Proof.Machine
end

