-- ==== Sys2Proof/Machine/Hob.lean ====
section
/-! DEFINITION. The hob (R151, R212 to R214): its command queues, every command's arguments, effect and results, SIG
watches and the monitors over it. -/

namespace Sys2Proof.Machine

/-- Commands that take a descriptor (R212). -/
def takesDesc (u c : Nat) : Bool :=
  match u, c with
  | 0, 0 => true
  | 3, _ => true
  | 4, _ => true
  | 5, _ => true
  | 6, _ => true
  | 7, 0 => true
  | 8, _ => true
  | _, _ => false

/-! ## Instructions -/

/-- A command enters its unit's queue. -/
def Dev.hobQueue (d : Dev) (h u : Nat) (c : HobCmd) : Dev :=
  d.updHearth h (fun x => x.setUnit u { x.unit u with queue := (x.unit u).queue ++ [c], used := true })

/-- hput (R205, R212): MAIN waits while the queue is full; URGENT may not (R209). -/
def execHput (i : Issue) (unit cmd ws : BitVec 4) (imm : BitVec 12) (s : State) : Host.Outcome State Fault Refusal :=
  s.onDev (fun d => d.issue i (.hput unit cmd ws imm) (fun d =>
    let h := i.hearth
    let x := d.hearth h
    let a := x.thr.reg ws
    let go := fun (d : Dev) =>
      if (x.unit unit.toNat).queue.length < 4 then
        (d.hobQueue h unit.toNat ⟨cmd.toNat, a, imm.toNat, d.now⟩).thr h id
      else if x.urgOn then d.exception h 1 4 none
      else d.waitFor h (.hput unit.toNat cmd.toNat a imm.toNat)
    if takesDesc unit.toNat cmd.toNat then d.dmem h a 16 4 go else go d))

/-- The result words each unit has beside sel 0 (R212). -/
def unitSels : Nat → Nat
  | 0 => 3
  | 4 => 2
  | 8 => 0
  | _ => 1

/-- Watches armed. -/
def Hearth.armed (x : Hearth) : Nat := ((List.range 4).filter (fun i => (SMap.get none x.watches i).isSome)).length

/-- Result word `sel` of a unit (R212): what is in use, outstanding or armed at the moment; for the other units what their last command
left. -/
def Hearth.result (x : Hearth) (u sel : Nat) : Word :=
  match u, sel with
  | 1, 1 => x.freq
  | 2, 1 => BitVec.ofNat 32 (x.ratio / 65536)
  | 6, 1 => BitVec.ofNat 32 x.tiOut
  | 7, 1 => BitVec.ofNat 32 x.armed
  | _, _ => SMap.get 0 (x.unit u).results sel

/-- hget (R205, R212): sel 0 is the unit's status and ends its HERR; a sel the unit does not list reads a value the manual
leaves open (log 3). -/
def execHget (i : Issue) (rd unit : BitVec 4) (sel : BitVec 16) (s : State) : Host.Outcome State Fault Refusal :=
  s.onDev (fun d => d.issue i (.hget rd unit sel) (fun d =>
    let h := i.hearth
    let q := (d.hearth h).unit unit.toNat
    if sel = 0 then
      (d.updHearth h (fun x => x.setUnit unit.toNat { q with herr := false })).thr h (fun t => t.setReg rd q.status)
    else if sel.toNat ≤ unitSels unit.toNat then d.thr h (fun t => t.setReg rd ((d.hearth h).result unit.toNat sel.toNat))
    else d.fresh.2.thr h (fun t => t.setReg rd d.fresh.1)))

/-- hwait (R205): until the unit's queue is empty and the unit idle; illegal in URGENT (R209). -/
def execHwait (i : Issue) (unit : BitVec 4) (s : State) : Host.Outcome State Fault Refusal :=
  s.onDev (fun d => d.issue i (.hwait unit) (fun d =>
    let x := d.hearth i.hearth
    if x.urgOn then d.exception i.hearth 1 4 none
    else d.waitIns i.hearth (.hwait unit.toNat) (fun d =>
      if (x.unit unit.toNat).idle then d.thr i.hearth id else d.waitFor i.hearth (.hwait unit.toNat))))

/-! ## Arguments (R212, R213) -/

/-- Descriptor fields. -/
def Desc.count (x : Desc) : Nat := getBits x.d0 31 16
def Desc.src (x : Desc) : Nat := x.d1.toNat
def Desc.dst (x : Desc) : Nat := x.d2.toNat
def Desc.aux (x : Desc) : Nat := x.d3.toNat
/-- Cells of a deinterleaver run: 1 to 65,536, the last written as 0 (DEDUCED, log 41). -/
def Desc.cells (x : Desc) : Nat := if x.count = 0 then 65536 else x.count
/-- Points of a transform. -/
def Desc.points (x : Desc) : Nat := 2 ^ getBits x.d0 11 8

/-- `bytes` from a line lie in the hob memory. -/
def linesOk (line bytes : Nat) : Bool := decide (line * 64 + (bytes + 63) / 64 * 64 ≤ 393216)

/-- The error code of a command's arguments, 0 for none: 1 BADDESC, 2 BADLINE, 3 SEQ (R213). -/
def Hearth.hobCheck (x : Hearth) (u : Nat) (c : HobCmd) (k : Desc) : Nat :=
  let f := fun (range lines seq : Bool) => if !range then 1 else if !lines then 2 else if !seq then 3 else 0
  match u, c.cmd with
  | 0, 0 => f (decide (1 ≤ k.count)) (linesOk k.dst (4 * k.count) && linesOk k.aux ((k.count + 7) / 8)) true
  | 2, 1 =>
    let r := c.arg.toNat % 65536 * 2 ^ 32 + x.ratioLo.toNat
    f (decide (2 ^ 46 ≤ r) && decide (r ≤ 2 ^ 47)) true true
  | 3, _ =>
    let n := getBits k.d0 11 8
    f (decide (6 ≤ n)) (linesOk k.src (4 * k.points) && linesOk k.dst (4 * k.points)) true
  | 4, 0 => f (decide (1 ≤ k.count) && decide (k.count ≤ 32768)) (decide (k.src < 6144)) true
  | 4, 1 => f (decide (getBits k.d3 1 0 ≤ 1) && decide (1 ≤ getBits k.d3 4 2) && decide (getBits k.d3 4 2 ≤ 4))
      (linesOk k.src (4 * k.count) && linesOk k.dst (4 * k.count)) x.patLoaded
  | 4, _ => f true (linesOk k.src (4 * k.count) && linesOk k.dst (4 * k.count)) true
  | 5, 0 => f (decide (1 ≤ k.count) && decide (k.count ≤ 4096)) (linesOk k.src (4 * k.count)) true
  | 5, _ => f true (linesOk k.src (4 * k.count) && linesOk k.dst (k.count * x.llrs)) x.conLoaded
  | 6, 0 => f (decide (getBits k.d0 1 0 ≤ 2))
      (linesOk k.src (4 * k.cells) && linesOk k.dst (4 * k.cells) && decide (k.aux < 6144)) true
  | 6, 1 => f true (linesOk k.src (4 * k.count)) true
  | 6, _ => f true (linesOk k.dst (4 * k.count)) true
  | 7, 0 => f (decide (getBits k.d3 5 0 < 16) && decide (getBits k.d0 3 0 < 9)) (decide (k.src < 6144)) true
  | 8, 0 => f (decide (k.count % 4 = 0) && decide (k.count ≤ 4096) && decide (k.dst % 4 = 0) && decide (k.dst + k.count ≤ 0x8000))
      (linesOk k.src k.count) true
  | 8, _ => f (decide (k.count % 4 = 0) && decide (k.count ≤ 4096) && decide (k.src % 4 = 0) && decide (k.src + k.count ≤ 0x8000))
      (linesOk k.dst k.count) true
  | _, _ => 0

/-! ## SIG watches (R207, R212) -/

/-- The word a watch looks at. -/
def Hearth.watched (x : Hearth) (w : Watch) : Word := Memory.readWord x.hob (w.line * 64 + w.off * 4)

/-- Watch `i` after a command of its unit has completed: the word is deposited on every completion, or when its masked
value has changed. -/
def Dev.runWatch (d : Dev) (h u i : Nat) : Dev :=
  match SMap.get none (d.hearth h).watches i with
  | none => d
  | some w =>
    let v := (d.hearth h).watched w
    if w.unit ≠ u then d
    else
      let hit := w.every || v &&& w.mask != w.last
      let d := d.updHearth h (fun x => { x with watches := SMap.put none x.watches i (some { w with last := v &&& w.mask }) })
      if hit then d.urgentPut h v else d

/-! ## Starting and completing -/

/-- A command ends: counted, its error kept, the unit idle (R212, R213). -/
def Dev.hobEnd (d : Dev) (h u err : Nat) : Dev :=
  d.updHearth h (fun x =>
    let q := x.unit u
    x.setUnit u { q with running := none, done := (q.done + 1) % 256,
                         err := if err = 0 then q.err else err, herr := q.herr || err != 0 })

/-- Result words set. -/
def Dev.hobResults (d : Dev) (h u : Nat) (rs : List (Nat × Word)) : Dev :=
  d.updHearth h (fun x => x.setUnit u { x.unit u with results := rs.foldl (fun m r => SMap.put 0 m r.1 r.2) (x.unit u).results })

/-- Outstanding ashpit requests of a hearth, TI transfers among them (R152, R218). -/
def Hearth.ashOut (x : Hearth) : Nat := ((List.range 8).filter (fun t => (x.ash t).isSome)).length + x.tiOut

/-- Transfer slots a TI command takes (R152, log 97): one for each 4,096 bytes, as far as six and the hearth's eight allow. -/
def Hearth.tiSlots (x : Hearth) (k : Desc) : Nat := min (min ((4 * k.count + 4095) / 4096) 6) (8 - x.ashOut)

/-- The head command of an idle unit starts, when it is command `c` (R212, R213): the descriptor is read, and invalid
arguments complete it at once. -/
def Dev.hobStart (d : Dev) (h u c : Nat) (e : Ecc) : Dev :=
  let x := d.hearth h
  let q := x.unit u
  match q.queue, q.running with
  | k :: rest, none =>
    if k.cmd ≠ c ∨ (u = 6 ∧ c ≠ 0 ∧ 8 ≤ x.ashOut) then d
    else
      d.eccThen h 2 (if takesDesc u c then e else .clean) (fun d =>
        let desc := if takesDesc u c then Memory.readDesc x.dmem k.arg.toNat else ⟨0, 0, 0, 0⟩
        let d := d.updHearth h (fun x => x.setUnit u { q with queue := rest })
        let err := x.hobCheck u k desc
        if err ≠ 0 then d.hobEnd h u err
        else
          let d := d.updHearth h (fun x =>
            (x.setUnit u { x.unit u with running := some { cmd := k, desc := desc, started := d.now, taken := [] } }))
          if u = 0 then d.refill h
          else if u = 6 ∧ c ≠ 0 then d.updHearth h (fun x => { x with tiOut := x.tiSlots desc })
          else d)
  | _, _ => d

/-- Samples as cells: I in the low half, Q in the high half (R192). -/
def cellBytes (ss : List Sample) : List Byte :=
  ss.flatMap (fun s => [s.i.setWidth 8, s.i.extractLsb' 8 8, s.q.setWidth 8, s.q.extractLsb' 8 8])

/-- The erasure bitmap of samples, bit k of byte k / 8. -/
def markBytes (ss : List Sample) : List Byte :=
  leBytes ((ss.length + 7) / 8) ((ss.zipIdx.map (fun p => b2n p.1.mark * 2 ^ p.2)).foldl (· + ·) 0)

/-- Bytes written to hob lines. -/
def Dev.hobWrite (d : Dev) (h line : Nat) (bs : List Byte) : Dev :=
  d.updHearth h (fun x => { x with hob := Memory.writeList x.hob (line * 64) bs })

/-- Bytes the manual does not compute, written to hob lines (log 3). -/
def Dev.hobFree (d : Dev) (h line n : Nat) : Dev := (d.freeBytes n).2.hobWrite h line (d.freeBytes n).1

/-- Samples a double-bit error of the ashpit affects (R34): erasures of values the manual leaves open. -/
def Dev.lostSamples (d : Dev) (ss : List Sample) (bad : List Nat) : List Sample :=
  ss.zipIdx.map (fun p => if bad.contains p.2 then
    { p.1 with i := (Config.freeWord (d.free + p.2)).setWidth 16, q := (Config.freeWord (d.free + p.2)).extractLsb' 16 16, mark := true } else p.1)

/-- Samples the resampler makes of `n` (R151, R212): with no ratio set, as many (log 98). -/
def Hearth.resampled (x : Hearth) (n : Nat) : Nat := if x.ratio = 0 then n else (x.interp + n * x.ratio) / 2 ^ 47

/-- CAPTURE (R212, R214): the samples or, through the derotator and resampler, values the manual does not compute; the
bitmap; the results. The phase accumulator and the interpolator move on with the samples (R151). A replayed sample that the ashpit
could not correct is an erasure (R34). -/
def Dev.doneCapture (d : Dev) (h : Nat) (r : HobRun) (a : AshRead) : Dev :=
  let replays := (d.hearth h).replay.isSome || d.hstate h == stJoining
  let d := if replays then d.ashEcc a.e a.line else d
  let lost := replays && a.e == .double
  let ss := if lost then d.lostSamples r.taken a.bad else r.taken
  let d := if lost then { d with free := d.free + ss.length } else d
  let x := d.hearth h
  let d := if bit r.desc.d0 0 then
      (d.hobFree h r.desc.dst (4 * x.resampled ss.length)).updHearth h (fun x => { x with
        phase := x.phase + BitVec.ofNat 32 ss.length * x.freq, interp := (x.interp + ss.length * x.ratio) % 2 ^ 47 })
    else d.hobWrite h r.desc.dst (cellBytes ss)
  let d := d.hobWrite h r.desc.aux (markBytes ss)
  let d := d.hobResults h 0 [(1, lo32 ((ss.head?.map (·.m)).getD 0)), (2, BitVec.ofNat 32 (ss.filter (·.mark)).length),
    (3, BitVec.ofNat 32 (d.hearth h).lost)]
  d.updHearth h (fun x => { x with lost := 0 })

/-- The TI working area of the hearth's set: its offset, and its bytes (R307). -/
def Dev.tiArea (d : Dev) (h : Nat) : Option (Nat × SetMem) :=
  match (d.hearth h).set with
  | none => none
  | some i => (d.setMem i).map (fun s => (i, s))

/-- A TI transfer (R212, R307): cells between hob lines and the set; false when it leaves the area. Cells read with a double-bit error
are erasures of values the manual leaves open (R34). -/
def Dev.tiMove (d : Dev) (h : Nat) (r : HobRun) (write : Bool) (a : AshRead) : Bool × Dev :=
  let n := 4 * r.desc.count
  match d.tiArea h with
  | none => (false, d)
  | some (i, s) =>
    if s.tiNeed * 1024 < r.desc.aux + n then (false, d)
    else if write then
      let bs := Memory.readList (d.hearth h).hob (r.desc.src * 64) n
      (true, d.putSet i (some { s with mem := Memory.writeList s.mem (0x10000 + r.desc.aux) bs }))
    else
      let (bs, d) := (d.ashEcc a.e a.line).badWords (Memory.readList s.mem (0x10000 + r.desc.aux) n) a
      (true, d.hobWrite h r.desc.dst bs)

/-- LLRs the manual does not compute: six bits each, one per byte (R151, R212). -/
def Dev.llrFree (d : Dev) (h line n : Nat) : Dev := (d.freeBytes n).2.hobWrite h line ((d.freeBytes n).1.map (fun b => b &&& 0x3F))

/-- Bits of a table of `n` entries. -/
def tableBits (n : Nat) : Nat := ((List.range 13).find? (fun b => decide (n ≤ 2 ^ b))).getD 12

/-- The effect and results of a completed command (R212); true when a TI transfer failed. -/
def Dev.hobEffect (d : Dev) (h u : Nat) (r : HobRun) (ti : Bool) (a : AshRead) : Bool × Dev :=
  let k := r.desc
  match u, r.cmd.cmd with
  | 0, 0 => (false, d.doneCapture h r a)
  | 1, 0 => (false, d.updHearth h (fun x => { x with freq := r.cmd.arg }))
  | 1, 1 => (false, d.updHearth h (fun x => { x with phase := BitVec.ofNat 32 (r.cmd.imm * 2 ^ 20) }))
  | 1, _ => (false, d.updHearth h (fun x => { x with freq := x.freq + r.cmd.arg }))
  | 2, 0 => (false, d.updHearth h (fun x => { x with ratioLo := r.cmd.arg }))
  | 2, 1 => (false, d.updHearth h (fun x => { x with ratio := r.cmd.arg.toNat % 65536 * 2 ^ 32 + x.ratioLo.toNat }))
  | 2, _ => (false, d.updHearth h (fun x => { x with interp := 0 }))
  | 3, _ =>
    let d := d.hobFree h k.dst (4 * k.points)
    (false, d.fresh.2.hobResults h 3 [(1, d.fresh.1)])
  | 4, 0 => (false, d.updHearth h (fun x => { x with patLoaded := true }))
  | 4, _ =>
    let d := d.hobFree h k.dst (4 * k.count)
    (false, d.fresh.2.fresh.2.hobResults h 4 [(1, d.fresh.1), (2, d.fresh.2.fresh.1)])
  | 5, 0 => (false, d.updHearth h (fun x => { x with
      conLoaded := true, llrs := tableBits k.count * (if bit k.d0 0 then 1 else 2) }))
  | 5, _ => (false, (d.llrFree h k.dst (k.count * (d.hearth h).llrs)).hobResults h 5 [(1, BitVec.ofNat 32 k.count)])
  | 6, 0 => (false, d.hobFree h k.dst (4 * k.cells))
  | 6, c =>
    let (ok, e) := if ti then (false, d) else d.tiMove h r (c == 1) a
    (!ok, e.updHearth h (fun x => { x with tiOut := 0 }))
  | 7, 0 =>
    let w : Watch := { line := k.src, off := getBits k.d3 5 0, mask := k.d2, unit := getBits k.d0 3 0, every := bit k.d0 4, last := 0 }
    (false, d.updHearth h (fun x =>
      { x with watches := SMap.put none x.watches (r.cmd.imm % 4) (some { w with last := x.watched w &&& w.mask }) }))
  | 7, _ => (false, d.updHearth h (fun x => { x with watches := SMap.put none x.watches (r.cmd.imm % 4) none }))
  | 8, 0 => (false, d.updHearth h (fun x =>
      { x with dmem := Memory.writeList x.dmem k.dst (Memory.readList x.hob (k.src * 64) k.count) }))
  | 8, _ => (false, d.hobWrite h k.dst (Memory.readList (d.hearth h).dmem k.src k.count))
  | _, _ => (false, d)

/-- DEVTIME at a past `now`. -/
def Dev.devAt (d : Dev) (t : Nat) : Nat := d.devtime - (d.now - t)

/-- The energy check of a transform (R163, cause 4): one failure is suspect, the second within 16 is a failure from the
input start of the first. -/
def Dev.fftCheck (d : Dev) (h : Nat) (r : HobRun) (failed : Bool) : Dev :=
  let x := d.hearth h
  let was := x.fftFails.take 15
  let fst := if failed ∧ !was.contains true then r.started else x.fftFirst
  let d := d.setHearth h { x with fftFails := failed :: was, fftFirst := fst }
  if !failed then d
  else if was.contains true then d.declareFail h 4 fst (d.devAt fst)
  else d.suspect h 4

/-- A TI transfer that does not complete: lost in a reset of the ashpit, or waiting while the ashpit is held (R294). -/
def Dev.tiStuck (d : Dev) (u : Nat) (r : HobRun) : Bool :=
  u == 6 && r.cmd.cmd != 0 && (r.lost || (d.held 7 && !d.wrapped 7))

/-- A hob command completes (R212): an input command only once it has its samples. `chk` is a failed energy check, `ti` an
error response to a TI transfer, `a` what the ashpit's ECC found in a transfer or in replayed samples. -/
def Dev.hobDone (d : Dev) (h u : Nat) (e : Ecc) (chk ti : Bool) (a : AshRead) : Dev :=
  match ((d.hearth h).unit u).running with
  | none => d
  | some r =>
    if u = 0 ∧ r.wants ≠ 0 ∨ d.tiStuck u r then d
    else d.eccThen h 3 e (fun d =>
      let (bad, d) := d.hobEffect h u r (ti || d.wrapped 7) a
      let d := d.hobEnd h u (if bad then 4 else 0)
      let d := (List.range 4).foldl (fun d i => d.runWatch h u i) d
      let d := if u = 0 then d.refill h else d
      if u = 3 then d.fftCheck h r chk else d)

/-- The stated time of a command in ns (R212). -/
def Dev.statedNs (d : Dev) (h u : Nat) (r : HobRun) : Nat :=
  let cyc := fun (n : Nat) => n * 5 / 2
  let k := r.desc
  match u, r.cmd.cmd with
  | 0, c => (if c = 0 then k.count else r.cmd.arg.toNat) * d.grid ((d.laneOf h).getD 0) * 5 / 16 + 1000
  | 3, _ => cyc (2 * k.points + 64)
  | 4, 0 => cyc (k.count / 16 + 64)
  | 4, 1 => cyc (4 * k.count + 256)
  | 4, _ => cyc (32 * k.count + 256)
  | 5, 0 => cyc (k.count + 64)
  | 5, _ => cyc (8 * k.count + 64)
  | 6, 0 => cyc (8 * k.cells + 64)
  | 6, _ => cyc (8 * k.count) + 2000
  | 8, _ => cyc (k.count / 16 + 16)
  | _, _ => cyc 4

/-! ## Commands -/

/-- CAPTURE starts (R212). -/
def execCapture (h : Nat) (e : Ecc) (s : State) : Host.Outcome State Fault Refusal := s.onDev (fun d => d.hobStart h 0 0 e)
/-- SKIP starts. -/
def execSkip (h : Nat) (s : State) : Host.Outcome State Fault Refusal := s.onDev (fun d => d.hobStart h 0 1 .clean)
/-- SETF starts. -/
def execSetf (h : Nat) (s : State) : Host.Outcome State Fault Refusal := s.onDev (fun d => d.hobStart h 1 0 .clean)
/-- SETPH starts. -/
def execSetph (h : Nat) (s : State) : Host.Outcome State Fault Refusal := s.onDev (fun d => d.hobStart h 1 1 .clean)
/-- ADDF starts. -/
def execAddf (h : Nat) (s : State) : Host.Outcome State Fault Refusal := s.onDev (fun d => d.hobStart h 1 2 .clean)
/-- SETRLO starts. -/
def execSetrlo (h : Nat) (s : State) : Host.Outcome State Fault Refusal := s.onDev (fun d => d.hobStart h 2 0 .clean)
/-- SETRHI starts. -/
def execSetrhi (h : Nat) (s : State) : Host.Outcome State Fault Refusal := s.onDev (fun d => d.hobStart h 2 1 .clean)
/-- RESET of the resampler starts. -/
def execResampReset (h : Nat) (s : State) : Host.Outcome State Fault Refusal := s.onDev (fun d => d.hobStart h 2 2 .clean)
/-- RUN of the FFT starts. -/
def execFftRun (h : Nat) (e : Ecc) (s : State) : Host.Outcome State Fault Refusal := s.onDev (fun d => d.hobStart h 3 0 e)
/-- LOADPAT starts. -/
def execLoadpat (h : Nat) (e : Ecc) (s : State) : Host.Outcome State Fault Refusal := s.onDev (fun d => d.hobStart h 4 0 e)
/-- RUNMC starts. -/
def execRunmc (h : Nat) (e : Ecc) (s : State) : Host.Outcome State Fault Refusal := s.onDev (fun d => d.hobStart h 4 1 e)
/-- RUNSC starts. -/
def execRunsc (h : Nat) (e : Ecc) (s : State) : Host.Outcome State Fault Refusal := s.onDev (fun d => d.hobStart h 4 2 e)
/-- LOADCON starts. -/
def execLoadcon (h : Nat) (e : Ecc) (s : State) : Host.Outcome State Fault Refusal := s.onDev (fun d => d.hobStart h 5 0 e)
/-- RUN of the demapper starts. -/
def execDemapRun (h : Nat) (e : Ecc) (s : State) : Host.Outcome State Fault Refusal := s.onDev (fun d => d.hobStart h 5 1 e)
/-- RUN of the deinterleaver starts. -/
def execDeintRun (h : Nat) (e : Ecc) (s : State) : Host.Outcome State Fault Refusal := s.onDev (fun d => d.hobStart h 6 0 e)
/-- TIWR starts, once a transfer slot is free (R152). -/
def execTiwr (h : Nat) (e : Ecc) (s : State) : Host.Outcome State Fault Refusal := s.onDev (fun d => d.hobStart h 6 1 e)
/-- TIRD starts, once a transfer slot is free (R152). -/
def execTird (h : Nat) (e : Ecc) (s : State) : Host.Outcome State Fault Refusal := s.onDev (fun d => d.hobStart h 6 2 e)
/-- WATCH starts. -/
def execWatch (h : Nat) (e : Ecc) (s : State) : Host.Outcome State Fault Refusal := s.onDev (fun d => d.hobStart h 7 0 e)
/-- UNWATCH starts. -/
def execUnwatch (h : Nat) (s : State) : Host.Outcome State Fault Refusal := s.onDev (fun d => d.hobStart h 7 1 .clean)
/-- TODM starts. -/
def execTodm (h : Nat) (e : Ecc) (s : State) : Host.Outcome State Fault Refusal := s.onDev (fun d => d.hobStart h 8 0 e)
/-- FROMDM starts. -/
def execFromdm (h : Nat) (e : Ecc) (s : State) : Host.Outcome State Fault Refusal := s.onDev (fun d => d.hobStart h 8 1 e)

/-- A hob command completes (R212). -/
def execHobCommandDone (h u : Nat) (e : Ecc) (chk : Bool) (x : AshEnd) (s : State) : Host.Outcome State Fault Refusal :=
  s.onDev (fun d => d.hobDone h u e chk x.err x.read)

/-- A hob command exceeds twice its stated time (R163, cause 6): FAULT_T is the command's issue. -/
def execHobCommandTimeout (h u : Nat) (s : State) : Host.Outcome State Fault Refusal :=
  s.onDev (fun d =>
    match ((d.hearth h).unit u).running with
    | none => d
    | some r =>
      if r.started + 2 * d.statedNs h u r ≤ d.now then d.declareFail h 6 r.cmd.issued (d.devAt r.cmd.issued) else d)

end Sys2Proof.Machine
end

