-- ==== Sys2Proof/Machine/Ovens.lean ====
section
/-! DEFINITION. The oven pool (R157 to R162) and the oven protocol of the stokers (R215 to R217). -/

namespace Sys2Proof.Machine

/-- A code identifier R217 lists. -/
def ovenCodeOk (c : Nat) : Bool :=
  let x := c % 4096
  match c / 4096 with
  | 0 => decide (x < 32) && (decide (x % 16 < 6) || (decide (x % 16 < 8) && decide (16 ≤ x)))
  | 1 => decide (x < 128) && decide (x / 16 % 4 < 3) && decide (x % 16 < 12)
  | 2 => decide (x < 5)
  | 3 => decide (x < 512)
  | 4 => x == 0
  | 5 => decide (x < 3)
  | _ => false

/-- LDPC families go to O0 to O15, the others to O16 to O23 (R217). -/
def ovenTrellis (c : Nat) : Bool := decide (2 ≤ c / 4096)

/-- An oven descriptor (R215): eight words of data memory. -/
structure ODesc where
  code : Word
  flags : Word
  src : Word
  dst : Word
  dlo : Word
  dhi : Word
  z0 : Word
  z1 : Word

def Memory.readODesc (m : Memory) (a : Nat) : ODesc :=
  let w := fun i => Memory.readWord m (a + 4 * i)
  ⟨w 0, w 1, w 2, w 3, w 4, w 5, w 6, w 7⟩

/-- The descriptor is one the ovens accept (R216, BADDESC otherwise). -/
def ODesc.ok (o : ODesc) : Bool :=
  let ldpc := !ovenTrellis (o.code.toNat % 65536)
  getBits o.code 31 16 == 0 && ovenCodeOk (o.code.toNat % 65536)
    && getBits o.flags 31 10 == 0 && getBits o.flags 7 6 == 0
    && (!ldpc || (decide (1 ≤ getBits o.flags 5 0) && decide (getBits o.flags 5 0 ≤ 50)))
    && (if bit o.flags 8 then decide (o.src.toNat < 6144) else o.src.toNat % 64 == 0)
    && (if bit o.flags 9 then decide (o.dst.toNat < 6144) else o.dst.toNat % 4 == 0 && decide (o.dst.toNat < 0x8000))
    && o.z0 == 0 && o.z1 == 0

/-- The lowest free oven ticket; none while four are outstanding (R215). -/
def Hearth.freeOven (x : Hearth) : Option Nat := (List.range 4).find? (fun t => (x.oven t).isNone)

def Hearth.setOven (x : Hearth) (t : Nat) (k : Option OTicket) : Hearth := { x with ovens := SMap.put none x.ovens t k }

/-- A request is returned to its hearth with a result word (R216). -/
def Dev.ovenReturn (d : Dev) (r : OReq) (w : Word) : Dev :=
  if r.dropped then d else d.updHearth r.hearth (fun x => x.setOven r.ticket (some { done := some w }))

/-- A request is returned LATE (R160): counted, and raised at most once a millisecond. -/
def Dev.ovenLate (d : Dev) (r : OReq) : Dev :=
  (((d.ovenReturn r 0x02000000).incWordSat Reg.OVN_LATE 1).raise (Reg.LANE_STAT r.lane) 13).raise Reg.OVN_EVT 2

/-! ## Scheduling (R159) -/

/-- The key a request is served under in round-robin: its lane, a shadow as a lane of its own. -/
def OReq.key (r : OReq) : Nat := 2 * r.lane + b2n r.shadow

/-- The request to be taken next: a re-issued one, then the oldest aged one, then round-robin by lane. -/
def nextReq (now age last : Nat) (q : List OReq) : Option OReq :=
  match q.find? (·.reissued) with
  | some r => some r
  | none =>
    match q.find? (fun r => decide (r.at_ + age * 1000 ≤ now)) with
    | some r => some r
    | none =>
      let dist := fun (r : OReq) => (r.key + 512 - last) % 512
      q.foldl (fun b r => match b with
        | none => some r
        | some c => if dist r < dist c then some r else some c) none

/-- The ovens of a kind. -/
def kindOvens (trellis : Bool) : List Nat := if trellis then (List.range 8).map (· + 16) else List.range 16

/-- The lowest-numbered free oven of a kind in service. -/
def Dev.freeKind (d : Dev) (trellis : Bool) : Option Nat :=
  if d.held 5 then none else (kindOvens trellis).find? (fun k =>
    (d.get (Reg.OVN_OSTAT_STATE k) == 1 || d.get (Reg.OVN_OSTAT_STATE k) == 3)
      && (SMap.get none d.pool.busy k).isNone && (SMap.find? k d.pool.testing).isNone)

/-- Waiting requests assigned to free ovens of a kind, as many as there are. -/
def Dev.schedule (d : Dev) (trellis : Bool) : Nat → Dev
  | 0 => d
  | fuel + 1 =>
    let q := if trellis then d.pool.trellis else d.pool.ldpc
    match d.freeKind trellis, nextReq d.now (d.get Reg.OVN_CFG_AGE) (if trellis then d.pool.lastT else d.pool.lastL) q with
    | some k, some r =>
      let rest := q.erase r
      let p := d.pool
      let p := if trellis then { p with trellis := rest, lastT := r.key + 1 } else { p with ldpc := rest, lastL := r.key + 1 }
      ({ d with pool := { p with busy := SMap.put none p.busy k (some r) } }).schedule trellis fuel
    | _, _ => d

/-- Both kinds scheduled. -/
def Dev.scheduleAll (d : Dev) : Dev := (d.schedule false 16).schedule true 8

/-- A request enters its kind's queue; a re-issued one goes ahead of the others. -/
def Dev.enqueue (d : Dev) (r : OReq) (trellis front : Bool) : Dev :=
  let put := fun (q : List OReq) => if front then r :: q else q ++ [r]
  { d with pool := if trellis then { d.pool with trellis := put d.pool.trellis } else { d.pool with ldpc := put d.pool.ldpc } }

/-- The oven that serves a request is free again; one that waits for a test goes to it (R186). -/
def Dev.ovenFree (d : Dev) (k : Nat) : Dev :=
  let d := { d with pool := { d.pool with busy := SMap.put none d.pool.busy k none } }
  if (SMap.find? k d.pool.testing).isSome then d.set (Reg.OVN_OSTAT_STATE k) 2 else d

/-- An oven is declared failed (R162): retired, and its request re-issued ahead of the others. -/
def Dev.retireOven (d : Dev) (k cause : Nat) : Dev :=
  let r := SMap.get none d.pool.busy k
  let d := { d with pool := { d.pool with
    busy := SMap.put none d.pool.busy k none, testing := SMap.erase k d.pool.testing, checks := SMap.put [] d.pool.checks k [] } }
  let d := (d.set (Reg.OVN_OSTAT_STATE k) 4).set (Reg.OVN_OSTAT_CAUSE k) cause
  let d := match r with
    | some r => if r.dropped then d else d.enqueue { r with reissued := true } (decide (16 ≤ k)) true
    | none => d
  ((d.raise Reg.OVN_EVT 0).sootE 1 5 0x5001 (cause * 256 + k)).refreshMargin.scheduleAll

/-- An oven in service becomes suspect, and the rolling self-test takes it next (R162). -/
def Dev.ovenSuspect (d : Dev) (k : Nat) : Dev :=
  let d := if d.get (Reg.OVN_OSTAT_STATE k) = 1 then (d.set (Reg.OVN_OSTAT_STATE k) 3).set (Reg.OVN_OSTAT_CAUSE k) 3 else d
  let d := if d.rolling.suspects.contains (128 + k) then d
    else { d with rolling := { d.rolling with suspects := d.rolling.suspects ++ [128 + k] } }
  d.raise Reg.OVN_EVT 1

/-- Check disagreements of an oven within the last second, this one first. -/
def Dev.ovenChecks (d : Dev) (k : Nat) : List Nat :=
  d.now :: (SMap.get [] d.pool.checks k).filter (fun t => decide (d.now < t + 1000000000))

/-- A check disagreement (R162): a single one makes the oven suspect, the third within a second retires it. -/
def Dev.ovenDisagree (d : Dev) (k : Nat) : Dev :=
  if 3 ≤ (d.ovenChecks k).length then d.retireOven k 3
  else ({ d with pool := { d.pool with checks := SMap.put [] d.pool.checks k (d.ovenChecks k) } }).ovenSuspect k

/-- Decoded bits reach the hob buffer or data memory: bytes the manual does not compute (log 3). -/
def Dev.ovenWrite (d : Dev) (r : OReq) (n : Nat) : Dev :=
  if r.dropped then d
  else
    let room := if r.toHob then 393216 - r.dst * 64 else 0x8000 - r.dst
    let (bs, d) := d.freeBytes (min n room)
    d.updHearth r.hearth (fun x =>
      if r.toHob then { x with hob := Memory.writeList x.hob (r.dst * 64) bs } else { x with dmem := Memory.writeList x.dmem r.dst bs })

/-! ## Commands -/

/-- The hearth is a shadow of its lane, or joins as one: its oven requests take their turn as if of a lane of their own (R159). -/
def Dev.isShadow (d : Dev) (h : Nat) : Bool :=
  (d.laneOf h).any (fun n => d.shadowOf n == some h || (d.lane n).swap == some h)

/-- A descriptor submitted (R158, R215): the ticket taken, and the request queued, returned LATE or returned BADDESC. Behind the pool's
closed wrapper it ends with an error response, and a pool held in reset without one loses it (R294, R478, log 45). -/
def Dev.ovenSubmit (d : Dev) (h t : Nat) (o : ODesc) : Dev :=
  let d := d.updHearth h (fun x => x.setOven t (some {}))
  let r : OReq := { hearth := h, lane := (d.laneOf h).getD 0, shadow := d.isShadow h, ticket := t,
                    code := o.code.toNat % 65536, fromTi := !bit o.flags 8, toHob := bit o.flags 9, dst := o.dst.toNat, limit := getBits o.flags 5 0,
                    deadline := of64 o.dlo o.dhi, at_ := d.now, reissued := false, dropped := false }
  if d.wrapped 5 then d.ovenReturn r 0x03000000
  else if d.held 5 then d
  else if !o.ok then d.ovenReturn r 0x04000000
  else if r.deadline ≤ (d.hearth h).smp then d.ovenLate r
  else (d.enqueue r (ovenTrellis r.code) false).scheduleAll

/-- oreq (R215): never waits. -/
def execOreq (i : Issue) (pd : BitVec 2) (wd ws : BitVec 4) (e : Ecc) (s : State) : Host.Outcome State Fault Refusal :=
  s.onDev (fun d => d.issue i (.oreq pd wd ws) (fun d =>
    let h := i.hearth
    let a := (d.hearth h).thr.reg ws
    d.dmem h a 32 4 (fun d => d.eccThen h 2 e (fun d =>
      match (d.hearth h).freeOven with
      | none => d.thr h (fun t => t.setPred pd false)
      | some t =>
        (d.ovenSubmit h t (Memory.readODesc (d.hearth h).dmem a.toNat)).thr h
          (fun th => (th.setReg wd (BitVec.ofNat 32 t)).setPred pd true)))))

/-- oawait (R216): NOTICKET at once, a completed ticket collected, else MAIN waits; illegal in URGENT (R209). -/
def execOawait (i : Issue) (rd ra : BitVec 4) (s : State) : Host.Outcome State Fault Refusal :=
  s.onDev (fun d => d.issue i (.oawait rd ra) (fun d =>
    let h := i.hearth
    let x := d.hearth h
    let t := x.thr.reg ra
    if x.urgOn then d.exception h 1 4 none
    else d.waitIns h (.oawait rd.toNat t) (fun d =>
      match (if t.toNat < 4 then x.oven t.toNat else none) with
      | none => d.thr h (fun th => th.setReg rd 0x05000000)
      | some k => match k.done with
        | some w => (d.updHearth h (fun x => x.setOven t.toNat none)).thr h (fun th => th.setReg rd w)
        | none => d.waitFor h (.oawait rd.toNat t))))

/-- A source read of an oven ends with an error response (R216, R288): SRCERR. -/
def Dev.ovenSrcErr (d : Dev) (k : Nat) (q : OReq) : Dev :=
  (((d.ovenReturn q 0x03000000).incMod (Reg.OVN_OSTAT_REQS k) 1).ovenFree k).scheduleAll

/-- The result of a decoding (R162, R216): a check disagreement that retires the oven re-issues the request instead. -/
def Dev.ovenDecoded (d : Dev) (k : Nat) (q : OReq) (ok : Bool) (iters corrected n : Nat) (disagree : Bool) : Dev :=
  if disagree && decide (3 ≤ (d.ovenChecks k).length) then d.ovenDisagree k
  else
    let w := BitVec.ofNat 32 ((if ok && !disagree then 0 else 1) * 2 ^ 24 + iters % 256 * 65536 + min corrected 65535)
    let d := (((d.ovenWrite q n).ovenReturn q w).incMod (Reg.OVN_OSTAT_REQS k) 1).ovenFree k
    (if disagree then d.ovenDisagree k else d).scheduleAll

/-- An oven finishes a request (R159, R162, R216). Soft bits of the TI area with a double-bit error reach the oven as erasures
(R34). -/
def execOvenRequestDone (k : Nat) (r : OvenDone) (s : State) : Host.Outcome State Fault Refusal :=
  s.onDev (fun d =>
    match SMap.get none d.pool.busy k with
    | none => d
    | some q =>
      let d := if q.fromTi then d.ashEcc r.src.e r.src.line else d
      let (cut, d) := d.takeFailed (.oven k)
      match r.result with
      | .memFault => d.retireOven k 1
      | .srcErr => d.ovenSrcErr k q
      | .decoded ok iters corrected n disagree =>
        if cut then d.ovenSrcErr k q else d.ovenDecoded k q ok iters corrected n disagree)

/-- A request not started when its deadline's sample has reached the hob input is returned LATE (R160). -/
def execOvenDeadlineLate (h t : Nat) (s : State) : Host.Outcome State Fault Refusal :=
  s.onDev (fun d =>
    let q := fun (r : OReq) => r.hearth == h && r.ticket == t && !r.dropped && decide (r.deadline ≤ (d.hearth h).smp)
    match (d.pool.ldpc ++ d.pool.trellis).find? q with
    | none => d
    | some r => ({ d with pool := { d.pool with ldpc := d.pool.ldpc.erase r, trellis := d.pool.trellis.erase r } }).ovenLate r)

/-- A request runs longer than twice the time its iteration limit allows: the oven is retired (R162). -/
def execOvenOverrunTimeout (k : Nat) (s : State) : Host.Outcome State Fault Refusal :=
  s.onDev (fun d => if (SMap.get none d.pool.busy k).isSome then d.retireOven k 2 else d)

end Sys2Proof.Machine
end

