-- ==== Sys2Proof/Machine/Requests.lean ====
section
/-! DEFINITION. Ashpit requests of a program (R218 to R220), its waits on samples and events (R221, R222), alert events
(R225), output units (R223, R224), mailboxes (R226 to R229), the completion of a wait (R199) and the entry of URGENT
(R207). -/

namespace Sys2Proof.Machine

def Hearth.setAsh (x : Hearth) (t : Nat) (k : Option ATicket) : Hearth := { x with ashes := SMap.put none x.ashes t k }

/-- The ticket areq writes: the lowest free one, while fewer than 8 requests are outstanding, TI transfers among them
(R152, R218). -/
def Hearth.freeAsh (x : Hearth) : Option Nat :=
  if x.ashOut < 8 then (List.range 8).find? (fun t => (x.ash t).isNone) else none

/-- areq (R218): never waits. -/
def execAreq (i : Issue) (pd : BitVec 2) (wd ws : BitVec 4) (e : Ecc) (s : State) : Host.Outcome State Fault Refusal :=
  s.onDev (fun d => d.issue i (.areq pd wd ws) (fun d =>
    let h := i.hearth
    let a := (d.hearth h).thr.reg ws
    d.dmem h a 16 4 (fun d => d.eccThen h 2 e (fun d =>
      match (d.hearth h).freeAsh with
      | none => d.thr h (fun t => t.setPred pd false)
      | some t =>
        (d.updHearth h (fun x => x.setAsh t (some { desc := Memory.readDesc x.dmem a.toNat, at_ := d.now }))).thr h
          (fun th => (th.setReg wd (BitVec.ofNat 32 t)).setPred pd true)))))

/-- aawait (R219): NOTICKET at once, a completed ticket collected, else MAIN waits; illegal in URGENT (R209). -/
def execAawait (i : Issue) (rd ra : BitVec 4) (s : State) : Host.Outcome State Fault Refusal :=
  s.onDev (fun d => d.issue i (.aawait rd ra) (fun d =>
    let h := i.hearth
    let x := d.hearth h
    let t := x.thr.reg ra
    if x.urgOn then d.exception h 1 4 none
    else d.waitIns h (.aawait rd.toNat t) (fun d =>
      match (if t.toNat < 8 then x.ash t.toNat else none) with
      | none => d.thr h (fun th => th.setReg rd 0x05000000)
      | some k => match k.done with
        | some w => (d.updHearth h (fun x => x.setAsh t.toNat none)).thr h (fun th => th.setReg rd w)
        | none => d.waitFor h (.aawait rd.toNat t))))

/-- The request of a ticket completes with a status; the result of a stopped program is discarded (R204, R236). -/
def Dev.ashFinish (d : Dev) (h t st : Nat) : Dev :=
  d.updHearth h (fun x => match x.ash t with
    | some k => x.setAsh t (if x.running then some { k with done := some (BitVec.ofNat 32 (st * 2 ^ 24)) } else none)
    | none => x)

/-- The request of ticket `t` is served (R219, R302): `r` is what the ECC found, `err` an error response. -/
def Dev.ashServe (d : Dev) (h t : Nat) (x : Desc) (r : AshRead) (err : Bool) : Dev :=
  let (cut, d) := d.takeFailed (.ash h t)
  let st := d.ashStatus h x (err || cut)
  if st ≠ 0 then d.ashFinish h t st
  else ((d.ashEcc r.e r.line).ashMove h x r).ashFinish h t (if r.e = .double ∧ !x.aWrite then 1 else 0)

/-- An ashpit request completes (R219, R220, R302) once its turn has come (R318). Nothing is served while the ashpit is held in
reset, and behind its closed wrapper a request ends with ERROR (R478); a request lost in its reset keeps its ticket (R294). -/
def execAshpitRequestDone (h t : Nat) (e : Ecc) (x : AshPlace) (err : Bool) (s : State) : Host.Outcome State Fault Refusal :=
  s.onDev (fun d =>
    match (d.hearth h).ash t with
    | some k =>
      if k.done.isSome || k.lost then d
      else if d.wrapped 7 then d.ashServe h t k.desc {} true
      else if d.held 7 || !d.ashTurn (ashClass k.desc) k.at_ then d
      else (d.ashSpend (ashClass k.desc)).ashServe h t k.desc { x with e := e } err
    | none => d)

/-! ## Samples and events -/

/-- The condition of tick (R221). -/
def Hearth.tickReady (x : Hearth) (target : Word) : Bool := !(lo32 x.smp - target).msb

/-- tick completes (R221): S is written, and the stall watchdog starts afresh. -/
def Dev.tickDone (d : Dev) (h : Nat) (rd : BitVec 4) : Dev :=
  (d.updHearth h (fun x => { x with lastTick := d.now })).thr h (fun t => t.setReg rd (lo32 (d.hearth h).smp))

/-- tick (R221); illegal in URGENT (R209). -/
def execTick (i : Issue) (rd ra : BitVec 4) (s : State) : Host.Outcome State Fault Refusal :=
  s.onDev (fun d => d.issue i (.tick rd ra) (fun d =>
    let x := d.hearth i.hearth
    if x.urgOn then d.exception i.hearth 1 4 none
    else d.waitIns i.hearth (.tick rd.toNat (x.thr.reg ra)) (fun d =>
      if x.tickReady (x.thr.reg ra) then d.tickDone i.hearth rd
      else d.waitFor i.hearth (.tick rd.toNat (x.thr.reg ra)))))

/-- The condition of yield (R222). -/
def Hearth.yieldReady (x : Hearth) (mask : Word) : Bool := mask == 0 || x.pendingWord &&& mask != 0

/-- yield completes (R222): the whole pending word is written, and SAMPLE starts afresh. -/
def Dev.yieldDone (d : Dev) (h : Nat) (rd : BitVec 4) : Dev :=
  (d.updHearth h (fun x => { x with newSmp := false })).thr h (fun t => t.setReg rd (d.hearth h).pendingWord)

/-- yield (R222); illegal in URGENT (R209). -/
def execYield (i : Issue) (rd : BitVec 4) (mask : BitVec 16) (s : State) : Host.Outcome State Fault Refusal :=
  s.onDev (fun d => d.issue i (.yield rd mask) (fun d =>
    let x := d.hearth i.hearth
    if x.urgOn then d.exception i.hearth 1 4 none
    else d.waitIns i.hearth (.yield rd.toNat mask.toNat) (fun d =>
      if x.yieldReady (mask.setWidth 32) then d.yieldDone i.hearth rd
      else d.waitFor i.hearth (.yield rd.toNat mask.toNat))))

/-- fwal (R225): either thread; the late flag is ROLE JOINING. -/
def execFwal (i : Issue) (rs : BitVec 4) (tag : BitVec 12) (s : State) : Host.Outcome State Fault Refusal :=
  s.onDev (fun d => d.issue i (.fwal rs tag) (fun d =>
    let h := i.hearth
    let w := (d.hearth h).thr.reg rs
    (d.fwSend { input := h, lane := (d.laneOf h).getD 0, hearth := h, role := d.role h, tag := tag.toNat, word := w,
                start := bit w 31, late := d.role h == 2, peer := none }).thr h id))

/-! ## Output units (R223, R224) -/

/-- The fields of a flput descriptor. -/
def Desc.uLen (x : Desc) : Nat := getBits x.d0 31 16
def Desc.uKey (x : Desc) : Nat := x.d2.toNat + getBits x.d3 15 0 * 2 ^ 32
def Desc.uPair (x : Desc) : Nat := x.uKey * 65536 + getBits x.d3 31 16

/-- The descriptor is one flput accepts (R223; DESC of R235 otherwise). -/
def Desc.uOk (x : Desc) : Bool :=
  getBits x.d0 15 10 == 0 && !bit x.d0 8 && getBits x.d0 7 3 == 0 && decide (1 ≤ x.uLen) && decide (x.uLen ≤ 4096)
    && decide (x.d1.toNat + x.uLen ≤ 0x8000)

/-- The unit of a descriptor as a draw line takes it. -/
def Dev.unitOf (d : Dev) (h : Nat) (x : Desc) : DUnit :=
  let p := Memory.readList (d.hearth h).dmem x.d1.toNat x.uLen
  { key := x.uKey, index := getBits x.d3 31 16, crc := crc32 p, stream := getBits x.d0 2 0, err := bit x.d0 9,
    marked := false, replaced := false, ref := (d.hearth h).smpT, release := 0, app := d.now, payload := p }

/-- Units leave the output queue for their lane's draw line, oldest first, as far as the link to the ashpit and the ashpit let them
(R223, R289; log 100). -/
def Dev.flDrain (d : Dev) (h : Nat) : Dev :=
  if d.held 6 || d.held 7 || d.linkFree (h / 8) true 2 == 0 then d
  else
    let q := (d.hearth h).flq
    let d := d.updHearth h (fun x => { x with flq := [] })
    match d.laneOf h with
    | none => d
    | some n => q.foldl (fun d u => d.laneUnit h n u) d

/-- A unit whose payload has been copied out (R223, R224): one that does not increase is discarded and counted; else it enters the
output queue. -/
def Dev.flputUnit (d : Dev) (h : Nat) (x : Desc) : Dev :=
  let y := d.hearth h
  if (match y.lastUnit with | some k => decide (x.uPair ≤ k) | none => false) then
    (d.setHearth h { y with flbad := satInc 32 y.flbad 1 }).sootE 1 (0x80 + h) 0x4005 ((d.laneOf h).getD 0 * 65536)
  else (d.setHearth h { y with lastUnit := some x.uPair, flq := y.flq ++ [d.unitOf h x] }).flDrain h

/-- flput (R223); illegal in URGENT (R209). It waits while its payload is copied out or the output queue is full (R199). -/
def execFlput (i : Issue) (ra : BitVec 4) (x : CopyOut) (s : State) : Host.Outcome State Fault Refusal :=
  s.onDev (fun d => d.issue i (.flput ra) (fun d =>
    let h := i.hearth
    let a := (d.hearth h).thr.reg ra
    if (d.hearth h).urgOn then d.exception h 1 4 none
    else d.dmem h a 16 4 (fun d => d.eccThen h 2 x.e (fun d =>
      let k := Memory.readDesc (d.hearth h).dmem a.toNat
      if !k.uOk then d.exception h 3 4 (some a)
      else if x.copying || decide (64 ≤ (d.hearth h).flq.length) then d.waitFor h (.flput a)
      else d.waitIns h (.flput a) (fun d => (d.thr h id).flputUnit h k)))))

/-! ## Mailboxes (R226 to R229) -/

/-- The oldest word of a box taken, if any. -/
def Dev.boxTake (d : Dev) (h box : Nat) : Option Word × Dev :=
  let x := d.hearth h
  match box with
  | 0 => (x.umbox.head?, d.setHearth h { x with umbox := x.umbox.drop 1 })
  | 1 => (x.sys.head?, (d.setHearth h { x with sys := x.sys.drop 1 }).sysRefill ((d.laneOf h).getD 0) h)
  | _ =>
    if x.hin then (some (d.rd (Reg.LANE_MBIN ((d.laneOf h).getD 0) 0)), d.setHearth h { x with hin := false }) else (none, d)

/-- mget (R229): Z says the box was empty, N is bit 31 of the word. -/
def execMget (i : Issue) (rd box : BitVec 4) (s : State) : Host.Outcome State Fault Refusal :=
  s.onDev (fun d => d.issue i (.mget rd box) (fun d =>
    let r := d.boxTake i.hearth box.toNat
    let w := r.1.getD 0
    r.2.thr i.hearth (fun t => { t.setReg rd w with z := r.1.isNone, n := w.msb })))

/-- The answer of a program to RESYNC (R177, R228): KEEP, RESUME, or nothing. -/
def Dev.sysAnswer (d : Dev) (h : Nat) (w : Word) : Dev :=
  match d.laneOf h with
  | none => d
  | some n =>
    match (d.lane n).resync with
    | none => d
    | some _ =>
      if d.bound n ≠ some h then d
      else if w = 0x10000000 then d.resyncKeep n h
      else if w = 0x10000001 then d.resyncResume n h
      else d

/-- A word in the outbound doorbell (R226, R227): written whether or not the host has read the last one, MBOX raised. -/
def Dev.houtPut (d : Dev) (h : Nat) (w : Word) : Dev :=
  match d.laneOf h with
  | none => d
  | some n => if d.bound n = some h then (d.wr (Reg.LANE_MBOUT n 0) w).raise (Reg.LANE_STAT n) 12 else d

/-- mput (R226): URG is MAIN's alone. -/
def execMput (i : Issue) (rs box : BitVec 4) (s : State) : Host.Outcome State Fault Refusal :=
  s.onDev (fun d => d.issue i (.mput rs box) (fun d =>
    let h := i.hearth
    let w := (d.hearth h).thr.reg rs
    if box = 0 then
      if (d.hearth h).urgOn then d.exception h 1 5 none else (d.urgentPut h w).thr h id
    else if box = 1 then (d.thr h id).sysAnswer h w
    else (d.houtPut h w).thr h id))

/-! ## The end of a wait (R199) and URGENT (R207) -/

/-- A ticket that was awaited: collected once it has completed; one that is not outstanding returns NOTICKET (R216, R219). -/
def Dev.collect (d : Dev) (h rd : Nat) (k : Option (Option Word)) (free : Hearth → Hearth) : Option Dev :=
  match k with
  | none => some (d.thr h (fun th => th.setReg (BitVec.ofNat 4 rd) 0x05000000))
  | some none => none
  | some (some w) => some ((d.updHearth h free).thr h (fun th => th.setReg (BitVec.ofNat 4 rd) w))

/-- A posted write enters the buffer; the oldest takes effect where it is full (R231). -/
def Dev.postWrite (d : Dev) (h a : Nat) (v : Word) : Dev :=
  let d := match (d.hearth h).posted with
    | p :: ps => (d.updHearth h (fun x => { x with posted := ps })).postedWrite h p.1 p.2
    | [] => d
  d.updHearth h (fun x => { x with posted := x.posted ++ [(a, v)] })

/-- The part of a wait that goes on in the background while URGENT runs: a queued transfer, a register read, a posted write, a
copy-out (R208); the register it writes, and its word. None for the waits that only look at a condition, and while the condition of
these does not hold. -/
def Dev.waitWork (d : Dev) (h : Nat) (w : Wait) : Option (Option Nat × Word × Dev) :=
  let x := d.hearth h
  match w with
  | .hput u c a imm => if (x.unit u).queue.length < 4 then some (none, 0, d.hobQueue h u ⟨c, a, imm, d.now⟩) else none
  | .sysrd rd a =>
    let r := (d.drainPosted h).sysRead h a
    some (some rd, r.1, r.2)
  | .syswr a v => some (none, 0, d.postWrite h a v)
  | .flput a => if x.flq.length < 64 then some (none, 0, d.flputUnit h (Memory.readDesc x.dmem a.toNat)) else none
  | _ => none

/-- MAIN goes past a wait that has written its register, if it has one. -/
def Dev.waitPast (d : Dev) (h : Nat) (rd : Option Nat) (w : Word) : Dev :=
  d.thr h (fun t => match rd with | some r => t.setReg (BitVec.ofNat 4 r) w | none => t)

/-- What a waiting instruction does once its condition holds; none while it does not. -/
def Dev.waitDone (d : Dev) (h : Nat) (w : Wait) : Option Dev :=
  let x := d.hearth h
  match w with
  | .hwait u => if (x.unit u).idle then some (d.thr h id) else none
  | .oawait rd t => d.collect h rd (if t.toNat < 4 then (x.oven t.toNat).map (·.done) else none) (fun x => x.setOven t.toNat none)
  | .aawait rd t => d.collect h rd (if t.toNat < 8 then (x.ash t.toNat).map (·.done) else none) (fun x => x.setAsh t.toNat none)
  | .tick rd a => if x.tickReady a then some (d.tickDone h (BitVec.ofNat 4 rd)) else none
  | .yield rd m => if x.yieldReady (BitVec.ofNat 32 m) then some (d.yieldDone h (BitVec.ofNat 4 rd)) else none
  | .got rd v => some (d.waitPast h rd v)
  | w => (d.waitWork h w).map (fun r => r.2.2.waitPast h r.1 r.2.1)

/-- The condition of MAIN's wait holds (R199). While MAIN has the stoker it ends, unless a page is due to apply in it (R230) or an
urgent word takes the stoker first (R207). While URGENT has it, only what goes on in the background completes (R208). -/
def execWaitSatisfied (h : Nat) (s : State) : Host.Outcome State Fault Refusal :=
  s.onDev (fun d =>
    let x := d.hearth h
    match x.wait with
    | none => d
    | some w =>
      if !x.running then d
      else if x.urgOn || !x.umbox.isEmpty then
        match d.waitWork h w with
        | some r => r.2.2.updHearth h (fun x => { x with wait := some (.got r.1 r.2.1) })
        | none => d
      else if d.applyDue h then d
      else ((d.updHearth h (fun x => { x with wait := none, lastRetire := d.now })).waitDone h w).getD d)

/-- URGENT takes the stoker at MAIN's instruction boundary, at the urgent entry (R207). -/
def execUrgentEntry (h : Nat) (s : State) : Host.Outcome State Fault Refusal :=
  s.onDev (fun d =>
    let x := d.hearth h
    if x.running && !x.urgOn && !x.umbox.isEmpty then
      d.setHearth h { x with urgOn := true, urg := { x.urg with pc := BitVec.ofNat 14 x.entUrg }, lastRetire := d.now }
    else d)

end Sys2Proof.Machine
end

