-- ==== Sys2Proof/Machine/Hearths.lean ====
section
/-! DEFINITION. Binding (R155, R156), the lane commands, the monitors that end in a declared failure or a stall (R163,
R164), the steps of a migration (R171 to R177), joins (R308), and the rolling self-test (R186, R187). -/

namespace Sys2Proof.Machine

/-! ## Lane commands -/

/-- A migration or a resync of the lane is in progress (R178). -/
def Dev.migrating (d : Dev) (n : Nat) : Bool :=
  (d.lane n).mig.isSome || (d.lane n).resync.isSome || d.get (Reg.LANE_BIND_MSTATE n) != 0

/-- A lane command ends at once with a status: CMDDONE is raised. -/
def Dev.laneDone (d : Dev) (n op tag st : Nat) : Dev := (d.cmdDone (Reg.LANE_CMDSTAT n) op tag st).raise (Reg.LANE_STAT n) 0

/-- A lane command that waits ends with a status. -/
def Dev.laneEnd (d : Dev) (n st : Nat) : Dev := (d.cmdEnd (Reg.LANE_CMDSTAT n) st).raise (Reg.LANE_STAT n) 0

/-- A command is written to a lane: ABSENT on an absent lane (R4), lost while one is busy. -/
def Dev.laneCmd (d : Dev) (n op tag : Nat) (f : Dev → Dev) : Dev :=
  if d.part.lanes ≤ n then d.cmdAbsent (Reg.LANE_CMDSTAT n) op tag else if d.cmdBusy (Reg.LANE_CMDSTAT n) then d.cmdLost (Reg.LANE_CMDSTAT n) else f d

/-- Why a named hearth cannot be taken: 0xFE ABSENT at or above HEARTHS (R5), 8 RETIRED, 7 INUSE; 0 when it is FREE. -/
def Dev.nameStatus (d : Dev) (h : Nat) : Nat :=
  if d.part.hearths ≤ h then 0xFE
  else if d.hstate h = stRetired then 8 else if d.hstate h = stFree then 0 else 7

/-- A lane takes a hearth by a command; with the active EN at 1 it starts (R155). -/
def Dev.bindStart (d : Dev) (n h : Nat) (dmg : Damage) : Dev :=
  let d := d.bindTo n h
  if d.is (Reg.LANE_CTL_EN n) then d.startOn n h 0 dmg else d

/-- BIND (R155). -/
def Dev.laneBind (d : Dev) (n arg tag : Nat) (dmg : Damage) : Dev :=
  if d.migrating n then d.laneDone n 1 tag 2
  else if (d.bound n).isSome then d.laneDone n 1 tag 7
  else if arg = 0x7F then
    match d.hearthsIn stFree with
    | h :: _ => (d.bindStart n h dmg).laneDone n 1 tag 0
    | [] =>
      if d.awaitsTest then (d.cmdStart (Reg.LANE_CMDSTAT n) 1 tag).updLane n (fun x => { x with waitBind := some (some 0x7F) })
      else d.laneDone n 1 tag 5
  else if arg < d.part.hearths ∧ (d.hstate arg = stUntested ∨ (d.hstate arg = stTesting ∧ (d.hearth arg).testKind = 1)) then
    (d.cmdStart (Reg.LANE_CMDSTAT n) 1 tag).updLane n (fun x => { x with waitBind := some (some arg) })
  else
    let st := d.nameStatus arg
    if st ≠ 0 then d.laneDone n 1 tag st else (d.bindStart n arg dmg).laneDone n 1 tag 0

/-- UNBIND (R156): the hearth, and the shadow if there is one, return to FREE. -/
def Dev.laneUnbind (d : Dev) (n tag : Nat) : Dev :=
  if d.migrating n then d.laneDone n 2 tag 2
  else match d.bound n with
    | none => d.laneDone n 2 tag 6
    | some h =>
      if d.is (Reg.LANE_CTL_EN n) then d.laneDone n 2 tag 7
      else
        let d := (d.dropShadow n).leave h stFree
        let d := ((d.set (Reg.LANE_BIND_HVALID n) 0).set (Reg.LANE_BIND_HEARTH n) 0).set (Reg.LANE_CKPT_VALID n) 0
        d.laneDone n 2 tag 0

/-- A lane whose program does not run changes its hearth at once: the binding and the set move (log 45). -/
def Dev.moveStopped (d : Dev) (n h s : Nat) : Dev :=
  let i := (d.hearth h).set
  let d := (d.updHearth h (fun x => { x with set := none })).leave h stFree
  (d.updHearth s (fun x => { x with set := i })).bindTo n s

/-- MOVE (R175, R179). -/
def Dev.laneMove (d : Dev) (n arg tag : Nat) : Dev :=
  if d.migrating n then d.laneDone n 3 tag 2
  else if !d.migr then d.laneDone n 3 tag 4
  else match d.bound n with
    | none => d.laneDone n 3 tag 6
    | some h =>
      let pick := if arg = 0x7F then (d.hearthsIn stFree).head? else if d.nameStatus arg = 0 then some arg else none
      match pick with
      | none => d.laneDone n 3 tag (if arg = 0x7F then 5 else d.nameStatus arg)
      | some s =>
        if !(d.hearth h).running then (d.moveStopped n h s).laneDone n 3 tag 0
        else
          let r := d.planMove n s false
          r.2.laneDone n 3 tag (if r.1 then 0 else 5)

/-- A migration or resync of a halted program ends, and its hearth is the lane's again (R178, log 45). -/
def Dev.haltedMig (d : Dev) (n h : Nat) : Dev :=
  match (d.lane n).mig with
  | some m =>
    ((if m.kind = .planned then d.leave m.dst stFree else d.setHstate m.dst stPrimary (some n)).endMig n 0x16 m.src m.dst)
  | none => if d.migrating n then d.endMig n 0x16 h h else d

/-- RESTART (R163, R193): the program starts again from its main entry. A migration of a halted program ends (R178's BUSY
holds while the program runs). -/
def Dev.laneRestartCmd (d : Dev) (n tag : Nat) (dmg : Damage) : Dev :=
  match d.bound n with
  | none => d.laneDone n 4 tag (if d.migrating n then 2 else 6)
  | some h =>
    if !d.is (Reg.LANE_CTL_EN n) then d.laneDone n 4 tag 3
    else if d.migrating n ∧ !(d.lane n).halted then d.laneDone n 4 tag 2
    else
      let d := d.haltedMig n h
      (if (d.lane n).started then d.laneRestart n h dmg else d.laneStart n 1 dmg).laneDone n 4 tag 0

/-- LANE_CMD BIND (R155). -/
def execBind (n arg tag : Nat) (dmg : Damage) (s : State) : Host.Outcome State Fault Refusal :=
  s.onDev (fun d => d.laneCmd n 1 tag (fun d => d.laneBind n arg tag dmg))

/-- LANE_CMD UNBIND (R156). -/
def execUnbind (n tag : Nat) (s : State) : Host.Outcome State Fault Refusal :=
  s.onDev (fun d => d.laneCmd n 2 tag (fun d => d.laneUnbind n tag))

/-- LANE_CMD MOVE (R175). -/
def execMove (n arg tag : Nat) (s : State) : Host.Outcome State Fault Refusal :=
  s.onDev (fun d => d.laneCmd n 3 tag (fun d => d.laneMove n arg tag))

/-- LANE_CMD RESTART (R163). -/
def execRestart (n tag : Nat) (dmg : Damage) (s : State) : Host.Outcome State Fault Refusal :=
  s.onDev (fun d => d.laneCmd n 4 tag (fun d => d.laneRestartCmd n tag dmg))

/-- A waiting BIND, or a waiting EN, takes a hearth: it ends OK, or as no FREE hearth can come (R155). -/
def Dev.deferredBind (d : Dev) (n : Nat) (dmg : Damage) : Dev :=
  match (d.lane n).waitBind with
  | none => d
  | some w =>
    let arg := w.getD 0x7F
    let pick := if arg = 0x7F then (d.hearthsIn stFree).head? else if d.hstate arg = stFree then some arg else none
    let off := fun (d : Dev) => d.updLane n (fun x => { x with waitBind := none })
    match pick, w with
    | some h, some _ => ((off d).bindStart n h dmg).laneEnd n 0
    | some h, none => ((off d).bindTo n h).startOn n h 0 dmg
    | none, some a =>
      if a ≠ 0x7F ∧ d.hstate a = stRetired then (off d).laneEnd n 8
      else if d.awaitsTest then d else (off d).laneEnd n 5
    | none, none => if d.awaitsTest then d else (off d).raise (Reg.LANE_STAT n) 11

/-- A BIND that waits for a tested hearth is completed (R155). -/
def execDeferredBind (n : Nat) (dmg : Damage) (s : State) : Host.Outcome State Fault Refusal :=
  s.onDev (fun d => d.deferredBind n dmg)

/-! ## BIST of hearths (R154, R187) -/

/-- The record of a finished BIST of a hearth. -/
def Dev.bistRecord (d : Dev) (h : Nat) (pass : Bool) : Dev :=
  let d := (d.set (Reg.HST_BIST_RESULT h) (if pass then 1 else 2)).incMod (Reg.HST_BIST_COUNT h) 1
  let d := d.wr64 (Reg.HST_BISTTIME_LO h) (Reg.HST_BISTTIME_HI h) d.devtime
  if pass then d.set (Reg.HST_STAT_SUSPECT h) 0 else d

/-- A hearth's BIST decides: FREE, or RETIRED. Contents are undefined after it and loaded afresh at the next start (R507). -/
def Dev.bistHearth (d : Dev) (h : Nat) (pass : Bool) : Dev :=
  let d := (d.bistRecord h pass).updHearth h (fun x => { x with testKind := 0, passed := pass })
  if pass then d.setHstate h stFree none else if d.hstate h = stRetired then d else d.retireHearth h

/-- Start-up BIST of every hearth that waits for it ends (R154): the listed ones fail. -/
def execStartupBistDone (fails : List Nat) (s : State) : Host.Outcome State Fault Refusal :=
  s.onDev (fun d =>
    ((d.hearthsIn stTesting).filter (fun h => (d.hearth h).testKind == 1)).foldl (fun d h =>
      let d := d.bistHearth h (!fails.contains h)
      if fails.contains h then d.sootE 2 (0x80 + h) 0x4003 h else d) d)

/-! ## Monitors -/

/-- The stoker has retired nothing for 10 µs outside a wait (R163, cause 5). -/
def Dev.retireLate (d : Dev) (h : Nat) : Bool :=
  let x := d.hearth h
  x.running && (x.urgOn || x.wait.isNone) && decide (x.lastRetire + 10000 ≤ d.now)

/-- RETIRE_TIMEOUT of the hearths listed, at the same moment (R29, R163): FAULT_T of each is its last retirement. -/
def execRetireTimeout (hs : List Nat) (s : State) : Host.Outcome State Fault Refusal :=
  s.onDev (fun d => d.declareAll ((hs.eraseDups.filter d.retireLate).map (fun h => (h, 5, (d.hearth h).lastRetire))))

/-- The lane halts with status STALLED (R164); units appended since FAULT_T are not released (R170). -/
def Dev.stallAgain (d : Dev) (n h fault : Nat) : Dev :=
  (((d.markFrom n fault).2.setHstate h stPrimary (some n)).haltLane n [2, 10]).endMig n 0x14 h h

/-- The stall watchdog (R163, cause 9; R164): no tick completed for WDOG × 10 ms. The first stall migrates the lane, the
second within 10 s halts it. -/
def execStallWatchdogExpiry (h : Nat) (s : State) : Host.Outcome State Fault Refusal :=
  s.onDev (fun d =>
    let x := d.hearth h
    match d.laneOf h with
    | none => d
    | some n =>
      let w := d.get (Reg.LANE_CTL_WDOG n)
      if !x.running || w == 0 || decide (d.now < x.lastTick + w * 10000000) then d
      else if d.bound n ≠ some h then d.declareFail h 9 x.lastTick (d.devAt x.lastTick)
      else
        let at_ := (d.lane n).stallAt
        if at_ ≠ 0 ∧ d.now < at_ - 1 + 10000000000 then d.stallAgain n h x.lastTick
        else
          let d := (d.updLane n (fun y => { y with stallAt := d.now + 1 })).raise (Reg.LANE_STAT n) 10
          d.declareFail h 9 x.lastTick (d.devAt x.lastTick))

/-- Isolation of a failed hearth completes (R171): its set goes back, and it is retired; a stalled one goes to its test. -/
def execIsolationComplete (h : Nat) (s : State) : Host.Outcome State Fault Refusal :=
  s.onDev (fun d =>
    if d.hstate h ≠ stIsolated then d
    else
      let d := d.freeHearthSet h
      if (d.hearth h).testKind = 4 then d.setHstate h stTesting none
      else (d.retireHearth h).sootE 1 (0x80 + h) 0x4002 (d.get (Reg.HST_STAT_CAUSE h) * 2 ^ 24))

/-- LOCK of a lane's LRB fell from 2 or above and has stayed below 2 for 1 s (R511, 0x4007). -/
def execLaneSyncLost (n : Nat) (s : State) : Host.Outcome State Fault Refusal :=
  s.onDev (fun d =>
    let x := d.lane n
    if x.lockFell ≠ 0 ∧ x.lockFell - 1 + 1000000000 ≤ d.now then
      (d.setLane n { x with lockFell := 0 }).sootE 2 4 0x4007 (n * 65536)
    else d)

/-! ## Loading a target (R171, R234, R308) -/

/-- The latest checkpoint of a set whose sample lies before a lane sample number and is in the backlog: its slot and its
sample (R170, R171). -/
def Dev.pickCkpt (d : Dev) (n : Nat) (s : SetMem) (before : Nat) : Option (Nat × CkSlot) :=
  let x := d.lane n
  let use := fun (k : Nat) => (s.slot k).bind (fun c =>
    if c.sample < before ∧ x.bkHolds c.sample then some (k, c) else none)
  match s.valid with
  | none => none
  | some k =>
    match use k with
    | some c => some c
    | none => (use (1 - k)).bind (fun c => if c.2.intact then some c else none)

/-- Data memory from a checkpoint slot (R234). -/
def SetMem.image (s : SetMem) (k : Nat) : Memory := Memory.window s.mem (k * 0x8000) 0x8000 0

/-- A load that finds a word damaged in both copies stops the lane with NOCKPT (R241), whichever of its hearths it was for. -/
def Dev.loadStop (d : Dev) (n h src : Nat) : Dev :=
  let d :=
    if d.bound n = some h then d.setHstate h stPrimary (some n)
    else if d.shadowOf n = some h then ((d.leave h stFree).noShadow n).set (Reg.LANE_BIND_GSTATE n) 0
    else if (d.lane n).swap = some h then
      ((d.leave h stFree).updLane n (fun x => { x with swap := none, swapCopy := false })).visitEnd 0
    else d.leave h stFree
  (d.haltLane n [2]).endMig n 0x12 src h

/-- No usable checkpoint: the lane acquires cold on the live stream (R171). -/
def Dev.coldTarget (d : Dev) (n : Nat) (m : Mig) (slot : Nat) : Dev :=
  let d := (d.startHearth m.dst slot 0 none).setHstate m.dst stPrimary (some n)
  (d.raise (Reg.LANE_STAT n) 1).endMig n 0x12 m.src m.dst

/-- The target resumes from a checkpoint; the output pauses where the re-acquisition will exceed the draw delay (R32). -/
def Dev.resumeTarget (d : Dev) (n : Nat) (m : Mig) (slot k : Nat) (c : CkSlot) (s : SetMem) : Dev :=
  let d := d.startHearth m.dst slot (if m.kind = .resync then 3 else 2) (some (c.sample, s.image k))
  let d := (d.updLane n (fun x => { x with mig := some { m with loaded := true } })).set (Reg.LANE_BIND_MSTATE n) 2
  (d.raise (Reg.LANE_STAT n) 1).pauseFor n m c.sample

/-- The spare, or the lane's own hearth in a resync, has its image and checkpoint (R171 step 3). Nothing starts on a halted lane
(R204). -/
def execMigrationLoadDone (n : Nat) (dmg : Damage) (s : State) : Host.Outcome State Fault Refusal :=
  s.onDev (fun d =>
    match (d.lane n).mig with
    | none => d
    | some m =>
      if m.loaded || m.copying || (d.lane n).halted then d
      else
        let slot := d.laneSlot n
        let (lostWord, d) := d.loadDamage slot dmg
        if lostWord then d.loadStop n m.dst m.src
        else match d.tiArea m.dst with
          | none => d.coldTarget n m slot
          | some (_, sm) =>
            match d.pickCkpt n sm ((d.lane n).sampleAt m.ckT) with
            | none => d.coldTarget n m slot
            | some (k, c) => d.resumeTarget n m slot k c sm)

/-- The hearth of a lane that waits for a set copy has its copy: its flags (R308). -/
def Dev.copyDone (d : Dev) (n h : Nat) : Dev :=
  d.updLane n (fun x => { x with
    shCopy := if d.shadowOf n = some h then false else x.shCopy
    swapCopy := if x.swap = some h then false else x.swapCopy
    mig := x.mig.map (fun m => if m.dst = h then { m with copying := false, loaded := true } else m) })

/-- A hearth of a lane waits for a set copy. -/
def Dev.copyWaits (d : Dev) (n h : Nat) : Bool :=
  let x := d.lane n
  (x.shCopy && d.shadowOf n == some h) || (x.swapCopy && x.swap == some h)
    || (match x.mig with | some m => m.copying && m.dst == h | none => false)

/-- A join copy ends (R308): the TI area and the valid slot of the primary's set are in the new set, and the RESUME start
proceeds; while the lane has no checkpoint in its backlog the start waits (log 46). -/
def execSetCopyDone (h : Nat) (dmg : Damage) (s : State) : Host.Outcome State Fault Refusal :=
  s.onDev (fun d =>
    match d.laneOf h with
    | none => d
    | some n =>
      match (d.bound n).bind d.tiArea, d.tiArea h with
      | some (_, src), some (i, dst) =>
        match src.valid.bind (fun k => (src.slot k).map (fun c => (k, c))) with
        | none => d
        | some (k, c) =>
          if !d.copyWaits n h || (d.lane n).halted || !(d.lane n).bkHolds c.sample then d
          else
            let (lostWord, d) := d.loadDamage (d.laneSlot n) dmg
            if lostWord then d.loadStop n h ((d.bound n).getD h)
            else
              let mem := Memory.paste (Memory.paste [] (k * 0x8000) 0x8000 (Memory.window src.mem (k * 0x8000) 0x8000 (k * 0x8000)))
                0x10000 (src.tiNeed * 1024) (Memory.window src.mem 0x10000 (src.tiNeed * 1024) 0x10000)
              let new := { dst with mem := mem, valid := some k, slot0 := if k = 0 then some c else none,
                                    slot1 := if k = 0 then none else some c }
              let d := (d.putSet i (some new)).startHearth h (d.laneSlot n) 2 (some (c.sample, new.image k))
              let d := d.copyDone n h
              if (d.lane n).mig.isSome then d.set (Reg.LANE_BIND_MSTATE n) 2 else d
      | _, _ => d)

/-! ## Reaching the live stream (R171 step 5, R175, R180, R186) -/

/-- What a replay has still to deliver, up to the live stream. -/
def Dev.replayRest (d : Dev) (n r : Nat) : List Sample := (d.lane n).record.filter (fun s => decide (r ≤ s.m))

/-- The hob input switches to the live stream: what the replay had left enters the FIFO, which has room for it (R214). -/
def Dev.goLive (d : Dev) (n h r : Nat) : Dev :=
  let ss := d.replayRest n r
  (d.updHearth h (fun y => ({ y with replay := none }).arrive ss |>.inputTake))

/-- A rolling test of a hearth begins. -/
def Dev.testHearth (d : Dev) (h : Nat) : Dev :=
  let st := d.hstate h
  let d := (d.leave h stTesting).updHearth h (fun x => { x with testKind := 2, before := st })
  { (d.set Reg.HMG_RSTSTAT_STATE 2) with rolling := { d.rolling with unit := some h } }.refreshMargin

/-- A new shadow has joined for the old one's test (R186). -/
def Dev.swapShadow (d : Dev) (n h : Nat) : Dev :=
  let old := d.shadowOf n
  let d := (d.setHstate h stShadow (some n)).set (Reg.LANE_BIND_SHADOW n) h
  let d := d.updLane n (fun x => { x with swap := none, swapCopy := false })
  match old with
  | some o => d.testHearth o
  | none => d

/-- The target of a migration or resync is at the live point. -/
def Dev.targetLive (d : Dev) (n h : Nat) (m : Mig) : Dev :=
  if m.kind = .planned then d.updLane n (fun x => { x with mig := some { m with live := true } })
  else
    let d := d.setHstate h stPrimary (some n)
    if m.spliced then d.endMig n (d.spliceStatus n m) m.src m.dst
    else (d.updLane n (fun x => { x with mig := some { m with live := true } })).set (Reg.LANE_BIND_MSTATE n) 3

/-- The replay reaches the live write point (R171 step 5, R180). -/
def execReplayLivePoint (h : Nat) (s : State) : Host.Outcome State Fault Refusal :=
  s.onDev (fun d =>
    match d.laneOf h, (d.hearth h).replay with
    | some n, some r =>
      if r < (d.lane n).bkNext || decide (1024 < (d.hearth h).fifo.length + (d.replayRest n r).length) then d
      else
        let d := d.goLive n h r
        if (d.lane n).swap = some h then d.swapShadow n h
        else if d.shadowOf n = some h then
          ((d.setHstate h stShadow (some n)).set (Reg.LANE_BIND_GSTATE n) 2).raise (Reg.LANE_STAT n) 8
        else match (d.lane n).mig with
          | some m => if m.dst = h then d.targetLive n h m else d
          | none => d.setHstate h stPrimary (some n)
    | _, _ => d)

/-- A unit of a planned target at the cutover: one the old hearth has appended meanwhile is overlap (R172, R175). -/
def Dev.takeAhead (d : Dev) (n : Nat) (u : DUnit) : Dev :=
  match (d.lane n).mig with
  | some m => if (d.lane n).appended.any (fun k => decide (u.pair ≤ k)) then d.overlapUnit n m u else d.appendMain n u
  | none => d.appendMain n u

/-- PCM of an XFADE program is crossfaded at the cutover (R172). -/
def Dev.cutFade (d : Dev) (n : Nat) : Dev :=
  match (d.lane n).mig with
  | some m => if m.fade.isEmpty then d else d.crossfade n m.fade
  | none => d

/-- The cutover of a planned migration (R175): what the old hearth has handed over is appended first; it stops and goes free, or to
its test (R186); the target's units follow. -/
def execPlannedCutover (n : Nat) (s : State) : Host.Outcome State Fault Refusal :=
  s.onDev (fun d =>
    match (d.lane n).mig with
    | some m =>
      if m.kind ≠ .planned || !m.live || (d.lane n).halted then d
      else
        let d := d.flDrain m.src
        let d := if m.test then d.testHearth m.src else d.leave m.src stFree
        let d := ((d.setHstate m.dst stPrimary (some n)).incMod (Reg.HST_LOAD_SERVED m.dst) 1).adopt n m.dst
        let d := (((d.lane n).mig.map (·.ahead)).getD []).foldl (fun d u => d.takeAhead n u) d
        let d := (((d.cutFade n).raise (Reg.LANE_STAT n) 5).showCkpt n)
        d.endMig n (if (d.lane n).mig.any (·.diverged) then 2 else 6) m.src m.dst
    | none => d)

/-- A RESYNC message has had no answer within 1 ms: RESUME (R228). -/
def execResyncAnswerTimeout (n : Nat) (s : State) : Host.Outcome State Fault Refusal :=
  s.onDev (fun d =>
    match (d.lane n).resync, d.bound n with
    | some _, some h => d.resyncResume n h
    | _, _ => d)

/-- No unit has reached next_expected within LANE_DRAW (R176). -/
def execSpliceMatchTimeout (n : Nat) (s : State) : Host.Outcome State Fault Refusal :=
  s.onDev (fun d =>
    match (d.lane n).mig with
    | some m =>
      if m.kind = .planned || !m.loaded || m.spliced
          || decide (d.now < m.fault + d.get (Reg.LANE_DRAW_ACTIVE n) * 1000000) then d
      else ((d.setReacq n m.fault).updLane n (fun x => { x with floor := m.kLast })).endMig n 0x13 m.src m.dst
    | none => d)

/-! ## The rolling self-test (R186, R187) -/

/-- A unit is in the scope: 0 to 103 hearths, 128 to 151 ovens. -/
def Dev.inScope (d : Dev) (u : Nat) : Bool :=
  if u < 128 then decide (u < d.part.hearths) && d.is Reg.HMG_RSTCFG_HEARTHS
  else if u < 144 then d.is Reg.HMG_RSTCFG_LDPC
  else decide (u < 152) && d.is Reg.HMG_RSTCFG_TRELLIS

/-- No unit in the scope follows a unit in its pass. -/
def Dev.lastInPass (d : Dev) (u : Nat) : Bool := !(List.range 152).any (fun v => decide (u < v) && d.inScope v)

/-- The unit to be visited: a suspect one, out of turn, else the next of the cycle, which starts again after its last. -/
def Dev.nextUnit (d : Dev) : Option Nat × Dev :=
  match d.rolling.suspects with
  | u :: us => (some u, { d with rolling := { d.rolling with suspects := us, lastOfPass := false } })
  | [] =>
    let next := (List.range 152).find? (fun u => decide (d.rolling.next ≤ u) && d.inScope u)
    match (match next with | some u => some u | none => (List.range 152).find? d.inScope) with
    | some u => (some u, { d with rolling := { d.rolling with next := u + 1, lastOfPass := d.lastInPass u } })
    | none => (none, d)

/-- A step is deferred, or its unit skipped (R186): the visit is over. -/
def Dev.deferTest (d : Dev) : Dev := (d.visitEnd 3).raise Reg.HMG_EVT 7

/-- A hearth's turn. -/
def Dev.rollHearth (d : Dev) (h : Nat) : Dev :=
  let st := d.hstate h
  if st = stFree then d.testHearth h
  else if st = stTesting ∧ (d.hearth h).testKind = 3 then d.visitEnd 0
  else match d.laneOf h, d.hearthsIn stFree with
    | some n, s :: _ =>
      if d.migrating n ∨ (d.lane n).swap.isSome then d.deferTest
      else if st = stPrimary then
        if !(d.hearth h).running then (d.moveStopped n h s).testHearth h
        else
          let r := d.planMove n s true
          if r.1 then { r.2.set Reg.HMG_RSTSTAT_STATE 1 with rolling := { r.2.rolling with unit := some h } } else r.2.deferTest
      else if st = stShadow then
        match d.newSet n (d.imgTiNeed (d.laneSlot n)) with
        | some (i, d) =>
          let d := (d.updHearth s (fun x => { x with set := some i })).setHstate s stJoining (some n)
          let d := d.updLane n (fun x => { x with swap := some s, swapCopy := true })
          { d.set Reg.HMG_RSTSTAT_STATE 1 with rolling := { d.rolling with unit := some h } }
        | none => (d.allocFail 2 n (setPages (d.imgTiNeed (d.laneSlot n)))).deferTest
      else d.deferTest
    | _, _ => d.deferTest

/-- The capacity of a kind, less the oven under test and one more, covers 1.2 × declared demand. -/
def Dev.testFits (d : Dev) (trellis : Bool) : Bool :=
  if trellis then covers (d.trellisOk - 2) 250 (d.demand true) else covers (d.ldpcOk - 2) 800 (d.demand false)

/-- An oven is withdrawn for a test: at once, or after its current request. -/
def Dev.withdrawOven (d : Dev) (k : Nat) : Dev :=
  let d := { d with pool := { d.pool with testing := SMap.ins k (d.get (Reg.OVN_OSTAT_STATE k)) (SMap.erase k d.pool.testing) } }
  if (SMap.get none d.pool.busy k).isSome then d else d.set (Reg.OVN_OSTAT_STATE k) 2

/-- An oven's turn. -/
def Dev.rollOven (d : Dev) (k : Nat) : Dev :=
  let st := d.get (Reg.OVN_OSTAT_STATE k)
  if (SMap.find? k d.pool.testing).isSome then d.visitEnd 0
  else if (st ≠ 1 ∧ st ≠ 3) ∨ !d.testFits (decide (16 ≤ k)) then d.deferTest
  else { (d.withdrawOven k).set Reg.HMG_RSTSTAT_STATE 2 with rolling := { d.rolling with unit := some (128 + k) } }

/-- PERIOD seconds have passed since the last test start (R186, R190). -/
def Dev.periodOver (d : Dev) : Bool :=
  d.rolling.startedAt == 0 || decide (d.rolling.startedAt - 1 + d.get Reg.HMG_RSTCFG_PERIOD * 1000000000 ≤ d.now)

/-- The period of the rolling self-test has passed (R186): the next unit is visited. -/
def execRollingSelftestTick (s : State) : Host.Outcome State Fault Refusal :=
  s.onDev (fun d =>
    if !d.is Reg.HMG_RSTCFG_EN || !d.migr || d.rolling.unit.isSome || !d.periodOver then d
    else
      let d := { d with rolling := { d.rolling with startedAt := d.now + 1 } }
      let (u, d) := d.nextUnit
      match u with
      | none => d
      | some u =>
        let d := (d.set Reg.HMG_RSTSTAT_KIND (if u < 128 then 0 else 1)).set Reg.HMG_RSTSTAT_UNIT (u % 128)
        if u < 128 then d.rollHearth u else d.rollOven (u - 128))

/-- An oven under test returns to service or is retired. -/
def Dev.ovenTested (d : Dev) (k : Nat) (pass : Bool) : Dev :=
  let d := { d with pool := { d.pool with testing := SMap.erase k d.pool.testing } }
  if pass then (((d.set (Reg.OVN_OSTAT_STATE k) 1).set (Reg.OVN_OSTAT_CAUSE k) 0).refreshMargin).scheduleAll
  else d.retireOven k 0

/-- The end of the rolling test of a unit. -/
def Dev.rollEnd (d : Dev) (u : Nat) (pass : Bool) : Dev :=
  let d := if d.rolling.unit = some u then d.visitEnd 0 else d
  d.raise Reg.HMG_EVT (if pass then 5 else 6)

/-- A test of the mantel ends (R164, R187): of hearth `u`, or of oven `u` − 128. -/
def execRollingTestDone (u : Nat) (pass : Bool) (s : State) : Host.Outcome State Fault Refusal :=
  s.onDev (fun d =>
    if u < 128 then
      let k := (d.hearth u).testKind
      if d.hstate u ≠ stTesting ∨ (k ≠ 2 ∧ k ≠ 4) then d
      else
        let d := d.bistHearth u pass
        let d := if pass then d
          else (d.sootE 1 (0x80 + u) 0x4003 u).sootE 1 (0x80 + u) 0x4002 (d.get (Reg.HST_STAT_CAUSE u) * 2 ^ 24)
        if k = 2 then d.rollEnd u pass else d
    else if d.rolling.unit = some u ∧ d.get (Reg.OVN_OSTAT_STATE (u - 128)) = 2 then (d.ovenTested (u - 128) pass).rollEnd u pass
    else d)

end Sys2Proof.Machine
end

