-- ==== Sys2Proof/Machine/Bist.lean ====
section
/-! DEFINITION. Host BIST (R506 to R508) and the soot log's writing and acknowledgement (R509 to R514). -/

namespace Sys2Proof.Machine

/-! ## BIST -/

/-- A BST command that ends at its write. -/
def Dev.bstDone (d : Dev) (op tag st : Nat) : Dev := (d.cmdDone Reg.BST_CMDSTAT op tag st).raise Reg.BST_EVT 0

/-- The blocks BIST can test (R506). -/
def bistBlocks : List Nat := [1, 3, 11, 13]

/-- The unit named is one of the kinds and indices of R506. -/
def bistNamed (kind idx : Nat) : Bool := match kind with
  | 1 => decide (idx ≤ 103)
  | 2 => decide (idx < 24)
  | 3 => decide (idx < 3)
  | 4 => bistBlocks.contains idx
  | _ => false

/-- The unit exists on the part (R4). -/
def Part.hasUnit (p : Part) (kind idx : Nat) : Bool :=
  if kind = 1 then decide (idx < p.hearths) else if kind = 4 ∧ idx = 13 then p.hasSmoke else true

/-- Ovens of a kind under test. -/
def Dev.ovensTested (d : Dev) (trellis : Bool) : Nat :=
  ((kindOvens trellis).filter (fun k => (SMap.find? k d.pool.testing).isSome && d.ovenIn k)).length

/-- The oven may be withdrawn for a host test (R506): its kind's capacity, less it and any oven under test, covers 1.2 ×
declared demand. -/
def Dev.ovenSpared (d : Dev) (k : Nat) : Bool :=
  let t := decide (16 ≤ k)
  if t then covers (d.trellisOk - 1 - d.ovensTested t) 250 (d.demand t) else covers (d.ldpcOk - 1 - d.ovensTested t) 800 (d.demand t)

/-- What keeps a unit from its test (R506): 2 under rolling self-test, 7 in another state, 0 nothing. -/
def Dev.bistRefusal (d : Dev) (kind idx : Nat) : Nat := match kind with
  | 1 =>
    let st := d.hstate idx
    if st = stTesting ∧ (d.hearth idx).testKind = 2 then 2
    else if st = stUntested ∨ st = stFree ∨ st = stRetired then 0 else 7
  | 2 =>
    let st := d.get (Reg.OVN_OSTAT_STATE idx)
    if d.rolling.unit = some (128 + idx) then 2
    else if st = 4 then 0
    else if (st = 1 ∨ st = 3) ∧ d.ovenSpared idx then 0 else 7
  | 3 => if d.get (Reg.CAP_CC_STAT_STATE idx) = 5 then 0 else 7
  | _ => if bit (d.rd Reg.RST_BLK) idx then 0 else 7

/-- The unit goes under test. -/
def Dev.bistBegin (d : Dev) (kind idx : Nat) : Dev :=
  let d := { d with bist := some (kind, idx) }
  if kind = 1 then
    let st := d.hstate idx
    (d.updHearth idx (fun x => { x with testKind := 3, before := st })).setHstate idx stTesting none
  else if kind = 2 then (d.withdrawOven idx).refreshMargin
  else d

/-- BST RUN. -/
def Dev.bistRun (d : Dev) (kind tag idx : Nat) : Dev :=
  if d.cmdBusy Reg.BST_CMDSTAT then d.cmdLost Reg.BST_CMDSTAT
  else if !bistNamed kind idx then d.bstDone 1 tag 3
  else if !d.part.hasUnit kind idx then d.bstDone 1 tag 0xFE
  else if d.bistRefusal kind idx ≠ 0 then d.bstDone 1 tag (d.bistRefusal kind idx)
  else (d.cmdStart Reg.BST_CMDSTAT 1 tag).bistBegin kind idx

/-- BST_RES of a run that ended. -/
def Dev.bistResult (d : Dev) (kind idx result membad : Nat) : Dev :=
  { d with bist := none }.wr Reg.BST_RES (BitVec.ofNat 32 (kind * 2 ^ 24 + idx * 65536 + result * 256 + min membad 255))

/-- An oven leaves its test without returning to service. -/
def Dev.ovenUntested (d : Dev) (k : Nat) : Dev :=
  match SMap.find? k d.pool.testing with
  | some st =>
    ((({ d with pool := { d.pool with testing := SMap.erase k d.pool.testing } }).set (Reg.OVN_OSTAT_STATE k) st).refreshMargin).scheduleAll
  | none => d

/-- The unit as an aborted run leaves it (R508): not retired. -/
def Dev.bistRelease (d : Dev) (kind idx : Nat) : Dev :=
  if kind = 1 then
    let st := (d.hearth idx).before
    (d.updHearth idx (fun x => { x with testKind := 0 })).setHstate idx st none
  else if kind = 2 then d.ovenUntested idx
  else d

/-- BST ABORT (R500, R508). -/
def Dev.bistAbort (d : Dev) (tag : Nat) : Dev :=
  match d.bist with
  | none => d.bstDone 2 tag 0
  | some (kind, idx) => (((d.bistRelease kind idx).bistResult kind idx 3 0).cmdEnd Reg.BST_CMDSTAT 0x17).raise Reg.BST_EVT 0

/-- A write of BST_CMD. -/
def Dev.bstWrite (d : Dev) (w : Word) : Dev :=
  match getBits w 31 24 with
  | 1 => d.bistRun (getBits w 23 16) (getBits w 15 8) (getBits w 7 0)
  | 2 => d.bistAbort (getBits w 15 8)
  | op => if d.cmdBusy Reg.BST_CMDSTAT then d.cmdLost Reg.BST_CMDSTAT else d.bstDone op (getBits w 15 8) 3

def execBistRun (kind tag idx : Nat) (s : State) : Host.Outcome State Fault Refusal := s.onBlock 16 (fun d => d.bistRun kind tag idx)
def execBistAbort (tag : Nat) (s : State) : Host.Outcome State Fault Refusal := s.onBlock 16 (fun d => d.bistAbort tag)

/-- Where BST_EXP holds a unit's signatures. -/
def bistKindIndex (kind idx : Nat) : Nat := match kind with
  | 1 => 0
  | 2 => if idx < 16 then 1 else 2
  | 3 => 3
  | _ => if idx = 1 then 4 else if idx = 3 then 5 else if idx = 11 then 6 else 7

/-- The expected words of a kind (R507): logic low and high, memory low and high. -/
def bistExpected (k : Nat) : Word × Word × Word × Word :=
  (Config.bistSignature k 0, Config.bistSignature k 1, Config.bistSignature k 2, Config.bistSignature k 3)

/-- The result of a run on its unit (R506). A block's registers do not survive it (R507). -/
def Dev.bistDecide (d : Dev) (kind idx : Nat) (pass : Bool) : Dev :=
  if kind = 1 then
    let was := (d.hearth idx).before
    let d := d.bistRecord idx pass
    let d := d.updHearth idx (fun x => { x with testKind := 0, passed := pass })
    if pass then d.setHstate idx stFree none
    else if was = stRetired then d.setHstate idx stRetired none
    else (d.retireHearth idx).sootE 1 (0x80 + idx) 0x4002 (d.get (Reg.HST_STAT_CAUSE idx) * 2 ^ 24)
  else if kind = 2 then
    if pass ∨ SMap.find? idx d.pool.testing ≠ some 4 then d.ovenTested idx pass else d.ovenUntested idx
  else if kind = 4 then d.blockRegs idx
  else d

/-- The run of a unit ends with its signatures and the number of memories that failed (R507). -/
def Dev.bistDone (d : Dev) (kind idx : Nat) (l0 l1 m0 m1 : Word) (membad : Nat) : Dev :=
  let pass := membad == 0 && (l0, l1, m0, m1) == bistExpected (bistKindIndex kind idx)
  let d := ((d.bistDecide kind idx pass).bistResult kind idx (if pass then 1 else 2) membad)
  let d := (((d.wr Reg.BST_LSIG_LO l0).wr Reg.BST_LSIG_HI l1).wr Reg.BST_MSIG_LO m0).wr Reg.BST_MSIG_HI m1
  let d := if pass then d else d.sootE 2 16 0xB002 (kind * 256 + idx)
  (d.cmdEnd Reg.BST_CMDSTAT (if pass then 0 else 0xA0)).raiseUnit Reg.BST_EVT 0 [0, if pass then 1 else 2]

/-- BIST_DONE: the host run that is in progress ends. An oven that still serves a request has not been withdrawn yet. -/
def execBistDone (l0 l1 m0 m1 : Word) (membad : Nat) (s : State) : Host.Outcome State Fault Refusal :=
  s.onBlock 16 (fun d => match d.bist with
    | none => d
    | some (kind, idx) =>
      if kind = 2 ∧ d.get (Reg.OVN_OSTAT_STATE idx) ≠ 2 then d else d.bistDone kind idx l0 l1 m0 m1 membad)

/-! ## The soot log -/

/-- SOOT_STAT.UNACK and FIRSTV follow the unacknowledged entries (R513). -/
def Dev.refreshUnack (d : Dev) : Dev :=
  let n := d.soot.unack.length
  let d := d.set Reg.SOOT_STAT_UNACK (min n 0x7FFF)
  if n = 0 then d.set Reg.SOOT_STAT_FIRSTV 0 else d

/-- The copy of the first severe entry (R513). -/
def Dev.sootFirst (d : Dev) (n : Nat) (i : SootItem) : Dev :=
  let d := (((d.wr (Reg.SOOT_FIRST 0) i.w0).wr (Reg.SOOT_FIRST 1) i.w1).wr (Reg.SOOT_FIRST 2) i.w2).wr (Reg.SOOT_FIRST 3) i.w3
  (d.wr Reg.SOOT_FSEQ (BitVec.ofNat 32 n)).set Reg.SOOT_STAT_FIRSTV 1

/-- A severe entry counts as unacknowledged; a continuation belongs to its entry (R513). -/
def Dev.sootSevere (d : Dev) (n : Nat) (i : SootItem) : Dev :=
  if getBits i.w2 1 0 ≠ 2 ∨ bit i.w2 3 then d
  else
    let d := if d.soot.unack.isEmpty then d.sootFirst n i else d
    ({ d with soot := { d.soot with unack := d.soot.unack ++ [n], severe := d.soot.severe + 1 } }).refreshUnack

/-- The latest entry of its source has been written with number `n` (R512). -/
def Dev.sootMark (d : Dev) (n : Nat) (i : SootItem) : Dev :=
  let src := getBits i.w2 15 8
  if bit i.w2 3 || d.soot.stage.any (fun j => getBits j.w2 15 8 == src && !bit j.w2 3) then d
  else match SMap.get none d.soot.last src with
    | some l => { d with soot := { d.soot with last := SMap.put none d.soot.last src (some { l with written := some n }) } }
    | none => d

/-- The front of the holding stage is written to the ring (R512, R514). -/
def Dev.sootWrite (d : Dev) (i : SootItem) : Dev :=
  let n := (d.rd Reg.SOOT_PTR).toNat
  let wrap := decide (1024 ≤ (n + 2 ^ 32 - (d.rd Reg.SOOT_RD).toNat) % 2 ^ 32)
  let k := n % 1024
  let d := (((d.wr (Reg.SOOT_RING k 0) i.w0).wr (Reg.SOOT_RING k 1) i.w1).wr (Reg.SOOT_RING k 2) i.w2).wr (Reg.SOOT_RING k 3) i.w3
  let d := d.incWord Reg.SOOT_PTR 1
  let d := if wrap then d.sootLost 1 else d
  let d := (d.sootMark n i).sootSevere n i
  d.raiseUnit Reg.SOOT_EVT 0 ([0] ++ (if getBits i.w2 1 0 = 2 then [1] else []) ++ (if wrap then [2] else []))

/-- SOOT_ENTRY_WRITE. -/
def execSootEntryWrite (s : State) : Host.Outcome State Fault Refusal :=
  s.onDev (fun d => match d.soot.stage with
    | [] => d
    | i :: rest => ({ d with soot := { d.soot with stage := rest } }).sootWrite i)

/-- A value written beyond SOOT_PTR is taken as SOOT_PTR (R514). -/
def Dev.sootClamp (d : Dev) (w : Word) : Word := if (d.rd Reg.SOOT_PTR).toNat < w.toNat then d.rd Reg.SOOT_PTR else w

/-- A write of SOOT_ACK (R513). -/
def Dev.sootAck (d : Dev) (w : Word) : Dev :=
  let w := d.sootClamp w
  let d := d.wr Reg.SOOT_ACK w
  ({ d with soot := { d.soot with unack := d.soot.unack.filter (fun n => decide (w.toNat ≤ n)) } }).refreshUnack

/-- A write of SOOT_RD (R514). -/
def Dev.sootRd (d : Dev) (w : Word) : Dev := d.wr Reg.SOOT_RD (d.sootClamp w)

def execSootAckWrite (w : Word) (s : State) : Host.Outcome State Fault Refusal := s.onDev (fun d => d.sootAck w)
def execSootRdWrite (w : Word) (s : State) : Host.Outcome State Fault Refusal := s.onDev (fun d => d.sootRd w)

end Sys2Proof.Machine
end

