-- ==== Sys2Proof/Machine/AuxBus.lean ====
section
/-! DEFINITION. The auxiliary two-wire buses (chapter 13): controller transactions and their retries, timeouts and bus
clear, the AUX0 target with its health mailbox, and attention. -/

namespace Sys2Proof.Machine

/-- A bus exists on the part (R408). -/
def Part.hasBus (p : Part) (b : Nat) : Bool := decide (b < 2) || (b == 2 && p.hasF1)

def Dev.auxBus (d : Dev) (b : Nat) : AuxBus := SMap.get {} d.aux b
def Dev.setAux (d : Dev) (b : Nat) (x : AuxBus) : Dev := { d with aux := SMap.put {} d.aux b x }
def Dev.updAux (d : Dev) (b : Nat) (f : AuxBus → AuxBus) : Dev := d.setAux b (f (d.auxBus b))
def Dev.auxEvt (d : Dev) (b e : Nat) : Dev := d.raise (Reg.AUX_EVT b) e

/-- The bus is stuck (R418, R419). -/
def Dev.auxStuck (d : Dev) (b : Nat) : Bool := d.is (Reg.AUX_STAT_SCLSTUCK b) || d.is (Reg.AUX_STAT_SDASTUCK b)

/-! ## Starting and ending (R411, R413, R417) -/

/-- A host command ends with a status. -/
def Dev.auxCmdEnd (d : Dev) (b st : Nat) : Dev := (d.cmdEnd (Reg.AUX_CMDSTAT b) st).auxEvt b 0

/-- A try goes on the bus. -/
def Dev.auxTry (d : Dev) (b : Nat) (t : AuxTx) : Dev :=
  let t := { t with tries := t.tries + 1, running := true, delay := false }
  let d := (d.updAux b (fun x => { x with cur := some t })).set (Reg.AUX_STAT_FREE b) 0 |>.set (Reg.AUX_STAT_OWN b) 1
  let d := if t.use = .host then
      if t.tries ≤ 15 then d.set (Reg.AUX_XSTAT_TRIES b) t.tries
      else let (w, d) := d.fresh; d.set (Reg.AUX_XSTAT_TRIES b) w.toNat
    else d
  d.emit (.aux b t.addr t.data t.rlen)

/-- The attention query (R425). -/
def Dev.auxQuery (d : Dev) : AuxTx :=
  { use := .query, addr := 0x0C, wlen := 0, rlen := 1, data := [], retries := d.get (Reg.AUX_CFG_RETRY 0)
    wretry := d.is (Reg.AUX_CFG_WRETRY 0), nakretry := false, tries := 0, running := false, delay := false }

/-- Which of a waiting host transaction and a waiting query goes next: they take turns (R412). -/
def Dev.auxNext (d : Dev) (b : Nat) : Dev :=
  let x := d.auxBus b
  match x.wait with
  | some t =>
    if x.query ∧ !x.lastQuery then (d.setAux b { x with query := false, lastQuery := true }).auxTry b d.auxQuery
    else (d.setAux b { x with wait := none, lastQuery := false }).auxTry b t
  | none => if x.query then (d.setAux b { x with query := false, lastQuery := true }).auxTry b d.auxQuery else d

/-- The bus turns to what waits, when it is free and owes no clear: the transaction in hand, else what waits (R412,
R413). -/
def Dev.auxGo (d : Dev) (b : Nat) : Dev :=
  if !d.is (Reg.AUX_STAT_FREE b) || (d.auxBus b).clearDue || d.auxStuck b || !d.is (Reg.AUX_CFG_EN b) then d
  else match (d.auxBus b).cur with
    | some t => if t.running || t.delay then d else d.auxTry b t
    | none => d.auxNext b

/-- A module poll may use its bus now (R412, R413, R418): the bus is free and not stuck, nothing is on it, and a host command that
waits does not have the turn. -/
def Dev.pollTurn (d : Dev) (b : Nat) : Bool :=
  d.is (Reg.AUX_CFG_EN b) && d.is (Reg.AUX_STAT_FREE b) && !d.auxStuck b && !(d.auxBus b).clearDue && (d.auxBus b).cur.isNone
    && !((d.auxBus b).wait.isSome && (d.auxBus b).lastQuery)

/-- A poll has used its bus, which is busy until the next tBUF has passed. -/
def Dev.pollDone (d : Dev) (b : Nat) : Dev := (d.updAux b (fun x => { x with lastQuery := true })).set (Reg.AUX_STAT_FREE b) 0

/-- The bytes of the bus's buffer. -/
def Dev.auxBytes (d : Dev) (b n : Nat) : List Byte := ((List.range 64).flatMap (fun j => wordBytes (d.rd (Reg.AUX_BUF b j)))).take n

/-- Bytes read put into the buffer from a byte (R411). -/
def Dev.auxPut (d : Dev) (b at_ : Nat) (bs : List Byte) : Dev :=
  bs.zipIdx.foldl (fun d p =>
    let i := at_ + p.2
    if 256 ≤ i then d else d.wr (Reg.AUX_BUF b (i / 4)) (setByte (d.rd (Reg.AUX_BUF b (i / 4))) (i % 4) p.1)) d

/-- XFER (R411). -/
def Dev.auxXfer (d : Dev) (b : Nat) : Dev :=
  let wlen := d.get (Reg.AUX_XFER_WLEN b)
  let rlen := d.get (Reg.AUX_XFER_RLEN b)
  if 256 < wlen + rlen ∨ (b ≠ 0 ∧ d.get (Reg.AUX_CFG_SPEED b) = 2) then d.auxCmdEnd b 3
  else if !d.is (Reg.AUX_CFG_EN b) || d.auxStuck b then d.auxCmdEnd b 0x75
  else
    let t : AuxTx := { use := .host, addr := d.get (Reg.AUX_XFER_ADDR b), wlen := wlen, rlen := rlen, data := d.auxBytes b wlen
                       retries := d.get (Reg.AUX_CFG_RETRY b), wretry := d.is (Reg.AUX_CFG_WRETRY b)
                       nakretry := d.is (Reg.AUX_CFG_NAKRETRY b), tries := 0, running := false, delay := false }
    ((d.updAux b (fun x => { x with wait := some t })).wr (Reg.AUX_XSTAT b) 0).auxGo b

/-- A host command that waits on a bus that has become stuck completes with STUCK (R418). -/
def Dev.auxWaitStuck (d : Dev) (b : Nat) : Dev :=
  if (d.auxBus b).wait.isSome then (d.updAux b (fun x => { x with wait := none })).auxCmdEnd b 0x75 else d

/-- A bus clear has run (R419): whether SDA was freed. -/
def Dev.auxCleared (d : Dev) (b : Nat) (freed : Bool) : Dev :=
  let d := ((d.incSat (Reg.AUX_CNT1_CLEARS b) 1).set (Reg.AUX_STAT_FREE b) 0).set (Reg.AUX_STAT_SDA b) (b2n freed)
  let d := d.updAux b (fun x => { x with clearDue := false })
  if freed then (d.set (Reg.AUX_STAT_SDASTUCK b) 0).auxEvt b 1
  else (((d.set (Reg.AUX_STAT_SDASTUCK b) 1).raise (Reg.AUX_EVT b) 1 |>.auxEvt b 6).sootE 1 12 0x9001 b).auxWaitStuck b

/-- CLEAR (R419): accepted while no transaction runs. -/
def Dev.auxClear (d : Dev) (b : Nat) (freed : Bool) : Dev :=
  if !d.is (Reg.AUX_CFG_EN b) || d.auxStuck b then d.auxCmdEnd b 0x75
  else if (d.auxBus b).cur.any (·.running) then d.auxCmdEnd b 2
  else (d.auxCleared b freed).auxCmdEnd b (if freed then 0 else 0x77)

/-- ABORT (R419): the transaction in progress, or the one that waits, ends. -/
def Dev.auxAbort (d : Dev) (b : Nat) : Dev :=
  let x := d.auxBus b
  if x.cur.any (fun t => decide (t.use = .host)) then
    (((d.setAux b { x with cur := none }).set (Reg.AUX_STAT_OWN b) 0).auxCmdEnd b 0x76).auxGo b
  else if x.wait.isSome then (d.setAux b { x with wait := none }).auxCmdEnd b 0x76
  else d

/-- A command of a bus: ABSENT on AUX2 where the part has none (R411), discarded with LOST while one is in progress. -/
def Dev.auxCmd (d : Dev) (b op tag : Nat) (f : Dev → Dev) : Dev :=
  if !d.part.hasBus b then (if b = 2 then d.cmdAbsent (Reg.AUX_CMDSTAT 2) op tag else d)
  else if d.cmdBusy (Reg.AUX_CMDSTAT b) then d.cmdLost (Reg.AUX_CMDSTAT b)
  else f (d.cmdStart (Reg.AUX_CMDSTAT b) op tag)

/-- A write of AUX_CMD; `freed` is what a clear would find. -/
def Dev.auxWrite (d : Dev) (b : Nat) (w : Word) (freed : Bool) : Dev :=
  let op := getBits w 31 24
  let tag := getBits w 15 8
  match op with
  | 1 => d.auxCmd b op tag (fun d => d.auxXfer b)
  | 2 => d.auxCmd b op tag (fun d => d.auxClear b freed)
  | 3 => if d.part.hasBus b then d.auxAbort b else d
  | _ => d.auxCmd b op tag (fun d => d.auxCmdEnd b 3)

def execXfer (b tag : Nat) (s : State) : Host.Outcome State Fault Refusal :=
  s.onBlock 12 (fun d => d.auxCmd b 1 tag (fun d => d.auxXfer b))
def execAuxClear (b tag : Nat) (freed : Bool) (s : State) : Host.Outcome State Fault Refusal :=
  s.onBlock 12 (fun d => d.auxCmd b 2 tag (fun d => d.auxClear b freed))
def execAuxAbort (b : Nat) (s : State) : Host.Outcome State Fault Refusal :=
  s.onBlock 12 (fun d => if d.part.hasBus b then d.auxAbort b else d)

/-! ## How a try ends (R414 to R418) -/

/-- An attention query ends (R425): a new one follows while ATN_N is still low. -/
def Dev.queryEnd (d : Dev) (st : Nat) (data : List Byte) : Dev :=
  if st = 0 then
    let a := (data.headD 0).toNat / 2
    let d := ((d.set Reg.AUX_ATNLOG_ADDR a).incMod Reg.AUX_ATNLOG_COUNT 1).wr64 Reg.AUX_ATNTIME_LO Reg.AUX_ATNTIME_HI d.devtime
    let again := d.is (Reg.AUX_STAT_ATN 0) && d.is Reg.AUX_TCFG_ATNQ && d.ball .atnN
    (d.updAux 0 (fun x => { x with query := again })).auxEvt 0 7
  else if st = 0x70 then { d.auxEvt 0 8 with target := { d.target with stuck := true } }
  else d

/-- A transaction is over with a status, and the bytes it read. -/
def Dev.auxOver (d : Dev) (b : Nat) (t : AuxTx) (st : Nat) (data : List Byte) : Dev :=
  let d := d.updAux b (fun x => { x with cur := none })
  (match t.use with
   | .host => (d.auxPut b t.wlen data).auxCmdEnd b st
   | .query => d.queryEnd st data).auxGo b

/-- The failures of R417 that are retried; `acked` write data bytes were acknowledged. -/
def AuxTx.retried (t : AuxTx) (st acked : Nat) : Bool := match st with
  | 0x72 => true
  | 0x73 => acked == 0 || t.wretry
  | 0x74 => acked == 0 || t.wretry
  | 0x70 => t.nakretry
  | 0x71 => t.wretry
  | _ => false

/-- A try ends: it is repeated once the bus is free, or the transaction is over (R417). -/
def Dev.auxTryOver (d : Dev) (b : Nat) (t : AuxTx) (st acked : Nat) (data : List Byte) : Dev :=
  let d := d.set (Reg.AUX_STAT_OWN b) 0
  let d := if t.use = .host then (d.set (Reg.AUX_XSTAT_WDONE b) (min acked 255)).set (Reg.AUX_XSTAT_RDONE b) (min data.length 255) else d
  if t.retried st acked ∧ t.tries ≤ t.retries then
    d.updAux b (fun x => { x with cur := some { t with running := false, delay := true } })
  else d.auxOver b t st data

/-- Where arbitration was lost or a bus error was seen. -/
def Dev.auxWhere (d : Dev) (b byte bit_ : Nat) : Dev := (d.set (Reg.AUX_XSTAT_BYTE b) byte).set (Reg.AUX_XSTAT_BIT b) bit_

/-- AUX_TRY_END: the try on a bus ends. -/
def execAuxTryEnd (b : Nat) (e : AuxEnd) (s : State) : Host.Outcome State Fault Refusal :=
  s.onBlock 12 (fun d => match (d.auxBus b).cur with
    | none => d
    | some t =>
      if !t.running then d
      else match e with
        | .done data => d.auxTryOver b t 0 t.wlen (data.take t.rlen)
        | .nackAddr => d.auxTryOver b t 0x70 0 []
        | .nackData acked => d.auxTryOver b t 0x71 acked []
        | .arbLost byte bit_ acked =>
          (((d.auxWhere b byte bit_).incSat (Reg.AUX_CNT0_ARBLOST b) 1).auxEvt b 2).auxTryOver b t 0x72 acked [])

/-- AUX_BUS_ERROR: a START or STOP that the device did not generate while it owns the bus (R416). -/
def execAuxBusError (b byte bit_ acked : Nat) (s : State) : Host.Outcome State Fault Refusal :=
  s.onBlock 12 (fun d => match (d.auxBus b).cur with
    | none => d
    | some t =>
      if !t.running then d
      else (((d.auxWhere b byte bit_).incSat (Reg.AUX_CNT0_BUSERR b) 1).auxEvt b 3).auxTryOver b t 0x73 acked [])

/-- AUX_SCL_TIMEOUT (R418): the bus is stuck until SCL is released. -/
def execAuxSclTimeout (b acked : Nat) (s : State) : Host.Outcome State Fault Refusal :=
  s.onBlock 12 (fun d => match (d.auxBus b).cur with
    | none => d
    | some t =>
      if !t.running then d
      else
        let d := ((d.incSat (Reg.AUX_CNT1_SCLTMO b) 1).set (Reg.AUX_STAT_SCLSTUCK b) 1).set (Reg.AUX_STAT_SCL b) 0
        (((d.auxEvt b 5).sootE 1 12 0x9001 b).auxTryOver b t 0x74 acked []).auxWaitStuck b)

/-- AUX_BUS_FREE: tBUF after a STOP, or 50 µs idle (R413). A bus that was stuck is so no longer; after R418 it owes a
clear. -/
def execAuxBusFree (b : Nat) (s : State) : Host.Outcome State Fault Refusal :=
  s.onBlock 12 (fun d =>
    if !d.part.hasBus b || !d.is (Reg.AUX_CFG_EN b) || (d.auxBus b).cur.any (·.running) then d
    else
      let d := if d.is (Reg.AUX_STAT_SCLSTUCK b) then d.updAux b (fun x => { x with clearDue := true }) else d
      let d := if d.auxStuck b then ((d.set (Reg.AUX_STAT_SCLSTUCK b) 0).set (Reg.AUX_STAT_SDASTUCK b) 0).auxEvt b 4 else d
      let d := ((d.set (Reg.AUX_STAT_FREE b) 1).set (Reg.AUX_STAT_SCL b) 1).set (Reg.AUX_STAT_SDA b) 1
      let d := if b = 0 then { d with target := { d.target with cur := none } } else d
      d.auxGo b)

/-- AUX_RETRY_DELAY: RDELAY has passed since the bus became free (R417). -/
def execAuxRetryDelay (b : Nat) (s : State) : Host.Outcome State Fault Refusal :=
  s.onBlock 12 (fun d => match (d.auxBus b).cur with
    | none => d
    | some t =>
      if t.delay && d.is (Reg.AUX_STAT_FREE b) then (d.updAux b (fun x => { x with cur := some { t with delay := false } })).auxGo b
      else d)

/-- AUX_AUTOCLEAR: a clear that is due, or SDA low with SCL high for 5 × SCLTMO (R419). -/
def execAuxAutoclear (b : Nat) (freed : Bool) (s : State) : Host.Outcome State Fault Refusal :=
  s.onBlock 12 (fun d =>
    if !d.part.hasBus b || !d.is (Reg.AUX_CFG_EN b) || d.is (Reg.AUX_STAT_SCLSTUCK b) || (d.auxBus b).cur.any (·.running) then d
    else if (d.auxBus b).clearDue || d.is (Reg.AUX_CFG_AUTOCLR b) then d.auxCleared b freed else d)

/-- A bus's page has applied (R413, R424, R427): a change of EN makes the bus busy; without ATNEN the target does not drive
ATN_N. -/
def Dev.auxApplied (d : Dev) (b : Nat) (en : Bool) : Dev :=
  let d := if d.is (Reg.AUX_CFG_EN b) = en then d else d.set (Reg.AUX_STAT_FREE b) 0
  if b = 0 ∧ !d.is Reg.AUX_TCFG_ATNEN then d.drive .atnN true else d

/-! ## The health mailbox (R422, R423) -/

/-- CRC-8: x^8 + x^2 + x + 1, initial value 0. -/
def crc8Byte (c b : Byte) : Byte :=
  (List.range 8).foldl (fun c _ => if c.getLsbD 7 then (c <<< 1) ^^^ 0x07 else c <<< 1) (c ^^^ b)
def crc8 (bs : List Byte) : Byte := bs.foldl crc8Byte 0

/-- Mailbox STATE. -/
def Dev.mboxState (d : Dev) : Nat :=
  if d.rst.banked then 3 else if d.get Reg.RST_STAT_STATE = 1 then 0 else if d.is Reg.RST_STAT_MINIMAL then 2 else 1

/-- Bytes 0x00 to 0x3E of the mailbox (R423). -/
def Dev.mailbox (d : Dev) : List Byte :=
  let head := [0x01, BitVec.ofNat 8 d.mboxState] ++ leBytes 2 d.part.code
    ++ [BitVec.ofNat 8 (d.get Reg.SYS_REV_EPOCH), BitVec.ofNat 8 (d.get Reg.SYS_REV_METAL)]
  if d.mboxState = 0 ∨ d.mboxState = 3 then head ++ List.replicate 57 0
  else
    let busy := (List.range d.part.lanes).filter (fun n => d.get (Reg.LANE_BIND_MSTATE n) != 0)
    let flags := d.get Reg.CLK_STAT_LOCK + 2 * d.get Reg.CLK_STAT_HOLDOVER + 4 * d.get Reg.FLU_PTPSTAT_LOCKED
      + 8 * d.get (Reg.FLU_LINK_UP 0) + 16 * b2n (d.part.hasF1 && d.is (Reg.FLU_LINK_UP 1))
    head ++ leBytes 2 (d.get Reg.SYS_DEVID_DEVID) ++ leBytes 2 (d.get Reg.SYS_DEVID_SYSID) ++ leBytes 2 (d.get Reg.RST_STAT_TEMP)
      ++ leBytes 4 (d.rd Reg.SYS_MARGIN).toNat ++ leBytes 4 (min (2 ^ 32 - 1) ((d.now - d.rst.kindledAt) / 1000000000))
      ++ [BitVec.ofNat 8 (d.get Reg.FWT_STAT_ACTIVE % 64 + 128 * d.get Reg.FWT_STAT_PIN),
          BitVec.ofNat 8 (min 255 d.soot.unack.length), BitVec.ofNat 8 (d.get Reg.RST_CAUSE_CAUSE), BitVec.ofNat 8 flags,
          BitVec.ofNat 8 d.lanesOn.length, BitVec.ofNat 8 busy.length, 0, 0]
      ++ leBytes 4 (d.rd Reg.HMG_MIGCNT).toNat ++ List.replicate 31 0

/-- The snapshot a read takes: the refreshed values, AUX_HMUSER as it stands (R427), and the CRC. -/
def Dev.mboxSnap (d : Dev) : List Byte :=
  let v := if d.target.values.isEmpty then d.mailbox else d.target.values
  let live := (v.getD 1 0) != 0 && (v.getD 1 0) != 3
  let user := if live then (List.range 4).flatMap (fun i => wordBytes (d.rd (Reg.AUX_HMUSER i))) else List.replicate 16 0
  let b := v.take 0x20 ++ user ++ List.replicate 15 0
  b ++ [crc8 b]

/-- The target drives ATN_N low (R424). -/
def Dev.attend (d : Dev) : Dev := if d.is Reg.AUX_TCFG_ATNEN then d.drive .atnN false else d

/-- HEALTH_MAILBOX_REFRESH: the values are refreshed, and a change that calls for attention is signalled (R422, R424). -/
def Dev.mboxRefresh (d : Dev) : Dev :=
  let old := d.target.values
  let new := d.mailbox
  let pin := fun (v : List Byte) => (v.getD 0x14 0).getLsbD 7
  let call := !old.isEmpty && (old.getD 1 0 != new.getD 1 0 || d.target.severe != d.soot.severe || pin old != pin new)
  let d := { d with target := { d.target with values := new, severe := d.soot.severe } }
  if call then d.attend else d

def execHealthMailboxRefresh (s : State) : Host.Outcome State Fault Refusal := s.onDev (fun d => d.mboxRefresh)

/-! ## The AUX0 target (R420 to R424) -/

/-- The target's own attention is asserted. -/
def Dev.attending (d : Dev) : Bool := !d.ball .atnN

/-- The strap has been read, so the target serves (R426). -/
def Dev.targetServes (d : Dev) : Bool := d.get Reg.AUX_TCFG_TADDR != 0

/-- The target answers an address byte. -/
def Dev.targetAddr (d : Dev) (addr : Nat) (read : Bool) : Option AuxTarget :=
  if !d.targetServes then none
  else if addr = d.get Reg.AUX_TCFG_TADDR then (if read then some .reading else some (.writing 0))
  else if addr = 0x0C ∧ read ∧ d.attending then some .alert else none

/-- AUX_TARGET_ADDRESS: an address byte on AUX0 from another controller. -/
def execAuxTargetAddress (addr : Nat) (read : Bool) (s : State) : Host.Outcome State Fault Refusal :=
  s.onDev (fun d =>
    let d := if d.is (Reg.AUX_STAT_OWN 0) then d else d.set (Reg.AUX_STAT_FREE 0) 0
    let t := d.targetAddr addr read
    let snap := if t = some .reading then d.mboxSnap else d.target.snap
    ({ d with target := { d.target with cur := t, snap := snap } }).emit (.target t.isSome none))

/-- A byte reaches the falling edge of its acknowledge slot (R421, R422, R424). -/
def Dev.targetByte (d : Dev) (t : AuxTarget) (b : Byte) (lost : Bool) : Dev :=
  match t with
  | .writing 0 =>
    ({ d with target := { d.target with cur := some (.writing 1), pointer := b.toNat % 64 } }).emit (.target true none)
  | .writing n => ((({ d with target := { d.target with cur := some (.writing (n + 1)) } }).incSat Reg.AUX_TCNT_WNACK 1)).emit (.target false none)
  | .reading =>
    let v := d.target.snap.getD d.target.pointer 0
    ({ d with target := { d.target with pointer := (d.target.pointer + 1) % 64 } }).emit (.target false (some v))
  | .alert =>
    let d := { d with target := { d.target with cur := none } }
    let a := BitVec.ofNat 8 (2 * d.get Reg.AUX_TCFG_TADDR)
    if lost then d.emit (.target false (some a))
    else ((d.drive .atnN true).incSat Reg.AUX_TCNT_ARA 1).emit (.target false (some a))

/-- AUX_TARGET_BYTE: a byte of a transaction that addresses the target: `b` where the target receives it. It is committed,
or a START or STOP ends it before (R421); `lost` that another target won the response. -/
def execAuxTargetByte (b : Byte) (commit lost : Bool) (s : State) : Host.Outcome State Fault Refusal :=
  s.onDev (fun d => match d.target.cur with
    | none => d
    | some t =>
      if commit then d.targetByte t b lost
      else (({ d with target := { d.target with cur := none } }).incSat Reg.AUX_TCNT_SRABORT 1).auxEvt 0 9)

/-- AUX_TARGET_TIMEOUT: another party holds SCL low for SCLTMO (R420). -/
def execAuxTargetTimeout (s : State) : Host.Outcome State Fault Refusal :=
  s.onDev (fun d =>
    if d.target.cur.isSome then ({ d with target := { d.target with cur := none } }).incSat Reg.AUX_TCNT_TMO 1 else d)

/-- ATN_QUERY: ATN_N has kept a level for 10 µs; where it is low, a query is due (R425). A host command and a query take
turns (R412). -/
def Dev.atnLevel (d : Dev) (low : Bool) : Dev :=
  let d := d.set (Reg.AUX_STAT_ATN 0) (b2n low)
  if !low then
    { d with target := { d.target with stuck := false } }.updAux 0 (fun x => { x with query := false })
  else if !d.is Reg.AUX_TCFG_ATNQ || d.attending || d.target.stuck then d
  else (d.updAux 0 (fun x => { x with query := true })).auxGo 0

def execAtnQuery (low : Bool) (s : State) : Host.Outcome State Fault Refusal := s.onDev (fun d => d.atnLevel low)

/-- A SYSTEM reset or POR of the controllers (R426): lines released, a clear before the first transaction. -/
def Dev.auxReset (d : Dev) : Dev := { d with aux := [] }

end Sys2Proof.Machine
end

