-- ==== Sys2Proof/Machine/Calib.lean ====
section
/-! DEFINITION. The commands of the calibration block (R494 to R505). -/

namespace Sys2Proof.Machine

/-- A CAL command that ends at its acceptance. -/
def Dev.calDone (d : Dev) (op tag st : Nat) : Dev := (d.cmdDone Reg.CAL_CMDSTAT op tag st).raise Reg.CAL_EVT 0

/-- A CAL command other than ABORT: discarded with LOST while one executes (R500). -/
def Dev.calCmd (d : Dev) (f : Dev → Dev) : Dev := if d.cmdBusy Reg.CAL_CMDSTAT then d.cmdLost Reg.CAL_CMDSTAT else f d

/-- The target a RUN names (R494); none where 0x08 or 0x09 finds no standby core. -/
def Dev.calTarget (d : Dev) (t : Nat) : Option Nat :=
  if t = 8 ∨ t = 9 then
    let c := d.get Reg.CAP_ROLE_CORE_SB
    if c < 3 then some (c + (if t = 8 then 0 else 3)) else none
  else some t

/-- The stated tone is one the target permits (R495). -/
def calRefOk (kind : Nat) (f l : Word) : Bool :=
  let f := f.toNat
  let lv := toSigned 16 (l.toNat % 65536)
  decide (-4000 ≤ lv) && decide (lv ≤ -1000) && (match kind with
    | 0 => decide (10000000 ≤ f) && decide (f ≤ 1500000000) && decide (5000000 ≤ f % 200000000) && decide (f % 200000000 ≤ 195000000)
    | 1 => decide (150000 ≤ f) && decide (f ≤ 1550000000)
    | _ => (decide (863000000 ≤ f) && decide (f ≤ 870000000)) || (decide (902000000 ≤ f) && decide (f ≤ 928000000)))

/-- What kind a target is: 0 CORE, 1 RSSI, 2 SMK. -/
def calKind (t : Nat) : Nat := if t < 3 ∨ t = 8 then 0 else if t < 6 ∨ t = 9 then 1 else 2

/-- The status with which a RUN is refused, in the order of R501; 0 where it is accepted. -/
def Dev.runStatus (d : Dev) (t arg : Nat) : Nat :=
  if t = 6 ∧ !d.part.hasSmoke then 0xFE
  else if 9 < t ∨ t = 7 ∨ (if calKind t = 1 then 7 < arg else arg ≠ 0) then 3
  else if !calRefOk (calKind t) (d.rd Reg.CAL_REFF) (d.rd Reg.CAL_REFL) then 3
  else if t = 6 then (if d.is Reg.SMK_CTL_EN then 0 else 3)
  else match d.calTarget t with
    | some k => if d.coreState (k % 3) = 1 ∧ d.cap.replacing.isNone then 0 else 7
    | none => 7

/-- RUN (R497 step 1). -/
def Dev.calRun (d : Dev) (t tag arg : Nat) : Dev :=
  let st := d.runStatus t arg
  if st ≠ 0 then d.calDone 1 tag st
  else
    let k := (d.calTarget t).getD t
    let d := d.cmdStart Reg.CAL_CMDSTAT 1 tag
    let cmd : CalCmd := { op := 1, target := k, arg := arg, refF := d.rd Reg.CAL_REFF, refL := d.rd Reg.CAL_REFL }
    let d := { d with cal := { d.cal with cmd := some cmd } }
    match calCore k with
    | some c => ((d.setCore c 2 3).setStale c true).refreshCore c
    | none => d

def execRun (target tag arg : Nat) (s : State) : Host.Outcome State Fault Refusal :=
  s.onBlock 15 (fun d => d.calCmd (fun d => d.calRun target tag arg))

/-! ## RESTORE and LOADSET (R503, R505) -/

/-- A gain of a word pair lies within ±1.000 dB. -/
def gainOk (w : Word) : Bool := decide ((toSigned 16 (w.toNat / 65536)).natAbs ≤ 1000)

/-- The checks of R503 on block `b` of CAL_STG. -/
def Dev.stgOk (d : Dev) (b : Nat) : Bool :=
  let w := fun i => d.rd (Reg.CAL_STG b i)
  let zero := fun (lo n : Nat) => (List.range n).all (fun i => w (lo + i) == 0)
  getBits (w 0) 31 24 == 1 && getBits (w 0) 23 16 == b && w 1 == blockCrc w && zero 2 2 &&
    (if b < 3 then
      (List.range 68).all (fun i => gainOk (w (36 + i))) && (List.range 8).all (fun p => getBits (w (109 + 2 * p)) 15 0 == 0) && zero 124 132
     else zero 5 251)

/-- The core a block belongs to is in a rotation (R503). -/
def Dev.rotating (d : Dev) (b : Nat) : Bool := match d.cap.rot with
  | some r => r.x == b || r.s == b
  | none => false

/-- The words of a block that carry values, from word 4. -/
def blockWords (b : Nat) : Nat := if b < 3 then 120 else 1

/-- A block of CAL_STG goes into application, or the command ends (R503). -/
def Dev.restoreNext (d : Dev) (k : CalCmd) : Dev :=
  if k.target = 3 ∧ !d.part.hasSmoke then d.calEnd 0xFE
  else if d.rotating k.target then d.calEnd 2
  else if !d.stgOk k.target then d.calEnd 0x18
  else d.calApply k.target 4 ((List.range (blockWords k.target)).map (fun i => d.rd (Reg.CAL_STG k.target (4 + i))))

/-- A command that restores blocks is accepted. -/
def Dev.restoreStart (d : Dev) (op tag : Nat) (blocks : List Nat) : Dev :=
  match blocks with
  | [] => d.calDone op tag 0
  | b :: rest =>
    let k : CalCmd := { op := op, target := b, rest := rest }
    (({ d with cal := { d.cal with cmd := some k } }).cmdStart Reg.CAL_CMDSTAT op tag).restoreNext k

/-- RESTORE (R503). -/
def Dev.calRestore (d : Dev) (b tag : Nat) : Dev := if 3 < b then d.calDone 2 tag 3 else d.restoreStart 2 tag [b]

def execRestore (b tag : Nat) (s : State) : Host.Outcome State Fault Refusal :=
  s.onBlock 15 (fun d => d.calCmd (fun d => d.calRestore b tag))

/-- Every section of a calibration set has the shape of R505. -/
def setShape (ss : List Sec) : Bool :=
  ss.all (fun x => x.kind == 4 && x.len == 0x400 && x.addr % 0x400 == 0 && decide (x.addr / 0x400 < 4))

/-- A section copied into CAL_STG. -/
def Dev.stage (d : Dev) (slot : Nat) (x : Sec) : Dev :=
  let m := d.imgSec slot x 0
  (List.range 256).foldl (fun d i => d.wr (Reg.CAL_STG (x.addr / 0x400) i) (Memory.readWord m (4 * i))) d

/-- LOADSET (R505). `dmg` is what the load finds of the image (R241). -/
def Dev.calLoadset (d : Dev) (slot tag : Nat) (dmg : Damage) : Dev :=
  if 63 < slot then d.calDone 3 tag 3
  else if d.slotState slot ≠ 2 then d.calDone 3 tag 0x30
  else
    let (lostWord, d) := d.loadDamage slot dmg
    if lostWord then d.calDone 3 tag 0x30
    else if d.imgByte slot 5 ≠ 3 then d.calDone 3 tag 0x31
    else if d.get Reg.SYS_REV_EPOCH < d.imgByte slot 8 ∨ d.imgByte slot 9 < d.get Reg.SYS_REV_EPOCH then d.calDone 3 tag 0x32
    else
      let ss := d.imgSecs slot
      if !setShape ss then d.calDone 3 tag 0x18
      else (ss.foldl (fun d x => d.stage slot x) d).restoreStart 3 tag (ss.map (fun x => x.addr / 0x400))

def execLoadset (slot tag : Nat) (dmg : Damage) (s : State) : Host.Outcome State Fault Refusal :=
  s.onBlock 15 (fun d => d.calCmd (fun d => d.calLoadset slot tag dmg))

/-- CAL_ABORT: the command in progress ends at its next boundary (R500); with none in progress the ABORT completes. -/
def Dev.calAbort (d : Dev) (tag : Nat) : Dev :=
  match d.cal.cmd with
  | some k => { d with cal := { d.cal with cmd := some { k with abort := true } } }
  | none => d.calDone 4 tag 0

def execCalAbort (tag : Nat) (s : State) : Host.Outcome State Fault Refusal := s.onBlock 15 (fun d => d.calAbort tag)

/-- A write of CAL_CMD. -/
def Dev.calWrite (d : Dev) (w : Word) (dmg : Damage) : Dev :=
  let op := getBits w 31 24
  let t := getBits w 23 16
  let tag := getBits w 15 8
  match op with
  | 1 => d.calCmd (fun d => d.calRun t tag (getBits w 7 0))
  | 2 => d.calCmd (fun d => d.calRestore t tag)
  | 3 => d.calCmd (fun d => d.calLoadset t tag dmg)
  | 4 => d.calAbort tag
  | _ => d.calCmd (fun d => d.calDone op tag 3)

/-! ## Runs and application -/

/-- Where a target's values go, and the new words (R502). -/
def Dev.runWords (d : Dev) (k : CalCmd) (m : CalMeas) : Nat × Nat × List Word :=
  if k.target < 3 then (k.target, 4, d.newWords k.target 4 coreWords m.vals)
  else if k.target < 6 then
    (k.target - 3, 108 + 2 * k.arg, [BitVec.ofNat 32 (k.refF.toNat / 1000), BitVec.ofNat 32 ((m.vals.headD 0).toNat % 65536 * 65536)])
  else
    let o := (m.vals.headD 0).toNat % 65536
    let w := d.rd (Reg.CAL_VAL 3 4)
    (3, 4, [if k.refF.toNat < 900000000 then putBits w 31 16 o else putBits w 15 0 o])

/-- A calibration run of the CAL command ends (R497). -/
def Dev.runDone (d : Dev) (m : CalMeas) : Dev :=
  match d.cal.cmd with
  | none => d
  | some k =>
    if k.op ≠ 1 ∨ d.cal.applies.any (fun a => a.block == k.block) then d
    else if !toneOk k.refF k.refL m then d.calEnd 0x11
    else if k.abort then d.calEnd 0x17
    else if !k.second then { d with cal := { d.cal with cmd := some { k with second := true } } }
    else
      let d := d.calCompare k.target m
      if !calAgree k.target m then d.calEnd 0x10
      else
        let (b, base, ws) := d.runWords k m
        d.calApply b base ws

/-- CAL_RUN_DONE: `m` is what the run measured. A periodic rotation that waited for the command follows it (R500). -/
def execCalRunDone (m : CalMeas) (s : State) : Host.Outcome State Fault Refusal :=
  s.onBlock 15 (fun d => let d := d.runDone m; if d.cal.cmd.isNone then d.rotPeriodic else d)

/-- A block has been restored (R503, R505): RESTCNT of its targets, RESTORED, and the next block. -/
def Dev.restored (d : Dev) (k : CalCmd) : Dev :=
  let ts := if k.target < 3 then [k.target, k.target + 3] else [6]
  let d := (ts.foldl (fun d t => d.incMod (Reg.CAL_TST_W4_RESTCNT t) 1) d).raise Reg.CAL_EVT 3
  match k.rest with
  | [] => d.calEnd 0
  | b :: rest =>
    let k := { k with target := b, rest := rest }
    ({ d with cal := { d.cal with cmd := some k } }).restoreNext k

/-- The application of a block has ended (R499). -/
def Dev.applied (d : Dev) (b : Nat) : Dev :=
  let d := d.calFinish b
  match d.cap.rot with
  | some r =>
    if r.phase = .applying ∧ r.s = b then d.rotMoved r
    else if r.phase = .refreshApply ∧ r.x = b then (d.refreshDone r).rotSuspects
    else match d.cal.cmd with
      | some k => if k.op = 1 then (d.calEnd 0).rotPeriodic else d.restored k
      | none => d
  | none => match d.cal.cmd with
    | some k => if k.op = 1 then (d.calEnd 0).rotPeriodic else d.restored k
    | none => d

/-- The CAL command owns the application of a block: a rotation does not. -/
def Dev.ownsApply (d : Dev) (b : Nat) : Bool :=
  match d.cap.rot with
  | some r => !((r.phase == .applying && r.s == b) || (r.phase == .refreshApply && r.x == b))
  | none => true

/-- CAL_APPLY_STEP: the application of block `b` takes one of its 256 steps; the last ends it (R499). An ABORT ends it at
the step, and what has been applied stays (R500). -/
def execCalApplyStep (b : Nat) (s : State) : Host.Outcome State Fault Refusal :=
  s.onBlock 15 (fun d => match d.cal.applies.find? (fun a => a.block == b) with
    | none => d
    | some a =>
      let a := { a with step := a.step + 1 }
      let d := d.setCalBlock b a.base (a.at_ a.step)
      let d := { d with cal := { d.cal with applies := d.cal.applies.map (fun x => if x.block = b then a else x) } }
      if d.ownsApply b && d.cal.cmd.any (·.abort) then (d.calDrop b).calEnd 0x17
      else if 256 ≤ a.step then d.applied b
      else d)

end Sys2Proof.Machine
end

