-- ==== Sys2Proof/Machine/Smoke.lean ====
section
/-! DEFINITION. The commands of the smoke radio and the ember (chapter 12). -/

namespace Sys2Proof.Machine

/-! ## Paging (R395) -/

/-- Host DATA gives way to a page: it goes back to its queue where it has not begun to emit, and ramps down where it has. -/
def Dev.smkYield (d : Dev) : Dev :=
  match d.smoke.job with
  | none => d
  | some t =>
    if t.page.isSome then d
    else if t.keyed then d.updSmoke (fun s => { s with job := some { t with phase := match t.phase with | .cut st => .cut st | _ => .cut 0x63 } })
    else d.updSmoke (fun s => { s with job := none, send := some t })

/-- A page's first transmission as the radio takes it (R395). -/
def Dev.smkPageTx (d : Dev) (p : SmkPage) (s : SmkSet) (num : Nat) : SmkTx :=
  { page := some p, num := num, repno := 0, dest := d.get Reg.SMK_PGDEST_DEST, payload := [], set := s,
    count := d.get Reg.SMK_PGDEST_REPEAT, gap := d.get Reg.SMK_PGDEST_PGINT, latest := p.deadline, pri := true, phase := .synth }

/-- A page has been taken: the radio turns to it. -/
def Dev.smkTake (d : Dev) (t : SmkTx) : Dev :=
  let d := d.smkYield.updSmoke (fun s => { s with next := some t, calStep := false })
  if d.smkCal then (d.calUndo 3).calEnd 0x16 else d.smkTurn

/-- The head of the page queue leaves it. -/
def Dev.smkHead (d : Dev) (p : SmkPage) (rest : List SmkPage) : Dev :=
  let num := d.smoke.pageNo
  let d := (({ d with fire := { d.fire with pages := rest } }).pageq).updSmoke (fun s => { s with pageNo := (num + 1) % 2 ^ 32 })
  if !d.is Reg.SMK_CTL_EN || !d.is Reg.SMK_PGCFG_PEN then d.pageLate p.log 0 5
  else match d.pageSet (d.rd Reg.SMK_PGCFG) (d.rd Reg.SMK_RADIO) with
    | none => d.pageLate p.log 0 5
    | some s => if p.deadline ≤ d.now then d.pageLate p.log 0 4 else d.smkTake (d.smkPageTx p s num)

/-- PAGE_TAKE. -/
def execPageTake (s : State) : Host.Outcome State Fault Refusal :=
  s.onBlock 13 (fun d =>
    if d.smoke.job.any (·.page.isSome) || d.smoke.next.isSome then d
    else match d.fire.pages with
      | [] => d
      | p :: rest => d.smkHead p rest)

/-- A repeat that is due (R395): skipped where it cannot start within PGINT or EN is 0, else taken where no first
transmission waits. -/
def Dev.repeatDue (d : Dev) (due : Nat) (t : SmkTx) (rest : List (Nat × SmkTx)) : Dev :=
  if t.latest ≤ d.now ∨ !d.is Reg.SMK_CTL_EN then (d.updSmoke (fun s => { s with reps := rest })).skipRepeat t due
  else if !d.fire.pages.isEmpty then d
  else (d.updSmoke (fun s => { s with reps := rest })).smkTake t

/-- PAGE_REPEAT_DUE: the first repeat whose scheduled time has come. -/
def execPageRepeatDue (s : State) : Host.Outcome State Fault Refusal :=
  s.onBlock 13 (fun d =>
    if d.smoke.job.any (·.page.isSome) || d.smoke.next.isSome then
      match d.smoke.reps.find? (fun r => decide (r.2.latest ≤ d.now)) with
      | some r => (d.updSmoke (fun s => { s with reps := s.reps.erase r })).skipRepeat r.2 r.1
      | none => d
    else match d.smoke.reps.find? (fun r => decide (r.1 ≤ d.now)) with
      | some r => d.repeatDue r.1 r.2 (d.smoke.reps.erase r)
      | none => d)

/-! ## Host DATA (R399) -/

/-- The payload SEND takes from the TX buffer. -/
def Dev.txPayload (d : Dev) (len : Nat) : List Byte :=
  ((List.range 29).flatMap (fun i => wordBytes (d.rd (Reg.SMK_TXBUF i)))).take len

/-- The transmission SMK_TXPAR0 to SMK_TXPAR3 describe, in a sub-band. -/
def Dev.sendTx (d : Dev) (sub air len : Nat) : SmkTx :=
  let dl := d.get Reg.SMK_TXPAR1_DEADLINE
  { page := none, num := (d.rd Reg.SMK_TXPAR2).toNat, repno := 0, dest := d.get Reg.SMK_TXPAR0_DEST, payload := d.txPayload len,
    set := ⟨d.get Reg.SMK_TXPAR0_CH, d.get Reg.SMK_TXPAR1_PWR, d.is Reg.SMK_TXPAR1_MOD4, d.get Reg.SMK_TXPAR1_RATE, 0,
      d.get Reg.SMK_RADIO_PRE, sub, air⟩
    count := 1, gap := 0, latest := d.now + msNs (if dl = 0 then 1000 else dl), pri := d.is Reg.SMK_TXPAR1_PRI, phase := .synth }

/-- A SEND that is accepted. -/
def Dev.sendStart (d : Dev) : Dev :=
  let len := d.get Reg.SMK_TXPAR3_LEN
  let ch := d.get Reg.SMK_TXPAR0_CH
  let rate := d.get Reg.SMK_TXPAR1_RATE
  let air := smkAir 0 (d.get Reg.SMK_RADIO_PRE) (11 + len) rate
  if !chanOk ch || len = 0 || 116 < len || 60 < d.get Reg.SMK_TXPAR1_PWR then d.sendEnd 3 0
  else if !d.is Reg.SMK_CTL_EN then d.sendEnd 0x60 5
  else match d.smkRegion ch (d.is Reg.SMK_TXPAR1_MOD4) rate air (d.get Reg.SMK_RADIO_TMO) with
    | none => d.sendEnd 0x61 0
    | some (_, false) => d.sendEnd 0x62 0
    | some (k, true) => (d.updSmoke (fun s => { s with send := some (d.sendTx k air len), calStep := false })).smkTurn

/-- SEND. -/
def Dev.smkSend (d : Dev) (tag : Nat) : Dev :=
  if !d.part.hasSmoke then d.cmdAbsent Reg.SMK_TXSTAT 1 tag
  else if d.cmdBusy Reg.SMK_TXSTAT then d.cmdLost Reg.SMK_TXSTAT
  else (d.cmdStart Reg.SMK_TXSTAT 1 tag).sendStart

/-- ABORT (R399): a queued SEND ends at once, one in transmission at the next symbol boundary. -/
def Dev.smkAbort (d : Dev) : Dev :=
  match d.smoke.send, d.smoke.job with
  | some _, _ => (d.updSmoke (fun s => { s with send := none })).sendEnd 0x67 0
  | none, some t =>
    if t.page.isSome then d
    else if t.keyed then
      (d.updSmoke (fun s => { s with job := some { t with phase := match t.phase with | .cut st => .cut st | _ => .cut 0x67 } })).smkShow
    else (d.smkDrop.sendEnd 0x67 0).smkTurn
  | none, none => d

/-- A write of SMK_TXCMD: an unknown OP completes with BADARG. -/
def Dev.txWrite (d : Dev) (w : Word) : Dev :=
  match getBits w 31 24 with
  | 1 => d.smkSend (getBits w 15 8)
  | 2 => d.smkAbort
  | op => if d.cmdBusy Reg.SMK_TXSTAT then d.cmdLost Reg.SMK_TXSTAT else (d.cmdStart Reg.SMK_TXSTAT op (getBits w 15 8)).sendEnd 3 0

def execSend (tag : Nat) (s : State) : Host.Outcome State Fault Refusal := s.onBlock 13 (fun d => d.smkSend tag)
def execTxAbort (s : State) : Host.Outcome State Fault Refusal := s.onBlock 13 (fun d => d.smkAbort)

/-! ## The synthesiser and the grant (R386, R388, R393, R394) -/

/-- SYNTH_LOCKED: the gate opens, and a transmission that waits for it proceeds. -/
def execSynthLocked (s : State) : Host.Outcome State Fault Refusal :=
  s.onBlock 13 (fun d =>
    if !d.is Reg.SMK_CTL_EN || d.smoke.lock then d
    else
      let d := d.updSmoke (fun s => { s with lock := true, band := false })
      match d.smoke.job with
      | some t => if t.phase = .synth then d.smkSample t else d.smkShow
      | none => d.smkTurn)

/-- A transmission is cut at the next symbol boundary. -/
def Dev.smkCut (d : Dev) (t : SmkTx) (status : Nat) : Dev :=
  match t.phase with
  | .cut _ => d
  | _ => (d.updSmoke (fun s => { s with job := some { t with phase := .cut status } })).smkShow

/-- COEX_GNT_CHANGE: the ball takes a level and keeps it for 200 ns (R393, R394). -/
def execCoexGntChange (level : Bool) (s : State) : Host.Outcome State Fault Refusal :=
  s.onBlock 13 (fun d =>
    if !d.part.hasSmoke then d
    else
      let d := d.updSmoke (fun s => { s with gnt := level })
      if !d.is Reg.SMK_CTL_COEXEN then d
      else match d.smoke.job with
        | none => d
        | some t =>
          if level then (if t.phase = .grant then d.smkKey t else d)
          else if t.keyed && !(t.page.isSome && d.is Reg.SMK_CTL_COEXHOLD) then d.smkCut t 0x64
          else d)

/-- The status of a page's transmission once it has started (R395, R396). -/
def Dev.smkPgStart (d : Dev) (t : SmkTx) : Dev :=
  match t.page with
  | none => d
  | some p =>
    let d := if t.repno = 0 then d.set Reg.SMK_PGSTAT_LAT (min 65535 ((d.now - p.at_) / 1000)) else d
    d.set Reg.SMK_PGSTAT_REPS (min 15 (t.repno + 1))

/-- TX_START: the PA is at full power with the first preamble symbol (R562). -/
def execTxStart (s : State) : Host.Outcome State Fault Refusal :=
  s.onBlock 13 (fun d => match d.smoke.job with
    | none => d
    | some t =>
      if t.phase ≠ .ramp then d
      else
        let d := (d.updSmoke (fun s => { s with job := some { t with phase := .onAir, startAt := d.now } })).smkPgStart t
        d.emit (.smoke t.set d.smoke.pa.1 t.set.pre (d.smkFrame t)))

/-- TX_END: the frame, or what was sent of it, and the ramp down end (R392). -/
def execTxEnd (s : State) : Host.Outcome State Fault Refusal :=
  s.onBlock 13 (fun d => match d.smoke.job with
    | none => d
    | some t => match t.phase with
      | .onAir => d.smkFinish t 0
      | .cut st => d.smkFinish t st
      | _ => d)

/-- What holds a transmission back (R388, R393, R385). -/
def SmkTx.cause (t : SmkTx) : Nat := match t.phase with
  | .grant => 2
  | .duty => 3
  | _ => 1

/-- A transmission that can no longer meet its latest start is late; a repeat is skipped. -/
def Dev.smkLate (d : Dev) (t : SmkTx) (cause : Nat) : Dev :=
  match t.page with
  | some p => if t.repno = 0 then d.pageLate p.log 0 cause else d.skipRepeat t (t.latest - msNs t.gap)
  | none => d.sendEnd 0x60 cause

/-- The last moment from which a start could meet the latest start has come: SMK_TXEN would rise 21 µs before it (R562). -/
def Dev.lateNow (d : Dev) (t : SmkTx) : Bool := decide (t.latest ≤ d.now + 21000)

/-- TXLATE: the held transmission whose last moment has come. -/
def execTxlate (s : State) : Host.Outcome State Fault Refusal :=
  s.onBlock 13 (fun d =>
    match d.smoke.job.filter (fun t => !t.keyed && d.lateNow t) with
    | some t => (d.smkDrop.smkLate t t.cause).smkTurn
    | none => match d.smoke.next.filter d.lateNow with
      | some t => ((d.updSmoke (fun s => { s with next := none })).smkLate t 1).smkTurn
      | none => match d.smoke.send.filter d.lateNow with
        | some t => ((d.updSmoke (fun s => { s with send := none })).smkLate t 4).smkTurn
        | none => d)

/-- SYNTH_UNLOCK (R388): during a transmission the gate closes and it ends with UNLOCK. -/
def execSynthUnlock (s : State) : Host.Outcome State Fault Refusal :=
  s.onBlock 13 (fun d =>
    if !d.is Reg.SMK_CTL_EN then d
    else match d.smoke.job with
      | some t =>
        if t.keyed then (d.raise Reg.SMK_EVT 10).smkFinish t 0x65
        else (d.updSmoke (fun s => { s with lock := false, band := true, job := some { t with phase := if t.phase = .duty then .duty else .synth } })).smkShow
      | none => (d.updSmoke (fun s => { s with lock := false, band := true })).smkShow)

/-- TX_TIMEOUT: the always-on timer reaches the limit (R390). -/
def execTxTimeout (s : State) : Host.Outcome State Fault Refusal :=
  s.onBlock 13 (fun d => match d.smoke.job with
    | none => d
    | some t =>
      if t.keyed ∧ t.txAt + msNs d.smkLimit ≤ d.now then
        ((d.raise Reg.SMK_EVT 9).sootE 2 13 0xA001 t.set.ch).smkFinish t 0x66
      else d)

/-- DUTY_BUCKET_TICK: buckets that have left the window go; a transmission that waits for budget may proceed (R385). -/
def execDutyBucketTick (s : State) : Host.Outcome State Fault Refusal :=
  s.onDev (fun d =>
    let sec := d.now / 1000000000
    let win := d.get Reg.SMK_RGNLIM_WINDOW
    let d := (d.updSmoke (fun s => { s with duty := s.duty.filter (fun c => decide (sec < c.1 % 2 ^ 32 + win)) })).refreshDuty
    match d.smoke.job with
    | some t => if t.phase = .duty && d.dutyFits t then d.smkPrep t else d
    | none => d)

/-- BG_CAL_STEP: a background calibration step begins or ends (R387). None begins while a transmission is queued. -/
def execBgCalStep (start : Bool) (s : State) : Host.Outcome State Fault Refusal :=
  s.onBlock 13 (fun d =>
    if start then
      if d.is Reg.SMK_CTL_EN && d.smoke.lock && d.smoke.job.isNone && d.smoke.next.isNone && d.smoke.send.isNone && !d.smkCal then
        (d.updSmoke (fun s => { s with calStep := true })).smkShow
      else d
    else (d.updSmoke (fun s => { s with calStep := false })).smkShow)

/-- PA_SENSE_TICK: the junction temperature in 0.1 °C and VDD_RF in mV as measured (R389). -/
def execPaSenseTick (temp : Int) (vdd : Nat) (s : State) : Host.Outcome State Fault Refusal :=
  s.onBlock 13 (fun d => if d.is Reg.SMK_CTL_EN then d.updSmoke (fun s => { s with sense := (temp, vdd) }) else d)

/-! ## Receiving (R397, R398) -/

/-- The checks of R397 but the CRC: LEN, VER, SYSID. -/
def Dev.rxOk (d : Dev) (bytes : List Byte) : Bool :=
  ((bytes.getD 1 0).toNat / 16 == 1) && (!d.is Reg.SMK_CTL_RXSYS || beNat ((bytes.drop 2).take 2) == d.get Reg.SYS_DEVID_SYSID)

def rxLenOk (bytes : List Byte) : Bool :=
  let n := (bytes.headD 0).toNat
  decide (12 ≤ n) && decide (n ≤ 127) && bytes.length == n + 1

/-- An accepted frame enters the FIFO (R398). -/
def Dev.rxEnter (d : Dev) (bytes : List Byte) (errs rssi time : Nat) : Dev :=
  let n := d.get Reg.SMK_RXSTAT_COUNT
  if 4 ≤ n then d.raise Reg.SMK_EVT 5
  else
    let e := (d.get Reg.SMK_RXSTAT_HEAD + n) % 4
    let stale := d.smkCal
    let r := if stale then d.smoke.rssi else rssi % 65536
    let ws := [BitVec.ofNat 32 (r * 65536 + errs % 4 * 256 + b2n stale), lo32 time, hi32 time]
      ++ (List.range 32).map (fun i => wordOfBytes (bytes.getD (4 * i) 0) (bytes.getD (4 * i + 1) 0) (bytes.getD (4 * i + 2) 0) (bytes.getD (4 * i + 3) 0))
    let d := ws.zipIdx.foldl (fun d p => d.wr (Reg.SMK_RXFIFO e p.2) p.1) d
    let d := (d.updSmoke (fun s => { s with rssi := r })).set Reg.SMK_RXSTAT_COUNT (n + 1)
    (d.incSat Reg.SMK_CNT0_RXFRAMES 1).raise Reg.SMK_EVT 4

/-- SMOKE_FRAME_RX: a frame of `errs` sync bit errors ends: LEN and the bytes after it, dewhitened, whether its CRC is
valid, its RSSI in 0.1 dBm as 16 bits, and ns since the end of its sync word; or a transmission has cut it (R392). -/
def execSmokeFrameRx (bytes : List Byte) (crcOk : Bool) (errs rssi ago : Nat) (cut : Bool) (s : State) : Host.Outcome State Fault Refusal :=
  s.onBlock 13 (fun d =>
    if cut then (if d.smoke.job.isSome then d.incSat Reg.SMK_CNT1_RXABORT 1 else d)
    else if !d.smkListens || d.get Reg.SMK_RXCFG_SYNCERR < errs || !rxLenOk bytes then d
    else if !crcOk then (d.incSat Reg.SMK_CNT1_CRCERR 1).raise Reg.SMK_EVT 6
    else if d.rxOk bytes then d.rxEnter bytes errs rssi (d.devtime - ago) else d)

/-- A write of SMK_RXPOP (R398). -/
def Dev.rxPop (d : Dev) : Dev :=
  let n := d.get Reg.SMK_RXSTAT_COUNT
  if n = 0 then d
  else (d.set Reg.SMK_RXSTAT_COUNT (n - 1)).set Reg.SMK_RXSTAT_HEAD ((d.get Reg.SMK_RXSTAT_HEAD + 1) % 4)

def execRxpopWrite (s : State) : Host.Outcome State Fault Refusal := s.onBlock 13 (fun d => d.rxPop)

/-! ## The ember (R400 to R404) -/

/-- A sniff or search is skipped or cut by a transmission (R403). -/
def Dev.emberSkip (d : Dev) : Dev := (d.incSat Reg.EMB_CNT_SKIP 1).raise Reg.EMB_EVT 2

/-- EMBER_SNIFF: a sniff measures `level` dBm of carrier (R400). -/
def execEmberSniff (level : Int) (s : State) : Host.Outcome State Fault Refusal :=
  s.onDev (fun d =>
    if !d.is Reg.EMB_CFG_EN || d.is Reg.EMB_STAT_SEARCH || bit (d.rd Reg.RST_BLK) 14 then d
    else if d.smkKeyed then d.emberSkip
    else
      let fem := d.is Reg.EMB_CFG_FEMRX
      let d := if fem then d.drive .smkRxen true else d
      if (d.get Reg.EMB_CFG_THR : Int) - 100 < level then
        let d := d.updSmoke (fun s => { s with pat := d.rd Reg.EMB_PAT, errMax := d.get Reg.EMB_CFG_ERRMAX })
        (d.set Reg.EMB_STAT_SEARCH 1).smkShow
      else d.smkShow)

/-- Bit errors of a run against a pattern. -/
def bitErrors (a b : Word) : Nat := ((List.range 32).filter (fun i => bit (a ^^^ b) i)).length

/-- A match (R402). -/
def Dev.emberMatch (d : Dev) (errs : Nat) : Dev :=
  let d := (d.set Reg.EMB_STAT_ERRS errs).incMod Reg.EMB_STAT_MATCHES 1
  if d.rst.banked ∨ !d.rst.bankSteps.isEmpty then
    if d.is Reg.EMB_CFG_WAKE ∧ d.rst.wake.isNone then
      { d.set Reg.EMB_STAT_WOKE 1 with rst := { d.rst with wake := some 1 } }
    else d
  else (d.wr64 Reg.EMB_TIME_LO Reg.EMB_TIME_HI d.devtime).raise Reg.EMB_EVT 0

/-- A false detection (R400). -/
def Dev.emberFalse (d : Dev) : Dev := (d.incSat Reg.EMB_CNT_FALSEDET 1).raise Reg.EMB_EVT 1

/-- The search ends on a run of 32 bits (R400 to R402). -/
def Dev.emberEnd (d : Dev) (run : Word) : Dev :=
  let errs := bitErrors run d.smoke.pat
  let d := d.set Reg.EMB_STAT_SEARCH 0
  if errs ≤ d.smoke.errMax then (d.emberMatch errs).smkShow else d.emberFalse.smkShow

end Sys2Proof.Machine
end

