-- ==== Sys2Proof/Machine/ResetOps.lean ====
section
/-! DEFINITION. What each reset level and each block reset clears and spares (R466, R477, R479), the assertion of a reset
(R467 to R469), and BANKED's gated domains (R489, R491). -/

namespace Sys2Proof.Machine

/-! ## What a reset leaves -/

/-- Balls held by a block take their state of R479. -/
def Dev.ballsSafe (d : Dev) (bs : List Ball) : Dev := bs.foldl (fun d b => d.drive b (Ball.resetHigh b.code)) d

/-- The balls a SYSTEM reset returns to their state of R479. ATN_N and PWR_EN belong to the always-on domain. -/
def systemBalls : List Ball :=
  [.alertN, .smkTxen, .coexReq, .coexPri, .pllLockf, .ppsOut, .sfpTxdis 0, .sfpTxdis 1, .clkout 0, .clkout 1, .ddrCke 0, .ddrCke 1,
   .ddrCs 0, .ddrCs 1, .ddrCk] ++
    (List.range 3).flatMap (fun b => [.scl b, .sda b])

/-- What a SYSTEM reset leaves of the reset logic's own record. -/
def Rst.spared (r : Rst) : Rst :=
  { aon := r.aon, asserted := r.asserted, stretching := r.stretching, relAt := r.relAt, level := r.level, bad := r.bad, vio := r.vio
    thermal := r.thermal, peak := r.peak, temp := r.temp, fuses := r.fuses, wdAt := r.wdAt, wdLoop := r.wdLoop, clk := r.clk
    banked := r.banked, bankSteps := r.bankSteps, wake := r.wake }

/-- The capture block as power or a reset leaves it: the levels at the BLANK balls are the world's (R98). -/
def Cap.off (c : Cap) : Cap := { blankA := { level := c.blankA.level }, blankB := { level := c.blankB.level } }

/-- The gated domains lose their state; the always-on domain keeps its own (R466, R489). The DRAM's contents are kept only
through BANKED (R299). -/
def Dev.gateOff (d : Dev) (keepDram : Bool) : Dev :=
  let d := d.ballsSafe systemBalls
  { Dev.por with
    part := d.part, now := d.now, free := d.free, out := d.out, balls := d.balls
    spi := { lastErr := d.spi.lastErr, txCount := d.spi.txCount }
    regs := d.regs.filter (fun c => aonReg c.1)
    cap := d.cap.off
    smoke := { pat := d.smoke.pat, errMax := d.smoke.errMax, gnt := d.smoke.gnt, embOld := [Reg.EMB_CFG, Reg.EMB_PAT] }
    fire := { seq := d.fire.seq }
    ash := { dram := if keepDram then d.ash.dram else [], selfRefresh := keepDram }
    target := d.target, rst := d.rst.spared }

/-- A SYSTEM reset (R466). -/
def Dev.systemReset (d : Dev) : Dev := d.gateOff d.rst.banked

/-- A POR (R466): everything, but the fuses and what the world outside holds. -/
def Dev.powerReset (d : Dev) : Dev :=
  let d := d.ballsSafe (systemBalls ++ [.smkRxen, .atnN, .pwrEn, .ddrResetN])
  { Dev.por with
    part := d.part, now := d.now, free := d.free, out := d.out, balls := d.balls, cap := d.cap.off
    smoke := { gnt := d.smoke.gnt }
    rst := { aon := d.rst.aon, bad := d.rst.bad, thermal := d.rst.thermal, peak := d.rst.peak, temp := d.rst.temp
             fuses := d.rst.fuses, relAt := d.rst.relAt, vio := d.rst.vio } }

/-! ## The state a block loses -/

/-- FWT: the table and log cleared, ALERT_N released, the tone ended; the sequence number lives on, and pages in the queue, whose log
entries are gone (R283, R477, R561). -/
def Dev.fwtClear (d : Dev) : Dev :=
  (({ d with fire := { seq := d.fire.seq, pages := d.fire.pages.map (fun (p : SmkPage) => { p with log := 65536 }) } }).drive .alertN true).toneSet 0

/-- Abandons what a CAL command does (R477, R500): nothing is applied. -/
def Dev.calAbandon (d : Dev) : Dev :=
  match d.cal.cmd with
  | some k => (d.calUndo k.block).calEnd 0x17
  | none => d

/-- A rotation or its refresh ends at a reset (R111). -/
def Dev.rotCut (d : Dev) : Dev :=
  match d.cap.rot with
  | none => d
  | some r => match r.phase with
    | .refreshWait | .refreshFirst | .refreshSecond | .refreshApply => d.refreshFail r 0x17
    | _ => d.rotAbandon r 0x17

/-- The ashpit is reset with requests outstanding (R294, R478): in QUIESCED mode they are lost, and their tickets and transfers
stay as they are; behind a wrapper they have ended with ERROR. -/
def Dev.ashOutstanding (d : Dev) (quiet : Bool) : Dev :=
  (List.range d.part.hearths).foldl (fun d h =>
    let x := d.hearth h
    let open_ := (List.range 8).filter (fun t => (x.ash t).any (fun k => k.done.isNone && !k.lost))
    let ti := (x.unit 6).running.filter (fun r => r.cmd.cmd != 0)
    if quiet then
      let d := d.updHearth h (fun x => open_.foldl (fun x t => x.setAsh t ((x.ash t).map (fun k => { k with lost := true }))) x)
      match ti with
      | some r => d.updHearth h (fun x => x.setUnit 6 { x.unit 6 with running := some { r with lost := true } })
      | none => d
    else
      let d := open_.foldl (fun d t => match (x.ash t) with | some k => d.ashServe h t k.desc {} true | none => d) d
      if ti.isSome then d.hobDone h 6 .clean false true {} else d) d

/-- The oven pool is reset (R294, R477, R478): what is queued completes LATE. What the ovens serve is lost with its ticket kept in
QUIESCED mode, and ends with the error response of the wrapper otherwise (log 45). -/
def Dev.ovenOutstanding (d : Dev) (quiet : Bool) : Dev :=
  let busy := d.pool.busy.filterMap (fun (c : Nat × Option OReq) => c.2)
  let d := (d.pool.ldpc ++ d.pool.trellis).foldl (fun (d : Dev) r => d.ovenLate r) d
  let d := if quiet then d else busy.foldl (fun (d : Dev) r => d.ovenReturn r 0x03000000) d
  { d with pool := { testing := d.pool.testing } }

/-- A block's reset is asserted (R477), at once in QUIESCED mode (`quiet`): its registers, and the table's last column. -/
def Dev.blockAssert (d : Dev) (b : Nat) (quiet : Bool) : Dev :=
  let d := match b with
    | 1 => d.fwtClear
    | 2 =>
      let d := (List.range 3).foldl (fun (d : Dev) c => d.setGain c 3 0) d.rotCut
      { d with cap := { d.cap with
          cores := d.cap.cores.map (fun (c : Nat × CapCore) =>
            (c.1, { c.2 with mode := 0, gainNext := none, marked := true, sus := if d.coreState c.1 = 5 then c.2.sus else [] }))
          blankA := { level := d.cap.blankA.level }, blankB := { level := d.cap.blankB.level }, snap := none } }
    | 3 => d.powerRestart
    | 5 => d.ovenOutstanding quiet
    | 7 => ({ d.ashOutstanding quiet with ash := { d.ash with selfRefresh := true, init := none } }).ddrDrive false
    | 8 => { (d.ballsSafe [.sfpTxdis 0, .ppsOut]) with flue := SMap.erase 0 d.flue, ptp := {} }
    | 9 => { (d.ballsSafe [.sfpTxdis 1]) with flue := SMap.erase 1 d.flue }
    | 10 => { d with flue := SMap.erase 2 d.flue }
    | 11 => { d with audio := {} }
    | 12 => d.auxReset
    | 13 => d.smkHalt
    | 14 => (d.set Reg.EMB_STAT_SEARCH 0).smkShow
    | 15 => d.calAbandon
    | 16 => if d.bist.isSome then d.bistAbort 0 else d
    | _ => d
  (d.blockRegs b).settle

/-! ## A block's start at its release (R475 to R477) -/

/-- What a block does with the fields in force when it leaves reset. -/
def Dev.blockStart (d : Dev) (b : Nat) : Dev :=
  match b with
  | 1 => d.fwRefresh
  | 2 => ((d.blankEval 0).blankEval 1).refreshCores
  | 3 => (List.range d.part.lanes).foldl (fun d n => d.grateApplied n 0) d
  | 7 => if d.ready then ({ d with ash := { d.ash with selfRefresh := false } }).ddrDrive true else d
  | 8 => (List.range 128).foldl (fun d e => if d.entOn 0 e then d.entryStart 0 e else d) d
  | 9 => (List.range 128).foldl (fun d e => if d.entOn 1 e then d.entryStart 1 e else d) d
  | 10 =>
    let d := (List.range 128).foldl (fun d e => if d.entOn 2 e then d.entryStart 2 e else d) d
    if d.is Reg.HF_CTL_EN then d.set Reg.HF_CTL_RUN 1 else d
  | 11 => (List.range d.part.audio).foldl (fun d p => d.audApplied p 0) d
  | 13 => d.smkApplied 0 false
  | _ => d

/-! ## A CORE reset (R154, R162, R238, R283, R376, R405, R466) -/

/-- The state a hearth takes at a CORE reset (R154). -/
def Dev.coreHearth (d : Dev) (h : Nat) : Nat :=
  let x := d.hearth h
  let st := d.hstate h
  if st = stUntested then st
  else if st = stTesting then (if x.testKind = 1 then stUntested else if x.before = stRetired then stRetired else stFree)
  else if st = stIsolated ∨ st = stRetired then stRetired
  else stFree

/-- A hearth after a CORE reset: stopped and empty, with its tested and retired status. An isolation it completes is logged as R171
has it. -/
def Dev.hearthCore (d : Dev) (h : Nat) : Dev :=
  let st := d.coreHearth h
  let d := if d.hstate h = stIsolated then
      (d.incSat Reg.SYS_MARGIN_RETIRED 1).sootE 1 (0x80 + h) 0x4002 (d.get (Reg.HST_STAT_CAUSE h) * 2 ^ 24) else d
  let w := putBits (putBits (d.rd (Reg.HST_STAT h)) 31 28 st) 22 15 0
  let d := (d.setHearth h { passed := (d.hearth h).passed }).wr (Reg.HST_STAT h) w
  (d.wr (Reg.HST_LOAD h) (regReset (Reg.HST_LOAD h))).wr (Reg.HST_CERR h) (regReset (Reg.HST_CERR h))

/-- An oven after a CORE reset: a test is abandoned, a retirement kept (R162). -/
def Dev.ovenCore (d : Dev) (k : Nat) : Dev :=
  let w := d.rd (Reg.OVN_OSTAT k)
  let st := match SMap.find? k d.pool.testing with
    | some s => s
    | none => if getBits w 31 28 = 4 then 4 else getBits (regReset (Reg.OVN_OSTAT k)) 31 28
  d.wr (Reg.OVN_OSTAT k) (putBits (mergeMask 0x0F000000 (regReset (Reg.OVN_OSTAT k)) w) 31 28 st)

/-- An address whose register a CORE reset returns to its reset value. The lane chains' pages are the grate's only ones;
HST and OSTAT registers are treated on their own, and the OTP's part of PST_EPOCH stays. -/
def coreReg (a : Nat) : Bool :=
  (decide (0x30000 ≤ a) && decide (a < 0x40000)) || (decide (0x51000 ≤ a) && decide (a < 0x5D000))
    || (decide (0x100000 ≤ a) && decide (a < 0x160000)) || (decide (0x162000 ≤ a) && decide (a < 0x220000) && !(decide (Reg.OVN_OSTAT 0 ≤ a) && decide (a < Reg.OVN_OSTAT 24)))
    || a == Reg.CAL_CMDSTAT || a == Reg.BST_CMDSTAT || a == Reg.BST_RES || a == Reg.SYS_CMTSTAT
    || (decide (Reg.PST_CMD ≤ a) && a != Reg.PST_EPOCH)

/-- The registers and shadows a CORE reset resets; GROUP is kept on every page (R56). -/
def Dev.coreRegs (d : Dev) : Dev :=
  let ks := (d.regs.filter (fun c => coreReg c.1)).map (·.1)
  let d := ks.foldl (fun d a => d.wr a (if a % 0x1000 = 0xFFC ∧ a < 0x360000 then d.rd a &&& 0xF else regReset a)) d
  { d with shadow := d.shadow.filter (fun c => !coreReg c.1) }

/-- A CORE reset (R466). -/
def Dev.coreReset (d : Dev) : Dev :=
  let d := (d.rotCut).calAbandon
  let d := if d.bist.isSome then { d with bist := none } else d
  let d := (List.range d.part.hearths).foldl (fun d h => d.hearthCore h) d
  let d := (List.range 24).foldl (fun d k => d.ovenCore k) d
  let d := d.fwtClear.smkHalt
  let d := { d with
    lanes := [], pool := {}, rolling := {}, chimney := {}, store := {}, commits := [], armed := none
    captures := (d.captures.filter (fun (c : Capture) => !coreReg c.page)).map (fun (c : Capture) => { c with group := none })
    ash := { d.ash with sets := [], nextSet := 0, selfRefresh := d.ready }
    audio := { d.audio with feeds := [] } }
  let d := (if d.ready then d.ddrDrive false else d).coreRegs
  let d := (List.range d.part.lanes).foldl (fun d n => d.refreshAsh n) d
  d.refreshMargin.settle

/-! ## The assertion of a reset (R467 to R469) -/

/-- A cause that persists holds the reset: a supply, the junction temperature (R468, R470). -/
def Dev.causeHolds (d : Dev) : Bool := !d.rst.aon || !d.rst.bad.isEmpty || d.rst.thermal

/-- Watchdog resets of the last 600 s (R484). -/
def Dev.wdRecent (d : Dev) : List Nat := d.rst.wdAt.filter (fun t => decide (d.now < t + 600000000000))

/-- What a cause does to the watchdog's record (R484): the third reset within 600 s records a loop; a host command or a POR
ends it. -/
def Dev.wdCause (d : Dev) (level cause : Nat) : Dev :=
  if cause = 5 then
    let ts := d.now :: d.wdRecent
    { d with rst := { d.rst with wdAt := ts, wdLoop := d.rst.wdLoop || decide (3 ≤ ts.length) } }
  else if level = 3 then { d with rst := { d.rst with wdAt := [], wdLoop := false } }
  else if cause = 4 then { d with rst := { d.rst with wdLoop := false } }
  else d

/-- RST_CAUSE (R467, R469). -/
def Dev.setCause (d : Dev) (level cause detail : Nat) : Dev :=
  d.wr Reg.RST_CAUSE (BitVec.ofNat 32 (level * 2 ^ 28 + detail % 256 * 65536 + min 255 d.rst.wdAt.length * 256 + cause))

/-- A programming cut short leaves its word with a value the manual does not give. -/
def Dev.otpCut (d : Dev) : Dev := match d.rst.otpProg with
  | some (i, _) =>
    let (w, d) := d.fresh
    { d with rst := { d.rst with fuses := SMap.put 0 d.rst.fuses i w, otpProg := none } }
  | none => d

/-- The levels' own effects. -/
def Dev.levelReset (d : Dev) (level : Nat) : Dev := match level with
  | 1 => d.coreReset
  | 2 => d.otpCut.systemReset
  | _ => d.otpCut.powerReset

/-- Reset is asserted, or kindling has not ended. -/
def Dev.inReset (d : Dev) : Bool := d.rst.asserted || !d.rst.steps.isEmpty

/-- A reset source fires (R467 to R469): the higher level, the newer cause, a stretch and a kindling from their start. -/
def Dev.resetAssert (d : Dev) (level cause detail : Nat) : Dev :=
  let level := if d.inReset then max level d.rst.level else level
  let host := d.rst.host
  let d := if d.rst.banked then d.drive .pwrEn true else d
  let d := (d.wdCause level cause).levelReset level
  let d := d.setCause level cause detail
  let d := ((d.set Reg.RST_STAT_STATE 1).set Reg.RST_STAT_KSTEP 0).setI Reg.RST_STAT_TEMP d.rst.temp
  let d := { d with rst := { d.rst with
    asserted := true, stretching := !d.causeHolds, level := level, romBad := false
    steps := if level = 1 then [1, 4, 6, 7] else [1, 2, 3, 4, 5, 6, 7]
    bankSteps := [], banked := false, wake := none
    host := decide (level = 1) && host } }
  (if level = 1 then d else d.smkShow).drive .resetN false

/-- A wake (R492): latched during entry, else PWR_EN rises and a full kindling follows. -/
def Dev.wakeUp (d : Dev) (detail : Nat) : Dev :=
  if d.rst.banked then d.resetAssert 2 8 detail
  else if !d.rst.bankSteps.isEmpty ∧ d.rst.wake.isNone then { d with rst := { d.rst with wake := some detail } }
  else d

end Sys2Proof.Machine
end

