-- ==== Sys2Proof/Machine/Crypto.lean ====
section
/-! DEFINITION. The two standards the program store's checks cite (R246, R247): SHA-256, and Ed25519 verification (RFC 8032,
PureEdDSA) with the SHA-512 it uses. -/

namespace Sys2Proof.Machine

/-! ## SHA-2 -/

/-- Round constants 0 to 15 of SHA-512; SHA-256 takes the upper halves of the first 64. -/
def shaK0 : List Nat :=
  [0x428A2F98D728AE22, 0x7137449123EF65CD, 0xB5C0FBCFEC4D3B2F, 0xE9B5DBA58189DBBC,
   0x3956C25BF348B538, 0x59F111F1B605D019, 0x923F82A4AF194F9B, 0xAB1C5ED5DA6D8118,
   0xD807AA98A3030242, 0x12835B0145706FBE, 0x243185BE4EE4B28C, 0x550C7DC3D5FFB4E2,
   0x72BE5D74F27B896F, 0x80DEB1FE3B1696B1, 0x9BDC06A725C71235, 0xC19BF174CF692694]

/-- Round constants 16 to 31 of SHA-512; SHA-256 takes the upper halves of the first 64. -/
def shaK1 : List Nat :=
  [0xE49B69C19EF14AD2, 0xEFBE4786384F25E3, 0x0FC19DC68B8CD5B5, 0x240CA1CC77AC9C65,
   0x2DE92C6F592B0275, 0x4A7484AA6EA6E483, 0x5CB0A9DCBD41FBD4, 0x76F988DA831153B5,
   0x983E5152EE66DFAB, 0xA831C66D2DB43210, 0xB00327C898FB213F, 0xBF597FC7BEEF0EE4,
   0xC6E00BF33DA88FC2, 0xD5A79147930AA725, 0x06CA6351E003826F, 0x142929670A0E6E70]

/-- Round constants 32 to 47 of SHA-512; SHA-256 takes the upper halves of the first 64. -/
def shaK2 : List Nat :=
  [0x27B70A8546D22FFC, 0x2E1B21385C26C926, 0x4D2C6DFC5AC42AED, 0x53380D139D95B3DF,
   0x650A73548BAF63DE, 0x766A0ABB3C77B2A8, 0x81C2C92E47EDAEE6, 0x92722C851482353B,
   0xA2BFE8A14CF10364, 0xA81A664BBC423001, 0xC24B8B70D0F89791, 0xC76C51A30654BE30,
   0xD192E819D6EF5218, 0xD69906245565A910, 0xF40E35855771202A, 0x106AA07032BBD1B8]

/-- Round constants 48 to 63 of SHA-512; SHA-256 takes the upper halves of the first 64. -/
def shaK3 : List Nat :=
  [0x19A4C116B8D2D0C8, 0x1E376C085141AB53, 0x2748774CDF8EEB99, 0x34B0BCB5E19B48A8,
   0x391C0CB3C5C95A63, 0x4ED8AA4AE3418ACB, 0x5B9CCA4F7763E373, 0x682E6FF3D6B2B8A3,
   0x748F82EE5DEFB2FC, 0x78A5636F43172F60, 0x84C87814A1F0AB72, 0x8CC702081A6439EC,
   0x90BEFFFA23631E28, 0xA4506CEBDE82BDE9, 0xBEF9A3F7B2C67915, 0xC67178F2E372532B]

/-- Round constants 64 to 79 of SHA-512; SHA-256 takes the upper halves of the first 64. -/
def shaK4 : List Nat :=
  [0xCA273ECEEA26619C, 0xD186B8C721C0C207, 0xEADA7DD6CDE0EB1E, 0xF57D4F7FEE6ED178,
   0x06F067AA72176FBA, 0x0A637DC5A2C898A6, 0x113F9804BEF90DAE, 0x1B710B35131C471B,
   0x28DB77F523047D84, 0x32CAAB7B40C72493, 0x3C9EBE0A15C9BEBC, 0x431D67C49C100D4C,
   0x4CC5D4BECB3E42B6, 0x597F299CFC657E2A, 0x5FCB6FAB3AD6FAEC, 0x6C44198C4A475817]

/-- Initial hash words of SHA-512; SHA-256 takes their upper halves. -/
def shaH : List Nat :=
  [0x6A09E667F3BCC908, 0xBB67AE8584CAA73B, 0x3C6EF372FE94F82B, 0xA54FF53A5F1D36F1,
   0x510E527FADE682D1, 0x9B05688C2B3E6C1F, 0x1F83D9ABFB41BD6B, 0x5BE0CD19137E2179]

/-- All round constants. -/
def shaK : List Nat := shaK0 ++ shaK1 ++ shaK2 ++ shaK3 ++ shaK4

/-- The two members of the family: word width, and the rotation and shift amounts of its six functions. -/
structure ShaKind where
  w : Nat
  big0 : Nat × Nat × Nat
  big1 : Nat × Nat × Nat
  small0 : Nat × Nat × Nat
  small1 : Nat × Nat × Nat

def sha256Kind : ShaKind := ⟨32, (2, 13, 22), (6, 11, 25), (7, 18, 3), (17, 19, 10)⟩
def sha512Kind : ShaKind := ⟨64, (28, 34, 39), (14, 18, 41), (1, 8, 7), (19, 61, 6)⟩

def ShaKind.rotr (k : ShaKind) (n x : Nat) : Nat := x / 2 ^ n + x % 2 ^ n * 2 ^ (k.w - n)
def ShaKind.big (k : ShaKind) (r : Nat × Nat × Nat) (x : Nat) : Nat := (k.rotr r.1 x).xor ((k.rotr r.2.1 x).xor (k.rotr r.2.2 x))
def ShaKind.small (k : ShaKind) (r : Nat × Nat × Nat) (x : Nat) : Nat := (k.rotr r.1 x).xor ((k.rotr r.2.1 x).xor (x / 2 ^ r.2.2))

/-- The message schedule: the last sixteen words, oldest first, and the words still to make. -/
def ShaKind.schedule (k : ShaKind) : Nat → List Nat → List Nat
  | 0, ws => ws
  | n + 1, ws =>
    let w := (k.small k.small1 (ws.getD 14 0) + ws.getD 9 0 + k.small k.small0 (ws.getD 1 0) + ws.getD 0 0) % 2 ^ k.w
    ws.headD 0 :: k.schedule n (ws.drop 1 ++ [w])

/-- The eight working words. -/
structure ShaRegs where
  a : Nat
  b : Nat
  c : Nat
  d : Nat
  e : Nat
  f : Nat
  g : Nat
  h : Nat

/-- One round on a round constant and a schedule word. -/
def ShaKind.round (k : ShaKind) (r : ShaRegs) (x : Nat × Nat) : ShaRegs :=
  let ch := (r.e.land r.f).xor ((2 ^ k.w - 1 - r.e).land r.g)
  let maj := (r.a.land r.b).xor ((r.a.land r.c).xor (r.b.land r.c))
  let t1 := r.h + k.big k.big1 r.e + ch + x.1 + x.2
  let t2 := k.big k.big0 r.a + maj
  ⟨(t1 + t2) % 2 ^ k.w, r.a, r.b, r.c, (r.d + t1) % 2 ^ k.w, r.e, r.f, r.g⟩

/-- One block taken into the hash words. -/
def ShaKind.block (k : ShaKind) (h : List Nat) (bs : List Byte) : List Nat :=
  let rounds := if k.w = 32 then 64 else 80
  let ws := (List.range 16).map (fun i => beNat ((bs.drop (i * (k.w / 8))).take (k.w / 8)))
  let ks := (shaK.take rounds).map (fun c => c / 2 ^ (64 - k.w))
  let g := fun (i : Nat) => h.getD i 0
  let r := (ks.zip (k.schedule (rounds - 16) ws)).foldl k.round ⟨g 0, g 1, g 2, g 3, g 4, g 5, g 6, g 7⟩
  (h.zip [r.a, r.b, r.c, r.d, r.e, r.f, r.g, r.h]).map (fun p => (p.1 + p.2) % 2 ^ k.w)

/-- Every block of a padded message. -/
def ShaKind.blocks (k : ShaKind) : Nat → List Nat → List Byte → List Nat
  | 0, h, _ => h
  | n + 1, h, bs => k.blocks n (k.block h (bs.take (2 * k.w))) (bs.drop (2 * k.w))

/-- The digest of a message. -/
def ShaKind.digest (k : ShaKind) (m : List Byte) : List Byte :=
  let unit := 2 * k.w
  let used := m.length + 1 + k.w / 4
  let n := (used + unit - 1) / unit
  let padded := m ++ [0x80] ++ List.replicate (n * unit - used) 0 ++ beBytes (k.w / 4) (8 * m.length)
  (k.blocks n (shaH.map (fun x => x / 2 ^ (64 - k.w))) padded).flatMap (beBytes (k.w / 8))

def sha256 (m : List Byte) : List Byte := sha256Kind.digest m
def sha512 (m : List Byte) : List Byte := sha512Kind.digest m

/-! ## Ed25519 (RFC 8032) -/

/-- The field's prime, the group's order and the curve constant. -/
def edP : Nat := 2 ^ 255 - 19
def edL : Nat := 2 ^ 252 + 27742317777372353535851937790883648493

/-- Exponentiation modulo the prime, over the low `n` bits of the exponent. -/
def edPow (b e : Nat) : Nat → Nat
  | 0 => 1
  | n + 1 =>
    let h := edPow b (e / 2) n
    let s := h * h % edP
    if e % 2 = 1 then s * b % edP else s

def edInv (x : Nat) : Nat := edPow x (edP - 2) 255
def edD : Nat := (edP - 121665 * edInv 121666 % edP) % edP

/-- A point in extended coordinates. -/
structure EdPoint where
  x : Nat
  y : Nat
  z : Nat
  t : Nat

def edZero : EdPoint := ⟨0, 1, 1, 0⟩

/-- Addition of points (RFC 8032 section 5.1.4). -/
def edAdd (p q : EdPoint) : EdPoint :=
  let a := (p.y + edP - p.x) * (q.y + edP - q.x) % edP
  let b := (p.y + p.x) * (q.y + q.x) % edP
  let c := p.t * 2 * edD % edP * q.t % edP
  let d := p.z * 2 * q.z % edP
  let e := b + edP - a
  let f := d + edP - c
  let g := d + c
  let h := b + a
  ⟨e * f % edP, g * h % edP, f * g % edP, e * h % edP⟩

/-- A multiple of a point, over the low `n` bits of the factor. -/
def edMul (k : Nat) (p : EdPoint) : Nat → EdPoint
  | 0 => edZero
  | n + 1 =>
    let h := edMul (k / 2) p n
    let d := edAdd h h
    if k % 2 = 1 then edAdd d p else d

/-- A square root of -1. -/
def edI : Nat := edPow 2 ((edP - 1) / 4) 255

/-- The x coordinate of a y with a sign bit; none where no point has them (section 5.1.3). -/
def edX (y sign : Nat) : Option Nat :=
  let u := (y * y + edP - 1) % edP
  let v := (edD * (y * y % edP) + 1) % edP
  let r := u * edPow v 3 2 % edP * edPow (u * edPow v 7 3 % edP) ((edP - 5) / 8) 255 % edP
  let w := v * (r * r % edP) % edP
  let root := if w = u then some r else if w = (edP - u) % edP then some (r * edI % edP) else none
  match root with
  | none => none
  | some x => if x = 0 ∧ sign = 1 then none else if x % 2 = sign then some x else some (edP - x)

/-- A point from its 32 bytes. -/
def edDecode (bs : List Byte) : Option EdPoint :=
  let n := leNat bs
  let y := n % 2 ^ 255
  if edP ≤ y then none
  else (edX y (n / 2 ^ 255)).map (fun x => ⟨x, y, 1, x * y % edP⟩)

/-- The base point: y is 4/5, x even. -/
def edBase : EdPoint :=
  let y := 4 * edInv 5 % edP
  let x := (edX y 0).getD 0
  ⟨x, y, 1, x * y % edP⟩

/-- Two points are one. -/
def edEq (p q : EdPoint) : Bool := p.x * q.z % edP == q.x * p.z % edP && p.y * q.z % edP == q.y * p.z % edP

/-- Verification of a signature by a public key (section 5.1.7): the equation multiplied by the cofactor. -/
def ed25519Ok (key msg sig : List Byte) : Bool :=
  match edDecode key, edDecode (sig.take 32) with
  | some a, some r =>
    let s := leNat (sig.drop 32)
    let k := leNat (sha512 (sig.take 32 ++ key ++ msg)) % edL
    decide (s < edL) &&
      edEq (edMul 8 (edMul s edBase 253) 4) (edMul 8 (edAdd r (edMul k a 253)) 4)
  | _, _ => false

end Sys2Proof.Machine
end

