-- ==== Sys2Proof/Machine/Store.lean ====
section
/-! DEFINITION. The program store and the Smihild image (R238 to R250, R266): the checks of VERIFY, the PST commands, and
the host's writes to the window and to a lane's mailbox (R227). -/

namespace Sys2Proof.Machine

/-! ## The image as bytes (R243 to R246) -/

def at8 (img : List Byte) (o : Nat) : Nat := (img.getD o 0).toNat
def at16 (img : List Byte) (o : Nat) : Nat := at8 img o + 256 * at8 img (o + 1)
def at32 (img : List Byte) (o : Nat) : Nat := at16 img o + 65536 * at16 img (o + 2)

/-- The bytes from an offset are all zero. -/
def zeroFrom (img : List Byte) (o n : Nat) : Bool := ((img.drop o).take n).all (· == 0)

/-- SIZE is a multiple of 4 within its range (R243). -/
def imgSizeOk (img : List Byte) : Bool :=
  let n := at32 img 0x10
  n % 4 == 0 && decide (324 ≤ n) && decide (n ≤ 1048576)

/-- The standard codes of R254, with 0x00 for any. -/
def stdCodes : List Nat := [0x00, 0x01, 0x02, 0x03, 0x10, 0x20, 0x21, 0x30, 0x40, 0x41]

/-- Check 2 for the descriptor: its values in range for TYPE 1, all zero with the entries otherwise (R243, R247). -/
def imgDescOk (img : List Byte) : Bool :=
  if at8 img 5 = 1 then
    let rho := at8 img 0x32
    let bk := at16 img 0x38
    let ck := at16 img 0x3A
    stdCodes.contains (at8 img 0x30) && decide (at8 img 0x31 ≤ 1) && decide (24 ≤ rho) && at8 img 0x33 == 0 &&
    decide (50 ≤ bk) && decide (bk ≤ 2000) && decide (1 ≤ ck) && decide (ck ≤ 2000) &&
    at16 img 0x3C == (ck * 16 + rho - 1) / rho + 10 && zeroFrom img 0x44 12
  else zeroFrom img 0x18 6 && zeroFrom img 0x30 32

/-- Check 2 of R247. -/
def imgHeaderOk (img : List Byte) : Bool :=
  img.take 4 == [0x53, 0x4D, 0x48, 0x4C] && at8 img 4 == 1 && decide (1 ≤ at8 img 5) && decide (at8 img 5 ≤ 3) &&
  zeroFrom img 0x06 2 && zeroFrom img 0x0E 2 && zeroFrom img 0x1E 2 && zeroFrom img 0x21 3 && zeroFrom img 0x29 7 &&
  zeroFrom img 0x70 16 &&
  decide (at8 img 0x08 ≤ at8 img 0x09) && decide (at8 img 0x0A ≤ at8 img 0x0B) && decide (at8 img 0x0C ≤ at8 img 0x0D) &&
  decide (at8 img 0x28 ≤ 2) && (at8 img 0x28 == 2 || zeroFrom img 0x50 32) && imgDescOk img &&
  (at8 img 0x28 != 0 || !imgSizeOk img || zeroFrom img (at32 img 0x10 - 64) 64)

/-- The section entries of an image. -/
def imgSections (img : List Byte) : List Sec :=
  (List.range (at8 img 0x20)).map (fun i =>
    let o := 0x80 + 16 * i
    ⟨at8 img o, at32 img (o + 4), at32 img (o + 8), at32 img (o + 12)⟩)

/-- Two spans of bytes do not meet. -/
def apart (a n b m : Nat) : Bool := decide (a + n ≤ b) || decide (b + m ≤ a)

/-- No two of a list of spans meet. -/
def allApart : List (Nat × Nat) → Bool
  | [] => true
  | x :: xs => xs.all (fun y => apart x.1 x.2 y.1 y.2) && allApart xs

/-- An entry of the section table (R245). -/
def secOk (size : Nat) (x : Sec) : Bool :=
  decide (1 ≤ x.kind) && decide (x.kind ≤ 4) && x.len % 4 == 0 && x.len != 0 &&
  (if x.kind = 3 then x.off == 0
   else x.off % 4 == 0 && decide (0x100 ≤ x.off) && decide (x.off + x.len ≤ size - 64))

/-- The sections of a lane program (R245). -/
def laneShape (img : List Byte) (ss : List Sec) : Bool :=
  match ss.filter (fun x => x.kind == 1) with
  | [t] =>
    t.addr == 0 && decide (t.len ≤ 16384) &&
    ss.all (fun x => x.kind != 4 && (x.kind == 1 || decide (x.addr + x.len ≤ 0x8000))) &&
    allApart ((ss.filter (fun x => x.kind == 2 || x.kind == 3)).map (fun x => (x.addr, x.len))) &&
    [0x18, 0x1A, 0x1C].all (fun o => at16 img o % 4 == 0 && decide (at16 img o < t.len))
  | _ => false

/-- The sections of mantel firmware (R480). -/
def mantelShape (ss : List Sec) : Bool :=
  (ss.filter (fun x => x.kind == 1)).length == 1 && ss.all (fun x => x.kind != 4 && decide (x.addr + x.len ≤ 0x80000))

/-- The section table of an image whose SIZE is in range (R245, R480). -/
def imgTableOk (img : List Byte) : Bool :=
  let n := at8 img 0x20
  let ss := imgSections img
  decide (1 ≤ n) && decide (n ≤ 8) && zeroFrom img (0x80 + 16 * n) (128 - 16 * n) &&
  (List.range n).all (fun i => zeroFrom img (0x81 + 16 * i) 3) &&
  ss.all (secOk (at32 img 0x10)) &&
  allApart ((ss.filter (fun x => x.kind != 3)).map (fun x => (x.off, x.len))) &&
  (if at8 img 5 = 1 then laneShape img ss else if at8 img 5 = 2 then mantelShape ss else true)

/-- Bytes 0 to SIZE − 65, with the CRC field taken as zero (R246). -/
def imgBody (img : List Byte) : List Byte :=
  img.take 0x24 ++ [0, 0, 0, 0] ++ (img.take (at32 img 0x10 - 64)).drop 0x28

def imgCrcOk (img : List Byte) : Bool := (crc32 (imgBody img)).toNat == at32 img 0x24

/-- Check 7 of R247, for a signer's key. -/
def imgSigOk (img : List Byte) : Bool :=
  let n := at32 img 0x10 - 64
  let key := if at8 img 0x28 = 1 then Config.vendorKey else (img.drop 0x50).take 32
  at8 img 0x28 == 0 || ed25519Ok key (img.take n) ((img.drop n).take 64)

/-- Slots an image takes (R238). -/
def imgSpan (img : List Byte) : Nat := (at32 img 0x10 + 32767) / 32768

/-- The OTP development bit in use (R248). -/
def Dev.otpDev (d : Dev) : Bool := d.is Reg.PST_EPOCH_DEV

/-- The customer key hash of OTP as 32 bytes; an unprogrammed one matches no key (R248, R486). -/
def Dev.ckHash (d : Dev) : List Byte := (List.range 8).flatMap (fun i => wordBytes (d.rd (Reg.OTP_WORD (4 + i))))
def Dev.keyHashOk (d : Dev) (key : List Byte) : Bool := d.ckHash.any (· != 0) && sha256 key == d.ckHash

/-- Check 6 of R247: 0 where it passes. -/
def Dev.signerStatus (d : Dev) (img : List Byte) : Nat :=
  if at8 img 0x28 = 0 then (if d.otpDev then 0 else 0x44)
  else if at8 img 0x28 = 2 then (if d.keyHashOk ((img.drop 0x50).take 32) then 0 else 0x45)
  else 0

/-! ## VERIFY and ERASE -/

/-- The bytes of an image from its first slot on: its header and the SIZE the header gives, within the window (R244). -/
def Dev.slotBytes (d : Dev) (k : Nat) : List Byte :=
  let size := (Memory.readWord d.store.mem (k * 0x8000 + 0x10)).toNat
  Memory.readList d.store.mem (k * 0x8000) (min (max 0x100 size) ((64 - k) * 0x8000))

/-- The status of checks 2 to 7 of R247 on slot `k`. -/
def Dev.verifyStatus (d : Dev) (k : Nat) : Nat :=
  let img := d.slotBytes k
  if !imgHeaderOk img then 0x40
  else if !imgSizeOk img || decide (64 < k + imgSpan img) || !imgTableOk img then 0x41
  else if (List.range (imgSpan img - 1)).any (fun i => d.slotState (k + 1 + i) != 1) then 0x42
  else if !imgCrcOk img then 0x43
  else if d.signerStatus img ≠ 0 then d.signerStatus img
  else if !imgSigOk img then 0x46
  else 0

/-- The word of PST_SLOT from STATE, TYPE, SIGNER, STD and STATUS; PIN and LANES follow from the lanes (R242). -/
def slotWord (st ty sg std status : Nat) : Word :=
  BitVec.ofNat 32 (st * 2 ^ 28 + ty * 2 ^ 26 + sg * 2 ^ 24 + std * 2 ^ 8 + status)

/-- A slot's word set. -/
def Dev.setSlot (d : Dev) (k : Nat) (w : Word) : Dev := (d.wr (Reg.PST_SLOT k) w).refreshSlot k

/-- An image passes VERIFY (R247): VALID, CONT, and the mirror. -/
def Dev.verifyPass (d : Dev) (k : Nat) : Dev :=
  let img := d.slotBytes k
  let n := imgSpan img
  let ty := at8 img 5
  let d := { d with store := { d.store with
    mirror := Memory.paste d.store.mirror (k * 0x8000) (n * 0x8000) (Memory.window d.store.mem (k * 0x8000) (n * 0x8000) (k * 0x8000)) } }
  let d := d.setSlot k (slotWord 2 ty (at8 img 0x28) (if ty = 1 then at8 img 0x30 else 0) 0)
  (List.range (n - 1)).foldl (fun d i => d.set (Reg.PST_SLOT_STATE (k + 1 + i)) 5) d

/-- VERIFY ends on slot `k`. -/
def Dev.verifyEnd (d : Dev) (k : Nat) : Dev :=
  let st := d.verifyStatus k
  let d := if st = 0 then d.verifyPass k else d.setSlot k (slotWord 3 0 0 0 st)
  (d.cmdEnd Reg.PST_CMDSTAT st).raise Reg.PST_EVT 0

/-- ERASE ends: its slots are EMPTY and zero, the mirror's too. -/
def Dev.eraseEnd (d : Dev) : Dev :=
  let ks := d.store.erasing
  let d := { d with store := { d.store with
    mem := ks.foldl (fun m k => Memory.clear m (k * 0x8000) 0x8000) d.store.mem
    mirror := ks.foldl (fun m k => Memory.clear m (k * 0x8000) 0x8000) d.store.mirror
    erasing := [] } }
  let d := ks.foldl (fun d k => d.setSlot k 0) d
  (d.cmdEnd Reg.PST_CMDSTAT 0).raise Reg.PST_EVT 0

/-- A PST command that ends at its write. -/
def Dev.pstDone (d : Dev) (op tag st : Nat) : Dev := (d.cmdDone Reg.PST_CMDSTAT op tag st).raise Reg.PST_EVT 0

/-- VERIFY (R247, R266): check 1 at the write. -/
def Dev.verify (d : Dev) (slot tag : Nat) : Dev :=
  if d.cmdBusy Reg.PST_CMDSTAT then d.cmdLost Reg.PST_CMDSTAT
  else if 63 < slot ∨ (d.slotState slot ≠ 1 ∧ d.slotState slot ≠ 3) then d.pstDone 1 tag 3
  else
    let d := d.cmdStart Reg.PST_CMDSTAT 1 tag
    { d with store := { d.store with cmd := some (1, slot) } }

/-- The slots an ERASE of slot `k` erases (R242): the span of a verified image, else the slot. -/
def Dev.eraseSpan (d : Dev) (k : Nat) : List Nat :=
  if d.slotState k = 2 ∨ d.slotState k = 4 then (List.range (imgSpan (d.slotBytes k))).map (k + ·) else [k]

/-- ERASE (R242). -/
def Dev.erase (d : Dev) (slot tag : Nat) : Dev :=
  if d.cmdBusy Reg.PST_CMDSTAT then d.cmdLost Reg.PST_CMDSTAT
  else if 63 < slot ∨ d.slotState slot = 5 then d.pstDone 2 tag 3
  else if d.is (Reg.PST_SLOT_PIN slot) then d.pstDone 2 tag 7
  else
    let ks := d.eraseSpan slot
    let d := d.cmdStart Reg.PST_CMDSTAT 2 tag
    { d with store := { d.store with cmd := some (2, slot), erasing := ks } }

/-- A write of PST_CMD (R266). -/
def Dev.pstWrite (d : Dev) (w : Word) : Dev :=
  match getBits w 31 24 with
  | 1 => d.verify (getBits w 23 16) (getBits w 15 8)
  | 2 => d.erase (getBits w 23 16) (getBits w 15 8)
  | op => if d.cmdBusy Reg.PST_CMDSTAT then d.cmdLost Reg.PST_CMDSTAT else d.pstDone op (getBits w 15 8) 3

def execVerify (slot tag : Nat) (s : State) : Host.Outcome State Fault Refusal := s.onDev (fun d => d.verify slot tag)
def execErase (slot tag : Nat) (s : State) : Host.Outcome State Fault Refusal := s.onDev (fun d => d.erase slot tag)

/-- PST_COMMAND_COMPLETE: the command that runs finishes. -/
def execPstCommandComplete (s : State) : Host.Outcome State Fault Refusal :=
  s.onDev (fun d => match d.store.cmd with
    | none => d
    | some (op, k) =>
      let d := { d with store := { d.store with cmd := none } }
      if op = 1 then d.verifyEnd k else d.eraseEnd)

/-! ## The window and the mailbox -/

/-- A write to the program store at a word's offset, by byte enables (R14, R240). -/
def Dev.storeWrite (d : Dev) (off : Nat) (w : Word) (be : BitVec 4) : Dev :=
  let k := off / 0x8000
  let a := off / 4 * 4
  if 63 < k ∨ be = 0 then d
  else
    let st := d.slotState k
    if st = 2 ∨ st = 4 ∨ st = 5 then (d.raise Reg.PST_EVT 1).sootE 1 0x11 0xD001 k
    else
      let m := Memory.writeWord d.store.mem a (mergeMask (byteMask be) (Memory.readWord d.store.mem a) w)
      ({ d with store := { d.store with mem := m } }).set (Reg.PST_SLOT_STATE k) 1

/-- A read of the program store: the stored bytes in every state (R240), free ones while the slot is erased (R242). -/
def Dev.storeRead (d : Dev) (off : Nat) : Word × Dev :=
  if d.store.erasing.contains (off / 0x8000) then d.fresh else (Memory.readWord d.store.mem (off / 4 * 4), d)

def execProgramStoreWrite (off : Nat) (w : Word) (be : BitVec 4) (s : State) : Host.Outcome State Fault Refusal :=
  s.onDev (fun d => d.storeWrite off w be)

/-- A host write to the inbound mailbox of lane `n`, at an offset of the lane window (R227). -/
def Dev.mboxWrite (d : Dev) (n off : Nat) (w : Word) : Dev :=
  if d.part.lanes ≤ n ∨ off < 0x400 ∨ 0x600 ≤ off then d
  else
    let d := d.wr (Reg.LANE_MBIN n ((off - 0x400) / 4)) w
    if off / 4 = 0x100 then
      match d.bound n with
      | some h => d.updHearth h (fun x => { x with hin := true })
      | none => d
    else d

def execHostMailboxWrite (n off : Nat) (w : Word) (s : State) : Host.Outcome State Fault Refusal :=
  s.onDev (fun d => d.mboxWrite n off w)

end Sys2Proof.Machine
end

