-- ==== Sys2Proof/Machine/Clocks.lean ====
section
/-! DEFINITION. The root PLL and its references, holdover and switch-in, phase steppers, and the steering of DEVTIME
(chapter 14). -/

namespace Sys2Proof.Machine

def Dev.updClk (d : Dev) (f : Clk → Clk) : Dev := { d with clk := f d.clk }

/-- A change of a field of CLK_STAT is an event (R83). -/
def Dev.clkWatch (d : Dev) (f : Dev → Dev) : Dev :=
  let e := f d
  if e.rd Reg.CLK_STAT = d.rd Reg.CLK_STAT then e else e.raise Reg.SYS_EVT 9

def Dev.clkEvt (d : Dev) (b : Nat) : Dev := d.raise Reg.CLK_EVT b

/-! ## REALIGN's end, holdover and switch-in (R443 to R451) -/

/-- A REALIGN in progress stops with status ABORTED (R450). -/
def Dev.realignCut (d : Dev) : Dev :=
  if d.clk.realign then
    let d := (d.updClk (fun c => { c with realign := false })).set Reg.CLK_STAT_SLEW 0
    (if d.get Reg.CLK_CMDSTAT_OP = 2 then d.set Reg.CLK_CMDSTAT_STATUS 0x17 else d).clkEvt 7
  else d

/-- Holdover has no source it may use (R451). -/
def Dev.noSource (d : Dev) : Bool := d.get Reg.CLK_CFG_REFMODE != 0 || !d.is Reg.CLK_STAT_XO

/-- NOREF, once (R451). -/
def Dev.checkNoref (d : Dev) : Dev :=
  if d.is Reg.CLK_STAT_HOLDOVER && d.noSource && !d.is Reg.CLK_STAT_NOREF then
    ((d.set Reg.CLK_STAT_NOREF 1).clkEvt 3).sootE 2 0 0x2003 0
  else d

/-- The source in use is lost (R443 to R445, R449): holdover at the frequency reached. -/
def Dev.sourceLost (d : Dev) : Dev :=
  if d.get Reg.CLK_STAT_REFSEL = 0 then d
  else
    let d := d.realignCut
    let d := if d.get Reg.CLK_STAT_REFSEL = 1 then d.set Reg.CLK_STAT_REFOK 0 else d
    let d := ((d.set Reg.CLK_STAT_HOLDOVER 1).set Reg.CLK_STAT_REFSEL 0).set Reg.CLK_STAT_SLEW 0
    ((d.updClk (fun c => { c with blanked := 0 })).clkEvt 0).checkNoref

/-- A switch-in to a source, 1 REF_IN or 2 the XO, which absorbs an offset (R448). -/
def Dev.switchIn (d : Dev) (src : Nat) (abs : Int) : Dev :=
  let d := d.realignCut
  let d := (d.setI ⟨Reg.CLK_BOUT, 31, 0⟩ abs).setI ⟨Reg.CLK_BOABS, 31, 0⟩ abs
  let d := ((d.set Reg.CLK_STAT_REFSEL src).set Reg.CLK_STAT_HOLDOVER 0).set Reg.CLK_STAT_SLEW 1
  let d := (d.set Reg.CLK_STAT_NOREF 0).incSat Reg.CLK_CNT_SWITCHES 1
  d.clkEvt (if src = 1 then 1 else 2)

/-- The root PLL runs: kindling has locked it. -/
def Dev.rootOn (d : Dev) : Bool := (d.get Reg.RST_STAT_STATE != 1 || d.rst.level == 1) && !d.rst.gated

/-- REF_QUALIFIED: a source qualifies (R430, R434, R446, R451): `xo` names it, `abs` is the offset a switch-in to it
absorbs. -/
def Dev.qualified (d : Dev) (xo : Bool) (abs : Int) : Dev :=
  let mode := d.get Reg.CLK_CFG_REFMODE
  if xo then
    if d.is Reg.CLK_STAT_HOLDOVER && d.is Reg.CLK_STAT_XO && (mode == 2 || (mode == 0 && d.is Reg.CLK_STAT_NOREF)) then d.switchIn 2 abs
    else d
  else
    let d := d.set Reg.CLK_STAT_REFOK 1
    if mode ≠ 2 ∧ d.get Reg.CLK_STAT_REFSEL ≠ 1 then d.switchIn 1 abs else d

def execRefQualified (xo : Bool) (abs : Int) (s : State) : Host.Outcome State Fault Refusal :=
  s.onDev (fun d => if d.rootOn then d.clkWatch (fun d => d.qualified xo abs) else d)

/-- REF_MEASURE: the 10 ms measurement of REF_IN (R430, R444): its offset in 0.001 ppm, none without edges; `wrong` that the
edges have the frequency the strap does not name. -/
def Dev.refMeasure (d : Dev) (offset : Option Int) (wrong : Bool) : Dev :=
  let out : Bool := match offset with | some o => decide (200000 < o.natAbs) | none => true
  let d := match offset with
    | some o => ((d.set Reg.CLK_REFMEAS_VALID 1).set Reg.CLK_REFMEAS_VSXO (d.get Reg.CLK_STAT_XO)).setI Reg.CLK_REFMEAS_OFFSET
        (clampI (-(2 ^ 29)) (2 ^ 29 - 1) o)
    | none => d.set Reg.CLK_REFMEAS_VALID 0
  let d := if wrong ∧ (d.clk.badAt = 0 ∨ d.clk.badAt - 1 + 60000000000 ≤ d.now) then
      (d.updClk (fun c => { c with badAt := d.now + 1 })).clkEvt 13
    else d
  let d := if out then d.set Reg.CLK_STAT_REFOK 0 else d
  if out ∧ d.get Reg.CLK_STAT_REFSEL = 1 then d.sourceLost else d

def execRefMeasure (offset : Option Int) (wrong : Bool) (s : State) : Host.Outcome State Fault Refusal :=
  s.onDev (fun d => if d.rootOn then d.clkWatch (fun d => d.refMeasure offset wrong) else d)

/-- REF_LOST: four comparisons in a row were blanked (R443). -/
def execRefLost (s : State) : Host.Outcome State Fault Refusal :=
  s.onDev (fun d => if d.rootOn then d.clkWatch (fun d => d.sourceLost) else d)

/-- HOLDOVER_EXPIRY: HOLDMAX has run out (R445); `abs` is the offset absorbed. -/
def execHoldoverExpiry (abs : Int) (s : State) : Host.Outcome State Fault Refusal :=
  s.onDev (fun d =>
    if d.is Reg.CLK_STAT_HOLDOVER && d.get Reg.CLK_CFG_REFMODE == 0 && d.is Reg.CLK_STAT_XO then d.clkWatch (fun d => d.switchIn 2 abs)
    else d)

/-- FREQ_SLEW_DONE: the frequency difference is below 0.001 ppm, with `b` the build-out reached (R448). -/
def execFreqSlewDone (b : Int) (s : State) : Host.Outcome State Fault Refusal :=
  s.onDev (fun d =>
    if d.is Reg.CLK_STAT_SLEW && !d.clk.realign then
      d.clkWatch (fun d => ((d.setI ⟨Reg.CLK_BOUT, 31, 0⟩ b).set Reg.CLK_STAT_SLEW 0).clkEvt 6)
    else d)

/-- XO_FAIL (R431): a root that follows the XO loses its source. -/
def Dev.xoFail (d : Dev) : Dev :=
  let d := ((d.set Reg.CLK_STAT_XO 0).clkEvt 5).sootE 1 0 0x2002 0
  if d.get Reg.CLK_STAT_REFSEL = 2 then d.sourceLost else d.checkNoref

def execXoFail (s : State) : Host.Outcome State Fault Refusal :=
  s.onDev (fun d => if d.rootOn && d.is Reg.CLK_STAT_XO then d.clkWatch (fun d => d.xoFail) else d)

/-- XO_RECOVERED (R431). -/
def execXoRecovered (s : State) : Host.Outcome State Fault Refusal :=
  s.onDev (fun d => if d.rootOn then d.clkWatch (fun d => d.set Reg.CLK_STAT_XO 1) else d)

/-- LOCK_CHANGE: the comparator on PLL_LOCKS crosses a threshold (R436, R437). The detector is frozen in holdover. -/
def Dev.lockChange (d : Dev) (up : Bool) : Dev :=
  if d.is Reg.CLK_STAT_LOCK = up then d
  else
    let d := (d.set Reg.CLK_STAT_LOCK (b2n up)).drive .pllLockf up
    if up then d else (d.clkEvt 12).sootE 2 0 0x2001 0

def execLockChange (up : Bool) (s : State) : Host.Outcome State Fault Refusal :=
  s.onDev (fun d => if d.rootOn && !d.is Reg.CLK_STAT_HOLDOVER then d.clkWatch (fun d => d.lockChange up) else d)

/-- CORELOCK_LOSS: CORELOCK has been 0 for 1 µs after kindling (R440). -/
def execCorelockLoss (s : State) : Host.Outcome State Fault Refusal :=
  s.onDev (fun d =>
    if d.inReset || d.rst.banked then d
    else (d.clkWatch (fun d => d.set Reg.CLK_STAT_CORELOCK 0)).resetAssert 2 7 0)

/-- PHASE_COMPARISON: one comparison of the source in use (R442, R443). -/
def Dev.comparison (d : Dev) (c : Comparison) : Dev :=
  match c with
  | .good => d.updClk (fun k => { k with blanked := 0 })
  | .extra => (d.incSat Reg.CLK_CNT_GLITCH 1).clkEvt 4
  | .blanked =>
    let d := ((d.incSat Reg.CLK_CNT_GLITCH 1).clkEvt 4).updClk (fun k => { k with blanked := k.blanked + 1 })
    if 4 ≤ d.clk.blanked then d.sourceLost else d

def execPhaseComparison (c : Comparison) (s : State) : Host.Outcome State Fault Refusal :=
  s.onDev (fun d => if d.get Reg.CLK_STAT_REFSEL ≠ 0 then d.clkWatch (fun d => d.comparison c) else d)

/-! ## CLK commands (R450, R458, R459, R463) -/

/-- A CLK command that completes at once with a status. -/
def Dev.clkDone (d : Dev) (op tag st : Nat) : Dev := (d.cmdDone Reg.CLK_CMDSTAT op tag st).clkEvt 11

/-- DEVTIME may be set or stepped (R459). -/
def Dev.timeFree (d : Dev) : Bool := d.lanesOn.isEmpty && d.armed.isNone && d.cap.snap.isNone

/-- CLK_TSTAT shows the slew. -/
def Dev.showSlew (d : Dev) (on : Bool) : Dev :=
  (d.set Reg.CLK_TSTAT_SLEWING (b2n on)).set Reg.CLK_TSTAT_REMAIN (min (2 ^ 30 - 1) (d.clk.left.natAbs / 2 ^ 32))

/-- A DEVTIME slew begins, or replaces the present one; a rate of 0 is CLK_TIMECFG.SLEW. -/
def Dev.slewBy (d : Dev) (ns : Int) (rate : Nat) : Dev :=
  (d.updClk (fun c => { c with left := ns * 2 ^ 32, rate := rate })).showSlew true

/-- A DEVTIME slew stops. -/
def Dev.slewStop (d : Dev) : Dev := (d.updClk (fun c => { c with left := 0 })).showSlew false

def Dev.realign (d : Dev) (tag : Nat) : Dev :=
  if d.is Reg.CLK_STAT_SLEW ∨ d.get Reg.CLK_STAT_REFSEL ≠ 1 then d.clkDone 2 tag 7
  else if d.rd Reg.CLK_BOUT = 0 then (d.clkDone 2 tag 0).clkEvt 7
  else ((d.clkDone 2 tag 0).updClk (fun c => { c with realign := true })).set Reg.CLK_STAT_SLEW 1

def Dev.tset (d : Dev) (tag : Nat) : Dev :=
  if d.get Reg.CLK_TIMECFG_SRC ≠ 0 ∨ !d.timeFree then d.clkDone 3 tag 7
  else (d.clkDone 3 tag 0).updClk (fun c => { c with tset := some (d.rd64 Reg.CLK_TSET_LO Reg.CLK_TSET_HI) })

def Dev.tslew (d : Dev) (tag : Nat) : Dev :=
  let ofs := toSigned 64 (d.rd64 Reg.CLK_TOFS_LO Reg.CLK_TOFS_HI)
  if 1000000000 < ofs.natAbs then d.clkDone 4 tag 3
  else if d.get Reg.CLK_TIMECFG_SRC ≠ 0 then d.clkDone 4 tag 7
  else (d.clkDone 4 tag 0).slewBy ofs 0

def Dev.tstop (d : Dev) (tag : Nat) : Dev := (d.clkDone 5 tag 0).slewStop

/-- A CLK command: discarded with LOST while BUSY (R463). -/
def Dev.clkCmd (d : Dev) (f : Dev → Dev) : Dev :=
  if d.cmdBusy Reg.CLK_CMDSTAT then d.cmdLost Reg.CLK_CMDSTAT else d.clkWatch f

/-- A write of CLK_CMD. -/
def Dev.clkWrite (d : Dev) (w : Word) : Dev :=
  let tag := getBits w 15 8
  match getBits w 31 24 with
  | 2 => d.clkCmd (fun d => d.realign tag)
  | 3 => d.clkCmd (fun d => d.tset tag)
  | 4 => d.clkCmd (fun d => d.tslew tag)
  | 5 => d.clkCmd (fun d => d.tstop tag)
  | op => d.clkCmd (fun d => d.clkDone op tag 3)

def execRealign (tag : Nat) (s : State) : Host.Outcome State Fault Refusal := s.onDev (fun d => d.clkCmd (fun d => d.realign tag))
def execTset (tag : Nat) (s : State) : Host.Outcome State Fault Refusal := s.onDev (fun d => d.clkCmd (fun d => d.tset tag))
def execTslew (tag : Nat) (s : State) : Host.Outcome State Fault Refusal := s.onDev (fun d => d.clkCmd (fun d => d.tslew tag))
def execTstop (tag : Nat) (s : State) : Host.Outcome State Fault Refusal := s.onDev (fun d => d.clkCmd (fun d => d.tstop tag))

/-! ## Phase steppers (R450, R452, R454) -/

/-- The target register of the root (0) or of an output (1, 2). -/
def phaseTarget (k : Nat) : Nat := if k = 0 then Reg.CLK_PHTGT else Reg.CLK_OUT_PH (k - 1)

/-- PHTGT_WRITE: a new phase target; a move in progress goes on towards it. -/
def Dev.phtgtWrite (d : Dev) (k : Nat) (w : Word) : Dev := if k < 3 then d.wr (phaseTarget k) w else d

def execPhtgtWrite (k : Nat) (w : Word) (s : State) : Host.Outcome State Fault Refusal := s.onDev (fun d => d.phtgtWrite k w)

/-- One step towards a target. -/
def stepTo (pos target : Int) : Int := if pos < target then pos + 1 else if target < pos then pos - 1 else pos

/-- A step of an output's phase stepper lengthens the VCO period in progress, or shortens it (R452, R454; log 106). -/
def ClkOut.nudge (o : ClkOut) (longer : Bool) : ClkOut :=
  if o.run then { o with left := if longer then o.left + 1 else o.left - 1 } else o

/-- The position of a stepper. -/
def Dev.phasePos (d : Dev) (k : Nat) : Int :=
  if k = 0 then toSigned 32 (d.rd Reg.CLK_PHASE).toNat else if k = 1 then d.clk.out0 else d.clk.out1

def Dev.setPhase (d : Dev) (k : Nat) (p : Int) : Dev :=
  if k = 0 then d.setI ⟨Reg.CLK_PHASE, 31, 0⟩ p
  else if k = 1 then d.updClk (fun c => { c with out0 := p, co0 := c.co0.nudge (decide (c.out0 < p)) })
  else d.updClk (fun c => { c with out1 := p, co1 := c.co1.nudge (decide (c.out1 < p)) })

/-- A stepper moves one step; at its target the move is over. -/
def Dev.phaseStep (d : Dev) (k : Nat) : Dev :=
  let target := toSigned 32 (d.rd (phaseTarget k)).toNat
  let pos := d.phasePos k
  if pos = target then d
  else
    let d := d.setPhase k (stepTo pos target)
    if stepTo pos target = target then d.clkEvt (if k = 0 then 7 else 8) else d

/-- REALIGN moves B one step towards zero. -/
def Dev.realignStep (d : Dev) : Dev :=
  let b := stepTo (toSigned 32 (d.rd Reg.CLK_BOUT).toNat) 0
  let d := d.setI ⟨Reg.CLK_BOUT, 31, 0⟩ b
  if b = 0 then ((d.updClk (fun c => { c with realign := false })).set Reg.CLK_STAT_SLEW 0).clkEvt 7 else d

/-- PHASE_STEP: 2^STEPK or 2^OSTEPK ticks have passed at the root stepper (0), an output's (1, 2) or, while a REALIGN runs,
at B (3). -/
def execPhaseStep (k : Nat) (s : State) : Host.Outcome State Fault Refusal :=
  s.onDev (fun d =>
    if k < 3 then d.phaseStep k
    else if d.clk.realign then d.clkWatch (fun d => d.realignStep)
    else d)

/-! ## The apply of the CLK page (R449, R457, R461) -/

/-- What the apply of the CLK page does, from CLK_CFG, CLK_TIMECFG and CLK_TRIM before it. -/
def Dev.clkApplied (d : Dev) (cfg time trim : Word) : Dev :=
  let mode := d.get Reg.CLK_CFG_REFMODE
  let was := getBits cfg 31 30
  let d := if mode = was then d
    else if mode = 2 then
      if d.get Reg.CLK_STAT_REFSEL ≠ 1 then d
      else if d.is Reg.CLK_STAT_XO then
        let (w, d) := d.fresh
        d.switchIn 2 ((w.toNat % 16384 : Nat) - 8192)
      else d.sourceLost
    else if was = 2 then d.set Reg.CLK_STAT_REFOK 0
    else d
  let d := if was = mode then d else if d.is Reg.CLK_STAT_HOLDOVER then d.checkNoref else d
  let src := d.get Reg.CLK_TIMECFG_SRC
  let d := if src = getBits time 31 30 then d
    else (if d.is Reg.CLK_TSTAT_SLEWING then d.slewStop else d).updClk (fun c => { c with ppsFirst := true, ppsBad := 0 })
  if src = 0 ∧ d.rd Reg.CLK_TRIM ≠ trim then d.wr Reg.CLK_TRIMUSE (d.rd Reg.CLK_TRIM) else d

/-! ## A time tick (R456, R458, R459) -/

/-- The slew's part of a tick in 2^−32 ns: 10 ns at its rate, no more than is left, the sum with TRIM within ±1,000 ppm. -/
def Dev.slewTick (d : Dev) (trim : Int) : Int :=
  let ppm := if d.clk.rate = 0 then d.get Reg.CLK_TIMECFG_SLEW else d.clk.rate
  let full : Int := (ppm * 42949672960 / 1000000 : Nat)
  let s := clampI (-full) full d.clk.left
  clampI (-42949672 - trim) (42949672 - trim) s

/-- DEVTIME advances by one tick. -/
def Dev.devTick (d : Dev) : Dev :=
  let trim := toSigned 32 (d.rd Reg.CLK_TRIMUSE).toNat
  let slewing := d.is Reg.CLK_TSTAT_SLEWING
  let s := if slewing then d.slewTick trim else 0
  let t : Int := (d.devtime * 2 ^ 32 + d.clk.frac : Nat) + (42949672960 : Int) + trim + s
  let n := t.toNat
  let d := { d with
    devtime := n / 2 ^ 32 % 2 ^ 64
    clk := { d.clk with frac := n % 2 ^ 32, left := d.clk.left - s } }
  if !slewing then d
  else if d.clk.left = 0 then (d.showSlew false).clkEvt 6
  else d.showSlew true

/-- DEVTIME set (R459). -/
def Dev.devSet (d : Dev) : Dev := match d.clk.tset with
  | some t => ({ d with devtime := t, clk := { d.clk with tset := none, frac := 0 } }).clkEvt 9
  | none => d.devTick

/-- Time ticks run: the root is locked by kindling, and the device is not in BANKED (R438, R462). -/
def Dev.ticking (d : Dev) : Bool := !(d.inReset && d.rst.level != 1) && !d.rst.gated

/-- High and low phase of a divider in VCO periods (R454). -/
def highPart (div : Nat) : Nat := div / 2
def lowPart (div : Nat) : Nat := (div + 1) / 2

/-- A clock output over `k` 64ths of a VCO period (R455): a phase that ends is followed by the next; a period begins with its low phase,
under the divider in force then; the end of a high phase stops an output that is to stop. `fuel` bounds the phases that end. -/
def ClkOut.go (o : ClkOut) (cfg k : Nat) : Nat → ClkOut
  | 0 => o
  | fuel + 1 =>
    if !o.run then o
    else if k < o.left then { o with left := o.left - k }
    else if o.high then
      if o.stopping then {} else ClkOut.go { o with high := false, div := cfg, left := 64 * lowPart cfg } cfg (k - o.left) fuel
    else ClkOut.go { o with high := true, left := 64 * highPart o.div } cfg (k - o.left) fuel

/-- A tick of 64 VCO periods at a clock output with EN and DIV as they apply. -/
def ClkOut.tick (o : ClkOut) (en : Bool) (cfg : Nat) : ClkOut :=
  let o := if en then (if o.run then { o with stopping := false } else { run := true, div := cfg, left := 64 * lowPart cfg })
    else if o.high then { o with stopping := true } else {}
  o.go cfg 4096 8

/-- CLKOUT0 and CLKOUT1 at a time tick: the balls show the phase in progress. -/
def Dev.clkOuts (d : Dev) : Dev :=
  let d := d.updClk (fun c => { c with
    co0 := c.co0.tick (d.is (Reg.CLK_OUT_CFG_EN 0)) (d.get (Reg.CLK_OUT_CFG_DIV 0))
    co1 := c.co1.tick (d.is (Reg.CLK_OUT_CFG_EN 1)) (d.get (Reg.CLK_OUT_CFG_DIV 1)) })
  (d.drive (.clkout 0) d.clk.co0.high).drive (.clkout 1) d.clk.co1.high

/-- The spread profile changes at a period boundary (R441, R461). -/
def Dev.sscTick (d : Dev) : Dev :=
  let n := d.clk.ticks + 1
  d.updClk (fun c => { c with ticks := n, ssc := if n % 3200 = 0 then d.get Reg.CLK_CFG_SSC else c.ssc })

end Sys2Proof.Machine
end

