-- ==== Sys2Proof/Machine/Power.lean ====
section
/-! DEFINITION. Supplies, reset sources, kindling, mantel firmware, OTP and the power states (chapter 15). -/

namespace Sys2Proof.Machine

/-! ## Sources (R465 to R470) -/

/-- POR: VDD_AON becomes good after being absent or having failed. -/
def execPor (s : State) : Host.Outcome State Fault Refusal :=
  s.onDev (fun d => ({ d with rst := { d.rst with aon := true } }).resetAssert 3 1 0)

/-- Supplies that may be removed once PWR_EN has fallen (R490): all but the always-on bank; VDD_RF not while the ember is
enabled. -/
def Dev.supplyFree (d : Dev) (n : Nat) : Bool :=
  d.rst.banked && !d.ball .pwrEn && n != 8 && (n != 5 || !d.is Reg.EMB_CFG_EN)

/-- SUPPLY_FAIL: supply `n` of R467, 0 for VDD_AON, has failed. In BANKED the released supplies are not monitored, and the
DRAM is lost with VDDQ or VDD2 (R488, R490). -/
def Dev.supplyFail (d : Dev) (n : Nat) : Dev :=
  if n = 0 then
    (({ d with rst := { d.rst with aon := false } }).resetAssert 3 1 0)
  else
    let free := d.supplyFree n
    let d := { d with rst := { d.rst with bad := n :: d.rst.bad.filter (· != n) } }
    if free then (if n = 6 ∨ n = 7 then { d with ash := { d.ash with dram := [] } } else d)
    else d.resetAssert 2 2 n

def execSupplyFail (n : Nat) (s : State) : Host.Outcome State Fault Refusal := s.onDev (fun d => d.supplyFail n)

/-- The cause of a reset may have ended, so that its stretch begins (R468). -/
def Dev.stretchBegin (d : Dev) : Dev :=
  if d.rst.asserted && !d.causeHolds then { d with rst := { d.rst with stretching := true } } else d

/-- SUPPLY_GOOD: a supply is good; a VDDIO bank senses its voltage then (R529, R542). -/
def execSupplyGood (x : SupplyRead) (s : State) : Host.Outcome State Fault Refusal :=
  s.onDev (fun d =>
    let d := if 8 ≤ x.n ∧ x.n < 13 then { d with rst := { d.rst with vio := SMap.put 3300 d.rst.vio (x.n - 8) x.mv } } else d
    ({ d with rst := { d.rst with bad := d.rst.bad.filter (· != x.n) } }).stretchBegin)

/-- PIN_RESET: RESET_N is low from outside for 1 µs (R468): not looked at while the device drives it and for 20 µs after. -/
def execPinReset (s : State) : Host.Outcome State Fault Refusal :=
  s.onDev (fun d =>
    if d.rst.asserted || (d.rst.relAt != 0 && decide (d.now < d.rst.relAt - 1 + 20000)) then d else d.resetAssert 2 3 0)

/-- RESET_STRETCH_END: 100 µs have passed; `low` that the ball is still low after the window of 20 µs, which is a new PIN
assertion (R468). -/
def execResetStretchEnd (low : Bool) (s : State) : Host.Outcome State Fault Refusal :=
  s.onDev (fun d =>
    if !d.rst.asserted || !d.rst.stretching then d
    else if low then d.resetAssert 2 3 0
    else ({ d with rst := { d.rst with asserted := false, stretching := false, relAt := d.now + 1 } }).drive .resetN true)

/-- RST_CMD or SPI RSTC with a level (R467): `spi` is the detail. In BANKED nothing is commanded. -/
def Dev.resetCmd (d : Dev) (level : Nat) (spi : Bool) : Dev := if d.rst.banked then d else d.resetAssert level 4 (b2n spi)

/-- A write of RST_CMD. -/
def Dev.rstWrite (d : Dev) (w : Word) : Dev :=
  let l := getBits w 7 0
  if getBits w 31 16 = 0xC1D3 ∧ 1 ≤ l ∧ l ≤ 3 then d.resetCmd l false else d

def execRstCmdCore (s : State) : Host.Outcome State Fault Refusal := s.onDev (fun d => d.resetCmd 1 false)
def execRstCmdSystem (s : State) : Host.Outcome State Fault Refusal := s.onDev (fun d => d.resetCmd 2 false)
def execRstCmdPor (s : State) : Host.Outcome State Fault Refusal := s.onDev (fun d => d.resetCmd 3 false)

/-- WATCHDOG_EXPIRY: the mantel has not served its watchdog for 1 s (R484). In BANKED the mantel is off. -/
def execWatchdogExpiry (s : State) : Host.Outcome State Fault Refusal :=
  s.onDev (fun d => if d.rst.banked then d else d.resetAssert 2 5 0)

/-- WATCHDOG_COUNT_EXPIRY: 600 s without a watchdog reset (R484). -/
def execWatchdogCountExpiry (s : State) : Host.Outcome State Fault Refusal :=
  s.onDev (fun d => ({ d with rst := { d.rst with wdAt := [], wdLoop := false } }).set Reg.RST_CAUSE_WDCOUNT 0)

/-- TEMP_MEASURE: the junction temperature in 0.1 °C (R470, R493). -/
def Dev.tempMeasure (d : Dev) (t : Int) : Dev :=
  let was := d.rst.temp
  let peak := if d.rst.thermal then max d.rst.peak t else t
  let d := ({ d with rst := { d.rst with temp := t, peak := peak } }).setI Reg.RST_STAT_TEMP t
  let d := if d.get Reg.RST_STAT_STATE = 2 ∧ was < 1100 ∧ 1100 ≤ t then d.raise Reg.SYS_EVT 8 else d
  if d.rst.thermal then d.set Reg.RST_CAUSE_DETAIL (peak / 10).toNat
  else if 1250 ≤ t then ({ d with rst := { d.rst with thermal := true } }).resetAssert 2 6 (peak / 10).toNat
  else d

def execTempMeasure (t : Int) (s : State) : Host.Outcome State Fault Refusal := s.onDev (fun d => d.tempMeasure t)

/-- THERMAL_RELEASE: the junction has stayed below 110 °C for 1 s (R470). -/
def execThermalRelease (s : State) : Host.Outcome State Fault Refusal :=
  s.onDev (fun d =>
    if d.rst.thermal ∧ d.rst.temp < 1100 then ({ d with rst := { d.rst with thermal := false } }).stretchBegin else d)

/-! ## Kindling (R471 to R475) -/

/-- A kindling step is over. -/
def Dev.kstep (d : Dev) (k : Nat) : Dev :=
  ({ d with rst := { d.rst with steps := d.rst.steps.drop 1 } }).set Reg.RST_STAT_KSTEP (min k 6)

/-- A fuse word, as step 2 shows it: reserved bits of a copy read zero. -/
def Dev.otpCopy (d : Dev) (i a : Nat) : Dev :=
  d.wr a ((d.rd (Reg.OTP_WORD i)) &&& (match lookupReg a with | some r => r.maskBy (fun _ => true) | none => 0))

/-- Step 2 (R471, R486): the fuses are read, and what follows from them is set. -/
def Dev.otpRead (d : Dev) (bad : List Nat) : Dev :=
  let d := (List.range 36).foldl (fun d i =>
    d.wr (Reg.OTP_WORD i) (if bad.contains i then 0 else SMap.get 0 d.rst.fuses i)) d
  let d := d.set Reg.PST_EPOCH_DEV (getBits (d.rd (Reg.OTP_WORD 0)) 31 31)
  let d := (d.otpCopy 16 Reg.SMK_RGNID).otpCopy 17 Reg.SMK_RGNLIM
  let d := (List.range 8).foldl (fun d k => (d.otpCopy (20 + 2 * k) (Reg.SMK_RGN_W0 k)).otpCopy (21 + 2 * k) (Reg.SMK_RGN_W1 k)) d
  { d with rst := { d.rst with otpBad := bad.filter (fun i => decide (i < 36)) } }

/-- The median of three. -/
def median (a b c : Nat) : Nat := max (min a b) (min (max a b) c)

/-- Step 3 (R474). -/
def Dev.strapRead (d : Dev) (r0 r1 r2 : Nat) : Dev :=
  let r0 := r0 % 16
  let r1 := r1 % 16
  let r2 := r2 % 16
  let c := median r0 r1 r2
  let d := d.wr Reg.RST_STRAP (BitVec.ofNat 32 (r2 * 2 ^ 24 + r1 * 2 ^ 20 + r0 * 65536 + b2n (!(r0 == r1 && r1 == r2)) * 16 + c))
  d.set Reg.AUX_TCFG_TADDR (0x3A + c % 2)

/-- Step 5 (R435): the root PLL locks to the XO, or to REF_IN without it. -/
def Dev.rootLock (d : Dev) (xo : Bool) : Dev :=
  ((((d.set Reg.CLK_STAT_XO (b2n xo)).set Reg.CLK_STAT_REFSEL (if xo then 2 else 1)).set Reg.CLK_STAT_HOLDOVER 0).set
    Reg.CLK_STAT_LOCK 1).drive .pllLockf true

/-- The strap names SPI flash as the firmware's source (R474). -/
def Dev.flashBoot (d : Dev) : Bool := bit (d.rd Reg.RST_STRAP) 1

/-! ## Mantel firmware (R480 to R485) -/

/-- The checks of R482 on an image's signer and epochs: 0 where they pass. -/
def Dev.bootStatus (d : Dev) (img : List Byte) : Nat :=
  if !(at8 img 0x28 = 1 || (at8 img 0x28 = 0 && d.otpDev)) then 0x80
  else if !(decide (at8 img 0x08 ≤ d.get Reg.SYS_REV_EPOCH) && decide (d.get Reg.SYS_REV_EPOCH ≤ at8 img 0x09)) then 0x32
  else if !(at8 img 0x0A == at8 img 0x0B && decide (2 ≤ at8 img 0x0A) && decide (at8 img 0x0C ≤ 1) && decide (1 ≤ at8 img 0x0D)) then 0x81
  else 0

/-- The checks of R481 on an image from flash. -/
def Dev.flashStatus (d : Dev) (img : Option (List Byte)) : Nat :=
  match img with
  | none => 0x82
  | some img =>
    if !imgHeaderOk img || at8 img 5 != 2 then 0x40
    else if !imgSizeOk img || decide (img.length < at32 img 0x10) || !imgTableOk img then 0x41
    else if !imgCrcOk img then 0x43
    else if d.bootStatus img ≠ 0 then d.bootStatus img
    else if !imgSigOk img then 0x46
    else 0

/-- The record of an image in mantel memory. -/
def firmwareOf (img : List Byte) (source : Nat) : Firmware :=
  { image := Memory.writeList [] 0 (img.take (at32 img 0x10)), crc := BitVec.ofNat 32 (at32 img 0x24), abi := at8 img 0x0A, source := source }

/-- The ROM mantel runs, with a status (R483). -/
def Dev.mantelRom (d : Dev) (status : Nat) : Dev :=
  let d := { d with rst := { d.rst with fw := none } }
  let d := (d.set Reg.RST_MNTSTAT_STATUS status).set Reg.RST_MNTSTAT_SOURCE 0
  ((d.set Reg.RST_STAT_MINIMAL 1).set Reg.PST_EPOCH_ABI 1).set Reg.SYS_MARGIN_MIGR 0

/-- Firmware starts (R482, R485). -/
def Dev.mantelRun (d : Dev) (f : Firmware) : Dev :=
  let d := { d with rst := { d.rst with fw := some f } }
  let d := (d.set Reg.RST_MNTSTAT_STATUS 0).set Reg.RST_MNTSTAT_SOURCE f.source
  ((d.set Reg.RST_STAT_MINIMAL 0).set Reg.PST_EPOCH_ABI f.abi).set Reg.SYS_MARGIN_MIGR 1

/-- The mantel starts in step 6: firmware retained through a CORE reset, firmware from flash, or the ROM alone (R480, R481,
R484, R485). -/
def Dev.mantelStart (d : Dev) (memOk : Bool) (primary copy : Option (List Byte)) : Dev :=
  match d.rst.fw with
  | some f => if memOk then d.mantelRun f else d.mantelRom 0x84
  | none =>
    if d.rst.level = 1 then d.mantelRom (d.get Reg.RST_MNTSTAT_STATUS)
    else if !d.flashBoot then d.mantelRom 0x85
    else if d.rst.wdLoop then d.mantelRom 0x83
    else if d.flashStatus primary = 0 then d.mantelRun (firmwareOf (primary.getD []) 2)
    else if d.flashStatus copy = 0 then d.mantelRun (firmwareOf (copy.getD []) 3)
    else d.mantelRom (d.flashStatus primary)

/-- BOOT (R482), on a slot whose image passed VERIFY. A refused one leaves the running mantel as it was. -/
def Dev.boot (d : Dev) (slot tag : Nat) : Dev :=
  if d.is Reg.RST_MNTSTAT_BUSY then d.set Reg.RST_MNTSTAT_LOST 1
  else
    let d := (d.set Reg.RST_MNTSTAT_TAG tag).set Reg.RST_MNTSTAT_LOST 0
    let img := d.slotBytes slot
    let st := if 64 ≤ slot ∨ d.slotState slot ≠ 2 ∨ d.get (Reg.PST_SLOT_TYPE slot) ≠ 2 then 3 else d.bootStatus img
    let d := d.set Reg.RST_MNTSTAT_STATUS st
    if st ≠ 0 then d.raise Reg.RST_EVT 1
    else ({ d with rst := { d.rst with fw := some (firmwareOf img 1) } }.raise Reg.RST_EVT 0).resetAssert 1 9 0

/-- A write of RST_MNTCMD; an OP other than BOOT is a bad argument. -/
def Dev.mntWrite (d : Dev) (w : Word) : Dev :=
  if getBits w 31 24 = 1 then d.boot (getBits w 23 16) (getBits w 15 8)
  else if d.is Reg.RST_MNTSTAT_BUSY then d.set Reg.RST_MNTSTAT_LOST 1
  else (((d.set Reg.RST_MNTSTAT_TAG (getBits w 15 8)).set Reg.RST_MNTSTAT_LOST 0).set Reg.RST_MNTSTAT_STATUS 3).raise Reg.RST_EVT 1

def execBoot (slot tag : Nat) (s : State) : Host.Outcome State Fault Refusal := s.onDev (fun d => d.boot slot tag)

/-! ## The end of kindling (R471, R475, R476, R491) -/

/-- The blocks that RST_BLK names on a part: bits 4 and 6 are reserved. -/
def Part.rstBlocks (p : Part) : List Nat :=
  [1, 2, 3, 5, 7, 8] ++ (if p.hasF1 then [9] else []) ++ [10, 11, 12] ++ (if p.hasSmoke then [13, 14] else []) ++ [15, 16]

/-- The clock-good of a block (R438, R477); those of the SerDes and of PCIe come from outside the device. -/
def Dev.clockGood (d : Dev) (b : Nat) (sds pcie : Bool) : Bool :=
  let core := d.is Reg.CLK_STAT_CORELOCK
  match b with
  | 2 => d.is Reg.CLK_STAT_LOCK && core
  | 3 => d.is Reg.CLK_STAT_LOCK && core
  | 7 => d.is Reg.CLK_STAT_LOCK && core
  | 11 => d.is Reg.CLK_STAT_LOCK && core
  | 8 => sds
  | 9 => sds
  | 10 => pcie
  | 14 => true
  | _ => core

/-- A bit of a register set. -/
def Dev.setBit (d : Dev) (a b : Nat) (v : Bool) : Dev := d.wr a (putBits (d.rd a) b b (b2n v))

/-- A release is carried out: the wrapper opens, and the block starts. -/
def Dev.blockOpen (d : Dev) (b : Nat) : Dev :=
  ({ d with rst := { d.rst with closed := d.rst.closed.filter (· != b) } }).blockStart b

/-- A release is requested (R476): carried out, or deferred until the block's clock is good. A release that is carried out
completes the block's reset (R83). -/
def Dev.blockRelease (d : Dev) (sds pcie : Bool) (b : Nat) : Dev :=
  if d.clockGood b sds pcie then d.blockOpen b else d.setBit Reg.RST_PEND b true

/-- The PTP clock's LOCKED field: its changes are events (R351). -/
def Dev.ptpLocked (d : Dev) (v : Bool) : Dev :=
  if d.is Reg.FLU_PTPSTAT_LOCKED = v then d
  else (d.set Reg.FLU_PTPSTAT_LOCKED (b2n v)).raise Reg.FLU_SEVT (if v then 0 else 1)

/-- The PTP clock starts or stops with EN, MODE and the mantel's firmware (R349): a slave-capable clock listens, a master
serves. In MINIMAL it is DISABLED. -/
def Dev.ptpStart (d : Dev) : Dev :=
  if d.is Reg.FLU_PTPCFG_EN && !d.is Reg.RST_STAT_MINIMAL then
    ((d.set Reg.FLU_PTPSTAT_STATE (if d.get Reg.FLU_PTPCFG_MODE = 1 then 5 else 2)).set Reg.FLU_PTPSTAT_PORTNOW
      (d.get Reg.FLU_PTPCFG_PORT)).ptpLocked false
  else (d.set Reg.FLU_PTPSTAT_STATE 0).ptpLocked false

/-- The mantel's part in the end of kindling: MINIMAL is announced (R483), or firmware tests what is untested (R154). -/
def Dev.mantelReady (d : Dev) : Dev :=
  let d := d.ptpStart
  let un := d.hearthsIn stUntested
  if d.is Reg.RST_STAT_MINIMAL then
    let d := (d.sootE 2 0x20 0x1004 (d.get Reg.RST_MNTSTAT_STATUS * 2 ^ 24)).raise Reg.RST_EVT 1
    un.foldl (fun d h => d.setHstate h stFree none) d
  else
    let d := d.raise Reg.RST_EVT 0
    un.foldl (fun d h => (d.updHearth h (fun x => { x with testKind := 1, before := stUntested })).setHstate h stTesting none) d

/-- The saved CLK values applied at the end of a wake's kindling, in the active copy and its shadow (R491). -/
def Dev.clkRestore (d : Dev) : Dev :=
  let old := d
  let d := d.rst.clk.foldl (fun d c => (d.wr c.1 c.2).shWr c.1 c.2) d
  let d := d.clkWatch (fun d => d.clkApplied (old.rd Reg.CLK_CFG) (old.rd Reg.CLK_TIMECFG) (old.rd Reg.CLK_TRIM))
  { d with clk := { d.clk with ssc := d.get Reg.CLK_CFG_SSC }, rst := { d.rst with clk := [] } }

/-- Kindling ends (R471). -/
def Dev.kindlingEnd (d : Dev) (sds pcie : Bool) : Dev :=
  let full := decide (2 ≤ d.rst.level)
  let bad := d.rst.otpBad
  let d := (d.kstep 7).set Reg.RST_STAT_STATE 2
  let d := { d with rst := { d.rst with kindledAt := d.now, otpBad := [] } }
  let d := if full then { d with devtime := 0, scount := 0, clk := { d.clk with frac := 0, ticks := 0 } } else d
  let d := d.sootC 2 0x12 0x1001 (d.rd Reg.RST_CAUSE) none
  let d := if full then bad.foldl (fun d i => d.sootE 2 0x13 0x1002 i) d else d
  let d := d.mantelReady
  let d := if full then
      (d.part.rstBlocks.foldl (fun d b => d.blockRelease sds pcie b) d).clkRestore
    else
      let d := { d.raise Reg.SYS_EVT 10 with cap := { d.cap with rotEnd := d.now } }
      if d.ready then ({ d with ash := { d.ash with selfRefresh := false } }).ddrDrive true else d
  d.refreshMargin

/-- KINDLING_STEP: the step that is due ends with what it found. -/
def Dev.kindle (d : Dev) (k : Kindle) : Dev :=
  if d.rst.asserted || d.rst.romBad then d
  else match d.rst.steps.head?, k with
    | some 1, .supplies => if d.causeHolds then d else d.kstep 1
    | some 2, .otp bad => (d.otpRead bad).kstep 2
    | some 3, .strap r0 r1 r2 => (d.strapRead r0 r1 r2).kstep 3
    | some 4, .rom ok => if ok then d.kstep 4 else { d with rst := { d.rst with romBad := true } }
    | some 5, .lock xo => (d.rootLock xo).kstep 5
    | some 6, .mantel memOk primary copy =>
      let d := (d.set Reg.CLK_STAT_CORELOCK 1).mantelStart memOk primary copy
      { d with rst := { d.rst with steps := d.rst.steps.drop 1, host := true } }
    | some 7, .release sds pcie => d.kindlingEnd sds pcie
    | _, _ => d

def execKindlingStep (k : Kindle) (s : State) : Host.Outcome State Fault Refusal := s.onDev (fun d => d.kindle k)

/-! ## Block reset (R476 to R478) -/

/-- A bit of RST_BLK rises. -/
def Dev.blockHold (d : Dev) (b : Nat) : Dev :=
  let pend := bit (d.rd Reg.RST_PEND) b
  let d := (d.setBit Reg.RST_BLK b true).setBit Reg.RST_PEND b false
  if pend then d
  else if bit (d.rd Reg.RST_MODE) b then { d with rst := { d.rst with
    isolating := b :: d.rst.isolating.filter (· != b), closed := b :: d.rst.closed.filter (· != b) } }
  else d.blockAssert b true

/-- A bit of RST_BLK falls. -/
def Dev.blockFree (d : Dev) (sds pcie : Bool) (b : Nat) : Dev :=
  let d := if d.rst.isolating.contains b then ({ d with rst := { d.rst with isolating := d.rst.isolating.filter (· != b) } }).blockAssert b false else d
  let d := (d.setBit Reg.RST_BLK b false).blockRelease sds pcie b
  if bit (d.rd Reg.RST_PEND) b then d else d.raise Reg.SYS_EVT 10

/-- A write of RST_BLK. -/
def Dev.rstBlkWrite (d : Dev) (w : Word) (sds pcie : Bool) : Dev :=
  d.part.rstBlocks.foldl (fun d b =>
    let was := bit (d.rd Reg.RST_BLK) b
    if bit w b && !was then d.blockHold b
    else if !bit w b && was then d.blockFree sds pcie b
    else d) d

def execRstBlkWrite (w : Word) (sds pcie : Bool) (s : State) : Host.Outcome State Fault Refusal :=
  s.onDev (fun d => d.rstBlkWrite w sds pcie)

/-- ISOLATE_DONE: a block's outstanding transfers have completed (R478). -/
def execIsolateDone (b : Nat) (s : State) : Host.Outcome State Fault Refusal :=
  s.onDev (fun d =>
    if d.rst.isolating.contains b then
      ({ d with rst := { d.rst with isolating := d.rst.isolating.filter (· != b) } }).blockAssert b false
    else d)

/-- BLOCK_RELEASE: the clock of a block whose release was deferred is good (R476). -/
def execBlockRelease (b : Nat) (s : State) : Host.Outcome State Fault Refusal :=
  s.onDev (fun d =>
    if bit (d.rd Reg.RST_PEND) b then ((d.setBit Reg.RST_PEND b false).blockOpen b).raise Reg.SYS_EVT 10 else d)

/-! ## OTP (R486, R487) -/

/-- An index of the layout; the others are reserved. -/
def otpIndex (i : Nat) : Bool := decide (i < 36) && !([2, 3, 12, 13, 14, 15, 18, 19].contains i)

/-- An OTP command ends. -/
def Dev.otpEnd (d : Dev) (status : Nat) : Dev :=
  ((d.set Reg.RST_OTPSTAT_STATUS status).set Reg.RST_OTPSTAT_BUSY 0).raise Reg.RST_EVT 2

/-- Programming of a word is asked for, with the key. One that arrives while a word is being programmed has no effect. -/
def Dev.otpProgram (d : Dev) (i : Nat) : Dev :=
  if d.rst.otpProg.isSome then d
  else if !otpIndex i then d.otpEnd 3
  else if !d.lanesOn.isEmpty || (d.part.hasSmoke && d.is Reg.SMK_CTL_EN) then d.otpEnd 7
  else if bit (SMap.get 0 d.rst.fuses 0) 30 then d.otpEnd 0x90
  else if SMap.get 0 d.rst.fuses i ≠ 0 then d.otpEnd 0x91
  else { (d.set Reg.RST_OTPSTAT_STATUS 2).set Reg.RST_OTPSTAT_BUSY 1 with
           rst := { d.rst with otpProg := some (i, d.rd Reg.RST_OTPDATA) } }

/-- A write of RST_OTPCMD: a wrong key is ignored. -/
def Dev.otpWrite (d : Dev) (w : Word) : Dev := if getBits w 31 16 = 0x3E9A then d.otpProgram (getBits w 5 0) else d

def execOtpProgram (i : Nat) (s : State) : Host.Outcome State Fault Refusal := s.onDev (fun d => d.otpProgram i)

/-- OTP_PROGRAM_DONE: the word reads back as `w`. -/
def execOtpProgramDone (w : Word) (s : State) : Host.Outcome State Fault Refusal :=
  s.onDev (fun d => match d.rst.otpProg with
    | none => d
    | some (i, v) =>
      let d := { d with rst := { d.rst with otpProg := none, fuses := SMap.put 0 d.rst.fuses i w } }
      if w = v then d.otpEnd 0 else (d.otpEnd 0x92).sootE 2 0x13 0x1003 i)

/-! ## BANKED (R488 to R492) -/

/-- The host port is SPI by the strap. -/
def Dev.spiHost (d : Dev) : Bool := bit (d.rd Reg.RST_STRAP) 3

/-- Why BANKED is refused: 0 not, 1 ALERT, 2 NOWAKE (R489). -/
def Dev.bankRefusal (d : Dev) : Nat :=
  if 0 < d.get Reg.FWT_STAT_ACTIVE ∨ !d.fire.pages.isEmpty then 1
  else if !((d.part.hasSmoke && d.is Reg.EMB_CFG_WAKE) || d.is Reg.RST_WAKECFG_WAKEN || (d.spiHost && d.is Reg.RST_WAKECFG_SPIWAKE)) then 2
  else 0

/-- Step 1 of the entry: the firewatch stops, lane programs halt, draw lines and backlogs are discarded. WOKE is cleared (R402). -/
def Dev.bankStart (d : Dev) : Dev :=
  let d := (d.set Reg.RST_STAT_STATE 3).set Reg.EMB_STAT_WOKE 0
  let d := (d.fwtClear.set Reg.FWT_STAT_PIN 0)
  let d := (List.range d.part.hearths).foldl (fun d h => d.haltHearth h) d
  { d with
    lanes := []
    rst := { d.rst with bankSteps := [2, 3, 4, 5, 6] ++ (if d.is Reg.RST_WAKECFG_PWROFF then [7] else []) } }

/-- BANKED is requested (R489). -/
def Dev.bankRequest (d : Dev) (force : Bool) : Dev :=
  if d.get Reg.RST_STAT_STATE ≠ 2 then d
  else if !force ∧ d.bankRefusal ≠ 0 then (d.set Reg.RST_STAT_PWRREF d.bankRefusal).raise Reg.RST_EVT 3
  else d.bankStart

/-- A write of RST_PWR. -/
def Dev.pwrWrite (d : Dev) (w : Word) : Dev :=
  if getBits w 31 16 = 0xC1D3 ∧ bit w 0 then d.bankRequest (bit w 1) else d

def execBankRequest (force : Bool) (s : State) : Host.Outcome State Fault Refusal := s.onDev (fun d => d.bankRequest force)

/-- A flue port goes down with its laser off (R489). -/
def Dev.laserOff (d : Dev) (p : Nat) : Dev :=
  ((d.drive (.sfpTxdis p) true).set (Reg.FLU_LINK_TXDIS p) 1).set (Reg.FLU_LINK_UP p) 0

/-- Step 2: audio, ports and smoke radio stop. -/
def Dev.bankPorts (d : Dev) : Dev :=
  let d := d.audOn.foldl (fun d p => d.audStop p) d
  let d := d.laserOff 0
  let d := if d.part.hasF1 then d.laserOff 1 else d
  (d.hfStop none).smkHalt

/-- The CLK registers whose values survive (R491). -/
def clkSaved : List Nat := [Reg.CLK_CFG, Reg.CLK_OUT_CFG 0, Reg.CLK_OUT_CFG 1, Reg.CLK_TIMECFG]

/-- Step 5: the CLK configuration is saved and the gated domains are switched off. -/
def Dev.bankGate (d : Dev) : Dev :=
  let d := { d with rst := { d.rst with clk := clkSaved.map (fun a => (a, d.rd a)) } }
  (d.gateOff true).set Reg.RST_STAT_STATE 3

/-- Step 6: BANKED; a wake latched during the entry starts now. -/
def Dev.bankReach (d : Dev) : Dev :=
  let w := d.rst.wake
  let d := ({ d with rst := { d.rst with banked := true } }).attend
  match w with
  | some k => d.wakeUp k
  | none => d

/-- BANKED_ENTRY_STEP: the step that is due ends. The aux step waits for the transactions in progress (R412). -/
def Dev.bankStep (d : Dev) : Dev :=
  let next := fun (d : Dev) => { d with rst := { d.rst with bankSteps := d.rst.bankSteps.drop 1 } }
  match d.rst.bankSteps.head? with
  | some 2 => next d.bankPorts
  | some 3 => if (List.range 3).any (fun b => (d.auxBus b).cur.any (·.running)) then d else next d.auxReset
  | some 4 => next (({ d with ash := { d.ash with selfRefresh := true, init := none } }).ddrDrive false)
  | some 5 => next d.bankGate
  | some 6 => (next d).bankReach
  | some 7 => (next d).drive .pwrEn false
  | _ => d

def execBankedEntryStep (s : State) : Host.Outcome State Fault Refusal := s.onDev (fun d => d.bankStep)

/-- WAKE_N_ASSERT: WAKE_N has been low for 10 µs; it is read in BANKED, and latched during entry (R489, R492). -/
def execWakeNAssert (s : State) : Host.Outcome State Fault Refusal :=
  s.onDev (fun d => if d.is Reg.RST_WAKECFG_WAKEN then d.wakeUp 2 else d)

/-- EMBER_SEARCH_END: a search ends on the run of 32 bits nearest the pattern (R400 to R402). -/
def execEmberSearchEnd (run : Word) (s : State) : Host.Outcome State Fault Refusal :=
  s.onDev (fun d =>
    if !d.is Reg.EMB_STAT_SEARCH then d
    else
      let d := d.emberEnd run
      if d.rst.banked && d.rst.wake == some 1 then d.wakeUp 1 else d)

end Sys2Proof.Machine
end

