-- ==== Sys2Proof/Machine/Flue.lean ====
section
/-! DEFINITION. The flue's ports: frames sent (R326, R327, R330 to R345), dampers' timers (R325, R332), frames received
(R346, R347, R282), links (R324), membership reports (R348) and telemetry (R341). -/

namespace Sys2Proof.Machine

/-- Port `p` exists. -/
def Dev.hasPort (d : Dev) (p : Nat) : Bool := d.ports.contains p

/-- A command at a port has no effect while its block is held, or where the port is absent. -/
def State.onPort (s : State) (p : Nat) (f : Dev → Dev) : Host.Outcome State Fault Refusal :=
  s.onDev (fun d => if !d.hasPort p || d.held (8 + p) then d else f d)

/-! ## PORT_FRAME_START (R326, R327) -/

/-- The buckets filled, the packetisers loaded and the datagrams too long dropped, before a choice is made. -/
def Dev.portPrep (d : Dev) (p room : Nat) : Dev :=
  (List.range 128).foldl (fun d e =>
    if d.entOn p e then
      let d := d.fill p e
      (if d.entEnc p e = 0 then d.pull p e 8 else d).dropLong p e room
    else d) d

/-- The entry that sends now: the one whose unit has segments left, else the one whose turn it is. -/
def Dev.chosen (d : Dev) (p : Nat) : Option Nat :=
  match (d.fport p).cur with
  | some e => if d.entOn p e && (d.damper p e).sent != 0 then some e else d.pick p
  | none => d.pick p

/-- The turn passes on (R327). -/
def Dev.served (d : Dev) (p e prio : Nat) : Dev :=
  d.setFport p { d.fport p with last := SMap.put 0 (d.fport p).last prio ((e + 1) % 129) }

/-- The accounts of an entry after a frame or record (R326, R339, the entry counters). -/
def Dev.afterTx (d : Dev) (p e : Nat) (t : NextTx) (size : Nat) : Dev :=
  let cost : Int := if d.ent p e 3 31 16 = 0 then 0 else (size * 8000 : Nat)
  let d := d.setDamper p e { t.after with tokens := t.after.tokens - cost }
  let d := (d.incWord (cntAddr p e 1) 1).qkib p e
  let d := if t.endsUnit then d.incWord (cntAddr p e 0) 1 else d
  let d := if t.isGap then d.incSat ⟨cntAddr p e 3, 31, 16⟩ 1 else d
  let d := d.setFport p { d.fport p with cur := if t.after.sent = 0 then none else some e }
  d.served p e (d.ent p e 0 23 21)

/-- A telemetry frame's GSF content (R338, R341). -/
def Dev.teleGsf (d : Dev) (p : Nat) (u : QUnit) : List Byte :=
  d.gsfHeader 3 0 0 u.lane 0 true 0 (SMap.get 0 (d.fport p).teleSeq u.lane) u.time u.key 0 ++ u.payload

/-- Telemetry's queue after a frame of it: SEQ counts per port and lane (R339). -/
def Dev.teleSent (d : Dev) (p : Nat) (u : QUnit) : Dev :=
  let x := d.fport p
  (d.setFport p { x with tele := x.tele.drop 1, teleSeq := SMap.put 0 x.teleSeq u.lane (SMap.get 0 x.teleSeq u.lane + 1) }).served p 128 7

/-- The alert frame of an F port, with its own destination (R342). -/
def Dev.alertFrame (d : Dev) (p : Nat) (a : AlertTx) : List Byte :=
  d.ipFrame p (d.is (Reg.FLU_ADST_MODE_IPV6 p))
    (if d.is (Reg.FLU_ADST_MODE_TAGGED p) then some (d.get (Reg.FLU_ADST_CFG_TCI p)) else none)
    (d.get (Reg.FLU_ADST_MODE_DSCP p)) (d.get (Reg.FLU_ADST_CFG_UPORT p)) (d.get (Reg.FLU_ADST_CFG_UPORT p))
    (d.regBytes (Reg.FLU_ADST_IP p 0) 4) (d.alertGsf a)

/-- The telemetry frame of an F port. -/
def Dev.teleFrame (d : Dev) (p : Nat) (u : QUnit) : List Byte :=
  d.ipFrame p (d.is (Reg.FLU_TLMMODE_IPV6 p))
    (if d.is (Reg.FLU_TLMMODE_TAGGED p) then some (d.get (Reg.FLU_TLMCFG_TCI p)) else none)
    (d.get (Reg.FLU_TLMMODE_DSCP p)) (d.get (Reg.FLU_TLMCFG_UPORT p)) (d.get (Reg.FLU_TLMCFG_UPORT p))
    (d.regBytes (Reg.FLU_TDST_IP p 0) 4) (d.teleGsf p u)

/-- A stream frame, or a telemetry frame, leaves an F port. -/
def Dev.sendStream (d : Dev) (p : Nat) : Dev :=
  let d := d.portPrep p 65536
  match d.chosen p with
  | none => d
  | some 128 => match (d.fport p).tele with
    | u :: _ => (d.sendFrame p (d.teleFrame p u)).teleSent p u
    | [] => d
  | some e => match d.nextTx p e with
    | some t => (d.sendFrame p (d.txFrame p e t)).afterTx p e t (d.txSize p e t)
    | none => d

/-- F0 or F1 is free to start a frame. -/
def Dev.frameStart (d : Dev) (p : Nat) : Dev :=
  if !d.portUp p then d
  else
    let x := d.fport p
    match x.alerts, x.ctrl with
    | a :: rest, _ => ((d.setFport p { x with alerts := rest }).sendFrame p (d.alertFrame p a)).incWordSat (Reg.FLU_ALERTTX p) 1
    | [], c :: rest => ((d.setFport p { x with ctrl := rest }).emit (.ctrl p c)).incWordSat (Reg.FLU_TXFRAMES p) 1
    | [], [] => d.sendStream p

/-- A record waits for a descriptor (R344). -/
def Dev.noDesc (d : Dev) : Dev := d.raise Reg.HF_EVT 0

/-- A stream or telemetry record is written to a descriptor. -/
def Dev.hfStream (d : Dev) (buf : HfDesc) : Dev :=
  let d := d.portPrep 2 (if d.hfReady then buf.len else 65536)
  match d.chosen 2 with
  | none => d
  | some e =>
    if !d.hfReady then d.noDesc
    else if e = 128 then
      match (d.fport 2).tele with
      | u :: _ =>
        let (ok, d') := d.hfRecord buf 0xFE u.lane false (d.teleGsf 2 u)
        if ok then (d'.teleSent 2 u).hfNotify else d'
      | [] => d
    else
      match d.nextTx 2 e with
      | some t =>
        let (ok, d') := d.hfRecord buf e (d.ent 2 e 0 14 8) t.err t.bytes
        if ok then (d'.afterTx 2 e t t.bytes.length).hfNotify else d'
      | none => d

/-- The HF ring takes the next record: an alert ahead of every stream (R280, R344). -/
def Dev.hfNext (d : Dev) (buf : HfDesc) : Dev :=
  if !d.is Reg.HF_CTL_RUN then d
  else
    match (d.fport 2).alerts with
    | a :: rest =>
      if !d.hfReady then d.noDesc
      else
        let (ok, d') := d.hfRecord buf 0xFF a.lane false (d.alertGsf a)
        if ok then (d'.setFport 2 { d'.fport 2 with alerts := rest }).hfNotify else d'
    | [] => d.hfStream buf

/-- PORT_FRAME_START: port `p` may start a frame; `buf` is what HF's next descriptor holds. -/
def execPortFrameStart (p : Nat) (buf : HfDesc) (s : State) : Host.Outcome State Fault Refusal :=
  s.onPort p (fun d => if p < 2 then d.frameStart p else d.hfNext buf)

/-! ## The dampers' timers (R325, R332) -/

/-- DAMPER_MAXQ_EXPIRY at an entry, or at telemetry (128), whose MAXQ is 1 ms: the head unit, unless it is being sent. -/
def Dev.maxqExpiry (d : Dev) (p e : Nat) : Dev :=
  if e = 128 then
    match (d.fport p).tele with
    | u :: _ => if u.enq + 1000000 < d.now then d.teleDrop p else d
    | [] => d
  else if 128 < e then d
  else
    let x := d.damper p e
    match x.queue with
    | u :: us =>
      if x.sent = 0 ∧ u.enq + d.ent p e 2 25 16 * 10000 < d.now then
        ((d.setDamper p e { x with queue := us }).dropUnit p e 4).qkib p e
      else d
    | [] => d

def execDamperMaxqExpiry (p e : Nat) (s : State) : Host.Outcome State Fault Refusal := s.onPort p (fun d => d.maxqExpiry p e)

/-- TS_FLUSH_TIMEOUT: the oldest packet of an entry has waited 10 ms. -/
def Dev.tsTimeout (d : Dev) (p e : Nat) : Dev :=
  if 128 ≤ e ∨ !d.entOn p e ∨ d.entEnc p e ≠ 0 then d
  else
    let d := d.pull p e 8
    let x := d.damper p e
    if !x.ts.isEmpty ∧ x.tsAt + 10000000 ≤ d.now then d.setDamper p e { x with tsFlush := true } else d

def execTsFlushTimeout (p e : Nat) (s : State) : Host.Outcome State Fault Refusal := s.onPort p (fun d => d.tsTimeout p e)

/-! ## Membership reports (R348) -/

/-- The groups a port receives: IPv6 or not, and the address. -/
def Dev.groups (d : Dev) (p : Nat) : List (Bool × List Byte) :=
  let ip := d.regBytes (Reg.FLU_ADST_IP p 0) 4
  let v6 := d.is (Reg.FLU_ADST_MODE_IPV6 p)
  let first := (ip.headD 0).toNat
  let alert : List (Bool × List Byte) := if v6 then (if first = 255 then [(true, ip)] else []) else (if first / 16 = 14 then [(false, ip.take 4)] else [])
  let ptp : List (Bool × List Byte) := if d.is Reg.FLU_PTPCFG_EN ∧ d.get Reg.FLU_PTPSTAT_PORTNOW = p then
      (match d.get Reg.FLU_PTPCFG_TRANSPORT with
       | 1 => [(false, [0xE0, 0x00, 0x01, 0x81])]
       | 2 => [(true, [0xFF, 0x0E] ++ List.replicate 12 0 ++ [0x01, 0x81])]
       | _ => [])
    else []
  alert ++ ptp

/-- Reports join the port's queue behind PTP messages (R327). -/
def Dev.sendReports (d : Dev) (p : Nat) : Dev :=
  let gs := d.groups p
  let one := fun (v6 : Bool) =>
    let xs := (gs.filter (fun g => g.1 == v6)).map (fun g => g.2)
    if xs.isEmpty then [] else [Ctrl.report v6 xs]
  if d.portUp p then d.setFport p { d.fport p with ctrl := (d.fport p).ctrl ++ one false ++ one true } else d

def execMembershipReportTimer (p : Nat) (s : State) : Host.Outcome State Fault Refusal :=
  s.onPort p (fun d => if p < 2 then d.sendReports p else d)

/-! ## Links (R324) -/

/-- An F port goes down: its alert frames are discarded, PTP messages and reports are not sent any more. -/
def Dev.linkDown (d : Dev) (p : Nat) : Dev :=
  let x := d.fport p
  let n := x.alerts.length
  let d := d.setFport p { x with alerts := [], ctrl := [], downAt := d.now + 1 }
  let d := if n = 0 then d else (d.incWordSat (Reg.FLU_ALERTDROP p) n).portEvt p 3
  let d := d.portEvt p 1
  if (List.range 128).any (d.entOn p) then d.sootE 2 (8 + p) 0x7002 p else d

/-- The PCS reports block lock and faults; `los` is the level of SFPn_RXLOS. A disabled port's PCS is held down. -/
def Dev.linkChange (d : Dev) (p : Nat) (block lf rf los : Bool) : Dev :=
  let on := d.is (Reg.FLU_CTL_EN p)
  let up := on && block && !lf && !rf && !d.sfpLow
  let was := d.portUp p
  let d := (d.set (Reg.FLU_LINK_BLOCK p) (b2n (on && block))).set (Reg.FLU_LINK_LF p) (b2n (on && lf))
  let d := ((d.set (Reg.FLU_LINK_RF p) (b2n (on && rf))).set (Reg.FLU_LINK_RXLOS p) (b2n los)).set (Reg.FLU_LINK_UP p) (b2n up)
  if up && !was then ((d.setFport p { d.fport p with downAt := 0 }).portEvt p 0).sendReports p
  else if was && !up then d.linkDown p
  else d

def execPortLinkChange (p : Nat) (block lf rf los : Bool) (s : State) : Host.Outcome State Fault Refusal :=
  s.onPort p (fun d => if p < 2 then d.linkChange p block lf rf los else d)

/-! ## Telemetry (R341) -/

/-- The payload of a telemetry frame. -/
def Dev.telePayload (d : Dev) (n : Nat) : List Byte :=
  wordBytes (d.rd (Reg.LANE_BIND n)) ++ wordBytes (d.view (Reg.LANE_MIG n)) ++ wordBytes (d.rd (Reg.LANE_REACQ n))
    ++ wordBytes (d.rd (Reg.GRT_LSTAT (n / 8) (n % 8))) ++ d.regBytes (Reg.LANE_LRB n 0) 128

/-- Telemetry of a lane is on at a port. -/
def Dev.teleOn (d : Dev) (p n : Nat) : Bool :=
  bit (d.rd (portBase p + 0x74 + 4 * (n / 32))) (n % 32) && d.is (Reg.LANE_CTL_EN n)

/-- TELEMETRY_TICK: INT ms have passed for a lane; `ok` that its LRB copy was consistent within 1 ms. -/
def Dev.teleTick (d : Dev) (p n : Nat) (ok : Bool) : Dev :=
  if d.part.lanes ≤ n ∨ !d.teleOn p n ∨ !ok ∨ bit (d.rd (Reg.LANE_LRB n 0)) 0 then d
  else if !d.portUp p then d.portEvt p (if p < 2 then 2 else 1)
  else
    let u : QUnit := { kind := 1, lane := n, stream := 0, err := false, key := (d.rd (Reg.LANE_LRB n 0)).toNat, index := 0,
                       time := d.devtime, rel := d.devtime, enq := d.now, first := false, payload := d.telePayload n }
    (d.setFport p { d.fport p with tele := (d.fport p).tele ++ [u] }).fitDamper p 70

def execTelemetryTick (p n : Nat) (ok : Bool) (s : State) : Host.Outcome State Fault Refusal := s.onPort p (fun d => d.teleTick p n ok)

/-! ## The HF ring (R344, R345) -/

/-- HF_TAIL_WRITE. -/
def Dev.hfTail (d : Dev) (w : Word) : Dev := d.wr Reg.HF_TAIL (w &&& 0xFFFF)
def execHfTailWrite (w : Word) (s : State) : Host.Outcome State Fault Refusal := s.onPort 2 (fun d => d.hfTail w)

/-- HF_START: a write of HF_CTL with EN = 1. -/
def Dev.hfStart (d : Dev) : Dev := (d.set Reg.HF_CTL_EN 1).set Reg.HF_CTL_RUN 1
def execHfStart (s : State) : Host.Outcome State Fault Refusal := s.onPort 2 (fun d => d.hfStart)

/-! ## Frames received (R346, R347, R282) -/

/-- What the filter sees of a frame: VIDs in its tags, EtherType and body. -/
structure RxFrame where
  dmac : List Byte
  vid : Option Nat
  etype : Nat
  body : List Byte

def parseFrame (bs : List Byte) : RxFrame :=
  let h := bs.take (bs.length - 4)
  let t := beNat ((h.drop 12).take 2)
  if t = 0x8100 then
    { dmac := h.take 6, vid := some (beNat ((h.drop 14).take 2) % 4096), etype := beNat ((h.drop 16).take 2), body := h.drop 18 }
  else { dmac := h.take 6, vid := none, etype := t, body := h.drop 14 }

/-- A UDP datagram in an IP packet: destination address, destination port and payload; none for a fragment, for options and
for a wrong length or checksum. -/
def parseUdp (f : RxFrame) : Option (List Byte × Nat × List Byte) :=
  let b := f.body
  let go := fun (src dst u : List Byte) =>
    let len := beNat ((u.drop 4).take 2)
    let u := u.take len
    if len < 8 ∨ u.length ≠ len ∨ inetSum (sum16 (src ++ dst) + 17 + len + sum16 u) ≠ 0 then none
    else some (dst, beNat ((u.drop 2).take 2), u.drop 8)
  if f.etype = 0x0800 then
    let len := beNat ((b.drop 2).take 2)
    if b.headD 0 ≠ 0x45 ∨ b.length < len ∨ len < 20 ∨ inetSum (sum16 (b.take 20)) ≠ 0 ∨ beNat ((b.drop 6).take 2) % 16384 ≠ 0 ∨ (b.drop 9).headD 0 ≠ 17 then none
    else go ((b.drop 12).take 4) ((b.drop 16).take 4) ((b.take len).drop 20)
  else if f.etype = 0x86DD then
    if (b.headD 0).toNat / 16 ≠ 6 ∨ (b.drop 6).headD 0 ≠ 17 ∨ b.length < 40 then none
    else go ((b.drop 8).take 16) ((b.drop 24).take 16) ((b.drop 40).take (beNat ((b.drop 4).take 2)))
  else none

/-- The multicast MAC address of a group (R331). -/
def groupMac (g : Bool × List Byte) : List Byte := if g.1 then mac6 [] g.2 else mac4 [] g.2

/-- The destination address is the port's own or that of a group. -/
def Dev.toPort (d : Dev) (p : Nat) (dst : List Byte) (gs : List (List Byte)) : Bool :=
  dst == wordBytes (d.rd (Reg.FLU_IP4 p)) || dst == d.regBytes (Reg.FLU_IP6 p 0) 4 || gs.contains dst

/-- A PTP frame for the PTP engine (R346). -/
def Dev.ptpFrame (d : Dev) (p : Nat) (f : RxFrame) : Bool :=
  d.get Reg.FLU_PTPSTAT_PORTNOW == p && (f.etype == 0x88F7 || (match parseUdp f with
    | some (dst, port, _) => (port == 319 || port == 320) &&
        d.toPort p dst [[0xE0, 0x00, 0x01, 0x81], [0xFF, 0x0E] ++ List.replicate 12 0 ++ [0x01, 0x81]]
    | none => false))

/-- The GSF alert frame of the relay, where a frame is one (R346). -/
def Dev.relayFrame (d : Dev) (p : Nat) (f : RxFrame) : Option (List Byte) :=
  match parseUdp f with
  | some (dst, port, g) =>
    let v6 := d.is (Reg.FLU_ADST_MODE_IPV6 p)
    let ip := d.regBytes (Reg.FLU_ADST_IP p 0) 4
    if port = d.get (Reg.FLU_ADST_CFG_UPORT p) ∧ d.toPort p dst [if v6 then ip else ip.take 4]
        ∧ g.take 3 = [0x47, 0x53, 0x15] ∧ 48 ≤ g.length then some g else none
  | none => none

/-- A relayed alert reaches the firewatch (R282). -/
def Dev.relayIn_ (d : Dev) (p : Nat) (g : List Byte) : Dev :=
  let at_ := fun (i n : Nat) => beNat ((g.drop i).take n)
  let dev := at_ 6 2 / 64
  let seq := at_ 12 4
  let kind := at_ 32 1
  let recent := d.fire.relays.filter (fun r => decide (d.now < r.2.2 + 10000000000))
  let ok := d.is Reg.FWT_CFG_RELAYRX && at_ 4 2 == d.get Reg.SYS_DEVID_SYSID && dev != d.get Reg.SYS_DEVID_DEVID
    && !recent.any (fun r => r.1 == dev && r.2.1 == seq) && decide (1 ≤ kind) && decide (kind ≤ 5)
  if d.held 1 then d
  else if !ok then d.incSat Reg.FWT_RLYCNT_DROPPED 1
  else
    let d := ({ d with fire := { d.fire with relays := (dev, seq, d.now) :: recent } }).incSat Reg.FWT_RLYCNT_ACCEPTED 1
    d.fwSend { input := 300 + p, lane := at_ 8 1, hearth := at_ 34 1, role := 3, tag := at_ 36 2 % 4096, word := BitVec.ofNat 32 (at_ 40 4),
               start := kind ≤ 2, late := at_ 33 1 % 2 == 1, peer := some dev }

/-- A frame that is sent to the port and passes the tag check (R346). -/
def Dev.rxPasses (d : Dev) (p : Nat) (f : RxFrame) : Bool :=
  (if d.is (Reg.FLU_CTL_RXTAG p) then f.vid == some (d.get (Reg.FLU_CTL_RXVID p)) && f.etype != 0x8100 else f.vid.isNone) &&
  (f.dmac == macBytes (d.rd (Reg.FLU_MAC_LO p)) (d.rd (Reg.FLU_MAC_HI p)) || f.dmac == [0x01, 0x1B, 0x19, 0x00, 0x00, 0x00]
    || ((d.groups p).map groupMac).contains f.dmac)

/-- PORT_FRAME_RX: a frame from the destination address to the FCS. A PTP frame's contents reach the clock as
PTP_EVENT_MESSAGE. -/
def Dev.frameRx (d : Dev) (p : Nat) (bs : List Byte) : Dev :=
  let body := bs.take (bs.length - 4)
  if bs.length < 64 ∨ 1518 < bs.length ∨ leNat (bs.drop (bs.length - 4)) ≠ (crc32 body).toNat then d.incWordSat (Reg.FLU_RXERR p) 1
  else
    let d := d.incWordSat (Reg.FLU_RXFRAMES p) 1
    let f := parseFrame bs
    if !d.rxPasses p f then d.incWordSat (Reg.FLU_RXFILT p) 1
    else if d.ptpFrame p f then d
    else match d.relayFrame p f with
      | none => d.incWordSat (Reg.FLU_RXFILT p) 1
      | some g =>
        let x := d.fport p
        if x.relayAt ≠ 0 ∧ d.now < x.relayAt - 1 + 200 then d.incWordSat (Reg.FLU_RXFILT p) 1
        else (d.setFport p { x with relayAt := d.now + 1 }).relayIn_ p g

def execPortFrameRx (p : Nat) (bytes : List Byte) (s : State) : Host.Outcome State Fault Refusal :=
  s.onPort p (fun d => if p < 2 ∧ d.portUp p then d.frameRx p bytes else d)

/-! ## The apply of a stream table (R329) -/

/-- Entry `e` after its page applied, from its first and fourth word before. -/
def Dev.entApplied (d : Dev) (p e : Nat) (w0 w3 : Word) : Dev :=
  let was := bit w0 31
  let on := d.entOn p e
  if was && !on then d.entryStop p e
  else if !was && on then d.entryStart p e
  else if !on then d
  else if (w0 ^^^ d.rd (entAddr p e 0)) &&& 0x7F177F00 ≠ 0 then (d.entryStop p e).entryStart p e
  else if w3 ≠ d.rd (entAddr p e 3) then
    d.setDamper p e { d.damper p e with tokens := (d.ent p e 3 15 0 * 8000 : Nat), tokAt := d.now }
  else d

end Sys2Proof.Machine
end

