-- ==== Sys2Proof/Machine/SfpMod.lean ====
section
/-! DEFINITION. SFP+ modules (R353 to R355) and the apply of a port page. -/

namespace Sys2Proof.Machine

def Dev.updSfp (d : Dev) (p : Nat) (f : Sfp → Sfp) : Dev :=
  d.setFport p { d.fport p with sfp := f (d.fport p).sfp }

/-- A quotient whose rounding the spec does not state: exact where it divides, else one of its two neighbours (log 7). -/
def Dev.divFree (d : Dev) (n m : Int) : Int × Dev :=
  if m = 0 ∨ n % m = 0 then (n / m, d)
  else
    let (w, d) := d.fresh
    (n / m + (w.toNat % 2 : Nat), d)

/-- SFPn_TXDIS follows R353 and R529. -/
def Dev.sfpDrive (d : Dev) (p : Nat) : Dev :=
  let low := d.is (Reg.FLU_CTL_EN p) && d.is (Reg.FLU_CTL_TXEN p) && d.is (Reg.FLU_LINK_MOD p) && !d.is (Reg.FLU_LINK_TXFLTL p)
    && !(d.fport p).sfp.pulse && !d.sfpLow
  (d.set (Reg.FLU_LINK_TXDIS p) (b2n !low)).drive (.sfpTxdis p) (!low)

/-- The baseline in use (R355): what the host wrote for this module, else what was measured. -/
def Sfp.base (x : Sfp) : Option Nat := if x.hostB0.isSome && x.sn == some x.hostSn then x.hostB0 else x.known

/-- BKNOWN, FLU_SFPB0 and FLU_SFPSN show the baseline and the module. -/
def Dev.sfpShow (d : Dev) (p : Nat) : Dev :=
  let x := (d.fport p).sfp
  let mod_ := d.is (Reg.FLU_LINK_MOD p)
  let b := if mod_ then x.base else none
  let d := ((d.set (Reg.FLU_SFPSTAT_BKNOWN p) (b2n b.isSome)).set (Reg.FLU_SFPB0_BVALID p) (b2n b.isSome)).set (Reg.FLU_SFPB0_B0 p) (b.getD 0)
  d.wr (Reg.FLU_SFPSN p) (if mod_ then x.sn.getD 0 else 0)

/-- Writes of FLU_SFPB0 and FLU_SFPSN by the host. -/
def Dev.sfpB0Write (d : Dev) (p : Nat) (w : Word) : Dev :=
  (d.updSfp p (fun x => { x with hostB0 := if bit w 31 then some (getBits w 15 0) else none })).sfpShow p
def Dev.sfpSnWrite (d : Dev) (p : Nat) (w : Word) : Dev := (d.updSfp p (fun x => { x with hostSn := w })).sfpShow p

/-- Bytes into a byte copy of a port page. -/
def Dev.sfpCopy (d : Dev) (base words : Nat) (bs : List Byte) : Dev :=
  (List.range words).foldl (fun d k =>
    d.wr (base + 4 * k) (wordOfBytes (bs.getD (4 * k) 0) (bs.getD (4 * k + 1) 0) (bs.getD (4 * k + 2) 0) (bs.getD (4 * k + 3) 0))) d

def sumBytes (bs : List Byte) : Nat := bs.foldl (fun n b => n + b.toNat) 0

/-- The identifier, CC_BASE and CC_EXT of A0h (R354; the places of the checks are SFF-8472's). -/
def idOk (a0 : List Byte) : Bool :=
  a0.getD 0 0 == 3 && sumBytes (a0.take 63) % 256 == (a0.getD 63 0).toNat && sumBytes ((a0.drop 64).take 31) % 256 == (a0.getD 95 0).toNat

/-- A module has been present for 300 ms and A0h has been read. -/
def Dev.sfpIn (d : Dev) (p : Nat) (a0 : List Byte) : Dev :=
  let ok := idOk a0
  let sn := crc32 ((List.range 16).map (fun i => a0.getD (68 + i) 0))
  let d := d.sfpCopy (Reg.FLU_SFPA0 p 0) 24 a0
  let d := d.updSfp p (fun x => if x.sn = some sn then x else { x with sn := some sn, known := none, days := [], sum := 0, cnt := 0 })
  let d := if (d.fport p).sfp.days.isEmpty then d.wr (Reg.FLU_SFPLIFE p) (regReset (Reg.FLU_SFPLIFE p)) else d
  let d := (d.set (Reg.FLU_LINK_MOD p) 1).set (Reg.FLU_SFPSTAT_BADID p) (b2n !ok)
  let d := d.set (Reg.FLU_SFPSTAT_DDM p) (b2n (ok && (a0.getD 92 0).getLsbD 6))
  (d.raise (Reg.FLU_EVT p) 6 |> fun d => if ok then d else d.raise (Reg.FLU_EVT p) 10).sfpShow p |>.sfpDrive p

/-- MODABS has gone high. -/
def Dev.sfpOut (d : Dev) (p : Nat) : Dev :=
  let d := (d.sfpCopy (Reg.FLU_SFPA0 p 0) 24 []).sfpCopy (Reg.FLU_SFPA2 p 0) 30 []
  let d := ((d.set (Reg.FLU_LINK_MOD p) 0).wr (Reg.FLU_SFPSTAT p) 0).wr (Reg.FLU_SFPDDM p) 0
  ((d.raise (Reg.FLU_EVT p) 7).sfpShow p).sfpDrive p

/-- SFP_MODULE_CHANGE: insertion, with the bytes of A0h, or removal. -/
def execSfpModuleChange (p : Nat) (present : Bool) (a0 : List Byte) (s : State) : Host.Outcome State Fault Refusal :=
  s.onPort p (fun d =>
    if 2 ≤ p ∨ d.is (Reg.FLU_LINK_MOD p) = present then d else if present then d.sfpIn p a0 else d.sfpOut p)

/-- A module reset, or the latch after three of them within 60 s (R353). -/
def Dev.txFault (d : Dev) (p : Nat) : Dev :=
  let x := (d.fport p).sfp
  let recent := x.resets.filter (fun t => decide (d.now < t + 60000000000))
  if d.is (Reg.FLU_LINK_TXFLTL p) ∨ x.pulse then d
  else if 3 ≤ recent.length then
    (((d.set (Reg.FLU_LINK_TXFLTL p) 1).updSfp p (fun x => { x with resets := recent, cleared := false })).sfpDrive p).raise (Reg.FLU_EVT p) 5
      |>.sootE 1 (8 + p) 0x7001 p
  else (d.updSfp p (fun x => { x with resets := d.now :: recent, pulse := true })).sfpDrive p

/-- SFP_TXFAULT: SFPn_TXFLT rises. -/
def execSfpTxfault (p : Nat) (s : State) : Host.Outcome State Fault Refusal :=
  s.onPort p (fun d => if p < 2 then (d.set (Reg.FLU_LINK_TXFLT p) 1).txFault p else d)

/-- SFP_TXDIS_PULSE_END: 10 ms have passed; `fault` is the level of SFPn_TXFLT now. -/
def execSfpTxdisPulseEnd (p : Nat) (fault : Bool) (s : State) : Host.Outcome State Fault Refusal :=
  s.onPort p (fun d =>
    if p < 2 ∧ (d.fport p).sfp.pulse then
      let d := ((d.updSfp p (fun x => { x with pulse := false })).set (Reg.FLU_LINK_TXFLT p) (b2n fault)).sfpDrive p
      if fault then d.txFault p else d
    else d)

/-! ## Diagnostics and wear (R354, R355) -/

/-- The big-endian half-word at byte `i`. -/
def half (bs : List Byte) (i : Nat) : Nat := (bs.getD i 0).toNat * 256 + (bs.getD (i + 1) 0).toNat

/-- A reading with an external calibration: slope (8.8, unsigned) × raw + offset (signed), SFF-8472 (log 8). -/
def Dev.extCal (d : Dev) (slope offset : Nat) (raw : Int) : Int × Dev :=
  let (q, d) := d.divFree (slope * raw) 256
  (q + toSigned 16 offset, d)

/-- A2h was read: its copy, bias and temperature, the alarm flags. -/
def Dev.sfpPoll (d : Dev) (p : Nat) (a2 : List Byte) : Dev :=
  let d := d.sfpCopy (Reg.FLU_SFPA2 p 0) 30 a2
  let ext := bit (d.rd (Reg.FLU_SFPA0 p 23)) 4
  let (bias, d) := if ext then d.extCal (half a2 76) (half a2 78) (half a2 100) else ((half a2 100 : Int), d)
  let (temp, d) := if ext then d.extCal (half a2 84) (half a2 86) (toSigned 16 (half a2 96)) else (toSigned 16 (half a2 96), d)
  let b := ofSigned 16 bias
  let d := (d.set (Reg.FLU_SFPDDM_BIAS p) b).setI (Reg.FLU_SFPDDM_TEMP p) temp
  let d := d.set (Reg.FLU_SFPSTAT_ALARMS p) (half a2 112)
  let d := if d.is (Reg.FLU_LINK_TXDIS p) then d else d.updSfp p (fun x => { x with sum := x.sum + b, cnt := x.cnt + 1 })
  if half a2 112 = 0 then d else d.raise (Reg.FLU_EVT p) 8

/-- A module with diagnostics is in the cage. -/
def Dev.sfpDdm (d : Dev) (p : Nat) : Bool := d.is (Reg.FLU_LINK_MOD p) && d.is (Reg.FLU_SFPSTAT_DDM p)

/-- SFP_DIAG_POLL: a poll of the module has read A2h over AUX1 or AUX2, in its turn (R354, R412). -/
def execSfpDiagPoll (p : Nat) (a2 : List Byte) (s : State) : Host.Outcome State Fault Refusal :=
  s.onPort p (fun d => if p < 2 ∧ d.sfpDdm p ∧ d.pollTurn (p + 1) then (d.sfpPoll p a2).pollDone (p + 1) else d)

/-- The numerator and the denominator of the least-squares slope of daily means, oldest first. -/
def slopeOf (ys : List Nat) : Int × Int :=
  let n := ys.length
  let xs := List.range n
  let sx := xs.foldl (· + ·) 0
  let sy := ys.foldl (· + ·) 0
  let sxy := (xs.zip ys).foldl (fun t c => t + c.1 * c.2) 0
  let sxx := xs.foldl (fun t x => t + x * x) 0
  ((n * sxy : Nat) - (sx * sy : Nat), (n * sxx : Nat) - (sx * sx : Nat))

/-- WEAR (R355); free where the threshold equals the baseline. -/
def Dev.wearOf (d : Dev) (b0 : Option Nat) (bd hi : Nat) : Nat × Dev :=
  match b0 with
  | none => (0, d)
  | some b =>
    if hi = b then
      let (w, d) := d.fresh
      (w.toNat % 101, d)
    else
      let (q, d) := d.divFree (100 * ((bd : Int) - b) * (if hi < b then -1 else 1)) ((hi : Int) - b).natAbs
      ((clampI 0 100 q).toNat, d)

/-- DAYS (R355); free where a rising bias already lies above the threshold. -/
def Dev.daysOf (d : Dev) (ys : List Nat) (bd hi : Nat) : Nat × Dev :=
  let s := slopeOf ys
  if ys.length < 7 then (0xFFFE, d)
  else if s.1 ≤ 0 then (0xFFFF, d)
  else if hi < bd then
    let (w, d) := d.fresh
    (w.toNat % 0xFFFE, d)
  else
    let (q, d) := d.divFree (((hi : Int) - bd) * s.2) s.1
    ((clampI 0 0xFFFD q).toNat, d)

/-- A day of laser-on time completes. -/
def Dev.sfpDay (d : Dev) (p : Nat) : Dev :=
  let x := (d.fport p).sfp
  let (mean, d) := d.divFree x.sum x.cnt
  let bd := mean.toNat
  let days := (x.days ++ [bd]).drop (x.days.length - 29)
  let d := (d.updSfp p (fun x => { x with days := days, known := x.known.or (some bd), sum := 0, cnt := 0 })).sfpShow p
  let a2 := d.regBytes (Reg.FLU_SFPA2 p 0) 30
  let hi := half a2 16
  let (wear, d) := d.wearOf (d.fport p).sfp.base bd hi
  let (left, d) := d.daysOf days bd hi
  let d := ((d.set (Reg.FLU_SFPLIFE_WEAR p) wear).set (Reg.FLU_SFPLIFE_NDAYS p) days.length).set (Reg.FLU_SFPLIFE_DAYS p) left
  if left < d.get (Reg.FLU_SFPCFG_WARNDAYS p) ∨ 80 ≤ wear then d.raise (Reg.FLU_EVT p) 9 else d

def execSfpDailyUpdate (p : Nat) (s : State) : Host.Outcome State Fault Refusal :=
  s.onPort p (fun d => if p < 2 ∧ d.sfpDdm p ∧ (d.fport p).sfp.cnt ≠ 0 then d.sfpDay p else d)

/-! ## The apply of a port page (R348, R353) -/

/-- What the apply of F0's or F1's port page does: a disabled port goes down, TXEN 0 then 1 clears the fault latch, reports
are sent. -/
def Dev.portApplied (d : Dev) (p : Nat) : Dev :=
  let d := if d.is (Reg.FLU_CTL_EN p) then d else d.linkChange p false false false (d.is (Reg.FLU_LINK_RXLOS p))
  let d := if !d.is (Reg.FLU_LINK_TXFLTL p) then d
    else if !d.is (Reg.FLU_CTL_TXEN p) then d.updSfp p (fun x => { x with cleared := true })
    else if (d.fport p).sfp.cleared then (d.set (Reg.FLU_LINK_TXFLTL p) 0).updSfp p (fun x => { x with cleared := false, resets := [] })
    else d
  (d.sfpDrive p).sendReports p

end Sys2Proof.Machine
end

