-- ==== Sys2Proof/Machine/PtpPps.lean ====
section
/-! DEFINITION. The PTP clock (R349 to R351) and the PPS input (R352, R460). -/

namespace Sys2Proof.Machine

def Dev.updPtp (d : Dev) (f : Ptp → Ptp) : Dev := { d with ptp := f d.ptp }

/-- The PTP port in use. -/
def Dev.ptpPort (d : Dev) : Nat := d.get Reg.FLU_PTPSTAT_PORTNOW

/-- A PTP message joins its port's queue ahead of the reports (R327). -/
def Dev.ptpSend (d : Dev) (kind seq t : Nat) : Dev :=
  let p := d.ptpPort
  let x := d.fport p
  let isPtp : Ctrl → Bool := fun c => match c with | .ptp _ _ _ => true | .report _ _ => false
  if d.portUp p then d.setFport p { x with ctrl := x.ctrl.filter isPtp ++ [.ptp kind seq t] ++ x.ctrl.filter (fun c => !isPtp c) } else d

/-- Latency corrections of the port, in 0.1 ns (R350). -/
def Dev.latTx (d : Dev) : Nat := getBits (d.rd (Reg.FLU_PTPLAT d.ptpPort)) 31 16
def Dev.latRx (d : Dev) : Nat := getBits (d.rd (Reg.FLU_PTPLAT d.ptpPort)) 15 0

/-- DEVTIME moved by an amount in 0.1 ns. -/
def Dev.timeStep (d : Dev) (tenths : Int) : Dev :=
  let n := (((d.devtime * 2 ^ 32 + d.clk.frac : Nat) : Int) + tenths * 4294967296 / 10).toNat
  { d with devtime := n / 2 ^ 32 % 2 ^ 64, clk := { d.clk with frac := n % 2 ^ 32 } }

/-- The servo's use of a Sync's offset (R351): the filter and the loop are not stated, so the filtered offset and the trim are
free; a master more than 1 ms away is reached by a step or a slew. `e` is the offset in 0.1 ns. -/
def Dev.servo (d : Dev) (e : Int) : Dev :=
  let (w, d) := d.fresh
  let o := w.toInt
  let d := d.wr Reg.FLU_PTPOFS w
  let near := decide (o.natAbs ≤ 100)
  let d := d.updPtp (fun x => { x with good := if near then x.good + 1 else 0 })
  let d := if 1000 ≤ o.natAbs then d.ptpLocked false else if 16 ≤ d.ptp.good then d.ptpLocked true else d
  if d.get Reg.CLK_TIMECFG_SRC ≠ 1 then d
  else if 10000000 < e.natAbs then
    if d.timeFree then (d.timeStep (-e)).raise Reg.FLU_SEVT 2 else d.slewBy (-(e / 10)) 0
  else
    let (t, d) := d.fresh
    d.setI ⟨Reg.CLK_TRIMUSE, 31, 0⟩ (clampI (-21474836) 21474836 t.toInt)

/-- A port state of the clock (R349): a slave-only clock serves nobody, a master-only one follows nobody; a clock that is not
a slave is not locked. -/
def Dev.ptpState (d : Dev) (st : Nat) : Dev :=
  let mode := d.get Reg.FLU_PTPCFG_MODE
  if st = 0 ∨ 7 < st ∨ (mode = 0 ∧ st = 5) ∨ (mode = 1 ∧ (st = 3 ∨ st = 4)) then d
  else
    let d := d.set Reg.FLU_PTPSTAT_STATE st
    if st = 4 then d else (d.updPtp (fun x => { x with good := 0 })).ptpLocked false

/-- A message at the PTP port. -/
def Dev.ptpMsg (d : Dev) (m : PtpMsg) : Dev :=
  let st := d.get Reg.FLU_PTPSTAT_STATE
  match m with
  | .sync t1 t2 =>
    if st ≠ 3 ∧ st ≠ 4 then d
    else
      let t2 := t2 - d.latRx
      let d := d.updPtp (fun x => { x with t1 := t1, t2 := t2 })
      d.servo ((t2 : Int) - t1 - 10 * (d.rd Reg.FLU_PTPDLY).toNat)
  | .delayReqSent t3 => if st ≠ 3 ∧ st ≠ 4 then d else d.updPtp (fun x => { x with t3 := t3 + d.latTx })
  | .delayResp t4 =>
    if st ≠ 3 ∧ st ≠ 4 then d
    else
      let (q, d) := d.divFree ((d.ptp.t2 : Int) - d.ptp.t1 + t4 - d.ptp.t3) 20
      d.setI Reg.FLU_PTPDLY_DELAY q
  | .delayReqRx seq t => if st = 5 then d.ptpSend 3 seq (t - d.latRx) else d
  | .syncSent t => if st = 5 then d.ptpSend 1 (d.ptp.seqSync - 1) (t + d.latTx) else d
  | .announce gm st' =>
    let d := if d.rd64 Reg.FLU_PTPGM_LO Reg.FLU_PTPGM_HI = gm % 2 ^ 64 then d
      else (d.wr64 Reg.FLU_PTPGM_LO Reg.FLU_PTPGM_HI gm).raise Reg.FLU_SEVT 4
    d.ptpState st'

/-- The PTP clock runs. -/
def Dev.ptpOn (d : Dev) : Bool := d.get Reg.FLU_PTPSTAT_STATE != 0

/-- PTP_EVENT_MESSAGE. -/
def execPtpEventMessage (m : PtpMsg) (s : State) : Host.Outcome State Fault Refusal :=
  s.onBlock 8 (fun d => if d.ptpOn then d.ptpMsg m else d)

/-- PTP_SYNC_TIMER: an interval of Sync (0), Delay_Req (2) or Announce (4) expires. -/
def Dev.ptpTimer (d : Dev) (kind : Nat) : Dev :=
  let st := d.get Reg.FLU_PTPSTAT_STATE
  match kind with
  | 0 => if st = 5 then (d.ptpSend 0 d.ptp.seqSync 0).updPtp (fun x => { x with seqSync := x.seqSync + 1 }) else d
  | 2 => if st = 3 ∨ st = 4 then (d.ptpSend 2 d.ptp.seqReq 0).updPtp (fun x => { x with seqReq := x.seqReq + 1 }) else d
  | 4 => if st = 5 then (d.ptpSend 4 d.ptp.seqAnn 0).updPtp (fun x => { x with seqAnn := x.seqAnn + 1 }) else d
  | _ => d

def execPtpSyncTimer (kind : Nat) (s : State) : Host.Outcome State Fault Refusal := s.onBlock 8 (fun d => d.ptpTimer kind)

/-- PTP_PORT_FAILOVER: the port has been down for 2 s (R349). -/
def Dev.ptpFailover (d : Dev) : Dev :=
  let p := d.ptpPort
  if d.ptpOn ∧ d.is Reg.FLU_PTPCFG_AUTOPORT ∧ d.part.hasF1 ∧ !d.portUp p ∧ (d.fport p).downAt - 1 + 2000000000 ≤ d.now then
    (d.set Reg.FLU_PTPSTAT_PORTNOW (1 - p)).raise Reg.FLU_SEVT 3
  else d

def execPtpPortFailover (s : State) : Host.Outcome State Fault Refusal := s.onBlock 8 (fun d => d.ptpFailover)

/-! ## PPS_IN (R352, R460) -/

/-- PPSLOCK: its changes are events. -/
def Dev.ppsLock (d : Dev) (v : Bool) : Dev :=
  if d.is Reg.CLK_TSTAT_PPSLOCK = v then d else (d.set Reg.CLK_TSTAT_PPSLOCK (b2n v)).clkEvt 10

/-- The loop of R460 within its 100 ppm: its arithmetic is not stated, so the trim it sets is free. -/
def Dev.ppsLoop (d : Dev) : Dev :=
  let (t, d) := d.fresh
  d.setI ⟨Reg.CLK_TRIMUSE, 31, 0⟩ (clampI (-4294967) 4294967 t.toInt)

/-- PPSLOCK after an edge the servo used, `e` in 0.1 ns. -/
def Dev.ppsCount (d : Dev) (e : Int) : Dev :=
  let d := d.updPtp (fun x => { x with ppsGood := if e.natAbs < 1000 then x.ppsGood + 1 else 0 })
  if 10000 < e.natAbs then d.ppsLock false else if 16 ≤ d.ptp.ppsGood then d.ppsLock true else d

/-- A first edge (R460). -/
def Dev.ppsFirst (d : Dev) (e : Int) : Dev :=
  let d := d.updClk (fun c => { c with ppsFirst := false, ppsBad := 0 })
  if e.natAbs ≤ 10000000 then (d.ppsLoop).ppsCount e
  else if d.timeFree then ((d.timeStep (-e)).clkEvt 9).ppsCount e
  else ((d.slewBy (-(e / 10)) 100).updClk (fun c => { c with ppsSlew := true })).ppsLock false

/-- An edge in the hands of the servo. -/
def Dev.ppsServo (d : Dev) (e : Int) : Dev :=
  let lock := d.is Reg.CLK_TSTAT_PPSLOCK
  let far := decide (100000000 < e.natAbs)
  if d.clk.ppsSlew && d.is Reg.CLK_TSTAT_SLEWING then
    if far then d.slewBy (-(e / 10)) 100
    else (((d.slewStop).updClk (fun c => { c with ppsSlew := false })).ppsLoop).ppsCount e
  else if d.clk.ppsFirst || (far && !lock) then d.ppsFirst e
  else if far then
    let d := (d.incSat Reg.CLK_CNT_PPSREJ 1).updClk (fun c => { c with ppsBad := c.ppsBad + 1 })
    if 4 ≤ d.clk.ppsBad then d.updClk (fun c => { c with ppsFirst := true }) else d
  else ((d.updClk (fun c => { c with ppsBad := 0 })).ppsLoop).ppsCount e

/-- PPS_IN_EDGE at DEVTIME, `sub` tenths of a nanosecond after the tick. -/
def Dev.ppsEdge (d : Dev) (sub : Nat) : Dev :=
  let t := d.devtime * 10 + sub % 100
  let near := (t + 5000000000) / 10000000000 * 10000000000
  let d := (d.wr64 Reg.FLU_PPSIN_LO Reg.FLU_PPSIN_HI (t / 10)).raise Reg.FLU_SEVT 5
  let d := d.updPtp (fun x => { x with ppsAt := d.now + 1 })
  if d.get Reg.CLK_TIMECFG_SRC = 2 then d.ppsServo ((t : Int) - near) else d

def execPpsInEdge (sub : Nat) (s : State) : Host.Outcome State Fault Refusal :=
  s.onBlock 8 (fun d => if d.is Reg.FLU_PPSCFG_INEN then d.ppsEdge sub else d)

/-- PPS_TIMEOUT: no edge for 1.5 s. TRIM stays as it is. -/
def execPpsTimeout (s : State) : Host.Outcome State Fault Refusal :=
  s.onDev (fun d =>
    if d.get Reg.CLK_TIMECFG_SRC = 2 ∧ d.ptp.ppsAt - 1 + 1500000000 ≤ d.now then (d.updPtp (fun x => { x with ppsGood := 0 })).ppsLock false
    else d)

/-! ## PPS_OUT (R352) and the apply of the shared page -/

/-- PPS_OUT at a time tick: up at a second boundary, WIDTH ms long. `before` is DEVTIME before the tick. -/
def Dev.ppsOutTick (d : Dev) (before : Nat) : Dev :=
  if d.held 8 then d
  else if !d.is Reg.FLU_PPSCFG_OUTEN ∨ (d.is Reg.FLU_PPSCFG_QUAL ∧ !d.is Reg.FLU_PTPSTAT_LOCKED) then
    (d.updPtp (fun x => { x with ppsOut := false })).drive .ppsOut false
  else if before / 1000000000 ≠ d.devtime / 1000000000 then
    (d.updPtp (fun x => { x with ppsOut := true, ppsFall := d.devtime / 1000000000 * 1000000000 + d.get Reg.FLU_PPSCFG_WIDTH * 1000000 })).drive .ppsOut true
  else if d.ptp.ppsOut ∧ d.ptp.ppsFall ≤ d.devtime then (d.updPtp (fun x => { x with ppsOut := false })).drive .ppsOut false
  else d

/-- What the apply of the shared page does, from FLU_PTPCFG before it. -/
def Dev.ptpApplied (d : Dev) (old : Word) : Dev :=
  let w := d.rd Reg.FLU_PTPCFG
  if getBits w 31 28 ≠ getBits old 31 28 then d.ptpStart else d

end Sys2Proof.Machine
end

