-- ==== Sys2Proof/Machine/Validate.lean ====
section
/-! DEFINITION. The checks of a captured page (R59, R65) and of a lane's load (R251, R252, R309). -/

namespace Sys2Proof.Machine

/-! ## The values a page will have -/

/-- The word an address will have once everything captured has applied: that of the last capture that waits, else the
active one. -/
def Dev.pend (d : Dev) (a : Nat) : Word :=
  match d.captures.reverse.find? (fun c => c.page == pageOf a && (SMap.find? a c.words).isSome) with
  | some c => mergeMask (rwbMask a) (d.rd a) ((SMap.find? a c.words).getD 0)
  | none => d.rd a

/-- A field of it. -/
def Dev.pf (d : Dev) (f : Fld) : Nat := getBits (d.pend f.addr) f.hi f.lo
def Dev.pis (d : Dev) (f : Fld) : Bool := d.pf f == 1
def Dev.pfI (d : Dev) (f : Fld) : Int := toSigned (f.hi + 1 - f.lo) (d.pf f)

/-! ## One field, one word -/

/-- The flue port of a stream table page, with the number of the page's first entry. -/
def tablePage : Nat → Option (Nat × Nat)
  | 0x301000 => some (0, 0)
  | 0x302000 => some (0, 64)
  | 0x309000 => some (1, 0)
  | 0x30A000 => some (1, 64)
  | 0x30D000 => some (2, 0)
  | 0x30E000 => some (2, 64)
  | _ => none

/-- The port bits of an entry of port `p`: its own alone (R328). -/
def ownPort (p : Nat) : Nat := if p = 0 then 4 else if p = 1 then 2 else 1

/-- Word `k` of an enabled stream table entry of port `p` (R328). -/
def entWordOk (part : Part) (p k : Nat) (w : Word) : Bool :=
  match k with
  | 0 => getBits w 30 28 == ownPort p && (getBits w 27 26 == 0 || getBits w 27 26 == 2) && getBits w 25 24 != 3
      && decide (getBits w 14 8 < part.lanes)
  | 2 => getBits w 25 16 != 0
  | 3 => decide (getBits w 31 16 ≤ 10000)
  | _ => true

/-- A route word names what exists, or a form of R365. -/
def routeAbsent (part : Part) (w : Word) : Bool :=
  (getBits w 31 30 == 1 && decide (part.lanes ≤ getBits w 22 16)) || (getBits w 31 30 == 2 && decide (part.audio ≤ getBits w 22 16))
def routeOk (w : Word) : Bool :=
  match getBits w 31 30 with
  | 1 => decide (getBits w 11 8 ≤ 3)
  | 2 => getBits w 14 12 == 0
  | _ => getBits w 22 16 == 0 && getBits w 14 12 == 0 && getBits w 11 8 == 0

/-- EMB_CFG.FREQ lies in its ranges. -/
def emberFreq (f : Nat) : Bool := (decide (130 ≤ f) && decide (f ≤ 200)) || (decide (520 ≤ f) && decide (f ≤ 780))

/-- A word's own buffered fields at an address: the stated range of each (R59, R65). SRC 5 to 7 of CAP_SNAPCFG is rejected with MODE
LANE too (R128; log 109). -/
def Dev.wordOk (d : Dev) (a : Nat) (w : Word) : Bool :=
  if 0x51000 ≤ a ∧ a < 0x5D000 then
    (a % 0x20 != 0) || !bit w 31 || decide (getBits w 23 20 ≤ 11)
  else match tablePage (pageOf a) with
    | some (p, base) =>
      let e := base + a % 0x1000 / 0x20
      if 64 ≤ a % 0x1000 / 0x20 then wordLegal a w
      else (if a % 0x20 = 0 then !bit w 31 else !bit (d.pend (entAddr p e 0)) 31) || entWordOk d.part p (a % 0x20 / 4) w
    | none =>
      wordLegal a w &&
        (if a = Reg.CLK_TRIM then decide ((toSigned 32 w.toNat).natAbs ≤ 21474836)
        else if a < 0x30000 then true
        else if a = Reg.FWT_TW_CFG 0 ∨ a = Reg.FWT_TW_CFG 1 ∨ a = Reg.FWT_TW_CFG 2 ∨ a = Reg.FWT_TW_CFG 3 then
          decide (getBits w 29 23 < d.part.lanes)
        else if a = Reg.FLU_PTPCFG then
          (d.part.hasF1 || !bit w 28) && decide (-4 ≤ toSigned 4 (getBits w 7 4)) && decide (toSigned 4 (getBits w 7 4) ≤ 1)
            && decide (-4 ≤ toSigned 4 (getBits w 3 0)) && decide (toSigned 4 (getBits w 3 0) ≤ 5)
        else if a = Reg.AUD_TONE_F then getBits w 15 0 == 0 || (decide (100 ≤ getBits w 15 0) && decide (getBits w 15 0 ≤ 4000))
        else if 0x311000 ≤ a ∧ a < 0x319000 ∧ 0x100 ≤ a % 0x1000 ∧ a % 0x1000 < 0x140 then !routeAbsent d.part w && routeOk w
        else if a = Reg.AUX_CFG 1 ∨ a = Reg.AUX_CFG 2 then getBits w 30 29 != 2
        else if a = Reg.SMK_RXCFG ∨ a = Reg.SMK_PGCFG then chanOk (getBits w 11 0)
        else if a = Reg.EMB_CFG then emberFreq (getBits w 9 0)
        else true)

/-- Every captured word of a page. -/
def Dev.wordsOk (d : Dev) (p : Nat) : Bool :=
  ((d.captures.filter (fun c => c.page == p)).flatMap (·.words)).all (fun c => d.wordOk c.1 (d.pend c.1))

/-! ## The load of a lane (R251, R252, R309) -/

/-- An image lies within the device's epochs (R249, R250). -/
def Dev.inEpoch (d : Dev) (slot : Nat) : Bool :=
  let within := fun (lo hi v : Nat) => decide (d.imgByte slot lo ≤ v) && decide (v ≤ d.imgByte slot hi)
  within 8 9 (d.get Reg.PST_EPOCH_SILICON) && within 10 11 (d.get Reg.PST_EPOCH_ABI) && within 12 13 (d.get Reg.PST_EPOCH_HOB)

/-- The checks of R251 on a named slot, in their order, from the lane's LPB byte 0; 0 when none fails. -/
def Dev.loadCheck (d : Dev) (slot lpb0 : Nat) : Nat :=
  match d.slotState slot with
  | 4 => 0x33
  | 2 =>
    if d.get (Reg.PST_SLOT_TYPE slot) ≠ 1 then 0x31
    else if !d.inEpoch slot then 0x32
    else if d.imgStd slot ≠ 0 ∧ lpb0 ≠ d.imgStd slot then 0x34
    else 0
  | _ => 0x30

/-- Pages a start of lane `n` takes beyond what the lane holds (R306, R309). -/
def Dev.startNeed (d : Dev) (n slot : Nat) : Nat :=
  bkPagesFor (max (d.pf (Reg.LANE_BKLOG_LEN n)) (d.imgBklog slot)) (d.pf (Reg.GRT_LCFG_DLOG (n / 8) (n % 8)))
    + setPages (d.imgTiNeed slot)

/-- A start of the lane finds too few free pages, or an ashpit that is not ready (R309). -/
def Dev.noRoom (d : Dev) (n slot : Nat) : Bool :=
  !d.ready || decide (d.tiPages < d.tiUsed - d.laneTi n + d.startNeed n slot)

/-- A load is refused: LDSTAT and LDFAIL. -/
def Dev.loadRefused (d : Dev) (n st : Nat) : Dev := (d.set (Reg.LANE_PROG_LDSTAT n) st).raise (Reg.LANE_STAT n) 14

/-- The checks of a load, with LDNOMEM where the program is to start; `lpb0` is the LPB's byte 0. -/
def Dev.loadOk (d : Dev) (n slot lpb0 : Nat) (start : Bool) : Bool × Dev :=
  let st := d.loadCheck slot lpb0
  if st ≠ 0 then (false, d.loadRefused n st)
  else if start && d.noRoom n slot then (false, (d.allocFail 1 n (d.startNeed n slot)).loadRefused n 0x38)
  else (true, d)

/-- A lane page: its words, and its load check when EN = 1 is captured with a program that is not the running one. -/
def Dev.laneValid (d : Dev) (n : Nat) : Bool × Dev :=
  let ok := d.wordsOk (pageOf (Reg.LANE_CTL n))
  if d.pis (Reg.LANE_CTL_EN n) ∧ (d.pf (Reg.LANE_PROG_SLOT n) ≠ d.get (Reg.LANE_PROG_ACTIVE n) ∨ !d.is (Reg.LANE_CTL_EN n)) then
    let (load, d) := d.loadOk n (d.pf (Reg.LANE_PROG_SLOT n)) (getBits (d.pend (Reg.LANE_LPB n 0)) 7 0) true
    (ok && load, d)
  else (ok, d)

/-! ## The other pages -/

/-- A lane of a GRT lane page (R132, R135): checked only while its captured EN is 1. -/
def Dev.grateValid (d : Dev) (i j : Nat) : Bool :=
  let b := d.pf (Reg.GRT_LCFG_BIN i j)
  let n := d.pf (Reg.GRT_LCFG_NBINS i j)
  !d.pis (Reg.GRT_LCFG_EN i j) || (decide (d.pf (Reg.GRT_LCFG_DLOG i j) ≤ 11) && decide (b + n ≤ 511)
    && !spanBad (d.pf (Reg.GRT_LFREQ_W i j)) b (n + 1))

/-- The ashpit's usable capacity in MiB: from the parts once READY, before that from DENSITY (DEDUCED, log 9). -/
def Dev.usableMib (d : Dev) : Nat :=
  if d.ready then d.get Reg.ASH_STAT_USABLE else d.part.usable (d.pf Reg.ASH_DRAMCFG_DENSITY)

/-- A region is in use (R305). -/
def Dev.rgnInUse (d : Dev) (k : Nat) : Bool :=
  if k < 3 then !d.lanesOn.isEmpty || d.lanes.any (fun c => c.2.playout)
  else k == 3 && d.cap.snap.isSome

/-- A change that waits concerns region `k`: its ASH_RGN, ASH_CARCFG for CAR, LOWWATER for DRAW (R305). -/
def Dev.rgnChanges (d : Dev) (k : Nat) : Bool :=
  let moves := fun (a : Nat) => d.pend a != d.rd a
  moves (Reg.ASH_RGN k) || (k == 2 && moves Reg.ASH_CARCFG) || (k == 1 && moves Reg.ASH_DRAWCFG)

/-- Two regions overlap. -/
def overlap (b1 s1 b2 s2 : Nat) : Bool := s1 != 0 && s2 != 0 && decide (b1 < b2 + s2) && decide (b2 < b1 + s1)

/-- The layout of the regions is valid (R304). -/
def Dev.layoutOk (d : Dev) : Bool :=
  let base := fun k => d.pf (Reg.ASH_RGN_BASE k)
  let size := fun k => d.pf (Reg.ASH_RGN_SIZE k)
  (List.range 5).all (fun k => size k == 0 || decide (base k + size k ≤ d.usableMib))
    && (List.range 5).all (fun k => (List.range k).all (fun l => !overlap (base k) (size k) (base l) (size l)))
    && (size 2 == 0 || decide (d.pf Reg.ASH_CARCFG_PERLANE * d.part.lanes ≤ size 2 * 16))

/-- The ASH page (R304, R305). -/
def Dev.ashValid (d : Dev) : Bool × Dev :=
  let busy := (List.range 5).filter (fun k => d.rgnChanges k && d.rgnInUse k)
  let d := d.set Reg.ASH_STAT_RGNBUSY (busy.foldl (fun m k => m + 2 ^ k) 0)
  (busy.isEmpty && d.wordsOk 0x220000 && d.layoutOk, d)

/-- IQ entries that would be on, over the device (R328). -/
def Dev.iqPending (d : Dev) : Nat :=
  (d.ports.flatMap (fun p => (List.range 128).filter (fun e =>
    let w := d.pend (entAddr p e 0)
    bit w 31 && getBits w 27 26 == 2))).length

/-- A stream table page (R328). -/
def Dev.tableValid (d : Dev) (p base : Nat) : Bool :=
  (List.range 64).all (fun i =>
    let w := d.pend (entAddr p (base + i) 0)
    let r := d.pend (entAddr p (base + i) 3)
    !bit w 31 || ((List.range 4).all (fun k => entWordOk d.part p k (d.pend (entAddr p (base + i) k)))
      && (getBits w 27 26 != 2 || getBits w 25 24 == 2) && (getBits r 31 16 == 0 || decide (1518 ≤ getBits r 15 0))))
  && decide (d.iqPending ≤ 4)

/-- The feeds that would be in use (R367). -/
def Dev.feedsPending (d : Dev) : Nat :=
  (((List.range d.part.audio).filter (fun p => d.pis (Reg.AUD_CTL_EN p))).flatMap (fun p =>
    (List.range 16).filterMap (fun s => routeFeed (d.pend (Reg.AUD_ROUTE p s))))).eraseDups.length

/-- An audio port page (R366, R367): RJCODE says why it is rejected. -/
def Dev.audValid (d : Dev) (p : Nat) : Bool × Dev :=
  let absent := (List.range 16).any (fun s => routeAbsent d.part (d.pend (Reg.AUD_ROUTE p s)))
  let bad := !d.wordsOk (pageOf (Reg.AUD_CTL p)) || decide (d.pf (Reg.AUD_CTL_SWIDTH p) < d.pf (Reg.AUD_CTL_SAMPW p))
    || decide (32 < d.feedsPending)
  if absent then (false, d.set (Reg.AUD_STAT_RJCODE p) 0xFE)
  else if bad then (false, d.set (Reg.AUD_STAT_RJCODE p) 3)
  else (true, d)

/-- The smoke and ember page (R378, R384, R401). -/
def Dev.smokeValid (d : Dev) : Bool :=
  d.wordsOk 0x330000
    && (!d.pis Reg.SMK_PGCFG_PEN || (d.pageSet (d.pend Reg.SMK_PGCFG) (d.pend Reg.SMK_RADIO)).isSome)
    && (!d.pis Reg.EMB_CFG_EN || (d.pend Reg.EMB_PAT != 0 && d.pend Reg.EMB_PAT != 0xFFFFFFFF))

/-- Validation of a page whose shadows have been captured (R59): whether it passes, with what a failure records. -/
def Dev.pageValid (d : Dev) (p : Nat) : Bool × Dev :=
  if 0x51000 ≤ p ∧ p < 0x5D000 then ((List.range 8).all (fun j => d.grateValid ((p - 0x51000) / 0x1000) j), d)
  else if 0x100000 ≤ p ∧ p < 0x160000 then d.laneValid ((p - 0x100000) / 0x1000)
  else if p = 0x220000 then d.ashValid
  else if 0x311000 ≤ p ∧ p < 0x319000 then d.audValid ((p - 0x311000) / 0x1000)
  else if p = 0x330000 then (d.smokeValid, d)
  else match tablePage p with
    | some (q, base) => (d.tableValid q base, d)
    | none => (d.wordsOk p && (p != 0x40000 || !d.pis Reg.CAP_ROTCFG_AUTO || d.pf Reg.CAP_ROTCFG_PERIOD != 0), d)

end Sys2Proof.Machine
end

