-- ==== Sys2Proof/Machine/Commit.lean ====
section
/-! DEFINITION. Buffered writes: shadows, commit groups, immediate mode, and the apply of a page at its block's boundary
(R56 to R67, R143, R168, R178, R184, R189, R269). -/

namespace Sys2Proof.Machine

/-! ## What an apply does (R60) -/

/-- A host tripwire whose match ends because KIND, LANE, WORD, MASK or VAL changed (R269). -/
def Dev.tripApplied (d0 d : Dev) (t : Nat) : Dev :=
  let same := getBits (d0.rd (Reg.FWT_TW_CFG t)) 31 16 == getBits (d.rd (Reg.FWT_TW_CFG t)) 31 16 && d0.rd (Reg.FWT_TW_MASK t) == d.rd (Reg.FWT_TW_MASK t)
    && d0.rd (Reg.FWT_TW_VAL t) == d.rd (Reg.FWT_TW_VAL t)
  if !(d.trip t).eq || same then d
  else
    let d := d.tripEvent t (d0.get (Reg.FWT_TW_CFG_LANE t)) (trigWord (d.trip t).last false) false (d0.get (Reg.FWT_TW_CFG_TAG t))
    d.setTrip t {}

/-- The pin of a lane page ends with its apply (R242). -/
def Dev.unpin (d : Dev) (n : Nat) : Dev :=
  ({ d with store := { d.store with pins := SMap.put none d.store.pins n none } }).refreshSlots

/-- The previous active copy of a lane page is kept until the next checkpoint, with the sample of the apply; the bound hearth has it
behind it (R168). -/
def Dev.keepPrev (d0 d : Dev) (n : Nat) (keys : List Nat) : Dev :=
  let copy := keys.map (fun a => (a, d0.rd a))
  match d.bound n with
  | some h =>
    let d := d.updLane n (fun x => { x with prev := x.prev ++ [(copy, (d.hearth h).smp)] })
    d.updHearth h (fun x => { x with applied := (d.lane n).prev.length })
  | none => d

/-- A lane page has applied (R155, R156, R178, R184): EN, a new program, or new parameters for the running one. -/
def Dev.laneApplied (d0 d : Dev) (n : Nat) (keys : List Nat) (dmg : Damage) : Dev :=
  let was := d0.is (Reg.LANE_CTL_EN n)
  let en := d.is (Reg.LANE_CTL_EN n)
  let d := d.unpin n
  if en && (!was || d.get (Reg.LANE_PROG_SLOT n) != d.get (Reg.LANE_PROG_ACTIVE n)) then (d.abortMig n).laneStart n 0 dmg
  else if was && !en then d.laneStop n
  else (Dev.keepPrev d0 d n keys).refreshMargin

/-- A region of the ashpit whose base moved (R305): its contents are as those of memory nothing has written. -/
def Dev.rgnApplied (d0 d : Dev) (k : Nat) : Dev :=
  if d0.get (Reg.ASH_RGN_BASE k) = d.get (Reg.ASH_RGN_BASE k) then d
  else { d with ash := { d.ash with dram := Memory.clear d.ash.dram (d.rgnBase k) (d.rgnSize k) } }

/-- What a block does when one of its pages has applied; `d0` is the device before. -/
def Dev.pageHook (d0 d : Dev) (p : Nat) (keys : List Nat) (dmg : Damage) : Dev :=
  if p = 0x10000 then d.clkWatch (fun d => d.clkApplied (d0.rd Reg.CLK_CFG) (d0.rd Reg.CLK_TIMECFG) (d0.rd Reg.CLK_TRIM))
  else if d.held (blockOf p) then d
  else if p < 0x40000 then ((List.range 4).foldl (fun d t => Dev.tripApplied d0 d t) d).fwRefresh
  else if p < 0x50000 then ((d.blankEval 0).blankEval 1).refreshCores
  else if p = 0x50000 then
    if d0.rd Reg.GRT_BANKCFG = d.rd Reg.GRT_BANKCFG then d else d.powerRestart
  else if p < 0x100000 then d
  else if p < 0x160000 then Dev.laneApplied d0 d ((p - 0x100000) / 0x1000) keys dmg
  else if p = 0x220000 then
    let d := ((List.range 5).foldl (fun d k => Dev.rgnApplied d0 d k) d).refreshAsh 0
    if d.ball (.ddrCke 0) then d.ddrDrive true else d
  else if p = 0x300000 then d.portApplied 0
  else if p = 0x308000 then d.portApplied 1
  else if p = 0x304000 then d.ptpApplied (d0.rd Reg.FLU_PTPCFG)
  else if p = 0x310000 then (d.toneSet d.audio.toneHolds).feedsRefresh
  else if 0x311000 ≤ p ∧ p < 0x319000 then d.audApplied ((p - 0x311000) / 0x1000) (d0.rd (Reg.AUD_CTL ((p - 0x311000) / 0x1000)))
  else if 0x320000 ≤ p ∧ p < 0x323000 then d.auxApplied ((p - 0x320000) / 0x1000) (d0.is (Reg.AUX_CFG_EN ((p - 0x320000) / 0x1000)))
  else if p = 0x330000 then d.smkApplied (d0.rd Reg.SMK_RXCFG) (d0.is Reg.SMK_CTL_EN)
  else match tablePage p with
    | some (q, base) => (List.range 64).foldl (fun d i =>
        d.entApplied q (base + i) (d0.rd (entAddr q (base + i) 0)) (d0.rd (entAddr q (base + i) 3))) d
    | none => d

/-! ## Commits (R58 to R62) -/

/-- The groups that are busy (R61). -/
def Dev.busyGroups (d : Dev) : List Nat :=
  (match d.armed with | some a => a.groups | none => []) ++ d.commits.flatMap (·.groups)

/-- SYS_CMTSTAT's BUSY and TPEND brought up to date. -/
def Dev.showBusy (d : Dev) : Dev :=
  let d := d.set Reg.SYS_CMTSTAT_BUSY (d.busyGroups.foldl (fun m g => m ||| 2 ^ g) 0)
  d.set Reg.SYS_CMTSTAT_TPEND (b2n d.armed.isSome)

/-- A group is complete when no page of it waits (R60). -/
def Dev.groupOpen (d : Dev) (g : Nat) : Bool := d.captures.any (fun c => c.group == some g)

/-- A commit that is complete: its label, its outcome and its event. -/
def Dev.commitDone (d : Dev) (c : Commit) : Dev :=
  ((d.set Reg.SYS_CMTSTAT_TAG c.tag).set Reg.SYS_CMTSTAT_ERR (b2n c.err)).raise Reg.SYS_EVT 0

/-- Commits brought up to date after pages applied or were rejected. -/
def Dev.commitProgress (d : Dev) : Dev :=
  let cs := d.commits.map (fun c => { c with groups := c.groups.filter d.groupOpen })
  let done := cs.filter (fun c => c.groups.isEmpty)
  let d := { d with commits := cs.filter (fun c => !c.groups.isEmpty) }
  (done.foldl (fun d c => d.commitDone c) d).showBusy

/-- The group a page is in: it stays in a commit that is under way (R56). -/
def Dev.pageGroup (d : Dev) (p : Nat) : Nat :=
  let here := fun (gs : List Nat) (c : Nat × Nat) => c.1 == p && gs.contains c.2
  match d.armed.bind (fun a => a.pages.find? (here a.groups)) with
  | some c => c.2
  | none => match d.commits.findSome? (fun c => c.pages.find? (here c.groups)) with
    | some c => c.2
    | none => d.groupOf p

/-- The pages of the named groups. -/
def Dev.pagesIn (d : Dev) (gs : List Nat) : List (Nat × Nat) :=
  ((allPages d.part).map (fun p => (p, d.pageGroup p))).filter (fun c => gs.contains c.2)

/-- A page captures its shadow and checks it (R58, R59): a page that fails sets REJ and keeps nothing. -/
def Dev.capturePage (d : Dev) (g p : Nat) : Bool × Dev :=
  let d1 := { d with captures := d.captures ++ [({ page := p, group := some g, words := d.pageShadow p, late := false, at_ := d.now } : Capture)] }
  let (ok, d2) := d1.pageValid p
  if ok then (true, d2)
  else (false, ({ d2 with captures := d2.captures.filter (fun c => !(c.page == p && c.group == some g)) }).setRej p true)

/-- A validated lane page pins its slot while its captured EN is 1, and no longer once a later write captures EN 0 (R242). -/
def Dev.pinPage (d : Dev) (p : Nat) : Dev :=
  if 0x100000 ≤ p ∧ p < 0x160000 then
    let n := (p - 0x100000) / 0x1000
    if d.pis (Reg.LANE_CTL_EN n) then
      let k := d.pf (Reg.LANE_PROG_SLOT n)
      ({ d with store := { d.store with pins := SMap.put none d.store.pins n (some k) } }).refreshSlots
    else ({ d with store := { d.store with pins := SMap.put none d.store.pins n none } }).refreshSlots
  else d

/-- A group captured and checked: whether it passes. A group with a page that fails applies nothing (R59). -/
def Dev.captureGroup (d : Dev) (g : Nat) (ps : List Nat) : Bool × Dev :=
  let (ok, d) := ps.foldl (fun (r : Bool × Dev) p =>
    let (ok, d) := r.2.capturePage g p
    (r.1 && ok, d)) (true, d)
  if ok then (true, ps.foldl (fun d p => d.pinPage p) d)
  else (false, { d with captures := d.captures.filter (fun c => c.group != some g) })

/-- A commit broadcast (R58): pages whose blocks are all in immediate mode have nothing to capture (R65). -/
def Dev.broadcast (d : Dev) (tag : Nat) (groups : List Nat) (pages : List (Nat × Nat)) : Dev :=
  let ps := pages.filter (fun c => !(pageBlocks c.1).all d.immed)
  let (ok, d) := groups.foldl (fun (r : Bool × Dev) g =>
    let (ok, d) := r.2.captureGroup g ((ps.filter (fun c => c.2 == g)).map (·.1))
    (r.1 && ok, d)) (true, d)
  let d := if ok then d else d.raise Reg.SYS_EVT 1
  ({ d with commits := d.commits ++ [({ tag := tag, groups := groups, pages := ps, err := !ok } : Commit)] }).commitProgress

/-- OVL and CMTOVL: a commit named a busy group (R61). -/
def Dev.commitOvl (d : Dev) : Dev := (d.set Reg.SYS_CMTSTAT_OVL 1).raise Reg.SYS_EVT 2

/-- The groups of a mask that are free, with OVL as R61 states. -/
def Dev.freeGroups (d : Dev) (mask : Nat) : List Nat × Dev :=
  let named := setBits 16 mask
  let busy := d.busyGroups
  (named.filter (fun g => !busy.contains g),
    if named.any (fun g => busy.contains g) then d.commitOvl else d.set Reg.SYS_CMTSTAT_OVL 0)

/-- SYS_COMMIT with TIMED = 0 (R58). A write with MASK = 0 has no effect. -/
def Dev.commit (d : Dev) (tag mask : Nat) : Dev :=
  if setBits 16 mask = [] then d
  else
    let (gs, d) := d.freeGroups mask
    if gs.isEmpty then d else d.broadcast (tag % 256) gs (d.pagesIn gs)

/-- SYS_COMMIT with TIMED = 1 (R62). -/
def Dev.commitArm (d : Dev) (tag mask : Nat) : Dev :=
  if setBits 16 mask = [] then d
  else if d.armed.isSome then
    if (setBits 16 mask).any (fun g => d.busyGroups.contains g) then d.commitOvl else d.set Reg.SYS_CMTSTAT_OVL 1
  else
    let (gs, d) := d.freeGroups mask
    let t := d.rd64 Reg.SYS_CMTTIME_LO Reg.SYS_CMTTIME_HI
    if gs.isEmpty then d
    else if t < d.devtime then d.broadcast (tag % 256) gs (d.pagesIn gs)
    else ({ d with armed := some ⟨tag % 256, gs, d.pagesIn gs, t⟩ }).showBusy

/-- The armed commit at a time tick (R62). -/
def Dev.armedTick (d : Dev) : Dev :=
  match d.armed with
  | some a => if a.time ≤ d.devtime then ({ d with armed := none }).broadcast a.tag a.groups a.pages else d
  | none => d

def execCommit (tag mask : Nat) (s : State) : Host.Outcome State Fault Refusal := s.onDev (fun d => d.commit tag mask)
def execTimedCommitArm (tag mask : Nat) (s : State) : Host.Outcome State Fault Refusal := s.onDev (fun d => d.commitArm tag mask)

/-! ## Applying a page (R60, R63, R66) -/

/-- Words that do not apply while HF runs (chapter 10, HF_CTL and HF_RING). -/
def Dev.skips (d : Dev) (a : Nat) : Bool :=
  d.is Reg.HF_CTL_RUN && (a == Reg.HF_CTL || a == Reg.HF_RING_LO || a == Reg.HF_RING_HI)

/-- Everything that waits on a page applies, and what the block does of it. -/
def Dev.pageApply (d : Dev) (p : Nat) (dmg : Damage) : Dev :=
  let cs := d.captures.filter (fun c => c.page == p)
  if cs.isEmpty then d
  else
    let ws := (cs.flatMap (·.words)).filter (fun w => !d.skips w.1)
    let d1 := ws.foldl (fun (d : Dev) w => d.applyWord w) { d with captures := dropCaptures p d.captures }
    let d1 := (d1.setPend p (cs.any (·.late))).setRej p false
    let d1 := if p = 0x330000 then { d1 with smoke := { d1.smoke with embOld := [] } } else d1
    (Dev.pageHook d d1 p (ws.map (·.1)) dmg).commitProgress

/-- The GRT lane registers of a lane. -/
def grtWord (n a : Nat) : Bool :=
  decide (Reg.GRT_LCFG (n / 8) (n % 8) ≤ a) && decide (a < Reg.GRT_LCFG (n / 8) (n % 8) + 0x20)

/-- A page of which nothing waits any more, though a capture of it is listed: it has applied. -/
def Dev.grtClose (d : Dev) (p : Nat) : Dev :=
  let cs := d.captures.filter (fun c => c.page == p)
  if cs.all (fun c => c.words.isEmpty) then
    let d := { d with captures := dropCaptures p d.captures }
    ((d.setPend p (cs.any (·.late))).setRej p false).commitProgress
  else d

/-- What waits for a lane's GRT registers applies, at its own output sample (R66, R143, R146). -/
def Dev.grtApply (d : Dev) (n : Nat) : Dev :=
  let p := pageOf (Reg.GRT_LCFG (n / 8) (n % 8))
  let cs := d.captures.filter (fun c => c.page == p)
  if cs.isEmpty then d
  else
    let ws := (cs.flatMap (·.words)).filter (fun w => grtWord n w.1)
    let d1 := ws.foldl (fun (d : Dev) w => d.applyWord w) { d with captures := d.captures.map (fun (c : Capture) =>
      if c.page = p then { c with words := c.words.filter (fun w => !grtWord n w.1) } else c) }
    (if d1.held 3 then d1 else d1.grateApplied n (d.lcfg n)).grtClose p

/-- A GRT lane page outside its running lanes' output samples: the lanes that run nothing have no boundary source (R63). -/
def Dev.grtPage (d : Dev) (p : Nat) : Dev :=
  let d := (List.range 8).foldl (fun d j =>
    let i := (p - 0x51000) / 0x1000
    if d.held 3 || !d.is (Reg.GRT_LSTAT_RUN i j) then d.grtApply (8 * i + j) else d) d
  if d.captures.any (fun c => c.page == p) then d.grtClose p else d

/-- The lane's program is about to run or runs, so that the page waits for its apply point (R64, R66, R230). -/
def Dev.laneWaits (d : Dev) (n : Nat) : Bool :=
  match (d.lane n).mig with
  | some m => m.kind != .planned || (d.hearth m.src).running
  | none => match d.bound n with
    | some h => (d.hearth h).running
    | none => false

/-- The boundary of a page comes by a command of its own: a time tick, a bin frame, an FSYNC, an internal sample, the mantel's
scheduling decision or an apply point. PAGE_APPLY stands for the boundaries of the other pages, and for the limit of R63 where
a block has no running boundary source. -/
def Dev.ownBoundary (d : Dev) (p : Nat) : Bool :=
  if p = 0x10000 then d.ticking
  else if p = 0x50000 then !d.held 3
  else if p = 0x162000 then true
  else if p = 0x310000 then !d.held 11
  else if 0x100000 ≤ p ∧ p < 0x160000 then d.laneWaits ((p - 0x100000) / 0x1000)
  else if 0x311000 ≤ p ∧ p < 0x319000 then
    let q := (p - 0x311000) / 0x1000
    !d.held 11 && d.is (Reg.AUD_CTL_EN q) && !d.is (Reg.AUD_STAT_CLKLOST q) && !(d.aport q).held
  else if 0x320000 ≤ p ∧ p < 0x323000 then !d.held 12 && (d.auxBus ((p - 0x320000) / 0x1000)).cur.any (·.running)
  else p == 0x330000 && !d.held 13 && d.smkKeyed

/-- PAGE_APPLY: the boundary of a page's block (R60, R63, R66). `dmg` is what the ECC finds in the image of a lane that starts. -/
def execPageApply (p : Nat) (dmg : Damage) (s : State) : Host.Outcome State Fault Refusal :=
  s.onDev (fun d =>
    if 0x51000 ≤ p ∧ p < 0x5D000 ∧ p % 0x1000 = 0 then d.grtPage p
    else if d.ownBoundary p then d else d.pageApply p dmg)

/-- LANE_OUTPUT_SAMPLE: a lane chain presents a sample (R138, R139, R141), and what waits for the lane's GRT registers applies
after it (R143). `i` and `q` are what the fixed filters make of the slice before mixing and gain, `w` the weight their taps give the
marks. A chain that does not run presents none, and no sample comes before its time. -/
def execLaneOutputSample (n : Nat) (i q : Int) (w : Nat) (s : State) : Host.Outcome State Fault Refusal :=
  s.onBlock 3 (fun d =>
    if n < d.part.lanes ∧ d.laneDue n then (d.laneSample n i q w).grtApply n else d)

/-- BIN_FRAME: a bin frame of the analysis banks (R129): the bank fields apply, and the power averages take it in (R147). -/
def execBinFrame (s : State) : Host.Outcome State Fault Refusal :=
  s.onBlock 3 (fun d =>
    let d := d.pageApply 0x50000 .intact
    if d.is Reg.GRT_BANKCFG_PWREN then
      let d := (d.binIn 0).binIn 1
      { d with binCount := d.binCount + 1 }
    else d)

/-! ## Apply points of a lane page (R64, R168, R230) -/

/-- The lane page applies at an apply point of hearth `h`: whether it did. A program that has applies of the lane's history ahead of it
makes them at their samples (R168); before acquisition a spare applies nothing else. -/
def Dev.applyPoint (d : Dev) (h n : Nat) (dmg : Damage) : Bool × Dev :=
  let p := pageOf (Reg.LANE_CTL n)
  match (d.lane n).prev[(d.hearth h).applied]? with
  | some e => if e.2 ≤ (d.hearth h).smp then (true, d.updHearth h (fun x => { x with applied := x.applied + 1 })) else (false, d)
  | none =>
    if d.bound n = some h ∧ !d.acquiring n h ∧ d.captures.any (fun c => c.page == p) then (true, d.pageApply p dmg) else (false, d)

/-- APPLY_TIMEOUT: no apply point within 250 ms of a capture (R230): the page applies at MAIN's wait, and APPLY is posted. -/
def Dev.applyTimeout (d : Dev) (n : Nat) (dmg : Damage) : Dev :=
  match d.bound n with
  | none => d
  | some h =>
    if d.applyDue h ∧ (d.hearth h).running ∧ !(d.hearth h).urgOn ∧ (d.hearth h).wait.isSome then
      let (ok, d') := d.applyPoint h n dmg
      if ok && (d'.hearth h).running then d'.sysPost n 0x20000000 else d'
    else d

def execApplyTimeout (n : Nat) (dmg : Damage) (s : State) : Host.Outcome State Fault Refusal :=
  s.onDev (fun d => if n < d.part.lanes then d.applyTimeout n dmg else d)

/-! ## The mantel's schedule (R180, R182, R189) -/

/-- One lane at the 1 ms decision: `k` shadows are granted so far to lower lanes. A stopped lane keeps its shadow until UNBIND (R156),
and a halted one is granted none (R204). -/
def Dev.guardLane (d : Dev) (n k : Nat) : Nat × Dev :=
  let lost := d.get (Reg.LANE_BIND_GSTATE n)
  if !d.is (Reg.LANE_CTL_GUARD n) then
    (k, if (d.shadowOf n).isSome ∨ lost ≠ 0 then (d.dropShadow n).refreshMargin else d)
  else if !d.is (Reg.LANE_CTL_EN n) then
    if (d.shadowOf n).isSome then (k + 1, d) else (k, d.set (Reg.LANE_BIND_GSTATE n) 0)
  else if 8 ≤ k then
    let d := if (d.shadowOf n).isSome then d.dropShadow n else d
    (k, (d.set (Reg.LANE_BIND_GSTATE n) 4).refreshMargin)
  else if (d.shadowOf n).isSome then (k + 1, d)
  else if !(d.lane n).started || (d.lane n).halted || (d.bound n).isNone then (k + 1, d)
  else match d.hearthsIn stFree with
    | h :: _ => match d.grantShadow n h with
      | some d => (k + 1, d.refreshMargin)
      | none => (k + 1, if lost = 3 then d else (d.allocFail 2 n (setPages (d.imgTiNeed (d.laneSlot n)))).loseShadow n)
    | [] => (k + 1, if lost = 3 then d else d.loseShadow n)

/-- MANTEL_SCHEDULE_TICK: HMG fields apply; shadows are granted in ascending lane number, up to GUARDED_MAX; a change of GUARD
waits for a migration in progress (R178). -/
def Dev.scheduleTick (d : Dev) : Dev :=
  let d := d.pageApply 0x162000 .intact
  if !d.migr then d
  else ((List.range d.part.lanes).foldl (fun (r : Nat × Dev) n =>
    if (r.2.lane n).mig.isSome then (if (r.2.shadowOf n).isSome then r.1 + 1 else r.1, r.2) else r.2.guardLane n r.1) (0, d)).2

def execMantelScheduleTick (s : State) : Host.Outcome State Fault Refusal := s.onDev (fun d => d.scheduleTick)

/-! ## Shadow writes and immediate mode (R57, R58, R65) -/

/-- What waits on a page is followed by a later write (R58). -/
def Dev.markLate (d : Dev) (p : Nat) : Dev :=
  { d with captures := d.captures.map (fun c => if c.page = p then { c with late := true } else c) }

/-- The load check of an immediate write (R252): SLOT changes, or EN is set with the lane stopped. -/
def Dev.immedLoad (d : Dev) (a : Nat) (w : Word) : Bool × Dev :=
  if 0x100000 ≤ a ∧ a < 0x160000 then
    let n := (a - 0x100000) / 0x1000
    let lpb := getBits (d.sh (Reg.LANE_LPB n 0)) 7 0
    if a = Reg.LANE_PROG n ∧ getBits w 5 0 ≠ d.pf (Reg.LANE_PROG_SLOT n) then d.loadOk n (getBits w 5 0) lpb (d.pis (Reg.LANE_CTL_EN n))
    else if a = Reg.LANE_CTL n ∧ bit w 31 ∧ !d.is (Reg.LANE_CTL_EN n) then d.loadOk n (d.pf (Reg.LANE_PROG_SLOT n)) lpb true
    else (true, d)
  else (true, d)

/-- A shadow word of a block in immediate mode: captured on arrival, or rejected (R65). -/
def Dev.immedWord (d : Dev) (a : Nat) : Dev :=
  let w := d.sh a
  let p := pageOf a
  let (ok, d) := if d.wordOk a w then d.immedLoad a w else (false, d)
  if ok then ({ d with captures := d.captures ++ [({ page := p, group := none, words := [(a, w)], late := false, at_ := d.now } : Capture)] }).pinPage p
  else ((d.markLate p).setRej p true).raise Reg.SYS_EVT 1

/-- A write to a register with buffered fields (R57, R58, R65): their shadow takes it. -/
def Dev.shadowWrite (d : Dev) (a : Nat) (w : Word) : Dev :=
  let p := pageOf a
  let d := (d.shWr a (mergeMask (rwbMask a) (d.sh a) w)).setPend p true
  let d := { d with smoke := { d.smoke with embOld := d.smoke.embOld.filter (· != a) } }
  if d.immed (blockOf a) then d.immedWord a else d.markLate p

/-- A shadow word that differs from what will be active. -/
def Dev.stale (d : Dev) (a : Nat) : Bool := ((d.sh a ^^^ d.pend a) &&& rwbMask a) != 0

/-- SYS_IMMED written (R65): in the blocks that enter immediate mode, shadow values still pending are captured. -/
def Dev.immedWrite (d : Dev) (w : Word) : Dev :=
  let new := (w &&& 0x1FFFF) &&& ~~~(d.rd Reg.SYS_IMMED)
  let d := d.wr Reg.SYS_IMMED (w &&& 0x1FFFF)
  let pages := (allPages d.part).filter (fun p => bit (d.rd (cgrp p)) 31)
  let words := (pages.flatMap d.pageKeys).filter (fun a => bit new (blockOf a) && d.stale a)
  words.foldl (fun d a => d.immedWord a) d

/-- SYS_IMMED_WRITE: by a privileged initiator. -/
def execSysImmedWrite (w : Word) (s : State) : Host.Outcome State Fault Refusal := s.onDev (fun d => d.immedWrite w)

end Sys2Proof.Machine
end

