-- ==== Sys2Proof/Machine/Audio.lean ====
section
/-! DEFINITION. The commands of the audio ports (chapter 11). -/

namespace Sys2Proof.Machine

def Dev.updAud (d : Dev) (p : Nat) (f : AudPort → AudPort) : Dev := d.setAport p (f (d.aport p))
def Dev.audEvt (d : Dev) (p b : Nat) : Dev := d.raise (Reg.AUD_EVT p) b

/-- The port exists and its active EN is 1. -/
def Dev.audRuns (d : Dev) (p : Nat) : Bool := decide (p < d.part.audio) && d.is (Reg.AUD_CTL_EN p)

/-! ## Samples (R358, R365 to R368) -/

/-- A sample at step `k` of a ramp of 32. -/
def rampAt (k : Nat) (w : Word) : Word := if 32 ≤ k then w else if k = 0 then 0 else Config.ramp k w

/-- A sample attenuated (R365). -/
def attenuate (n : Nat) (w : Word) : Word := if n = 0 then w else if n = 255 then 0 else Config.atten n w

/-- A 24-bit sample, in the low bits of a word, as an integer. -/
def sample24 (w : Word) : Int := toSigned 24 (getBits w 23 0)

/-- Bits of a width code: 16, 24 or 32. -/
def widthBits (code : Nat) : Nat := if code = 0 then 16 else if code = 1 then 24 else 32

/-- What a slot of W bits carries of a 24-bit sample (R358): SAMPW bits at its start, then zeros. -/
def slotBits (sampw swidth : Nat) (w : Word) : Word :=
  let v : Nat :=
    if sampw = 0 then ofSigned 16 (clampI (-32768) 32767 ((sample24 w + 128) / 256))
    else if sampw = 1 then getBits w 23 0
    else getBits w 23 0 * 256
  BitVec.ofNat 32 (v * 2 ^ (widthBits swidth - widthBits sampw))

/-- The 24-bit sample of an input of SAMPW bits (R358); which neighbour a sample of 32 bits becomes is open (log 91). -/
def inputSample (sampw : Nat) (w : Word) : Word :=
  if sampw = 0 then BitVec.ofInt 32 (toSigned 16 (getBits w 15 0) * 256)
  else if sampw = 1 then w &&& 0xFFFFFF
  else BitVec.ofInt 32 (clampI (-8388608) 8388607 (roundOpen w.toInt 256))

/-- BCLK periods of a frame: S × W (R357). -/
def Dev.frameBits (d : Dev) (p : Nat) : Nat := d.audSlots p * widthBits (d.get (Reg.AUD_CTL_SWIDTH p))

/-! ## Mutes, restarts and losses (R369, R372 to R375) -/

/-- A clock stop (R372): muted at once, DOUT low in every slot. -/
def Dev.clockStop (d : Dev) (p : Nat) : Dev :=
  let d := ((d.set (Reg.AUD_STAT_CLKLOST p) 1).audMute p true).audEvt p 1
  d.updAud p (fun x => { x with
    ramp := 0, rampRx := 0, healTx := 0, healRx := 0, frames := 0, back := false, inp := []
    out := List.replicate (d.audSlots p) (some 0) })

/-- RATECHG (R374): both directions mute with a ramp and lock again from the initial ratio. -/
def Dev.rateChange (d : Dev) (p : Nat) : Dev :=
  let x := d.aport p
  let d := ((d.set (Reg.AUD_STAT_LOCK_TX p) 0).set (Reg.AUD_STAT_LOCK_RX p) 0).audMute p true
  let d := if x.healTx = 0 then d else d.set (Reg.AUD_STAT_ROTTX p) 0
  let d := if x.healRx = 0 then d else d.set (Reg.AUD_STAT_ROTRX p) 0
  (d.updAud p (fun x => { x with flush := true, phase := 2, frames := 0, healTx := 0, healRx := 0, lockRate := 0, back := false })).audEvt p 3

/-- A slip of one direction (R375). -/
def Dev.slip (d : Dev) (p : Nat) (tx : Bool) : Dev :=
  let rot := if tx then Reg.AUD_STAT_ROTTX p else Reg.AUD_STAT_ROTRX p
  let d := (d.incSat (if tx then Reg.AUD_CNT_TXSLIP p else Reg.AUD_CNT_RXSLIP p) 1).set rot ((d.get rot + 1) % d.audSlots p)
  let d := d.audEvt p 5
  if !d.is (Reg.AUD_CTL_AUTOHEAL p) then d
  else if tx then (d.set (Reg.AUD_STAT_MUTED_TX p) 1).updAud p (fun x => { x with healTx := 5, ramp := 0 })
  else (d.set (Reg.AUD_STAT_MUTED_RX p) 1).updAud p (fun x => { x with healRx := 5, rampRx := 0 })

/-- One frame of an AUTOHEAL mute; after the fourth the direction is realigned (R375). -/
def Dev.heal (d : Dev) (p : Nat) (tx : Bool) : Dev :=
  let n := if tx then (d.aport p).healTx else (d.aport p).healRx
  let d := d.updAud p (fun x => if tx then { x with healTx := n - 1 } else { x with healRx := n - 1 })
  if n ≠ 1 then d
  else
    let d := d.set (if tx then Reg.AUD_STAT_ROTTX p else Reg.AUD_STAT_ROTRX p) 0
    (d.set (if tx then Reg.AUD_STAT_MUTED_TX p else Reg.AUD_STAT_MUTED_RX p) 0).audEvt p 7

/-- The tracked ratio shown (R363). -/
def Dev.showRatio (d : Dev) (p r : Nat) : Dev :=
  let r := r % 2 ^ 36
  (d.wr64 (Reg.AUD_TXRATIO_LO p) (Reg.AUD_TXRATIO_HI p) r).wr64 (Reg.AUD_RXRATIO_LO p) (Reg.AUD_RXRATIO_HI p) r

/-! ## A frame start (R369 to R375) -/

/-- The input samples of a frame enter the input ASRC; those of a glitch repeat the samples before (R373). -/
def Dev.audIn (d : Dev) (p : Nat) (good : Bool) (din : List Word) : Dev :=
  let sw := d.get (Reg.AUD_CTL_SAMPW p)
  let mask := d.get (Reg.AUD_MASK_RXMASK p)
  let fresh := (List.range (d.audSlots p)).map (fun k => if mask.testBit k then inputSample sw (din.getD k 0) else 0)
  d.updAud p (fun x => { x with rx := ((if good then fresh else x.rx.headD fresh) :: x.rx).take 32 })

/-- The sequence of R369 up to the first lock: two good frames, sixteen frames, the initial ratio. -/
def Dev.audSearch (d : Dev) (p : Nat) (good : Bool) (ratio : Nat) : Dev :=
  let x := d.aport p
  if !good then d.setAport p { x with phase := 1, frames := 0 }
  else if x.phase = 1 then d.setAport p (if x.frames + 1 < 2 then { x with frames := x.frames + 1 } else { x with phase := 2, frames := 0 })
  else if x.phase = 2 then
    if x.frames + 1 < 16 then d.setAport p { x with frames := x.frames + 1 }
    else (d.setAport p { x with phase := 3, frames := 0, tx := [], rx := [] }).showRatio p ratio
  else d.showRatio p ratio

/-- The frame that ended, at a locked port. -/
def Dev.audLocked (d : Dev) (p : Nat) (f : AudFrame) : Dev :=
  let far := fun (n : Nat) => decide (n ≤ 8) || decide (24 ≤ n)
  let d := d.showRatio p f.ratio
  let d := if f.slipTx then d.slip p true else d
  let d := if f.slipRx then d.slip p false else d
  if far f.fillTx || far f.fillRx then d.rateChange p else d

/-- What applies at the frame start: a flush, a heal, the page (R370, R371, R374, R375). A newly unmasked slot ramps in. -/
def Dev.audEdge (d : Dev) (p : Nat) (old : Bool) : Dev :=
  let d := if (d.aport p).flush then d.updAud p (fun x => { x with flush := false, tx := [], rx := [] }) else d
  let d := if (d.aport p).healTx = 0 then d else d.heal p true
  let d := if (d.aport p).healRx = 0 then d else d.heal p false
  if !old then d
  else
    let was := d.get (Reg.AUD_MASK_TXMASK p)
    let d := d.pageApply (pageOf (Reg.AUD_CTL p)) .intact
    let new := (List.range 16).filter (fun k => (d.get (Reg.AUD_MASK_TXMASK p)).testBit k && !was.testBit k)
    d.updAud p (fun x => { x with slots := new.foldl (fun m k => SMap.put 32 m k 0) x.slots })

/-- The slots of the frame that starts (R358, R359, R363): high-impedance outside TXMASK, zero while muted. -/
def Dev.audOut (d : Dev) (p : Nat) : Dev :=
  let x := d.aport p
  let n := d.audSlots p
  let mask := d.get (Reg.AUD_MASK_TXMASK p)
  let rot := d.get (Reg.AUD_STAT_ROTTX p)
  let quiet := d.is (Reg.AUD_STAT_MUTED_TX p) && x.ramp == 0
  let r := d.rd64 (Reg.AUD_TXRATIO_LO p) (Reg.AUD_TXRATIO_HI p)
  let word := fun (k : Nat) =>
    if quiet then (0 : Word)
    else slotBits (d.get (Reg.AUD_CTL_SAMPW p)) (d.get (Reg.AUD_CTL_SWIDTH p))
      (Config.asrc r (x.tx.map (fun f => f.getD ((k + rot) % n) 0)))
  d.setAport p { x with out := (List.range n).map (fun k => if mask.testBit k then some (word k) else none) }

/-- A frame while the clock is lost: two good frames in a row bring it back (R372). -/
def Dev.audReturn (d : Dev) (p : Nat) (good : Bool) : Dev :=
  let x := d.aport p
  if !good then d.setAport p { x with frames := 0 }
  else if x.frames = 0 then d.setAport p { x with frames := 1 }
  else
    let d := ((d.set (Reg.AUD_STAT_CLKLOST p) 0).audEvt p 2)
    d.setAport p (if x.phase = 4 then { x with frames := 0, back := true } else { x with frames := 0, phase := 2 })

/-- AUDIO_FRAME. -/
def Dev.audFrame (d : Dev) (p : Nat) (f : AudFrame) : Dev :=
  let good := f.bclks == d.frameBits p
  if d.is (Reg.AUD_STAT_CLKLOST p) then d.audReturn p good
  else
    let d := d.audIn p good f.din
    let d := if good then d else (d.incSat (Reg.AUD_CNT_GLITCH p) 1).audEvt p 4
    let d := if (d.aport p).phase = 4 then d.audLocked p f else d.audSearch p good f.ratio
    let d := d.audEdge p f.old
    if d.is (Reg.AUD_CTL_EN p) then d.audOut p else d

def execAudioFrame (p : Nat) (f : AudFrame) (s : State) : Host.Outcome State Fault Refusal :=
  s.onBlock 11 (fun d => if d.audRuns p && !(d.aport p).held then d.audFrame p f else d)

/-! ## An internal sample (R362, R365, R367, R368) -/

/-- A feed plays one sample (R367): it starts with 8 ms, ramps out when it has run empty, and ramps in when it resumes. -/
def Dev.feedStep (d : Dev) (k : Nat) : Dev :=
  let x := d.feed k
  let n := d.feedWords k
  if x.playing then
    if n ≤ x.buf.length then
      d.setFeed k { x with left := x.buf.getD 0 0, right := x.buf.getD (n - 1) 0, buf := x.buf.drop n, ramp := min 32 (x.ramp + 1) }
    else (d.setFeed k { x with playing := false, gap := true, ramp := 31 }).feedGap k
  else if x.gap then
    if x.ramp ≤ 1 then d.setFeed k { x with gap := false, ramp := 0, left := 0, right := 0 } else d.setFeed k { x with ramp := x.ramp - 1 }
  else if feedMin * n ≤ x.buf.length then d.setFeed k { x with playing := true }
  else d

/-- A feed's present sample on a channel of R365. -/
def Feed.chan (x : Feed) (c : Nat) : Word :=
  rampAt x.ramp (match c with
    | 2 => x.right
    | 3 => BitVec.ofInt 32 (roundOpen (sample24 x.left + sample24 x.right) 2)
    | _ => x.left)

/-- The tone's present sample. -/
def Dev.toneNow (d : Dev) : Word :=
  if d.is Reg.AUD_GSTAT_TONE && d.audio.burst then Config.tone (d.rd Reg.AUD_TONE_F) (d.rd Reg.AUD_TONE_C) d.audio.second d.audio.toneAt else 0

/-- Slot `s` of an input, as a loopback takes it (R366, R372). -/
def Dev.loopback (d : Dev) (q s : Nat) : Word :=
  if d.audRuns q && (d.get (Reg.AUD_MASK_RXMASK q)).testBit s && !d.is (Reg.AUD_STAT_CLKLOST q) then (d.aport q).inp.getD s 0 else 0

/-- What slot `s` of port `p` carries in this internal sample, before the port's own mute. -/
def Dev.slotNow (d : Dev) (p s : Nat) : Word :=
  let w := d.rd (Reg.AUD_ROUTE p s)
  let src := getBits w 31 30
  let v :=
    if src = 3 ∨ (bit w 29 ∧ d.is Reg.AUD_GSTAT_TONE) then d.toneNow
    else if src = 1 then (d.feed (getBits w 22 16 * 8 + getBits w 14 12)).chan (getBits w 11 8)
    else if src = 2 then d.loopback (getBits w 22 16) (getBits w 11 8)
    else 0
  rampAt (SMap.get 32 (d.aport p).slots s) (attenuate (getBits w 7 0) v)

/-- A ramp moves one step. -/
def rampStep (muted : Bool) (k : Nat) : Nat := if muted then k - 1 else min 32 (k + 1)

/-- The input ASRC of a port gives one internal sample a slot (R363, R375). -/
def Dev.inNow (d : Dev) (p : Nat) : List Word :=
  let x := d.aport p
  let n := d.audSlots p
  let r := d.rd64 (Reg.AUD_RXRATIO_LO p) (Reg.AUD_RXRATIO_HI p)
  (List.range n).map (fun k => rampAt x.rampRx (Config.asrcIn r (x.rx.map (fun f => f.getD ((k + d.get (Reg.AUD_STAT_ROTRX p)) % n) 0))))

/-- A port at an internal sample: its slots enter the output ASRC. A switch to or from the tone ramps in (R368). -/
def Dev.audSample (d : Dev) (p : Nat) : Dev :=
  let tone := d.is Reg.AUD_GSTAT_TONE
  let x := d.aport p
  let tuned := fun (k : Nat) => bit (d.rd (Reg.AUD_ROUTE p k)) 29 || getBits (d.rd (Reg.AUD_ROUTE p k)) 31 30 == 3
  let restart := if x.tone = tone then [] else (List.range 16).filter tuned
  let slots := restart.foldl (fun m k => SMap.put 32 m k 0) x.slots
  let d := d.setAport p { x with slots := slots, tone := tone }
  let frame := (List.range (d.audSlots p)).map (fun k => rampAt x.ramp (d.slotNow p k))
  d.updAud p (fun x => { x with
    tx := (frame :: x.tx).take 32
    ramp := rampStep (d.is (Reg.AUD_STAT_MUTED_TX p)) x.ramp
    rampRx := rampStep (d.is (Reg.AUD_STAT_MUTED_RX p)) x.rampRx
    slots := (x.slots.map (fun c => (c.1, c.2 + 1))).filter (fun c => decide (c.2 < 32)) })

/-- AUDIO_INTERNAL_SAMPLE: the global page applies, feeds play, every port's output takes a sample; a loopback is one sample
late (R365). -/
def Dev.audInternal (d : Dev) : Dev :=
  let d := d.pageApply 0x310000 .intact
  let d := d.feedKeys.foldl (fun d k => d.feedStep k) d
  let ps := d.audOn
  let d := ps.foldl (fun d p => d.audSample p) d
  let d := ps.foldl (fun d p => let i := d.inNow p; d.updAud p (fun x => { x with inp := i })) d
  { d with audio := { d.audio with toneAt := if d.is Reg.AUD_GSTAT_TONE then d.audio.toneAt + 1 else 0 } }

def execAudioInternalSample (s : State) : Host.Outcome State Fault Refusal := s.onBlock 11 (fun d => d.audInternal)

/-! ## Locks, rates and clocks (R361, R364, R369, R372, R374) -/

/-- ASRC_LOCKED: a direction has held its ratio for 5 ms: it locks and unmutes with a ramp. -/
def Dev.asrcLocked (d : Dev) (p : Nat) (tx : Bool) : Dev :=
  let lock := if tx then Reg.AUD_STAT_LOCK_TX p else Reg.AUD_STAT_LOCK_RX p
  if (d.aport p).phase < 3 ∨ d.is lock ∨ d.is (Reg.AUD_STAT_CLKLOST p) then d
  else
    let d := ((d.set lock 1).set (if tx then Reg.AUD_STAT_MUTED_TX p else Reg.AUD_STAT_MUTED_RX p) 0).audEvt p 0
    if d.is (Reg.AUD_STAT_LOCK_TX p) && d.is (Reg.AUD_STAT_LOCK_RX p) then d.updAud p (fun x => { x with phase := 4 }) else d

def execAsrcLocked (p : Nat) (tx : Bool) (s : State) : Host.Outcome State Fault Refusal :=
  s.onBlock 11 (fun d => if d.audRuns p then d.asrcLocked p tx else d)

/-- The nominal rates in 0.01 Hz, from code 1 (R364). -/
def nominalRates : List Nat := [800000, 1600000, 3200000, 4410000, 4800000, 8820000, 9600000, 17640000, 19200000]

/-- The code of the nominal rate within 1 %, 0 for none. -/
def nominal (r : Nat) : Nat :=
  match nominalRates.findIdx? (fun (n : Nat) => decide (((r : Int) - n).natAbs * 100 ≤ n)) with
  | some i => i + 1
  | none => 0

/-- A rate lies within ±0.1 % of another. -/
def nearRate (r lock : Nat) : Bool := decide (((r : Int) - lock).natAbs * 1000 ≤ lock)

/-- A port's rate measured (R364, R369, R372, R374). -/
def Dev.portRate (d : Dev) (p r : Nat) : Dev :=
  let r := min r (2 ^ 25 - 1)
  let was := d.get (Reg.AUD_RATE_NOM p)
  let d := (d.set (Reg.AUD_RATE_RATE p) r).set (Reg.AUD_RATE_NOM p) (nominal r)
  let x := d.aport p
  if x.back then
    if x.lockRate ≠ 0 ∧ nearRate r x.lockRate then (d.audMute p false).setAport p { x with back := false, flush := true } else d.rateChange p
  else if x.lockRate = 0 then d.setAport p { x with lockRate := r }
  else if nearRate r x.lockRate ∧ was = nominal r then d
  else d.rateChange p

/-- AUDIO_RATE_UPDATE: every 100 ms, the measured rates of the ports in 0.01 Hz and of AUD_MCLK_IN in 10 Hz. -/
def execAudioRateUpdate (rates : List Nat) (mclk : Nat) (s : State) : Host.Outcome State Fault Refusal :=
  s.onBlock 11 (fun d =>
    let d := d.set Reg.AUD_GSTAT_MCLK (min mclk (2 ^ 24 - 1))
    d.audOn.foldl (fun d p => if d.is (Reg.AUD_STAT_CLKLOST p) || (d.aport p).held then d else d.portRate p (rates.getD p 0)) d)

/-- AUDIO_CLOCK_STOP: a slave port finds no BCLK edge for 4 periods (R372). -/
def execAudioClockStop (p : Nat) (s : State) : Host.Outcome State Fault Refusal :=
  s.onBlock 11 (fun d =>
    if d.audRuns p && !d.is (Reg.AUD_CTL_MASTER p) && !d.is (Reg.AUD_STAT_CLKLOST p) then d.clockStop p else d)

/-- The enabled master ports. -/
def Dev.audMasters (d : Dev) : List Nat := d.audOn.filter (fun p => d.is (Reg.AUD_CTL_MASTER p))

/-- MCLK_LOST: no AUD_MCLK_IN edge for 1 µs (R361). -/
def Dev.mclkLost (d : Dev) : Dev :=
  if !d.is Reg.AUD_GSTAT_MCLKOK then d
  else
    let d := (d.set Reg.AUD_GSTAT_MCLKOK 0).raise Reg.AUD_GEVT 0
    d.audMasters.foldl (fun d p =>
      let d := if d.is (Reg.AUD_STAT_CLKLOST p) then d else d.clockStop p
      d.updAud p (fun x => { x with held := true })) d

def execMclkLost (s : State) : Host.Outcome State Fault Refusal := s.onBlock 11 (fun d => d.mclkLost)

/-- MCLK_RESUMED: edges for 100 µs (R361): the master ports restart their clocks. -/
def Dev.mclkResumed (d : Dev) : Dev :=
  if d.is Reg.AUD_GSTAT_MCLKOK then d
  else
    let d := (d.set Reg.AUD_GSTAT_MCLKOK 1).raise Reg.AUD_GEVT 1
    d.audMasters.foldl (fun d p => d.updAud p (fun x => { x with held := false })) d

def execMclkResumed (s : State) : Host.Outcome State Fault Refusal := s.onBlock 11 (fun d => d.mclkResumed)

/-- TONE_BURST_TIMER: the ON or OFF interval of the tone ends (R368). -/
def Dev.toneBurst (d : Dev) : Dev :=
  if !d.is Reg.AUD_GSTAT_TONE then d
  else if d.audio.burst && d.get Reg.AUD_TONE_C_OFF != 0 then { d with audio := { d.audio with burst := false } }
  else { d with audio := { d.audio with burst := true, second := d.is Reg.AUD_TONE_C_ALT && !d.audio.second } }

def execToneBurstTimer (s : State) : Host.Outcome State Fault Refusal := s.onBlock 11 (fun d => d.toneBurst)

end Sys2Proof.Machine
end

