-- ==== Sys2Proof/Machine/DataMem.lean ====
section
/-! DEFINITION. Loads, stores and block copies of data memory (R203), control (R204), leaving URGENT (R210) and illegal
words (R195, R235). -/

namespace Sys2Proof.Machine

/-- The address a load or store of the present thread reaches. -/
def Dev.memAddr (d : Dev) (h : Nat) (ra : BitVec 4) (off : BitVec 16) : Word := (d.hearth h).thr.addr ra off

/-- Bytes an access of each kind moves. -/
def MemOp.size : MemOp → Nat
  | .ldw | .stw => 4
  | .ldh | .sth => 2
  | .ldb | .stb => 1

/-- The value a load puts into its register: sign-extended (R203). -/
def MemOp.load (op : MemOp) (m : Memory) (a : Nat) : Word :=
  match op with
  | .ldh => (Memory.readHalf m a).signExtend 32
  | .ldb => (Memory.read m a).signExtend 32
  | _ => Memory.readWord m a

/-- Data memory after a store (R203). -/
def MemOp.store (op : MemOp) (m : Memory) (a : Nat) (w : Word) : Memory :=
  match op with
  | .sth => Memory.writeList m a [byteOf w 0, byteOf w 1]
  | .stb => Memory.write m a (byteOf w 0)
  | _ => Memory.writeWord m a w

/-- A load (R203): checked, then the memory's ECC (R163), then the register. -/
def Dev.loadOp (d : Dev) (i : Issue) (op : MemOp) (rd ra : BitVec 4) (off : BitVec 16) (e : Ecc) : Dev :=
  d.issue i (.mem op rd ra off) (fun d =>
    let a := d.memAddr i.hearth ra off
    d.dmem i.hearth a op.size op.size (fun d => d.eccThen i.hearth 2 e (fun d =>
      d.thr i.hearth (fun t => t.setReg rd (op.load (d.hearth i.hearth).dmem a.toNat)))))

/-- A store (R203). -/
def Dev.storeOp (d : Dev) (i : Issue) (op : MemOp) (rs ra : BitVec 4) (off : BitVec 16) : Dev :=
  d.issue i (.mem op rs ra off) (fun d =>
    let a := d.memAddr i.hearth ra off
    d.dmem i.hearth a op.size op.size (fun d =>
      (d.updHearth i.hearth (fun x => { x with dmem := op.store x.dmem a.toNat (x.thr.reg rs) })).thr i.hearth id))

/-- ldw (R203). -/
def execLdw (i : Issue) (rd ra : BitVec 4) (off : BitVec 16) (e : Ecc) (s : State) : Host.Outcome State Fault Refusal :=
  s.onDev (fun d => d.loadOp i .ldw rd ra off e)

/-- ldh (R203). -/
def execLdh (i : Issue) (rd ra : BitVec 4) (off : BitVec 16) (e : Ecc) (s : State) : Host.Outcome State Fault Refusal :=
  s.onDev (fun d => d.loadOp i .ldh rd ra off e)

/-- ldb (R203). -/
def execLdb (i : Issue) (rd ra : BitVec 4) (off : BitVec 16) (e : Ecc) (s : State) : Host.Outcome State Fault Refusal :=
  s.onDev (fun d => d.loadOp i .ldb rd ra off e)

/-- stw (R203). -/
def execStw (i : Issue) (rs ra : BitVec 4) (off : BitVec 16) (s : State) : Host.Outcome State Fault Refusal :=
  s.onDev (fun d => d.storeOp i .stw rs ra off)

/-- sth (R203). -/
def execSth (i : Issue) (rs ra : BitVec 4) (off : BitVec 16) (s : State) : Host.Outcome State Fault Refusal :=
  s.onDev (fun d => d.storeOp i .sth rs ra off)

/-- stb (R203). -/
def execStb (i : Issue) (rs ra : BitVec 4) (off : BitVec 16) (s : State) : Host.Outcome State Fault Refusal :=
  s.onDev (fun d => d.storeOp i .stb rs ra off)

/-- The subcode of a bcpy that must not copy, with the address concerned (R203): outside DMEM, misaligned, or ranges in one
bank or across a bank boundary. -/
def bcpyCheck (dst src : Word) (n : Nat) : Option (Nat × Word) :=
  if 0x8000 ≤ dst.toNat then some (1, dst)
  else if 0x8000 ≤ src.toNat then some (1, src)
  else if dst.toNat % 4 ≠ 0 then some (2, dst)
  else if src.toNat % 4 ≠ 0 then some (2, src)
  else if (dst.toNat + 4 * n - 1) / 0x2000 ≠ dst.toNat / 0x2000 then some (3, dst)
  else if (src.toNat + 4 * n - 1) / 0x2000 ≠ src.toNat / 0x2000 then some (3, src)
  else if dst.toNat / 0x2000 = src.toNat / 0x2000 then some (3, dst)
  else none

/-- bcpy (R203): fn + 1 words from address ra to address rd. -/
def execBcpy (i : Issue) (rd ra n : BitVec 4) (e : Ecc) (s : State) : Host.Outcome State Fault Refusal :=
  s.onDev (fun d => d.issue i (.bcpy rd ra n) (fun d =>
    let t := (d.hearth i.hearth).thr
    let dst := t.reg rd
    let src := t.reg ra
    match bcpyCheck dst src (n.toNat + 1) with
    | some (sub, a) => d.exception i.hearth 3 sub (some a)
    | none => d.eccThen i.hearth 2 e (fun d =>
        (d.updHearth i.hearth (fun x => { x with
          dmem := Memory.writeList x.dmem dst.toNat (Memory.readList x.dmem src.toNat (4 * (n.toNat + 1))) })).thr i.hearth id)))

/-! ## Control (R204) -/

/-- The PC goes to a target inside IMEM; outside it the branch traps with the FETCH subcode. -/
def Dev.jump (d : Dev) (h : Nat) (target : Int) (f : Thread → Thread) : Dev :=
  if target < 0 ∨ 0x4000 ≤ target then d.exception h 1 3 none
  else d.updHearth h (fun x => x.setThr { f x.thr with pc := BitVec.ofNat 14 target.toNat })

/-- br (R204). -/
def execBr (i : Issue) (off : BitVec 20) (s : State) : Host.Outcome State Fault Refusal :=
  s.onDev (fun d => d.issue i (.br off) (fun d => d.jump i.hearth (branchTo (d.hearth i.hearth).thr.pc off) id))

/-- bcc (R204). -/
def execBcc (i : Issue) (c : BitVec 4) (off : BitVec 20) (s : State) : Host.Outcome State Fault Refusal :=
  s.onDev (fun d => d.issue i (.bcc c off) (fun d =>
    if (d.hearth i.hearth).thr.cond c then d.jump i.hearth (branchTo (d.hearth i.hearth).thr.pc off) id
    else d.thr i.hearth id))

/-- call (R204): w15 takes the return address. -/
def execCall (i : Issue) (off : BitVec 20) (s : State) : Host.Outcome State Fault Refusal :=
  s.onDev (fun d => d.issue i (.call off) (fun d =>
    let pc := (d.hearth i.hearth).thr.pc
    d.jump i.hearth (branchTo pc off) (fun t => t.setReg 15 ((pc + 4).setWidth 32))))

/-- ret (R204): PC = ra[13:2] × 4; a register that points outside IMEM traps (DEDUCED, log 40). -/
def execRet (i : Issue) (ra : BitVec 4) (s : State) : Host.Outcome State Fault Refusal :=
  s.onDev (fun d => d.issue i (.ret ra) (fun d =>
    let a := (d.hearth i.hearth).thr.reg ra
    d.jump i.hearth ((a.toNat / 4 * 4 : Nat) : Int) id))

/-- loop (R204): the count falls by one; a branch while it is not zero. -/
def execLoop (i : Issue) (wc : BitVec 4) (off : BitVec 20) (s : State) : Host.Outcome State Fault Refusal :=
  s.onDev (fun d => d.issue i (.loop wc off) (fun d =>
    let t := (d.hearth i.hearth).thr
    let v := t.reg wc - 1
    if v = 0 then d.thr i.hearth (fun t => t.setReg wc v)
    else d.jump i.hearth (branchTo t.pc off) (fun t => t.setReg wc v)))

/-- uret (R210): URGENT ends, or starts again while words wait; illegal in MAIN. -/
def execUret (i : Issue) (s : State) : Host.Outcome State Fault Refusal :=
  s.onDev (fun d => d.issue i .uret (fun d =>
    let x := d.hearth i.hearth
    if !x.urgOn then d.exception i.hearth 1 5 none
    else if x.umbox.isEmpty then d.setHearth i.hearth { x with urgOn := false }
    else d.setHearth i.hearth { x with urg := { x.urg with pc := BitVec.ofNat 14 x.entUrg } }))

/-- halt (R204): the lane stops normally; HALTED is raised and EXCEPT is not. -/
def execHalt (i : Issue) (s : State) : Host.Outcome State Fault Refusal :=
  s.onDev (fun d => d.issue i .halt (fun d =>
    match d.laneOf i.hearth with
    | some n => d.haltLane n [2]
    | none => d.haltHearth i.hearth))

/-- nop (R204). -/
def execNop (i : Issue) (s : State) : Host.Outcome State Fault Refusal :=
  s.onDev (fun d => d.alu i .nop id)

/-- The stoker issues an illegal word (R195, R235): OPCODE for an unassigned opcode, FIELD for anything else; a false
predicate raises nothing (R196). -/
def execIllegalInstruction (h : Nat) (w : Word) (e : Ecc) (s : State) : Host.Outcome State Fault Refusal :=
  s.onDev (fun d =>
    if !d.canIssue h || (d.hearth h).fetchWord != w || (Yil.decode w).isSome then d
    else d.eccThen h 1 e (fun d =>
      if !(d.hearth h).thr.pred (wPred w) then d.thr h id
      else d.exception h 1 (if (Yil.read w).isNone then 1 else 2) none))

end Sys2Proof.Machine
end

