-- ==== Sys2Proof/Machine/StokerSys.lean ====
section
/-! DEFINITION. sysrd and syswr (R199, R209, R230, R231) and the 100 MHz time tick (R62, R66, R352, R441, R456, R459). -/

namespace Sys2Proof.Machine

/-! ## sysrd -/

/-- The waiting values of a lane page start or stop its program when they apply (R156, R184). -/
def Dev.applyRestarts (d : Dev) (n : Nat) : Bool :=
  !d.pis (Reg.LANE_CTL_EN n) || !d.is (Reg.LANE_CTL_EN n) || d.pf (Reg.LANE_PROG_SLOT n) != d.get (Reg.LANE_PROG_ACTIVE n)

/-- A read of SR_APPLY (R230): the apply point. The read retires unless the apply starts or stops the program. -/
def Dev.applyRead (d : Dev) (h : Nat) (rd : BitVec 4) (dmg : Damage) : Dev :=
  let n := (d.laneOf h).getD 0
  let cut := d.applyRestarts n
  let r := d.applyPoint h n dmg
  if r.1 && cut && d.bound n == some h && d.captures.any (fun c => c.page == pageOf (Reg.LANE_CTL n)) then r.2
  else r.2.thr h (fun t => t.setReg rd (BitVec.ofNat 32 (b2n r.1)))

/-- sysrd of an address (R209, R231). -/
def Dev.sysrdAt (d : Dev) (h : Nat) (rd : BitVec 4) (a : Word) (dmg : Damage) : Dev :=
  let n := (d.laneOf h).getD 0
  if a.toNat % 4 ≠ 0 then d.privFault h 1 a false
  else if isSr a.toNat then
    if !srListed a.toNat then d.privFault h 1 a false
    else if a.toNat = 0xFF2024 then d.applyRead h rd dmg
    else
      let r := d.srRead h a.toNat
      r.2.thr h (fun t => t.setReg rd r.1)
  else if !mayRead n a.toNat then d.privFault h 1 a false
  else if (d.hearth h).urgOn then d.exception h 1 4 none
  else d.waitFor h (.sysrd rd.toNat a.toNat)

/-- SYSRD. `dmg` is what the ECC finds in an image that an apply point starts. -/
def execSysrd (i : Issue) (rd ra : BitVec 4) (off : BitVec 16) (dmg : Damage) (s : State) : Host.Outcome State Fault Refusal :=
  s.onDev (fun d => d.issue i (.sysrd rd ra off) (fun d => d.sysrdAt i.hearth rd ((d.hearth i.hearth).thr.addr ra off) dmg))

/-- A sysrd that names one address; a sysrd of another is SYSRD. -/
def Dev.sysrdOf (d : Dev) (only : Nat) (i : Issue) (rd ra : BitVec 4) (off : BitVec 16) (dmg : Damage) : Dev :=
  if ((d.hearth i.hearth).thr.addr ra off).toNat ≠ only then d
  else d.issue i (.sysrd rd ra off) (fun d => d.sysrdAt i.hearth rd ((d.hearth i.hearth).thr.addr ra off) dmg)

/-- SR_SAMPLE_LO_READ (R221). -/
def execSrSampleLoRead (i : Issue) (rd ra : BitVec 4) (off : BitVec 16) (s : State) : Host.Outcome State Fault Refusal :=
  s.onDev (fun d => d.sysrdOf 0xFF2000 i rd ra off .intact)

/-- SR_APPLY_READ (R230). -/
def execSrApplyRead (i : Issue) (rd ra : BitVec 4) (off : BitVec 16) (dmg : Damage) (s : State) : Host.Outcome State Fault Refusal :=
  s.onDev (fun d => d.sysrdOf 0xFF2024 i rd ra off dmg)

/-! ## syswr -/

/-- Some of the posted writes of a hearth take effect, oldest first (R231). -/
def Dev.drainSome (d : Dev) (h k : Nat) : Dev :=
  ((d.hearth h).posted.take k).foldl (fun d c => d.postedWrite h c.1 c.2) (d.updHearth h (fun x => { x with posted := x.posted.drop k }))

/-- syswr of a word to an address (R209, R231). -/
def Dev.syswrAt (d : Dev) (h : Nat) (a w : Word) : Dev :=
  let n := (d.laneOf h).getD 0
  let x := d.hearth h
  if a.toNat % 4 ≠ 0 then d.privFault h 1 a true
  else if isSr a.toNat then
    if !srListed a.toNat then d.privFault h 1 a true
    else if !srWritable a.toNat then d.privFault h 2 a true
    else (d.srWrite h a.toNat w).thr h id
  else if !mayWrite n a.toNat then d.privFault h (if mayRead n a.toNat then 2 else 1) a true
  else if x.posted.length < 4 then (d.setHearth h { x with posted := x.posted ++ [(selfAddr n a.toNat, w)] }).thr h id
  else if x.urgOn then d.exception h 1 4 none
  else d.waitFor h (.syswr (selfAddr n a.toNat) w)

/-- SYSWR. `k` of the writes posted before have taken effect by then (log 42). -/
def execSyswr (i : Issue) (rs ra : BitVec 4) (off : BitVec 16) (k : Nat) (s : State) : Host.Outcome State Fault Refusal :=
  s.onDev (fun d => d.issue i (.syswr rs ra off) (fun d =>
    let t := (d.hearth i.hearth).thr
    (d.drainSome i.hearth k).syswrAt i.hearth (t.addr ra off) (t.reg rs)))

/-! ## The time tick -/

/-- The time trigger of a snapshot (R121). -/
def Dev.snapTime (d : Dev) : Dev :=
  match d.cap.snap with
  | some s => if s.time ≤ d.devtime then d.snapTrigger 1 else d
  | none => d

/-- Every posting buffer takes effect (log 42). -/
def Dev.drainAll (d : Dev) : Dev := (d.hearths.map (·.1)).foldl (fun d h => d.drainPosted h) d

/-- TIME_TICK: DEVTIME, the root sample index and the model's clock advance; the CLK page, a timed commit, a time trigger and
PPS_OUT act at a tick. -/
def Dev.timeTick (d : Dev) : Dev :=
  if !d.ticking then d
  else
    let before := d.devtime
    let d := { d with now := d.now + 10, scount := (d.scount + 32) % 2 ^ 64 }
    let d := (d.devSet.sscTick.pageApply 0x10000 .intact).clkOuts
    ((d.ppsOutTick before).snapTime).armedTick.drainAll

def execTimeTick (s : State) : Host.Outcome State Fault Refusal := s.onDev (fun d => d.timeTick)

end Sys2Proof.Machine
end

