-- ==== Sys2Proof/Machine/HostAccess.lean ====
section
/-! DEFINITION. Accesses to the address map by the host and the mantel: privilege (R72 to R74), access types (R12 to R15),
buffered and sequence-cleared registers, bit aliases (R75, R76), windows (R14, R41), and what each register's write does. -/

namespace Sys2Proof.Machine

/-! ## Initiators and privilege -/

/-- The initiator is privileged (R72). -/
def privileged : Initiator → Bool
  | .bar2 => true
  | .spi p => p
  | .mantel => true
  | _ => false

/-- SOURCE of a soot entry that names an initiator (R510). -/
def sourceOf : Initiator → Nat
  | .mantel => 0x20
  | .bar0 => 0x21
  | .bar2 => 0x22
  | .spi _ => 0x23
  | .stoker h => 0x80 + h

/-- A soot entry's detail: direction and address (R511). -/
def accessDetail (write : Bool) (a : Nat) : Nat := b2n write * 2 ^ 31 + a % 2 ^ 26

/-- An unprivileged attempt on a PRV field is logged (R74). -/
def Dev.privAttempt (d : Dev) (who : Initiator) (write : Bool) (a : Nat) : Dev :=
  (d.sootE 1 (sourceOf who) 0xC001 (accessDetail write a)).raise Reg.SYS_EVT 3

/-- An access discarded for its alignment or byte enables is logged (R14, R49). -/
def Dev.alignDiscard (d : Dev) (who : Initiator) (write : Bool) (a : Nat) : Dev :=
  (d.sootE 1 (sourceOf who) 0xC002 (accessDetail write a)).raise Reg.SYS_EVT 4

/-- The privileged fields of a register. -/
def Reg.prv (r : Reg) : Word := r.maskBy (·.prv)

/-- The block whose reset or wrapper an address lies behind (R477); none for what RST_BLK does not name. -/
def gateBlock (a : Nat) : Option Nat :=
  if a < 0x30000 ∨ (0x100000 ≤ a ∧ a < 0x200000) ∨ (0x210000 ≤ a ∧ a < 0x220000) ∨ 0x360000 ≤ a then none else some (blockOf a)

/-- The address lies in a block that is held in reset. -/
def Dev.heldAt (d : Dev) (a : Nat) : Bool := (gateBlock a).any d.heldBlk

/-- The address lies behind a closed wrapper (R478). -/
def Dev.closedAt (d : Dev) (a : Nat) : Bool := (gateBlock a).any (fun b => d.rst.isolating.contains b)

/-! ## Reads -/

/-- The LO registers whose read latches the word above them (R83, R130, R351, R363, R404, R424, R502, R507). -/
def latchesHi (a : Nat) : Bool :=
  a == Reg.SYS_TIME_LO || a == Reg.GRT_SCOUNT_LO || a == Reg.FLU_PPSIN_LO || a == Reg.EMB_TIME_LO || a == Reg.AUX_ATNTIME_LO
    || a == Reg.BST_LSIG_LO || a == Reg.BST_MSIG_LO
    || (decide (0x311000 ≤ a) && decide (a < 0x319000) && (a % 0x1000 == 0x10 || a % 0x1000 == 0x18))
    || (decide (0x340100 ≤ a) && decide (a < 0x3401E0) && a % 0x20 == 8)

/-- The word of a register as it stands, without a side effect: the reset value while its block is held, GROUP apart
(R477). -/
def Dev.shown (d : Dev) (a : Nat) : Word :=
  if d.heldAt a then (if a % 0x1000 = 0xFFC then d.rd a &&& 0xF else regReset a) else d.hostView a

/-- A read of a register with its side effect: a LO read latches, the next HI read takes the latched word (R15, R83). -/
def Dev.regReadRaw (d : Dev) (who : Initiator) (a : Nat) : Word × Dev :=
  if d.closedAt a then d.fresh
  else if latchesHi a then (d.shown a, d.latch who (a + 4) (d.shown (a + 4)))
  else if 4 ≤ a ∧ latchesHi (a - 4) then d.takeLatch who a (d.shown a)
  else (d.shown a, d)

/-- A read of a register by an initiator: privileged fields read zero to an unprivileged one, which is logged (R73, R74). -/
def Dev.regRead (d : Dev) (who : Initiator) (a : Nat) : Word × Dev :=
  if !d.part.has a then (0, d)
  else match lookupReg a with
    | none => (0, d)
    | some r =>
      if r.prv ≠ 0 ∧ !(privileged who) then
        let x := (d.privAttempt who false a).regReadRaw who a
        (x.1 &&& ~~~r.prv, x.2)
      else d.regReadRaw who a

/-- The register word and the bit that a bit alias names (R75). -/
def aliasAddr (a : Nat) : Nat := (a - 0x2000000) / 128 * 4
def aliasBit (a : Nat) : Nat := (a - 0x2000000) / 4 % 32

/-- A read of a bit alias: no side effect (R75). -/
def Dev.aliasRead (d : Dev) (who : Initiator) (a : Nat) : Word × Dev :=
  let t := aliasAddr a
  let b := aliasBit a
  if !d.part.has t then (0, d)
  else match lookupReg t with
    | none => (0, d)
    | some r =>
      if bit r.prv b ∧ !(privileged who) then (0, d.privAttempt who false a)
      else if d.closedAt t then (d.fresh.1 &&& 1, d.fresh.2)
      else (BitVec.ofNat 32 (b2n (bit (d.shown t) b)), d)

/-- A read of a word of the address map (R55); `e` is what the ECC finds in the ashpit. -/
def Dev.mapRead (d : Dev) (who : Initiator) (a : Nat) (e : Ecc) : Word × Dev :=
  let a := a / 4 * 4
  if 0x800000 ≤ a ∧ a < 0xA00000 then d.storeRead (a - 0x800000)
  else if a < 0x1000000 then d.regRead who a
  else if a < 0x2000000 then
    let r := d.apData (d.apAddr (a - 0x1000000)) 4 e
    (wordOfBytes (r.1.getD 0 0) (r.1.getD 1 0) (r.1.getD 2 0) (r.1.getD 3 0), r.2.2)
  else if a < 0x2800000 then d.aliasRead who a
  else (0, d)

/-! ## What the writes of a register do -/

/-- The vector that an event enable register gates (R77, R78). -/
def enVector (a : Nat) : Option Nat :=
  if a = Reg.SYS_EVT_EN ∨ a = Reg.CLK_EVT_EN ∨ a = Reg.RST_EVT_EN ∨ a = Reg.PST_EVT_EN then some 2
  else if a = Reg.FWT_EVT_EN then some 0
  else if a = Reg.SOOT_EVT_EN then some 1
  else if a = Reg.CAP_EVT_EN then some 3
  else if a = Reg.GRT_EVT_EN then some 4
  else if a = Reg.HMG_EVT_EN then some 5
  else if a = Reg.OVN_EVT_EN ∨ a = Reg.CHM_EVT_EN then some 10
  else if a = Reg.ASH_EVT_EN then some 11
  else if a = Reg.FLU_EVT_EN 0 ∨ a = Reg.FLU_EVT_EN 1 ∨ a = Reg.HF_EVT_EN ∨ a = Reg.FLU_SEVT_EN then some 12
  else if a = Reg.AUD_GEVT_EN ∨ (0x311000 ≤ a ∧ a < 0x319000 ∧ a % 0x1000 = 0x24) then some 13
  else if a = Reg.AUX_EVT_EN 0 ∨ a = Reg.AUX_EVT_EN 1 ∨ a = Reg.AUX_EVT_EN 2 then some 14
  else if a = Reg.SMK_EVT_EN ∨ a = Reg.EMB_EVT_EN then some 15
  else if a = Reg.CAL_EVT_EN ∨ a = Reg.BST_EVT_EN then some 16
  else if 0x100000 ≤ a ∧ a < 0x160000 ∧ a % 0x1000 = 0x14 then some (6 + (a - 0x100000) / 0x1000 / 24)
  else none

/-- The read/write fields at an address. -/
def Reg.rwMask (r : Reg) : Word := r.maskBy (fun f => f.acc == .rw)

/-- A word's read/write fields replaced (R68). -/
def Dev.rwMerge (d : Dev) (a : Nat) (m w : Word) : Dev := d.wr a (mergeMask m (d.rd a) w)

/-- An event enable register written (R78, R79): a vector that becomes pending by it has its message fall due. -/
def Dev.enWrite (d : Dev) (a v : Nat) (m w : Word) : Dev :=
  let d' := d.rwMerge a m w
  (if !d.vecPending v && d'.vecPending v then d'.notify v else d').settle

/-- SYS_VEC_EN written (R79): a vector that is pending when its bit rises has its message fall due. -/
def Dev.vecEnWrite (d : Dev) (m w : Word) : Dev :=
  let d' := d.rwMerge Reg.SYS_VEC_EN m w
  ((List.range 17).foldl (fun d' v => if !d.vecEnabled v && d'.vecEnabled v && d'.vecPending v then d'.notify v else d') d').settle

/-- The bits of RST_BLK and RST_MODE that name a block of the part (R477). -/
def Part.rstMask (p : Part) : Word := p.rstBlocks.foldl (fun w b => w ||| BitVec.ofNat 32 (2 ^ b)) 0

/-- A write of LANE_CMD: an OP that names no command is a bad argument. -/
def Dev.laneWrite (d : Dev) (n : Nat) (w : Word) (dmg : Damage) : Dev :=
  let arg := getBits w 23 16
  let tag := getBits w 15 8
  d.laneCmd n (getBits w 31 24) tag (fun d => match getBits w 31 24 with
    | 1 => d.laneBind n arg tag dmg
    | 2 => d.laneUnbind n tag
    | 3 => d.laneMove n arg tag
    | 4 => d.laneRestartCmd n tag dmg
    | op => d.laneDone n op tag 3)

/-- Writes that do more than store, in SYS and RST. -/
def Dev.hookSys (d : Dev) (a : Nat) (m w : Word) (x : WriteCtx) : Option Dev :=
  if a = Reg.SYS_COMMIT then
    some (if bit w 16 then d.commitArm (getBits w 31 24) (getBits w 15 0) else d.commit (getBits w 31 24) (getBits w 15 0))
  else if a = Reg.SYS_IMMED then some (d.immedWrite w)
  else if a = Reg.SYS_VEC_EN then some (d.vecEnWrite (m &&& d.part.vecMask) w)
  else if a = Reg.SYS_SPICFG then some (d.rwMerge a m (if getBits w 5 0 = 0 then putBits w 5 0 1 else w))
  else if a = Reg.CLK_CMD then some (d.clkWrite w)
  else if a = Reg.RST_CMD then some (d.rstWrite w)
  else if a = Reg.RST_PWR then some (d.pwrWrite w)
  else if a = Reg.RST_BLK then some (d.rstBlkWrite w x.sds x.pcie)
  else if a = Reg.RST_MODE then some (d.rwMerge a (m &&& d.part.rstMask) w)
  else if a = Reg.RST_MNTCMD then some (d.mntWrite w)
  else if a = Reg.RST_OTPCMD then some (d.otpWrite w)
  else none

/-- The command and trigger registers of the blocks that RST_BLK names, and HF_CTL: nothing happens while the block is
held. -/
def Dev.hookBlock (d : Dev) (a : Nat) (w : Word) (x : WriteCtx) : Option Dev :=
  if a = Reg.FWT_ACK then some (d.ackWrite w)
  else if a = Reg.FWT_TW_TRIG 0 ∨ a = Reg.FWT_TW_TRIG 1 ∨ a = Reg.FWT_TW_TRIG 2 ∨ a = Reg.FWT_TW_TRIG 3 then
    some (d.tripWrite ((a - Reg.FWT_TW_TRIG 0) / 0x10) w)
  else if a = Reg.FWT_LOGRD then some (d.wr a (BitVec.ofNat 32 (getBits w 31 16 * 65536 + getBits w 23 16)))
  else if a = Reg.CAP_CMD then some (d.capWrite w)
  else if a = Reg.ASH_CMD then some (d.ashWrite w)
  else if a = Reg.FLU_SFPB0 0 then some (d.sfpB0Write 0 w)
  else if a = Reg.FLU_SFPB0 1 then some (d.sfpB0Write 1 w)
  else if a = Reg.FLU_SFPSN 0 then some (d.sfpSnWrite 0 w)
  else if a = Reg.FLU_SFPSN 1 then some (d.sfpSnWrite 1 w)
  else if a = Reg.HF_CTL then some (if bit w 31 then d.hfStart else d.set Reg.HF_CTL_EN 0)
  else if a = Reg.AUX_CMD 0 then some (d.auxWrite 0 w x.freed)
  else if a = Reg.AUX_CMD 1 then some (d.auxWrite 1 w x.freed)
  else if a = Reg.AUX_CMD 2 then some (d.auxWrite 2 w x.freed)
  else if a = Reg.SMK_TXCMD then some (d.txWrite w)
  else if a = Reg.SMK_RXPOP then some d.rxPop
  else if a = Reg.CAL_CMD then some (d.calWrite w x.dmg)
  else if a = Reg.BST_CMD then some (d.bstWrite w)
  else none

/-- Those of what no block reset holds: lanes, the soot log, the program store. -/
def Dev.hookOther (d : Dev) (a : Nat) (w : Word) (x : WriteCtx) : Option Dev :=
  if 0x100000 ≤ a ∧ a < 0x160000 then
    let n := (a - 0x100000) / 0x1000
    let o := a % 0x1000
    if o = 0x18 then some (d.laneWrite n w x.dmg)
    else if 0x400 ≤ o ∧ o < 0x600 then some (d.mboxWrite n o w)
    else none
  else if a = Reg.SOOT_RD then some (d.sootRd w)
  else if a = Reg.SOOT_ACK then some (d.sootAck w)
  else if a = Reg.PST_CMD then some (d.pstWrite w)
  else none

/-- What a write does at a register beside its buffered fields; a register without a hook stores its read/write fields. -/
def Dev.plainWrite (d : Dev) (a : Nat) (r : Reg) (w : Word) (x : WriteCtx) : Dev :=
  let m := r.rwMask
  match enVector a with
  | some v => d.enWrite a v m w
  | none => match d.hookSys a m w x with
    | some d' => d'
    | none => match d.hookBlock a w x with
      | some d' => if d.heldAt a then (if m = 0 then d else d.rwMerge a m w) else d'
      | none => match d.hookOther a w x with
        | some d' => d'
        | none => if m = 0 then d else d.rwMerge a m w

/-- The register holds sequence-cleared fields. -/
def Reg.isSqc (r : Reg) : Bool := r.fields.any (fun f => f.acc == .sqc)

/-- A whole word written to a register by an initiator that may write it (R12, R57, R70). -/
def Dev.regPut (d : Dev) (a : Nat) (r : Reg) (w : Word) (x : WriteCtx) : Dev :=
  if d.closedAt a then d
  else if r.isSqc then (if d.heldAt a then d else d.sqcClear a w)
  else
    let d := d.plainWrite a r w x
    if r.rwb = 0 then d else d.shadowWrite a w

/-- A write to a register of an absent unit is ignored; a command to it completes with ABSENT (R4). -/
def Dev.absentWrite (d : Dev) (a : Nat) (w : Word) : Dev :=
  let op := getBits w 31 24
  let tag := getBits w 15 8
  if 0x100000 ≤ a ∧ a < 0x160000 ∧ a % 0x1000 = 0x18 then d.cmdAbsent (a + 4) op tag
  else if a = Reg.AUX_CMD 2 then d.cmdAbsent (Reg.AUX_CMDSTAT 2) op tag
  else if a = Reg.SMK_TXCMD then d.cmdAbsent Reg.SMK_TXSTAT op tag
  else d

/-- A whole-word write to a register address (R4, R13, R73, R74). -/
def Dev.regWrite (d : Dev) (who : Initiator) (a : Nat) (w : Word) (x : WriteCtx) : Dev :=
  if !d.part.has a then d.absentWrite a w
  else match lookupReg a with
    | none => d
    | some r =>
      if r.prv ≠ 0 ∧ !(privileged who) then d.privAttempt who true a else d.regPut a r w x

/-- The field of a register that holds a bit. -/
def Reg.fieldAt (r : Reg) (b : Nat) : Option Field := r.fields.find? (fun f => decide (f.lo ≤ b) && decide (b ≤ f.hi))

/-- A write of a bit alias (R75, R76): one bit of the target, by the access type of its field. -/
def Dev.aliasWrite (d : Dev) (who : Initiator) (a : Nat) (w : Word) (x : WriteCtx) : Dev :=
  let t := aliasAddr a
  let b := aliasBit a
  let v := b2n (bit w 0)
  if !d.part.has t then d
  else match lookupReg t with
    | none => d
    | some r => match r.fieldAt b with
      | none => d
      | some f =>
        if f.prv ∧ !(privileged who) then d.privAttempt who true a
        else match f.acc with
          | .ro => d
          | .sqc => d
          | .rw => if d.closedAt t then d else d.plainWrite t r (putBits (d.rd t) b b v) x
          | .rwb => if d.closedAt t then d else d.shadowWrite t (putBits (d.sh t) b b v)
          | .wo => if t = Reg.RST_CMD ∨ d.closedAt t then d else d.plainWrite t r (putBits 0 b b v) x

/-- The registers that accept partial writes: the smoke radio's TX buffer and the calibration windows (R14). -/
def byteWritable (a : Nat) : Bool :=
  (decide (0x331000 ≤ a) && decide (a < 0x331074)) || (decide (0x341000 ≤ a) && decide (a < 0x343000))

/-- Bytes of a word whose enables are set, with the first one's offset; the enables are taken as they are. -/
def enabledBytes (w : Word) (be : BitVec 4) : List (Nat × Byte) :=
  ([0, 1, 2, 3].filter (fun i => be.getLsbD i)).map (fun i => (i, byteOf w i))

/-- A write to the address map (R55): register space takes whole words alone (R14). -/
def Dev.mapWrite (d : Dev) (who : Initiator) (a : Nat) (w : Word) (be : BitVec 4) (x : WriteCtx) : Dev :=
  let a := a / 4 * 4
  if 0x800000 ≤ a ∧ a < 0xA00000 then d.storeWrite (a - 0x800000) w be
  else if 0x1000000 ≤ a ∧ a < 0x2000000 then
    if be = 15 then d.apWrite (d.apAddr (a - 0x1000000)) [byteOf w 0, byteOf w 1, byteOf w 2, byteOf w 3]
    else (enabledBytes w be).foldl (fun d c => d.apWrite (d.apAddr (a - 0x1000000 + c.1)) [c.2]) d
  else if 0x2800000 ≤ a then d
  else if be ≠ 15 then
    if byteWritable a then d.regWrite who a (mergeMask (byteMask be) (d.rd a) w) x else d.alignDiscard who true a
  else if a < 0x1000000 then d.regWrite who a w x
  else d.aliasWrite who a w x

end Sys2Proof.Machine
end

