-- ==== Sys2Proof/Machine/HostPort.lean ====
section
/-! DEFINITION. The host port: PCIe accesses, link and messages (R37 to R44, R79, R82, R472, R473), the quad-SPI port's
transactions (R45 to R53), and the rows of the register map's own commands (R57, R70, R75, R83, R130). -/

namespace Sys2Proof.Machine

/-! ## Who reaches the map -/

/-- Register space is accessible: the device is ACTIVE, or is entering BANKED (R47, R472). -/
def Dev.open_ (d : Dev) : Bool :=
  d.get Reg.RST_STAT_STATE == 2 || (d.get Reg.RST_STAT_STATE == 3 && !d.rst.banked)

/-- The PCIe port carries accesses (R37, R473). -/
def Dev.pcieUp (d : Dev) : Bool := d.rst.host && !d.spiHost && d.pcie.linkUp

/-- The registers that PCIe reads in kindling (R472). -/
def kindlingReadable (a : Nat) : Bool :=
  a == Reg.SYS_ID || a == Reg.SYS_REV || a == Reg.RST_STAT || a == Reg.RST_CAUSE

/-- What stops the SPI port from being served: no supply of the always-on domain, or the strap selects PCIe. Until a full
kindling has read the strap the port answers (R37, R51). -/
def Dev.spiServed (d : Dev) : Bool := d.rst.aon && (d.spiHost || d.rst.steps.contains 3)

/-- An initiator's whole access to the map now: PCIe by its link, SPI by its strap, the mantel while it runs. -/
def Dev.reaches (d : Dev) (who : Initiator) : Bool :=
  match who with
  | .bar0 => d.pcieUp && d.open_
  | .bar2 => d.pcieUp && d.open_
  | .spi _ => d.spiHost && d.open_
  | .mantel => !d.rst.banked && !d.rst.asserted
  | .stoker _ => false

/-- BAR2 reaches the lowest 16 MiB alone (R40). -/
def inBar (who : Initiator) (a : Nat) : Bool := who != .bar2 || decide (a < 0x1000000)

/-! ## MSI-X (R41, R79, R82) -/

/-- Messages that wait in the pending-bit array and may go now. -/
def Dev.msixFlush (d : Dev) : Dev :=
  (List.range 17).foldl (fun d v =>
    if d.pcie.pba.testBit v && !d.vecMasked v && !d.pcie.fmask && d.vecPending v && d.vecEnabled v then d.notify v else d) d

/-- A word of the MSI-X table written: of Vector Control, the Mask bit. -/
def Dev.msixTable (d : Dev) (k : Nat) (w : Word) : Dev :=
  if 128 ≤ k then d
  else
    let c := decide (k % 4 = 3)
    { d with pcie := { d.pcie with table := SMap.put (if c then 1 else 0) d.pcie.table k (if c then w &&& 1 else w) } }.msixFlush

/-! ## Configuration space (R39, R40) -/

/-- The address bits of a base address register: 64 MiB, 16 MiB; the others read as zero (R40). -/
def barMask (k : Nat) : Word :=
  match k with
  | 0 => 0xFC000000
  | 2 => 0xFF000000
  | _ => 0

/-- What configuration space shows (R39, R40): both base address registers are 32-bit and non-prefetchable, so their low bits
are 0; the subsystem IDs are those of OTP, or the vendor and device IDs where it is not programmed; 256 bytes of payload are
supported and 512-byte read requests are used. The places within a word are those of the PCI specification (PRESUMED, log 19). -/
def Dev.cfgWord (d : Dev) (r : CfgReg) : Word :=
  let ids : Word := BitVec.ofNat 32 (d.part.code * 65536 + 0x0F1E)
  match r with
  | .ids => ids
  | .classRev => BitVec.ofNat 32 (0x048000 * 256 + d.get Reg.SYS_REV_EPOCH * 16 + d.get Reg.SYS_REV_METAL)
  | .subsys =>
    if d.rd (Reg.OTP_WORD 1) = 0 then ids
    else BitVec.ofNat 32 (getBits (d.rd (Reg.OTP_WORD 1)) 15 0 * 65536 + getBits (d.rd (Reg.OTP_WORD 1)) 31 16)
  | .bar k => SMap.get 0 d.pcie.bars k
  | .power => if d.pcie.d3hot then 3 else 0
  | .aer => d.pcie.aer
  | .msix => BitVec.ofNat 32 (b2n d.pcie.enable * 2 ^ 31 + b2n d.pcie.fmask * 2 ^ 30 + 31 * 65536)
  | .payload => BitVec.ofNat 32 (1 + 2 * 4096)

/-- Errors the port logs in its AER capability raise PCIEERR (R83). -/
def Dev.aerLog (d : Dev) (w : Word) : Dev :=
  if w = 0 then d else ({ d with pcie := { d.pcie with aer := d.pcie.aer ||| w } }).raise Reg.SYS_EVT 7

/-- The MSI-X state or configuration space written or read. -/
def Dev.msixWrite (d : Dev) (x : MsixWrite) : Dev :=
  match x with
  | .table k w => d.msixTable k w
  | .control e m => { d with pcie := { d.pcie with enable := e, fmask := m } }.msixFlush
  | .bar k w => { d with pcie := { d.pcie with bars := SMap.put 0 d.pcie.bars k (w &&& barMask k) } }
  | .power b => { d with pcie := { d.pcie with d3hot := b } }
  | .aerClear w => { d with pcie := { d.pcie with aer := d.pcie.aer &&& ~~~w } }
  | .cfgRead r => d.emit (.cfg r (d.cfgWord r))

/-- MSIX_CONTROL_WRITE: the port is up; configuration space and the table behave normally in kindling (R472). -/
def execMsixControlWrite (x : MsixWrite) (s : State) : Host.Outcome State Fault Refusal :=
  s.onDev (fun d => if d.pcieUp then d.msixWrite x else d)

/-- IMOD_HOLD_EXPIRY: HOLD has passed for a vector whose next message waits (R82). -/
def Dev.imodExpiry (d : Dev) (v : Nat) : Dev :=
  if !d.pcie.held.contains v || d.imodHeld v then d
  else
    let d := { d with pcie := { d.pcie with held := d.pcie.held.filter (· != v) } }
    if d.vecPending v then d.notify v else d

def execImodHoldExpiry (v : Nat) (s : State) : Host.Outcome State Fault Refusal := s.onDev (fun d => d.imodExpiry v)

/-! ## The PCIe port's own events (R44, R473) -/

/-- PCIE_PORT_RESET: configuration space, the MSI-X state and the HF engine are cleared; pending vectors set their
pending-array bits (R79, R345). R44 does not say what becomes of the link; the model takes it as down until PCIE_LINK_UP after
each of its four events, a function-level reset included (DESIGN CHOICE, log 19). -/
def Dev.pciePortReset (d : Dev) : Dev :=
  let d := d.hfStop none
  let pba := (List.range 17).foldl (fun p v => if d.vecPending v && d.vecEnabled v then p ||| 2 ^ v else p) 0
  { d with pcie := { pba := pba } }

def execPciePortReset (s : State) : Host.Outcome State Fault Refusal :=
  s.onDev (fun d => if d.spiHost then d else d.pciePortReset)

/-- PCIE_LINK_UP: the link has trained, once the host port is released. -/
def execPcieLinkUp (s : State) : Host.Outcome State Fault Refusal :=
  s.onDev (fun d => if d.rst.host && !d.spiHost then { d with pcie := { d.pcie with linkUp := true } } else d)

/-! ## Accesses by rows of their own -/

/-- A word BAR0 shows at and above 0x03FF_0000 (R41): the MSI-X table, the pending-bit array, else zero. -/
def Dev.msixRead (d : Dev) (a : Nat) : Word :=
  let k := (a - 0x3FF0000) / 4
  if a < 0x3FF0200 then SMap.get (if k % 4 = 3 then 1 else 0) d.pcie.table k
  else if a / 4 * 4 = 0x3FF1000 then BitVec.ofNat 32 d.pcie.pba
  else 0

/-- A read answered: PCIe reads complete with zero in kindling, four registers apart (R472). -/
def Dev.answerRead (d : Dev) (who : Initiator) (a : Nat) : Dev :=
  if who = .bar0 ∧ 0x3FF0000 ≤ a then (if d.pcieUp then d.emit (.reply who a (d.msixRead a) false) else d)
  else if !inBar who a then d
  else if d.reaches who then
    let r := d.mapRead who a .clean
    r.2.emit (.reply who a r.1 false)
  else match who with
    | .bar0 | .bar2 => if d.pcieUp then d.emit (.reply who a (if kindlingReadable a then d.hostView a else 0) false) else d
    | _ => d

/-- SYS_TIME_LO_READ. The table has a row of its own for the reads with a side effect alone. So that every read of the PCIe port
and of the mantel can be commanded (R41, R73, R74, R76), this row carries the address read: `r.a` = SYS_TIME_LO is the row's own
read, another address is a read that changes nothing but what R74 logs (DESIGN CHOICE, log 19). -/
def execSysTimeLoRead (r : HostRead) (s : State) : Host.Outcome State Fault Refusal :=
  s.onDev (fun d => d.answerRead r.who r.a)

/-- GRT_SCOUNT_LO_READ. -/
def execGrtScountLoRead (who : Initiator) (s : State) : Host.Outcome State Fault Refusal :=
  s.onDev (fun d => d.answerRead who Reg.GRT_SCOUNT_LO)

/-- A write by the host or the mantel; BAR0 holds the MSI-X table too (R41). -/
def Dev.portWrite (d : Dev) (who : Initiator) (a : Nat) (w : Word) (be : BitVec 4) (x : WriteCtx) : Dev :=
  let d := if (who = .bar0 ∨ who = .bar2) ∧ d.pcieUp = true then d.aerLog x.aer else d
  if who = .bar0 ∧ 0x3FF0000 ≤ a ∧ a < 0x3FF0200 then
    let k := (a - 0x3FF0000) / 4
    if d.pcieUp then d.msixTable k (mergeMask (byteMask be) (d.msixRead (a / 4 * 4)) w) else d
  else if d.reaches who && inBar who a then d.mapWrite who a w be x
  else d

/-- REGISTER_WRITE. -/
def execRegisterWrite (who : Initiator) (a : Nat) (w : Word) (be : BitVec 4) (x : WriteCtx) (s : State) :
    Host.Outcome State Fault Refusal :=
  s.onDev (fun d => d.portWrite who a w be x)

/-- BIT_ALIAS_WRITE: `a` is the alias. -/
def execBitAliasWrite (who : Initiator) (a : Nat) (w : Word) (x : WriteCtx) (s : State) : Host.Outcome State Fault Refusal :=
  s.onDev (fun d => if 0x2000000 ≤ a ∧ a < 0x2800000 then d.portWrite who a w 15 x else d)

/-- An address of a sequence-cleared register. -/
def isSqcAddr (a : Nat) : Bool := (lookupReg a).any Reg.isSqc

/-- SQC_CLEAR: a write of a sequence-cleared register. -/
def execSqcClear (who : Initiator) (a : Nat) (w : Word) (x : WriteCtx) (s : State) : Host.Outcome State Fault Refusal :=
  s.onDev (fun d => if isSqcAddr a then d.portWrite who a w 15 x else d)

/-! ## The quad-SPI port -/

/-- A 16-bit CRC as it is sent, most significant nibble first. -/
def crcBytes (c : BitVec 16) : List Byte := [c.extractLsb' 8 8, c.extractLsb' 0 8]

/-- The commands of the quad-SPI port (R46). -/
inductive SpiName where
  | wr | rd | rd1 | wr1 | stat | rstc | wake
deriving DecidableEq, Repr

/-- Bits [6:0] of a command's opcode (R46). -/
def SpiName.code : SpiName → Nat
  | .wr => 1
  | .rd => 2
  | .rd1 => 3
  | .wr1 => 4
  | .stat => 5
  | .rstc => 8
  | .wake => 9

/-- The command that bits [6:0] of an opcode select; none for the others (R46). -/
def spiCommand (b : Byte) : Option SpiName :=
  match b.toNat % 128 with
  | 1 => some .wr
  | 2 => some .rd
  | 3 => some .rd1
  | 4 => some .wr1
  | 5 => some .stat
  | 8 => some .rstc
  | 9 => some .wake
  | _ => none

/-- Opcode bit 7: the P flag (R46). -/
def spiPriv (b : Byte) : Bool := b.getLsbD 7

/-- The opcode byte of a command (R46). -/
def opByte (p : Bool) (c : SpiName) : Byte := BitVec.ofNat 8 (b2n p * 128 + c.code)

/-- What a transaction carries after its opcode: address, the words of a write, the number of words of a read and the wait
clocks before each beyond the minimum (R47), the key and the level of RSTC (R52), how far it came, and what it meets. -/
structure SpiTx where
  addr : Nat := 0
  ws : List SpiWord := []
  n : Nat := 0
  waits : List Nat := []
  key : Nat := 0
  level : Nat := 0
  e : SpiEnd := .whole
  ecc : Ecc := .clean
  x : WriteCtx

/-- What the first word's CRC covers beside the word: the opcode and the address (R50). -/
def spiHead (op : Byte) (addr : Nat) : List Byte :=
  let a : Word := BitVec.ofNat 32 addr
  [op, byteOf a 3, byteOf a 2, byteOf a 1, byteOf a 0]

/-- Bytes on the four data balls, each high nibble first (R45). -/
def nibbles (bs : List Byte) : List (BitVec 4) := bs.flatMap (fun b => [b.extractLsb' 4 4, b.extractLsb' 0 4])

/-- The wait phase of a read (R47): 0xF for so many clocks, then the token 0x0. -/
def spiToken (wait : Nat) : List (BitVec 4) := List.replicate wait 0xF ++ [0]

/-- A transaction is over: TXCNT and LASTERR (R51). -/
def Dev.spiEnd (d : Dev) (err : Nat) : Dev :=
  { d with spi := { d.spi with lastErr := err, txCount := (d.spi.txCount + 1) % 256 } }

/-- A transaction ended mid-word or with OVERFLOW (R83). -/
def Dev.spiAbort (d : Dev) : Dev := (d.incSat Reg.SYS_SPISTAT_ABORTS 1).raise Reg.SYS_EVT 6

/-- An address of the aperture, whose words drain slowly (R48). -/
def isAperture (a : Nat) : Bool := decide (0x1000000 ≤ a) && decide (a < 0x2000000)

/-- The oldest word of the write buffer reaches its target; none is applied while register space is closed. -/
def Dev.spiDrain (d : Dev) (x : WriteCtx) : Dev :=
  match d.spi.buffer with
  | [] => d
  | c :: rest => ({ d with spi := { d.spi with buffer := rest } }).portWrite (.spi c.2.2) c.1 c.2.1 15 x

/-- Words of register space and of the program store at the front drain at once; `k` aperture words between them. -/
def Dev.spiFlow (x : WriteCtx) : Nat → Nat → Dev → Dev
  | 0, _, d => d
  | fuel + 1, k, d =>
    match d.spi.buffer with
    | [] => d
    | c :: _ =>
      if !isAperture c.1 then Dev.spiFlow x fuel k (d.spiDrain x)
      else match k with
        | 0 => d
        | k + 1 => Dev.spiFlow x fuel k (d.spiDrain x)

/-- The data words of a write, one after another (R45, R48, R50): the state and the outcome. `head` is what the next word's
CRC covers before it. -/
def Dev.spiWords (x : WriteCtx) (p crc : Bool) : List SpiWord → Nat → List Byte → Dev → Nat × Dev
  | [], _, _, d => (0, d)
  | v :: vs, a, head, d =>
    if crc ∧ crc16 (head ++ wordBytes v.data) ≠ v.crc then
      (1, (d.incSat Reg.SYS_SPISTAT_CRCERR 1).raise Reg.SYS_EVT 5)
    else
      let d := Dev.spiFlow x 64 v.drained d
      if 64 ≤ d.spi.buffer.length then (4, d.spiAbort)
      else Dev.spiWords x p crc vs ((a + 4) % 2 ^ 32) [] { d with spi := { d.spi with buffer := d.spi.buffer ++ [(a, v.data, p)] } }

/-- A transaction that ended mid-word is counted and raises SPIABORT (R83), in whatever way it ended otherwise; while the core
domain is gated or in reset its counter does not run (DESIGN CHOICE, log 21). -/
def Dev.spiCut (d : Dev) (e : SpiEnd) : Dev :=
  if e = .midWord ∧ d.rst.banked = false ∧ d.rst.asserted = false then d.spiAbort else d

/-- A write transaction (R46 to R50). -/
def Dev.spiWrite (d : Dev) (op : Byte) (t : SpiTx) : Dev :=
  if !d.open_ then (d.spiCut t.e).spiEnd 5
  else if t.e = .inAddress then d.spiEnd 0
  else if t.addr % 4 ≠ 0 then ((d.alignDiscard (.spi (spiPriv op)) true t.addr).spiCut t.e).spiEnd 3
  else
    let r := Dev.spiWords t.x (spiPriv op) (d.is Reg.SYS_SPICFG_CRC) t.ws t.addr (spiHead op t.addr) d
    let d := if r.1 = 4 then r.2 else r.2.spiCut t.e
    (Dev.spiFlow t.x 64 0 d).spiEnd r.1

/-- The words of a read from an address on (R45, R47, R50): the nibbles sent, each word's with its wait phase, its token and its
CRC, and the state. What a read of an unaligned address returns is open: free words. -/
def Dev.spiReads (p crc : Bool) (ecc : Ecc) : Nat → Nat → List Nat → List Byte → Dev → List (BitVec 4) × Dev
  | 0, _, _, _, d => ([], d)
  | n + 1, a, waits, head, d =>
    let r := if a % 4 = 0 then d.mapRead (.spi p) a ecc else d.fresh
    let b := wordBytes r.1
    let rest := Dev.spiReads p crc ecc n ((a + 4) % 2 ^ 32) waits.tail [] r.2
    (spiToken (waits.headD 0) ++ nibbles (b ++ (if crc then crcBytes (crc16 (head ++ b)) else [])) ++ rest.1, rest.2)

/-- The waits of a read's words: before the first one SYS_SPICFG.DUMMY clocks and more (R47). -/
def Dev.spiWaits (d : Dev) (waits : List Nat) : List Nat := (d.get Reg.SYS_SPICFG_DUMMY + waits.headD 0) :: waits.tail

/-- A read transaction of `n` whole words (R46, R47, R49). -/
def Dev.spiRead (d : Dev) (op : Byte) (t : SpiTx) : Dev :=
  if !d.open_ then (d.spiCut t.e).spiEnd 5
  else if t.e = .inAddress then d.spiEnd 0
  else
    let d := Dev.spiFlow t.x 64 0 d
    let r := Dev.spiReads (spiPriv op) (d.is Reg.SYS_SPICFG_CRC) t.ecc t.n t.addr (d.spiWaits t.waits) (spiHead op t.addr) d
    ((r.2.emit (.spi r.1)).spiCut t.e).spiEnd 0

/-- The status word (R51). -/
def Dev.spiStat (d : Dev) : Word :=
  let st := d.get Reg.RST_STAT_STATE
  BitVec.ofNat 32 (d.spi.txCount * 2 ^ 16 + d.spi.lastErr * 2 ^ 8 + b2n (decide (64 ≤ d.spi.buffer.length)) * 128
    + b2n (!d.ball .alertN) * 64 + b2n d.irq1 * 32 + b2n d.irq0 * 16 + b2n (d.is Reg.RST_STAT_MINIMAL) * 8
    + b2n d.rst.banked * 4 + b2n (st == 1) * 2 + b2n d.open_)

/-- STAT (R51): neither counted nor an outcome. It has no address phase, so its CRC covers the opcode and the word. -/
def Dev.spiStatus (d : Dev) (op : Byte) (t : SpiTx) : Dev :=
  let b := wordBytes d.spiStat
  let out := spiToken ((d.spiWaits t.waits).headD 0)
    ++ nibbles (b ++ (if d.is Reg.SYS_SPICFG_CRC then crcBytes (crc16 (op :: b)) else []))
  (d.emit (.spi out)).spiCut t.e

/-- RSTC (R47, R52): the key and the level, and how far the transaction came. -/
def Dev.spiReset (d : Dev) (op : Byte) (t : SpiTx) : Dev :=
  if d.rst.banked then d.spiEnd 5
  else if !spiPriv op then (d.privAttempt (.spi false) true Reg.RST_CMD).spiEnd 0
  else if t.e = .whole ∧ t.key = 0xC1D3 ∧ 1 ≤ t.level ∧ t.level ≤ 3 then (d.spiEnd 0).resetCmd t.level true
  else d.spiEnd 0

/-- WAKE (R53): in BANKED, or latched during the entry (R489), with SPI the strapped host port. -/
def Dev.spiWake (d : Dev) : Dev :=
  let d := d.spiEnd 0
  if d.spiHost && d.is Reg.RST_WAKECFG_SPIWAKE then d.wakeUp 3 else d

/-- A transaction on the quad-SPI port: its opcode selects what it does (R46). Nothing happens while the port is not served, or
when the transaction ends within its opcode. An unknown opcode is ignored and recorded as BADOP (R46, R51, R83). -/
def Dev.spiSelect (d : Dev) (op : Byte) (t : SpiTx) : Dev :=
  if !d.spiServed || t.e == .inOpcode then d
  else match spiCommand op with
    | some .wr => d.spiWrite op t
    | some .wr1 => d.spiWrite op t
    | some .rd => d.spiRead op t
    | some .rd1 => d.spiRead op t
    | some .stat => d.spiStatus op t
    | some .rstc => d.spiReset op t
    | some .wake => d.spiWake
    | none => (d.incSat Reg.SYS_SPISTAT_ABORTS 1).spiEnd 2

/-- Nothing outside but the SPI host takes part in the transaction. -/
def noCtx : WriteCtx := ⟨.intact, true, true, true, 0⟩

def execWr (p : Bool) (addr : BitVec 32) (ws : List SpiWord) (e : SpiEnd) (x : WriteCtx) (s : State) :
    Host.Outcome State Fault Refusal :=
  s.onDev (fun d => d.spiSelect (opByte p .wr) { addr := addr.toNat, ws := ws, e := e, x := x })
def execWr1 (p : Bool) (addr : BitVec 32) (ws : List SpiWord) (e : SpiEnd) (x : WriteCtx) (s : State) :
    Host.Outcome State Fault Refusal :=
  s.onDev (fun d => d.spiSelect (opByte p .wr1) { addr := addr.toNat, ws := ws, e := e, x := x })
/-- A read of as many whole words as `waits` has entries. -/
def execRd (p : Bool) (addr : BitVec 32) (waits : List Nat) (e : SpiEnd) (ecc : Ecc) (x : WriteCtx) (s : State) :
    Host.Outcome State Fault Refusal :=
  s.onDev (fun d => d.spiSelect (opByte p .rd) { addr := addr.toNat, n := waits.length, waits := waits, e := e, ecc := ecc, x := x })
/-- The single-line read, likewise. -/
def execRd1 (p : Bool) (addr : BitVec 32) (waits : List Nat) (e : SpiEnd) (ecc : Ecc) (x : WriteCtx) (s : State) :
    Host.Outcome State Fault Refusal :=
  s.onDev (fun d => d.spiSelect (opByte p .rd1) { addr := addr.toNat, n := waits.length, waits := waits, e := e, ecc := ecc, x := x })
def execStat (r : StatRead) (s : State) : Host.Outcome State Fault Refusal :=
  s.onDev (fun d => d.spiSelect (opByte r.p .stat) { waits := [r.wait], e := r.e, x := noCtx })
def execRstc (p : Bool) (key level : Nat) (e : SpiEnd) (s : State) : Host.Outcome State Fault Refusal :=
  s.onDev (fun d => d.spiSelect (opByte p .rstc) { key := key, level := level, e := e, x := noCtx })
def execWake (s : State) : Host.Outcome State Fault Refusal :=
  s.onDev (fun d => d.spiSelect (opByte false .wake) { x := noCtx })

/-- BADOP: an opcode that selects no command. -/
def execBadop (op : Nat) (s : State) : Host.Outcome State Fault Refusal :=
  s.onDev (fun d =>
    let b : Byte := BitVec.ofNat 8 op
    if (spiCommand b).isSome then d else d.spiSelect b { x := noCtx })

/-- SPI_WRITE_BUFFER_DRAIN. -/
def execSpiWriteBufferDrain (x : WriteCtx) (s : State) : Host.Outcome State Fault Refusal := s.onDev (fun d => d.spiDrain x)

end Sys2Proof.Machine
end

