-- ==== Sys2Proof/Machine/Dispatch.lean ====
section
/-! DEFINITION. One arm per command of the table, each one direct call of its meaning. -/

namespace Sys2Proof.Machine

/-- The effect of one command on everything but the queue (the queue is passed through). -/
def exec (i : Instr) (s : State) : Host.Outcome State Fault Refusal :=
  match i with
  | .registerWrite who a w be x => Sys2Proof.Machine.execRegisterWrite who a w be x s
  | .wr p addr ws e x => Sys2Proof.Machine.execWr p addr ws e x s
  | .rd p addr waits e ecc x => Sys2Proof.Machine.execRd p addr waits e ecc x s
  | .rd1 p addr waits e ecc x => Sys2Proof.Machine.execRd1 p addr waits e ecc x s
  | .wr1 p addr ws e x => Sys2Proof.Machine.execWr1 p addr ws e x s
  | .stat r => Sys2Proof.Machine.execStat r s
  | .rstc p key level e => Sys2Proof.Machine.execRstc p key level e s
  | .wake => Sys2Proof.Machine.execWake s
  | .badop op => Sys2Proof.Machine.execBadop op s
  | .spiWriteBufferDrain x => Sys2Proof.Machine.execSpiWriteBufferDrain x s
  | .pciePortReset => Sys2Proof.Machine.execPciePortReset s
  | .msixControlWrite x => Sys2Proof.Machine.execMsixControlWrite x s
  | .imodHoldExpiry v => Sys2Proof.Machine.execImodHoldExpiry v s
  | .sqcClear who a w x => Sys2Proof.Machine.execSqcClear who a w x s
  | .bitAliasWrite who a w x => Sys2Proof.Machine.execBitAliasWrite who a w x s
  | .sysTimeLoRead r => Sys2Proof.Machine.execSysTimeLoRead r s
  | .grtScountLoRead who => Sys2Proof.Machine.execGrtScountLoRead who s
  | .srSampleLoRead i0 rd ra off => Sys2Proof.Machine.execSrSampleLoRead i0 rd ra off s
  | .commit tag mask => Sys2Proof.Machine.execCommit tag mask s
  | .timedCommitArm tag mask => Sys2Proof.Machine.execTimedCommitArm tag mask s
  | .pageApply p dmg => Sys2Proof.Machine.execPageApply p dmg s
  | .sysImmedWrite w => Sys2Proof.Machine.execSysImmedWrite w s
  | .rotate arg tag => Sys2Proof.Machine.execRotate arg tag s
  | .sbsrc arg tag => Sys2Proof.Machine.execSbsrc arg tag s
  | .snapArm tag => Sys2Proof.Machine.execSnapArm tag s
  | .snapTrig tag => Sys2Proof.Machine.execSnapTrig tag s
  | .snapAbort tag => Sys2Proof.Machine.execSnapAbort tag s
  | .rotAbort tag => Sys2Proof.Machine.execRotAbort tag s
  | .rotationPeriodExpiry => Sys2Proof.Machine.execRotationPeriodExpiry s
  | .rotationPhaseDone m g p t => Sys2Proof.Machine.execRotationPhaseDone m g p t s
  | .rotationAlignTimeout => Sys2Proof.Machine.execRotationAlignTimeout s
  | .adcFrame c xs ecc => Sys2Proof.Machine.execAdcFrame c xs ecc s
  | .agcDecayStep c => Sys2Proof.Machine.execAgcDecayStep c s
  | .coreLevelUpdate c v est => Sys2Proof.Machine.execCoreLevelUpdate c v est s
  | .blankAssert x => Sys2Proof.Machine.execBlankAssert x s
  | .blankRelease x => Sys2Proof.Machine.execBlankRelease x s
  | .blkstuck x => Sys2Proof.Machine.execBlkstuck x s
  | .coreMonitorWindow c cause sub v others start => Sys2Proof.Machine.execCoreMonitorWindow c cause sub v others start s
  | .coreReplacementSettled => Sys2Proof.Machine.execCoreReplacementSettled s
  | .snapRecordDone lane n skip => Sys2Proof.Machine.execSnapRecordDone lane n skip s
  | .binFrame => Sys2Proof.Machine.execBinFrame s
  | .laneOutputSample n i0 q w => Sys2Proof.Machine.execLaneOutputSample n i0 q w s
  | .refillEnd n => Sys2Proof.Machine.execRefillEnd n s
  | .saturationInterval => Sys2Proof.Machine.execSaturationInterval s
  | .binPowerUpdate a b => Sys2Proof.Machine.execBinPowerUpdate a b s
  | .bind n arg tag dmg => Sys2Proof.Machine.execBind n arg tag dmg s
  | .unbind n tag => Sys2Proof.Machine.execUnbind n tag s
  | .move n arg tag => Sys2Proof.Machine.execMove n arg tag s
  | .restart n tag dmg => Sys2Proof.Machine.execRestart n tag dmg s
  | .deferredBind n dmg => Sys2Proof.Machine.execDeferredBind n dmg s
  | .startupBistDone fails => Sys2Proof.Machine.execStartupBistDone fails s
  | .retireTimeout hs => Sys2Proof.Machine.execRetireTimeout hs s
  | .hobCommandTimeout h u => Sys2Proof.Machine.execHobCommandTimeout h u s
  | .stallWatchdogExpiry h => Sys2Proof.Machine.execStallWatchdogExpiry h s
  | .migrationLoadDone n dmg => Sys2Proof.Machine.execMigrationLoadDone n dmg s
  | .isolationComplete h => Sys2Proof.Machine.execIsolationComplete h s
  | .replayLivePoint h => Sys2Proof.Machine.execReplayLivePoint h s
  | .plannedCutover n => Sys2Proof.Machine.execPlannedCutover n s
  | .resyncAnswerTimeout n => Sys2Proof.Machine.execResyncAnswerTimeout n s
  | .rollingSelftestTick => Sys2Proof.Machine.execRollingSelftestTick s
  | .rollingTestDone u pass => Sys2Proof.Machine.execRollingTestDone u pass s
  | .mantelScheduleTick => Sys2Proof.Machine.execMantelScheduleTick s
  | .ovenRequestDone k r => Sys2Proof.Machine.execOvenRequestDone k r s
  | .ovenDeadlineLate h t => Sys2Proof.Machine.execOvenDeadlineLate h t s
  | .ovenOverrunTimeout k => Sys2Proof.Machine.execOvenOverrunTimeout k s
  | .add i0 rd ra o => Sys2Proof.Machine.execAdd i0 rd ra o s
  | .sub i0 rd ra o => Sys2Proof.Machine.execSub i0 rd ra o s
  | .and i0 rd ra o => Sys2Proof.Machine.execAnd i0 rd ra o s
  | .or i0 rd ra o => Sys2Proof.Machine.execOr i0 rd ra o s
  | .xor i0 rd ra o => Sys2Proof.Machine.execXor i0 rd ra o s
  | .shl i0 rd ra o => Sys2Proof.Machine.execShl i0 rd ra o s
  | .shr i0 rd ra o => Sys2Proof.Machine.execShr i0 rd ra o s
  | .sar i0 rd ra o => Sys2Proof.Machine.execSar i0 rd ra o s
  | .mul i0 rd ra rb => Sys2Proof.Machine.execMul i0 rd ra rb s
  | .min i0 rd ra rb => Sys2Proof.Machine.execMin i0 rd ra rb s
  | .max i0 rd ra rb => Sys2Proof.Machine.execMax i0 rd ra rb s
  | .clz i0 rd ra => Sys2Proof.Machine.execClz i0 rd ra s
  | .cmp i0 ra o => Sys2Proof.Machine.execCmp i0 ra o s
  | .movi i0 rd v => Sys2Proof.Machine.execMovi i0 rd v s
  | .movhi i0 rd v => Sys2Proof.Machine.execMovhi i0 rd v s
  | .psetCond i0 pd ps cond => Sys2Proof.Machine.execPsetCond i0 pd ps cond s
  | .psetAnd i0 pd ps cond => Sys2Proof.Machine.execPsetAnd i0 pd ps cond s
  | .psetOr i0 pd ps cond => Sys2Proof.Machine.execPsetOr i0 pd ps cond s
  | .psetNot i0 pd ps cond => Sys2Proof.Machine.execPsetNot i0 pd ps cond s
  | .mac i0 x ra rb => Sys2Proof.Machine.execMac i0 x ra rb s
  | .msu i0 x ra rb => Sys2Proof.Machine.execMsu i0 x ra rb s
  | .mpy i0 x ra rb => Sys2Proof.Machine.execMpy i0 x ra rb s
  | .mach i0 x ra rb => Sys2Proof.Machine.execMach i0 x ra rb s
  | .cmac i0 x ra rb => Sys2Proof.Machine.execCmac i0 x ra rb s
  | .cmacj i0 x ra rb => Sys2Proof.Machine.execCmacj i0 x ra rb s
  | .aclr i0 x => Sys2Proof.Machine.execAclr i0 x s
  | .aload i0 x ra => Sys2Proof.Machine.execAload i0 x ra s
  | .sat i0 rd x sh mode => Sys2Proof.Machine.execSat i0 rd x sh mode s
  | .ldw i0 rd ra off e => Sys2Proof.Machine.execLdw i0 rd ra off e s
  | .ldh i0 rd ra off e => Sys2Proof.Machine.execLdh i0 rd ra off e s
  | .ldb i0 rd ra off e => Sys2Proof.Machine.execLdb i0 rd ra off e s
  | .stw i0 rs ra off => Sys2Proof.Machine.execStw i0 rs ra off s
  | .sth i0 rs ra off => Sys2Proof.Machine.execSth i0 rs ra off s
  | .stb i0 rs ra off => Sys2Proof.Machine.execStb i0 rs ra off s
  | .bcpy i0 rd ra n e => Sys2Proof.Machine.execBcpy i0 rd ra n e s
  | .br i0 off => Sys2Proof.Machine.execBr i0 off s
  | .bcc i0 c off => Sys2Proof.Machine.execBcc i0 c off s
  | .call i0 off => Sys2Proof.Machine.execCall i0 off s
  | .ret i0 ra => Sys2Proof.Machine.execRet i0 ra s
  | .loop i0 wc off => Sys2Proof.Machine.execLoop i0 wc off s
  | .uret i0 => Sys2Proof.Machine.execUret i0 s
  | .halt i0 => Sys2Proof.Machine.execHalt i0 s
  | .nop i0 => Sys2Proof.Machine.execNop i0 s
  | .hget i0 rd unit sel => Sys2Proof.Machine.execHget i0 rd unit sel s
  | .hwait i0 unit => Sys2Proof.Machine.execHwait i0 unit s
  | .oreq i0 pd wd ws e => Sys2Proof.Machine.execOreq i0 pd wd ws e s
  | .oawait i0 rd ra => Sys2Proof.Machine.execOawait i0 rd ra s
  | .areq i0 pd wd ws e => Sys2Proof.Machine.execAreq i0 pd wd ws e s
  | .aawait i0 rd ra => Sys2Proof.Machine.execAawait i0 rd ra s
  | .tick i0 rd ra => Sys2Proof.Machine.execTick i0 rd ra s
  | .yield i0 rd mask => Sys2Proof.Machine.execYield i0 rd mask s
  | .fwal i0 rs tag => Sys2Proof.Machine.execFwal i0 rs tag s
  | .flput i0 ra x => Sys2Proof.Machine.execFlput i0 ra x s
  | .mget i0 rd box => Sys2Proof.Machine.execMget i0 rd box s
  | .mput i0 rs box => Sys2Proof.Machine.execMput i0 rs box s
  | .sysrd i0 rd ra off dmg => Sys2Proof.Machine.execSysrd i0 rd ra off dmg s
  | .syswr i0 rs ra off k => Sys2Proof.Machine.execSyswr i0 rs ra off k s
  | .srApplyRead i0 rd ra off dmg => Sys2Proof.Machine.execSrApplyRead i0 rd ra off dmg s
  | .applyTimeout n dmg => Sys2Proof.Machine.execApplyTimeout n dmg s
  | .waitSatisfied h => Sys2Proof.Machine.execWaitSatisfied h s
  | .urgentEntry h => Sys2Proof.Machine.execUrgentEntry h s
  | .capture h e => Sys2Proof.Machine.execCapture h e s
  | .skip h => Sys2Proof.Machine.execSkip h s
  | .setf h => Sys2Proof.Machine.execSetf h s
  | .setph h => Sys2Proof.Machine.execSetph h s
  | .addf h => Sys2Proof.Machine.execAddf h s
  | .setrlo h => Sys2Proof.Machine.execSetrlo h s
  | .setrhi h => Sys2Proof.Machine.execSetrhi h s
  | .resampReset h => Sys2Proof.Machine.execResampReset h s
  | .fftRun h e => Sys2Proof.Machine.execFftRun h e s
  | .loadpat h e => Sys2Proof.Machine.execLoadpat h e s
  | .runmc h e => Sys2Proof.Machine.execRunmc h e s
  | .runsc h e => Sys2Proof.Machine.execRunsc h e s
  | .loadcon h e => Sys2Proof.Machine.execLoadcon h e s
  | .demapRun h e => Sys2Proof.Machine.execDemapRun h e s
  | .deintRun h e => Sys2Proof.Machine.execDeintRun h e s
  | .tiwr h e => Sys2Proof.Machine.execTiwr h e s
  | .tird h e => Sys2Proof.Machine.execTird h e s
  | .watch h e => Sys2Proof.Machine.execWatch h e s
  | .unwatch h => Sys2Proof.Machine.execUnwatch h s
  | .todm h e => Sys2Proof.Machine.execTodm h e s
  | .fromdm h e => Sys2Proof.Machine.execFromdm h e s
  | .hobCommandDone h u e chk x => Sys2Proof.Machine.execHobCommandDone h u e chk x s
  | .verify slot tag => Sys2Proof.Machine.execVerify slot tag s
  | .erase slot tag => Sys2Proof.Machine.execErase slot tag s
  | .pstCommandComplete => Sys2Proof.Machine.execPstCommandComplete s
  | .programStoreWrite off w be => Sys2Proof.Machine.execProgramStoreWrite off w be s
  | .hostMailboxWrite n off w => Sys2Proof.Machine.execHostMailboxWrite n off w s
  | .firewatchLatch => Sys2Proof.Machine.execFirewatchLatch s
  | .alertTableEvent => Sys2Proof.Machine.execAlertTableEvent s
  | .tripwireTrigWrite t w => Sys2Proof.Machine.execTripwireTrigWrite t w s
  | .lrbmatchEval t => Sys2Proof.Machine.execLrbmatchEval t s
  | .fwtAck all entry => Sys2Proof.Machine.execFwtAck all entry s
  | .fwtClear all entry => Sys2Proof.Machine.execFwtClear all entry s
  | .alertEntryExpire j => Sys2Proof.Machine.execAlertEntryExpire j s
  | .alertFrameRepeat => Sys2Proof.Machine.execAlertFrameRepeat s
  | .chimneyMessage port up new kind data ret parity => Sys2Proof.Machine.execChimneyMessage port up new kind data ret parity s
  | .init arg tag => Sys2Proof.Machine.execInit arg tag s
  | .initDone density ranks trained => Sys2Proof.Machine.execInitDone density ranks trained s
  | .dramRefresh => Sys2Proof.Machine.execDramRefresh s
  | .dramTempPoll rate => Sys2Proof.Machine.execDramTempPoll rate s
  | .scrubStep e hit => Sys2Proof.Machine.execScrubStep e hit s
  | .ashpitRequestDone h t e x err => Sys2Proof.Machine.execAshpitRequestDone h t e x err s
  | .apertureAccess who write off len data e => Sys2Proof.Machine.execApertureAccess who write off len data e s
  | .backlogBlockWrite n => Sys2Proof.Machine.execBacklogBlockWrite n s
  | .setCopyDone h dmg => Sys2Proof.Machine.execSetCopyDone h dmg s
  | .drawRelease n e line header => Sys2Proof.Machine.execDrawRelease n e line header s
  | .portFrameStart p buf => Sys2Proof.Machine.execPortFrameStart p buf s
  | .damperMaxqExpiry p e => Sys2Proof.Machine.execDamperMaxqExpiry p e s
  | .tsFlushTimeout p e => Sys2Proof.Machine.execTsFlushTimeout p e s
  | .portFrameRx p bytes => Sys2Proof.Machine.execPortFrameRx p bytes s
  | .portLinkChange p block lf rf los => Sys2Proof.Machine.execPortLinkChange p block lf rf los s
  | .sfpModuleChange p present a0 => Sys2Proof.Machine.execSfpModuleChange p present a0 s
  | .sfpTxfault p => Sys2Proof.Machine.execSfpTxfault p s
  | .sfpTxdisPulseEnd p fault => Sys2Proof.Machine.execSfpTxdisPulseEnd p fault s
  | .sfpDiagPoll p a2 => Sys2Proof.Machine.execSfpDiagPoll p a2 s
  | .sfpDailyUpdate p => Sys2Proof.Machine.execSfpDailyUpdate p s
  | .membershipReportTimer p => Sys2Proof.Machine.execMembershipReportTimer p s
  | .telemetryTick p n ok => Sys2Proof.Machine.execTelemetryTick p n ok s
  | .hfTailWrite w => Sys2Proof.Machine.execHfTailWrite w s
  | .hfStart => Sys2Proof.Machine.execHfStart s
  | .ptpEventMessage m => Sys2Proof.Machine.execPtpEventMessage m s
  | .ptpSyncTimer kind => Sys2Proof.Machine.execPtpSyncTimer kind s
  | .ptpPortFailover => Sys2Proof.Machine.execPtpPortFailover s
  | .ppsInEdge sub => Sys2Proof.Machine.execPpsInEdge sub s
  | .ppsTimeout => Sys2Proof.Machine.execPpsTimeout s
  | .audioFrame p f => Sys2Proof.Machine.execAudioFrame p f s
  | .audioInternalSample => Sys2Proof.Machine.execAudioInternalSample s
  | .asrcLocked p tx => Sys2Proof.Machine.execAsrcLocked p tx s
  | .audioRateUpdate rates mclk => Sys2Proof.Machine.execAudioRateUpdate rates mclk s
  | .audioClockStop p => Sys2Proof.Machine.execAudioClockStop p s
  | .mclkLost => Sys2Proof.Machine.execMclkLost s
  | .mclkResumed => Sys2Proof.Machine.execMclkResumed s
  | .toneBurstTimer => Sys2Proof.Machine.execToneBurstTimer s
  | .send tag => Sys2Proof.Machine.execSend tag s
  | .txAbort => Sys2Proof.Machine.execTxAbort s
  | .pageTake => Sys2Proof.Machine.execPageTake s
  | .pageRepeatDue => Sys2Proof.Machine.execPageRepeatDue s
  | .synthLocked => Sys2Proof.Machine.execSynthLocked s
  | .coexGntChange level => Sys2Proof.Machine.execCoexGntChange level s
  | .txStart => Sys2Proof.Machine.execTxStart s
  | .txEnd => Sys2Proof.Machine.execTxEnd s
  | .txlate => Sys2Proof.Machine.execTxlate s
  | .synthUnlock => Sys2Proof.Machine.execSynthUnlock s
  | .txTimeout => Sys2Proof.Machine.execTxTimeout s
  | .dutyBucketTick => Sys2Proof.Machine.execDutyBucketTick s
  | .bgCalStep start => Sys2Proof.Machine.execBgCalStep start s
  | .paSenseTick temp vdd => Sys2Proof.Machine.execPaSenseTick temp vdd s
  | .smokeFrameRx bytes crcOk errs rssi ago cut => Sys2Proof.Machine.execSmokeFrameRx bytes crcOk errs rssi ago cut s
  | .rxpopWrite => Sys2Proof.Machine.execRxpopWrite s
  | .emberSniff level => Sys2Proof.Machine.execEmberSniff level s
  | .emberSearchEnd run => Sys2Proof.Machine.execEmberSearchEnd run s
  | .xfer b tag => Sys2Proof.Machine.execXfer b tag s
  | .auxClear b tag freed => Sys2Proof.Machine.execAuxClear b tag freed s
  | .auxAbort b => Sys2Proof.Machine.execAuxAbort b s
  | .auxTryEnd b e => Sys2Proof.Machine.execAuxTryEnd b e s
  | .auxBusError b byte bit_ acked => Sys2Proof.Machine.execAuxBusError b byte bit_ acked s
  | .auxBusFree b => Sys2Proof.Machine.execAuxBusFree b s
  | .auxRetryDelay b => Sys2Proof.Machine.execAuxRetryDelay b s
  | .auxSclTimeout b acked => Sys2Proof.Machine.execAuxSclTimeout b acked s
  | .auxAutoclear b freed => Sys2Proof.Machine.execAuxAutoclear b freed s
  | .auxTargetAddress addr read => Sys2Proof.Machine.execAuxTargetAddress addr read s
  | .auxTargetByte v commit lost => Sys2Proof.Machine.execAuxTargetByte v commit lost s
  | .auxTargetTimeout => Sys2Proof.Machine.execAuxTargetTimeout s
  | .healthMailboxRefresh => Sys2Proof.Machine.execHealthMailboxRefresh s
  | .atnQuery low => Sys2Proof.Machine.execAtnQuery low s
  | .refQualified xo abs => Sys2Proof.Machine.execRefQualified xo abs s
  | .refMeasure offset wrong => Sys2Proof.Machine.execRefMeasure offset wrong s
  | .refLost => Sys2Proof.Machine.execRefLost s
  | .holdoverExpiry abs => Sys2Proof.Machine.execHoldoverExpiry abs s
  | .freqSlewDone b => Sys2Proof.Machine.execFreqSlewDone b s
  | .xoFail => Sys2Proof.Machine.execXoFail s
  | .lockChange up => Sys2Proof.Machine.execLockChange up s
  | .corelockLoss => Sys2Proof.Machine.execCorelockLoss s
  | .realign tag => Sys2Proof.Machine.execRealign tag s
  | .tset tag => Sys2Proof.Machine.execTset tag s
  | .tslew tag => Sys2Proof.Machine.execTslew tag s
  | .tstop tag => Sys2Proof.Machine.execTstop tag s
  | .phtgtWrite k w => Sys2Proof.Machine.execPhtgtWrite k w s
  | .phaseStep k => Sys2Proof.Machine.execPhaseStep k s
  | .timeTick => Sys2Proof.Machine.execTimeTick s
  | .por => Sys2Proof.Machine.execPor s
  | .supplyFail n => Sys2Proof.Machine.execSupplyFail n s
  | .supplyGood x => Sys2Proof.Machine.execSupplyGood x s
  | .pinReset => Sys2Proof.Machine.execPinReset s
  | .resetStretchEnd low => Sys2Proof.Machine.execResetStretchEnd low s
  | .rstCmdCore => Sys2Proof.Machine.execRstCmdCore s
  | .rstCmdSystem => Sys2Proof.Machine.execRstCmdSystem s
  | .rstCmdPor => Sys2Proof.Machine.execRstCmdPor s
  | .watchdogExpiry => Sys2Proof.Machine.execWatchdogExpiry s
  | .tempMeasure t => Sys2Proof.Machine.execTempMeasure t s
  | .thermalRelease => Sys2Proof.Machine.execThermalRelease s
  | .kindlingStep k => Sys2Proof.Machine.execKindlingStep k s
  | .blockRelease b => Sys2Proof.Machine.execBlockRelease b s
  | .rstBlkWrite w sds pcie => Sys2Proof.Machine.execRstBlkWrite w sds pcie s
  | .isolateDone b => Sys2Proof.Machine.execIsolateDone b s
  | .boot slot tag => Sys2Proof.Machine.execBoot slot tag s
  | .otpProgram i0 => Sys2Proof.Machine.execOtpProgram i0 s
  | .otpProgramDone w => Sys2Proof.Machine.execOtpProgramDone w s
  | .bankRequest force => Sys2Proof.Machine.execBankRequest force s
  | .bankedEntryStep => Sys2Proof.Machine.execBankedEntryStep s
  | .wakeNAssert => Sys2Proof.Machine.execWakeNAssert s
  | .run target tag arg => Sys2Proof.Machine.execRun target tag arg s
  | .restore b tag => Sys2Proof.Machine.execRestore b tag s
  | .loadset slot tag dmg => Sys2Proof.Machine.execLoadset slot tag dmg s
  | .calAbort tag => Sys2Proof.Machine.execCalAbort tag s
  | .calRunDone m => Sys2Proof.Machine.execCalRunDone m s
  | .calApplyStep b => Sys2Proof.Machine.execCalApplyStep b s
  | .bistRun kind tag idx => Sys2Proof.Machine.execBistRun kind tag idx s
  | .bistAbort tag => Sys2Proof.Machine.execBistAbort tag s
  | .bistDone l0 l1 m0 m1 membad => Sys2Proof.Machine.execBistDone l0 l1 m0 m1 membad s
  | .sootEntryWrite => Sys2Proof.Machine.execSootEntryWrite s
  | .sootAckWrite w => Sys2Proof.Machine.execSootAckWrite w s
  | .sootRdWrite w => Sys2Proof.Machine.execSootRdWrite w s
  | .hput i0 unit cmd ws imm => Sys2Proof.Machine.execHput i0 unit cmd ws imm s
  | .illegalInstruction h w e => Sys2Proof.Machine.execIllegalInstruction h w e s
  | .phaseComparison c => Sys2Proof.Machine.execPhaseComparison c s
  | .xoRecovered => Sys2Proof.Machine.execXoRecovered s
  | .laneSyncLost n => Sys2Proof.Machine.execLaneSyncLost n s
  | .spliceMatchTimeout n => Sys2Proof.Machine.execSpliceMatchTimeout n s
  | .hotportWindow port busy use => Sys2Proof.Machine.execHotportWindow port busy use s
  | .pcieLinkUp => Sys2Proof.Machine.execPcieLinkUp s
  | .watchdogCountExpiry => Sys2Proof.Machine.execWatchdogCountExpiry s

end Sys2Proof.Machine
end

