-- ==== Sys2Proof/Safety.lean ====
section
/-! DEFINITION. The terms the claims are stated in: what it is for a command to complete, and what it leaves unchanged. -/

namespace Sys2Proof.Machine

/-- The command completes at `s`: it answers a next state whose queue is that of `s`, and `P` holds of the device before and
after. -/
def Completes (c : Instr) (s : State) (P : Dev → Dev → Prop) : Prop :=
  ∃ t : Dev, exec c s = .next { s with dev := t } ∧ P s.dev t

/-- Every register word outside a list of addresses reads as before. -/
def KeepsRegs (as : List Nat) (d t : Dev) : Prop := ∀ a, a ∉ as → t.rd a = d.rd a

/-! ## Stoker instructions -/

/-- The instruction stands at the pc of a thread that may issue, its fetch is clean and its predicate reads 1 (R194, R196, R199). -/
def Ready (d : Dev) (i : Issue) (y : Yil) : Bool :=
  d.canIssue i.hearth && (d.hearth i.hearth).fetchWord == y.encode i.pred && i.fetch == .clean &&
    (d.hearth i.hearth).thr.pred i.pred

/-- The device after hearth `h` retires an instruction that leaves its thread as `u`. -/
def Dev.retire (d : Dev) (h : Nat) (u : Thread) : Dev :=
  d.setHearth h (({ d.hearth h with lastRetire := d.now } : Hearth).setThr u)

/-- An instruction retires and changes nothing but its thread: the thread that has the stoker of hearth `h` goes from `t` to `u`,
and the only other change in the device is the time of the hearth's last retirement. -/
def Retires (c : Instr) (s : State) (h : Nat) (P : Thread → Thread → Prop) : Prop :=
  ∃ u : Thread, exec c s = .next { s with dev := s.dev.retire h u } ∧ P (s.dev.hearth h).thr u

/-- A command changes one hearth's record and nothing else: hearth `h` goes from `x` to `y`. -/
def ChangesHearth (c : Instr) (s : State) (h : Nat) (P : Hearth → Hearth → Prop) : Prop :=
  ∃ y : Hearth, exec c s = .next { s with dev := s.dev.setHearth h y } ∧ P (s.dev.hearth h) y

/-- Every working register but `rd` keeps its value. -/
def KeepsRegsBut (rd : BitVec 4) (t u : Thread) : Prop := ∀ r : BitVec 4, r ≠ rd → u.reg r = t.reg r

/-- The command completes at `s` and the device is then `t`; the queue is that of `s`. -/
def Goes (c : Instr) (s : State) (t : Dev) : Prop := exec c s = .next { s with dev := t }

/-- The device as the own effect of an instruction of hearth `h` finds it: the time of the retirement is kept. -/
def Dev.issued (d : Dev) (h : Nat) : Dev := d.setHearth h { d.hearth h with lastRetire := d.now }

/-- The instruction stands at the pc of a thread that may issue; its fetch and its predicate are not looked at. -/
def AtPc (d : Dev) (i : Issue) (y : Yil) : Bool :=
  d.canIssue i.hearth && (d.hearth i.hearth).fetchWord == y.encode i.pred


/-- The stoker instruction a command issues, with its hearth, predicate and fetch; none for every command that is no instruction,
and for SR_SAMPLE_LO_READ and SR_APPLY_READ, each a sysrd of one address. -/
def yilOf : Instr → Option (Issue × Yil)
  | .add i rd ra o => some (i, .alu .add rd ra o)
  | .sub i rd ra o => some (i, .alu .sub rd ra o)
  | .and i rd ra o => some (i, .alu .and rd ra o)
  | .or i rd ra o => some (i, .alu .or rd ra o)
  | .xor i rd ra o => some (i, .alu .xor rd ra o)
  | .shl i rd ra o => some (i, .shift .shl rd ra o)
  | .shr i rd ra o => some (i, .shift .shr rd ra o)
  | .sar i rd ra o => some (i, .shift .sar rd ra o)
  | .mul i rd ra rb => some (i, .reg .mul rd ra rb)
  | .min i rd ra rb => some (i, .reg .min rd ra rb)
  | .max i rd ra rb => some (i, .reg .max rd ra rb)
  | .clz i rd ra => some (i, .clz rd ra)
  | .cmp i ra o => some (i, .cmp ra o)
  | .movi i rd v => some (i, .movi rd v)
  | .movhi i rd v => some (i, .movhi rd v)
  | .psetCond i pd ps c => some (i, .pset pd ps c 0)
  | .psetAnd i pd ps c => some (i, .pset pd ps c 1)
  | .psetOr i pd ps c => some (i, .pset pd ps c 2)
  | .psetNot i pd ps c => some (i, .pset pd ps c 3)
  | .mac i x ra rb => some (i, .mac 0 x ra rb)
  | .msu i x ra rb => some (i, .mac 1 x ra rb)
  | .mpy i x ra rb => some (i, .mac 2 x ra rb)
  | .mach i x ra rb => some (i, .mac 3 x ra rb)
  | .cmac i x ra rb => some (i, .mac 4 x ra rb)
  | .cmacj i x ra rb => some (i, .mac 5 x ra rb)
  | .aclr i x => some (i, .mac 6 x 0 0)
  | .aload i x ra => some (i, .mac 7 x ra 0)
  | .sat i rd x sh mode => some (i, .sat rd x sh mode)
  | .ldw i rd ra off _ => some (i, .mem .ldw rd ra off)
  | .ldh i rd ra off _ => some (i, .mem .ldh rd ra off)
  | .ldb i rd ra off _ => some (i, .mem .ldb rd ra off)
  | .stw i rs ra off => some (i, .mem .stw rs ra off)
  | .sth i rs ra off => some (i, .mem .sth rs ra off)
  | .stb i rs ra off => some (i, .mem .stb rs ra off)
  | .bcpy i rd ra n _ => some (i, .bcpy rd ra n)
  | .br i off => some (i, .br off)
  | .bcc i c off => some (i, .bcc c off)
  | .call i off => some (i, .call off)
  | .ret i ra => some (i, .ret ra)
  | .loop i wc off => some (i, .loop wc off)
  | .uret i => some (i, .uret)
  | .halt i => some (i, .halt)
  | .nop i => some (i, .nop)
  | .hput i unit cmd ws imm => some (i, .hput unit cmd ws imm)
  | .hget i rd unit sel => some (i, .hget rd unit sel)
  | .hwait i unit => some (i, .hwait unit)
  | .oreq i pd wd ws _ => some (i, .oreq pd wd ws)
  | .oawait i rd ra => some (i, .oawait rd ra)
  | .areq i pd wd ws _ => some (i, .areq pd wd ws)
  | .aawait i rd ra => some (i, .aawait rd ra)
  | .tick i rd ra => some (i, .tick rd ra)
  | .yield i rd mask => some (i, .yield rd mask)
  | .fwal i rs tag => some (i, .fwal rs tag)
  | .flput i ra _ => some (i, .flput ra)
  | .mget i rd box => some (i, .mget rd box)
  | .mput i rs box => some (i, .mput rs box)
  | .sysrd i rd ra off _ => some (i, .sysrd rd ra off)
  | .syswr i rs ra off _ => some (i, .syswr rs ra off)
  | _ => none

end Sys2Proof.Machine
end

