-- ==== Sys2Proof/Certificates/Slice0/Obligations.lean ====
section
/-! DEFINITION. The statements for the provers. A statement that covers several kinds of command is a conjunction of claims, each
stated beside it under the name Claim. -/

open Sys2Proof Sys2Proof.Machine

/-! ## Stoker instructions: arithmetic (R200 to R202) -/

/-- R200, rows add, sub and cmp: the result, all four flags from it, and nothing else of the thread. -/
def Obligations.AddSubCmpResultAndFlags : Prop :=
  ∀ (s : State) (i : Issue) (rd ra : BitVec 4) (o : Op2),
    (Ready s.dev i (.alu .add rd ra o) = true → Retires (.add i rd ra o) s i.hearth (fun t u =>
      let a := t.reg ra
      let b := t.op2 o true
      u.reg rd = a + b ∧ KeepsRegsBut rd t u ∧
      u = { t with
        w := u.w, pc := t.pc + 4, n := decide ((a + b).toInt < 0), z := decide (a + b = 0),
        c := decide (2 ^ 32 ≤ a.toNat + b.toNat),
        v := decide (a.toInt + b.toInt < -(2 ^ 31) ∨ 2 ^ 31 ≤ a.toInt + b.toInt) })) ∧
    (Ready s.dev i (.alu .sub rd ra o) = true → Retires (.sub i rd ra o) s i.hearth (fun t u =>
      let a := t.reg ra
      let b := t.op2 o true
      u.reg rd = a - b ∧ KeepsRegsBut rd t u ∧
      u = { t with
        w := u.w, pc := t.pc + 4, n := decide ((a - b).toInt < 0), z := decide (a = b),
        c := decide (b.toNat ≤ a.toNat),
        v := decide (a.toInt - b.toInt < -(2 ^ 31) ∨ 2 ^ 31 ≤ a.toInt - b.toInt) })) ∧
    (Ready s.dev i (.cmp ra o) = true → Retires (.cmp i ra o) s i.hearth (fun t u =>
      let a := t.reg ra
      let b := t.op2 o true
      u = { t with
        pc := t.pc + 4, n := decide ((a - b).toInt < 0), z := decide (a = b), c := decide (b.toNat ≤ a.toNat),
        v := decide (a.toInt - b.toInt < -(2 ^ 31) ∨ 2 ^ 31 ≤ a.toInt - b.toInt) }))

/-- R200, rows and, or, xor, mul, min, max, clz, movi and movhi: the result, N and Z from it, and nothing else. -/
def Claim.LogicAndMoveSetNegativeAndZero : Prop :=
  ∀ (s : State) (i : Issue) (rd ra rb : BitVec 4) (o : Op2) (v : BitVec 16),
    let R := fun (c : Instr) (y : Yil) (w : Thread → Word → Prop) =>
      Ready s.dev i y = true → Retires c s i.hearth (fun t u =>
        w t (u.reg rd) ∧ KeepsRegsBut rd t u ∧
        u = { t with w := u.w, pc := t.pc + 4, n := decide ((u.reg rd).toInt < 0), z := decide (u.reg rd = 0) })
    R (.and i rd ra o) (.alu .and rd ra o) (fun t w => w = t.reg ra &&& t.op2 o false) ∧
    R (.or i rd ra o) (.alu .or rd ra o) (fun t w => w = t.reg ra ||| t.op2 o false) ∧
    R (.xor i rd ra o) (.alu .xor rd ra o) (fun t w => w = t.reg ra ^^^ t.op2 o false) ∧
    R (.mul i rd ra rb) (.reg .mul rd ra rb) (fun t w =>
      w.toNat = (t.reg ra).toNat * (t.reg rb).toNat % 2 ^ 32) ∧
    R (.min i rd ra rb) (.reg .min rd ra rb) (fun t w => w.toInt = min (t.reg ra).toInt (t.reg rb).toInt) ∧
    R (.max i rd ra rb) (.reg .max rd ra rb) (fun t w => w.toInt = max (t.reg ra).toInt (t.reg rb).toInt) ∧
    R (.clz i rd ra) (.clz rd ra) (fun t w =>
      w.toNat ≤ 32 ∧ (∀ k < w.toNat, (t.reg ra).getLsbD (31 - k) = false) ∧
      (w.toNat < 32 → (t.reg ra).getLsbD (31 - w.toNat) = true)) ∧
    R (.movi i rd v) (.movi rd v) (fun _ w => w.toNat = v.toNat) ∧
    R (.movhi i rd v) (.movhi rd v) (fun t w =>
      w.toNat = v.toNat * 2 ^ 16 + (t.reg rd).toNat % 2 ^ 16)

/-- R200, rows shl, shr and sar: the amount is op2[4:0], C is the last bit shifted out or 0 for an amount of 0, N and Z
follow the result, and nothing else changes. -/
def Claim.ShiftsResultAndCarry : Prop :=
  ∀ (s : State) (i : Issue) (rd ra : BitVec 4) (o : ShOp),
    let R := fun (c : Instr) (y : Yil) (w : Thread → Nat → Word) (cy : Thread → Nat → Bool) =>
      Ready s.dev i y = true → Retires c s i.hearth (fun t u =>
        let n := t.shAmount o
        n < 32 ∧ u.reg rd = w t n ∧ KeepsRegsBut rd t u ∧
        u = { t with
          w := u.w, pc := t.pc + 4, n := decide ((u.reg rd).toInt < 0), z := decide (u.reg rd = 0),
          c := if n = 0 then false else cy t n })
    R (.shl i rd ra o) (.shift .shl rd ra o) (fun t n => t.reg ra <<< n) (fun t n => (t.reg ra).getLsbD (32 - n)) ∧
    R (.shr i rd ra o) (.shift .shr rd ra o) (fun t n => t.reg ra >>> n) (fun t n => (t.reg ra).getLsbD (n - 1)) ∧
    R (.sar i rd ra o) (.shift .sar rd ra o) (fun t n => (t.reg ra).sshiftRight n) (fun t n => (t.reg ra).getLsbD (n - 1))

/-- R201: pset writes its predicate from the source predicate and the condition, and nothing else; p0 always reads 1. -/
def Claim.PsetWritesOnePredicate : Prop :=
  ∀ (s : State) (i : Issue) (pd ps : BitVec 2) (cond : BitVec 4), pd ≠ 0 →
    let R := fun (c : Instr) (op : BitVec 2) (b : Thread → Bool) =>
      Ready s.dev i (.pset pd ps cond op) = true → Retires c s i.hearth (fun t u =>
        u.pred pd = b t ∧ (∀ p, p ≠ pd → u.pred p = t.pred p) ∧ u.pred 0 = true ∧
        u = { t with p1 := u.p1, p2 := u.p2, p3 := u.p3, pc := t.pc + 4 })
    (ps = 0 → R (.psetCond i pd ps cond) 0 (fun t => t.cond cond)) ∧
    R (.psetAnd i pd ps cond) 1 (fun t => t.pred ps && t.cond cond) ∧
    R (.psetOr i pd ps cond) 2 (fun t => t.pred ps || t.cond cond) ∧
    (cond = 15 → R (.psetNot i pd ps cond) 3 (fun t => !t.pred ps))

/-- R202: mac works on one accumulator (both for CMAC and CMACJ), exactly modulo 2^40; a sum that leaves the 40-bit range
sets S, which is sticky, and nothing else changes. The product is exact in 40 bits (the model's reading, log 54). -/
def Claim.MacAccumulatesModulo40Bits : Prop :=
  ∀ (s : State) (i : Issue) (x : BitVec 1) (ra rb : BitVec 4),
    let P := fun (u v : Int) => 2 * (u * v)
    let out := fun (n : Int) => decide (n < -(2 ^ 39) ∨ 2 ^ 39 ≤ n)
    let one := fun (c : Instr) (y : Yil) (sum : Thread → Int) =>
      Ready s.dev i y = true → Retires c s i.hearth (fun t u =>
        ((u.acc x).toInt - sum t) % 2 ^ 40 = 0 ∧
        u = { t with
          a0 := if x = 1 then t.a0 else u.a0, a1 := if x = 1 then u.a1 else t.a1,
          s := t.s || out (sum t), pc := t.pc + 4 })
    let both := fun (c : Instr) (y : Yil) (s0 s1 : Thread → Int) =>
      Ready s.dev i y = true → Retires c s i.hearth (fun t u =>
        (u.a0.toInt - s0 t) % 2 ^ 40 = 0 ∧ (u.a1.toInt - s1 t) % 2 ^ 40 = 0 ∧
        u = { t with a0 := u.a0, a1 := u.a1, s := t.s || out (s0 t) || out (s1 t), pc := t.pc + 4 })
    let I := fun (t : Thread) (r : BitVec 4) => ((t.reg r).extractLsb' 0 16).toInt
    let Q := fun (t : Thread) (r : BitVec 4) => ((t.reg r).extractLsb' 16 16).toInt
    one (.mac i x ra rb) (.mac 0 x ra rb) (fun t => (t.acc x).toInt + P (I t ra) (I t rb)) ∧
    one (.msu i x ra rb) (.mac 1 x ra rb) (fun t => (t.acc x).toInt - P (I t ra) (I t rb)) ∧
    one (.mpy i x ra rb) (.mac 2 x ra rb) (fun t => P (I t ra) (I t rb)) ∧
    one (.mach i x ra rb) (.mac 3 x ra rb) (fun t => (t.acc x).toInt + P (Q t ra) (Q t rb)) ∧
    both (.cmac i x ra rb) (.mac 4 x ra rb)
      (fun t => t.a0.toInt + P (I t ra) (I t rb) - P (Q t ra) (Q t rb))
      (fun t => t.a1.toInt + P (I t ra) (Q t rb) + P (Q t ra) (I t rb)) ∧
    both (.cmacj i x ra rb) (.mac 5 x ra rb)
      (fun t => t.a0.toInt + P (I t ra) (I t rb) + P (Q t ra) (Q t rb))
      (fun t => t.a1.toInt + P (Q t ra) (I t rb) - P (I t ra) (Q t rb)) ∧
    one (.aclr i x) (.mac 6 x 0 0) (fun _ => 0) ∧
    one (.aload i x ra) (.mac 7 x ra 0) (fun t => (t.reg ra).toInt)

/-- R202, sat: the accumulator shifted right arithmetically and saturated by its mode goes to rd; saturation sets S, which is
sticky, and nothing else changes. In mode 2 the shifted value is rounded to nearest, ties away from zero. -/
def Claim.SatSaturatesAccumulator : Prop :=
  ∀ (s : State) (i : Issue) (rd : BitVec 4) (x : BitVec 1) (sh : BitVec 5) (mode : BitVec 3),
    mode.toNat < 4 → Ready s.dev i (.sat rd x sh mode) = true → Retires (.sat i rd x sh mode) s i.hearth (fun t u =>
      let a := (t.acc x).toInt
      let v := a / 2 ^ sh.toNat
      let r := (2 * a.natAbs + 2 ^ sh.toNat) / 2 ^ (sh.toNat + 1)
      let y : Int := if mode = 2 then (if a < 0 then -(r : Int) else r) else v
      let lim : Int := if mode = 0 then 2 ^ 31 else 2 ^ 15
      KeepsRegsBut rd t u ∧
      (mode = 3 → u.reg rd = BitVec.ofInt 32 v ∧ u = { t with w := u.w, pc := t.pc + 4 }) ∧
      (mode ≠ 3 → (u.reg rd).toInt = max (-lim) (min (lim - 1) y) ∧
        u = { t with w := u.w, s := t.s || decide (y < -lim ∨ lim ≤ y), pc := t.pc + 4 }))

/-! ## Stoker instructions: data memory and control (R203, R204, R210) -/

/-- R203, ldw, ldh and ldb: an aligned load inside DMEM puts the little-endian word, or the sign-extended halfword or byte,
into rd, and changes nothing else. -/
def Claim.LoadsReadLittleEndian : Prop :=
  ∀ (s : State) (i : Issue) (rd ra : BitVec 4) (off : BitVec 16),
    let x := s.dev.hearth i.hearth
    let a := (x.thr.reg ra + off.signExtend 32).toNat
    let b := fun k => x.dmem.read (a + k)
    let R := fun (c : Instr) (op : MemOp) (n : Nat) (w : Word) =>
      Ready s.dev i (.mem op rd ra off) = true → a % n = 0 → a + n ≤ 0x8000 →
        Retires c s i.hearth (fun t u => u = (t.setReg rd w).next)
    R (.ldw i rd ra off .clean) .ldw 4 (b 3 ++ b 2 ++ b 1 ++ b 0) ∧
    R (.ldh i rd ra off .clean) .ldh 2 ((b 1 ++ b 0).signExtend 32) ∧
    R (.ldb i rd ra off .clean) .ldb 1 ((b 0).signExtend 32)

/-- R203, stw, sth and stb: an aligned store inside DMEM writes the low bytes of rs at the address, little-endian; every
other byte of DMEM reads as before, memory keeps its canonical form, and nothing else changes but the pc. -/
def Claim.StoresWriteOnlyTheirBytes : Prop :=
  ∀ (s : State) (i : Issue) (rs ra : BitVec 4) (off : BitVec 16),
    let x := s.dev.hearth i.hearth
    let a := (x.thr.reg ra + off.signExtend 32).toNat
    let R := fun (c : Instr) (op : MemOp) (n : Nat) =>
      Ready s.dev i (.mem op rs ra off) = true → a % n = 0 → a + n ≤ 0x8000 →
        ChangesHearth c s i.hearth (fun x y =>
          (∀ k, y.dmem.read k =
            if a ≤ k ∧ k < a + n then ((x.thr.reg rs) >>> (8 * (k - a))).setWidth 8 else x.dmem.read k) ∧
          (x.dmem.wf = true → y.dmem.wf = true) ∧
          y = ({ x with lastRetire := s.dev.now, dmem := y.dmem } : Hearth).setThr x.thr.next)
    R (.stw i rs ra off) .stw 4 ∧ R (.sth i rs ra off) .sth 2 ∧ R (.stb i rs ra off) .stb 1

/-- R203, bcpy: n + 1 words go from address ra to address rd, both aligned and each inside one bank of 8 KiB, the banks
different; every other byte reads as before, and nothing else changes but the pc. -/
def Claim.BcpyCopiesBetweenBanks : Prop :=
  ∀ (s : State) (i : Issue) (rd ra n : BitVec 4),
    let x := s.dev.hearth i.hearth
    let dst := (x.thr.reg rd).toNat
    let src := (x.thr.reg ra).toNat
    let len := 4 * (n.toNat + 1)
    Ready s.dev i (.bcpy rd ra n) = true → dst < 0x8000 → src < 0x8000 → dst % 4 = 0 → src % 4 = 0 →
    (dst + len - 1) / 0x2000 = dst / 0x2000 → (src + len - 1) / 0x2000 = src / 0x2000 → dst / 0x2000 ≠ src / 0x2000 →
      ChangesHearth (.bcpy i rd ra n .clean) s i.hearth (fun x y =>
        (∀ k, y.dmem.read k = if dst ≤ k ∧ k < dst + len then x.dmem.read (src + (k - dst)) else x.dmem.read k) ∧
        y = ({ x with lastRetire := s.dev.now, dmem := y.dmem } : Hearth).setThr x.thr.next)

/-- R194 and R204: br, bcc, call, ret and loop set the pc to a target inside instruction memory; bcc and loop fall through
otherwise; call writes the return address to w15, loop its count, and nothing else changes. nop only advances the pc. -/
def Claim.BranchesSetThePc : Prop :=
  ∀ (s : State) (i : Issue) (c ra wc : BitVec 4) (off : BitVec 20),
    let t0 := (s.dev.hearth i.hearth).thr
    let target : Int := t0.pc.toNat + 4 * off.toInt
    let inside := 0 ≤ target ∧ target < 0x4000
    let at_ := fun (u t : Thread) (p : Int) => (u.pc.toNat : Int) = p ∧ u = { t with w := u.w, pc := u.pc }
    (Ready s.dev i (.br off) = true → inside → Retires (.br i off) s i.hearth (fun t u => at_ u t target ∧ u.w = t.w)) ∧
    (Ready s.dev i (.bcc c off) = true → (t0.cond c = true → inside) →
      Retires (.bcc i c off) s i.hearth (fun t u => u.w = t.w ∧
        (if t.cond c = true then at_ u t target else u = t.next))) ∧
    (Ready s.dev i (.call off) = true → inside → Retires (.call i off) s i.hearth (fun t u =>
      at_ u t target ∧ (u.reg 15).toNat = (t.pc.toNat + 4) % 0x4000 ∧ KeepsRegsBut 15 t u)) ∧
    (Ready s.dev i (.ret ra) = true → (t0.reg ra).toNat < 0x4000 → Retires (.ret i ra) s i.hearth (fun t u =>
      at_ u t (((t.reg ra).toNat / 4 * 4 : Nat) : Int) ∧ u.w = t.w)) ∧
    (Ready s.dev i (.loop wc off) = true → (t0.reg wc ≠ 1 → inside) → Retires (.loop i wc off) s i.hearth (fun t u =>
      u.reg wc = t.reg wc - 1 ∧ KeepsRegsBut wc t u ∧
      at_ u t (if t.reg wc = 1 then (t.next.pc.toNat : Int) else target))) ∧
    (Ready s.dev i .nop = true → Retires (.nop i) s i.hearth (fun t u => u = t.next))

/-- R204 and R210: halt stops the lane's program on every hearth that runs it, raises HALTED and leaves the lane with no declared
oven demand, so that the demand, the margin and their events follow; uret ends URGENT, or starts it again at the urgent entry while
words wait. -/
def Claim.HaltAndUretEndThreads : Prop :=
  ∀ (s : State) (i : Issue),
    let h := i.hearth
    (∀ n < 96, h < s.dev.part.hearths → s.dev.laneOf h = some n → Ready s.dev i .halt = true → Completes (.halt i) s (fun d t =>
      (∀ k < d.part.hearths, d.laneOf k = some n →
        (t.hearth k).running = false ∧ (t.hearth k).wait = none ∧ (t.hearth k).urgOn = false) ∧
      (∀ k, d.laneOf k ≠ some n → t.hearth k = d.hearth k) ∧
      t.rd (Reg.LANE_STAT n) = (d.raise (Reg.LANE_STAT n) 2).rd (Reg.LANE_STAT n) ∧ t.rd (Reg.LANE_OVDEM n) = 0 ∧
      KeepsRegs [Reg.LANE_STAT n, Reg.LANE_OVDEM n, Reg.OVN_DEMAND, Reg.OVN_CAPACITY, Reg.OVN_EVT, Reg.SYS_MARGIN, Reg.CAP_EVT,
        Reg.HMG_EVT] d t ∧
      (t.lane n).halted = true ∧ (∀ k, k ≠ n → t.lane k = d.lane k) ∧
      t = { d with regs := t.regs, evtLast := t.evtLast, pcie := t.pcie, out := t.out,
                   hearths := t.hearths, pool := t.pool, lanes := t.lanes })) ∧
    (Ready s.dev i .uret = true → (s.dev.hearth h).urgOn = true → ChangesHearth (.uret i) s h (fun x y =>
      if x.umbox = [] then y = { x with urgOn := false, lastRetire := s.dev.now }
      else y = { x with urg := { x.urg with pc := BitVec.ofNat 14 x.entUrg }, lastRetire := s.dev.now }))

/-! ## Issue and exceptions (R163, R195, R196, R235, R236) -/

/-- R196: an instruction whose predicate reads 0 retires and changes nothing but the pc, whatever the instruction, its fields
and its operands are. -/
def Obligations.FalsePredicateChangesNothing : Prop :=
  ∀ (s : State) (c : Instr) (i : Issue) (y : Yil), i.fetch = .clean → AtPc s.dev i y = true →
    (s.dev.hearth i.hearth).thr.pred i.pred = false →
    (yilOf c = some (i, y) → Retires c s i.hearth (fun t u => u = t.next)) ∧
    (∀ rd ra off dmg, y = .sysrd rd ra off →
      (((s.dev.hearth i.hearth).thr.addr ra off).toNat = 0xFF2000 →
        Retires (.srSampleLoRead i rd ra off) s i.hearth (fun t u => u = t.next)) ∧
      (((s.dev.hearth i.hearth).thr.addr ra off).toNat = 0xFF2024 →
        Retires (.srApplyRead i rd ra off dmg) s i.hearth (fun t u => u = t.next)))

/-- R195, R235: an instruction whose predicate reads 1 and one of whose fields has a value that is not listed raises
ILLEGAL, subcode FIELD, in place of its effect. -/
def Claim.IllegalFieldTraps : Prop :=
  ∀ (s : State) (c : Instr) (i : Issue) (y : Yil), yilOf c = some (i, y) → Ready s.dev i y = true → y.legal = false →
    Goes c s ((s.dev.issued i.hearth).exception i.hearth 1 2 none)

/-- R163, cause 1: a double-bit error at the fetch of an instruction declares its hearth failed from the read on, and the
instruction has no effect. -/
def Claim.FetchErrorFailsTheHearth : Prop :=
  ∀ (s : State) (c : Instr) (i : Issue) (y : Yil), yilOf c = some (i, y) → AtPc s.dev i y = true → i.fetch = .double →
    Goes c s (s.dev.declareFail i.hearth 1 s.dev.now s.dev.devtime)

/-- R195, R196, R235: an illegal word at the pc of a thread that may issue raises ILLEGAL, with OPCODE for an unassigned
opcode and FIELD otherwise, when its predicate reads 1; else it is passed. -/
def Claim.IllegalWordTraps : Prop :=
  ∀ (s : State) (h : Nat) (w : Word), s.dev.canIssue h = true → (s.dev.hearth h).fetchWord = w → Yil.decode w = none →
    let op := (w.extractLsb' 26 6).toNat
    (((s.dev.hearth h).thr.pred (w.extractLsb' 24 2) = true →
      Goes (.illegalInstruction h w .clean) s (s.dev.exception h 1
        (if op ∈ [0x00, 0x19, 0x1A, 0x1B, 0x1C, 0x27, 0x2F] then 1 else 2) none)) ∧
     ((s.dev.hearth h).thr.pred (w.extractLsb' 24 2) = false →
      Goes (.illegalInstruction h w .clean) s (s.dev.setHearth h ((s.dev.hearth h).setThr (s.dev.hearth h).thr.next))))

/-- R235 and R236, what an exception does: it is logged as a severe entry with its class, subcode, thread, lane and pc, and a
continuation with the instruction word and the address; the threads and hob units of every hearth of its lane stop, with
their queues empty and oven results dropped; EXCEPT and HALTED are raised; the lane declares no oven demand, and the demand, the
margin and their events follow; every other hearth, register and lane keeps its value. The
place of the fields in the log words is the model's reading of R510. -/
def Claim.ExceptionStopsTheLane : Prop :=
  ∀ (d : Dev) (h n cls sub : Nat) (addr : Option Word), h < d.part.hearths → d.laneOf h = some n → n < 96 → cls < 4 → sub < 16 →
    d.soot.stage.length ≤ 14 →
    let x := d.hearth h
    let t := d.exception h cls sub addr
    (∃ a b, t.soot.stage = d.soot.stage ++ [a, b] ∧ getBits a.w2 1 0 = 2 ∧ getBits a.w2 31 16 = 0x4004 ∧
      getBits a.w2 15 8 = 0x80 + h ∧
      a.w3.toNat = cls * 2 ^ 28 + sub * 2 ^ 24 + (if x.urgOn then 2 ^ 23 else 0) + n * 2 ^ 16 + x.thr.pc.toNat ∧
      b.w0 = x.fetchWord ∧ b.w1 = addr.getD 0) ∧
    (∀ k < d.part.hearths, d.laneOf k = some n →
      (t.hearth k).running = false ∧ (t.hearth k).wait = none ∧ (t.hearth k).urgOn = false ∧ (t.hearth k).ovens = [] ∧
      (t.hearth k).main = (d.hearth k).main ∧ (t.hearth k).urg = (d.hearth k).urg ∧
      (t.hearth k).dmem = (d.hearth k).dmem ∧ (t.hearth k).imem = (d.hearth k).imem ∧
      ∀ u, ((t.hearth k).unit u).queue = [] ∧ ((t.hearth k).unit u).running = none) ∧
    (∀ k, d.laneOf k ≠ some n → t.hearth k = d.hearth k) ∧
    t.rd (Reg.LANE_STAT n) = (d.raiseUnit (Reg.LANE_STAT n) 0 [3, 2]).rd (Reg.LANE_STAT n) ∧ t.rd (Reg.LANE_OVDEM n) = 0 ∧
    KeepsRegs [Reg.LANE_STAT n, Reg.LANE_OVDEM n, Reg.OVN_DEMAND, Reg.OVN_CAPACITY, Reg.OVN_EVT, Reg.SYS_MARGIN, Reg.CAP_EVT,
      Reg.HMG_EVT] d t ∧
    (t.lane n).halted = true ∧ (∀ k, k ≠ n → t.lane k = d.lane k) ∧ t.ash = d.ash ∧ t.shadow = d.shadow ∧ t.devtime = d.devtime

/-- R209, R235: URGENT that executes a wait instruction traps with ILLEGAL, subcode WAIT, whatever the state of the queues; a
flput does so before its descriptor is looked at. -/
def Claim.WaitInUrgentTraps : Prop :=
  ∀ (s : State) (c : Instr) (i : Issue) (y : Yil), yilOf c = some (i, y) → Ready s.dev i y = true → y.legal = true →
    (s.dev.hearth i.hearth).urgOn = true →
    (∃ unit rd ra mask, y = .hwait unit ∨ y = .oawait rd ra ∨ y = .aawait rd ra ∨ y = .tick rd ra ∨ y = .yield rd mask ∨ y = .flput ra) →
    Goes c s ((s.dev.issued i.hearth).exception i.hearth 1 4 none)

/-- R203, R235: a load, a store or a descriptor at a misaligned address inside DMEM traps with DRANGE, subcode ALIGN, and the
address; one at or above 0x8000 with subcode ADDRESS. -/
def Claim.BadDataAddressTraps : Prop :=
  ∀ (s : State) (c : Instr) (i : Issue) (y : Yil) (a : Word) (align : Nat),
    yilOf c = some (i, y) → Ready s.dev i y = true → y.legal = true →
    let t := (s.dev.hearth i.hearth).thr
    ((∃ op r ra off, y = .mem op r ra off ∧ a = t.addr ra off ∧ align = op.size) ∨
     (∃ pd wd ws, y = .oreq pd wd ws ∧ a = t.reg ws ∧ align = 4) ∨
     (∃ pd wd ws, y = .areq pd wd ws ∧ a = t.reg ws ∧ align = 4) ∨
     (∃ unit cmd ws imm, y = .hput unit cmd ws imm ∧ takesDesc unit.toNat cmd.toNat = true ∧ a = t.reg ws ∧ align = 4) ∨
     (∃ ra, y = .flput ra ∧ (s.dev.hearth i.hearth).urgOn = false ∧ a = t.reg ra ∧ align = 4)) →
    (a.toNat < 0x8000 → a.toNat % align ≠ 0 → Goes c s ((s.dev.issued i.hearth).exception i.hearth 3 2 (some a))) ∧
    (0x8000 ≤ a.toNat → Goes c s ((s.dev.issued i.hearth).exception i.hearth 3 1 (some a)))

/-- R204, R210, R226, R231, R235: the other traps. A branch or return outside instruction memory raises ILLEGAL FETCH; uret in MAIN
and mput to URG in URGENT raise ILLEGAL URET; a sysrd or syswr outside what lanes reach raises PRIVILEGE ADDRESS, a syswr to a
register they only read READONLY, both with the log entry and event of R74. -/
def Claim.BranchMailboxAndAccessTraps : Prop :=
  ∀ (s : State) (i : Issue) (c rs ra rd : BitVec 4) (off : BitVec 20) (o : BitVec 16) (dmg : Damage),
    let x := s.dev.hearth i.hearth
    let d := s.dev.issued i.hearth
    let n := (s.dev.laneOf i.hearth).getD 0
    let target : Int := x.thr.pc.toNat + 4 * off.toInt
    let outside := target < 0 ∨ 0x4000 ≤ target
    let a := x.thr.reg ra + o.signExtend 32
    let fetch := d.exception i.hearth 1 3 none
    let priv := fun sub write =>
      ((d.sootE 1 (0x80 + i.hearth) 0xC001 ((if write then 2 ^ 31 else 0) + a.toNat % 2 ^ 26)).raise Reg.SYS_EVT 3).exception
        i.hearth 2 sub (some a)
    (Ready s.dev i (.br off) = true → outside → Goes (.br i off) s fetch) ∧
    (Ready s.dev i (.bcc c off) = true → x.thr.cond c = true → outside → Goes (.bcc i c off) s fetch) ∧
    (Ready s.dev i (.call off) = true → outside → Goes (.call i off) s fetch) ∧
    (Ready s.dev i (.loop rd off) = true → x.thr.reg rd ≠ 1 → outside → Goes (.loop i rd off) s fetch) ∧
    (Ready s.dev i (.ret ra) = true → 0x4000 ≤ (x.thr.reg ra).toNat → Goes (.ret i ra) s fetch) ∧
    (Ready s.dev i .uret = true → x.urgOn = false → Goes (.uret i) s (d.exception i.hearth 1 5 none)) ∧
    (Ready s.dev i (.mput rs 0) = true → x.urgOn = true → Goes (.mput i rs 0) s (d.exception i.hearth 1 5 none)) ∧
    (Ready s.dev i (.sysrd rd ra o) = true →
      a.toNat % 4 ≠ 0 ∨ (isSr a.toNat = false ∧ mayRead n a.toNat = false) →
      Goes (.sysrd i rd ra o dmg) s (priv 1 false)) ∧
    (Ready s.dev i (.syswr rs ra o) = true →
      a.toNat % 4 ≠ 0 ∨ (isSr a.toNat = false ∧ mayWrite n a.toNat = false ∧ mayRead n a.toNat = false) →
      Goes (.syswr i rs ra o 0) s (priv 1 true)) ∧
    (Ready s.dev i (.syswr rs ra o) = true → a.toNat % 4 = 0 → isSr a.toNat = false → mayWrite n a.toNat = false →
      mayRead n a.toNat = true → Goes (.syswr i rs ra o 0) s (priv 2 true))

/-! ## Stoker instructions: the hob, tickets, waits (R199, R205 to R222) -/

/-- R205, R212: hput queues its command to a unit with room, or MAIN waits at it; hget of sel 0 gives the unit's status and ends
HERR, of a listed sel its result word (what is in use, outstanding or armed, or what the last command left), of any other sel a word
that the manual leaves open; hwait passes an idle unit, or MAIN waits at it, as it does while its lane's page is due to apply at a
wait (R230). Nothing else changes. -/
def Claim.HobInstructionsQueueReadAndWait : Prop :=
  ∀ (s : State) (i : Issue) (rd unit cmd ws : BitVec 4) (imm : BitVec 12) (sel : BitVec 16),
    let h := i.hearth
    let x : Hearth := { s.dev.hearth h with lastRetire := s.dev.now }
    let q := x.unit unit.toNat
    let a := x.thr.reg ws
    let putOk := Ready s.dev i (.hput unit cmd ws imm) = true ∧ cmd.toNat < unitCmds unit.toNat ∧
      (takesDesc unit.toNat cmd.toNat = true → a.toNat % 4 = 0 ∧ a.toNat + 16 ≤ 0x8000)
    let getOk := Ready s.dev i (.hget rd unit sel) = true ∧ unit.toNat < 9
    (putOk → q.queue.length < 4 → Goes (.hput i unit cmd ws imm) s (s.dev.setHearth h ((x.setUnit unit.toNat
      { q with queue := q.queue ++ [⟨cmd.toNat, a, imm.toNat, s.dev.now⟩], used := true }).setThr x.thr.next))) ∧
    (putOk → 4 ≤ q.queue.length → x.urgOn = false →
      Goes (.hput i unit cmd ws imm) s (s.dev.setHearth h { x with wait := some (.hput unit.toNat cmd.toNat a imm.toNat) })) ∧
    (getOk → sel = 0 → ∃ w : Word,
      getBits w 31 24 = q.err % 256 ∧ getBits w 23 16 = q.done % 256 ∧ getBits w 15 8 = 0 ∧ getBits w 7 4 = q.queue.length % 16 ∧
      getBits w 3 1 = 0 ∧ getBits w 0 0 = (if q.running.isSome then 1 else 0) ∧
      Goes (.hget i rd unit sel) s (s.dev.setHearth h
        ((x.setUnit unit.toNat { q with herr := false }).setThr (x.thr.setReg rd w).next))) ∧
    (getOk → 1 ≤ sel.toNat → sel.toNat ≤ unitSels unit.toNat →
      Retires (.hget i rd unit sel) s h (fun t u => u = (t.setReg rd
        (if unit = 1 ∧ sel = 1 then x.freq else if unit = 2 ∧ sel = 1 then BitVec.ofNat 32 (x.ratio / 65536)
         else if unit = 6 ∧ sel = 1 then BitVec.ofNat 32 x.tiOut else if unit = 7 ∧ sel = 1 then BitVec.ofNat 32 x.armed
         else SMap.get 0 q.results sel.toNat)).next)) ∧
    (getOk → unitSels unit.toNat < sel.toNat → ∃ w : Word, Goes (.hget i rd unit sel) s
      { s.dev.retire h (x.thr.setReg rd w).next with free := s.dev.free + 1 }) ∧
    (Ready s.dev i (.hwait unit) = true → unit.toNat < 9 → x.urgOn = false →
      (q.queue = [] ∧ q.running = none → (s.dev.issued h).applyDue h = false →
        Retires (.hwait i unit) s h (fun t u => u = t.next)) ∧
      (¬(q.queue = [] ∧ q.running = none) ∨ (s.dev.issued h).applyDue h = true →
        Goes (.hwait i unit) s (s.dev.setHearth h { x with wait := some (.hwait unit.toNat) })))

/-- R215, R216, R478: oreq takes the lowest free of four tickets and queues its request, or returns it at once (BADDESC, LATE, or
SRCERR behind the pool's closed wrapper), and writes the ticket and 1; with four outstanding it only writes 0 to its predicate. oawait
collects a completed ticket, reads NOTICKET where none is outstanding, or waits, as it does while its lane's page is due to apply at
a wait (R230). A pool held in reset without a wrapper loses the request (R294). The status behind the wrapper is the model's reading
(log 45). -/
def Claim.OvenTicketsAreTakenAndCollected : Prop :=
  ∀ (s : State) (i : Issue) (pd : BitVec 2) (wd ws rd ra : BitVec 4),
    let h := i.hearth
    let d := s.dev.issued h
    let x := s.dev.hearth h
    let o := Memory.readODesc x.dmem (x.thr.reg ws).toNat
    let ready := Ready s.dev i (.oreq pd wd ws) = true ∧ (x.thr.reg ws).toNat % 4 = 0 ∧ (x.thr.reg ws).toNat + 32 ≤ 0x8000
    let taken := fun t => d.updHearth h (fun x => x.setOven t (some {}))
    let r := fun (t : Nat) => ({
      hearth := h, lane := ((taken t).laneOf h).getD 0, shadow := (taken t).isShadow h, ticket := t, code := o.code.toNat % 65536,
      fromTi := !bit o.flags 8, toHob := bit o.flags 9, dst := o.dst.toNat, limit := getBits o.flags 5 0, deadline := of64 o.dlo o.dhi, at_ := s.dev.now,
      reissued := false, dropped := false } : OReq)
    let done := fun (e : Dev) (t : Nat) => e.thr h (fun th => (th.setReg wd (BitVec.ofNat 32 t)).setPred pd true)
    (ready → (∀ t < 4, (x.oven t).isSome = true) →
      Retires (.oreq i pd wd ws .clean) s h (fun t u => u = (t.setPred pd false).next)) ∧
    (∀ t < 4, ready → x.oven t = none → (∀ k < t, (x.oven k).isSome = true) →
      (d.wrapped 5 = true → Goes (.oreq i pd wd ws .clean) s (done ((taken t).updHearth h (fun x =>
        x.setOven t (some { done := some 0x03000000 }))) t)) ∧
      (d.wrapped 5 = false → d.held 5 = true → Goes (.oreq i pd wd ws .clean) s (done (taken t) t)) ∧
      (d.wrapped 5 = false → d.held 5 = false → o.ok = false → Goes (.oreq i pd wd ws .clean) s (done ((taken t).updHearth h (fun x =>
        x.setOven t (some { done := some 0x04000000 }))) t)) ∧
      (d.wrapped 5 = false → d.held 5 = false → o.ok = true → of64 o.dlo o.dhi ≤ x.smp → Goes (.oreq i pd wd ws .clean) s (done
        (((((taken t).updHearth h (fun x => x.setOven t (some { done := some 0x02000000 }))).incWordSat Reg.OVN_LATE 1).raise
          (Reg.LANE_STAT (r t).lane) 13).raise Reg.OVN_EVT 2) t)) ∧
      (d.wrapped 5 = false → d.held 5 = false → o.ok = true → x.smp < of64 o.dlo o.dhi → Goes (.oreq i pd wd ws .clean) s (done
        (((taken t).enqueue (r t) (decide (2 ≤ o.code.toNat / 4096)) false).scheduleAll) t))) ∧
    (Ready s.dev i (.oawait rd ra) = true → x.urgOn = false →
      let t := (x.thr.reg ra).toNat
      (4 ≤ t ∨ x.oven t = none → d.applyDue h = false →
        Retires (.oawait i rd ra) s h (fun t u => u = (t.setReg rd 0x05000000).next)) ∧
      (∀ w, t < 4 → x.oven t = some { done := some w } → d.applyDue h = false → Goes (.oawait i rd ra) s
        ((d.updHearth h (fun x => x.setOven t none)).thr h (fun th => th.setReg rd w))) ∧
      ((t < 4 ∧ x.oven t = some { done := none }) ∨ d.applyDue h = true → Goes (.oawait i rd ra) s
        (d.updHearth h (fun y => { y with wait := some (.oawait rd.toNat (x.thr.reg ra)) }))))

/-- R218, R219: areq takes the lowest free of eight tickets with its descriptor and the time, and writes the ticket and 1; with eight
requests outstanding, TI transfers among them, it only writes 0 to its predicate. aawait is to it as oawait is to oreq. -/
def Claim.AshpitTicketsAreTakenAndCollected : Prop :=
  ∀ (s : State) (i : Issue) (pd : BitVec 2) (wd ws rd ra : BitVec 4),
    let h := i.hearth
    let d := s.dev.issued h
    let x := s.dev.hearth h
    let a := (x.thr.reg ws).toNat
    let ready := Ready s.dev i (.areq pd wd ws) = true ∧ a % 4 = 0 ∧ a + 16 ≤ 0x8000
    let held := ((List.range 8).filter (fun t => (x.ash t).isSome)).length + x.tiOut
    (ready → 8 ≤ held → Retires (.areq i pd wd ws .clean) s h (fun t u => u = (t.setPred pd false).next)) ∧
    (∀ t < 8, ready → held < 8 → x.ash t = none → (∀ k < t, (x.ash k).isSome = true) →
      Goes (.areq i pd wd ws .clean) s ((d.updHearth h (fun y => y.setAsh t (some { desc :=
          ⟨x.dmem.readWord a, x.dmem.readWord (a + 4), x.dmem.readWord (a + 8), x.dmem.readWord (a + 12)⟩, at_ := s.dev.now }))).thr h
        (fun th => (th.setReg wd (BitVec.ofNat 32 t)).setPred pd true))) ∧
    (Ready s.dev i (.aawait rd ra) = true → x.urgOn = false →
      let t := (x.thr.reg ra).toNat
      (8 ≤ t ∨ x.ash t = none → d.applyDue h = false →
        Retires (.aawait i rd ra) s h (fun t u => u = (t.setReg rd 0x05000000).next)) ∧
      (∀ k w, t < 8 → x.ash t = some k → k.done = some w → d.applyDue h = false → Goes (.aawait i rd ra) s
        ((d.updHearth h (fun x => x.setAsh t none)).thr h (fun th => th.setReg rd w))) ∧
      ((t < 8 ∧ ∃ k, x.ash t = some k ∧ k.done = none) ∨ d.applyDue h = true → Goes (.aawait i rd ra) s
        (d.updHearth h (fun y => { y with wait := some (.aawait rd.toNat (x.thr.reg ra)) }))))

/-- R221, R222: tick passes once (int32)(S − ra) ≥ 0, writing S and restarting the stall watchdog; yield passes on a mask of 0
or a pending event, writing the whole pending word, and SAMPLE starts afresh; else, and while the lane's page is due to apply at a wait
(R230), MAIN waits at them. -/
def Claim.TickAndYieldPassOrWait : Prop :=
  ∀ (s : State) (i : Issue) (rd ra : BitVec 4) (mask : BitVec 16),
    let h := i.hearth
    let x : Hearth := { s.dev.hearth h with lastRetire := s.dev.now }
    let S := BitVec.ofNat 32 x.smp
    let pend := x.pendingWord
    let due := (s.dev.issued h).applyDue h
    (Ready s.dev i (.tick rd ra) = true → x.urgOn = false →
      (0 ≤ (S - x.thr.reg ra).toInt → due = false → Goes (.tick i rd ra) s
        (s.dev.setHearth h (({ x with lastTick := s.dev.now } : Hearth).setThr (x.thr.setReg rd S).next))) ∧
      ((S - x.thr.reg ra).toInt < 0 ∨ due = true → Goes (.tick i rd ra) s
        (s.dev.setHearth h { x with wait := some (.tick rd.toNat (x.thr.reg ra)) }))) ∧
    (Ready s.dev i (.yield rd mask) = true → x.urgOn = false →
      (mask = 0 ∨ pend &&& mask.setWidth 32 ≠ 0 → due = false → Goes (.yield i rd mask) s
        (s.dev.setHearth h (({ x with newSmp := false } : Hearth).setThr (x.thr.setReg rd pend).next))) ∧
      ((mask ≠ 0 ∧ pend &&& mask.setWidth 32 = 0) ∨ due = true → Goes (.yield i rd mask) s
        (s.dev.setHearth h { x with wait := some (.yield rd.toNat mask.toNat) })))

/-- R222: the bits of the pending word of yield. -/
def Claim.PendingWordBits : Prop :=
  ∀ x : Hearth,
    let w := x.pendingWord
    (w.getLsbD 0 = true ↔ ∃ u < 9, (x.unit u).used = true ∧ (x.unit u).queue = [] ∧ (x.unit u).running = none) ∧
    (w.getLsbD 1 = true ↔ ∃ t < 4, ∃ r, x.oven t = some { done := some r }) ∧
    (w.getLsbD 2 = true ↔ ∃ t < 8, ∃ k r, x.ash t = some { desc := k, done := some r }) ∧
    (w.getLsbD 3 = true ↔ x.sys ≠ []) ∧ (w.getLsbD 4 = x.hin) ∧ (w.getLsbD 5 = true ↔ x.flq.length < 64) ∧ (w.getLsbD 6 = x.newSmp) ∧
    (w.getLsbD 7 = true ↔ ∃ u < 9, (x.unit u).herr = true) ∧ getBits w 31 8 = 0

/-- R223 to R225: fwal sends its event and retires; flput waits while its payload is copied out, while the output queue is full, or
while the lane's page is due to apply at a wait (R230); else it discards a unit that does not increase, or puts it into the output
queue, which then drains; and it retires. -/
def Claim.FwalAndFlputHandOver : Prop :=
  ∀ (s : State) (i : Issue) (rs ra : BitVec 4) (tag : BitVec 12) (n : Nat) (copying : Bool),
    let h := i.hearth
    let d := s.dev.issued h
    let x := s.dev.hearth h
    let w := x.thr.reg rs
    let a := (x.thr.reg ra).toNat
    let k : Desc := ⟨x.dmem.readWord a, x.dmem.readWord (a + 4), x.dmem.readWord (a + 8), x.dmem.readWord (a + 12)⟩
    let pair := (k.d2.toNat + getBits k.d3 15 0 * 2 ^ 32) * 2 ^ 16 + getBits k.d3 31 16
    let len := getBits k.d0 31 16
    let ok := Ready s.dev i (.flput ra) = true ∧ x.urgOn = false ∧ s.dev.laneOf h = some n ∧ a % 4 = 0 ∧ a + 16 ≤ 0x8000 ∧
      getBits k.d0 15 10 = 0 ∧ getBits k.d0 8 3 = 0 ∧ 1 ≤ len ∧ len ≤ 4096 ∧ k.d1.toNat + len ≤ 0x8000
    (Ready s.dev i (.fwal rs tag) = true → s.dev.laneOf h = some n → Goes (.fwal i rs tag) s
      (({ d with fire := { d.fire with flight := d.fire.flight ++ [{
          input := h, lane := n, hearth := h,
          role := if s.dev.hstate h = stJoining then 2 else if s.dev.hstate h = stShadow then 1 else 0,
          tag := tag.toNat, word := w, start := w.getLsbD 31, late := s.dev.hstate h = stJoining, peer := none }] } } : Dev).thr h id)) ∧
    (ok → copying = true ∨ 64 ≤ x.flq.length ∨ d.applyDue h = true → Goes (.flput i ra ⟨.clean, copying⟩) s
      (d.updHearth h (fun y => { y with wait := some (.flput (x.thr.reg ra)) }))) ∧
    (ok → x.flq.length < 64 → d.applyDue h = false → (∃ p, x.lastUnit = some p ∧ pair ≤ p) → Goes (.flput i ra ⟨.clean, false⟩) s
      (((d.thr h id).updHearth h (fun y => { y with flbad := min (y.flbad + 1) (2 ^ 32 - 1) })).sootE 1 (0x80 + h) 0x4005 (n * 65536))) ∧
    (ok → x.flq.length < 64 → d.applyDue h = false → (∀ p, x.lastUnit = some p → p < pair) → Goes (.flput i ra ⟨.clean, false⟩) s
      (((d.thr h id).updHearth h (fun y => { y with
        lastUnit := some pair, flq := y.flq ++ [(d.thr h id).unitOf h k] })).flDrain h))

/-- R223: the output queue drains into the lane's draw line, oldest unit first, unless the chimney or the ashpit is held or the link to
the ashpit takes no message, when it stays as it is (when it drains is the model's choice, log 100). -/
def Claim.OutputQueueDrains : Prop :=
  ∀ (d : Dev) (h n : Nat),
    let open_ := d.held 6 = false ∧ d.held 7 = false ∧ d.linkFree (h / 8) true 2 ≠ 0
    (¬open_ → d.flDrain h = d) ∧
    (open_ → d.laneOf h = some n →
      d.flDrain h = (d.hearth h).flq.foldl (fun e u => e.laneUnit h n u) (d.updHearth h (fun x => { x with flq := [] })))

/-- R226 to R229: mget takes the oldest word of its box, with Z for an empty one and N from the word, and messages that waited for room in SYS enter it;
mput puts its word into URG, which MAIN finds empty, answers
the mantel on SYS, or overwrites the outbound doorbell on HOUT and raises MBOX. -/
def Claim.MailboxesTakeAndPut : Prop :=
  ∀ (s : State) (i : Issue) (rd rs : BitVec 4) (n : Nat),
    let h := i.hearth
    let d := s.dev.issued h
    let x : Hearth := { s.dev.hearth h with lastRetire := s.dev.now }
    let w := x.thr.reg rs
    let got := fun (y : Hearth) (o : Option Word) => s.dev.setHearth h
      (y.setThr { (x.thr.setReg rd (o.getD 0)).next with z := o.isNone, n := (o.getD 0).getLsbD 31 })
    (Ready s.dev i (.mget rd 0) = true → Goes (.mget i rd 0) s (got { x with umbox := x.umbox.drop 1 } x.umbox.head?)) ∧
    (Ready s.dev i (.mget rd 1) = true → s.dev.laneOf h = some n → s.dev.bound n ≠ some h → Goes (.mget i rd 1) s
      (got { x with sys := x.sys.drop 1 } x.sys.head?)) ∧
    (Ready s.dev i (.mget rd 1) = true → s.dev.laneOf h = some n → s.dev.bound n = some h →
      let room := 4 - x.sys.tail.length
      let held := (s.dev.lane n).sysHeld
      Goes (.mget i rd 1) s ((got { x with sys := x.sys.drop 1 ++ held.take room } x.sys.head?).setLane n
        { s.dev.lane n with sysHeld := held.drop room })) ∧
    (Ready s.dev i (.mget rd 2) = true → s.dev.laneOf h = some n → Goes (.mget i rd 2) s
      (got { x with hin := false } (if x.hin then some (s.dev.rd (Reg.LANE_MBIN n 0)) else none))) ∧
    (Ready s.dev i (.mput rs 0) = true → x.urgOn = false →
      Goes (.mput i rs 0) s (s.dev.setHearth h (({ x with umbox := [w] } : Hearth).setThr x.thr.next))) ∧
    (Ready s.dev i (.mput rs 1) = true → s.dev.laneOf h = some n → s.dev.bound n = some h →
      ((s.dev.lane n).resync = none ∨ (w ≠ 0x10000000 ∧ w ≠ 0x10000001) → Goes (.mput i rs 1) s (d.thr h id)) ∧
      (∀ m, (s.dev.lane n).resync = some m → w = 0x10000000 → Goes (.mput i rs 1) s ((d.thr h id).resyncKeep n h)) ∧
      (∀ m, (s.dev.lane n).resync = some m → w = 0x10000001 → Goes (.mput i rs 1) s ((d.thr h id).resyncResume n h))) ∧
    (Ready s.dev i (.mput rs 3) = true → s.dev.laneOf h = some n → s.dev.bound n = some h → Goes (.mput i rs 3) s
      (((d.wr (Reg.LANE_MBOUT n 0) w).raise (Reg.LANE_STAT n) 12).thr h id))

/-! ## Stoker instructions: registers, the end of a wait, URGENT (R199, R207, R221, R230, R231) -/

/-- R83, R168, R221, R230, R231: sysrd of each register of the stoker writes it to rd, SR_SAMPLE_LO latching its high half for the next
read of SR_SAMPLE_HI; SR_APPLY reads 1 and applies the captured lane page, or makes the next apply of the lane's history that the
program resumed before, or reads 0; a permitted register outside SR makes MAIN wait, and URGENT trap. That SR_CYCLE counts 400 MHz
cycles of the model's clock is the model's choice (log 55). -/
def Claim.SysrdReadsItsRegister : Prop :=
  ∀ (s : State) (i : Issue) (rd ra : BitVec 4) (off : BitVec 16) (dmg : Damage),
    let h := i.hearth
    let d := s.dev.issued h
    let x : Hearth := { s.dev.hearth h with lastRetire := s.dev.now }
    let n := (s.dev.laneOf h).getD 0
    let a := (x.thr.reg ra + off.signExtend 32).toNat
    let reads := fun (c : Instr) (v : Word) => Retires c s h (fun t u => u = (t.setReg rd v).next)
    let lo := BitVec.ofNat 32 x.smp
    let hi := BitVec.ofNat 32 (x.smp / 2 ^ 32)
    let key := latchKey (.stoker h) 0xFF2004
    let sample := fun (c : Instr) => Goes c s { s.dev.retire h (x.thr.setReg rd lo).next with latches := SMap.put none s.dev.latches key (some hi) }
    let page := 0x100000 + n * 0x1000
    Ready s.dev i (.sysrd rd ra off) = true →
      (a = 0xFF2000 → sample (.sysrd i rd ra off dmg) ∧ sample (.srSampleLoRead i rd ra off)) ∧
      (a = 0xFF2004 → Goes (.sysrd i rd ra off dmg) s
        { s.dev.retire h (x.thr.setReg rd ((SMap.get none s.dev.latches key).getD hi)).next with
          latches := if (SMap.get none s.dev.latches key).isSome then SMap.put none s.dev.latches key none else s.dev.latches }) ∧
      (a = 0xFF2008 → reads (.sysrd i rd ra off dmg) (BitVec.ofNat 32 ((s.dev.now - x.startAt) * 2 / 5))) ∧
      (a = 0xFF200C → reads (.sysrd i rd ra off dmg) (BitVec.ofNat 32 (n * 65536 + h * 256 +
        (if s.dev.hstate h = stJoining then 2 else if s.dev.hstate h = stShadow then 1 else 0) * 2 + (if x.urgOn then 1 else 0)))) ∧
      (a = 0xFF2014 → reads (.sysrd i rd ra off dmg) (BitVec.ofNat 32 x.ckSamp)) ∧
      (a = 0xFF2018 → reads (.sysrd i rd ra off dmg) (BitVec.ofNat 32 (x.ckSamp / 2 ^ 32))) ∧
      (a = 0xFF201C → reads (.sysrd i rd ra off dmg) (BitVec.ofNat 32 x.rsync)) ∧
      (a = 0xFF2020 → reads (.sysrd i rd ra off dmg) (BitVec.ofNat 32 (x.rsync / 2 ^ 32))) ∧
      (a = 0xFF202C → ∃ f : Word, reads (.sysrd i rd ra off dmg) f ∧ getBits f 15 12 = x.tiOut % 16 ∧ getBits f 11 8 = 0 ∧
        (∀ t < 8, f.getLsbD (24 + t) = (x.ash t).any (·.done.isSome) ∧ f.getLsbD (16 + t) = (x.ash t).isSome) ∧
        (∀ t < 4, f.getLsbD (4 + t) = (x.oven t).any (·.done.isSome) ∧ f.getLsbD t = (x.oven t).isSome)) ∧
      (a = 0xFF2030 → reads (.sysrd i rd ra off dmg) (BitVec.ofNat 32 (64 - x.flq.length))) ∧
      (a = 0xFF2010 → reads (.sysrd i rd ra off dmg) (BitVec.ofNat 32 x.start)) ∧
      (a = 0xFF2028 → reads (.sysrd i rd ra off dmg) (BitVec.ofNat 32 ((if x.uovf then 256 else 0) + x.umbox.length))) ∧
      (a = 0xFF2034 → ∃ f : Word, reads (.sysrd i rd ra off dmg) f ∧ f.toNat < 32 ∧ f.getLsbD 4 = x.thr.s ∧
        f.getLsbD 3 = x.thr.n ∧ f.getLsbD 2 = x.thr.z ∧ f.getLsbD 1 = x.thr.c ∧ f.getLsbD 0 = x.thr.v) ∧
      (a = 0xFF2038 → reads (.sysrd i rd ra off dmg) (BitVec.ofNat 32 x.flbad)) ∧
      (a = 0xFF2024 → s.dev.captures = [] → (s.dev.lane n).prev[x.applied]? = none →
        reads (.sysrd i rd ra off dmg) 0 ∧ reads (.srApplyRead i rd ra off dmg) 0) ∧
      (∀ e, a = 0xFF2024 → (s.dev.lane n).prev[x.applied]? = some e → x.smp < e.2 →
        reads (.sysrd i rd ra off dmg) 0 ∧ reads (.srApplyRead i rd ra off dmg) 0) ∧
      (∀ e, a = 0xFF2024 → s.dev.captures = [] → (s.dev.lane n).prev[x.applied]? = some e → e.2 ≤ x.smp →
        let t := (d.updHearth h (fun y => { y with applied := y.applied + 1 })).thr h (fun t => t.setReg rd 1)
        Goes (.sysrd i rd ra off dmg) s t ∧ Goes (.srApplyRead i rd ra off dmg) s t) ∧
      (a = 0xFF2024 → s.dev.bound n = some h → d.acquiring n h = false → (s.dev.lane n).prev[x.applied]? = none → (∃ c ∈ s.dev.captures, c.page = page) →
        d.applyRestarts n = false →
        Goes (.sysrd i rd ra off dmg) s ((d.pageApply page dmg).thr h (fun t => t.setReg rd 1)) ∧
        Goes (.srApplyRead i rd ra off dmg) s ((d.pageApply page dmg).thr h (fun t => t.setReg rd 1))) ∧
      (a % 4 = 0 → isSr a = false → mayRead n a = true → x.urgOn = false →
        Goes (.sysrd i rd ra off dmg) s (s.dev.setHearth h { x with wait := some (.sysrd rd.toNat a) })) ∧
      (a % 4 = 0 → isSr a = false → mayRead n a = true → x.urgOn = true →
        Goes (.sysrd i rd ra off dmg) s (d.exception h 1 4 none))

/-- R231: syswr of a permitted register outside SR enters the posting buffer of four, or MAIN waits while it is full; of
SR_FLAGS it sets the flags, of SR_UMBOX it clears OVF where bit 8 is written 1. Nothing else changes. -/
def Claim.SyswrPostsItsWord : Prop :=
  ∀ (s : State) (i : Issue) (rs ra : BitVec 4) (off : BitVec 16),
    let h := i.hearth
    let x : Hearth := { s.dev.hearth h with lastRetire := s.dev.now }
    let n := (s.dev.laneOf h).getD 0
    let a := (x.thr.reg ra + off.signExtend 32).toNat
    let w := x.thr.reg rs
    Ready s.dev i (.syswr rs ra off) = true →
      (a % 4 = 0 → isSr a = false → mayWrite n a = true → x.posted.length < 4 → Goes (.syswr i rs ra off 0) s
        (s.dev.setHearth h (({ x with posted := x.posted ++ [(selfAddr n a, w)] } : Hearth).setThr x.thr.next))) ∧
      (a % 4 = 0 → isSr a = false → mayWrite n a = true → 4 ≤ x.posted.length → x.urgOn = false → Goes (.syswr i rs ra off 0) s
        (s.dev.setHearth h { x with wait := some (.syswr (selfAddr n a) w) })) ∧
      (a = 0xFF2034 → Retires (.syswr i rs ra off 0) s h (fun t u => u = { t with
        s := w.getLsbD 4, n := w.getLsbD 3, z := w.getLsbD 2, c := w.getLsbD 1, v := w.getLsbD 0, pc := t.pc + 4 })) ∧
      (a = 0xFF2028 → Goes (.syswr i rs ra off 0) s (s.dev.setHearth h
        (({ x with uovf := if w.getLsbD 8 then false else x.uovf } : Hearth).setThr x.thr.next)))

/-- R199, R207, R208, R230: a wait of MAIN ends when its condition holds, MAIN has the stoker, no urgent word waits and no page is due
to apply in it, with what its instruction then does. While URGENT has the stoker or a word for it waits, a queued transfer, a register
read, a posted write and a copy-out go on in the background, and their wait then only waits for MAIN; the others stay as they are. With a
word in the urgent mailbox URGENT takes the stoker at its entry, and its registers keep their values. -/
def Obligations.WaitsEndAndUrgentEnters : Prop :=
  ∀ (s : State) (h : Nat),
    let x := s.dev.hearth h
    let y : Hearth := { x with wait := none, lastRetire := s.dev.now }
    let d := s.dev.setHearth h y
    let ends := Goes (.waitSatisfied h) s
    let back := fun (e : Dev) (rd : Option Nat) (w : Word) => ends (e.updHearth h (fun z => { z with wait := some (.got rd w) }))
    let post := fun (e : Dev) (a : Nat) (v : Word) => e.updHearth h (fun z => { z with posted := z.posted ++ [(a, v)] })
    (x.running = true → x.urgOn = false → x.umbox = [] → s.dev.applyDue h = false →
      (∀ u, x.wait = some (.hwait u) → (x.unit u).queue = [] → (x.unit u).running = none →
        ends (s.dev.setHearth h (y.setThr y.thr.next))) ∧
      (∀ u c a imm, x.wait = some (.hput u c a imm) → (x.unit u).queue.length < 4 →
        ends (s.dev.setHearth h ((y.setUnit u { x.unit u with
          queue := (x.unit u).queue ++ [⟨c, a, imm, s.dev.now⟩], used := true }).setThr y.thr.next))) ∧
      (∀ rd a, x.wait = some (.tick rd a) → 0 ≤ (BitVec.ofNat 32 x.smp - a).toInt →
        ends (s.dev.setHearth h (({ y with lastTick := s.dev.now } : Hearth).setThr
          (y.thr.setReg (BitVec.ofNat 4 rd) (BitVec.ofNat 32 x.smp)).next))) ∧
      (∀ rd m, x.wait = some (.yield rd m) → (BitVec.ofNat 32 m = 0 ∨ x.pendingWord &&& BitVec.ofNat 32 m ≠ 0) →
        ends (s.dev.setHearth h (({ y with newSmp := false } : Hearth).setThr
          (y.thr.setReg (BitVec.ofNat 4 rd) x.pendingWord).next))) ∧
      (∀ rd t w, x.wait = some (.oawait rd t) → t.toNat < 4 → x.oven t.toNat = some { done := some w } →
        ends (s.dev.setHearth h ((y.setOven t.toNat none).setThr (y.thr.setReg (BitVec.ofNat 4 rd) w).next))) ∧
      (∀ rd t k w, x.wait = some (.aawait rd t) → t.toNat < 8 → x.ash t.toNat = some k → k.done = some w →
        ends (s.dev.setHearth h ((y.setAsh t.toNat none).setThr (y.thr.setReg (BitVec.ofNat 4 rd) w).next))) ∧
      (∀ rd a, x.wait = some (.sysrd rd a) →
        let r := (d.drainPosted h).sysRead h a
        ends (r.2.thr h (fun t => t.setReg (BitVec.ofNat 4 rd) r.1))) ∧
      (∀ a v p ps, x.wait = some (.syswr a v) → x.posted = p :: ps →
        ends ((post ((s.dev.setHearth h { y with posted := ps }).postedWrite h p.1 p.2) a v).thr h id)) ∧
      (∀ a, x.wait = some (.flput a) → x.flq.length < 64 →
        ends ((d.flputUnit h (Memory.readDesc x.dmem a.toNat)).thr h id)) ∧
      (∀ rd w, x.wait = some (.got (some rd) w) →
        ends (s.dev.setHearth h (y.setThr (y.thr.setReg (BitVec.ofNat 4 rd) w).next))) ∧
      (∀ w, x.wait = some (.got none w) → ends (s.dev.setHearth h (y.setThr y.thr.next)))) ∧
    (x.running = true → x.urgOn = true ∨ x.umbox ≠ [] →
      (∀ u c a imm, x.wait = some (.hput u c a imm) → (x.unit u).queue.length < 4 →
        back (s.dev.setHearth h (x.setUnit u { x.unit u with
          queue := (x.unit u).queue ++ [⟨c, a, imm, s.dev.now⟩], used := true })) none 0) ∧
      (∀ rd a, x.wait = some (.sysrd rd a) →
        let r := (s.dev.drainPosted h).sysRead h a
        back r.2 (some rd) r.1) ∧
      (∀ a v p ps, x.wait = some (.syswr a v) → x.posted = p :: ps →
        back (post ((s.dev.setHearth h { x with posted := ps }).postedWrite h p.1 p.2) a v) none 0) ∧
      (∀ a, x.wait = some (.flput a) → x.flq.length < 64 →
        back (s.dev.flputUnit h (Memory.readDesc x.dmem a.toNat)) none 0) ∧
      ((∃ u rd t m a w k, x.wait = some (.hwait u) ∨ x.wait = some (.oawait rd t) ∨ x.wait = some (.aawait rd t) ∨
        x.wait = some (.tick rd a) ∨ x.wait = some (.yield rd m) ∨ x.wait = some (.got k w)) → ends s.dev)) ∧
    (x.running = true → x.urgOn = false → x.umbox = [] → s.dev.applyDue h = true → ends s.dev) ∧
    (x.running = false ∨ x.wait = none → ends s.dev) ∧
    (x.running = true → x.urgOn = false → x.umbox ≠ [] → Goes (.urgentEntry h) s (s.dev.setHearth h
      { x with urgOn := true, urg := { x.urg with pc := BitVec.ofNat 14 x.entUrg }, lastRetire := s.dev.now })) ∧
    (x.running = false ∨ x.urgOn = true ∨ x.umbox = [] → Goes (.urgentEntry h) s s.dev)

/-! ## The hob (R212 to R214, R163) -/

/-- R212, R213: the command at the head of an idle unit starts. Where its arguments are valid it runs with its descriptor; where not, it
completes at once with its error code, HERR set, and does nothing else. Of two faults the value out of range is reported before the
line range, and that before the missing load (the model's reading). INPUT takes what its FIFO holds; a TI transfer takes one of six
slots for each 4,096 bytes, as far as the hearth's eight outstanding requests allow (log 97), and starts only while fewer than 8
are. -/
def Claim.HobCommandsStartOrFail : Prop :=
  ∀ (s : State) (h : Nat),
    let x := s.dev.hearth h
    let lines := fun (line bytes : Nat) => line * 64 + (bytes + 63) / 64 * 64 ≤ 6144 * 64
    let R := fun (c : Instr) (u cmd : Nat) (desc : Bool) (range line seq : HobCmd → Desc → Prop) =>
      ∀ (k : HobCmd) (rest : List HobCmd), (x.unit u).queue = k :: rest → (x.unit u).running = none → k.cmd = cmd →
        (u = 6 → cmd ≠ 0 → x.ashOut < 8) →
        let q := x.unit u
        let k4 := fun j => if desc then x.dmem.readWord (k.arg.toNat + j) else 0
        let dd : Desc := ⟨k4 0, k4 4, k4 8, k4 12⟩
        let err := fun (n : Nat) => Goes c s (s.dev.setHearth h (x.setUnit u
          { q with queue := rest, done := (q.done + 1) % 256, err := n, herr := true }))
        let run := s.dev.setHearth h (x.setUnit u { q with queue := rest, running := some ⟨k, dd, s.dev.now, [], false⟩ })
        (range k dd → line k dd → seq k dd → Goes c s (if u = 0 then run.refill h
          else if u = 6 ∧ cmd ≠ 0 then run.updHearth h (fun z => { z with tiOut := min (min ((4 * getBits dd.d0 31 16 + 4095) / 4096) 6) (8 - x.ashOut) }) else run)) ∧
        (¬range k dd → err 1) ∧ (range k dd → ¬line k dd → err 2) ∧ (range k dd → line k dd → ¬seq k dd → err 3)
    let T := fun (_ : HobCmd) (_ : Desc) => True
    let n := fun (d : Desc) => getBits d.d0 31 16
    let src := fun (d : Desc) => d.d1.toNat
    let dst := fun (d : Desc) => d.d2.toNat
    let aux := fun (d : Desc) => d.d3.toNat
    let cells := fun (d : Desc) => if n d = 0 then 65536 else n d
    let points := fun (d : Desc) => 2 ^ getBits d.d0 11 8
    let ratio := fun (k : HobCmd) => k.arg.toNat % 2 ^ 16 * 2 ^ 32 + x.ratioLo.toNat
    R (.capture h .clean) 0 0 true (fun _ d => 1 ≤ n d) (fun _ d => lines (dst d) (4 * n d) ∧ lines (aux d) ((n d + 7) / 8)) T ∧
    R (.skip h) 0 1 false T T T ∧ R (.setf h) 1 0 false T T T ∧ R (.setph h) 1 1 false T T T ∧ R (.addf h) 1 2 false T T T ∧
    R (.setrlo h) 2 0 false T T T ∧
    R (.setrhi h) 2 1 false (fun k _ => 2 ^ 46 ≤ ratio k ∧ ratio k ≤ 2 ^ 47) T T ∧ R (.resampReset h) 2 2 false T T T ∧
    R (.fftRun h .clean) 3 0 true (fun _ d => 6 ≤ getBits d.d0 11 8)
      (fun _ d => lines (src d) (4 * points d) ∧ lines (dst d) (4 * points d)) T ∧
    R (.loadpat h .clean) 4 0 true (fun _ d => 1 ≤ n d ∧ n d ≤ 32768) (fun _ d => src d < 6144) T ∧
    R (.runmc h .clean) 4 1 true (fun _ d => getBits d.d3 1 0 ≤ 1 ∧ 1 ≤ getBits d.d3 4 2 ∧ getBits d.d3 4 2 ≤ 4)
      (fun _ d => lines (src d) (4 * n d) ∧ lines (dst d) (4 * n d)) (fun _ _ => x.patLoaded = true) ∧
    R (.runsc h .clean) 4 2 true T (fun _ d => lines (src d) (4 * n d) ∧ lines (dst d) (4 * n d)) T ∧
    R (.loadcon h .clean) 5 0 true (fun _ d => 1 ≤ n d ∧ n d ≤ 4096) (fun _ d => lines (src d) (4 * n d)) T ∧
    R (.demapRun h .clean) 5 1 true T (fun _ d => lines (src d) (4 * n d) ∧ lines (dst d) (n d * x.llrs)) (fun _ _ => x.conLoaded = true) ∧
    R (.deintRun h .clean) 6 0 true (fun _ d => getBits d.d0 1 0 ≤ 2)
      (fun _ d => lines (src d) (4 * cells d) ∧ lines (dst d) (4 * cells d) ∧ aux d < 6144) T ∧
    R (.tiwr h .clean) 6 1 true T (fun _ d => lines (src d) (4 * n d)) T ∧
    R (.tird h .clean) 6 2 true T (fun _ d => lines (dst d) (4 * n d)) T ∧
    R (.watch h .clean) 7 0 true (fun _ d => getBits d.d3 5 0 < 16 ∧ getBits d.d0 3 0 < 9) (fun _ d => src d < 6144) T ∧
    R (.unwatch h) 7 1 false T T T ∧
    R (.todm h .clean) 8 0 true (fun _ d => n d % 4 = 0 ∧ n d ≤ 4096 ∧ dst d % 4 = 0 ∧ dst d + n d ≤ 0x8000)
      (fun _ d => lines (src d) (n d)) T ∧
    R (.fromdm h .clean) 8 1 true (fun _ d => n d % 4 = 0 ∧ n d ≤ 4096 ∧ src d % 4 = 0 ∧ src d + n d ≤ 0x8000)
      (fun _ d => lines (dst d) (n d)) T

/-- R212: a command completes with its effect and result words, its unit counts it and goes idle, the watches on the unit look at their
words, and INPUT then takes more of a replay. A TI transfer with an error response ends with TIFAIL; one whose ashpit is held, or that
a reset of it has lost, does not complete (R294). The derotator's phase moves on with the samples (R151). Where the manual does not
give the bytes a unit computes, where they lie is stated. -/
def Obligations.HobCommandsCompleteWithTheirEffect : Prop :=
  ∀ (s : State) (h u : Nat) (chk : Bool) (r : HobRun) (i : Nat) (sm : SetMem),
    let x := s.dev.hearth h
    let q := x.unit u
    let k := r.cmd
    let n := getBits r.desc.d0 31 16
    let src := r.desc.d1.toNat
    let dst := r.desc.d2.toNat
    let aux := r.desc.d3.toNat
    let fin := fun (d : Dev) =>
      let e := (List.range 4).foldl (fun d i => d.runWatch h u i) d
      if u = 0 then e.refill h else e
    let unit := fun (sels : SMap Word) => ({ q with running := none, done := (q.done + 1) % 256, results := sels } : HobUnit)
    let ends := fun (y : Hearth) (sels : SMap Word) =>
      Goes (.hobCommandDone h u .clean chk {}) s (fin (s.dev.setHearth h (y.setUnit u (unit sels))))
    let is := fun (unit cmd : Nat) => u = unit ∧ k.cmd = cmd
    let ratio := k.arg.toNat % 2 ^ 16 * 2 ^ 32 + x.ratioLo.toNat
    let wput := fun (y : Option Watch) => SMap.put none x.watches (k.imm % 4) y
    let w : Watch := { line := src, off := getBits r.desc.d3 5 0, mask := r.desc.d2, unit := getBits r.desc.d0 3 0,
                       every := r.desc.d0.getLsbD 4, last := 0 }
    let put := SMap.put (0 : Word) q.results
    let out := fun (sel : Option Word) (len : Nat) => ∃ y, Goes (.hobCommandDone h u .clean false {}) s y ∧
      (∀ a, a < dst * 64 ∨ dst * 64 + len ≤ a → (y.hearth h).hob.read a = x.hob.read a) ∧ (y.hearth h).dmem = x.dmem ∧
      ((y.hearth h).unit u).running = none ∧ ((y.hearth h).unit u).done = (q.done + 1) % 256 ∧
      (∀ v, sel = some v → SMap.get 0 ((y.hearth h).unit u).results 1 = v) ∧ (∀ g, g ≠ h → y.hearth g = s.dev.hearth g)
    let open7 := s.dev.held 7 = false ∧ r.lost = false
    q.running = some r →
      (is 0 0 → r.wants = 0 → r.desc.d0.getLsbD 0 = false → ends { x with
          hob := (x.hob.writeList (dst * 64) (cellBytes r.taken)).writeList (aux * 64) (markBytes r.taken), lost := 0 }
        (SMap.put 0 (SMap.put 0 (put 1 (lo32 ((r.taken.head?.map (·.m)).getD 0)))
          2 (BitVec.ofNat 32 (r.taken.filter (·.mark)).length)) 3 (BitVec.ofNat 32 x.lost))) ∧
      (is 0 0 → r.wants = 0 → r.desc.d0.getLsbD 0 = true → ∃ y, Goes (.hobCommandDone h u .clean false {}) s y ∧
        (y.hearth h).phase = x.phase + BitVec.ofNat 32 r.taken.length * x.freq ∧ (y.hearth h).lost = 0 ∧
        ((y.hearth h).unit u).running = none ∧ ((y.hearth h).unit u).done = (q.done + 1) % 256 ∧
        ∀ g, g ≠ h → y.hearth g = s.dev.hearth g) ∧
      (is 0 1 → r.wants = 0 → ends x q.results) ∧
      (is 1 0 → ends { x with freq := k.arg } q.results) ∧
      (is 1 1 → ends { x with phase := BitVec.ofNat 32 (k.imm * 2 ^ 20) } q.results) ∧
      (is 1 2 → ends { x with freq := x.freq + k.arg } (put 1 (x.freq + k.arg))) ∧
      (is 2 0 → ends { x with ratioLo := k.arg } q.results) ∧
      (is 2 1 → ends { x with ratio := ratio } (put 1 (BitVec.ofNat 32 (ratio / 2 ^ 16)))) ∧
      (is 2 2 → ends { x with interp := 0 } q.results) ∧
      (is 3 0 → out none (4 * 2 ^ getBits r.desc.d0 11 8)) ∧
      (is 4 0 → ends { x with patLoaded := true } q.results) ∧
      (is 4 1 → out none (4 * n)) ∧ (is 4 2 → out none (4 * n)) ∧
      (∀ b, b ≤ 12 → n ≤ 2 ^ b → (∀ c, c < b → 2 ^ c < n) → is 5 0 →
        ends { x with conLoaded := true, llrs := b * (if r.desc.d0.getLsbD 0 then 1 else 2) } q.results) ∧
      (is 5 1 → out (some (BitVec.ofNat 32 n)) (n * x.llrs)) ∧
      (is 6 0 → out none (4 * if n = 0 then 65536 else n)) ∧
      (open7 → s.dev.wrapped 7 = false → x.set = some i → s.dev.setMem i = some sm → aux + 4 * n ≤ sm.tiNeed * 1024 →
        (is 6 1 → Goes (.hobCommandDone h u .clean chk {}) s (fin
          ((s.dev.putSet i (some { sm with mem := sm.mem.writeList (0x10000 + aux) (x.hob.readList (src * 64) (4 * n)) })).setHearth h
            (({ x with tiOut := 0 } : Hearth).setUnit u (unit q.results))))) ∧
        (is 6 2 → ends { x with hob := x.hob.writeList (dst * 64) (sm.mem.readList (0x10000 + aux) (4 * n)), tiOut := 0 }
          q.results)) ∧
      (is 6 1 ∨ is 6 2 → open7 → Goes (.hobCommandDone h u .clean chk { err := true }) s (fin (s.dev.setHearth h
        (({ x with tiOut := 0 } : Hearth).setUnit u { unit q.results with err := 4, herr := true })))) ∧
      (is 6 1 ∨ is 6 2 → r.lost = true ∨ s.dev.held 7 = true ∧ s.dev.wrapped 7 = false →
        Goes (.hobCommandDone h u .clean chk {}) s s.dev) ∧
      (is 7 0 → ends { x with watches := wput (some { w with last := x.hob.readWord (src * 64 + w.off * 4) &&& w.mask }) } q.results) ∧
      (is 7 1 → ends { x with watches := wput none } q.results) ∧
      (is 8 0 → ends { x with dmem := x.dmem.writeList dst (x.hob.readList (src * 64) n) } q.results) ∧
      (is 8 1 → ends { x with hob := x.hob.writeList (dst * 64) (x.dmem.readList src n) } q.results)

/-- R163, cause 6: a command that has run for twice its stated time declares its hearth failed from the command's issue on; before, nothing
changes. -/
def Claim.HobTimeoutFailsTheHearth : Prop :=
  ∀ (s : State) (h u : Nat) (r : HobRun), ((s.dev.hearth h).unit u).running = some r →
    let due := r.started + 2 * s.dev.statedNs h u r
    (due ≤ s.dev.now → Goes (.hobCommandTimeout h u) s
      (s.dev.declareFail h 6 r.cmd.issued (s.dev.devtime - (s.dev.now - r.cmd.issued)))) ∧
    (s.dev.now < due → Goes (.hobCommandTimeout h u) s s.dev)

/-- R214, R212: a live hearth's INPUT takes what its FIFO holds, in order, up to what its command still wants; a sample that finds the
FIFO full is lost and counted. -/
def Claim.InputFifoServesItsCommand : Prop :=
  ∀ (d : Dev) (h n : Nat) (r : HobRun) (ss : List Sample),
    let x := d.hearth h
    d.laneOf h = some n → x.replay = none → (x.unit 0).running = some r →
      let k := min r.wants x.fifo.length
      let y := (d.refill h).hearth h
      ((y.unit 0).running = some { r with taken := r.taken ++ x.fifo.take k } ∧ y.fifo = x.fifo.drop k ∧
       (∀ g, g ≠ h → (d.refill h).hearth g = d.hearth g) ∧ KeepsRegs [] d (d.refill h)) ∧
      (∀ z : Hearth, z.fifo.length ≤ 1024 → (z.arrive ss).fifo.length ≤ 1024 ∧
        (z.arrive ss).fifo.length + (z.arrive ss).lost = z.fifo.length + z.lost + ss.length)

/-! ## Ovens and ashpit requests (R159 to R162, R216, R218 to R220, R302) -/

/-- R216, R159, R162: a finished request is returned with status, iterations and corrected bits, its oven is free again and counts it, and
the scheduler runs. A source error returns SRCERR. A check disagreement returns FAILED, but the third within a second retires the oven
and re-issues the request. A double-bit error in the oven, or a request that runs for twice its limit, retires the oven. A request whose deadline sample reached the hob input before it started is returned LATE, counted and raised. -/
def Claim.OvenRequestsEnd : Prop :=
  ∀ (s : State) (k : Nat) (q : OReq) (ok : Bool) (iters corrected n : Nat),
    let d := s.dev
    let w := BitVec.ofNat 32 ((if ok then 0 else 1) * 2 ^ 24 + iters % 256 * 2 ^ 16 + min corrected 65535)
    let back := fun (d : Dev) (w : Word) => d.updHearth q.hearth (fun x => x.setOven q.ticket (some { done := some w }))
    let bytes := (List.range (min n (if q.toHob then 393216 - q.dst * 64 else 0x8000 - q.dst))).map (fun i => Config.freeByte (d.free + i))
    let put := fun (x : Hearth) => if q.toHob then { x with hob := x.hob.writeList (q.dst * 64) bytes }
      else { x with dmem := x.dmem.writeList q.dst bytes }
    let written := ({ d with free := d.free + min n (if q.toHob then 393216 - q.dst * 64 else 0x8000 - q.dst) } : Dev).updHearth q.hearth put
    let late := fun (d : Dev) => (((back d 0x02000000).incWordSat Reg.OVN_LATE 1).raise (Reg.LANE_STAT q.lane) 13).raise Reg.OVN_EVT 2
    let whole := d.chimney.failed.contains (.oven k) = false
    let checks := (d.now :: (SMap.get [] d.pool.checks k).filter (fun t => decide (d.now < t + 1000000000))).length
    (SMap.get none d.pool.busy k = some q → q.dropped = false → whole →
      Goes (.ovenRequestDone k ⟨.decoded ok iters corrected n false, {}⟩) s
        (((back written w).incMod (Reg.OVN_OSTAT_REQS k) 1).ovenFree k).scheduleAll ∧
      (3 ≤ checks → Goes (.ovenRequestDone k ⟨.decoded ok iters corrected n true, {}⟩) s (d.retireOven k 3)) ∧
      (checks < 3 → Goes (.ovenRequestDone k ⟨.decoded ok iters corrected n true, {}⟩) s
        ((((back written (BitVec.ofNat 32 (2 ^ 24 + iters % 256 * 2 ^ 16 + min corrected 65535))).incMod (Reg.OVN_OSTAT_REQS k) 1).ovenFree k).ovenDisagree
          k).scheduleAll) ∧
      Goes (.ovenRequestDone k ⟨.srcErr, {}⟩) s (((back d 0x03000000).incMod (Reg.OVN_OSTAT_REQS k) 1).ovenFree k).scheduleAll) ∧
    (SMap.get none d.pool.busy k = some q → whole →
      Goes (.ovenRequestDone k ⟨.memFault, {}⟩) s (d.retireOven k 1) ∧ Goes (.ovenOverrunTimeout k) s (d.retireOven k 2)) ∧
    (q ∈ d.pool.ldpc ++ d.pool.trellis → q.dropped = false →
      (∀ r ∈ d.pool.ldpc ++ d.pool.trellis, r.hearth = q.hearth → r.ticket = q.ticket → r.dropped = false → r = q) →
      (q.deadline ≤ (d.hearth q.hearth).smp → Goes (.ovenDeadlineLate q.hearth q.ticket) s
        (late { d with pool := { d.pool with ldpc := d.pool.ldpc.erase q, trellis := d.pool.trellis.erase q } })) ∧
      ((d.hearth q.hearth).smp < q.deadline → Goes (.ovenDeadlineLate q.hearth q.ticket) s d))

/-- R162: an oven declared failed reads RETIRED with its cause, serves nothing, and its request goes ahead of all others of its
kind as long as no oven can take it. -/
def Claim.RetiredOvenReissuesItsRequest : Prop :=
  ∀ (d : Dev) (k cause : Nat) (q : OReq), k < 16 → cause < 8 → SMap.get none d.pool.busy k = some q → q.dropped = false →
    (∀ j < 16, j ≠ k → d.get (Reg.OVN_OSTAT_STATE j) ≠ 1 ∧ d.get (Reg.OVN_OSTAT_STATE j) ≠ 3) →
    let t := d.retireOven k cause
    t.get (Reg.OVN_OSTAT_STATE k) = 4 ∧ t.get (Reg.OVN_OSTAT_CAUSE k) = cause ∧ SMap.get none t.pool.busy k = none ∧
    t.pool.ldpc = { q with reissued := true } :: d.pool.ldpc

/-- R159: the scheduler serves a re-issued request first, then the oldest that has waited for AGE µs, and serves nothing while every
oven of the kind is busy or out of service. -/
def Claim.SchedulerOrder : Prop :=
  ∀ (now age last : Nat) (q : List OReq) (r : OReq),
    (q.find? (·.reissued) = some r → nextReq now age last q = some r) ∧
    ((∀ x ∈ q, x.reissued = false) → (∃ x ∈ q, x.at_ + age * 1000 ≤ now) → nextReq now age last q = some r →
      q.find? (fun x => decide (x.at_ + age * 1000 ≤ now)) = some r) ∧
    (q ≠ [] → ∃ x ∈ q, nextReq now age last q = some x) ∧
    (∀ x y, x ∈ q → (∀ z ∈ q, z.reissued = false ∧ now < z.at_ + age * 1000) → nextReq now age last q = some y →
      (y.key + 512 - last) % 512 ≤ (x.key + 512 - last) % 512)

/-- R218 to R220, R318: a request whose turn has come ends with BADDESC for a bad descriptor, BOUNDS for a range that leaves its target,
PROTECT for a write to the slot of the valid checkpoint, ERROR for an error response, and then moves nothing; else it moves its bytes
and ends OK. The status goes to its ticket while the program runs, and is dropped otherwise. Before its turn, and after it has been
lost in a reset of the ashpit (R294), it does not complete. -/
def Obligations.AshpitRequestsMoveOrFail : Prop :=
  ∀ (s : State) (h t : Nat) (k : ATicket) (c : Ecc) (r : AshPlace) (err : Bool) (i : Nat) (sm : SetMem),
    let x := k.desc
    let cls := if getBits x.d1 31 28 = 3 then 2 else 0
    let d := s.dev.ashSpend cls
    let y := s.dev.hearth h
    let ends := fun (e : Bool) (d : Dev) (st : Nat) => Goes (.ashpitRequestDone h t .clean {} e) s (d.updHearth h (fun z => z.setAsh t
      (if z.running then some { k with done := some (BitVec.ofNat 32 (st * 2 ^ 24)) } else none)))
    let len := getBits x.d0 15 0
    let off := getBits x.d1 27 0
    let loc := x.d2.toNat
    y.ash t = some k → k.done = none →
      (k.lost = true → Goes (.ashpitRequestDone h t c r err) s s.dev) ∧
      (s.dev.held 7 = true → s.dev.wrapped 7 = false → Goes (.ashpitRequestDone h t c r err) s s.dev) ∧
      (s.dev.ashTurn cls k.at_ = false → s.dev.wrapped 7 = false → Goes (.ashpitRequestDone h t c r err) s s.dev) ∧
      (k.lost = false → s.dev.held 7 = false → s.dev.wrapped 7 = false → s.dev.ashTurn cls k.at_ = true →
        s.dev.chimney.failed.contains (.ash h t) = false →
        (x.aOk = false → ends err d 4) ∧
        (x.aOk = true → 4 ≤ getBits x.d1 31 28 → ends err d 2) ∧
        (x.aOk = true → getBits x.d1 31 28 = 0 → y.set = some i → d.setMem i = some sm →
          (sm.tiNeed * 1024 < off + len → ends err d 2) ∧
          (off + len ≤ sm.tiNeed * 1024 → ends true d 6) ∧
          (off + len ≤ sm.tiNeed * 1024 → x.d0.getLsbD 31 = false → x.d0.getLsbD 30 = false → y.running = true →
            ends false (d.updHearth h (fun z => { z with dmem := z.dmem.writeList loc (sm.mem.readList (0x10000 + off) len) })) 0) ∧
          (off + len ≤ sm.tiNeed * 1024 → x.d0.getLsbD 31 = true → x.d0.getLsbD 30 = false →
            ends false (d.putSet i (some { sm with mem := sm.mem.writeList (0x10000 + off) (y.dmem.readList loc len) })) 0)) ∧
        (x.aOk = true → getBits x.d1 31 28 = 1 → y.set = some i → d.setMem i = some sm → off + len ≤ 0x8000 →
          x.d0.getLsbD 31 = true → sm.valid = some 0 → ends err d 3))

/-! ## Register access by the host (R4, R12 to R14, R57, R70, R73 to R76, R83, R130) -/

/-- The commands of the register map reach it for the initiator: its link or port is up and the map is open (R37, R72, R472), and the
access meets no error that the PCIe port logs (R83). -/
def mapOpen (d : Dev) (who : Initiator) (a : Nat) (x : WriteCtx) : Bool :=
  d.reaches who && inBar who a && decide (a < 0x800000) && decide (a % 4 = 0) && x.aer == 0

/-- R4, R13, R14, R73, R74: what a register write does not do. To an address without a register it does nothing, to an absent unit's nothing
but that a command completes there with ABSENT (0xFE); to a register with privileged fields, by an unprivileged initiator, it is discarded, logged and raised as PRV; a partial
write is discarded, logged and raised as ALIGN. The place of the fields in the log words is the model's reading of R511. -/
def Claim.RefusedRegisterWritesOnlyLeaveALog : Prop :=
  ∀ (s : State) (who : Initiator) (a : Nat) (w : Word) (be : BitVec 4) (x : WriteCtx),
    let d := s.dev
    let src := fun n => sourceOf who = n
    let detail := 2 ^ 31 + a % 2 ^ 26
    let absent := fun (st : Nat) => Goes (.registerWrite who a w 15 x) s
      (d.wr st (BitVec.ofNat 32 (getBits w 31 24 * 2 ^ 24 + 0xFE * 2 ^ 16 + getBits w 15 8 * 2 ^ 8)))
    mapOpen d who a x = true →
      (d.part.has a = true → lookupReg a = none → Goes (.registerWrite who a w 15 x) s d) ∧
      (d.part.has a = false →
        (0x100000 ≤ a → a < 0x160000 → a % 0x1000 = 0x18 → absent (a + 4)) ∧
        (a = Reg.AUX_CMD 2 → absent (Reg.AUX_CMDSTAT 2)) ∧ (a = Reg.SMK_TXCMD → absent Reg.SMK_TXSTAT) ∧
        (¬(0x100000 ≤ a ∧ a < 0x160000 ∧ a % 0x1000 = 0x18) → a ≠ Reg.AUX_CMD 2 → a ≠ Reg.SMK_TXCMD →
          Goes (.registerWrite who a w 15 x) s d)) ∧
      (∀ r, d.part.has a = true → lookupReg a = some r → r.prv ≠ 0 → who = .bar0 ∨ who = .spi false →
        Goes (.registerWrite who a w 15 x) s ((d.sootE 1 (sourceOf who) 0xC001 detail).raise Reg.SYS_EVT 3)) ∧
      (be ≠ 15 → byteWritable a = false →
        Goes (.registerWrite who a w be x) s ((d.sootE 1 (sourceOf who) 0xC002 detail).raise Reg.SYS_EVT 4)) ∧
      (who = .bar0 → src 0x21) ∧ (who = .bar2 → src 0x22) ∧ (who = .spi false → src 0x23) ∧ (who = .mantel → src 0x20)

/-- R12, R57, R68: a whole-word write to a register without an effect of its own. Its RW fields take the written bits at once; its
RWB fields change in the shadow alone, PEND of the page is set, and what already waits on the page is marked as followed; every
other register keeps its value. -/
def Claim.PlainRegisterWriteStores : Prop :=
  ∀ (s : State) (who : Initiator) (a : Nat) (w : Word) (x : WriteCtx) (r : Reg),
    let d := s.dev
    let p := a / 0x1000 * 0x1000
    mapOpen d who a x = true → d.part.has a = true → lookupReg a = some r → (r.prv = 0 ∨ privileged who = true) → r.isSqc = false →
    d.closedAt a = false → d.immed (blockOf a) = false → enVector a = none → a ≠ p + 0xFFC → d.smoke.embOld = [] →
    (∀ m, d.hookSys a m w x = none) → d.hookBlock a w x = none → d.hookOther a w x = none →
    Completes (.registerWrite who a w 15 x) s (fun d t =>
      t.rd a = mergeMask r.rwMask (d.rd a) w ∧
      (r.rwb = 0 → KeepsRegs [a] d t ∧ t.shadow = d.shadow ∧ t.captures = d.captures) ∧
      (r.rwb ≠ 0 → t.sh a = mergeMask (rwbMask a) (d.sh a) w ∧ (∀ b, b ≠ a → t.sh b = d.sh b) ∧ KeepsRegs [a, p + 0xFFC] d t ∧
        (t.rd (p + 0xFFC)).getLsbD 31 = true ∧
        t.captures = d.captures.map (fun c => if c.page = p then { c with late := true } else c)) ∧
      t = { d with regs := t.regs, shadow := t.shadow, captures := t.captures })

/-- R70: a write to a sequence-cleared register clears the event bits written 1 when the written SEQ is the current one, and does
nothing otherwise; it changes no other register. -/
def Claim.SqcClearNeedsTheSequence : Prop :=
  ∀ (s : State) (who : Initiator) (a : Nat) (w : Word) (x : WriteCtx) (r : Reg),
    let d := s.dev
    mapOpen d who a x = true → d.part.has a = true → lookupReg a = some r → r.isSqc = true → r.prv = 0 →
    d.closedAt a = false → d.heldAt a = false →
    (getBits w 31 24 ≠ getBits (d.rd a) 31 24 → Goes (.sqcClear who a w x) s d) ∧
    (getBits w 31 24 = getBits (d.rd a) 31 24 → Completes (.sqcClear who a w x) s (fun d t =>
      (∀ b < 24, (t.rd a).getLsbD b = ((d.rd a).getLsbD b && !w.getLsbD b)) ∧ getBits (t.rd a) 31 24 = getBits (d.rd a) 31 24 ∧
      KeepsRegs [a] d t ∧ t = { d with regs := t.regs, pcie := t.pcie }))

/-- R75, R76: a write of a bit alias changes one bit by the type of the field it lies in. An RO, reserved or SQC field ignores it; a
RW field of a register without an effect of its own takes the bit at once; a buffered field takes it in the shadow. -/
def Claim.BitAliasChangesOneBit : Prop :=
  ∀ (s : State) (who : Initiator) (al : Nat) (w : Word) (x : WriteCtx) (r : Reg),
    let d := s.dev
    let a := (al - 0x2000000) / 128 * 4
    let b := (al - 0x2000000) / 4 % 32
    0x2000000 ≤ al → al < 0x2800000 → al % 4 = 0 → who ≠ .bar2 → x.aer = 0 → d.reaches who = true → d.part.has a = true → lookupReg a = some r →
    (r.fieldAt b = none → Goes (.bitAliasWrite who al w x) s d) ∧
    (∀ f, r.fieldAt b = some f → (f.prv = false ∨ privileged who = true) →
      (f.acc = .ro ∨ f.acc = .sqc → Goes (.bitAliasWrite who al w x) s d) ∧
      (f.acc = .rw → d.closedAt a = false → enVector a = none → (∀ m v, d.hookSys a m v x = none) → (∀ v, d.hookBlock a v x = none) →
        (∀ v, d.hookOther a v x = none) → Completes (.bitAliasWrite who al w x) s (fun d t =>
          (t.rd a).getLsbD b = w.getLsbD 0 ∧ (∀ k < 32, k ≠ b → (t.rd a).getLsbD k = (d.rd a).getLsbD k) ∧ KeepsRegs [a] d t ∧
          t = { d with regs := t.regs })) ∧
      (f.acc = .rwb → d.closedAt a = false → d.immed (blockOf a) = false → Completes (.bitAliasWrite who al w x) s (fun d t =>
          (t.sh a).getLsbD b = w.getLsbD 0 ∧ (∀ k < 32, k ≠ b → (t.sh a).getLsbD k = (d.sh a).getLsbD k) ∧
          (∀ c, c ≠ a → t.sh c = d.sh c) ∧ KeepsRegs [a / 0x1000 * 0x1000 + 0xFFC] d t))) ∧
    (∀ f, r.fieldAt b = some f → f.prv = true → privileged who = false → Goes (.bitAliasWrite who al w x) s
      ((d.sootE 1 (sourceOf who) 0xC001 (2 ^ 31 + al % 2 ^ 26)).raise Reg.SYS_EVT 3))

/-- R83, R130: a read of SYS_TIME_LO answers DEVTIME [31:0], of GRT_SCOUNT_LO the root sample index [31:0], and latches [63:32]
for the next read of the HI register by the same port; nothing else changes. R41: a read of BAR0 reads the MSI-X table. -/
def Claim.TimeReadsLatchTheHighHalf : Prop :=
  ∀ (s : State) (who : Initiator) (a : Nat),
    let d := s.dev
    let reads := fun (lo n : Nat) => ({ d with
      latches := SMap.put none d.latches (latchKey who (lo + 4)) (some (BitVec.ofNat 32 (n / 2 ^ 32))),
      out := .reply who lo (BitVec.ofNat 32 n) false :: d.out } : Dev)
    let k := (a - 0x3FF0000) / 4
    (d.pcieUp = true → 0x3FF0000 ≤ a → a < 0x3FF0200 →
      Goes (.sysTimeLoRead ⟨.bar0, a⟩) s (d.emit (.reply .bar0 a (SMap.get (if k % 4 = 3 then 1 else 0) d.pcie.table k) false))) ∧
    (d.reaches who = true →
      Goes (.sysTimeLoRead ⟨who, Reg.SYS_TIME_LO⟩) s (reads Reg.SYS_TIME_LO d.devtime) ∧
      (d.held 3 = false → d.rst.isolating = [] → Goes (.grtScountLoRead who) s (reads Reg.GRT_SCOUNT_LO d.scount)))

/-! ## The host port (R37, R44 to R53, R79, R82, R473) -/

/-- R45 to R51: SPI transactions of the port that is served, register space open, CRC off. A write's word enters the buffer and
drains in order; a read answers its words, each after its wait phase of 0xF nibbles and the token 0x0; STAT answers the status word
and counts nothing; a misaligned write is discarded, logged and raised; an unknown opcode is counted. Every other ends by counting
itself with its outcome. -/
def Claim.SpiTransactionsRun : Prop :=
  ∀ (s : State) (p : Bool) (addr : BitVec 32) (v : BitVec 32) (c16 : BitVec 16) (k op wait : Nat) (waits : List Nat) (ecc : Ecc)
      (x : WriteCtx),
    let d := s.dev
    let ends := fun (d : Dev) (err : Nat) => ({ d with spi := { d.spi with lastErr := err, txCount := (d.spi.txCount + 1) % 256 } } : Dev)
    let one : List SpiWord := [⟨v, c16, k⟩]
    let queued := Dev.spiFlow x 64 0 { d with spi := { d.spi with buffer := [(addr.toNat, v, p)] } }
    let reads := fun head => Dev.spiReads p false ecc waits.length addr.toNat (d.spiWaits waits) head d
    let shut := fun c => Goes c s (ends d 5)
    let nibs := fun (w : Word) => [byteOf w 0, byteOf w 1, byteOf w 2, byteOf w 3].flatMap (fun b => [b.extractLsb' 4 4, b.extractLsb' 0 4])
    let phase : List (BitVec 4) := List.replicate (d.get Reg.SYS_SPICFG_DUMMY + wait) 15 ++ [0]
    d.spiServed = true → d.spi.buffer = [] →
      (d.open_ = true → d.is Reg.SYS_SPICFG_CRC = false →
        (addr.toNat % 4 = 0 → Goes (.wr p addr one .whole x) s (ends queued 0) ∧ Goes (.wr1 p addr one .whole x) s (ends queued 0)) ∧
        (addr.toNat % 4 ≠ 0 →
          let t := ends ((d.sootE 1 0x23 0xC002 (2 ^ 31 + addr.toNat % 2 ^ 26)).raise Reg.SYS_EVT 4) 3
          Goes (.wr p addr one .whole x) s t ∧ Goes (.wr1 p addr one .whole x) s t) ∧
        (∃ head, Goes (.rd p addr waits .whole ecc x) s (ends ((reads head).2.emit (.spi (reads head).1)) 0)) ∧
        (∃ head, Goes (.rd1 p addr waits .whole ecc x) s (ends ((reads head).2.emit (.spi (reads head).1)) 0)) ∧
        (addr.toNat % 4 = 0 → Completes (.rd p addr [wait] .whole ecc x) s (fun d t =>
          t.out.head? = some (.spi (phase ++ nibs (d.mapRead (.spi p) addr.toNat ecc).1))))) ∧
      (d.open_ = false → shut (.wr p addr one .whole x) ∧ shut (.wr1 p addr one .whole x) ∧ shut (.rd p addr waits .whole ecc x) ∧
        shut (.rd1 p addr waits .whole ecc x)) ∧
      (d.is Reg.SYS_SPICFG_CRC = false → ∃ w : Word, Goes (.stat ⟨p, wait, .whole⟩) s (d.emit (.spi (phase ++ nibs w))) ∧
        w.getLsbD 0 = d.open_ ∧ w.getLsbD 1 = (d.get Reg.RST_STAT_STATE == 1) ∧ w.getLsbD 2 = d.rst.banked ∧
        w.getLsbD 4 = d.irq0 ∧ w.getLsbD 5 = d.irq1 ∧ w.getLsbD 6 = !d.ball .alertN ∧ getBits w 15 8 = d.spi.lastErr % 256) ∧
      (op % 128 ∉ [1, 2, 3, 4, 5, 8, 9] → Goes (.badop op) s (ends (d.incSat Reg.SYS_SPISTAT_ABORTS 1) 2))

/-- R48, R52, R53: the oldest buffered word drains as a write of its port; RSTC with P, the key and a level resets when SPI_CS_N
rises, without P it is logged, with a wrong key it only counts; WAKE wakes where SPI is the host port and SPIWAKE is set. -/
def Claim.SpiDrainResetAndWake : Prop :=
  ∀ (s : State) (x : WriteCtx) (a : Nat) (w : Word) (p : Bool) (rest : List (Nat × Word × Bool)) (key level : Nat),
    let d := s.dev
    let e : Dev := { d with spi := { d.spi with lastErr := 0, txCount := (d.spi.txCount + 1) % 256 } }
    (d.spi.buffer = (a, w, p) :: rest → d.reaches (.spi p) = true → Goes (.spiWriteBufferDrain x) s
      (({ d with spi := { d.spi with buffer := rest } } : Dev).mapWrite (.spi p) a w 15 x)) ∧
    (d.spi.buffer = [] → Goes (.spiWriteBufferDrain x) s d) ∧
    (d.spiServed = true → d.rst.banked = false →
      (1 ≤ level → level ≤ 3 → Goes (.rstc true 0xC1D3 level .whole) s (e.resetCmd level true)) ∧
      (key ≠ 0xC1D3 ∨ level = 0 ∨ 3 < level → Goes (.rstc true key level .whole) s e) ∧
      Completes (.rstc false key level .whole) s (fun d t =>
        t.rd Reg.SYS_EVT = (d.raise Reg.SYS_EVT 3).rd Reg.SYS_EVT ∧ t.spi = e.spi ∧ t.rst = d.rst ∧ t.hearths = d.hearths)) ∧
    (d.spiServed = true → (d.spiHost && d.is Reg.RST_WAKECFG_SPIWAKE) = true → Goes .wake s (e.wakeUp 3)) ∧
    (d.spiServed = true → (d.spiHost && d.is Reg.RST_WAKECFG_SPIWAKE) = false → Goes .wake s e)

/-- R44, R79, R82, R473: a port reset clears the MSI-X state and stops the HF engine, with a pending-array bit for every enabled
vector that is pending, and the link counts as down (the model's choice, log 19); it comes up once the port is released; MSI-X writes set the table, Enable and Function Mask, and send
what waits and may go; a held message goes when its spacing ends, if its vector is still pending. -/
def Claim.PciePortAndMsix : Prop :=
  ∀ (s : State) (k v : Nat) (w : Word) (e m : Bool),
    let d := s.dev
    let z := d.hfStop none
    let pba := (List.range 17).foldl (fun p v => if z.vecPending v && z.vecEnabled v then p ||| 2 ^ v else p) 0
    (d.spiHost = false → Goes .pciePortReset s { z with pcie := {
      pba := pba, linkUp := false, enable := false, fmask := false, table := [], held := [], lastMsg := [] } }) ∧
    (d.is Reg.HF_CTL_RUN = false → z = d) ∧
    (d.rst.host = true → d.spiHost = false → Goes .pcieLinkUp s { d with pcie := { d.pcie with linkUp := true } }) ∧
    (d.rst.host = false → Goes .pcieLinkUp s d) ∧
    (d.pcieUp = true → Goes (.msixControlWrite (.control e m)) s
      ({ d with pcie := { d.pcie with enable := e, fmask := m } } : Dev).msixFlush) ∧
    (d.pcieUp = true → k < 128 → k % 4 ≠ 3 → Goes (.msixControlWrite (.table k w)) s
      ({ d with pcie := { d.pcie with table := SMap.put 0 d.pcie.table k w } } : Dev).msixFlush) ∧
    (d.pcieUp = true → k < 128 → k % 4 = 3 → Goes (.msixControlWrite (.table k w)) s
      ({ d with pcie := { d.pcie with table := SMap.put 1 d.pcie.table k (w &&& 1) } } : Dev).msixFlush) ∧
    (d.pcie.held.contains v = true → d.imodHeld v = false →
      let f : Dev := { d with pcie := { d.pcie with held := d.pcie.held.filter (· != v) } }
      (d.vecPending v = true → Goes (.imodHoldExpiry v) s (f.notify v)) ∧ (d.vecPending v = false → Goes (.imodHoldExpiry v) s f)) ∧
    (d.imodHeld v = true → Goes (.imodHoldExpiry v) s d)

/-! ## Reset, kindling and power (R465 to R492) -/

/-- R465 to R470, R484, R492: which level, cause and detail each source asserts, and what ends a reset. VDD_AON failing holds the
device in reset until it is good again; a bank that is good senses its voltage (R529, R542); RESET_N is not looked at while the device drives it and for 20 µs after. -/
def Claim.ResetSourcesAssertTheirLevel : Prop :=
  ∀ (s : State) (n mv : Nat) (low : Bool) (temp : Int),
    let d := s.dev
    let rst := fun (r : Rst) => ({ d with rst := r } : Dev)
    Goes .por s ((rst { d.rst with aon := true }).resetAssert 3 1 0) ∧
    Goes (.supplyFail 0) s ((rst { d.rst with aon := false }).resetAssert 3 1 0) ∧
    (1 ≤ n → d.rst.banked = false →
      Goes (.supplyFail n) s ((rst { d.rst with bad := n :: d.rst.bad.filter (· != n) }).resetAssert 2 2 n)) ∧
    (let sensed := if 8 ≤ n ∧ n < 13 then SMap.put 3300 d.rst.vio (n - 8) mv else d.rst.vio
     let e := rst { d.rst with bad := d.rst.bad.filter (· != n), vio := sensed }
     Goes (.supplyGood ⟨n, mv⟩) s (if e.rst.asserted = true ∧ e.rst.aon = true ∧ e.rst.bad = [] ∧ e.rst.thermal = false then
       { e with rst := { e.rst with stretching := true } } else e)) ∧
    (d.rst.asserted = false → d.rst.relAt = 0 ∨ d.rst.relAt - 1 + 20000 ≤ d.now → Goes .pinReset s (d.resetAssert 2 3 0)) ∧
    (d.rst.asserted = true → Goes .pinReset s d) ∧
    (d.rst.asserted = true → d.rst.stretching = true →
      Goes (.resetStretchEnd true) s (d.resetAssert 2 3 0) ∧
      Goes (.resetStretchEnd false) s ((rst { d.rst with asserted := false, stretching := false, relAt := d.now + 1 }).drive .resetN true)) ∧
    (d.rst.asserted = true → d.rst.stretching = false → Goes (.resetStretchEnd low) s d) ∧
    (d.rst.banked = false → Goes .rstCmdCore s (d.resetAssert 1 4 0) ∧ Goes .rstCmdSystem s (d.resetAssert 2 4 0) ∧
      Goes .rstCmdPor s (d.resetAssert 3 4 0) ∧ Goes .watchdogExpiry s (d.resetAssert 2 5 0)) ∧
    Goes .watchdogCountExpiry s ((rst { d.rst with wdAt := [], wdLoop := false }).set Reg.RST_CAUSE_WDCOUNT 0) ∧
    (d.rst.thermal = false →
      let e := (rst { d.rst with temp := temp, peak := temp }).setI Reg.RST_STAT_TEMP temp
      let r := if d.get Reg.RST_STAT_STATE = 2 ∧ d.rst.temp < 1100 ∧ 1100 ≤ temp then e.raise Reg.SYS_EVT 8 else e
      (temp < 1250 → Goes (.tempMeasure temp) s r) ∧
      (1250 ≤ temp → Goes (.tempMeasure temp) s
        (({ r with rst := { r.rst with thermal := true } } : Dev).resetAssert 2 6 (temp / 10).toNat))) ∧
    (d.rst.thermal = true → d.rst.temp < 1100 → d.rst.asserted = true → d.rst.aon = true → d.rst.bad = [] →
      Goes .thermalRelease s (rst { d.rst with thermal := false, stretching := true })) ∧
    (d.rst.thermal = false → Goes .thermalRelease s d) ∧
    (d.is Reg.RST_WAKECFG_WAKEN = true → d.rst.banked = true → Goes .wakeNAssert s (d.resetAssert 2 8 2)) ∧
    (d.is Reg.RST_WAKECFG_WAKEN = true → d.rst.banked = false → d.rst.bankSteps = [] → Goes .wakeNAssert s d) ∧
    (d.is Reg.RST_WAKECFG_WAKEN = true → d.rst.banked = false → d.rst.bankSteps ≠ [] → d.rst.wake = none →
      Goes .wakeNAssert s (rst { d.rst with wake := some 2 })) ∧
    (d.is Reg.RST_WAKECFG_WAKEN = false → Goes .wakeNAssert s d)

/-- R467 to R469, R471: an asserted reset records its newest cause, its level and detail, drives RESET_N low, reads KINDLING, and starts
kindling from its first step; while one is already asserted or kindling runs, the higher level counts. -/
def Claim.ResetRecordsItsCause : Prop :=
  ∀ (d : Dev) (level cause detail : Nat), 1 ≤ level → level ≤ 3 → cause < 256 → detail < 256 → 1 ≤ d.rst.level → d.rst.level ≤ 3 →
    let t := d.resetAssert level cause detail
    let l := if d.rst.asserted = true ∨ d.rst.steps ≠ [] then max level d.rst.level else level
    getBits (t.rd Reg.RST_CAUSE) 31 28 = l ∧ getBits (t.rd Reg.RST_CAUSE) 23 16 = detail ∧ getBits (t.rd Reg.RST_CAUSE) 7 0 = cause ∧
    t.get Reg.RST_STAT_STATE = 1 ∧ t.get Reg.RST_STAT_KSTEP = 0 ∧ t.rst.asserted = true ∧ t.rst.level = l ∧
    t.ball .resetN = false ∧ t.rst.banked = false ∧ t.rst.bankSteps = [] ∧ t.now = d.now ∧ t.part = d.part ∧
    t.rst.steps = (if l = 1 then [1, 4, 6, 7] else [1, 2, 3, 4, 5, 6, 7]) ∧
    (t.rst.stretching = true ↔ d.rst.aon = true ∧ d.rst.bad = [] ∧ d.rst.thermal = false)

/-- R466, the POR and SYSTEM rows: everything but the spared items is as after power-on. A SYSTEM reset keeps the registers of the
always-on domain, the outcome and count of the quad-SPI port, the AUX0 target and the alert sequence number; both keep the fuses. The DRAM's contents survive a wake alone. -/
def Claim.SystemResetClears : Prop :=
  ∀ d : Dev,
    let t := d.systemReset
    let u := d.powerReset
    t.hearths = [] ∧ t.lanes = [] ∧ t.shadow = [] ∧ t.captures = [] ∧ t.commits = [] ∧ t.armed = none ∧ t.devtime = 0 ∧ t.scount = 0 ∧
    t.cap = { blankA := { level := d.cap.blankA.level }, blankB := { level := d.cap.blankB.level } } ∧ t.store = {} ∧ t.flue = [] ∧
    t.audio = {} ∧ t.pcie = {} ∧ t.spi = { lastErr := d.spi.lastErr, txCount := d.spi.txCount } ∧ t.soot = {} ∧ t.clk = {} ∧
    t.fire = { seq := d.fire.seq } ∧ t.target = d.target ∧ t.rst.fuses = d.rst.fuses ∧ t.ash.sets = [] ∧
    (d.rst.banked = false → t.ash.dram = []) ∧ (d.rst.banked = true → t.ash.dram = d.ash.dram) ∧
    (∀ a, t.rd a = if aonReg a then d.rd a else regReset a) ∧
    u.hearths = [] ∧ u.lanes = [] ∧ u.shadow = [] ∧ u.fire = {} ∧ u.target = {} ∧ u.ash = {} ∧ u.rst.fuses = d.rst.fuses ∧
    (∀ a, u.rd a = regReset a)

/-- R466, the CORE row and the text below it: a CORE reset stops every lane, disarms a timed commit, and keeps DEVTIME, the root sample
index, the clocks, the flue ports, the aux buses, the capture cores and the SYS registers. (No rotation or calibration is in progress.) -/
def Claim.CoreResetSpares : Prop :=
  ∀ d : Dev, d.cap.rot = none → d.cal.cmd = none →
    let t := d.coreReset
    t.lanes = [] ∧ t.store = {} ∧ t.commits = [] ∧ t.armed = none ∧ t.pool = {} ∧ t.ash.sets = [] ∧ t.bist = none ∧
    t.devtime = d.devtime ∧ t.scount = d.scount ∧ t.clk = d.clk ∧ t.flue = d.flue ∧ t.aux = d.aux ∧ t.target = d.target ∧
    t.rst = d.rst ∧ t.ash.dram = d.ash.dram ∧ t.cap = d.cap ∧ t.ptp = d.ptp ∧ t.rd Reg.CAP_ROLE = d.rd Reg.CAP_ROLE ∧
    (∀ h < d.part.hearths, (t.hearth h).running = false ∧ (t.hearth h).imem = [] ∧ (t.hearth h).dmem = []) ∧
    t.rd Reg.SYS_IMMED = d.rd Reg.SYS_IMMED ∧ t.rd Reg.SYS_CMTTIME_LO = d.rd Reg.SYS_CMTTIME_LO ∧
    t.rd Reg.SYS_CMTTIME_HI = d.rd Reg.SYS_CMTTIME_HI ∧ t.rd Reg.SYS_SPISTAT = d.rd Reg.SYS_SPISTAT ∧ t.rd Reg.SYS_CMTSTAT = 0

/-- R471 to R476, R480 to R485: kindling runs its steps in order, and waits where a step cannot end. Step 6 starts the mantel and releases
the host port; at the end the device is ACTIVE. -/
def Claim.KindlingRunsItsSteps : Prop :=
  ∀ (s : State) (k : Kindle) (rest bad : List Nat) (r0 r1 r2 : Nat) (xo memOk sds pcie : Bool) (p c : Option (List Byte)),
    let d := s.dev
    let go := d.rst.asserted = false ∧ d.rst.romBad = false
    let next := fun (e : Dev) (n : Nat) => ({ e with rst := { e.rst with steps := rest } } : Dev).set Reg.RST_STAT_KSTEP n
    (d.rst.asserted = true → Goes (.kindlingStep k) s d) ∧
    (go → d.rst.steps = 1 :: rest → d.rst.aon = true → d.rst.bad = [] → d.rst.thermal = false →
      Goes (.kindlingStep .supplies) s (next d 1)) ∧
    (go → d.rst.steps = 1 :: rest → d.rst.bad ≠ [] → Goes (.kindlingStep .supplies) s d) ∧
    (go → d.rst.steps = 2 :: rest → Goes (.kindlingStep (.otp bad)) s (next (d.otpRead bad) 2)) ∧
    (go → d.rst.steps = 3 :: rest → Goes (.kindlingStep (.strap r0 r1 r2)) s (next (d.strapRead r0 r1 r2) 3)) ∧
    (go → d.rst.steps = 4 :: rest → Goes (.kindlingStep (.rom true)) s (next d 4) ∧
      Goes (.kindlingStep (.rom false)) s { d with rst := { d.rst with romBad := true } }) ∧
    (d.rst.romBad = true → Goes (.kindlingStep k) s d) ∧
    (go → d.rst.steps = 5 :: rest → Goes (.kindlingStep (.lock xo)) s (next (((((d.set Reg.CLK_STAT_XO (b2n xo)).set Reg.CLK_STAT_REFSEL
      (if xo then 2 else 1)).set Reg.CLK_STAT_HOLDOVER 0).set Reg.CLK_STAT_LOCK 1).drive .pllLockf true) 5)) ∧
    (go → d.rst.steps = 6 :: rest → Completes (.kindlingStep (.mantel memOk p c)) s (fun _ t =>
      t.rst.steps = rest ∧ t.rst.host = true ∧ t.get Reg.CLK_STAT_CORELOCK = 1 ∧
      (t.is Reg.RST_STAT_MINIMAL = true ↔ t.rst.fw = none) ∧
      t.get Reg.PST_EPOCH_ABI = (match t.rst.fw with | some f => f.abi % 256 | none => 1) ∧
      t.get Reg.SYS_MARGIN_MIGR = (if t.rst.fw.isSome then 1 else 0))) ∧
    (go → d.rst.steps = 7 :: rest → Goes (.kindlingStep (.release sds pcie)) s (d.kindlingEnd sds pcie))

/-- R476 to R478: a bit of RST_BLK that rises asserts its block's reset at once in QUIESCED mode (stated of HF and BST), and closes the
wrapper first in ISOLATE mode, whose reset follows when the transfers are done; a bit that falls releases the block, or defers the release in RST_PEND until the
clock is good, which is then raised. Other bits stay. -/
def Claim.BlockResetsAssertAndRelease : Prop :=
  ∀ (s : State) (b : Nat) (w : Word) (sds pcie : Bool),
    let d := s.dev
    let blk := d.rd Reg.RST_BLK
    b ∈ d.part.rstBlocks → (∀ c ∈ d.part.rstBlocks, c ≠ b → w.getLsbD c = blk.getLsbD c) →
    let held := (d.wr Reg.RST_BLK (putBits blk b b 1)).wr Reg.RST_PEND (putBits (d.rd Reg.RST_PEND) b b 0)
    (w.getLsbD b = blk.getLsbD b → Goes (.rstBlkWrite w sds pcie) s d) ∧
    (w.getLsbD b = true → blk.getLsbD b = false → (d.rd Reg.RST_PEND).getLsbD b = true → Goes (.rstBlkWrite w sds pcie) s held) ∧
    (w.getLsbD b = true → blk.getLsbD b = false → (d.rd Reg.RST_PEND).getLsbD b = false → (d.rd Reg.RST_MODE).getLsbD b = true →
      Goes (.rstBlkWrite w sds pcie) s { held with
        rst := { d.rst with isolating := b :: d.rst.isolating.filter (· != b), closed := b :: d.rst.closed.filter (· != b) } }) ∧
    (b = 10 ∨ b = 16 → w.getLsbD b = true → blk.getLsbD b = false → (d.rd Reg.RST_PEND).getLsbD b = false →
      (d.rd Reg.RST_MODE).getLsbD b = false → Goes (.rstBlkWrite w sds pcie) s (held.blockAssert b true)) ∧
    (w.getLsbD b = false → blk.getLsbD b = true → d.rst.isolating = [] → d.clockGood b sds pcie = false →
      Goes (.rstBlkWrite w sds pcie) s ((d.wr Reg.RST_BLK (putBits blk b b 0)).wr Reg.RST_PEND (putBits (d.rd Reg.RST_PEND) b b 1))) ∧
    (b ∈ d.rst.isolating → Goes (.isolateDone b) s
      (({ d with rst := { d.rst with isolating := d.rst.isolating.filter (· != b) } } : Dev).blockAssert b false)) ∧
    (b ∉ d.rst.isolating → Goes (.isolateDone b) s d) ∧
    ((d.rd Reg.RST_PEND).getLsbD b = true → Goes (.blockRelease b) s
      ((({ d.wr Reg.RST_PEND (putBits (d.rd Reg.RST_PEND) b b 0) with
        rst := { d.rst with closed := d.rst.closed.filter (· != b) } } : Dev).blockStart b).raise Reg.SYS_EVT 10)) ∧
    ((d.rd Reg.RST_PEND).getLsbD b = false → Goes (.blockRelease b) s d)

/-- R482, R486, R487: BOOT of an image that passes stores it and makes a CORE reset with cause MNTBOOT; a refused one records its status and
leaves the mantel; a word of OTP is programmed once, outside use and lock, and reads back or fails. -/
def Obligations.BootAndOtpCheckFirst : Prop :=
  ∀ (s : State) (slot tag i : Nat) (v w : Word),
    let d := s.dev
    let e := (d.set Reg.RST_MNTSTAT_TAG tag).set Reg.RST_MNTSTAT_LOST 0
    let ends := fun (d : Dev) (st : Nat) => ((d.set Reg.RST_OTPSTAT_STATUS st).set Reg.RST_OTPSTAT_BUSY 0).raise Reg.RST_EVT 2
    let idle := d.lanesOn = [] ∧ ¬(d.part.hasSmoke = true ∧ d.is Reg.SMK_CTL_EN = true)
    let known := i < 36 ∧ i ∉ [2, 3, 12, 13, 14, 15, 18, 19]
    (d.is Reg.RST_MNTSTAT_BUSY = true → Goes (.boot slot tag) s (d.set Reg.RST_MNTSTAT_LOST 1)) ∧
    (d.is Reg.RST_MNTSTAT_BUSY = false →
      (64 ≤ slot ∨ d.get (Reg.PST_SLOT_STATE slot) ≠ 2 ∨ d.get (Reg.PST_SLOT_TYPE slot) ≠ 2 → Goes (.boot slot tag) s
        ((e.set Reg.RST_MNTSTAT_STATUS 3).raise Reg.RST_EVT 1)) ∧
      (slot < 64 → d.get (Reg.PST_SLOT_STATE slot) = 2 → d.get (Reg.PST_SLOT_TYPE slot) = 2 → d.bootStatus (d.slotBytes slot) = 0 →
        Goes (.boot slot tag) s ((({ e.set Reg.RST_MNTSTAT_STATUS 0 with rst := { d.rst with fw := some (firmwareOf (d.slotBytes slot) 1) } } :
          Dev).raise Reg.RST_EVT 0).resetAssert 1 9 0))) ∧
    (d.rst.otpProg = none →
      (¬known → Goes (.otpProgram i) s (ends d 3)) ∧
      (known → ¬idle → Goes (.otpProgram i) s (ends d 7)) ∧
      (known → idle → (SMap.get 0 d.rst.fuses 0).getLsbD 30 = true → Goes (.otpProgram i) s (ends d 0x90)) ∧
      (known → idle → (SMap.get 0 d.rst.fuses 0).getLsbD 30 = false → SMap.get 0 d.rst.fuses i ≠ 0 → Goes (.otpProgram i) s (ends d 0x91)) ∧
      (known → idle → (SMap.get 0 d.rst.fuses 0).getLsbD 30 = false → SMap.get 0 d.rst.fuses i = 0 → Goes (.otpProgram i) s
        { (d.set Reg.RST_OTPSTAT_STATUS 2).set Reg.RST_OTPSTAT_BUSY 1 with
          rst := { d.rst with otpProg := some (i, d.rd Reg.RST_OTPDATA) } })) ∧
    (d.rst.otpProg = some (i, v) →
      let f : Dev := { d with rst := { d.rst with otpProg := none, fuses := SMap.put 0 d.rst.fuses i w } }
      (w = v → Goes (.otpProgramDone w) s (ends f 0)) ∧
      (w ≠ v → Goes (.otpProgramDone w) s ((ends f 0x92).sootE 2 0x13 0x1003 i)))

/-- R489: BANKED is refused with ALERT or NOWAKE, or the entry starts; its steps run in order, a step that waits for an aux bus does nothing, and
a wake latched during the entry starts as soon as BANKED is reached. -/
def Claim.BankedEntryRunsItsSteps : Prop :=
  ∀ (s : State) (rest : List Nat) (force : Bool),
    let d := s.dev
    let next := fun (e : Dev) => ({ e with rst := { e.rst with bankSteps := rest } } : Dev)
    (d.get Reg.RST_STAT_STATE = 2 →
      (d.get Reg.FWT_STAT_ACTIVE ≠ 0 ∨ d.fire.pages ≠ [] →
        Goes (.bankRequest false) s ((d.set Reg.RST_STAT_PWRREF 1).raise Reg.RST_EVT 3)) ∧
      (d.get Reg.FWT_STAT_ACTIVE = 0 → d.fire.pages = [] → d.is Reg.EMB_CFG_WAKE = false → d.rd Reg.RST_WAKECFG = 0 →
        Goes (.bankRequest false) s ((d.set Reg.RST_STAT_PWRREF 2).raise Reg.RST_EVT 3)) ∧
      Completes (.bankRequest true) s (fun _ t => t.get Reg.RST_STAT_STATE = 3 ∧ t.lanes = [] ∧ t.ball .alertN = true ∧
        (∀ h < d.part.hearths, (t.hearth h).running = false) ∧
        t.rst.bankSteps = [2, 3, 4, 5, 6] ++ (if d.is Reg.RST_WAKECFG_PWROFF then [7] else []))) ∧
    (d.get Reg.RST_STAT_STATE ≠ 2 → Goes (.bankRequest force) s d) ∧
    (d.rst.bankSteps = 3 :: rest → (∃ b < 3, (d.auxBus b).cur.any (·.running) = true) → Goes .bankedEntryStep s d) ∧
    (d.rst.bankSteps = 3 :: rest → (∀ b < 3, (d.auxBus b).cur.any (·.running) = false) →
      Completes .bankedEntryStep s (fun _ t => t.rst.bankSteps = rest)) ∧
    (d.rst.bankSteps = 4 :: rest → Goes .bankedEntryStep s (next (({ d with ash := { d.ash with selfRefresh := true, init := none } } : Dev).ddrDrive false))) ∧
    (d.rst.bankSteps = 5 :: rest → Completes .bankedEntryStep s (fun d t => t.rst.bankSteps = rest ∧ t.hearths = [] ∧ t.flue = [] ∧
      t.rst.clk = [Reg.CLK_CFG, Reg.CLK_OUT_CFG 0, Reg.CLK_OUT_CFG 1, Reg.CLK_TIMECFG].map (fun a => (a, d.rd a)) ∧
      t.ash.dram = d.ash.dram ∧ t.ash.selfRefresh = true)) ∧
    (d.rst.bankSteps = 6 :: rest → d.rst.wake = none → Completes .bankedEntryStep s (fun _ t => t.rst.banked = true ∧ t.rst.bankSteps = rest)) ∧
    (d.rst.bankSteps = 7 :: rest → Goes .bankedEntryStep s ((next d).drive .pwrEn false))

/-! ## Buffered writes, commits and the device's time (R56 to R66, R69, R79, R84) -/

/-- R69, R79, R84: an event sets its bit in its SQC register and advances SEQ by one, and changes no other register; when its enable bit is 1
and its vector is enabled, unmasked and not spaced, the vector's message leaves the device with the table's address and data. An event
whose least spacing has not passed leaves everything as it was. -/
def Claim.EventSetsItsBitAndSequence : Prop :=
  ∀ (d : Dev) (a b : Nat), b < 24 →
    let t := d.raise a b
    let v := (evtInfo a).2
    let en := (d.rd (evtInfo a).1).getLsbD b
    (d.evtFree a b 0 = false → t = d) ∧
    (d.evtFree a b 0 = true →
      (∀ k < 24, (t.rd a).getLsbD k = ((d.rd a).getLsbD k || k == b)) ∧
      getBits (t.rd a) 31 24 = (getBits (d.rd a) 31 24 + 1) % 256 ∧ KeepsRegs [a] d t ∧
      t = { d with regs := t.regs, evtLast := t.evtLast, pcie := t.pcie, out := t.out } ∧
      (evtRate a b ≠ 0 → t.evtFree a b 0 = false) ∧
      ((evtInfo a).1 ≠ a → en = false → t.out = d.out ∧ t.pcie = d.pcie) ∧
      ((evtInfo a).1 ≠ a → en = true → d.vecEnabled v = true → d.vecMasked v = false → d.pcie.fmask = false → d.imodHeld v = false →
        a ≠ Reg.SYS_VEC_EN → a ≠ Reg.SYS_IMOD →
        t.out = .msix v (SMap.get 0 d.pcie.table (4 * v)) (SMap.get 0 d.pcie.table (4 * v + 1)) (SMap.get 0 d.pcie.table (4 * v + 2)) :: d.out) ∧
      ((evtInfo a).1 ≠ a → en = true → d.vecEnabled v = true → d.vecMasked v = true → a ≠ Reg.SYS_VEC_EN →
        t.out = d.out ∧ t.pcie = { d.pcie with pba := d.pcie.pba ||| 2 ^ v }))

/-- R69: events that occur in the same core cycle set their bits and advance SEQ by one together, whether or not a bit is 1 already; every sequence-cleared register resets to zero. -/
def Claim.EventsOfOneCycleCountOnce : Prop :=
  (∀ (d : Dev) (a unit : Nat) (bits : List Nat), bits ≠ [] → (∀ b ∈ bits, b < 24 ∧ d.evtFree a b unit = true) →
    let t := d.raiseUnit a unit bits
    (∀ k < 24, (t.rd a).getLsbD k = ((d.rd a).getLsbD k || bits.contains k)) ∧ getBits (t.rd a) 31 24 = (getBits (d.rd a) 31 24 + 1) % 256) ∧
  (∀ (a : Nat) (r : Reg), lookupReg a = some r → r.isSqc = true → State.reset.dev.rd a = 0)

/-- R58, R61, R62: a commit with no group named does nothing; one whose groups are all busy sets OVL and raises CMTOVL; one with a free group
broadcasts to the free groups' pages. A timed one is armed for its time, acts at once when its time is past, and sets OVL while
another is armed. -/
def Claim.CommitNamesItsFreeGroups : Prop :=
  ∀ (s : State) (tag mask : Nat),
    let d := s.dev
    let named := setBits 16 mask
    let gs := named.filter (fun g => !d.busyGroups.contains g)
    let ovl := (d.set Reg.SYS_CMTSTAT_OVL 1).raise Reg.SYS_EVT 2
    let e := if ∃ g ∈ named, g ∈ d.busyGroups then ovl else d.set Reg.SYS_CMTSTAT_OVL 0
    let time := of64 (e.rd Reg.SYS_CMTTIME_LO) (e.rd Reg.SYS_CMTTIME_HI)
    (named = [] → Goes (.commit tag mask) s d ∧ Goes (.timedCommitArm tag mask) s d) ∧
    (named ≠ [] → gs = [] → Goes (.commit tag mask) s ovl) ∧
    (gs ≠ [] → Goes (.commit tag mask) s (e.broadcast (tag % 256) gs (e.pagesIn gs))) ∧
    (d.armed = none → named ≠ [] → gs = [] → Goes (.timedCommitArm tag mask) s ovl) ∧
    (d.armed = none → gs ≠ [] → time < d.devtime → Goes (.timedCommitArm tag mask) s (e.broadcast (tag % 256) gs (e.pagesIn gs))) ∧
    (d.armed = none → gs ≠ [] → d.devtime ≤ time → Goes (.timedCommitArm tag mask) s
      ({ e with armed := some ⟨tag % 256, gs, e.pagesIn gs, time⟩ } : Dev).showBusy) ∧
    (d.armed.isSome = true → named ≠ [] → (∀ g ∈ named, g ∉ d.busyGroups) →
      Goes (.timedCommitArm tag mask) s (d.set Reg.SYS_CMTSTAT_OVL 1)) ∧
    (d.armed.isSome = true → (∃ g ∈ named, g ∈ d.busyGroups) → Goes (.timedCommitArm tag mask) s ovl)

/-- R58, R59: a page outside the lane, grate, ashpit, audio, smoke and stream-table pages captures its shadow words when each field lies in
its range, and otherwise keeps nothing and sets REJ. Either way no active field changes. -/
def Claim.PageCapturesWhatIsValid : Prop :=
  ∀ (d : Dev) (g : Nat),
    let p := Reg.OVN_CFG
    let r := d.capturePage g p
    let e : Dev := { d with captures := d.captures ++ [⟨p, some g, d.pageShadow p, false, d.now⟩] }
    (e.wordsOk p = true → r = (true, e)) ∧
    (e.wordsOk p = false → r.1 = false ∧ KeepsRegs [p + 0xFFC] d r.2 ∧ (r.2.rd (p + 0xFFC)).getLsbD 30 = true ∧
      r.2.captures = d.captures.filter (fun c => !(c.page == p && c.group == some g)) ∧
      r.2 = { d with regs := r.2.regs, captures := r.2.captures })

/-- R60, R63: at its block's boundary a page's captured words become active, all at once, PEND clears unless a later write followed and
REJ clears; every other register but the commit's own status keeps its value; a commit that waited for this page alone is complete,
with its label and its event. The ovens' page is taken, whose block does nothing more. -/
def Claim.PageAppliesItsCapture : Prop :=
  ∀ (s : State) (dmg : Damage) (c : Capture),
    let d := s.dev
    let p := Reg.OVN_CFG
    (d.captures.filter (fun x => x.page == p) = [] → Goes (.pageApply p dmg) s d) ∧
    (d.captures.filter (fun x => x.page == p) = [c] → (c.words.map (·.1)).Nodup → (∀ w ∈ c.words, pageOf w.1 = p ∧ w.1 ≠ p + 0xFFC) →
      Completes (.pageApply p dmg) s (fun d t =>
        (∀ w ∈ c.words, t.rd w.1 = mergeMask (rwbMask w.1) (d.rd w.1) w.2) ∧
        KeepsRegs (c.words.map (·.1) ++ [p + 0xFFC, Reg.SYS_CMTSTAT, Reg.SYS_EVT]) d t ∧
        (t.rd (p + 0xFFC)).getLsbD 31 = c.late ∧ (t.rd (p + 0xFFC)).getLsbD 30 = false ∧
        t.captures = d.captures.filter (fun x => x.page != p) ∧ t.armed = d.armed ∧
        (∀ k, d.commits = [k] → (∀ g ∈ k.groups, ∀ x ∈ d.captures, x.group = some g → x.page = p) →
          t.commits = [] ∧ t.get Reg.SYS_CMTSTAT_TAG = k.tag % 256 ∧ t.get Reg.SYS_CMTSTAT_ERR = b2n k.err ∧
          (d.evtFree Reg.SYS_EVT 0 0 = true → (t.rd Reg.SYS_EVT).getLsbD 0 = true))))

/-- R63, R64, R66: PAGE_APPLY of a page whose block has its own running boundary does nothing; of any other it applies what waits. GRT lane
pages and the apply points of a lane act by the lane's own rules; a lane page without one for 250 ms applies at MAIN's wait. -/
def Claim.PagesApplyAtTheirBoundary : Prop :=
  ∀ (s : State) (p n : Nat) (dmg : Damage),
    let d := s.dev
    let lane := 0x100000 + n * 0x1000
    (¬(0x51000 ≤ p ∧ p < 0x5D000) → d.ownBoundary p = true → Goes (.pageApply p dmg) s d) ∧
    (¬(0x51000 ≤ p ∧ p < 0x5D000) → d.ownBoundary p = false → Goes (.pageApply p dmg) s (d.pageApply p dmg)) ∧
    (0x51000 ≤ p → p < 0x5D000 → p % 0x1000 = 0 → Goes (.pageApply p dmg) s (d.grtPage p)) ∧
    (d.part.lanes ≤ n → Goes (.applyTimeout n dmg) s d) ∧
    (n < d.part.lanes → d.bound n = none → Goes (.applyTimeout n dmg) s d) ∧
    (∀ h, n < d.part.lanes → d.bound n = some h → d.laneOf h = some n → (∀ c ∈ d.captures, c.page = lane → d.now < c.at_ + 250000000) →
      Goes (.applyTimeout n dmg) s d) ∧
    (∀ h c, n < d.part.lanes → d.bound n = some h → d.laneOf h = some n → (d.lane n).mig = none →
      (d.lane n).prev.length ≤ (d.hearth h).applied → c ∈ d.captures → c.page = lane → c.at_ + 250000000 ≤ d.now →
      (d.hearth h).running = true → (d.hearth h).urgOn = false → (d.hearth h).wait.isSome = true →
      let e := d.pageApply lane dmg
      Goes (.applyTimeout n dmg) s
        (if (e.hearth h).running = true then e.sysPost n 0x20000000 else e)) ∧
    ((d.pageApply 0x162000 .intact).migr = false → Goes .mantelScheduleTick s (d.pageApply 0x162000 .intact))

/-- R180, R182, R189, R156, R204: at the mantel's decision the fields of its page apply, and while no lane migrates the lanes are looked at
in ascending order: an unguarded lane gives up its shadow; a stopped one keeps it; with eight shadows granted the guard of a further
lane is refused; a guarded lane that has its shadow keeps it, and one that has none, with its program started and not halted, gets a
free hearth or, with none free, is lost. -/
def Obligations.ScheduleGrantsShadowsInOrder : Prop :=
  ∀ (s : State) (n k : Nat),
    let d := s.dev
    let e := d.pageApply 0x162000 .intact
    let want := d.is (Reg.LANE_CTL_GUARD n)
    let guarded := want = true ∧ d.is (Reg.LANE_CTL_EN n) = true
    let ready := d.shadowOf n = none ∧ (d.lane n).started = true ∧ (d.lane n).halted = false ∧ (d.bound n).isSome = true
    let g := d.get (Reg.LANE_BIND_GSTATE n)
    (e.migr = true → Goes .mantelScheduleTick s
      ((List.range e.part.lanes).foldl (fun (r : Nat × Dev) m =>
        if (r.2.lane m).mig.isSome then (if (r.2.shadowOf m).isSome then r.1 + 1 else r.1, r.2) else r.2.guardLane m r.1) (0, e)).2) ∧
    (want = false → d.shadowOf n = none → g = 0 → d.guardLane n k = (k, d)) ∧
    (want = false → (d.shadowOf n).isSome = true → d.guardLane n k = (k, (d.dropShadow n).refreshMargin)) ∧
    (want = true → d.is (Reg.LANE_CTL_EN n) = false → (d.shadowOf n).isSome = true → d.guardLane n k = (k + 1, d)) ∧
    (want = true → d.is (Reg.LANE_CTL_EN n) = false → d.shadowOf n = none →
      d.guardLane n k = (k, d.set (Reg.LANE_BIND_GSTATE n) 0)) ∧
    (guarded → 8 ≤ k → d.shadowOf n = none → d.guardLane n k = (k, (d.set (Reg.LANE_BIND_GSTATE n) 4).refreshMargin)) ∧
    (guarded → k < 8 → (d.shadowOf n).isSome = true → d.guardLane n k = (k + 1, d)) ∧
    (guarded → k < 8 → d.shadowOf n = none → (d.lane n).started = false ∨ (d.lane n).halted = true → d.guardLane n k = (k + 1, d)) ∧
    (guarded → k < 8 → ready → d.hearthsIn stFree = [] → d.guardLane n k = (k + 1, if g = 3 then d else d.loseShadow n)) ∧
    (∀ h hs u, guarded → k < 8 → ready → d.hearthsIn stFree = h :: hs → d.grantShadow n h = some u →
      d.guardLane n k = (k + 1, u.refreshMargin))

/-- R65: SYS_IMMED takes bits 16 to 0 at once. With no page pending nothing else changes. -/
def Claim.ImmediateModeIsWritten : Prop :=
  ∀ (s : State) (w : Word), (∀ p ∈ allPages s.dev.part, (s.dev.rd (p + 0xFFC)).getLsbD 31 = false) →
    Goes (.sysImmedWrite w) s (s.dev.wr Reg.SYS_IMMED (w &&& 0x1FFFF))

/-- R19, R130, R424: a time tick advances DEVTIME and the root sample index together, by 10 ns and 32 indices; while the device's time does not
run it does nothing. The clock page, CLKOUT0 and CLKOUT1, PPS_OUT, a snapshot's time, an armed commit and the stokers' posted writes act at the tick. -/
def Claim.TimeTickAdvancesTheTime : Prop :=
  ∀ s : State,
    let d := s.dev
    let e : Dev := { d with now := d.now + 10, scount := (d.scount + 32) % 2 ^ 64 }
    (d.ticking = false → Goes .timeTick s d) ∧
    (d.ticking = true →
      Goes .timeTick s ((((e.devSet.sscTick.pageApply 0x10000 .intact).clkOuts).ppsOutTick d.devtime).snapTime.armedTick.drainAll)) ∧
    (d.ticking = true → d.captures = [] → d.cap.snap = none → d.armed = none → d.hearths = [] →
      (d.clk.tset = none → d.clk.frac < 2 ^ 32 → d.rd Reg.CLK_TRIMUSE = 0 → d.is Reg.CLK_TSTAT_SLEWING = false →
        Completes .timeTick s (fun d t => t.now = d.now + 10 ∧ t.scount = (d.scount + 32) % 2 ^ 64 ∧ t.devtime = (d.devtime + 10) % 2 ^ 64 ∧
          KeepsRegs [] d t ∧ t = { d with now := t.now, scount := t.scount, devtime := t.devtime, clk := t.clk, ptp := t.ptp, balls := t.balls, out := t.out })) ∧
      (∀ x, d.clk.tset = some x → Completes .timeTick s (fun d t => t.now = d.now + 10 ∧ t.scount = (d.scount + 32) % 2 ^ 64 ∧ t.devtime = x ∧
        t.clk.tset = none ∧ KeepsRegs [Reg.CLK_EVT] d t)))

/-! ## The capture block (R87 to R127) -/

/-- A CAP command ended at once with a status: OP, TAG and STATUS in CAP_CMDSTAT, BUSY and LOST 0, and CMDDONE raised (R127). -/
def capEnds (op tag st : Nat) (u : Dev) : Dev := (u.cmdDone Reg.CAP_CMDSTAT op tag st).raise Reg.CAP_EVT 0

/-- R127: what CAP_CMDSTAT holds after a command that ended at once, and that one written while BUSY is 1 is discarded, with LOST set. -/
def Claim.CaptureCommandStatus : Prop :=
  ∀ (s : State) (op tag st arg : Nat), op < 256 → tag < 256 → st < 256 → 
    let t := capEnds op tag st s.dev
    let lost := s.dev.wr Reg.CAP_CMDSTAT (putBits (s.dev.rd Reg.CAP_CMDSTAT) 1 1 1)
    let w := t.rd Reg.CAP_CMDSTAT
    getBits w 31 24 = op ∧ getBits w 23 16 = st ∧ getBits w 15 8 = tag ∧ w.getLsbD 0 = false ∧ w.getLsbD 1 = false ∧
    KeepsRegs [Reg.CAP_CMDSTAT, Reg.CAP_EVT] s.dev t ∧
    (s.dev.held 2 = false → (s.dev.rd Reg.CAP_CMDSTAT).getLsbD 0 = true →
      Goes (.rotate arg tag) s lost ∧ Goes (.sbsrc arg tag) s lost ∧ Goes (.snapArm tag) s lost ∧ Goes (.snapTrig tag) s lost ∧
      Goes (.snapAbort tag) s lost ∧ (s.dev.cap.rot.isSome = true → Goes (.rotAbort tag) s lost))

/-- R89, R107, R111, R121, R127: each CAP command with each of its statuses, and what it does when it is accepted. A suspect core in
service is taken out by the rotation that may follow an ended one (`rotSuspects`, R115). -/
def Claim.CaptureCommandsAnswer : Prop :=
  ∀ (s : State) (arg tag : Nat),
    let d := s.dev
    let sb := d.get Reg.CAP_ROLE_CORE_SB
    let ring := d.is Reg.CAP_SNAPCFG_RING
    let serves := fun (r : Nat) => d.get (Reg.CAP_CC_STAT_STATE (d.roleCore r)) = 4
    let may := if arg = 0 then serves 0 ∨ serves 1 else serves (arg - 1)
    d.held 2 = false → (d.rd Reg.CAP_CMDSTAT).getLsbD 0 = false →
      (2 < arg → Goes (.rotate arg tag) s (capEnds 1 tag 3 d)) ∧
      (arg ≤ 2 → d.cap.rot.isSome = true → Goes (.rotate arg tag) s (capEnds 1 tag 2 d)) ∧
      (arg ≤ 2 → d.cap.rot = none → d.migr = false → Goes (.rotate arg tag) s (capEnds 1 tag 4 d)) ∧
      (arg ≤ 2 → d.cap.rot = none → d.migr = true → d.standbyCore = none ∨ d.cap.replacing.isSome = true →
        Goes (.rotate arg tag) s (capEnds 1 tag 5 d)) ∧
      (arg ≤ 2 → d.cap.rot = none → d.migr = true → d.standbyCore.isSome = true → d.cap.replacing = none → ¬may →
        Goes (.rotate arg tag) s (capEnds 1 tag 3 d)) ∧
      (arg ≤ 2 → d.cap.rot = none → d.migr = true → d.standbyCore.isSome = true → d.cap.replacing = none → may →
        Goes (.rotate arg tag) s (capEnds 1 tag 0 (d.rotStart (if arg = 0 then d.longestRole else arg - 1)))) ∧
      (3 < arg → Goes (.sbsrc arg tag) s (capEnds 2 tag 3 d)) ∧
      (arg ≤ 3 → sb = 3 → Goes (.sbsrc arg tag) s (capEnds 2 tag 5 d)) ∧
      (arg ≤ 3 → sb ≠ 3 → d.cap.rot.isSome = true ∨ d.cap.replacing.isSome = true ∨ d.get (Reg.CAP_CC_STAT_STATE sb) ≠ 1 →
        Goes (.sbsrc arg tag) s (capEnds 2 tag 2 d)) ∧
      (arg ≤ 3 → sb ≠ 3 → d.cap.rot = none → d.cap.replacing = none → d.get (Reg.CAP_CC_STAT_STATE sb) = 1 →
        Goes (.sbsrc arg tag) s (capEnds 2 tag 0 ((d.set Reg.CAP_ROLE_SB_SRC arg).set (Reg.CAP_CC_STAT_SRC sb) arg).refreshCores)) ∧
      (d.cap.snap.isSome = true → Goes (.snapArm tag) s (capEnds 3 tag 2 d)) ∧
      (d.cap.snap = none → ring = true → d.get Reg.CAP_SNAPCFG_TRIG = 0 → Goes (.snapArm tag) s (capEnds 3 tag 3 d)) ∧
      (d.snapStatus ≠ 0 → Goes (.snapArm tag) s (capEnds 3 tag d.snapStatus d)) ∧
      (d.snapStatus = 0 → Completes (.snapArm tag) s (fun d t => ∃ x, t.cap.snap = some x ∧
        x.mode = d.get Reg.CAP_SNAPCFG_MODE ∧ x.ring = ring ∧ x.trig = d.get Reg.CAP_SNAPCFG_TRIG ∧ x.written = 0 ∧ x.trigRec = none ∧
        x.n = (d.get Reg.CAP_SNAPLEN_UNITS * 4096 - 4096) / x.z ∧ x.z = (if x.mode = 0 then 12352 else 1088) ∧
        (x.running = true ↔ x.ring = true ∨ x.trig = 0) ∧ t.get Reg.CAP_SNAPSTAT_STATE = (if x.running = true then 2 else 1) ∧
        KeepsRegs [Reg.CAP_SNAPSTAT, Reg.CAP_CMDSTAT, Reg.CAP_EVT] d t)) ∧
      (d.cap.snap = none → Goes (.snapTrig tag) s (capEnds 4 tag 6 d) ∧ Goes (.snapAbort tag) s (capEnds 5 tag 6 d)) ∧
      (∀ x, d.cap.snap = some x →
        Goes (.snapTrig tag) s (capEnds 4 tag 0 (d.snapTrigger 3)) ∧
        (x.running = true → Goes (.snapAbort tag) s (capEnds 5 tag 0 (d.setSnap (some { x with aborting := true })))) ∧
        (x.running = false → Goes (.snapAbort tag) s
          (capEnds 5 tag 0 (((d.setSnap none).set Reg.CAP_SNAPSTAT_STATE 4).raise Reg.CAP_EVT 10)))) ∧
      (d.cap.rot = none → Goes (.rotAbort tag) s (capEnds 6 tag 6 d).rotSuspects) ∧
      (∀ r, d.cap.rot = some r →
        (r.phase = .ready ∨ r.phase = .crossfade ∨ r.phase = .refreshWait ∨ r.phase = .refreshFirst ∨ r.phase = .refreshSecond ∨ r.phase = .refreshApply →
          Goes (.rotAbort tag) s (capEnds 6 tag 6 d)) ∧
        (r.phase ≠ .ready ∧ r.phase ≠ .crossfade ∧ r.phase ≠ .refreshWait ∧ r.phase ≠ .refreshFirst ∧ r.phase ≠ .refreshSecond ∧ r.phase ≠ .refreshApply →
          Goes (.rotAbort tag) s (capEnds 6 tag 0 (d.rotAbandon r 0x17)).rotSuspects))

/-- R107 to R113: a rotation goes through its phases in the order of R108; its first eight can be abandoned, with the status of what went wrong;
with the residual reached twice the crossfade is due; the refresh of the outgoing core ends it. The residual's limits are those of R109.
While a rotation goes on no other is started for a suspect core (R115). -/
def Claim.RotationRunsItsPhases : Prop :=
  ∀ (s : State) (r : Rotation) (m : CalMeas) (g p t : Int),
    let d := s.dev
    let goTo := fun (u : Dev) (ph : RotPhase) => u.setRot (some { r with phase := ph })
    let near := g.natAbs ≤ 50 ∧ p.natAbs ≤ 30 ∧ t.natAbs ≤ 50
    let C := fun (u : Dev) => Goes (.rotationPhaseDone m g p t) s u.rotSuspects
    (∀ u : Dev, u.cap.rot.isSome = true → u.rotSuspects = u) ∧
    (d.held 2 = false →
      (d.cap.rot = none → C d) ∧
      (d.cap.rot = some r →
        (r.phase = .connect → C (goTo d .firstRun)) ∧
        (r.phase = .firstRun → C (if toneOk r.refF r.refL m = true then goTo d .secondRun else d.rotAbandon r 0x11)) ∧
        (r.phase = .secondRun → toneOk r.refF r.refL m = false → C (d.rotAbandon r 0x11)) ∧
        (r.phase = .secondRun → toneOk r.refF r.refL m = true → calAgree r.s m = false → C ((d.calCompare r.s m).rotAbandon r 0x10)) ∧
        (r.phase = .secondRun → toneOk r.refF r.refL m = true → calAgree r.s m = true →
          C (goTo ((d.calCompare r.s m).rotSecond r.s m) .applying)) ∧
        (r.phase = .applying → C (d.rotMoved r)) ∧
        (r.phase = .moved → C
          ((d.setRot (some { r with phase := .coarse, alignAt := d.now, frames := 0, marked := 0 })).set Reg.CAP_ROTSTAT_STEP 3)) ∧
        (r.phase = .coarse → C (goTo d .fine)) ∧
        (r.phase = .fine → near → C ((goTo (d.fineLoop r.s) .verify).set Reg.CAP_ROTSTAT_STEP 4)) ∧
        (r.phase = .fine → ¬near → C (d.fineLoop r.s)) ∧
        (r.phase = .verify → ¬near → C ((goTo d .fine).set Reg.CAP_ROTSTAT_STEP 3)) ∧
        (r.phase = .verify → near → C ((d.setRot (some { r with phase := .ready, res := (g, p, t) })).set Reg.CAP_ROTSTAT_STEP 5)) ∧
        (r.phase = .ready ∨ r.phase = .crossfade → C d) ∧
        (r.phase = .refreshWait → C (goTo ((d.setCore r.x 2 3).setStale r.x true) .refreshFirst)) ∧
        (r.phase = .refreshFirst → C (if toneOk r.refF r.refL m = true then goTo d .refreshSecond else d.refreshFail r 0x11)) ∧
        (r.phase = .refreshSecond → toneOk r.refF r.refL m = false → C (d.refreshFail r 0x11)) ∧
        (r.phase = .refreshSecond → toneOk r.refF r.refL m = true → calAgree r.x m = true →
          C (goTo ((d.calCompare r.x m).rotSecond r.x m) .refreshApply)) ∧
        (r.phase = .refreshSecond → toneOk r.refF r.refL m = true → calAgree r.x m = false →
          C ((d.calCompare r.x m).refreshFail r 0x10)) ∧
        (r.phase = .refreshApply → C (d.refreshDone r))))

/-- R107, R109: a periodic rotation starts PERIOD minutes after the last ended, when it may; an alignment that takes 100 ms is abandoned,
as BLANKED when more than half of its frames were marked, else as MISALIGN. A verification still under way then counts as not reached
(the model's choice, log 104). -/
def Claim.RotationTimers : Prop :=
  ∀ (s : State) (r : Rotation),
    let d := s.dev
    let due := d.cap.rotEnd + d.get Reg.CAP_ROTCFG_PERIOD * 60000000000 ≤ d.now
    let serves := fun (r : Nat) => d.get (Reg.CAP_CC_STAT_STATE (d.roleCore r)) = 4
    let may := d.held 2 = false ∧ d.cap.rot = none ∧ d.migr = true ∧ d.standbyCore.isSome = true ∧ d.cap.replacing = none ∧
      (serves 0 ∨ serves 1) ∧ d.cap.periodicOk = true ∧ d.is Reg.CAP_ROTCFG_AUTO = true ∧ d.coreRun = false
    let aligning := r.phase = .coarse ∨ r.phase = .fine ∨ r.phase = .verify
    (may → due → Goes .rotationPeriodExpiry s (d.rotStart d.longestRole)) ∧
    (¬(may ∧ due) → Goes .rotationPeriodExpiry s d) ∧
    (d.held 2 = false → d.cap.rot = some r → aligning → r.alignAt + 100000000 ≤ d.now →
      Goes .rotationAlignTimeout s (d.rotAbandon r (if r.frames < 2 * r.marked then 0x13 else 0x12)).rotSuspects) ∧
    (d.cap.rot = some r → ¬(aligning ∧ r.alignAt + 100000000 ≤ d.now) → Goes .rotationAlignTimeout s d) ∧
    (d.cap.rot = none → Goes .rotationAlignTimeout s d)

/-- R91: splitting a gain index gives the largest LNA step that leaves the attenuator at 12 dB or less, or no LNA step, and the setting has that
index. -/
def Claim.GainIndexSplits : Prop :=
  ∀ g, g ≤ 99 →
    let s := splitGain g
    s.1 ≤ 3 ∧ s.2 ≤ 63 ∧ gidxOf s.1 s.2 = g ∧ (s.1 = 0 ∨ s.2 ≤ 24) ∧ (∀ l ≤ 3, s.1 < l → 24 < 12 * l + 63 - g)

/-- R92 to R94, R99, R102, R141, R437, R477: a frame of a core in use, while no rotation or replacement runs. It is marked when a gain step
landed in it, its aerial was blanked, an ECC error fell in it, the clock is unlocked or the block is held; a marked frame enters its
bank as zeros, and one of a blanked aerial advances the aerial's count; an unmarked frame with CLIPN clipped codes or more advances
the clip count; a manual setting takes effect, and marks the next frame. -/
def Claim.FramesMarkCountAndSet : Prop :=
  ∀ (s : State) (c : Nat) (xs : List (BitVec 12)) (ecc : Bool),
    let d := s.dev
    let st := d.get (Reg.CAP_CC_STAT_STATE c)
    let blanked := d.frameBlanked c
    let clips := xs.countP (fun v => v == 0x800 || v == 0x801 || v == 0x7FF)
    let mark := (d.capCore c).stepped || blanked || ecc || !d.is Reg.CLK_STAT_LOCK || d.held 2
    (3 ≤ c ∨ st = 0 ∨ st = 5 → Goes (.adcFrame c xs ecc) s d) ∧
    (c < 3 → st ≠ 0 → st ≠ 5 → Goes (.adcFrame c xs ecc) s (d.adcFrame c xs ecc)) ∧
    (c < 3 → st ≠ 0 → st ≠ 5 → d.cap.rot = none → d.cap.replacing = none → Completes (.adcFrame c xs ecc) s (fun d t =>
      (t.capCore c).marked = mark ∧
      (∀ r, d.roleOf c = some r → mark = true → (t.gbank r).frame = List.replicate 64 0) ∧
      (∀ r < 2, t.rd (Reg.CAP_BLKCNT r) = if blanked = true ∧ d.roleOf c = some r then BitVec.ofNat 32 (min (2 ^ 32 - 1) ((d.rd (Reg.CAP_BLKCNT r)).toNat + 1))
        else d.rd (Reg.CAP_BLKCNT r)) ∧
      t.rd (Reg.CAP_CC_CLIP c) = (if mark = false ∧ d.get (Reg.CAP_CC_AGC_CLIPN c) ≤ clips then
        BitVec.ofNat 32 (min (2 ^ 32 - 1) ((d.rd (Reg.CAP_CC_CLIP c)).toNat + 1)) else d.rd (Reg.CAP_CC_CLIP c)) ∧
      (d.get (Reg.CAP_CC_CTL_MODE c) = 1 → d.coreBlanked c = false →
        t.get (Reg.CAP_CC_STAT_LNA c) = d.get (Reg.CAP_CC_CTL_LNA c) ∧ t.get (Reg.CAP_CC_STAT_ATT c) = d.get (Reg.CAP_CC_CTL_ATT c) ∧
        ((t.capCore c).stepped = true ↔ d.get (Reg.CAP_CC_STAT_LNA c) ≠ d.get (Reg.CAP_CC_CTL_LNA c) ∨
          d.get (Reg.CAP_CC_STAT_ATT c) ≠ d.get (Reg.CAP_CC_CTL_ATT c))) ∧
      t.part = d.part ∧ t.lanes = d.lanes ∧ t.hearths = d.hearths ∧ t.captures = d.captures ∧ t.shadow = d.shadow))

/-- R90, R95, R97, R103, R498: the slow loop compares the RMS with the target and its hysteresis and notes the step that is due; a level
update holds the RMS and the peak, takes in the background estimator's update and computes the power at the ball, unless the core is
stale, off or failed. With no RSSI point the power is the level, the nominal gain of the setting and its step corrections. -/
def Claim.LevelsAndSlowLoop : Prop :=
  ∀ (s : State) (c : Nat) (rms peak : BitVec 16) (est : List Int),
    let d := s.dev
    let x := d.capCore c
    let st := d.get (Reg.CAP_CC_STAT_STATE c)
    let level := d.getI (Reg.CAP_CC_LVL_RMS c)
    let target : Int := -5 * (d.get (Reg.CAP_CC_AGC_TARGET c) : Nat)
    let hyst : Int := 5 * (d.get (Reg.CAP_CC_AGC_HYST c) : Nat)
    let g := d.get (Reg.CAP_CC_STAT_GIDX c)
    let looks := c < 3 ∧ (st = 1 ∨ st = 4) ∧ x.mode = 0 ∧ d.coreBlanked c = false ∧ d.rotFrozen c = false ∧
      x.decayAt + d.get (Reg.CAP_CC_AGC_DECAY c) * 1000000 ≤ d.now
    let goes := fun (y : CapCore) => Goes (.agcDecayStep c) s (d.setCapCore c y)
    let e := (d.wr (Reg.CAP_CC_LVL c) (rms ++ peak)).trackStep c est
    let lna := d.get (Reg.CAP_CC_STAT_LNA c)
    let att := d.get (Reg.CAP_CC_STAT_ATT c)
    d.held 2 = false →
      (¬looks → Goes (.agcDecayStep c) s d) ∧
      (looks → target + hyst < level → 0 < g →
        goes { x with decayAt := d.now, gainNext := some ((splitGain (g - 1)).1, (splitGain (g - 1)).2, g - 1) }) ∧
      (looks → level < target - hyst → level ≤ target + hyst → g < d.get (Reg.CAP_CC_CTL_GMAX c) → x.holdTo ≤ d.now →
        goes { x with decayAt := d.now, gainNext := some ((splitGain (g + 1)).1, (splitGain (g + 1)).2, g + 1) }) ∧
      (looks → target - hyst ≤ level → level ≤ target + hyst → goes { x with decayAt := d.now }) ∧
      (looks → level < target - hyst → level ≤ target + hyst → d.get (Reg.CAP_CC_CTL_GMAX c) ≤ g ∨ d.now < x.holdTo →
        goes { x with decayAt := d.now }) ∧
      (3 ≤ c ∨ st = 0 ∨ st = 5 ∨ d.is (Reg.CAP_CC_STAT_STALE c) = true → Goes (.coreLevelUpdate c ⟨rms, peak⟩ est) s d) ∧
      (c < 3 → st ≠ 0 → st ≠ 5 → d.is (Reg.CAP_CC_STAT_STALE c) = false → Goes (.coreLevelUpdate c ⟨rms, peak⟩ est) s
        (e.setI (Reg.CAP_CC_PWR_PWR c) (e.ballPower c rms))) ∧
      (d.is (Reg.CAP_CC_CTL_TRACK c) = false → d.trackStep c est = d) ∧
      ((∀ p < 8, d.rd (Reg.CAL_VAL c (108 + 2 * p)) = 0) → d.ballPower c rms =
        roundOpen (100 * rms.toInt + (-2000 + 500 * (att : Int) - 6000 * (lna : Int)) + d.calHi c (36 + lna) + d.calHi c (40 + att)) 100)

/-- R98 to R101: an enabled blanking input that takes its active level opens the marked window; its release leaves the window open for POST frames of
20 ns; one asserted longer than STUCK ms raises its event, once. A disabled input opens nothing. -/
def Claim.BlankingOpensAndCloses : Prop :=
  ∀ (s : State) (x : Nat),
    let d := s.dev
    let b := d.blank x
    let en := d.is (if x = 0 then Reg.CAP_BLKCFG_EN_A else Reg.CAP_BLKCFG_EN_B)
    let pol := d.is (if x = 0 then Reg.CAP_BLKCFG_POL_A else Reg.CAP_BLKCFG_POL_B)
    let post := d.get (if x = 0 then Reg.CAP_BLKCFG_POST_A else Reg.CAP_BLKCFG_POST_B)
    let due := b.active = true ∧ b.stuckRaised = false ∧ b.since + d.get Reg.CAP_BLKCFG_STUCK * 1000000 ≤ d.now
    (2 ≤ x → Goes (.blankAssert x) s d ∧ Goes (.blankRelease x) s d) ∧
    (x < 2 →
      (en = true → b.active = false → Goes (.blankAssert x) s
        (d.setBlank x { b with level := pol, active := true, stuckRaised := false, since := d.now }).refreshCores) ∧
      (en = true → b.active = true → Goes (.blankAssert x) s (d.setBlank x { b with level := pol }).refreshCores) ∧
      (b.active = true → Goes (.blankRelease x) s
        (d.setBlank x { b with level := !pol, active := false, endAt := d.now + 20 * post }).refreshCores) ∧
      (b.active = false → Goes (.blankRelease x) s (d.setBlank x { b with level := !pol }).refreshCores) ∧
      (en = false → b.active = false → Goes (.blankAssert x) s (d.setBlank x { b with level := pol }).refreshCores) ∧
      (d.held 2 = false → due → Goes (.blkstuck x) s ((d.setBlank x { b with stuckRaised := true }).raise Reg.CAP_EVT (7 + x)))) ∧
    (¬(x < 2 ∧ due) → Goes (.blkstuck x) s d)

/-- R114: the level each monitor's reading reaches; below its suspect level the core's mark of it goes; a failure of a core in service with
its standby ready isolates it at once, with cause and time, and its role waits for the standby. -/
def Claim.MonitorsSuspectAndFail : Prop :=
  ∀ (s : State) (c cause sub v start : Nat) (others : Bool),
    let d := s.dev
    let st := d.get (Reg.CAP_CC_STAT_STATE c)
    let C := Instr.coreMonitorWindow c cause sub v others start
    let lvl := monitorLevel cause v others
    (lvl = 2 ↔ (cause = 1 ∧ v < 8 ∧ others = true) ∨ (cause = 2 ∧ 1000 < v) ∨ (cause = 3 ∧ 10000 < v) ∨ (cause = 4 ∧ 0 < v) ∨ (cause = 5 ∧ 16 ≤ v)) ∧
    (lvl = 0 ↔ (cause = 1 ∧ 32 ≤ v) ∨ (cause = 2 ∧ v ≤ 500) ∨ (cause = 3 ∧ v ≤ 5000) ∨ (cause = 4 ∧ v = 0) ∨ (cause = 5 ∧ v < 4) ∨
      cause = 0 ∨ 6 ≤ cause) ∧
    (3 ≤ c ∨ st = 0 ∨ st = 5 → Goes C s d) ∧
    (d.held 2 = false → c < 3 → st ≠ 0 → st ≠ 5 →
      (lvl = 0 → Goes C s ((d.updCore c (fun x => { x with sus := x.sus.filter (· != (cause, sub % 8)) })).refreshSuspect c)) ∧
      (lvl = 1 → d.rotReady = false → Completes C s (fun d t => t.is (Reg.CAP_CC_STAT_SUSPECT c) = true ∧
        t.get (Reg.CAP_CC_HEALTH_CAUSE c) = cause ∧ t.get (Reg.CAP_CC_STAT_STATE c) = st ∧
        (d.is (Reg.CAP_CC_STAT_SUSPECT c) = false → d.evtFree Reg.CAP_EVT 3 0 = true → (t.rd Reg.CAP_EVT).getLsbD 3 = true) ∧
        t.lanes = d.lanes ∧ t.hearths = d.hearths)) ∧
      (∀ r, lvl = 2 → d.roleOf c = some r → d.get Reg.CAP_ROLE_CORE_SB ≠ c → d.standbyCore.isSome = true → d.migr = true →
        d.cap.rot = none → d.cap.replacing = none → d.cal.cmd = none → start < 2 ^ 64 → Completes C s (fun d t =>
          t.get (Reg.CAP_CC_STAT_STATE c) = 5 ∧ t.get (Reg.CAP_CC_STAT_SRC c) = 0 ∧ t.get (Reg.CAP_CC_HEALTH_CAUSE c) = cause ∧
          t.rd64 (Reg.CAP_CC_FAULT_LO c) (Reg.CAP_CC_FAULT_HI c) = start ∧ (t.capCore c).calibrated = false ∧
          t.cap.replacing = some { failed := c, s := d.get Reg.CAP_ROLE_CORE_SB, role := r, since := d.now })))

/-- R116: when the switch to the standby has settled it is in service in the failed core's role, on its aerial and, where it has not joined it
before, with the core's gain of the time of the fault; and there is no standby. -/
def Claim.ReplacementTakesTheRole : Prop :=
  ∀ (s : State) (p : Replacing),
    let d := s.dev
    (d.cap.replacing = none → Goes .coreReplacementSettled s d) ∧
    (d.held 2 = false → d.cap.replacing = some p → p.failed < 3 → p.s < 3 → p.role < 2 → Completes .coreReplacementSettled s (fun d t =>
      let g := d.gainAt p.failed (d.rd64 (Reg.CAP_CC_FAULT_LO p.failed) (Reg.CAP_CC_FAULT_HI p.failed))
      t.roleCore p.role = p.s ∧ t.get Reg.CAP_ROLE_CORE_SB = 3 ∧ t.get (Reg.CAP_CC_STAT_STATE p.s) = 4 ∧
      t.get (Reg.CAP_CC_STAT_SRC p.s) = p.role + 1 ∧ t.is (Reg.CAP_CC_STAT_STALE p.s) = false ∧
      (p.joined = false → g.1 < 4 → g.2 < 64 → t.get (Reg.CAP_CC_STAT_LNA p.s) = g.1 ∧ t.get (Reg.CAP_CC_STAT_ATT p.s) = g.2) ∧
      t.cap.replacing = none ∧ (t.capCore p.s).since = d.now))

/-- R121, R123, R124, R315: a complete record of a running snapshot is written to its place in the ring, counted, and ends the snapshot when it was
the last; one that cannot be written in time is skipped; with none complete, or for a record of the other kind of snapshot, nothing happens. -/
def Claim.SnapshotWritesItsRecords : Prop :=
  ∀ (s : State) (n : Nat) (x : Snap) (a : SnapAcc) (rest : List SnapAcc) (t : Nat × Nat),
    let d := s.dev
    let C := fun skip => Instr.snapRecordDone (x.mode != 0) n skip
    let e := { x with full := rest }
    let w := d.dramWrite (x.base + 4096 + x.written % x.n * x.z) (packCodes a.codes ++ a.desc (x.written + x.skipped))
    let w := if x.n ≤ x.written then w.set Reg.CAP_SNAPSTAT_WRAPPED 1 else w
    let w := w.incSat Reg.CAP_SNAPSTAT_RECORDS 1
    let on := Goes (C false) s (w.setSnap (some { e with written := x.written + 1 }))
    let stop := fun b => Goes (C false) s (w.snapStop { e with written := x.written + 1 } b)
    (∀ lane skip, d.cap.snap = none → Goes (.snapRecordDone lane n skip) s d) ∧
    (∀ lane skip, d.cap.snap = some x → x.running = false ∨ lane ≠ (x.mode != 0) → Goes (.snapRecordDone lane n skip) s d) ∧
    (d.held 2 = false → d.cap.snap = some x → x.running = true →
      (∀ skip, x.mode = 0 → x.full = [] → Goes (C skip) s d) ∧
      (x.mode = 0 → x.full = a :: rest →
        (x.aborting = false → Goes (C true) s ((d.raise Reg.ASH_EVT 8).setSnap (some { e with skipped := x.skipped + 1 }))) ∧
        (x.aborting = true → Goes (C true) s ((d.raise Reg.ASH_EVT 8).snapStop e true)) ∧
        (x.aborting = false → x.ring = false → x.written + 1 < x.n → on) ∧
        (x.aborting = false → x.ring = false → x.n ≤ x.written + 1 → stop false) ∧
        (x.aborting = false → x.ring = true → x.trigRec = none → on) ∧
        (x.aborting = false → x.ring = true → x.trigRec = some t → x.written < t.1 + x.post → on) ∧
        (x.aborting = false → x.ring = true → x.trigRec = some t → t.1 + x.post ≤ x.written → stop false) ∧
        (x.aborting = true → stop true)) ∧
      (∀ skip, x.mode ≠ 0 → (SMap.get {} x.lacc n : SnapLane).full = [] → Goes (C skip) s d) ∧
      (∀ r rs, x.mode ≠ 0 → (SMap.get {} x.lacc n : SnapLane).full = r :: rs →
        Goes (C false) s (d.snapRecord (x.takeLane n) (d.laneRecord n (SMap.get 0 x.laneSeq n) r.2 r.1))))

/-! ## The grate (R128 to R147) -/

/-- R134, R138, R139, R141, R142: a lane whose chain does not run presents no sample, and none comes before its time. One that is due is
mixed, scaled by 2^GAIN and saturated; it advances the sample number, counts an erasure when its weight reaches ETHR (any weight for
0), in refill, out of span or without a core, and counts and remembers a saturation. Its weight is 0 where its taps reach no marked
sample and 256 where they reach only marked ones. What waits for the lane's registers applies after the sample. -/
def Claim.LaneSamplesMarkAndCount : Prop :=
  (∀ (x : GrateBank) (lo hi w : Nat), let k := x.weight lo hi w
    ((∀ p ∈ x.spans hi, p.2 ≤ lo ∨ hi ≤ p.1) → lo < hi → (∀ p ∈ x.spans hi, p.1 < p.2) → k = 0) ∧
    ((∃ p ∈ x.spans hi, p.1 ≤ lo ∧ hi ≤ p.2) → k = 256) ∧
    ((∃ p ∈ x.spans hi, p.1 < hi ∧ lo < p.2) → 1 ≤ k) ∧ k ≤ 256) ∧
  ∀ (s : State) (n : Nat) (i q : Int) (w : Nat),
    let d := s.dev
    let p := pageOf (Reg.GRT_LCFG (n / 8) (n % 8))
    let m := (d.lane n).next
    let due := n < d.part.lanes ∧ d.is (Reg.GRT_LSTAT_RUN (n / 8) (n % 8)) = true ∧ m * d.grid n + d.laneDelay n ≤ d.scount
    let ethr := d.get (Reg.GRT_LGAIN_ETHR (n / 8) (n % 8))
    let weight := d.laneWeight n m w
    let mark := (ethr = 0 ∧ weight ≠ 0) ∨ (ethr ≠ 0 ∧ ethr ≤ weight) ∨ d.is (Reg.GRT_LSTAT_REFILL (n / 8) (n % 8)) = true ∨
      d.is (Reg.GRT_LSTAT_SPAN (n / 8) (n % 8)) = true ∨ d.is (Reg.GRT_LSTAT_NOCORE (n / 8) (n % 8)) = true
    let v := mixed (d.ncoPhase n (m * d.grid n)) i q
    let gain := fun (v : Int) => roundOpen (v * 2 ^ d.get (Reg.GRT_LGAIN_GAIN (n / 8) (n % 8))) 32768
    let big := 32767 < (gain v.1).natAbs ∨ 32767 < (gain v.2).natAbs
    let one := fun (a : Nat) => BitVec.ofNat 32 (min ((d.rd a).toNat + 1) (2 ^ 32 - 1))
    (¬due → Goes (.laneOutputSample n i q w) s d) ∧
    (d.held 3 = true → Goes (.laneOutputSample n i q w) s d) ∧
    (d.held 3 = false → due → Goes (.laneOutputSample n i q w) s ((d.laneSample n i q w).grtApply n)) ∧
    (d.held 3 = false → due → d.captures.filter (fun c => c.page == p) = [] → Completes (.laneOutputSample n i q w) s (fun d t =>
      (t.lane n).next = m + 1 ∧ ((t.lane n).sat = true ↔ (d.lane n).sat = true ∨ big) ∧
      (big → t.rd (Reg.GRT_LSATCNT (n / 8) (n % 8)) = one (Reg.GRT_LSATCNT (n / 8) (n % 8))) ∧
      (¬big → t.rd (Reg.GRT_LSATCNT (n / 8) (n % 8)) = d.rd (Reg.GRT_LSATCNT (n / 8) (n % 8))) ∧
      (mark → t.rd (Reg.GRT_LERACNT (n / 8) (n % 8)) = one (Reg.GRT_LERACNT (n / 8) (n % 8))) ∧
      (¬mark → t.rd (Reg.GRT_LERACNT (n / 8) (n % 8)) = d.rd (Reg.GRT_LERACNT (n / 8) (n % 8))) ∧
      t.captures = d.captures ∧ t.shadow = d.shadow ∧ t.devtime = d.devtime ∧ t.scount = d.scount))

/-- R129, R144, R138, R147: a bin frame applies the bank page and enters the power averages while they are enabled; a refill whose time is
over ends with its event; a saturation interval reports the lanes that saturated and forgets them; a power average that is complete is
stored bin by bin, and a new one begins. -/
def Claim.GrateEventsAct : Prop :=
  ∀ (s : State) (n : Nat) (a b : List (List (Int × Int))),
    let d := s.dev
    let e := d.pageApply 0x50000 .intact
    let refill := Reg.GRT_LSTAT_REFILL (n / 8) (n % 8)
    let timeUp := n < d.part.lanes ∧ d.is refill = true ∧ (d.lane n).refillTo ≤ d.scount
    let sum := fun (x : GrateBank) (fs : List (List (Int × Int))) (k : Nat) => ((x.clean.zip fs).map (fun p =>
      if p.1 = true then (p.2.getD k (0, 0)).1.natAbs ^ 2 + (p.2.getD k (0, 0)).2.natAbs ^ 2 else 0)).foldl (· + ·) 0
    let word := fun (x : GrateBank) (fs : List (List (Int × Int))) (k : Nat) => if x.clean.count true = 0 then (0x00018000 : Word)
      else (Config.decibel (sum x fs k) (x.clean.count true * 2 ^ 30)).setWidth 32
    d.held 3 = false →
      (Goes .binFrame s (if e.is Reg.GRT_BANKCFG_PWREN = true then { (e.binIn 0).binIn 1 with binCount := e.binCount + 1 } else e)) ∧
      (timeUp → Goes (.refillEnd n) s ((d.set refill 0).raise Reg.GRT_EVT 1)) ∧
      (¬timeUp → Goes (.refillEnd n) s d) ∧
      Completes .saturationInterval s (fun d t =>
        (∀ k < 3, ∀ j < 32, (t.rd (Reg.GRT_SATPEND k)).getLsbD j = (decide (32 * k + j < d.part.lanes) && (d.lane (32 * k + j)).sat)) ∧
        (∀ m < d.part.lanes, t.lane m = { d.lane m with sat := false }) ∧
        (d.evtFree Reg.GRT_EVT 0 0 = true → (∃ m < d.part.lanes, (d.lane m).sat = true) → (t.rd Reg.GRT_EVT).getLsbD 0 = true) ∧
        ((∀ m < d.part.lanes, (d.lane m).sat = false) → t.rd Reg.GRT_EVT = d.rd Reg.GRT_EVT) ∧
        KeepsRegs [Reg.GRT_SATPEND 0, Reg.GRT_SATPEND 1, Reg.GRT_SATPEND 2, Reg.GRT_EVT] d t) ∧
      (¬(d.is Reg.GRT_BANKCFG_PWREN = true ∧ 2 ^ d.get Reg.GRT_BANKCFG_AVG ≤ d.binCount) → Goes (.binPowerUpdate a b) s d) ∧
      (d.is Reg.GRT_BANKCFG_PWREN = true → 2 ^ d.get Reg.GRT_BANKCFG_AVG ≤ d.binCount → Completes (.binPowerUpdate a b) s (fun d t =>
        (∀ k < 512, t.rd (Reg.GRT_PWR 0 k) = word d.bankA a k ∧ t.rd (Reg.GRT_PWR 1 k) = word d.bankB b k) ∧ t.binCount = 0 ∧
        t.bankA.clean = [] ∧ t.bankB.clean = [] ∧ t.bankA.marks = d.bankA.marks ∧ t.bankB.marks = d.bankB.marks ∧
        (d.evtFree Reg.GRT_EVT 3 0 = true → (t.rd Reg.GRT_EVT).getLsbD 3 = true)))

/-! ## Lanes and hearths (R153 to R193) -/

/-- R4, R5, R155, R156, R163, R175, R178: the lane commands. On an absent lane they end ABSENT; on a busy one the command is lost. Each status, and what an accepted
command does. -/
def Claim.LaneCommandsAnswer : Prop :=
  ∀ (s : State) (n arg tag : Nat) (dmg : Damage),
    let d := s.dev
    let lost := d.wr (Reg.LANE_CMDSTAT n) (putBits (d.rd (Reg.LANE_CMDSTAT n)) 1 1 1)
    let busy := (d.rd (Reg.LANE_CMDSTAT n)).getLsbD 0
    let named := arg ≠ 0x7F
    let all := fun (u : Dev) => Goes (.bind n arg tag dmg) s u ∧ Goes (.unbind n tag) s u ∧ Goes (.move n arg tag) s u ∧ Goes (.restart n tag dmg) s u
    let absent := fun (op : Nat) => d.cmdAbsent (Reg.LANE_CMDSTAT n) op tag
    let untested := d.hstate arg = stUntested ∨ (d.hstate arg = stTesting ∧ (d.hearth arg).testKind = 1)
    let waits := fun (w : Option Nat) => (d.cmdStart (Reg.LANE_CMDSTAT n) 1 tag).updLane n (fun x => { x with waitBind := some w })
    (d.part.lanes ≤ n → Goes (.bind n arg tag dmg) s (absent 1) ∧ Goes (.unbind n tag) s (absent 2) ∧ Goes (.move n arg tag) s (absent 3) ∧
      Goes (.restart n tag dmg) s (absent 4)) ∧
    (∀ op : Nat, op < 256 → tag < 256 → (absent op).rd (Reg.LANE_CMDSTAT n) = BitVec.ofNat 32 (op * 2 ^ 24 + 0xFE * 2 ^ 16 + tag * 2 ^ 8)) ∧
    (n < d.part.lanes → busy = true → all lost) ∧
    (n < d.part.lanes → busy = false →
      (d.migrating n = true → Goes (.bind n arg tag dmg) s (d.laneDone n 1 tag 2) ∧ Goes (.unbind n tag) s (d.laneDone n 2 tag 2) ∧
        Goes (.move n arg tag) s (d.laneDone n 3 tag 2)) ∧
      (d.migrating n = false →
        ((d.bound n).isSome = true → Goes (.bind n arg tag dmg) s (d.laneDone n 1 tag 7)) ∧
        (∀ h hs, d.bound n = none → d.hearthsIn stFree = h :: hs → Goes (.bind n 0x7F tag dmg) s ((d.bindStart n h dmg).laneDone n 1 tag 0)) ∧
        (d.bound n = none → d.hearthsIn stFree = [] → d.awaitsTest = true → Goes (.bind n 0x7F tag dmg) s (waits (some 0x7F))) ∧
        (d.bound n = none → d.hearthsIn stFree = [] → d.awaitsTest = false → Goes (.bind n 0x7F tag dmg) s (d.laneDone n 1 tag 5)) ∧
        (d.bound n = none → named → d.part.hearths ≤ arg → Goes (.bind n arg tag dmg) s (d.laneDone n 1 tag 0xFE)) ∧
        (d.bound n = none → named → arg < d.part.hearths → d.hstate arg = stRetired → Goes (.bind n arg tag dmg) s (d.laneDone n 1 tag 8)) ∧
        (d.bound n = none → named → arg < d.part.hearths → untested → Goes (.bind n arg tag dmg) s (waits (some arg))) ∧
        (d.bound n = none → named → arg < d.part.hearths → ¬untested → d.hstate arg ≠ stRetired → d.hstate arg ≠ stFree →
          Goes (.bind n arg tag dmg) s (d.laneDone n 1 tag 7)) ∧
        (d.bound n = none → named → arg < d.part.hearths → d.hstate arg = stFree →
          Goes (.bind n arg tag dmg) s ((d.bindStart n arg dmg).laneDone n 1 tag 0)) ∧
        (d.bound n = none → Goes (.unbind n tag) s (d.laneDone n 2 tag 6)) ∧
        (∀ h, d.bound n = some h → d.is (Reg.LANE_CTL_EN n) = true → Goes (.unbind n tag) s (d.laneDone n 2 tag 7)) ∧
        (∀ h, d.bound n = some h → d.is (Reg.LANE_CTL_EN n) = false → Completes (.unbind n tag) s (fun _ t =>
          t.bound n = none ∧ t.get (Reg.LANE_CKPT_VALID n) = 0 ∧ t.get (Reg.LANE_BIND_GSTATE n) = 0)) ∧
        (d.migr = false → Goes (.move n arg tag) s (d.laneDone n 3 tag 4)) ∧
        (d.migr = true → d.bound n = none → Goes (.move n arg tag) s (d.laneDone n 3 tag 6)) ∧
        (∀ h, d.migr = true → d.bound n = some h → d.hearthsIn stFree = [] → Goes (.move n 0x7F tag) s (d.laneDone n 3 tag 5)) ∧
        (∀ h, d.migr = true → d.bound n = some h → named → d.nameStatus arg ≠ 0 →
          Goes (.move n arg tag) s (d.laneDone n 3 tag (d.nameStatus arg))) ∧
        (∀ h, d.migr = true → d.bound n = some h → named → d.nameStatus arg = 0 → (d.hearth h).running = false →
          Goes (.move n arg tag) s ((d.moveStopped n h arg).laneDone n 3 tag 0)) ∧
        (∀ h, d.migr = true → d.bound n = some h → named → d.nameStatus arg = 0 → (d.hearth h).running = true →
          Goes (.move n arg tag) s ((d.planMove n arg false).2.laneDone n 3 tag (if (d.planMove n arg false).1 = true then 0 else 5)))) ∧
      (d.bound n = none → Goes (.restart n tag dmg) s (d.laneDone n 4 tag (if d.migrating n = true then 2 else 6))) ∧
      (∀ h, d.bound n = some h → d.is (Reg.LANE_CTL_EN n) = false → Goes (.restart n tag dmg) s (d.laneDone n 4 tag 3)) ∧
      (∀ h, d.bound n = some h → d.is (Reg.LANE_CTL_EN n) = true → d.migrating n = true → (d.lane n).halted = false →
        Goes (.restart n tag dmg) s (d.laneDone n 4 tag 2)) ∧
      (∀ h, d.bound n = some h → d.is (Reg.LANE_CTL_EN n) = true → d.migrating n = false → Goes (.restart n tag dmg) s
        ((if (d.lane n).started = true then d.laneRestart n h dmg else d.laneStart n 1 dmg).laneDone n 4 tag 0)) ∧
      (∀ h, d.bound n = some h → d.is (Reg.LANE_CTL_EN n) = true → d.migrating n = true → (d.lane n).halted = true →
        let e := d.haltedMig n h
        Goes (.restart n tag dmg) s ((if (e.lane n).started = true then e.laneRestart n h dmg else e.laneStart n 1 dmg).laneDone n 4 tag 0)))

/-- R155: a BIND or an EN that waits for a tested hearth takes it when it is FREE, waits on while a test is to come, and otherwise ends. -/
def Claim.DeferredBindTakesAHearth : Prop :=
  ∀ (s : State) (n a h : Nat) (hs : List Nat) (dmg : Damage),
    let d := s.dev
    let C := Instr.deferredBind n dmg
    let off := d.updLane n (fun x => { x with waitBind := none })
    ((d.lane n).waitBind = none → Goes C s d) ∧
    ((d.lane n).waitBind = some (some 0x7F) → d.hearthsIn stFree = h :: hs → Goes C s ((off.bindStart n h dmg).laneEnd n 0)) ∧
    ((d.lane n).waitBind = some (some a) → a ≠ 0x7F → d.hstate a = stFree → Goes C s ((off.bindStart n a dmg).laneEnd n 0)) ∧
    ((d.lane n).waitBind = some (some a) → a ≠ 0x7F → d.hstate a = stRetired → Goes C s (off.laneEnd n 8)) ∧
    ((d.lane n).waitBind = some (some a) → a ≠ 0x7F → d.hstate a ≠ stFree → d.hstate a ≠ stRetired →
      Goes C s (if d.awaitsTest = true then d else off.laneEnd n 5)) ∧
    ((d.lane n).waitBind = some none → d.hearthsIn stFree = h :: hs → Goes C s ((off.bindTo n h).startOn n h 0 dmg)) ∧
    ((d.lane n).waitBind = some (some 0x7F) ∨ (d.lane n).waitBind = some none → d.hearthsIn stFree = [] → d.awaitsTest = true → Goes C s d) ∧
    ((d.lane n).waitBind = some (some 0x7F) → d.hearthsIn stFree = [] → d.awaitsTest = false → Goes C s (off.laneEnd n 5)) ∧
    ((d.lane n).waitBind = some none → d.hearthsIn stFree = [] → d.awaitsTest = false → Goes C s (off.raise (Reg.LANE_STAT n) 11))

/-- R153, R154, R164, R171, R186, R187: start-up tests end in FREE or RETIRED; isolation ends in RETIRED, or in the test after a stall; the rolling
self-test visits a suspect unit first, tests one unit at a time, and its end is an event. -/
def Claim.HearthsAreTestedAndRetired : Prop :=
  ∀ (s : State) (h u : Nat) (us fails : List Nat) (pass : Bool),
    let d := s.dev
    let st := d.hstate h
    let waiting := (d.hearthsIn stTesting).filter (fun h => (d.hearth h).testKind == 1)
    let periodOver := d.rolling.startedAt = 0 ∨ d.rolling.startedAt - 1 + d.get Reg.HMG_RSTCFG_PERIOD * 1000000000 ≤ d.now
    let due := d.is Reg.HMG_RSTCFG_EN = true ∧ d.migr = true ∧ d.rolling.unit = none ∧ periodOver
    let visits := fun (r : Rolling) => ({ d with rolling := { r with startedAt := d.now + 1 } } : Dev)
    let unit := fun (e : Dev) (u : Nat) => (e.set Reg.HMG_RSTSTAT_KIND (if u < 128 then 0 else 1)).set Reg.HMG_RSTSTAT_UNIT (u % 128)
    (waiting = [] → Goes (.startupBistDone fails) s d) ∧
    Completes (.startupBistDone fails) s (fun _ t => ∀ g ∈ waiting, t.hstate g = (if g ∈ fails then stRetired else stFree) ∧
      t.get (Reg.HST_BIST_RESULT g) = (if g ∈ fails then 2 else 1) ∧ (t.hearth g).passed = !fails.contains g) ∧
    (st ≠ stIsolated → Goes (.isolationComplete h) s d) ∧
    (st = stIsolated → (d.hearth h).testKind = 4 → Goes (.isolationComplete h) s ((d.freeHearthSet h).setHstate h stTesting none)) ∧
    (st = stIsolated → (d.hearth h).testKind ≠ 4 → Completes (.isolationComplete h) s (fun _ t =>
      t.hstate h = stRetired ∧ t.laneOf h = none ∧ (t.hearth h).set = none)) ∧
    (¬due → Goes .rollingSelftestTick s d) ∧
    (due → d.rolling.suspects = u :: us → u < 128 → Goes .rollingSelftestTick s
      ((unit (visits { d.rolling with suspects := us, lastOfPass := false }) u).rollHearth u)) ∧
    (due → d.rolling.suspects = u :: us → 128 ≤ u → Goes .rollingSelftestTick s
      ((unit (visits { d.rolling with suspects := us, lastOfPass := false }) u).rollOven (u - 128))) ∧
    (due → d.rolling.suspects = [] → (∀ v < 152, d.inScope v = false) → Goes .rollingSelftestTick s (visits d.rolling)) ∧
    (due → d.rolling.suspects = [] → u < 128 → d.rolling.next ≤ u → d.inScope u = true → (∀ v < u, d.rolling.next ≤ v → d.inScope v = false) →
      Goes .rollingSelftestTick s ((unit (visits { d.rolling with next := u + 1, lastOfPass := d.lastInPass u }) u).rollHearth u)) ∧
    (st = stFree → d.rollHearth h = d.testHearth h) ∧
    (u < 128 → d.hstate u ≠ stTesting ∨ ((d.hearth u).testKind ≠ 2 ∧ (d.hearth u).testKind ≠ 4) → Goes (.rollingTestDone u pass) s d) ∧
    (u < 128 → d.hstate u = stTesting → (d.hearth u).testKind = 2 → Completes (.rollingTestDone u pass) s (fun _ t =>
      t.hstate u = (if pass = true then stFree else stRetired) ∧ (t.hearth u).passed = pass ∧ t.rolling.unit ≠ some u ∧
      t.get (Reg.HST_BIST_RESULT u) = (if pass = true then 1 else 2))) ∧
    (u < 128 → d.hstate u = stTesting → (d.hearth u).testKind = 4 → Goes (.rollingTestDone u true) s (d.bistHearth u true)) ∧
    (128 ≤ u → d.rolling.unit = some u → d.get (Reg.OVN_OSTAT_STATE (u - 128)) = 2 →
      Goes (.rollingTestDone u pass) s ((d.ovenTested (u - 128) pass).rollEnd u pass)) ∧
    (128 ≤ u → d.rolling.unit ≠ some u → Goes (.rollingTestDone u pass) s d)

/-- R163, R164: a stoker that retires nothing for 10 µs outside a wait has failed, at the time of its last retirement. A program that completes no tick
for WDOG times 10 ms has stalled: the first stall of a lane migrates it, a second within 10 s halts it. -/
def Claim.SilenceIsAFailure : Prop :=
  ∀ (s : State) (h n : Nat) (hs : List Nat),
    let d := s.dev
    let x := d.hearth h
    let silent := x.running = true ∧ (x.urgOn = true ∨ x.wait = none) ∧ x.lastRetire + 10000 ≤ d.now
    let w := d.get (Reg.LANE_CTL_WDOG n)
    let stalled := x.running = true ∧ w ≠ 0 ∧ x.lastTick + w * 10000000 ≤ d.now
    let again := (d.lane n).stallAt ≠ 0 ∧ d.now < (d.lane n).stallAt - 1 + 10000000000
    let C := Instr.stallWatchdogExpiry h
    (silent → (∀ m, d.laneOf h = some m → m < d.part.lanes) →
      Goes (.retireTimeout [h]) s (d.declareFail h 5 x.lastRetire (d.devAt x.lastRetire))) ∧
    (¬silent → Goes (.retireTimeout [h]) s d) ∧
    Goes (.retireTimeout hs) s (d.declareAll ((hs.eraseDups.filter d.retireLate).map (fun g => (g, 5, (d.hearth g).lastRetire)))) ∧
    (d.laneOf h = none → Goes C s d) ∧
    (d.laneOf h = some n → ¬stalled → Goes C s d) ∧
    (d.laneOf h = some n → stalled → d.bound n ≠ some h → Goes C s (d.declareFail h 9 x.lastTick (d.devAt x.lastTick))) ∧
    (d.laneOf h = some n → stalled → d.bound n = some h → again → Goes C s
      ((((d.markFrom n x.lastTick).2.setHstate h stPrimary (some n)).haltLane n [2, 10]).endMig n 0x14 h h)) ∧
    (d.laneOf h = some n → stalled → d.bound n = some h → ¬again → Goes C s
      (((d.updLane n (fun y => { y with stallAt := d.now + 1 })).raise (Reg.LANE_STAT n) 10).declareFail h 9 x.lastTick (d.devAt x.lastTick)))

/-- R29: hearths that fail at the same moment have their lanes served guarded lanes first, and among guarded ones, and among the others,
in ascending lane number; every failure is served, and none that did not happen. -/
def Claim.SameMomentFailuresAreServedInOrder : Prop :=
  ∀ (d : Dev) (fs : List Failure),
    let guarded := fun (f : Failure) => d.is (Reg.LANE_CTL_GUARD f.lane)
    (d.serveOrder fs).Pairwise (fun f g => f.lane ≠ g.lane →
      (guarded f = true ∧ guarded g = false) ∨ (guarded f = guarded g ∧ f.lane < g.lane)) ∧
    (∀ f, f ∈ d.serveOrder fs ↔ f ∈ fs ∧ f.lane < d.part.lanes)

/-- R153, R163, R171: a hearth in use that is declared failed stops, is ISOLATED with its cause and the time of its fault, and leaves its lane. Its lane,
unguarded and with a FREE hearth to go to, is bound to the lowest of them, which joins as its spare in an unplanned migration. A hearth not in use stays
as it is. -/
def Claim.FailureMigratesToASpare : Prop :=
  ∀ (d : Dev) (h cause fault faultT n p : Nat) (ps : List Nat),
    let t := d.declareFail h cause fault faultT
    (d.hstate h < 2 ∨ 5 < d.hstate h → t = d) ∧
    (2 ≤ d.hstate h → d.hstate h ≤ 5 → d.laneOf h = none → cause < 16 → faultT < 2 ^ 64 →
      t.hstate h = stIsolated ∧ t.laneOf h = none ∧ (t.hearth h).running = false ∧ t.get (Reg.HST_STAT_CAUSE h) = cause ∧
      t.rd64 (Reg.HST_FAULT_LO h) (Reg.HST_FAULT_HI h) = faultT ∧ t.lanes = d.lanes) ∧
    (3 ≤ d.hstate h → d.hstate h ≤ 5 → n < d.part.lanes → d.laneOf h = some n → d.bound n = some h → (d.hearth h).running = true →
      (d.lane n).mig = none → (d.lane n).swap = none → d.shadowOf n = none → d.migr = true → d.hearthsIn stFree = p :: ps → (d.hearth p).set = none →
      t.hstate h = stIsolated ∧ (t.hearth h).running = false ∧ t.bound n = some p ∧ t.hstate p = stJoining ∧ t.laneOf p = some n ∧
      t.get (Reg.LANE_BIND_MSTATE n) = 1 ∧ (t.hearth p).set = (d.hearth h).set ∧
      ∃ m, (t.lane n).mig = some m ∧ m.kind = .unplanned ∧ m.src = h ∧ m.dst = p ∧ m.fault = fault ∧ m.faultT = faultT ∧ m.loaded = false)

/-- R171, R173, R175 to R177, R180, R228: the steps of a migration, each only in its place: the load resumes the target from the latest usable checkpoint or
starts it cold; a replay that is not at the live point goes on; a planned migration cuts over when its target is live; a resync without an answer
resumes; a splice that finds no match within the draw delay ends with its status. -/
def Claim.MigrationTakesItsSteps : Prop :=
  ∀ (s : State) (n h r : Nat) (m : Mig) (dmg : Damage),
    let d := s.dev
    let slot := d.laneSlot n
    let load := Instr.migrationLoadDone n dmg
    let cut := Instr.plannedCutover n
    let miss := Instr.spliceMatchTimeout n
    let e := (d.loadDamage slot dmg).2
    let g := d.goLive n h r
    ((d.lane n).mig = none → Goes load s d ∧ Goes cut s d ∧ Goes miss s d) ∧
    ((d.lane n).mig = some m →
      (m.loaded = true ∨ m.copying = true ∨ (d.lane n).halted = true → Goes load s d) ∧
      (m.loaded = false → m.copying = false → (d.lane n).halted = false →
        (dmg = .bothCopies → Goes load s (e.loadStop n m.dst m.src)) ∧
        (dmg ≠ .bothCopies → e.tiArea m.dst = none → Goes load s (e.coldTarget n m slot)) ∧
        (∀ i sm, dmg ≠ .bothCopies → e.tiArea m.dst = some (i, sm) →
          (e.pickCkpt n sm ((e.lane n).sampleAt m.ckT) = none → Goes load s (e.coldTarget n m slot)) ∧
          (∀ k c, e.pickCkpt n sm ((e.lane n).sampleAt m.ckT) = some (k, c) → Goes load s (e.resumeTarget n m slot k c sm)))) ∧
      (m.kind ≠ .planned ∨ m.live = false ∨ (d.lane n).halted = true → Goes cut s d) ∧
      (m.kind = .planned → m.live = true → (d.lane n).halted = false → m.test = false → m.ahead = [] → m.fade = [] → (d.hearth m.src).flq = [] →
        (d.hearth m.dst).own = [] → n < d.part.lanes → m.dst < d.part.hearths → Completes cut s (fun _ t =>
        t.bound n = some m.dst ∧ t.hstate m.dst = stPrimary ∧ t.get (Reg.LANE_MIG_STATUS n) = (if m.diverged = true then 2 else 6) ∧
        (t.lane n).mig = none ∧ t.get (Reg.LANE_BIND_MSTATE n) = 0)) ∧
      (m.kind = .planned ∨ m.loaded = false ∨ m.spliced = true → Goes miss s d) ∧
      (m.kind ≠ .planned → m.loaded = true → m.spliced = false →
        (d.now < m.fault + d.get (Reg.LANE_DRAW_ACTIVE n) * 1000000 → Goes miss s d) ∧
        (m.fault + d.get (Reg.LANE_DRAW_ACTIVE n) * 1000000 ≤ d.now → Goes miss s
          (((d.setReacq n m.fault).updLane n (fun x => { x with floor := m.kLast })).endMig n 0x13 m.src m.dst)))) ∧
    (d.laneOf h = none ∨ (d.hearth h).replay = none → Goes (.replayLivePoint h) s d) ∧
    (d.laneOf h = some n → (d.hearth h).replay = some r →
      (r < (d.lane n).bkNext ∨ 1024 < (d.hearth h).fifo.length + (d.replayRest n r).length → Goes (.replayLivePoint h) s d) ∧
      ((d.lane n).bkNext ≤ r → (d.hearth h).fifo.length + (d.replayRest n r).length ≤ 1024 →
        ((g.lane n).swap = some h → Goes (.replayLivePoint h) s (g.swapShadow n h)) ∧
        ((g.lane n).swap ≠ some h → g.shadowOf n = some h → Goes (.replayLivePoint h) s
          (((g.setHstate h stShadow (some n)).set (Reg.LANE_BIND_GSTATE n) 2).raise (Reg.LANE_STAT n) 8)) ∧
        ((g.lane n).swap ≠ some h → g.shadowOf n ≠ some h → (g.lane n).mig = none → Goes (.replayLivePoint h) s
          (g.setHstate h stPrimary (some n))) ∧
        (∀ q, (g.lane n).swap ≠ some h → g.shadowOf n ≠ some h → (g.lane n).mig = some q → q.dst = h →
          Goes (.replayLivePoint h) s (g.targetLive n h q)))) ∧
    ((d.lane n).resync = none ∨ d.bound n = none → Goes (.resyncAnswerTimeout n) s d) ∧
    ((d.lane n).resync = some r → d.bound n = some h → Goes (.resyncAnswerTimeout n) s (d.resyncResume n h)) ∧
    (let x := d.lane n
     let late := x.lockFell ≠ 0 ∧ x.lockFell - 1 + 1000000000 ≤ d.now
     (late → Goes (.laneSyncLost n) s ((d.setLane n { x with lockFell := 0 }).sootE 2 4 0x4007 (n * 65536))) ∧
     (¬late → Goes (.laneSyncLost n) s d))

/-! ## The program store and the firewatch (R238 to R284) -/

/-- R239 to R242, R247, R266: VERIFY and ERASE are refused by the slot's state, lost while a command runs, and otherwise run until they complete. -/
def Claim.StoreCommandsStartOrFail : Prop :=
  ∀ (s : State) (slot tag : Nat),
    let d := s.dev
    let st := d.get (Reg.PST_SLOT_STATE slot)
    let lost := d.wr Reg.PST_CMDSTAT (putBits (d.rd Reg.PST_CMDSTAT) 1 1 1)
    let busy := (d.rd Reg.PST_CMDSTAT).getLsbD 0
    (busy = true → Goes (.verify slot tag) s lost ∧ Goes (.erase slot tag) s lost) ∧
    (busy = false →
      (63 < slot ∨ (st ≠ 1 ∧ st ≠ 3) → Goes (.verify slot tag) s (d.pstDone 1 tag 3)) ∧
      (slot ≤ 63 → st = 1 ∨ st = 3 → Goes (.verify slot tag) s
        { d.cmdStart Reg.PST_CMDSTAT 1 tag with store := { d.store with cmd := some (1, slot) } }) ∧
      (63 < slot ∨ st = 5 → Goes (.erase slot tag) s (d.pstDone 2 tag 3)) ∧
      (slot ≤ 63 → st ≠ 5 → d.is (Reg.PST_SLOT_PIN slot) = true → Goes (.erase slot tag) s (d.pstDone 2 tag 7)) ∧
      (slot ≤ 63 → st ≠ 5 → d.is (Reg.PST_SLOT_PIN slot) = false →
        (st ≠ 2 → st ≠ 4 → Goes (.erase slot tag) s
          { d.cmdStart Reg.PST_CMDSTAT 2 tag with store := { d.store with cmd := some (2, slot), erasing := [slot] } }) ∧
        (st = 2 ∨ st = 4 → Goes (.erase slot tag) s { d.cmdStart Reg.PST_CMDSTAT 2 tag with
          store := { d.store with cmd := some (2, slot), erasing := (List.range (imgSpan (d.slotBytes slot))).map (slot + ·) } })))

/-- R239, R240, R242, R247: a verified slot is VALID with its type and its further slots CONT, a failing one REFUSED with its status; erased slots are
EMPTY and read as zero, in the store and its mirror, and no other byte changes. The command ends with its status and CMDDONE. -/
def Claim.StoreCommandsComplete : Prop :=
  ∀ (s : State) (k : Nat), s.dev.evtFree Reg.PST_EVT 0 0 = true →
    let d := s.dev
    let img := d.slotBytes k
    let st := d.verifyStatus k
    let ended := fun (t : Dev) (st : Nat) => t.store.cmd = none ∧ getBits (t.rd Reg.PST_CMDSTAT) 23 16 = st ∧
      (t.rd Reg.PST_CMDSTAT).getLsbD 0 = false ∧ (t.rd Reg.PST_EVT).getLsbD 0 = true
    (d.store.cmd = none → Goes .pstCommandComplete s d) ∧
    (d.store.cmd = some (1, k) → k < 64 → st = 0 → Completes .pstCommandComplete s (fun d t =>
      t.get (Reg.PST_SLOT_STATE k) = 2 ∧ t.get (Reg.PST_SLOT_TYPE k) = at8 img 5 % 4 ∧ t.get (Reg.PST_SLOT_STATUS k) = 0 ∧
      (∀ i, 0 < i → i < imgSpan img → t.get (Reg.PST_SLOT_STATE (k + i)) = 5) ∧ t.store.mem = d.store.mem ∧ ended t 0)) ∧
    (d.store.cmd = some (1, k) → k < 64 → st ≠ 0 → Completes .pstCommandComplete s (fun d t =>
      t.get (Reg.PST_SLOT_STATE k) = 3 ∧ t.get (Reg.PST_SLOT_STATUS k) = st ∧ t.store = { d.store with cmd := none } ∧ ended t st)) ∧
    (d.store.cmd = some (2, k) → (∀ j ∈ d.store.erasing, j < 64) → Completes .pstCommandComplete s (fun d t =>
      (∀ j ∈ d.store.erasing, t.get (Reg.PST_SLOT_STATE j) = 0 ∧ t.get (Reg.PST_SLOT_TYPE j) = 0 ∧
        ∀ i < 0x8000, Memory.read t.store.mem (j * 0x8000 + i) = 0 ∧ Memory.read t.store.mirror (j * 0x8000 + i) = 0) ∧
      (∀ a, a / 0x8000 ∉ d.store.erasing → Memory.read t.store.mem a = Memory.read d.store.mem a ∧
        Memory.read t.store.mirror a = Memory.read d.store.mirror a) ∧ t.store.erasing = [] ∧ ended t 0))

/-- R14, R227, R239, R240: a host write to the program store changes the enabled bytes of its word, makes the slot DIRTY and changes no other byte; to a
slot that is VALID, BAD or CONT it is discarded, logged and raised. A write to a lane's inbound mailbox stores the word; word 0
also signals the bound hearth. -/
def Claim.WindowWritesStoreBytes : Prop :=
  ∀ (s : State) (off n : Nat) (w : Word) (be : BitVec 4),
    let d := s.dev
    let k := off / 0x8000
    let a := off / 4 * 4
    let st := d.get (Reg.PST_SLOT_STATE k)
    let e := d.wr (Reg.LANE_MBIN n ((off - 0x400) / 4)) w
    (63 < k ∨ be = 0 → Goes (.programStoreWrite off w be) s d) ∧
    (k ≤ 63 → be ≠ 0 → st = 2 ∨ st = 4 ∨ st = 5 →
      Goes (.programStoreWrite off w be) s ((d.raise Reg.PST_EVT 1).sootE 1 0x11 0xD001 k)) ∧
    (k ≤ 63 → be ≠ 0 → st ≠ 2 → st ≠ 4 → st ≠ 5 → Completes (.programStoreWrite off w be) s (fun d t =>
      (∀ i < 4, Memory.read t.store.mem (a + i) = if be.getLsbD i then w.extractLsb' (8 * i) 8 else Memory.read d.store.mem (a + i)) ∧
      (∀ b, b < a ∨ a + 4 ≤ b → Memory.read t.store.mem b = Memory.read d.store.mem b) ∧
      t.get (Reg.PST_SLOT_STATE k) = 1 ∧ KeepsRegs [Reg.PST_SLOT k] d t ∧
      t = { d with regs := t.regs, store := { d.store with mem := t.store.mem } })) ∧
    (d.part.lanes ≤ n ∨ off < 0x400 ∨ 0x600 ≤ off → Goes (.hostMailboxWrite n off w) s d) ∧
    (n < d.part.lanes → 0x404 ≤ off → off < 0x600 → Goes (.hostMailboxWrite n off w) s e) ∧
    (n < d.part.lanes → 0x400 ≤ off → off < 0x404 → d.bound n = none → Goes (.hostMailboxWrite n off w) s e) ∧
    (∀ h, n < d.part.lanes → 0x400 ≤ off → off < 0x404 → d.bound n = some h →
      Goes (.hostMailboxWrite n off w) s (e.setHearth h { d.hearth h with hin := true }))

/-- R268, R270 to R272, R284: an event in flight reaches the firewatch. Disabled, it is dropped; masked or with no action it is counted; otherwise it enters the
FIFO of its input, four deep, and its alert drives ALERT_N and a snapshot's trigger before that; a full FIFO loses it, counted and logged. -/
def Claim.FirewatchLatchesEvents : Prop :=
  ∀ (s : State) (e : FwEvent) (rest : List FwEvent),
    let d := s.dev
    let f : Dev := { d with fire := { d.fire with flight := rest } }
    let q := f.qualify e
    let pin := if q.start = true ∧ actPin q.acts = true then f.assertPin else f
    let g := if q.start = true then pin.snapTrigger 2 else pin
    let held := SMap.get [] g.fire.fifo q.input
    let C := Instr.firewatchLatch
    d.held 1 = false →
      (d.fire.flight = [] → Goes C s d) ∧
      (d.fire.flight = e :: rest →
        (d.is Reg.FWT_CFG_EN = false → Goes C s f) ∧
        (d.is Reg.FWT_CFG_EN = true →
          (f.laneMasked q = true ∨ q.acts = 0 → Goes C s (f.incSat Reg.FWT_STAT_MASKED 1)) ∧
          (f.laneMasked q = false → q.acts ≠ 0 → held.length < 4 → Goes C s
            ({ g with fire := { g.fire with fifo := SMap.put [] g.fire.fifo q.input (held ++ [q]) } } : Dev).fwRefresh) ∧
          (f.laneMasked q = false → q.acts ≠ 0 → 4 ≤ held.length → Goes C s (g.fwOverflow q).fwRefresh) ∧
          (f.laneMasked q = false → q.acts ≠ 0 → q.start = true → actPin q.acts = true → held.length < 4 →
            Completes C s (fun _ t => t.ball .alertN = false ∧ t.is Reg.FWT_STAT_PIN = true))))

/-- R268, R274, R275: the table takes waiting events input by input in turn; an event whose key is active is a repeat or an update of its entry; a new one takes the
lowest free entry, or the lowest that is ended and acknowledged, or none; an end marks its entry. -/
def Claim.AlertTableTakesEvents : Prop :=
  ∀ (s : State) (k j : Nat) (e : FwEvent) (rest : List FwEvent),
    let d := s.dev
    let f : Dev := { d with fire := { d.fire with fifo := SMap.put [] d.fire.fifo k rest, served := k } }
    let C := Instr.alertTableEvent
    d.held 1 = false →
      ((∀ c ∈ d.fire.fifo, c.2 = []) → Goes C s d) ∧
      (d.fwTurn = some k → SMap.get [] d.fire.fifo k = e :: rest →
        (e.start = true → f.fwFind e = some j → Goes C s (f.fwAgain e j).fwRefresh) ∧
        (e.start = true → f.fwFind e = none → Goes C s (f.fwNew e).fwRefresh) ∧
        (e.start = false → Goes C s (f.fwEnd e).fwRefresh)) ∧
      (∀ i, d.fwPlace = some i → i < 32 ∧ (d.fwValid i = false ∨ ((∀ m < 32, d.fwValid m = true) ∧ d.is (Reg.FWT_ACT_W0_ENDED i) = true ∧
        d.is (Reg.FWT_ACT_W0_ACKED i) = true))) ∧
      (d.fwPlace = some j → e.tag < 4096 → e.lane < 128 → e.prio < 4 → actFrame e.acts = false → actPage e.acts = false →
        let t := d.fwNew e
        t.is (Reg.FWT_ACT_W0_VALID j) = true ∧ t.is (Reg.FWT_ACT_W0_ENDED j) = false ∧ t.get (Reg.FWT_ACT_W0_LANE j) = e.lane ∧
        t.get (Reg.FWT_ACT_W0_TAG j) = e.tag ∧ t.get (Reg.FWT_ACT_W0_PRIO j) = e.prio ∧ t.rd (Reg.FWT_ACT_W1 j) = e.word ∧
        ∃ x, fwEntry t j = some x ∧ x.key = (e.word &&& 0x7FFFFFFF) &&& e.keymask ∧ x.hearth = e.hearth ∧ x.acts = e.acts)

/-- R269: a write to a host tripwire sends its event; one that matches a lane's report block sends a start when the masked word becomes equal to its value
and an end when it no longer is, and nothing while that does not change. An odd update number is no update. -/
def Claim.TripwiresSendEvents : Prop :=
  ∀ (s : State) (t : Nat) (w : Word),
    let d := s.dev
    let n := d.get (Reg.FWT_TW_CFG_LANE t)
    let tag := d.get (Reg.FWT_TW_CFG_TAG t)
    let kind := d.get (Reg.FWT_TW_CFG_KIND t)
    let v := d.rd (Reg.LANE_LRB n (d.get (Reg.FWT_TW_CFG_WORD t)))
    let eq := (v &&& d.rd (Reg.FWT_TW_MASK t)) == d.rd (Reg.FWT_TW_VAL t)
    let even := (d.rd (Reg.LANE_LRB n 0)).toNat % 2 = 0
    let ev := fun (w : Word) (late : Bool) => ({ input := 200 + t, lane := n, hearth := 0, role := 3, tag := tag, word := w, start := w.getLsbD 31, late := late, peer := none } : FwEvent)
    let sends := fun (d : Dev) (e : FwEvent) => ({ d with fire := { d.fire with flight := d.fire.flight ++ [e] } } : Dev)
    let set := fun (x : Trip) => ({ d with fire := { d.fire with trips := SMap.put {} d.fire.trips t x } } : Dev)
    let migrating := d.get (Reg.LANE_BIND_MSTATE n) ≠ 0
    d.held 1 = false →
      (t < 4 → kind = 1 → Goes (.tripwireTrigWrite t w) s (sends d (ev w false))) ∧
      (4 ≤ t ∨ kind ≠ 1 → Goes (.tripwireTrigWrite t w) s d) ∧
      (4 ≤ t ∨ kind ≠ 2 ∨ ¬even → Goes (.lrbmatchEval t) s d) ∧
      (t < 4 → kind = 2 → even →
        (eq = true → (d.trip t).eq = false → Goes (.lrbmatchEval t) s (sends (set ⟨true, v⟩) (ev (putBits v 31 31 1) (decide migrating)))) ∧
        (eq = false → (d.trip t).eq = true → Goes (.lrbmatchEval t) s
          (sends (set ⟨false, v⟩) (ev (putBits v 31 31 0) (decide migrating)))) ∧
        (eq = true → (d.trip t).eq = true → Goes (.lrbmatchEval t) s d) ∧
        (eq = false → (d.trip t).eq = false → Goes (.lrbmatchEval t) s d))

/-- R274, R275, R279: an acknowledgement marks the valid entries it names and, with ALL, ends the untracked holds; a clear removes them; an entry without an end
expires after its hold; a repeat that is due sends its frame again. -/
def Claim.AlertsAreAcknowledgedAndEnd : Prop :=
  ∀ (s : State) (all : Bool) (entry j : Nat) (x : FwEntry) (r : FwRep) (rs : List FwRep),
    let d := s.dev
    let targets := if all = true then List.range 32 else [entry % 32]
    let due := d.fwActive j = true ∧ x.noend = true ∧ x.startAt + d.get Reg.FWT_CFG_HOLD * 1000000000 ≤ d.now
    let again := { r with done := r.done + 1, due := r.due + d.get Reg.FWT_FRMCFG_REPINT * 1000000 }
    d.held 1 = false →
      Completes (.fwtAck all entry) s (fun d t =>
        (∀ k < 32, t.get (Reg.FWT_ACT_W0_ACKED k) = if k ∈ targets ∧ d.fwValid k = true then 1 else d.get (Reg.FWT_ACT_W0_ACKED k)) ∧
        (all = true → t.fire.pinHold = false ∧ t.fire.toneHold = false) ∧ t.fire.entries = d.fire.entries) ∧
      Completes (.fwtClear all entry) s (fun d t =>
        (∀ k < 32, k ∈ targets → d.fwValid k = true → t.rd (Reg.FWT_ACT_W0 k) = 0 ∧ t.rd (Reg.FWT_ACT_W1 k) = 0 ∧ fwEntry t k = none) ∧
        (∀ k < 32, k ∉ targets → t.rd (Reg.FWT_ACT_W0 k) = d.rd (Reg.FWT_ACT_W0 k) ∧ fwEntry t k = fwEntry d k) ∧
        (all = true → t.fire.pinHold = false ∧ t.fire.toneHold = false)) ∧
      (32 ≤ j ∨ fwEntry d j = none → Goes (.alertEntryExpire j) s d) ∧
      (j < 32 → fwEntry d j = some x → ¬due → Goes (.alertEntryExpire j) s d) ∧
      (j < 32 → fwEntry d j = some x → due → Goes (.alertEntryExpire j) s
        (((d.set (Reg.FWT_ACT_W0_ENDED j) 1).fwOwn j 4).raise Reg.FWT_EVT 2).fwRefresh) ∧
      ((∀ y ∈ d.fire.reps, d.now < y.due) → Goes .alertFrameRepeat s d) ∧
      (d.fire.reps = r :: rs → r.due ≤ d.now → Goes .alertFrameRepeat s
        (({ d with fire := { d.fire with reps := if r.done + 1 < d.get Reg.FWT_FRMCFG_REPEAT then rs ++ [again] else rs } } : Dev).sendAlert
          { r.frame with rep := r.done }))

/-! ## The chimney and the ashpit (R286 to R320) -/

/-- R286 to R292, R320: on an absent port, or while the chimney is held, a message does nothing. A message that waits alone at a link with the credits for
its flits crosses, one credit for each; with a parity error it is marked damaged. One that has no credit waits. A new message first enters its hub's link,
or waits for room for its reply. Returned credits come back; more than were out are an error. A hot window raises its event, and every 100 ms the use is recorded. -/
def Claim.ChimneyCountsItsCredits : Prop :=
  ∀ (s : State) (port k busy : Nat) (up began parity : Bool) (m : LinkMsg) (kind : Transfer) (data : Nat) (ret : List Nat) (u : LinkUse),
    let d := s.dev
    let l := port * 2 + (if up = true then 1 else 0)
    let key := fun (c : Nat) => l * 4 + c
    let used := fun (e : Dev) (c : Nat) => SMap.get 0 e.chimney.used (key c)
    let queue := fun (e : Dev) (l : Nat) => SMap.get [] e.chimney.queues l
    let room := fun (c : Nat) => if c = 2 then 32 else if c = 3 then 8 else 16
    let C := fun par => Instr.chimneyMessage port up none kind data [] par
    let hot := if 90 < busy then d.raiseUnit Reg.CHM_EVT port [3] else d
    (d.part.hasPort port = false ∨ d.held 6 = true → ∀ new, Goes (.chimneyMessage port up new kind data ret parity) s d) ∧
    (d.part.hasPort port = true → d.held 6 = false →
      (queue d l = [(m, k, began)] → 1 ≤ k → used d m.kind.cls + k ≤ room m.kind.cls → ∃ e : Dev,
        Goes (C false) s (e.arriveMsg up m) ∧ Goes (C true) s ((e.damagedMsg port m).arriveMsg up m) ∧
        used e m.kind.cls = used d m.kind.cls + k ∧ queue e l = [] ∧ e = { d with chimney := e.chimney }) ∧
      ((∀ w ∈ queue d l, room w.1.kind.cls ≤ used d w.1.kind.cls) → Completes (C parity) s (fun d t =>
        queue t l = queue d l ∧ ∀ c < 4, used t c = used d c)) ∧
      (∀ new : LinkEnds, exec (.chimneyMessage port up (some new) kind data ret parity) s =
        exec (.chimneyMessage port up none kind data ret parity) { s with dev := d.offerMsg ⟨new.src, new.dst, new.member, kind, data, new.req⟩ }) ∧
      (queue d l = [] → (∀ c < 4, ret.getD c 0 ≤ used d c) → Completes (.chimneyMessage port up none kind data ret parity) s (fun d t =>
        (∀ c < 4, used t c = used d c - ret.getD c 0) ∧ t = { d with chimney := { d.chimney with used := t.chimney.used } })) ∧
      (∀ c, queue d l = [] → c < 4 → used d c < ret.getD c 0 → Goes (.chimneyMessage port up none kind data ret parity) s
        (((d.returnCredits port up ret).1.raiseUnit Reg.CHM_EVT port [2]).sootE 2 6 0x5002 port)) ∧
      Goes (.hotportWindow port busy none) s hot ∧
      (u.bw.length = 6 → Completes (.hotportWindow port busy (some u)) s (fun d t =>
        t.rd (Reg.CHM_PUTIL port) = u.putil ∧ t.get (Reg.CHM_PERR_STALLK port) = min u.stallk 65535 ∧
        (∀ i < 6, t.get (Reg.ASH_BW_MBPS i) = min (u.bw.getD i 0) 65535) ∧
        t = { d with regs := t.regs, evtLast := t.evtLast, pcie := t.pcie, out := t.out }))) ∧
    (d.part.hasPort port = false → Goes (.hotportWindow port busy none) s d ∧ Goes (.hotportWindow port busy (some u)) s d)

/-- R286, R290: a message between two ports enters the link of its source's hub, with room for its reply reserved; one for whose reply no room is left waits
for it; one within a port crosses no link. A reply that arrives gives its room back. -/
def Claim.MessagesReserveTheirReplies : Prop :=
  ∀ (d : Dev) (m : LinkMsg) (r : Requester),
    let t := d.offerMsg m
    let l := m.src * 2 + 1
    let crosses := m.src ≠ m.dst ∧ d.part.hasPort m.src = true ∧ d.part.hasPort m.dst = true
    let queue := fun (e : Dev) (l : Nat) => SMap.get [] e.chimney.queues l
    let count := fun (e : Dev) => (e.chimney.reserved.filter (· == r)).length
    (¬crosses → t = d) ∧
    (crosses → m.kind.needsReply = false → queue t l = queue d l ++ [(m, m.flits, false)] ∧ t.chimney.reserved = d.chimney.reserved) ∧
    (crosses → m.kind.needsReply = true → m.req = some r → count d < r.limit →
      queue t l = queue d l ++ [(m, m.flits, false)] ∧ count t = count d + 1) ∧
    (crosses → m.kind.needsReply = true → m.req = some r → r.limit ≤ count d →
      t = { d with chimney := { d.chimney with blocked := d.chimney.blocked ++ [m] } }) ∧
    (m.kind = .reply → m.req = some r → d.chimney.blocked = [] → 0 < count d → count (d.arriveMsg false m) + 1 = count d) ∧
    (∀ h k, Requester.limit (.ash h k) = 1 ∧ Requester.limit (.reg h) = 4 ∧ Requester.limit (.oven k) = 16) ∧
    Requester.limit .host = 32 ∧ Requester.limit .mantel = 16 ∧ Requester.limit .join = 32

/-- R291: of one class, an output goes on with the message it has begun; else it takes one of the input that comes next, round and round, after the one it
served last. A class may send 4 flits of REQ, 4 of RSP, 8 of STREAM and 1 of CTRL in a round. -/
def Claim.OutputsServeTheirInputsInTurn : Prop :=
  ∀ (d : Dev) (port last c : Nat) (up : Bool) (q : List LinkWait) (w : LinkWait),
    let dist := fun (v : LinkWait) => (v.1.input up + 64 - last) % 64
    (nextMsg up last q = none ↔ q = []) ∧
    (nextMsg up last q = some w → w ∈ q ∧ ((∃ v ∈ q, v.2.2 = true) → w.2.2 = true) ∧
      ((∀ v ∈ q, v.2.2 = false) → ∀ v ∈ q, dist w ≤ dist v)) ∧
    (c < 4 → SMap.get 0 (d.newRound port up).chimney.quota ((port * 2 + (if up = true then 1 else 0)) * 4 + c) =
      (if c = 3 then 1 else if c = 2 then 8 else 4))

/-- R298, R300: INIT is lost while one runs, refused with a bad argument or while lanes or a snapshot use the memory, and otherwise takes READY away until it ends: with a
density or rank that is not the configured one, with failed training, or with the memory READY and, unless retained, blank. -/
def Claim.AshpitInitialises : Prop :=
  ∀ (s : State) (arg tag density ranks rate : Nat) (trained retain : Bool),
    let d := s.dev
    let busy := (d.rd Reg.ASH_CMDSTAT).getLsbD 0
    let ends := fun st => (d.cmdDone Reg.ASH_CMDSTAT 1 tag st).raise Reg.ASH_EVT 0
    let differ := density ≠ d.get Reg.ASH_DRAMCFG_DENSITY ∨ ranks ≠ d.get Reg.ASH_DRAMCFG_RANKS
    let ended := fun (e : Dev) st => ({ e with ash := { e.ash with init := none } } : Dev).cmdEnd Reg.ASH_CMDSTAT st |>.raise Reg.ASH_EVT 0
    let polled : Dev := { d with ash := { d.ash with rate := min rate 3 } }
    let C := Instr.initDone density ranks trained
    d.held 7 = false →
      (busy = true → Goes (.init arg tag) s (d.wr Reg.ASH_CMDSTAT (putBits (d.rd Reg.ASH_CMDSTAT) 1 1 1))) ∧
      (busy = false → 1 < arg → Goes (.init arg tag) s (ends 3)) ∧
      (busy = false → arg ≤ 1 → d.lanesOn ≠ [] ∨ d.cap.snap.isSome = true → Goes (.init arg tag) s (ends 7)) ∧
      (busy = false → arg ≤ 1 → d.lanesOn = [] → d.cap.snap = none → Goes (.init arg tag) s
        ((({ ((d.cmdStart Reg.ASH_CMDSTAT 1 tag).set Reg.ASH_STAT_READY 0).set Reg.ASH_STAT_USABLE 0 with
          ash := { d.ash with init := some (arg == 1) } } : Dev).drive .ddrResetN true).ddrDrive true)) ∧
      (d.ash.init = none → Goes C s d) ∧
      (d.ash.init = some retain → differ → Goes C s (ended d 0x51)) ∧
      (d.ash.init = some retain → ¬differ → trained = false → Goes C s (ended d 0x50)) ∧
      (d.ash.init = some retain → ¬differ → trained = true → Completes C s (fun d t =>
        t.is Reg.ASH_STAT_READY = true ∧ t.get Reg.ASH_STAT_USABLE = d.part.usable density ∧ t.ash.selfRefresh = false ∧ t.ash.init = none ∧
        (retain = true → t.ash.dram = d.ash.dram) ∧ (retain = false → t.ash.dram = []) ∧ t.ash.sets = d.ash.sets ∧
        getBits (t.rd Reg.ASH_CMDSTAT) 23 16 = 0 ∧ (t.rd Reg.ASH_CMDSTAT).getLsbD 0 = false)) ∧
      (d.ready = true → d.ash.selfRefresh = false → Goes .dramRefresh s (d.set Reg.ASH_STAT_REFRATE d.ash.rate)) ∧
      (d.ready = false ∨ d.ash.selfRefresh = true → Goes .dramRefresh s d) ∧
      (d.ready = false → Goes (.dramTempPoll rate) s d) ∧
      (d.ready = true → rate < 3 → Goes (.dramTempPoll rate) s polled) ∧
      (d.ready = true → 3 ≤ rate → Goes (.dramTempPoll rate) s ((polled.raise Reg.ASH_EVT 9).sootE 1 7 0x6005 0))

/-- R302, R303, R312, R318: the scrubber reads line after line and begins again at the end, while no request of a higher level waits, or, once it is more than
1 % late, in its turn of the TI class. A single-bit error is corrected and counted, a double-bit one recorded with its address, and in a unit's record it flags
the unit or drops its block. -/
def Claim.ScrubberReadsEveryLine : Prop :=
  ∀ (s : State) (e : Ecc) (hit : ScrubHit) (n place : Nat) (header : Bool),
    let d := s.dev
    let line := d.ash.scrub
    let last := decide (d.usable / 64 ≤ line + 1)
    let next := fun (u : Dev) => ({ u with ash := { u.ash with
      scrub := if last = true then 0 else line + 1, corr := if last = true then [] else u.ash.corr
      scrubAt := if last = true then d.now else u.ash.scrubAt } } : Dev)
    let reads := fun (d : Dev) => Goes (.scrubStep .clean hit) s (next d) ∧ Goes (.scrubStep .single hit) s (next (d.ashCorrected line)) ∧
      Goes (.scrubStep .double .none) s (next (d.ashUncorr line)) ∧
      Goes (.scrubStep .double (.unit n place header)) s (next ((d.ashUncorr line).drawDamage n place header))
    let on := d.ready = true ∧ d.is Reg.ASH_SCRUB_EN = true
    let x := d.ashUncorr line
    d.held 7 = false →
      (¬on → Goes (.scrubStep e hit) s d) ∧
      (on → d.scrubLate = false → d.ashWaiting = [] → reads d) ∧
      (on → d.scrubLate = false → d.ashWaiting ≠ [] → Goes (.scrubStep e hit) s d) ∧
      (on → d.scrubLate = true → d.ashTurn 0 d.now = true → reads (d.ashSpend 0)) ∧
      (on → d.scrubLate = true → d.ashTurn 0 d.now = false → Goes (.scrubStep e hit) s d) ∧
      (d.scrubLate = true ↔ (100 * line + d.usable / 64) * (d.get Reg.ASH_SCRUB_PERIOD * 3600000000000) <
        100 * (d.now - d.ash.scrubAt) * (d.usable / 64)) ∧
      x.get Reg.ASH_ECCCNT_UNCORR = min (d.get Reg.ASH_ECCCNT_UNCORR + 1) 65535 ∧
      x.rd Reg.ASH_ECCADDR_LO = BitVec.ofNat 32 (line * 64) ∧ x.ash = d.ash

/-- R318: a request that has waited 2 µs goes before those that have not; otherwise a class is served while it has a place in its round of 6, 2 and 1, and one
without a place only when no class that waits has one. -/
def Claim.AshpitServesItsClassesInTurn : Prop :=
  ∀ (d : Dev) (cls since : Nat),
    let ws := d.ashWaiting
    let aged := fun (t : Nat) => t + 2000 ≤ d.now
    let place := fun (c : Nat) => 0 < d.ash.quota.getD c 0
    ((∃ w ∈ ws, aged w.2) → (d.ashTurn cls since = true ↔ aged since)) ∧
    ((∀ w ∈ ws, ¬aged w.2) → (d.ashTurn cls since = true ↔ place cls ∨ ∀ w ∈ ws, ¬place w.1)) ∧
    (d.ash.quota.length = 3 → cls < 3 → place cls → (d.ashSpend cls).ash.quota.getD cls 0 + 1 = d.ash.quota.getD cls 0) ∧
    (d.ash.quota.length = 3 → cls < 3 → ¬place cls → (d.ashSpend cls).ash.quota = [6, 2, 1].set cls ([6, 2, 1].getD cls 0 - 1))

/-- R316, R317: an aperture write changes the bytes that lie in the HOST region and no other byte; one that touches another place is raised and logged. A read changes no
memory; where the ashpit is not ready it answers zeros. Past 16 MiB, and from a stoker, there is no aperture. The bytes a read
answers of the ashpit's own structures are free (log 3). -/
def Claim.ApertureReachesTheHostRegion : Prop :=
  ∀ (s : State) (who : Initiator) (h off len : Nat) (data : List Byte) (e : Ecc) (write : Bool),
    let d := s.dev
    let a := d.get Reg.ASH_APBASE_BASE * 1048576 + off
    let inHost := fun (x : Nat) => x < d.usable ∧ d.regionOf x = 4
    let open_ := d.ready = true ∧ d.held 7 = false
    (Goes (.apertureAccess (.stoker h) write off len data e) s d) ∧
    (0x1000000 ≤ off → Goes (.apertureAccess who write off len data e) s d) ∧
    (off < 0x1000000 → (∀ h, who ≠ .stoker h) →
      (¬open_ → Goes (.apertureAccess who true off len data e) s d) ∧
      (¬open_ → Goes (.apertureAccess who false off len data e) s (d.emit (.aperture who off (List.replicate len 0) false))) ∧
      (open_ → Completes (.apertureAccess who true off len data e) s (fun d t =>
        (∀ i < data.length, inHost (a + i) → Memory.read t.ash.dram (a + i) = data.getD i 0) ∧
        (∀ b, (b < a ∨ a + data.length ≤ b ∨ ¬inHost b) → Memory.read t.ash.dram b = Memory.read d.ash.dram b) ∧
        ((∀ i < data.length, inHost (a + i)) → t = { d with ash := { d.ash with dram := t.ash.dram } }) ∧
        ((∃ i < data.length, ¬inHost (a + i)) → d.evtFree Reg.ASH_EVT 3 0 = true → (t.rd Reg.ASH_EVT).getLsbD 3 = true))) ∧
      (open_ → Completes (.apertureAccess who false off len data e) s (fun d t =>
        t.ash.dram = d.ash.dram ∧ ∃ bs, t.out.head? = some (.aperture who off bs (decide (e = .double))) ∧ bs.length = len ∧
          (e ≠ .double → ∀ i < len, a + i < d.usable → 2 ≤ d.regionOf (a + i) → bs.getD i 0 = Memory.read d.ash.dram (a + i)) ∧
          (e ≠ .double → ∀ i < len, d.usable ≤ a + i → bs.getD i 0 = 0))))

/-- R165, R308, R311, R312: the oldest waiting backlog block enters the lane's ring, the newest blocks of which are kept; the unit at the head of a lane's line leaves when its time has come
and nothing holds it back; a join takes the primary's checkpoint once both sets and the checkpoint are there. -/
def Claim.BacklogAndDrawLinesMove : Prop :=
  ∀ (s : State) (n line h : Nat) (header : Bool) (b : BkBlock) (rest : List BkBlock) (u : DUnit) (us : List DUnit) (e : Ecc) (dmg : Damage),
    let d := s.dev
    let x := d.lane n
    let ring := (d.ashSpend 0).setLane n (Lane.pushBk { x with bkBuf := rest } b)
    let C := Instr.drawRelease n e line header
    let p := d.judgePause n
    let due := u.release ≤ p.devtime ∧ (p.lane n).awaits u = false ∧ p.held 7 = false
    let turn := d.held 7 = false ∧ d.ashTurn 0 (d.blockSince b) = true
    let copies := d.shadowOf n = some h ∧ x.shCopy = true ∨ x.swap = some h ∧ x.swapCopy = true ∨
      ∃ m, x.mig = some m ∧ m.copying = true ∧ m.dst = h
    (x.bkBuf = [] → Goes (.backlogBlockWrite n) s d) ∧
    (x.bkBuf = b :: rest → ¬turn → Goes (.backlogBlockWrite n) s d) ∧
    (x.bkBuf = b :: rest → turn → Goes (.backlogBlockWrite n) s
      (((List.range d.part.hearths).filter (fun g => d.laneOf g == some n && (d.hearth g).replay.isSome)).foldl (fun d g => d.refill g) ring)) ∧
    ((Lane.pushBk x b).bk.length = min (x.bk.length + 1) x.bkCap) ∧
    (x.mig = none → p = d) ∧
    ((p.lane n).main = [] → Goes C s p) ∧
    ((p.lane n).main = u :: us → ¬due → Goes C s p) ∧
    ((p.lane n).main = u :: us → due →
      (e = .clean → Goes C s (p.release n u)) ∧ (e = .single → Goes C s ((p.ashCorrected line).release n u)) ∧
      (e = .double → header = false → Goes C s (((p.ashUncorr line).drawDamage n 0 false).release n { u with err := true })) ∧
      (e = .double → header = true → (p.lane n).playout = false → Goes C s ((p.ashUncorr line).drawDamage n 0 true))) ∧
    (d.laneOf h = none → Goes (.setCopyDone h dmg) s d) ∧
    (d.laneOf h = some n → ¬copies ∨ x.halted = true → Goes (.setCopyDone h dmg) s d) ∧
    (∀ i src j dst k c, d.laneOf h = some n → copies → x.halted = false → (d.bound n).bind d.tiArea = some (i, src) → d.tiArea h = some (j, dst) →
      src.valid = some k → src.slot k = some c → x.bkHolds c.sample = true → Completes (.setCopyDone h .intact) s (fun _ t =>
        (t.hearth h).running = true ∧ (t.hearth h).replay = some c.sample ∧ (t.hearth h).ckSamp = c.sample ∧ (t.hearth h).start = 2))

/-! ## The flue (R324 to R356) -/

/-- R280, R326, R327, R342, R344: a free port that can send starts an alert frame first, then the PTP messages and reports in their order, then
the stream or telemetry whose turn it is; the HF ring takes an alert first, and without a descriptor only reports it. A port that is down sends nothing. -/
def Claim.PortsStartFramesInOrder : Prop :=
  ∀ (s : State) (p k : Nat) (buf : HfDesc) (a : AlertTx) (as : List AlertTx) (c : Ctrl) (cs : List Ctrl) (u : QUnit) (us : List QUnit) (t : NextTx),
    let d := s.dev
    let x := d.fport p
    let C := Instr.portFrameStart p buf
    let e := d.portPrep p 65536
    let y := d.fport 2
    let r := d.hfRecord buf 0xFF a.lane false (d.alertGsf a)
    (d.hasPort p = false ∨ d.held (8 + p) = true → Goes C s d) ∧
    (d.hasPort p = true → d.held (8 + p) = false → p < 2 →
      (d.portUp p = false → Goes C s d) ∧
      (d.portUp p = true →
        (x.alerts = a :: as → Goes C s
          (((d.setFport p { x with alerts := as }).sendFrame p (d.alertFrame p a)).incWordSat (Reg.FLU_ALERTTX p) 1)) ∧
        (x.alerts = [] → x.ctrl = c :: cs → Goes C s
          (((d.setFport p { x with ctrl := cs }).emit (.ctrl p c)).incWordSat (Reg.FLU_TXFRAMES p) 1)) ∧
        (x.alerts = [] → x.ctrl = [] → e.chosen p = none → Goes C s e) ∧
        (x.alerts = [] → x.ctrl = [] → e.chosen p = some 128 → (e.fport p).tele = u :: us →
          Goes C s ((e.sendFrame p (e.teleFrame p u)).teleSent p u)) ∧
        (x.alerts = [] → x.ctrl = [] → e.chosen p = some k → k ≠ 128 → e.nextTx p k = some t →
          Goes C s ((e.sendFrame p (e.txFrame p k t)).afterTx p k t (e.txSize p k t))))) ∧
    (d.held 10 = false →
      (d.is Reg.HF_CTL_RUN = false → Goes (.portFrameStart 2 buf) s d) ∧
      (d.is Reg.HF_CTL_RUN = true → y.alerts = a :: as →
        (d.hfReady = false → Goes (.portFrameStart 2 buf) s (d.raise Reg.HF_EVT 0)) ∧
        (d.hfReady = true → buf.len < 4160 ∨ buf.ok = false → Goes (.portFrameStart 2 buf) s r.2) ∧
        (d.hfReady = true → 4160 ≤ buf.len → buf.ok = true → Goes (.portFrameStart 2 buf) s
          ((r.2.setFport 2 { r.2.fport 2 with alerts := as }).notify 12))) ∧
      (d.is Reg.HF_CTL_RUN = true → y.alerts = [] → Goes (.portFrameStart 2 buf) s (d.hfStream buf)))

/-- R325, R332, R341, R348: the oldest unit of an entry that waited longer than MAXQ, and is not being sent, is dropped, and so is a telemetry frame after 1 ms; TS packets that waited
10 ms are sent as they are; membership reports join the queue of a port that is up; a telemetry frame is queued for a lane that is on, with a
consistent report block. -/
def Claim.PortTimersAct : Prop :=
  ∀ (s : State) (p e n : Nat) (ok : Bool) (u : QUnit) (us : List QUnit),
    let d := s.dev
    let x := d.fport p
    let y := d.damper p e
    let lost := if p < 2 then 2 else 1
    let pulled := d.pull p e 8
    let on := d.hasPort p = true ∧ d.held (8 + p) = false
    let wants := n < d.part.lanes ∧ d.teleOn p n = true ∧ ok = true ∧ (d.rd (Reg.LANE_LRB n 0)).getLsbD 0 = false
    let unit : QUnit := { kind := 1, lane := n, stream := 0, err := false, key := (d.rd (Reg.LANE_LRB n 0)).toNat, index := 0, time := d.devtime, rel := d.devtime, enq := d.now, first := false, payload := d.telePayload n }
    (¬on → Goes (.damperMaxqExpiry p e) s d ∧ Goes (.tsFlushTimeout p e) s d ∧ Goes (.membershipReportTimer p) s d ∧ Goes (.telemetryTick p n ok) s d) ∧
    (on →
      (x.tele = u :: us → d.now ≤ u.enq + 1000000 → Goes (.damperMaxqExpiry p 128) s d) ∧
      (x.tele = u :: us → u.enq + 1000000 < d.now → Goes (.damperMaxqExpiry p 128) s
        (((d.setFport p { x with tele := us }).portEvt p lost).sootDrops p)) ∧
      (e < 128 → y.queue = [] → Goes (.damperMaxqExpiry p e) s d) ∧
      (e < 128 → y.queue = u :: us → y.sent ≠ 0 ∨ d.now ≤ u.enq + d.ent p e 2 25 16 * 10000 → Goes (.damperMaxqExpiry p e) s d) ∧
      (e < 128 → y.queue = u :: us → y.sent = 0 → u.enq + d.ent p e 2 25 16 * 10000 < d.now → Goes (.damperMaxqExpiry p e) s
        (((d.setDamper p e { y with queue := us }).dropUnit p e 4).qkib p e)) ∧
      (128 ≤ e ∨ d.entOn p e = false ∨ d.entEnc p e ≠ 0 → Goes (.tsFlushTimeout p e) s d) ∧
      (e < 128 → d.entOn p e = true → d.entEnc p e = 0 →
        ((pulled.damper p e).ts = [] ∨ pulled.now < (pulled.damper p e).tsAt + 10000000 → Goes (.tsFlushTimeout p e) s pulled) ∧
        ((pulled.damper p e).ts ≠ [] → (pulled.damper p e).tsAt + 10000000 ≤ pulled.now → Goes (.tsFlushTimeout p e) s
          (pulled.setDamper p e { pulled.damper p e with tsFlush := true }))) ∧
      (p = 2 → Goes (.membershipReportTimer p) s d) ∧
      (p < 2 → d.portUp p = false → Goes (.membershipReportTimer p) s d) ∧
      (p < 2 → d.portUp p = true → Completes (.membershipReportTimer p) s (fun d t =>
        (∃ rs, (t.fport p).ctrl = (d.fport p).ctrl ++ rs ∧ ∀ c ∈ rs, ∃ v6 gs, c = .report v6 gs ∧ ∀ g ∈ gs, (v6, g) ∈ d.groups p) ∧
        t = { d with flue := t.flue })) ∧
      (¬wants → Goes (.telemetryTick p n ok) s d) ∧
      (wants → d.portUp p = false → Goes (.telemetryTick p n ok) s (d.portEvt p lost)) ∧
      (wants → d.portUp p = true → Goes (.telemetryTick p n ok) s ((d.setFport p { x with tele := x.tele ++ [unit] }).fitDamper p 70)))

/-- R324, R344, R529: an enabled port is UP with block lock and no fault, unless bank 3 has sensed less than 2.9 V; coming up it raises its event and reports its groups; going down it discards its alert frames, counted, and
raises its event. HF starts with EN and RUN, and its tail takes 16 bits. -/
def Claim.LinksAndRingsChange : Prop :=
  ∀ (s : State) (p : Nat) (block lf rf los : Bool) (w : Word),
    let d := s.dev
    let C := Instr.portLinkChange p block lf rf los
    let on := d.is (Reg.FLU_CTL_EN p)
    let lowBank := decide (SMap.get 3300 d.rst.vio 3 < 2900)
    let up := on && block && !lf && !rf && !lowBank
    (d.hasPort p = true → d.held (8 + p) = false → p < 2 → Completes C s (fun d t =>
      t.portUp p = up ∧ t.is (Reg.FLU_LINK_BLOCK p) = (on && block) ∧ t.is (Reg.FLU_LINK_LF p) = (on && lf) ∧
      t.is (Reg.FLU_LINK_RF p) = (on && rf) ∧ t.is (Reg.FLU_LINK_RXLOS p) = los ∧
      (d.portUp p = up → KeepsRegs [Reg.FLU_LINK p] d t ∧ t = { d with regs := t.regs }) ∧
      (d.portUp p = true → up = false → (t.fport p).alerts = [] ∧ (t.fport p).ctrl = [] ∧ (t.fport p).downAt = d.now + 1 ∧
        t.rd (Reg.FLU_ALERTDROP p) = BitVec.ofNat 32 (min ((d.rd (Reg.FLU_ALERTDROP p)).toNat + (d.fport p).alerts.length) (2 ^ 32 - 1)) ∧
        (d.evtFree (portBase p + 8) 1 0 = true → (t.rd (portBase p + 8)).getLsbD 1 = true)) ∧
      (d.portUp p = false → up = true → (t.fport p).downAt = 0 ∧ (t.fport p).alerts = (d.fport p).alerts ∧
        (d.evtFree (portBase p + 8) 0 0 = true → (t.rd (portBase p + 8)).getLsbD 0 = true)))) ∧
    (d.hasPort p = false ∨ d.held (8 + p) = true ∨ 2 ≤ p → Goes C s d) ∧
    (d.held 10 = false → Goes (.hfTailWrite w) s (d.wr Reg.HF_TAIL (w &&& 0xFFFF)) ∧
      Goes .hfStart s ((d.set Reg.HF_CTL_EN 1).set Reg.HF_CTL_RUN 1)) ∧
    (d.held 10 = true → Goes (.hfTailWrite w) s d ∧ Goes .hfStart s d)

/-- R282, R346, R347: a received frame of a wrong length or FCS is counted as an error; a good one is counted, filtered by tag, address and content, and given to the relay at most once in
200 ns; a PTP frame is the clock's. -/
def Claim.ReceivedFramesAreFiltered : Prop :=
  ∀ (s : State) (p : Nat) (bs g : List Byte),
    let d := s.dev
    let C := Instr.portFrameRx p bs
    let good := 64 ≤ bs.length ∧ bs.length ≤ 1518 ∧ leNat (bs.drop (bs.length - 4)) = (crc32 (bs.take (bs.length - 4))).toNat
    let f := parseFrame bs
    let e := d.incWordSat (Reg.FLU_RXFRAMES p) 1
    let out := e.incWordSat (Reg.FLU_RXFILT p) 1
    let soon := (e.fport p).relayAt ≠ 0 ∧ d.now < (e.fport p).relayAt - 1 + 200
    (d.hasPort p = false ∨ d.held (8 + p) = true ∨ 2 ≤ p ∨ d.portUp p = false → Goes C s d) ∧
    (d.hasPort p = true → d.held (8 + p) = false → p < 2 → d.portUp p = true →
      (¬good → Goes C s (d.incWordSat (Reg.FLU_RXERR p) 1)) ∧
      (good → e.rxPasses p f = false → Goes C s out) ∧
      (good → e.rxPasses p f = true → e.ptpFrame p f = true → Goes C s e) ∧
      (good → e.rxPasses p f = true → e.ptpFrame p f = false → e.relayFrame p f = none ∨ soon → Goes C s out) ∧
      (good → e.rxPasses p f = true → e.ptpFrame p f = false → e.relayFrame p f = some g → ¬soon →
        Goes C s ((e.setFport p { e.fport p with relayAt := d.now + 1 }).relayIn_ p g)))

/-! ## SFP+ modules, PTP and PPS (R349 to R355) -/

/-- R353, R354: a module's insertion reads its identity and shows it, its removal clears what was read; a laser fault resets the module by a pulse of TXDIS, three times within 60 s, and
then latches, with its event. -/
def Claim.ModulesComeGoAndFault : Prop :=
  ∀ (s : State) (p : Nat) (a0 : List Byte) (present fault : Bool),
    let d := s.dev
    let on := d.hasPort p = true ∧ d.held (8 + p) = false ∧ p < 2
    let low := d.is (Reg.FLU_CTL_EN p) && d.is (Reg.FLU_CTL_TXEN p) && !d.is (Reg.FLU_LINK_TXFLTL p) && !decide (SMap.get 3300 d.rst.vio 3 < 2900)
    let C := Instr.sfpModuleChange p present a0
    let e := d.set (Reg.FLU_LINK_TXFLT p) 1
    let x := (d.fport p).sfp
    let recent := x.resets.filter (fun t => decide (d.now < t + 60000000000))
    let f := ((d.updSfp p (fun x => { x with pulse := false })).set (Reg.FLU_LINK_TXFLT p) (b2n fault)).sfpDrive p
    (¬on → Goes C s d ∧ Goes (.sfpTxfault p) s d ∧ Goes (.sfpTxdisPulseEnd p fault) s d) ∧
    (on →
      (d.is (Reg.FLU_LINK_MOD p) = present → Goes C s d) ∧
      (d.is (Reg.FLU_LINK_MOD p) = false → Completes (.sfpModuleChange p true a0) s (fun d t =>
        t.is (Reg.FLU_LINK_MOD p) = true ∧ t.is (Reg.FLU_SFPSTAT_BADID p) = !idOk a0 ∧
        (t.fport p).sfp.sn = some (crc32 ((List.range 16).map (fun i => a0.getD (68 + i) 0))) ∧
        (∀ k < 24, t.rd (Reg.FLU_SFPA0 p k) =
          wordOfBytes (a0.getD (4 * k) 0) (a0.getD (4 * k + 1) 0) (a0.getD (4 * k + 2) 0) (a0.getD (4 * k + 3) 0)) ∧
        t.ball (.sfpTxdis p) = !(low && !x.pulse) ∧ (d.evtFree (Reg.FLU_EVT p) 6 0 = true → (t.rd (Reg.FLU_EVT p)).getLsbD 6 = true))) ∧
      (d.is (Reg.FLU_LINK_MOD p) = true → Completes (.sfpModuleChange p false a0) s (fun d t =>
        t.is (Reg.FLU_LINK_MOD p) = false ∧ (∀ k < 24, t.rd (Reg.FLU_SFPA0 p k) = 0) ∧ (∀ k < 30, t.rd (Reg.FLU_SFPA2 p k) = 0) ∧
        t.rd (Reg.FLU_SFPDDM p) = 0 ∧ t.ball (.sfpTxdis p) = true ∧
        (d.evtFree (Reg.FLU_EVT p) 7 0 = true → (t.rd (Reg.FLU_EVT p)).getLsbD 7 = true))) ∧
      (d.is (Reg.FLU_LINK_TXFLTL p) = true ∨ x.pulse = true → Goes (.sfpTxfault p) s e) ∧
      (d.is (Reg.FLU_LINK_TXFLTL p) = false → x.pulse = false → recent.length < 3 → Goes (.sfpTxfault p) s
        ((e.updSfp p (fun x => { x with resets := d.now :: recent, pulse := true })).sfpDrive p)) ∧
      (d.is (Reg.FLU_LINK_TXFLTL p) = false → x.pulse = false → 3 ≤ recent.length → Completes (.sfpTxfault p) s (fun _ t =>
        t.is (Reg.FLU_LINK_TXFLTL p) = true ∧ t.ball (.sfpTxdis p) = true ∧ (t.fport p).sfp.pulse = false)) ∧
      (x.pulse = false → Goes (.sfpTxdisPulseEnd p fault) s d) ∧
      (x.pulse = true → Goes (.sfpTxdisPulseEnd p fault) s (if fault = true then f.txFault p else f)))

/-- R354, R355, R412: a diagnostic poll of a module with diagnostics, in its turn on its free bus (log 108), copies the page, shows bias and temperature and the alarms; a day with readings adds its mean to the last thirty. With
internal calibration and a mean that divides, every value is stated; others take free roundings (log 7, log 8). -/
def Claim.ModuleDiagnosticsAreRead : Prop :=
  ∀ (s : State) (p : Nat) (a2 : List Byte),
    let d := s.dev
    let on := d.hasPort p = true ∧ d.held (8 + p) = false ∧ p < 2 ∧ d.is (Reg.FLU_LINK_MOD p) = true ∧ d.is (Reg.FLU_SFPSTAT_DDM p) = true
    let x := (d.fport p).sfp
    let bus := d.auxBus (p + 1)
    let turn := d.is (Reg.AUX_CFG_EN (p + 1)) = true ∧ d.is (Reg.AUX_STAT_FREE (p + 1)) = true ∧ d.auxStuck (p + 1) = false ∧ bus.clearDue = false ∧
      bus.cur = none ∧ (bus.wait = none ∨ bus.lastQuery = false)
    (¬on → Goes (.sfpDiagPoll p a2) s d ∧ Goes (.sfpDailyUpdate p) s d) ∧
    (¬turn → Goes (.sfpDiagPoll p a2) s d) ∧
    (on → turn → Goes (.sfpDiagPoll p a2) s ((d.sfpPoll p a2).pollDone (p + 1))) ∧
    (on → turn → (d.rd (Reg.FLU_SFPA0 p 23)).getLsbD 4 = false → Completes (.sfpDiagPoll p a2) s (fun d t =>
      (∀ k < 30, t.rd (Reg.FLU_SFPA2 p k) =
        wordOfBytes (a2.getD (4 * k) 0) (a2.getD (4 * k + 1) 0) (a2.getD (4 * k + 2) 0) (a2.getD (4 * k + 3) 0)) ∧
      t.get (Reg.FLU_SFPDDM_BIAS p) = half a2 100 ∧ t.getI (Reg.FLU_SFPDDM_TEMP p) = toSigned 16 (half a2 96) ∧
      t.get (Reg.FLU_SFPSTAT_ALARMS p) = half a2 112 ∧ t.free = d.free ∧
      (half a2 112 ≠ 0 → d.evtFree (Reg.FLU_EVT p) 8 0 = true → (t.rd (Reg.FLU_EVT p)).getLsbD 8 = true) ∧
      (d.is (Reg.FLU_LINK_TXDIS p) = true → (t.fport p).sfp = x) ∧
      (d.is (Reg.FLU_LINK_TXDIS p) = false → (t.fport p).sfp = { x with sum := x.sum + half a2 100, cnt := x.cnt + 1 }))) ∧
    (x.cnt = 0 → Goes (.sfpDailyUpdate p) s d) ∧
    (on → x.cnt ≠ 0 → Goes (.sfpDailyUpdate p) s (d.sfpDay p)) ∧
    (on → x.cnt ≠ 0 → x.sum % x.cnt = 0 → x.days.length ≤ 29 → Completes (.sfpDailyUpdate p) s (fun _ t =>
      (t.fport p).sfp.days = x.days ++ [x.sum / x.cnt] ∧ (t.fport p).sfp.cnt = 0 ∧ (t.fport p).sfp.sum = 0 ∧
      t.get (Reg.FLU_SFPLIFE_NDAYS p) = x.days.length + 1))

/-! ## PTP, PPS and audio (R349 to R375) -/

/-- R349 to R351: a slave takes the times of Sync, Delay_Req and Delay_Resp with the latency corrections; a master answers requests and follow-ups, in both the message joins the queue of the
PTP port; a state the mode forbids is not entered. The filtered offset and the trim of the loop are free (log 5). -/
def Claim.PtpMessagesAreTaken : Prop :=
  ∀ (s : State) (t1 t2 t3 t4 seq t gm st' : Nat) (m : PtpMsg),
    let d := s.dev
    let st := d.get Reg.FLU_PTPSTAT_STATE
    let slave := st = 3 ∨ st = 4
    let p := d.get Reg.FLU_PTPSTAT_PORTNOW
    let tx := getBits (d.rd (Reg.FLU_PTPLAT p)) 31 16
    let rx := getBits (d.rd (Reg.FLU_PTPLAT p)) 15 0
    let C := fun m => Instr.ptpEventMessage m
    let sum : Int := (d.ptp.t2 : Int) - d.ptp.t1 + t4 - d.ptp.t3
    let same := d.rd64 Reg.FLU_PTPGM_LO Reg.FLU_PTPGM_HI = gm % 2 ^ 64
    let mode := d.get Reg.FLU_PTPCFG_MODE
    d.held 8 = false →
      (st = 0 → Goes (C m) s d) ∧
      (st ≠ 0 →
        (¬slave → Goes (C (.sync t1 t2)) s d ∧ Goes (C (.delayReqSent t3)) s d ∧ Goes (C (.delayResp t4)) s d) ∧
        (slave → Goes (C (.sync t1 t2)) s (({ d with ptp := { d.ptp with t1 := t1, t2 := t2 - rx } } : Dev).servo
          ((((t2 - rx : Nat) : Int) - t1) - 10 * (d.rd Reg.FLU_PTPDLY).toNat))) ∧
        (slave → Goes (C (.delayReqSent t3)) s { d with ptp := { d.ptp with t3 := t3 + tx } }) ∧
        (slave → sum % 20 = 0 → Goes (C (.delayResp t4)) s (d.setI Reg.FLU_PTPDLY_DELAY (sum / 20))) ∧
        (slave → sum % 20 ≠ 0 → Completes (C (.delayResp t4)) s (fun d t => ∃ q : Int, (q = sum / 20 ∨ q = sum / 20 + 1) ∧
          t = ({ d with free := d.free + 1 } : Dev).setI Reg.FLU_PTPDLY_DELAY q)) ∧
        (st = 5 → Goes (C (.delayReqRx seq t)) s (d.ptpSend 3 seq (t - rx)) ∧ Goes (C (.syncSent t)) s (d.ptpSend 1 (d.ptp.seqSync - 1) (t + tx))) ∧
        (st ≠ 5 → Goes (C (.delayReqRx seq t)) s d ∧ Goes (C (.syncSent t)) s d) ∧
        (same → st' = 0 ∨ 7 < st' ∨ (mode = 0 ∧ st' = 5) ∨ (mode = 1 ∧ (st' = 3 ∨ st' = 4)) → Goes (C (.announce gm st')) s d) ∧
        (same → st' = 4 → mode ≠ 1 → Goes (C (.announce gm st')) s (d.set Reg.FLU_PTPSTAT_STATE 4)) ∧
        (¬same → st' = 0 → Goes (C (.announce gm st')) s ((d.wr64 Reg.FLU_PTPGM_LO Reg.FLU_PTPGM_HI gm).raise Reg.FLU_SEVT 4))) ∧
      (st = 5 → Goes (.ptpSyncTimer 0) s (let e := d.ptpSend 0 d.ptp.seqSync 0; { e with ptp := { e.ptp with seqSync := e.ptp.seqSync + 1 } }) ∧
        Goes (.ptpSyncTimer 4) s (let e := d.ptpSend 4 d.ptp.seqAnn 0; { e with ptp := { e.ptp with seqAnn := e.ptp.seqAnn + 1 } })) ∧
      (slave → Goes (.ptpSyncTimer 2) s (let e := d.ptpSend 2 d.ptp.seqReq 0; { e with ptp := { e.ptp with seqReq := e.ptp.seqReq + 1 } })) ∧
      (st ≠ 5 → Goes (.ptpSyncTimer 0) s d ∧ Goes (.ptpSyncTimer 4) s d) ∧
      (¬slave → Goes (.ptpSyncTimer 2) s d) ∧
      (let due := st ≠ 0 ∧ d.is Reg.FLU_PTPCFG_AUTOPORT = true ∧ d.part.hasF1 = true ∧ d.portUp p = false ∧ (d.fport p).downAt - 1 + 2000000000 ≤ d.now
       (due → Goes .ptpPortFailover s ((d.set Reg.FLU_PTPSTAT_PORTNOW (1 - p)).raise Reg.FLU_SEVT 3)) ∧ (¬due → Goes .ptpPortFailover s d))

/-- R352, R460: an edge of PPS_IN is time-stamped in nanoseconds and raised; with PPS as the source it is the servo's, whose trim is free (log 5). 1.5 s without an edge end
the lock. -/
def Claim.PpsEdgesAreStamped : Prop :=
  ∀ (s : State) (sub : Nat),
    let d := s.dev
    let t := d.devtime * 10 + sub % 100
    let e := (d.wr64 Reg.FLU_PPSIN_LO Reg.FLU_PPSIN_HI (t / 10)).raise Reg.FLU_SEVT 5
    let f : Dev := { e with ptp := { e.ptp with ppsAt := d.now + 1 } }
    let late := d.get Reg.CLK_TIMECFG_SRC = 2 ∧ d.ptp.ppsAt - 1 + 1500000000 ≤ d.now
    let g : Dev := { d with ptp := { d.ptp with ppsGood := 0 } }
    (d.held 8 = false →
      (d.is Reg.FLU_PPSCFG_INEN = false → Goes (.ppsInEdge sub) s d) ∧
      (d.is Reg.FLU_PPSCFG_INEN = true → d.get Reg.CLK_TIMECFG_SRC ≠ 2 → Goes (.ppsInEdge sub) s f) ∧
      (d.is Reg.FLU_PPSCFG_INEN = true → d.get Reg.CLK_TIMECFG_SRC = 2 → Goes (.ppsInEdge sub) s
        (f.ppsServo ((t : Int) - ((t + 5000000000) / 10000000000 * 10000000000 : Nat))))) ∧
    (¬late → Goes .ppsTimeout s d) ∧
    (late → d.is Reg.CLK_TSTAT_PPSLOCK = false → Goes .ppsTimeout s g) ∧
    (late → d.is Reg.CLK_TSTAT_PPSLOCK = true → Goes .ppsTimeout s ((g.set Reg.CLK_TSTAT_PPSLOCK 0).raise Reg.CLK_EVT 10))

/-- R358, R369 to R373: a frame of a port. Without its clock, two good frames in a row bring the port back; searching, sixteen good frames follow and the ratio is taken; what the frame start applies,
applies, and the slots carry what the output gives. The samples the converters make are the model's free functions (log 3). -/
def Claim.AudioFramesLockAndPlay : Prop :=
  ∀ (s : State) (p : Nat) (f : AudFrame),
    let d := s.dev
    let x := d.aport p
    let good := f.bclks == d.audSlots p * widthBits (d.get (Reg.AUD_CTL_SWIDTH p))
    let runs := p < d.part.audio ∧ d.is (Reg.AUD_CTL_EN p) = true ∧ x.held = false
    let lost := d.is (Reg.AUD_STAT_CLKLOST p)
    let C := Instr.audioFrame p f
    let back := (d.set (Reg.AUD_STAT_CLKLOST p) 0).raise (Reg.AUD_EVT p) 2
    let e := d.audIn p good f.din
    let h := if good = true then e else (e.incSat (Reg.AUD_CNT_GLITCH p) 1).raise (Reg.AUD_EVT p) 4
    let g := (if (h.aport p).phase = 4 then h.audLocked p f else h.audSearch p good f.ratio).audEdge p f.old
    d.held 11 = false →
      (¬runs → Goes C s d) ∧
      (runs → lost = true → good = false → Goes C s (d.setAport p { x with frames := 0 })) ∧
      (runs → lost = true → good = true → x.frames = 0 → Goes C s (d.setAport p { x with frames := 1 })) ∧
      (runs → lost = true → good = true → x.frames ≠ 0 →
        Goes C s (back.setAport p (if x.phase = 4 then { x with frames := 0, back := true } else { x with frames := 0, phase := 2 }))) ∧
      (runs → lost = false → Goes C s (if g.is (Reg.AUD_CTL_EN p) = true then g.audOut p else g)) ∧
      (runs → lost = false → f.old = false → x.phase = 1 → x.healTx = 0 → x.healRx = 0 → Completes C s (fun _ t =>
        (good = false → (t.aport p).phase = 1 ∧ (t.aport p).frames = 0) ∧ (good = true → x.frames = 0 → (t.aport p).frames = 1) ∧
        (good = true → 1 ≤ x.frames → (t.aport p).phase = 2 ∧ (t.aport p).frames = 0)))

/-- R361, R364, R367 to R369, R372, R374: an internal sample applies the global page, plays the feeds and feeds the outputs; a direction locks and unmutes once; a clock stop mutes; AUD_MCLK_IN's loss holds the master
ports until it comes back; the tone alternates; rates are shown, and one that leaves its lock restarts the port. -/
def Claim.AudioEventsAct : Prop :=
  ∀ (s : State) (p mclk : Nat) (tx : Bool) (rates : List Nat),
    let d := s.dev
    let runs := p < d.part.audio ∧ d.is (Reg.AUD_CTL_EN p) = true
    let lost := d.is (Reg.AUD_STAT_CLKLOST p) = true
    let lock := if tx = true then Reg.AUD_STAT_LOCK_TX p else Reg.AUD_STAT_LOCK_RX p
    let mute := if tx = true then Reg.AUD_STAT_MUTED_TX p else Reg.AUD_STAT_MUTED_RX p
    let e := ((d.set lock 1).set mute 0).raise (Reg.AUD_EVT p) 0
    let ok := d.is Reg.AUD_GSTAT_MCLKOK
    let a := d.audio
    let shown := d.set Reg.AUD_GSTAT_MCLK (min mclk (2 ^ 24 - 1))
    d.held 11 = false →
      (let u := d.pageApply 0x310000 .intact
       let u := u.feedKeys.foldl (fun d k => d.feedStep k) u
       let ps := u.audOn
       let v := ps.foldl (fun d p => d.audSample p) u
       let v := ps.foldl (fun d p => let i := d.inNow p; d.updAud p (fun x => { x with inp := i })) v
       Goes .audioInternalSample s { v with audio := { v.audio with toneAt := if v.is Reg.AUD_GSTAT_TONE = true then v.audio.toneAt + 1 else 0 } }) ∧
      (¬runs ∨ (d.aport p).phase < 3 ∨ d.is lock = true ∨ lost → Goes (.asrcLocked p tx) s d) ∧
      (runs → 3 ≤ (d.aport p).phase → d.is lock = false → ¬lost → Goes (.asrcLocked p tx) s
        (if e.is (Reg.AUD_STAT_LOCK_TX p) = true ∧ e.is (Reg.AUD_STAT_LOCK_RX p) = true then e.updAud p (fun x => { x with phase := 4 }) else e)) ∧
      (d.audOn = [] → Goes (.audioRateUpdate rates mclk) s shown) ∧
      (d.audOn = [p] → ¬lost → (d.aport p).held = false → Goes (.audioRateUpdate rates mclk) s (shown.portRate p (rates.getD p 0))) ∧
      (runs → d.is (Reg.AUD_CTL_MASTER p) = false → ¬lost → Completes (.audioClockStop p) s (fun _ t =>
        t.is (Reg.AUD_STAT_CLKLOST p) = true ∧ t.is (Reg.AUD_STAT_MUTED_TX p) = true ∧ t.is (Reg.AUD_STAT_MUTED_RX p) = true ∧
        (t.aport p).out = List.replicate (d.audSlots p) (some 0) ∧ (d.evtFree (Reg.AUD_EVT p) 1 0 = true → (t.rd (Reg.AUD_EVT p)).getLsbD 1 = true))) ∧
      (¬runs ∨ d.is (Reg.AUD_CTL_MASTER p) = true ∨ lost → Goes (.audioClockStop p) s d) ∧
      (ok = false → Goes .mclkLost s d) ∧ (ok = true → Goes .mclkResumed s d) ∧
      (ok = true → Completes .mclkLost s (fun d t => t.is Reg.AUD_GSTAT_MCLKOK = false ∧ ∀ q ∈ d.audMasters, (t.aport q).held = true ∧
        t.is (Reg.AUD_STAT_CLKLOST q) = true)) ∧
      (ok = false → Completes .mclkResumed s (fun d t => t.is Reg.AUD_GSTAT_MCLKOK = true ∧ ∀ q ∈ d.audMasters, (t.aport q).held = false)) ∧
      (d.is Reg.AUD_GSTAT_TONE = false → Goes .toneBurstTimer s d) ∧
      (d.is Reg.AUD_GSTAT_TONE = true → a.burst = true → d.get Reg.AUD_TONE_C_OFF ≠ 0 → Goes .toneBurstTimer s { d with audio := { a with burst := false } }) ∧
      (d.is Reg.AUD_GSTAT_TONE = true → a.burst = false ∨ d.get Reg.AUD_TONE_C_OFF = 0 → Goes .toneBurstTimer s
        { d with audio := { a with burst := true, second := d.is Reg.AUD_TONE_C_ALT && !a.second } })

/-! ## The root clock and the device's time (R430 to R463) -/

/-- R430, R431, R434 to R451, R83: the references. Each qualification, measurement, loss and recovery does what chapter 14 says to the source in use, and a change of CLK_STAT is an event. -/
def Claim.ReferencesQualifyAndFail : Prop :=
  ∀ (s : State) (xo wrong up : Bool) (abs b : Int) (offset : Int),
    let d := s.dev
    let on := d.rootOn = true
    let mode := d.get Reg.CLK_CFG_REFMODE
    let sel := d.get Reg.CLK_STAT_REFSEL
    let hold := d.is Reg.CLK_STAT_HOLDOVER = true
    let xoOk := d.is Reg.CLK_STAT_XO = true
    let G := fun (c : Instr) (u : Dev) => Goes c s (if u.rd Reg.CLK_STAT = d.rd Reg.CLK_STAT then u else u.raise Reg.SYS_EVT 9)
    let ref := d.set Reg.CLK_STAT_REFOK 1
    let takes := hold ∧ xoOk ∧ (mode = 2 ∨ (mode = 0 ∧ d.is Reg.CLK_STAT_NOREF = true))
    let meas := ((d.set Reg.CLK_REFMEAS_VALID 1).set Reg.CLK_REFMEAS_VSXO (d.get Reg.CLK_STAT_XO)).setI Reg.CLK_REFMEAS_OFFSET
      (clampI (-(2 ^ 29)) (2 ^ 29 - 1) offset)
    let none_ := (d.set Reg.CLK_REFMEAS_VALID 0).set Reg.CLK_STAT_REFOK 0
    let failed := ((d.set Reg.CLK_STAT_XO 0).raise Reg.CLK_EVT 5).sootE 1 0 0x2002 0
    let lock := (d.set Reg.CLK_STAT_LOCK (b2n up)).drive .pllLockf up
    (¬on → Goes (.refQualified xo abs) s d ∧ Goes (.refMeasure none wrong) s d ∧ Goes (.refMeasure (some offset) wrong) s d ∧ Goes .refLost s d ∧
      Goes .xoFail s d ∧ Goes .xoRecovered s d ∧ Goes (.lockChange up) s d) ∧
    (on →
      (takes → G (.refQualified true abs) (d.switchIn 2 abs)) ∧ (¬takes → Goes (.refQualified true abs) s d) ∧
      (mode ≠ 2 → sel ≠ 1 → G (.refQualified false abs) (ref.switchIn 1 abs)) ∧
      (mode = 2 ∨ sel = 1 → G (.refQualified false abs) ref) ∧
      (offset.natAbs ≤ 200000 → G (.refMeasure (some offset) false) meas) ∧
      (200000 < offset.natAbs → sel ≠ 1 → G (.refMeasure (some offset) false) (meas.set Reg.CLK_STAT_REFOK 0)) ∧
      (200000 < offset.natAbs → sel = 1 → G (.refMeasure (some offset) false) (meas.set Reg.CLK_STAT_REFOK 0).sourceLost) ∧
      (sel ≠ 1 → G (.refMeasure none false) none_) ∧ (sel = 1 → G (.refMeasure none false) none_.sourceLost) ∧
      G .refLost d.sourceLost ∧
      (¬xoOk → Goes .xoFail s d) ∧ (xoOk → sel = 2 → G .xoFail failed.sourceLost) ∧ (xoOk → sel ≠ 2 → G .xoFail failed.checkNoref) ∧
      G .xoRecovered (d.set Reg.CLK_STAT_XO 1) ∧
      (hold ∨ d.is Reg.CLK_STAT_LOCK = up → Goes (.lockChange up) s d) ∧
      (¬hold → d.is Reg.CLK_STAT_LOCK = !up → up = true → G (.lockChange up) lock) ∧
      (¬hold → d.is Reg.CLK_STAT_LOCK = !up → up = false → G (.lockChange up) ((lock.raise Reg.CLK_EVT 12).sootE 2 0 0x2001 0))) ∧
    (hold → mode = 0 → xoOk → G (.holdoverExpiry abs) (d.switchIn 2 abs)) ∧
    (¬(hold ∧ mode = 0 ∧ xoOk) → Goes (.holdoverExpiry abs) s d) ∧
    (d.is Reg.CLK_STAT_SLEW = true → d.clk.realign = false → G (.freqSlewDone b)
      (((d.setI ⟨Reg.CLK_BOUT, 31, 0⟩ b).set Reg.CLK_STAT_SLEW 0).raise Reg.CLK_EVT 6)) ∧
    (d.is Reg.CLK_STAT_SLEW = false ∨ d.clk.realign = true → Goes (.freqSlewDone b) s d) ∧
    (sel = 0 → ∀ c, Goes (.phaseComparison c) s d) ∧
    (sel ≠ 0 → G (.phaseComparison .good) { d with clk := { d.clk with blanked := 0 } } ∧
      G (.phaseComparison .extra) ((d.incSat Reg.CLK_CNT_GLITCH 1).raise Reg.CLK_EVT 4) ∧
      (let g := (d.incSat Reg.CLK_CNT_GLITCH 1).raise Reg.CLK_EVT 4
       let h : Dev := { g with clk := { g.clk with blanked := g.clk.blanked + 1 } }
       G (.phaseComparison .blanked) (if 3 ≤ d.clk.blanked then h.sourceLost else h))) ∧
    (d.inReset = true ∨ d.rst.banked = true → Goes .corelockLoss s d) ∧
    (d.inReset = false → d.rst.banked = false → Goes .corelockLoss s ((d.clkWatch (fun d => d.set Reg.CLK_STAT_CORELOCK 0)).resetAssert 2 7 0))

/-- R443 to R451: losing the source in use is holdover at the frequency reached, with its event; a switch-in leaves holdover, absorbs the offset, slews, and is counted. -/
def Claim.HoldoverAndSwitchIn : Prop :=
  ∀ (d : Dev) (src : Nat) (abs : Int),
    let t := d.sourceLost
    let u := d.switchIn src abs
    (d.get Reg.CLK_STAT_REFSEL = 0 → t = d) ∧
    (d.get Reg.CLK_STAT_REFSEL ≠ 0 → t.is Reg.CLK_STAT_HOLDOVER = true ∧ t.get Reg.CLK_STAT_REFSEL = 0 ∧ t.is Reg.CLK_STAT_SLEW = false ∧
      t.clk.realign = false ∧ t.clk.blanked = 0 ∧ (d.evtFree Reg.CLK_EVT 0 0 = true → (t.rd Reg.CLK_EVT).getLsbD 0 = true) ∧
      (t.is Reg.CLK_STAT_NOREF = true ↔ d.is Reg.CLK_STAT_NOREF = true ∨ d.get Reg.CLK_CFG_REFMODE ≠ 0 ∨ d.is Reg.CLK_STAT_XO = false)) ∧
    (1 ≤ src → src ≤ 2 → -(2 ^ 31) ≤ abs → abs < 2 ^ 31 →
      u.is Reg.CLK_STAT_HOLDOVER = false ∧ u.get Reg.CLK_STAT_REFSEL = src ∧ u.is Reg.CLK_STAT_SLEW = true ∧ u.is Reg.CLK_STAT_NOREF = false ∧
      u.clk.realign = false ∧ toSigned 32 (u.rd Reg.CLK_BOUT).toNat = abs ∧ toSigned 32 (u.rd Reg.CLK_BOABS).toNat = abs ∧
      (d.evtFree Reg.CLK_EVT src 0 = true → (u.rd Reg.CLK_EVT).getLsbD src = true))

/-- R450, R452, R454, R458, R459, R463: the CLK commands with their statuses, a phase target written, and a stepper that moves one step towards its target and
reports its arrival. -/
def Claim.ClockCommandsAndSteps : Prop :=
  ∀ (s : State) (tag k : Nat) (w : Word),
    let d := s.dev
    let busy := (d.rd Reg.CLK_CMDSTAT).getLsbD 0
    let lost := d.wr Reg.CLK_CMDSTAT (putBits (d.rd Reg.CLK_CMDSTAT) 1 1 1)
    let ends := fun (op st : Nat) => (d.cmdDone Reg.CLK_CMDSTAT op tag st).raise Reg.CLK_EVT 11
    let G := fun (c : Instr) (u : Dev) => Goes c s (if u.rd Reg.CLK_STAT = d.rd Reg.CLK_STAT then u else u.raise Reg.SYS_EVT 9)
    let ok := ends 2 0
    let free := d.lanesOn = [] ∧ d.armed = none ∧ d.cap.snap = none
    let ofs := toSigned 64 (d.rd64 Reg.CLK_TOFS_LO Reg.CLK_TOFS_HI)
    let src := d.get Reg.CLK_TIMECFG_SRC
    let slewing := d.is Reg.CLK_STAT_SLEW = true ∨ d.get Reg.CLK_STAT_REFSEL ≠ 1
    let set_ := ends 3 0
    let target := toSigned 32 (d.rd (phaseTarget k)).toNat
    let pos := d.phasePos k
    (busy = true → Goes (.realign tag) s lost ∧ Goes (.tset tag) s lost ∧ Goes (.tslew tag) s lost ∧ Goes (.tstop tag) s lost) ∧
    (busy = false →
      (slewing → G (.realign tag) (ends 2 7)) ∧
      (¬slewing → d.rd Reg.CLK_BOUT = 0 → G (.realign tag) (ok.raise Reg.CLK_EVT 7)) ∧
      (¬slewing → d.rd Reg.CLK_BOUT ≠ 0 → G (.realign tag) (({ ok with clk := { ok.clk with realign := true } } : Dev).set Reg.CLK_STAT_SLEW 1)) ∧
      (src ≠ 0 ∨ ¬free → G (.tset tag) (ends 3 7)) ∧
      (src = 0 → free → G (.tset tag) { set_ with clk := { set_.clk with tset := some (d.rd64 Reg.CLK_TSET_LO Reg.CLK_TSET_HI) } }) ∧
      (1000000000 < ofs.natAbs → G (.tslew tag) (ends 4 3)) ∧
      (ofs.natAbs ≤ 1000000000 → src ≠ 0 → G (.tslew tag) (ends 4 7)) ∧
      (ofs.natAbs ≤ 1000000000 → src = 0 → G (.tslew tag) ((ends 4 0).slewBy ofs 0)) ∧
      G (.tstop tag) (ends 5 0).slewStop) ∧
    (k < 3 → Goes (.phtgtWrite k w) s (d.wr (phaseTarget k) w)) ∧ (3 ≤ k → Goes (.phtgtWrite k w) s d) ∧
    (k < 3 → pos = target → Goes (.phaseStep k) s d) ∧
    (k < 3 → pos ≠ target → Completes (.phaseStep k) s (fun d t =>
      (-(2 ^ 31) ≤ pos → pos < 2 ^ 31 → t.phasePos k = (if pos < target then pos + 1 else pos - 1)) ∧
      (stepTo pos target = target → d.evtFree Reg.CLK_EVT (if k = 0 then 7 else 8) 0 = true →
        (t.rd Reg.CLK_EVT).getLsbD (if k = 0 then 7 else 8) = true))) ∧
    (3 ≤ k → d.clk.realign = false → Goes (.phaseStep k) s d) ∧
    (3 ≤ k → d.clk.realign = true → G (.phaseStep k) d.realignStep)

/-- A bus as its becoming free leaves it but FREE (R413, R418): it is stuck no longer, and after a held SCL it owes a clear. -/
def Sys2Proof.Machine.Dev.auxOwes (d : Dev) (b : Nat) : Dev :=
  let d := if d.is (Reg.AUX_STAT_SCLSTUCK b) = true then d.setAux b { d.auxBus b with clearDue := true } else d
  if d.auxStuck b = true then ((d.set (Reg.AUX_STAT_SCLSTUCK b) 0).set (Reg.AUX_STAT_SDASTUCK b) 0).raise (Reg.AUX_EVT b) 4 else d

/-! ## The smoke radio and the ember (R378 to R406) -/

/-- R384, R385, R399: SEND takes the SMK_TXPAR words and the buffer as they stand, is refused with its status, or is queued; ABORT ends what has not started at once and cuts what has. -/
def Claim.SendsStartEndOrAbort : Prop :=
  ∀ (s : State) (tag : Nat),
    let d := s.dev
    let e := d.cmdStart Reg.SMK_TXSTAT 1 tag
    let len := e.get Reg.SMK_TXPAR3_LEN
    let ch := e.get Reg.SMK_TXPAR0_CH
    let rate := e.get Reg.SMK_TXPAR1_RATE
    let width := smkWidth (e.is Reg.SMK_TXPAR1_MOD4) rate
    let air := smkAir 0 (e.get Reg.SMK_RADIO_PRE) (11 + len) rate
    let ok := d.part.hasSmoke = true ∧ d.cmdBusy Reg.SMK_TXSTAT = false
    let good := chanOk ch = true ∧ 1 ≤ len ∧ len ≤ 116 ∧ e.get Reg.SMK_TXPAR1_PWR ≤ 60
    let on := e.is Reg.SMK_CTL_EN = true
    let valid := e.is Reg.SMK_RGNID_VALID = true
    let G := Goes (.send tag) s
    let A := Goes .txAbort s
    let unsent : Dev := { d with smoke := { d.smoke with send := none } }
    let cut := fun (t : SmkTx) => { d with smoke := { d.smoke with job := some { t with phase := .cut 0x67 } } }
    d.held 13 = false →
      (d.part.hasSmoke = false → G (d.cmdAbsent Reg.SMK_TXSTAT 1 tag)) ∧
      (d.part.hasSmoke = true → d.cmdBusy Reg.SMK_TXSTAT = true → G (d.cmdLost Reg.SMK_TXSTAT)) ∧
      (ok → ¬good → G (e.sendEnd 3 0)) ∧
      (ok → good → ¬on → G (e.sendEnd 0x60 5)) ∧
      (ok → good → on → ¬valid ∨ e.smkSub ch width = none → G (e.sendEnd 0x61 0)) ∧
      (∀ k : Nat, ok → good → on → valid → e.smkSub ch width = some k →
        (min (e.get Reg.SMK_RGNLIM_TXMAX) (e.get Reg.SMK_RADIO_TMO) < air → G (e.sendEnd 0x62 0)) ∧
        (air ≤ min (e.get Reg.SMK_RGNLIM_TXMAX) (e.get Reg.SMK_RADIO_TMO) →
          G ({ e with smoke := { e.smoke with send := some (e.sendTx k air len), calStep := false } } : Dev).smkTurn)) ∧
      (d.smoke.send.isSome = true → A (unsent.sendEnd 0x67 0)) ∧
      (d.smoke.send = none → d.smoke.job = none → A d) ∧
      (∀ t : SmkTx, d.smoke.send = none → d.smoke.job = some t →
        (t.page.isSome = true → A d) ∧
        (t.page = none → t.keyed = false → A (d.smkDrop.sendEnd 0x67 0).smkTurn) ∧
        (t.page = none → t.keyed = true → (∀ c, t.phase ≠ .cut c) → A (cut t).smkShow) ∧
        (∀ c, t.page = none → t.phase = .cut c → A d.smkShow))

/-- R281, R385, R395: a page is taken from the head of the queue with the active setting, disabled or late pages fail, and a repeat starts at its time or is skipped. -/
def Claim.PagesAreTakenAndRepeated : Prop :=
  ∀ s : State,
    let d := s.dev
    let busy := d.smoke.job.any (·.page.isSome) = true ∨ d.smoke.next.isSome = true
    let on := d.is Reg.SMK_CTL_EN = true
    let G := Goes .pageRepeatDue s
    let less := fun r => ({ d with smoke := { d.smoke with reps := d.smoke.reps.erase r } } : Dev)
    d.held 13 = false →
      (busy ∨ d.fire.pages = [] → Goes .pageTake s d) ∧
      (∀ (p : SmkPage) (rest : List SmkPage), ¬busy → d.fire.pages = p :: rest →
        let q : Dev := { d with fire := { d.fire with pages := rest } }
        let q := q.pageq
        let e : Dev := { q with smoke := { q.smoke with pageNo := (d.smoke.pageNo + 1) % 2 ^ 32 } }
        let set := e.pageSet (e.rd Reg.SMK_PGCFG) (e.rd Reg.SMK_RADIO)
        let live := e.is Reg.SMK_CTL_EN = true ∧ e.is Reg.SMK_PGCFG_PEN = true
        (¬live ∨ set = none → Goes .pageTake s (e.pageLate p.log 0 5)) ∧
        (live → set.isSome = true → p.deadline ≤ e.now → Goes .pageTake s (e.pageLate p.log 0 4)) ∧
        (∀ x, live → set = some x → e.now < p.deadline → Goes .pageTake s (e.smkTake (e.smkPageTx p x d.smoke.pageNo)))) ∧
      (busy → d.smoke.reps.find? (fun r => decide (r.2.latest ≤ d.now)) = none → G d) ∧
      (∀ r, busy → d.smoke.reps.find? (fun r => decide (r.2.latest ≤ d.now)) = some r → G ((less r).skipRepeat r.2 r.1)) ∧
      (¬busy → d.smoke.reps.find? (fun r => decide (r.1 ≤ d.now)) = none → G d) ∧
      (∀ r, ¬busy → d.smoke.reps.find? (fun r => decide (r.1 ≤ d.now)) = some r →
        (r.2.latest ≤ d.now ∨ ¬on → G ((less r).skipRepeat r.2 r.1)) ∧
        (d.now < r.2.latest → on → d.fire.pages ≠ [] → G d) ∧
        (d.now < r.2.latest → on → d.fire.pages = [] → G ((less r).smkTake r.2)))

/-- R386, R388, R391 to R394, R396: the gate opens at lock, the grant is sampled, the start emits the frame, the end counts it; loss of the grant cuts it unless a page is held,
loss of lock ends it with UNLOCK. -/
def Claim.TransmissionsFollowTheGate : Prop :=
  ∀ (s : State) (level : Bool),
    let d := s.dev
    let on := d.is Reg.SMK_CTL_EN = true
    let lock := d.smoke.lock = true
    let e : Dev := { d with smoke := { d.smoke with lock := true, band := false } }
    let g : Dev := { d with smoke := { d.smoke with gnt := level } }
    let coex := d.is Reg.SMK_CTL_COEXEN = true
    let L := Goes .synthLocked s
    let C := Goes (.coexGntChange level) s
    let T := Goes .txStart s
    let U := Goes .synthUnlock s
    let lost : Dev := { d with smoke := { d.smoke with lock := false, band := true } }
    d.held 13 = false →
      (¬on ∨ lock → L d) ∧ (on → ¬lock → d.smoke.job = none → L e.smkTurn) ∧
      (d.part.hasSmoke = false → C d) ∧ (d.part.hasSmoke = true → ¬coex ∨ d.smoke.job = none → C g) ∧
      (d.smoke.job = none → T d ∧ Goes .txEnd s d) ∧
      (¬on → U d) ∧ (on → d.smoke.job = none → U lost.smkShow) ∧
      (∀ t : SmkTx, d.smoke.job = some t →
        (on → ¬lock → t.phase ≠ .synth → L e.smkShow) ∧
        (on → ¬lock → t.phase = .synth → coex → d.smoke.gnt = false →
          L ((({ e with smoke := { e.smoke with job := some { t with phase := .grant } } } : Dev).raise Reg.SMK_EVT 11).smkShow)) ∧
        (on → ¬lock → t.phase = .synth → ¬coex ∨ d.smoke.gnt = true → L (e.smkKey t)) ∧
        (d.part.hasSmoke = true → coex →
          (level = true → t.phase = .grant → C (g.smkKey t)) ∧ (level = true → t.phase ≠ .grant → C g) ∧
          (level = false → t.keyed = false ∨ (t.page.isSome = true ∧ d.is Reg.SMK_CTL_COEXHOLD = true) ∨ (∃ c, t.phase = .cut c) → C g) ∧
          (level = false → t.phase = .ramp ∨ t.phase = .onAir → t.page = none ∨ d.is Reg.SMK_CTL_COEXHOLD = false →
            C ({ g with smoke := { g.smoke with job := some { t with phase := .cut 0x64 } } } : Dev).smkShow)) ∧
        (t.phase ≠ .ramp → T d) ∧
        (t.phase = .ramp →
          let b : Dev := { d with smoke := { d.smoke with job := some { t with phase := .onAir, startAt := d.now } } }
          let u : Dev := match t.page with
            | none => b
            | some p => (if t.repno = 0 then b.set Reg.SMK_PGSTAT_LAT (min 65535 ((d.now - p.at_) / 1000)) else b).set Reg.SMK_PGSTAT_REPS (min 15 (t.repno + 1))
          T (u.emit (.smoke t.set d.smoke.pa.1 t.set.pre (u.smkFrame t)))) ∧
        (t.phase = .onAir → Goes .txEnd s (d.smkFinish t 0)) ∧ (∀ c, t.phase = .cut c → Goes .txEnd s (d.smkFinish t c)) ∧
        (t.phase ≠ .onAir → (∀ c, t.phase ≠ .cut c) → Goes .txEnd s d) ∧
        (on → t.keyed = true → U ((d.raise Reg.SMK_EVT 10).smkFinish t 0x65)) ∧
        (on → t.phase = .duty → U ({ lost with smoke := { lost.smoke with job := some t } } : Dev).smkShow) ∧
        (on → t.phase = .synth ∨ t.phase = .grant →
          U ({ lost with smoke := { lost.smoke with job := some { t with phase := .synth } } } : Dev).smkShow))

/-- R385, R387 to R390: a transmission whose last moment has come ends TXLATE; the always-on timer ends one at its limit; duty buckets age out; a calibration step closes the gate; the PA is measured. -/
def Claim.RadioTimersAct : Prop :=
  ∀ (s : State) (temp : Int) (vdd : Nat),
    let d := s.dev
    let L := Goes .txlate s
    let due := fun (t : SmkTx) => t.latest ≤ d.now + 21000
    let noJob := ∀ t, d.smoke.job = some t → t.keyed = true ∨ ¬due t
    let noNext := ∀ t, d.smoke.next = some t → ¬due t
    let sec := d.now / 1000000000
    let old := { d with smoke := { d.smoke with duty := d.smoke.duty.filter (fun c => decide (sec < c.1 % 2 ^ 32 + d.get Reg.SMK_RGNLIM_WINDOW)) } }
    let aged : Dev := old.refreshDuty
    let ready := d.is Reg.SMK_CTL_EN = true ∧ d.smoke.lock = true ∧ d.smoke.job = none ∧ d.smoke.next = none ∧ d.smoke.send = none ∧ d.smkCal = false
    let step := fun (b : Bool) => ({ d with smoke := { d.smoke with calStep := b } } : Dev)
    let D := Goes .dutyBucketTick s
    (d.smoke.job = none → D aged) ∧
    (∀ t, d.smoke.job = some t →
      (t.phase = .duty → aged.dutyUsed t.set.sub + t.set.air ≤ aged.dutyLimit t → D (aged.smkPrep t)) ∧
      (t.phase ≠ .duty ∨ aged.dutyLimit t < aged.dutyUsed t.set.sub + t.set.air → D aged)) ∧
    (d.held 13 = false →
      (∀ t, d.smoke.job = some t → t.keyed = false → due t → L ((d.smkDrop.smkLate t t.cause).smkTurn)) ∧
      (∀ t, noJob → d.smoke.next = some t → due t → L ((({ d with smoke := { d.smoke with next := none } } : Dev).smkLate t 1).smkTurn)) ∧
      (∀ t, noJob → noNext → d.smoke.send = some t → due t → L ((({ d with smoke := { d.smoke with send := none } } : Dev).smkLate t 4).smkTurn)) ∧
      (noJob → noNext → (∀ t, d.smoke.send = some t → ¬due t) → L d) ∧
      (∀ t, d.smoke.job = some t → t.keyed = true → t.txAt + msNs (min (d.get Reg.SMK_RGNLIM_TXMAX) (d.get Reg.SMK_RADIO_TMO)) ≤ d.now →
        Goes .txTimeout s (((d.raise Reg.SMK_EVT 9).sootE 2 13 0xA001 t.set.ch).smkFinish t 0x66)) ∧
      ((∀ t, d.smoke.job = some t → t.keyed = false ∨ d.now < t.txAt + msNs (min (d.get Reg.SMK_RGNLIM_TXMAX) (d.get Reg.SMK_RADIO_TMO))) →
        Goes .txTimeout s d) ∧
      (ready → Goes (.bgCalStep true) s (step true).smkShow) ∧ (¬ready → Goes (.bgCalStep true) s d) ∧
      Goes (.bgCalStep false) s (step false).smkShow ∧
      (d.is Reg.SMK_CTL_EN = true → Goes (.paSenseTick temp vdd) s { d with smoke := { d.smoke with sense := (temp, vdd) } }) ∧
      (d.is Reg.SMK_CTL_EN = false → Goes (.paSenseTick temp vdd) s d))

/-- R392, R397, R398: a frame heard is accepted by its checks in order and enters the four-entry FIFO with its record; a full FIFO drops it; SMK_RXPOP gives up the oldest. -/
def Claim.FramesHeardEnterTheFifo : Prop :=
  ∀ (s : State) (bytes : List Byte) (crc : Bool) (errs rssi ago : Nat),
    let d := s.dev
    let C := fun cut => Goes (.smokeFrameRx bytes crc errs rssi ago cut) s
    let len := (bytes.headD 0).toNat
    let heard := d.smkListens = true ∧ errs ≤ d.get Reg.SMK_RXCFG_SYNCERR ∧ 12 ≤ len ∧ len ≤ 127 ∧ bytes.length = len + 1
    let ver := (bytes.getD 1 0).toNat / 16 = 1
    let mine := d.is Reg.SMK_CTL_RXSYS = false ∨ beNat ((bytes.drop 2).take 2) = d.get Reg.SYS_DEVID_SYSID
    let n := d.get Reg.SMK_RXSTAT_COUNT
    let at_ := (d.get Reg.SMK_RXSTAT_HEAD + n) % 4
    let r := if d.smkCal = true then d.smoke.rssi else rssi % 65536
    let time := d.devtime - ago
    let entry : List Word := [BitVec.ofNat 32 (r * 65536 + errs % 4 * 256 + b2n d.smkCal), lo32 time, hi32 time]
      ++ (List.range 32).map (fun i => wordOfBytes (bytes.getD (4 * i) 0) (bytes.getD (4 * i + 1) 0) (bytes.getD (4 * i + 2) 0) (bytes.getD (4 * i + 3) 0))
    let f := entry.zipIdx.foldl (fun d p => d.wr (Reg.SMK_RXFIFO at_ p.2) p.1) d
    let g : Dev := { f with smoke := { f.smoke with rssi := r } }
    d.held 13 = false →
      (d.smoke.job.isSome = true → C true (d.incSat Reg.SMK_CNT1_RXABORT 1)) ∧ (d.smoke.job = none → C true d) ∧
      (¬heard → C false d) ∧ (heard → crc = false → C false ((d.incSat Reg.SMK_CNT1_CRCERR 1).raise Reg.SMK_EVT 6)) ∧
      (heard → crc = true → ¬ver ∨ ¬mine → C false d) ∧
      (heard → crc = true → ver → mine → 4 ≤ n → C false (d.raise Reg.SMK_EVT 5)) ∧
      (heard → crc = true → ver → mine → n < 4 →
        C false (((g.set Reg.SMK_RXSTAT_COUNT (n + 1)).incSat Reg.SMK_CNT0_RXFRAMES 1).raise Reg.SMK_EVT 4)) ∧
      (n = 0 → Goes .rxpopWrite s d) ∧
      (n ≠ 0 → Goes .rxpopWrite s ((d.set Reg.SMK_RXSTAT_COUNT (n - 1)).set Reg.SMK_RXSTAT_HEAD ((d.get Reg.SMK_RXSTAT_HEAD + 1) % 4)))

/-- R400, R402, R403: a sniff above the threshold starts a search unless a transmission overlaps it; the run that ends a search is a match within ERRMAX bit errors, which wakes a banked device
or records its time, else a false detection. -/
def Claim.EmberSniffsAndMatches : Prop :=
  ∀ (s : State) (level : Int) (run : Word),
    let d := s.dev
    let C := Goes (.emberSniff level) s
    let R := Goes (.emberSearchEnd run) s
    let idle := d.is Reg.EMB_CFG_EN = true ∧ d.is Reg.EMB_STAT_SEARCH = false ∧ bit (d.rd Reg.RST_BLK) 14 = false
    let above := (d.get Reg.EMB_CFG_THR : Int) - 100 < level
    let e : Dev := if d.is Reg.EMB_CFG_FEMRX = true then d.drive .smkRxen true else d
    let m : Dev := { e with smoke := { e.smoke with pat := e.rd Reg.EMB_PAT, errMax := e.get Reg.EMB_CFG_ERRMAX } }
    let n := bitErrors run d.smoke.pat
    let f := d.set Reg.EMB_STAT_SEARCH 0
    let hit := (f.set Reg.EMB_STAT_ERRS n).incMod Reg.EMB_STAT_MATCHES 1
    let awake := d.rst.banked = false ∧ d.rst.bankSteps = []
    let wakes := hit.is Reg.EMB_CFG_WAKE = true ∧ d.rst.wake = none
    let ends := fun (v : Dev) => R (if d.rst.banked = true ∧ v.rst.wake = some 1 then v.smkShow.wakeUp 1 else v.smkShow)
    (¬idle → C d) ∧ (idle → d.smkKeyed = true → C ((d.incSat Reg.EMB_CNT_SKIP 1).raise Reg.EMB_EVT 2)) ∧
    (idle → d.smkKeyed = false → ¬above → C e.smkShow) ∧
    (idle → d.smkKeyed = false → above → C (m.set Reg.EMB_STAT_SEARCH 1).smkShow) ∧
    (d.is Reg.EMB_STAT_SEARCH = false → R d) ∧
    (d.is Reg.EMB_STAT_SEARCH = true →
      (d.smoke.errMax < n → ends ((f.incSat Reg.EMB_CNT_FALSEDET 1).raise Reg.EMB_EVT 1)) ∧
      (n ≤ d.smoke.errMax → awake → ends ((hit.wr64 Reg.EMB_TIME_LO Reg.EMB_TIME_HI d.devtime).raise Reg.EMB_EVT 0)) ∧
      (n ≤ d.smoke.errMax → ¬awake → wakes → ends { hit.set Reg.EMB_STAT_WOKE 1 with rst := { d.rst with wake := some 1 } }) ∧
      (n ≤ d.smoke.errMax → ¬awake → ¬wakes → ends hit))

/-! ## The auxiliary buses (R408 to R427) -/

/-- R408, R411, R412, R419: the controller's commands. XFER is refused with its status or waits its turn and goes; CLEAR runs only while no transaction does; ABORT ends what is in hand; a second command is LOST. -/
def Claim.AuxCommandsStartOrEnd : Prop :=
  ∀ (s : State) (b tag : Nat) (freed : Bool),
    let d := s.dev
    let has := d.part.hasBus b = true
    let busy := d.cmdBusy (Reg.AUX_CMDSTAT b) = true
    let X := Goes (.xfer b tag) s
    let K := Goes (.auxClear b tag freed) s
    let A := Goes (.auxAbort b) s
    let e := d.cmdStart (Reg.AUX_CMDSTAT b) 1 tag
    let c := d.cmdStart (Reg.AUX_CMDSTAT b) 2 tag
    let wlen := e.get (Reg.AUX_XFER_WLEN b)
    let rlen := e.get (Reg.AUX_XFER_RLEN b)
    let bad := 256 < wlen + rlen ∨ (b ≠ 0 ∧ e.get (Reg.AUX_CFG_SPEED b) = 2)
    let dead := fun (d : Dev) => d.is (Reg.AUX_CFG_EN b) = false ∨ d.auxStuck b = true
    let t : AuxTx := { use := .host, addr := e.get (Reg.AUX_XFER_ADDR b), wlen := wlen, rlen := rlen, data := e.auxBytes b wlen, retries := e.get (Reg.AUX_CFG_RETRY b),
                       wretry := e.is (Reg.AUX_CFG_WRETRY b), nakretry := e.is (Reg.AUX_CFG_NAKRETRY b), tries := 0, running := false, delay := false }
    let x := d.auxBus b
    let run := (c.auxBus b).cur.any (·.running) = true
    let host := ∃ u, x.cur = some u ∧ u.use = .host
    d.held 12 = false →
      (¬has → X (if b = 2 then d.cmdAbsent (Reg.AUX_CMDSTAT 2) 1 tag else d) ∧ K (if b = 2 then d.cmdAbsent (Reg.AUX_CMDSTAT 2) 2 tag else d) ∧ A d) ∧
      (has → busy → X (d.cmdLost (Reg.AUX_CMDSTAT b)) ∧ K (d.cmdLost (Reg.AUX_CMDSTAT b))) ∧
      (has → ¬busy → bad → X (e.auxCmdEnd b 3)) ∧
      (has → ¬busy → ¬bad → dead e → X (e.auxCmdEnd b 0x75)) ∧
      (has → ¬busy → ¬bad → ¬dead e → X (((e.setAux b { e.auxBus b with wait := some t }).wr (Reg.AUX_XSTAT b) 0).auxGo b)) ∧
      (has → ¬busy → dead c → K (c.auxCmdEnd b 0x75)) ∧
      (has → ¬busy → ¬dead c → run → K (c.auxCmdEnd b 2)) ∧
      (has → ¬busy → ¬dead c → ¬run → K ((c.auxCleared b freed).auxCmdEnd b (if freed = true then 0 else 0x77))) ∧
      (has → host → A ((((d.setAux b { x with cur := none }).set (Reg.AUX_STAT_OWN b) 0).auxCmdEnd b 0x76).auxGo b)) ∧
      (has → ¬host → x.wait.isSome = true → A ((d.setAux b { x with wait := none }).auxCmdEnd b 0x76)) ∧
      (has → ¬host → x.wait = none → A d)

/-- R413 to R419: how a try ends. Its outcome is recorded and counted, its failure retried within RETRY where R417 says so; a bus error, a loss of arbitration and a stuck SCL are raised; the bus becomes free, and a due clear runs. -/
def Claim.AuxTriesEnd : Prop :=
  ∀ (s : State) (b byte bit_ acked : Nat) (data : List Byte) (freed : Bool) (e : AuxEnd),
    let d := s.dev
    let x := d.auxBus b
    let E := fun e => Goes (.auxTryEnd b e) s
    let where_ := (d.set (Reg.AUX_XSTAT_BYTE b) byte).set (Reg.AUX_XSTAT_BIT b) bit_
    let tmo := ((d.incSat (Reg.AUX_CNT1_SCLTMO b) 1).set (Reg.AUX_STAT_SCLSTUCK b) 1).set (Reg.AUX_STAT_SCL b) 0
    let quiet := d.part.hasBus b = true ∧ d.is (Reg.AUX_CFG_EN b) = true ∧ (∀ t, x.cur = some t → t.running = false)
    let f := d.auxOwes b
    let idle := ((f.set (Reg.AUX_STAT_FREE b) 1).set (Reg.AUX_STAT_SCL b) 1).set (Reg.AUX_STAT_SDA b) 1
    let held := d.is (Reg.AUX_STAT_SCLSTUCK b) = true
    d.held 12 = false →
      (x.cur.any (·.running) = false → E e d ∧ Goes (.auxBusError b byte bit_ acked) s d ∧ Goes (.auxSclTimeout b acked) s d) ∧
      (∀ t, x.cur = some t → t.running = true →
        E (.done data) (d.auxTryOver b t 0 t.wlen (data.take t.rlen)) ∧
        E .nackAddr (d.auxTryOver b t 0x70 0 []) ∧ E (.nackData acked) (d.auxTryOver b t 0x71 acked []) ∧
        E (.arbLost byte bit_ acked) (((where_.incSat (Reg.AUX_CNT0_ARBLOST b) 1).raise (Reg.AUX_EVT b) 2).auxTryOver b t 0x72 acked []) ∧
        Goes (.auxBusError b byte bit_ acked) s (((where_.incSat (Reg.AUX_CNT0_BUSERR b) 1).raise (Reg.AUX_EVT b) 3).auxTryOver b t 0x73 acked []) ∧
        Goes (.auxSclTimeout b acked) s ((((tmo.raise (Reg.AUX_EVT b) 5).sootE 1 12 0x9001 b).auxTryOver b t 0x74 acked []).auxWaitStuck b)) ∧
      (¬quiet → Goes (.auxBusFree b) s d ∧ Goes (.auxAutoclear b freed) s d) ∧
      (quiet → (b ≠ 0 → Goes (.auxBusFree b) s (idle.auxGo b)) ∧
        (b = 0 → Goes (.auxBusFree b) s (({ idle with target := { idle.target with cur := none } } : Dev).auxGo b)) ∧
        (held → Goes (.auxAutoclear b freed) s d) ∧
        (¬held → x.clearDue = true ∨ d.is (Reg.AUX_CFG_AUTOCLR b) = true → Goes (.auxAutoclear b freed) s (d.auxCleared b freed)) ∧
        (x.clearDue = false → d.is (Reg.AUX_CFG_AUTOCLR b) = false → Goes (.auxAutoclear b freed) s d)) ∧
      (∀ t, x.cur = some t → t.delay = true → d.is (Reg.AUX_STAT_FREE b) = true →
        Goes (.auxRetryDelay b) s ((d.setAux b { x with cur := some { t with delay := false } }).auxGo b)) ∧
      ((∀ t, x.cur = some t → t.delay = false ∨ d.is (Reg.AUX_STAT_FREE b) = false) → Goes (.auxRetryDelay b) s d)

/-- R417: a failed try waits for its retry exactly where the table of R417 allows it and tries are left; a try that succeeds, or may not be repeated, ends the transaction with its status. -/
def Claim.AuxRetriesFollowTheTable : Prop :=
  ∀ (d : Dev) (b acked st : Nat) (t : AuxTx) (data : List Byte),
    let again := st = 0x72 ∨ ((st = 0x73 ∨ st = 0x74) ∧ (acked = 0 ∨ t.wretry = true)) ∨ (st = 0x70 ∧ t.nakretry = true) ∨ (st = 0x71 ∧ t.wretry = true)
    let e := d.set (Reg.AUX_STAT_OWN b) 0
    let f := if t.use = .host then (e.set (Reg.AUX_XSTAT_WDONE b) (min acked 255)).set (Reg.AUX_XSTAT_RDONE b) (min data.length 255) else e
    (again → t.tries ≤ t.retries → d.auxTryOver b t st acked data = f.setAux b { f.auxBus b with cur := some { t with running := false, delay := true } }) ∧
    (¬again ∨ t.retries < t.tries → t.use = .host →
      d.auxTryOver b t st acked data = (((f.setAux b { f.auxBus b with cur := none }).auxPut b t.wlen data).auxCmdEnd b st).auxGo b)

/-- R420 to R425: AUX0's target. An address it serves is answered, a read with a snapshot; a byte moves the pointer, is refused after the first of a write, is read, or answers an alert; a START or STOP before its commit,
and a held SCL, end it. -/
def Obligations.TargetAnswersOnAux0 : Prop :=
  ∀ (s : State) (addr : Nat) (read lost low : Bool) (v : Byte),
    let d := s.dev
    let T := fun c => Goes (.auxTargetByte v true c) s
    let A := Goes (.auxTargetAddress addr read) s
    let e : Dev := if d.is (Reg.AUX_STAT_OWN 0) = true then d else d.set (Reg.AUX_STAT_FREE 0) 0
    let own := e.get Reg.AUX_TCFG_TADDR
    let answers := fun t (u : Dev) => ({ u with target := { u.target with cur := t } } : Dev)
    let alerts := own ≠ 0 ∧ addr ≠ own ∧ addr = 0x0C ∧ read = true ∧ e.ball .atnN = false
    let x := d.target
    let done : Dev := { d with target := { x with cur := none } }
    let me : Byte := BitVec.ofNat 8 (2 * d.get Reg.AUX_TCFG_TADDR)
    let q := d.set (Reg.AUX_STAT_ATN 0) (b2n low)
    let asks := q.is Reg.AUX_TCFG_ATNQ = true ∧ q.ball .atnN = true ∧ q.target.stuck = false
    (own ≠ 0 → addr = own → read = true → A (({ e with target := { e.target with cur := some .reading, snap := e.mboxSnap } } : Dev).emit (.target true none))) ∧
    (own ≠ 0 → addr = own → read = false → A ((answers (some (.writing 0)) e).emit (.target true none))) ∧
    (alerts → A ((answers (some .alert) e).emit (.target true none))) ∧
    (own = 0 ∨ addr ≠ own → ¬alerts → A ((answers none e).emit (.target false none))) ∧
    (x.cur = none → T lost d ∧ Goes (.auxTargetByte v false lost) s d ∧ Goes .auxTargetTimeout s d) ∧
    (x.cur = some (.writing 0) → T lost (({ d with target := { x with cur := some (.writing 1), pointer := v.toNat % 64 } } : Dev).emit (.target true none))) ∧
    (∀ n, x.cur = some (.writing (n + 1)) →
      T lost ((({ d with target := { x with cur := some (.writing (n + 2)) } } : Dev).incSat Reg.AUX_TCNT_WNACK 1).emit (.target false none))) ∧
    (x.cur = some .reading → T lost (({ d with target := { x with pointer := (x.pointer + 1) % 64 } } : Dev).emit (.target false (some (x.snap.getD x.pointer 0))))) ∧
    (x.cur = some .alert → T true (done.emit (.target false (some me)))) ∧
    (x.cur = some .alert → T false (((done.drive .atnN true).incSat Reg.AUX_TCNT_ARA 1).emit (.target false (some me)))) ∧
    (x.cur.isSome = true → Goes (.auxTargetByte v false lost) s ((done.incSat Reg.AUX_TCNT_SRABORT 1).raise (Reg.AUX_EVT 0) 9) ∧
      Goes .auxTargetTimeout s (done.incSat Reg.AUX_TCNT_TMO 1)) ∧
    (let new := d.mailbox
     let pin := fun (v : List Byte) => (v.getD 0x14 0).getLsbD 7
     let changed := x.values ≠ [] ∧ (x.values.getD 1 0 ≠ new.getD 1 0 ∨ x.severe ≠ d.soot.severe ∨ pin x.values ≠ pin new)
     let u : Dev := { d with target := { x with values := new, severe := d.soot.severe } }
     (changed → u.is Reg.AUX_TCFG_ATNEN = true → Goes .healthMailboxRefresh s (u.drive .atnN false)) ∧
     (¬changed ∨ u.is Reg.AUX_TCFG_ATNEN = false → Goes .healthMailboxRefresh s u)) ∧
    (low = false → Goes (.atnQuery low) s
      (let u : Dev := { q with target := { q.target with stuck := false } }
       u.setAux 0 { u.auxBus 0 with query := false })) ∧
    (low = true → asks → Goes (.atnQuery low) s ((q.setAux 0 { q.auxBus 0 with query := true }).auxGo 0)) ∧
    (low = true → ¬asks → Goes (.atnQuery low) s q)

/-! ## Calibration, BIST and the soot log (R494 to R514) -/

/-- R494, R500, R501, R503, R505: a CAL command is checked in order and refused with its status, or starts: RUN takes the core to CALIBRATING, RESTORE and LOADSET put blocks into application; ABORT marks the command in progress. -/
def Claim.CalCommandsStartOrFail : Prop :=
  ∀ (s : State) (x tag arg : Nat) (dmg : Damage),
    let d := s.dev
    let busy := d.cmdBusy Reg.CAL_CMDSTAT = true
    let R := Goes (.run x tag arg) s
    let T := Goes (.restore x tag) s
    let L := Goes (.loadset x tag dmg) s
    let done := fun (d : Dev) op st => (d.cmdDone Reg.CAL_CMDSTAT op tag st).raise Reg.CAL_EVT 0
    let k := (d.calTarget x).getD x
    let e := d.cmdStart Reg.CAL_CMDSTAT 1 tag
    let u : Dev := { e with cal := { e.cal with cmd := some { op := 1, target := k, arg := arg, refF := e.rd Reg.CAL_REFF, refL := e.rd Reg.CAL_REFL } } }
    let known := (x < 7 ∨ x = 8 ∨ x = 9) ∧ (if calKind x = 1 then arg ≤ 7 else arg = 0)
    let toned := calRefOk (calKind x) (d.rd Reg.CAL_REFF) (d.rd Reg.CAL_REFL) = true
    let absent := x = 6 ∧ d.part.hasSmoke = false
    let standby := (∃ c, d.calTarget x = some c ∧ d.coreState (c % 3) = 1) ∧ d.cap.replacing = none
    let f := (d.loadDamage x dmg).2
    let epoch := f.get Reg.SYS_REV_EPOCH
    let fits := f.imgByte x 8 ≤ epoch ∧ epoch ≤ f.imgByte x 9
    let valid := x ≤ 63 ∧ d.slotState x = 2 ∧ (d.loadDamage x dmg).1 = false
    d.held 15 = false →
      (busy → R (d.cmdLost Reg.CAL_CMDSTAT) ∧ T (d.cmdLost Reg.CAL_CMDSTAT) ∧ L (d.cmdLost Reg.CAL_CMDSTAT)) ∧
      (¬busy →
        (absent → R (done d 1 0xFE)) ∧
        (¬absent → ¬known ∨ ¬toned → R (done d 1 3)) ∧
        (¬absent → known → toned → x = 6 → d.is Reg.SMK_CTL_EN = false → R (done d 1 3)) ∧
        (¬absent → known → toned → x ≠ 6 → ¬standby → R (done d 1 7)) ∧
        (¬absent → known → toned → x = 6 → d.is Reg.SMK_CTL_EN = true → R u) ∧
        (known → toned → x ≠ 6 → standby → R (((u.setCore (k % 3) 2 3).setStale (k % 3) true).refreshCore (k % 3))) ∧
        (3 < x → T (done d 2 3)) ∧ (x ≤ 3 → T (d.restoreStart 2 tag [x])) ∧
        (63 < x → L (done d 3 3)) ∧ (x ≤ 63 → d.slotState x ≠ 2 → L (done d 3 0x30)) ∧
        (x ≤ 63 → d.slotState x = 2 → (d.loadDamage x dmg).1 = true → L (done f 3 0x30)) ∧
        (valid → f.imgByte x 5 ≠ 3 → L (done f 3 0x31)) ∧
        (valid → f.imgByte x 5 = 3 → ¬fits → L (done f 3 0x32)) ∧
        (valid → f.imgByte x 5 = 3 → fits → setShape (f.imgSecs x) = false → L (done f 3 0x18)) ∧
        (valid → f.imgByte x 5 = 3 → fits → setShape (f.imgSecs x) = true →
          L (((f.imgSecs x).foldl (fun d y => d.stage x y) f).restoreStart 3 tag ((f.imgSecs x).map (fun y => y.addr / 0x400))))) ∧
      (∀ c, d.cal.cmd = some c → Goes (.calAbort tag) s { d with cal := { d.cal with cmd := some { c with abort := true } } }) ∧
      (d.cal.cmd = none → Goes (.calAbort tag) s (done d 4 0))

/-- R503: a block to restore is refused where it is absent, its core is in a rotation or a check of it fails; one that passes goes into application with nothing applied yet. -/
def Claim.RestoreChecksItsBlock : Prop :=
  ∀ (s : State) (b tag : Nat),
    let d := s.dev
    let c : CalCmd := { op := 2, target := b }
    let e : Dev := { d with cal := { d.cal with cmd := some c } }
    let e := e.cmdStart Reg.CAL_CMDSTAT 2 tag
    let w := fun i => e.rd (Reg.CAL_STG b i)
    let absent := b = 3 ∧ d.part.hasSmoke = false
    let rotating := ∃ r, d.cap.rot = some r ∧ (r.x = b ∨ r.s = b)
    let zero := fun (lo n : Nat) => ∀ i < n, w (lo + i) = 0
    let head := getBits (w 0) 31 24 = 1 ∧ getBits (w 0) 23 16 = b ∧ w 1 = blockCrc w ∧ zero 2 2
    let core := (∀ i < 68, (toSigned 16 ((w (36 + i)).toNat / 65536)).natAbs ≤ 1000) ∧ (∀ p < 8, getBits (w (109 + 2 * p)) 15 0 = 0) ∧ zero 124 132
    let good := head ∧ (b < 3 → core) ∧ (b = 3 → zero 5 251)
    d.held 15 = false → d.cmdBusy Reg.CAL_CMDSTAT = false → b ≤ 3 →
      (absent → Goes (.restore b tag) s (e.calEnd 0xFE)) ∧
      (¬absent → rotating → Goes (.restore b tag) s (e.calEnd 2)) ∧
      (¬absent → ¬rotating → ¬good → Goes (.restore b tag) s (e.calEnd 0x18)) ∧
      (¬absent → ¬rotating → good → Goes (.restore b tag) s
        (e.calApply b 4 ((List.range (if b < 3 then 120 else 1)).map (fun i => w (4 + i)))))

/-- R497, R499, R500, R502: the runs of a calibration are compared and applied in 256 steps, or end with CALLOST or CALFAIL, or at an ABORT; the last step ends the application, restores the next block, or hands over to the rotation. -/
def Claim.CalRunsAreAppliedOrEnd : Prop :=
  ∀ (s : State) (m : CalMeas) (b : Nat),
    let d := s.dev
    let R := Goes (.calRunDone m) s
    let after := fun (v : Dev) => R (if v.cal.cmd = none then v.rotPeriodic else v)
    let P := Goes (.calApplyStep b) s
    d.held 15 = false →
      (d.cal.cmd = none → R d.rotPeriodic) ∧
      (∀ k, d.cal.cmd = some k →
        let mine := d.cal.applies.any (fun a => a.block == (if k.target < 6 then k.target % 3 else 3)) = true
        let runs := k.op = 1 ∧ ¬mine
        let e := d.wr (Reg.CAL_TST_W1 k.target) (BitVec.ofNat 32 (min m.dGain 65535 * 65536 + (if k.target < 3 then min m.dPhase 65535 else 0)))
        let o := (m.vals.headD 0).toNat % 65536
        let tone := toneOk k.refF k.refL m = true
        let agree := if k.target < 3 then m.dGain ≤ 50 ∧ m.dPhase ≤ 20 else if k.target < 6 then m.dGain ≤ 50 else m.dGain ≤ 200
        let last := runs ∧ tone ∧ k.abort = false ∧ k.second = true ∧ agree
        (¬runs → R d) ∧ (runs → ¬tone → after (d.calEnd 0x11)) ∧ (runs → tone → k.abort = true → after (d.calEnd 0x17)) ∧
        (runs → tone → k.abort = false → k.second = false → R { d with cal := { d.cal with cmd := some { k with second := true } } }) ∧
        (runs → tone → k.abort = false → k.second = true → ¬agree → after (e.calEnd 0x10)) ∧
        (last → k.target < 3 → R (e.calApply k.target 4 (e.newWords k.target 4 104 m.vals))) ∧
        (last → 3 ≤ k.target → k.target < 6 → R (e.calApply (k.target - 3) (108 + 2 * k.arg)
          [BitVec.ofNat 32 (k.refF.toNat / 1000), BitVec.ofNat 32 (o * 65536)])) ∧
        (last → 6 ≤ k.target → R (e.calApply 3 4
          [if k.refF.toNat < 900000000 then putBits (e.rd (Reg.CAL_VAL 3 4)) 31 16 o else putBits (e.rd (Reg.CAL_VAL 3 4)) 15 0 o]))) ∧
      (d.cal.applies.find? (fun a => a.block == b) = none → P d) ∧
      (∀ a, d.cal.applies.find? (fun a => a.block == b) = some a →
        let n := a.step + 1
        let a' : CalApply := { a with step := n }
        let v := d.setCalBlock b a.base (a'.at_ n)
        let v : Dev := { v with cal := { d.cal with applies := d.cal.applies.map (fun x => if x.block = b then a' else x) } }
        let w := v.calFinish b
        let stops := v.ownsApply b = true ∧ (∃ k, d.cal.cmd = some k ∧ k.abort = true)
        (¬stops → n < 256 → P v) ∧ (stops → P ((v.calDrop b).calEnd 0x17)) ∧
        (¬stops → 256 ≤ n → (∀ r, w.cap.rot = some r → ¬(r.phase = .applying ∧ r.s = b) ∧ ¬(r.phase = .refreshApply ∧ r.x = b)) →
          (w.cal.cmd = none → P w) ∧
          (∀ k, w.cal.cmd = some k → k.op = 1 → P (w.calEnd 0).rotPeriodic) ∧
          (∀ k, w.cal.cmd = some k → k.op ≠ 1 →
            let r := if k.target < 3 then ((w.incMod (Reg.CAL_TST_W4_RESTCNT k.target) 1).incMod (Reg.CAL_TST_W4_RESTCNT (k.target + 3)) 1).raise Reg.CAL_EVT 3
              else (w.incMod (Reg.CAL_TST_W4_RESTCNT 6) 1).raise Reg.CAL_EVT 3
            (k.rest = [] → P (r.calEnd 0)) ∧
            (∀ c rest, k.rest = c :: rest →
              let k' : CalCmd := { k with target := c, rest := rest }
              P (({ r with cal := { r.cal with cmd := some k' } } : Dev).restoreNext k')))) ∧
        (∀ r, ¬stops → 256 ≤ n → w.cap.rot = some r → r.phase = .applying → r.s = b → P (w.rotMoved r)) ∧
        (∀ r, ¬stops → 256 ≤ n → w.cap.rot = some r → r.phase = .refreshApply → r.x = b → P ((w.refreshDone r).rotSuspects)))

/-- R506, R508: a BIST run of a unit is refused with its status or begins: a hearth goes to TESTING, an oven is withdrawn; ABORT ends it with ABORTED and leaves the unit as it was; the end gives BST_RES, the signatures and the unit's new state. -/
def Claim.BistRunsAndEnds : Prop :=
  ∀ (s : State) (kind idx tag bad : Nat) (l0 l1 m0 m1 : Word),
    let d := s.dev
    let R := Goes (.bistRun kind tag idx) s
    let D := Goes (.bistDone l0 l1 m0 m1 bad) s
    let done := fun op st => (d.cmdDone Reg.BST_CMDSTAT op tag st).raise Reg.BST_EVT 0
    let free := d.cmdBusy Reg.BST_CMDSTAT = false
    let named := (kind = 1 ∧ idx ≤ 103) ∨ (kind = 2 ∧ idx < 24) ∨ (kind = 3 ∧ idx < 3) ∨ (kind = 4 ∧ (idx = 1 ∨ idx = 3 ∨ idx = 11 ∨ idx = 13))
    let here := d.part.hasUnit kind idx = true
    let e := d.cmdStart Reg.BST_CMDSTAT 1 tag
    let u : Dev := { e with bist := some (kind, idx) }
    let res := fun (v : Dev) k i r n => ({ v with bist := none } : Dev).wr Reg.BST_RES (BitVec.ofNat 32 (k * 2 ^ 24 + i * 65536 + r * 256 + min n 255))
    d.held 16 = false →
      (¬free → R (d.cmdLost Reg.BST_CMDSTAT)) ∧ (free → ¬named → R (done 1 3)) ∧ (free → named → ¬here → R (done 1 0xFE)) ∧
      (free → named → here → d.bistRefusal kind idx ≠ 0 → R (done 1 (d.bistRefusal kind idx))) ∧
      (free → named → here → d.bistRefusal kind idx = 0 →
        (kind = 1 → R ((u.updHearth idx (fun x => { x with testKind := 3, before := e.hstate idx })).setHstate idx stTesting none)) ∧
        (kind = 2 → R ((u.withdrawOven idx).refreshMargin)) ∧ (2 < kind → R u)) ∧
      (d.bist = none → Goes (.bistAbort tag) s (done 2 0) ∧ D d) ∧
      (∀ k i, d.bist = some (k, i) →
        let pass := (bad == 0 && (l0, l1, m0, m1) == bistExpected (bistKindIndex k i))
        let v := res (d.bistDecide k i pass) k i (if pass = true then 1 else 2) bad
        let v := (((v.wr Reg.BST_LSIG_LO l0).wr Reg.BST_LSIG_HI l1).wr Reg.BST_MSIG_LO m0).wr Reg.BST_MSIG_HI m1
        let waits := k = 2 ∧ d.get (Reg.OVN_OSTAT_STATE i) ≠ 2
        Goes (.bistAbort tag) s (((res (d.bistRelease k i) k i 3 0).cmdEnd Reg.BST_CMDSTAT 0x17).raise Reg.BST_EVT 0) ∧
        (waits → D d) ∧
        (¬waits → pass = true → D ((v.cmdEnd Reg.BST_CMDSTAT 0).raiseUnit Reg.BST_EVT 0 [0, 1])) ∧
        (¬waits → pass = false → D (((v.sootE 2 16 0xB002 (k * 256 + i)).cmdEnd Reg.BST_CMDSTAT 0xA0).raiseUnit Reg.BST_EVT 0 [0, 2])))

/-- R506: what keeps a unit from a host test, and what its end makes of it: a hearth that passes is FREE, one that fails is retired or stays so; an oven goes back into service or stays out; a block has lost its registers (R507). -/
def Claim.BistConditionsAndResults : Prop :=
  ∀ (d : Dev) (idx : Nat) (pass : Bool),
    let st := d.hstate idx
    let o := d.get (Reg.OVN_OSTAT_STATE idx)
    let rolling := d.rolling.unit = some (128 + idx)
    let was := (d.hearth idx).before
    let e := (d.bistRecord idx pass).updHearth idx (fun x => { x with testKind := 0, passed := pass })
    (d.bistRefusal 1 idx = if st = stTesting ∧ (d.hearth idx).testKind = 2 then 2 else if st = stUntested ∨ st = stFree ∨ st = stRetired then 0 else 7) ∧
    (rolling → d.bistRefusal 2 idx = 2) ∧ (¬rolling → o = 4 → d.bistRefusal 2 idx = 0) ∧
    (¬rolling → o = 1 ∨ o = 3 → d.bistRefusal 2 idx = if d.ovenSpared idx = true then 0 else 7) ∧
    (¬rolling → o = 0 ∨ o = 2 ∨ 4 < o → d.bistRefusal 2 idx = 7) ∧
    (d.bistRefusal 3 idx = if d.get (Reg.CAP_CC_STAT_STATE idx) = 5 then 0 else 7) ∧
    (d.bistRefusal 4 idx = if bit (d.rd Reg.RST_BLK) idx = true then 0 else 7) ∧
    (pass = true → d.bistDecide 1 idx pass = e.setHstate idx stFree none) ∧
    (pass = false → was = stRetired → d.bistDecide 1 idx pass = e.setHstate idx stRetired none) ∧
    (pass = true ∨ SMap.find? idx d.pool.testing ≠ some 4 → d.bistDecide 2 idx pass = d.ovenTested idx pass) ∧
    (pass = false → SMap.find? idx d.pool.testing = some 4 → d.bistDecide 2 idx pass = d.ovenUntested idx) ∧
    (d.bistDecide 3 idx pass = d) ∧ (d.bistDecide 4 idx pass = d.blockRegs idx)

/-- R509, R513, R514: an entry of the holding stage is written whole at its place of the ring and SOOT_PTR advances past it; a severe entry that is no continuation is unacknowledged from then on,
and the first of them is copied to SOOT_FIRST. -/
def Claim.SootEntriesAreWrittenWhole : Prop :=
  ∀ s : State,
    (s.dev.soot.stage = [] → Goes .sootEntryWrite s s.dev) ∧
    (∀ (i : SootItem) (rest : List SootItem), s.dev.soot.stage = i :: rest → Completes .sootEntryWrite s (fun d t =>
      let p := d.rd Reg.SOOT_PTR
      let k := p.toNat % 1024
      let severe := getBits i.w2 1 0 = 2 ∧ bit i.w2 3 = false
      t.soot.stage = rest ∧ t.rd Reg.SOOT_PTR = p + 1 ∧
      t.rd (Reg.SOOT_RING k 0) = i.w0 ∧ t.rd (Reg.SOOT_RING k 1) = i.w1 ∧ t.rd (Reg.SOOT_RING k 2) = i.w2 ∧ t.rd (Reg.SOOT_RING k 3) = i.w3 ∧
      (severe → t.soot.unack = d.soot.unack ++ [p.toNat]) ∧ (¬severe → t.soot.unack = d.soot.unack) ∧
      (severe → d.soot.unack = [] → t.rd (Reg.SOOT_FIRST 0) = i.w0 ∧ t.rd (Reg.SOOT_FIRST 1) = i.w1 ∧ t.rd (Reg.SOOT_FIRST 2) = i.w2 ∧
        t.rd (Reg.SOOT_FIRST 3) = i.w3 ∧ t.rd Reg.SOOT_FSEQ = p) ∧
      (¬severe ∨ d.soot.unack ≠ [] → t.rd (Reg.SOOT_FIRST 0) = d.rd (Reg.SOOT_FIRST 0) ∧ t.rd (Reg.SOOT_FIRST 1) = d.rd (Reg.SOOT_FIRST 1) ∧
        t.rd (Reg.SOOT_FIRST 2) = d.rd (Reg.SOOT_FIRST 2) ∧ t.rd (Reg.SOOT_FIRST 3) = d.rd (Reg.SOOT_FIRST 3) ∧ t.rd Reg.SOOT_FSEQ = d.rd Reg.SOOT_FSEQ)))

/-- R513, R514: SOOT_ACK and SOOT_RD take a value beyond SOOT_PTR as SOOT_PTR; an acknowledgement leaves unacknowledged exactly the severe entries from it on and shows their number. -/
def Claim.SootAcknowledgementsClamp : Prop :=
  ∀ (s : State) (w : Word),
    let d := s.dev
    let p := d.rd Reg.SOOT_PTR
    let v := if p.toNat < w.toNat then p else w
    let left := d.soot.unack.filter (fun n => decide (v.toNat ≤ n))
    Goes (.sootRdWrite w) s (d.wr Reg.SOOT_RD v) ∧
    (let e := d.wr Reg.SOOT_ACK v
     let e : Dev := { e with soot := { e.soot with unack := left } }
     let e := e.set Reg.SOOT_STAT_UNACK (min left.length 0x7FFF)
     Goes (.sootAckWrite w) s (if left = [] then e.set Reg.SOOT_STAT_FIRSTV 0 else e))

/-! ## The whole block -/

/-- A word with the command put at the front takes effect: a step runs the command at the front with the queue's rest behind it. An empty queue idles, which is the model's choice (log 1). -/
def Obligations.StepRunsFrontCommand : Prop :=
  (∀ (c : Instr) (rest : List Instr) (s : State), step { s with pending := c :: rest } = exec c { s with pending := rest }) ∧
  (∀ s : State, s.pending = [] → step s = .next s)

/-- No command stops the block: whatever it is and whatever state it finds, it answers a next state and leaves the queue alone. -/
def Obligations.EveryCommandAnswersANextState : Prop := ∀ (c : Instr) (s : State), ∃ t : Dev, Goes c s t

/-- R194, R195: every legal instruction is read back from its word with its predicate and every operand, and a word that is read is the word of what it spells. -/
def Obligations.YilWordsRoundTrip : Prop :=
  (∀ (p : BitVec 2) (y : Yil), y.legal = true → Yil.decode (y.encode p) = some (p, y)) ∧
  (∀ (w : Word) (p : BitVec 2) (y : Yil), Yil.decode w = some (p, y) → y.encode p = w ∧ y.legal = true)

/-- R194, R195, R200 to R205: the words of the worked example, and an illegal one, read as the chapter spells them. -/
def Obligations.WorkedExampleWordsRead : Prop :=
  Yil.decode 0x78E06000 = some (0, .movi 14 0x6000) ∧ Yil.decode 0xEC200000 = some (0, .mget 2 0) ∧ Yil.decode 0xA4000008 = some (0, .bcc 0 8) ∧
  Yil.decode 0x4C220003 = some (0, .alu .and 2 2 (.imm 3)) ∧ Yil.decode 0x804E0010 = some (0, .mem .ldw 4 14 0x10) ∧
  Yil.decode 0x34024000 = some (0, .cmp 2 (.reg 4)) ∧ Yil.decode 0xE4200101 = some (0, .fwal 2 0x101) ∧
  Yil.decode 0xA00FFFF8 = some (0, .br 0xFFFF8) ∧ Yil.decode 0xB4000000 = some (0, .uret) ∧ Yil.decode 0xB4000001 = none ∧ Yil.decode 0x6C000000 = none

/-- What R487 rests on: the word that is being programmed has not been programmed. -/
def otpFresh (s : State) : Prop := ∀ (i : Nat) (w : Word), s.dev.rst.otpProg = some (i, w) → SMap.get 0 s.dev.rst.fuses i = 0

/-- R487: a word of the OTP array is programmed once. Whatever step follows, reset and power-on included, a word that is not zero keeps its value, and the part stays the part it is. -/
def Obligations.ProgrammedFusesStayAsTheyAre : Prop :=
  ∀ s t : State, otpFresh s → step s = .next t →
    otpFresh t ∧ (∀ i, SMap.get 0 s.dev.rst.fuses i ≠ 0 → SMap.get 0 t.dev.rst.fuses i = SMap.get 0 s.dev.rst.fuses i) ∧ t.dev.part = s.dev.part

/-- The state after reset: no command waits, nothing is being programmed, and every map of addresses is in its canonical form. -/
def Obligations.ResetStateIsClean : Prop :=
  State.reset.pending = [] ∧ otpFresh State.reset ∧ SMap.wf regReset State.reset.dev.regs = true ∧ SMap.wf regReset State.reset.dev.shadow = true

/-! ## Completion, in what can be seen: commits, samples, capture (R58 to R62, R83, R92 to R101, R221) -/

/-- R58, R60 to R62: a commit of one free group no page belongs to completes at once, with its label, no error and no OVL; a timed one whose
time has not come is armed, with TPEND and its group busy; the ovens' page takes its captured word, and a page that waits for no
boundary of its own takes what it captured. -/
def Claim.CommitsShowTheirOutcome : Prop :=
  ∀ (s : State) (tag g at_ : Nat) (dmg : Damage) (w : Word),
    let d := s.dev
    let p := Reg.OVN_CFG
    let time := of64 (d.rd Reg.SYS_CMTTIME_LO) (d.rd Reg.SYS_CMTTIME_HI)
    let free := g < 16 ∧ d.commits = [] ∧ d.captures = [] ∧ d.armed = none
    (free → d.pagesIn [g] = [] → Completes (.commit tag (2 ^ g)) s (fun _ t =>
      t.get Reg.SYS_CMTSTAT_TAG = tag % 256 ∧ t.get Reg.SYS_CMTSTAT_ERR = 0 ∧ t.get Reg.SYS_CMTSTAT_OVL = 0 ∧
      t.get Reg.SYS_CMTSTAT_BUSY = 0 ∧ t.commits = [] ∧ t.captures = [])) ∧
    (free → d.devtime ≤ time → Completes (.timedCommitArm tag (2 ^ g)) s (fun d t =>
      t.armed = some ⟨tag % 256, [g], d.pagesIn [g], time⟩ ∧ t.get Reg.SYS_CMTSTAT_TPEND = 1 ∧ t.get Reg.SYS_CMTSTAT_BUSY = 2 ^ g ∧
      t.get Reg.SYS_CMTSTAT_OVL = 0 ∧ t.captures = [] ∧ t.shadow = d.shadow)) ∧
    (d.commits = [] → d.captures = [⟨p, some g, [(p, w)], false, at_⟩] → Completes (.pageApply p dmg) s (fun d t =>
      t.rd p = mergeMask (rwbMask p) (d.rd p) w ∧ t.captures = [] ∧ t.shadow = d.shadow ∧ t.armed = d.armed))

/-- R83, R221: a lane's read of SR_SAMPLE_LO writes the low word of the last sample that entered the input FIFO to rd, and latches the high
word for the read of SR_SAMPLE_HI that follows. -/
def Claim.SampleReadsLatch : Prop :=
  ∀ (s : State) (i : Issue) (rd ra : BitVec 4) (off : BitVec 16),
    let x := s.dev.hearth i.hearth
    let k := latchKey (.stoker i.hearth) 0xFF2004
    Ready s.dev i (.sysrd rd ra off) = true → (x.thr.reg ra + off.signExtend 32).toNat = 0xFF2000 →
      Completes (.srSampleLoRead i rd ra off) s (fun d t =>
        (t.hearth i.hearth).thr.reg rd = BitVec.ofNat 32 x.smp ∧ SMap.get none t.latches k = some (BitVec.ofNat 32 (x.smp / 2 ^ 32)) ∧
        (∀ r, r ≠ rd → (t.hearth i.hearth).thr.reg r = x.thr.reg r) ∧ (t.hearth i.hearth).thr.pc = x.thr.pc + 4 ∧ t.regs = d.regs)

/-- R92 to R101, R121: a frame of a core with no role, no rotation and no replacement leaves its mark; a step of the slow loop that is
due lowers or raises the gain at the next frame; a level update holds the RMS and the peak; an enabled blanking input opens its
window and its release keeps it for POST frames; one stuck raises its event once; a record that cannot be written is counted as skipped. -/
def Claim.CaptureShowsItsEffects : Prop :=
  ∀ (s : State) (c x n : Nat) (xs : List (BitVec 12)) (ecc : Bool) (rms peak : BitVec 16) (est : List Int) (y : Snap) (a : SnapAcc) (rest : List SnapAcc),
    let d := s.dev
    let st := d.get (Reg.CAP_CC_STAT_STATE c)
    let k := d.capCore c
    let level := d.getI (Reg.CAP_CC_LVL_RMS c)
    let target : Int := -5 * (d.get (Reg.CAP_CC_AGC_TARGET c) : Nat)
    let hyst : Int := 5 * (d.get (Reg.CAP_CC_AGC_HYST c) : Nat)
    let g := d.get (Reg.CAP_CC_STAT_GIDX c)
    let looks := c < 3 ∧ st = 4 ∧ k.mode = 0 ∧ d.coreBlanked c = false ∧ d.rotFrozen c = false ∧
      k.decayAt + d.get (Reg.CAP_CC_AGC_DECAY c) * 1000000 ≤ d.now
    let b := d.blank x
    let en := d.is (if x = 0 then Reg.CAP_BLKCFG_EN_A else Reg.CAP_BLKCFG_EN_B)
    let post := d.get (if x = 0 then Reg.CAP_BLKCFG_POST_A else Reg.CAP_BLKCFG_POST_B)
    let event := Reg.CAP_EVT
    (d.held 2 = false → looks → target + hyst < level → 0 < g → Completes (.agcDecayStep c) s (fun d t =>
      (t.capCore c).gainNext = some ((splitGain (g - 1)).1, (splitGain (g - 1)).2, g - 1) ∧ (t.capCore c).decayAt = d.now ∧ t.regs = d.regs)) ∧
    (d.held 2 = false → looks → target - hyst ≤ level → level ≤ target + hyst → Completes (.agcDecayStep c) s (fun d t =>
      (t.capCore c).gainNext = k.gainNext ∧ (t.capCore c).decayAt = d.now ∧ t.regs = d.regs)) ∧
    (d.held 2 = false → c < 3 → st = 4 → d.is (Reg.CAP_CC_STAT_STALE c) = false → d.is (Reg.CAP_CC_CTL_TRACK c) = false →
      Completes (.coreLevelUpdate c ⟨rms, peak⟩ est) s (fun d t => t.get (Reg.CAP_CC_LVL_RMS c) = rms.toNat ∧
        t.get (Reg.CAP_CC_LVL_PEAK c) = peak.toNat ∧ KeepsRegs [Reg.CAP_CC_LVL c, Reg.CAP_CC_PWR c] d t ∧ t.cap = d.cap)) ∧
    (x < 2 → en = true → b.active = false → Completes (.blankAssert x) s (fun d t => (t.blank x).active = true ∧ (t.blank x).since = d.now ∧
      (t.blank x).stuckRaised = false ∧ t.blankOpen x = true)) ∧
    (x < 2 → b.active = true → Completes (.blankRelease x) s (fun d t => (t.blank x).active = false ∧ (t.blank x).endAt = d.now + 20 * post ∧
      t.blankOpen x = decide (0 < post))) ∧
    (d.held 2 = false → x < 2 → b.active = true → b.stuckRaised = false → b.since + d.get Reg.CAP_BLKCFG_STUCK * 1000000 ≤ d.now →
      d.evtFree event (7 + x) 0 = true → Completes (.blkstuck x) s (fun _ t => (t.rd event).getLsbD (7 + x) = true ∧ (t.blank x).stuckRaised = true)) ∧
    (d.held 2 = false → d.cap.snap = some y → y.running = true → y.mode = 0 → y.full = a :: rest → y.aborting = false →
      d.evtFree Reg.ASH_EVT 8 0 = true → Completes (.snapRecordDone false n true) s (fun _ t => (t.rd Reg.ASH_EVT).getLsbD 8 = true ∧
        t.cap.snap = some { y with full := rest, skipped := y.skipped + 1 })) ∧
    (c < 3 → st = 1 → d.roleOf c = none → d.cap.rot = none → d.cap.replacing = none → d.cap.snap = none → k.stepped = true →
      Completes (.adcFrame c xs ecc) s (fun d t => (t.capCore c).marked = true ∧ t.rd (Reg.CAP_CC_CLIP c) = d.rd (Reg.CAP_CC_CLIP c) ∧
        t.lanes = d.lanes ∧ t.hearths = d.hearths))

/-! ## Completion, in what can be seen: the grate, lanes, hearths, migrations and ovens (R138 to R193, R216) -/

/-- R115, R138, R144, R147: a bin frame is counted while the power averages are enabled; a refill whose time is over ends with its event; after a
saturation interval no lane remembers a saturation; a complete power average begins anew; a lane's due sample advances its number; a
monitor at its suspect level marks its core. -/
def Claim.GrateShowsItsEffects : Prop :=
  ∀ (s : State) (n c cause sub v w start : Nat) (i q : Int) (a b : List (List (Int × Int))) (others : Bool),
    let d := s.dev
    let refill := Reg.GRT_LSTAT_REFILL (n / 8) (n % 8)
    let st := d.get (Reg.CAP_CC_STAT_STATE c)
    let due := n < d.part.lanes ∧ d.is (Reg.GRT_LSTAT_RUN (n / 8) (n % 8)) = true ∧ (d.lane n).next * d.grid n + d.laneDelay n ≤ d.scount
    (d.held 3 = false → d.captures = [] → d.is Reg.GRT_BANKCFG_PWREN = true → Completes .binFrame s (fun d t =>
      t.binCount = d.binCount + 1 ∧ t.regs = d.regs ∧ t.lanes = d.lanes)) ∧
    (d.held 3 = false → n < d.part.lanes → d.is refill = true → (d.lane n).refillTo ≤ d.scount → d.evtFree Reg.GRT_EVT 1 0 = true →
      Completes (.refillEnd n) s (fun _ t => t.is refill = false ∧ (t.rd Reg.GRT_EVT).getLsbD 1 = true)) ∧
    (d.held 3 = false → Completes .saturationInterval s (fun d t => ∀ m < d.part.lanes, (t.lane m).sat = false)) ∧
    (d.held 3 = false → d.is Reg.GRT_BANKCFG_PWREN = true → 2 ^ d.get Reg.GRT_BANKCFG_AVG ≤ d.binCount → Completes (.binPowerUpdate a b) s (fun d t =>
      t.binCount = 0 ∧ t.bankA.clean = [] ∧ t.bankB.clean = [] ∧ t.lanes = d.lanes)) ∧
    (d.held 3 = false → d.captures = [] → due → Completes (.laneOutputSample n i q w) s (fun d t =>
      (t.lane n).next = (d.lane n).next + 1 ∧ t.captures = [] ∧ t.shadow = d.shadow ∧ t.scount = d.scount)) ∧
    (d.held 2 = false → c < 3 → st = 1 ∨ st = 4 → monitorLevel cause v others = 1 → d.rotReady = false →
      Completes (.coreMonitorWindow c cause sub v others start) s (fun _ t => t.is (Reg.CAP_CC_STAT_SUSPECT c) = true ∧
        t.get (Reg.CAP_CC_HEALTH_CAUSE c) = cause ∧ t.get (Reg.CAP_CC_STAT_STATE c) = st))

/-- R155, R156, R163, R175: BIND, UNBIND and MOVE of a lane that is not enabled bind it to the hearth that is named or chosen, which is PRIMARY, or
unbind it, and end with status OK and their tag; a BIND that waited takes its hearth; RESTART of a started program runs it again from its
main entry. -/
def Claim.LaneCommandsShowTheirBinding : Prop :=
  ∀ (s : State) (n h arg tag : Nat) (hs : List Nat),
    let d := s.dev
    let idle := n < d.part.lanes ∧ (d.rd (Reg.LANE_CMDSTAT n)).getLsbD 0 = false ∧ d.migrating n = false
    let off := d.is (Reg.LANE_CTL_EN n) = false
    let ended := fun (t : Dev) (op : Nat) => t.rd (Reg.LANE_CMDSTAT n) = BitVec.ofNat 32 (op * 2 ^ 24 + tag % 256 * 2 ^ 8)
    let takes := fun (t : Dev) (k : Nat) => t.bound n = some k ∧ t.hstate k = stPrimary ∧ t.laneOf k = some n
    (idle → off → d.bound n = none → d.hearthsIn stFree = h :: hs → Completes (.bind n 0x7F tag .intact) s (fun _ t => takes t h ∧ ended t 1)) ∧
    (idle → off → d.bound n = none → arg < d.part.hearths → d.hstate arg = stFree → Completes (.bind n arg tag .intact) s (fun _ t =>
      takes t arg ∧ ended t 1)) ∧
    (idle → off → d.bound n = some h → Completes (.unbind n tag) s (fun _ t => t.bound n = none ∧ ended t 2)) ∧
    (idle → d.migr = true → d.bound n = some h → (d.hearth h).running = false → arg < d.part.hearths → d.hstate arg = stFree →
      Completes (.move n arg tag) s (fun _ t => takes t arg ∧ ended t 3)) ∧
    (idle → d.is (Reg.LANE_CTL_EN n) = true → d.bound n = some h → (d.lane n).started = true → Completes (.restart n tag .intact) s (fun _ t =>
      (t.hearth h).running = true ∧ (t.hearth h).start = 1 ∧ (t.lane n).halted = false ∧ ended t 4)) ∧
    (n < d.part.lanes → off → (d.lane n).waitBind = some (some arg) → arg < d.part.hearths → d.hstate arg = stFree →
      Completes (.deferredBind n .intact) s (fun _ t => takes t arg ∧ (t.lane n).waitBind = none ∧
        getBits (t.rd (Reg.LANE_CMDSTAT n)) 23 16 = 0 ∧ (t.rd (Reg.LANE_CMDSTAT n)).getLsbD 0 = false))

/-- R153, R154, R163, R164, R171, R176, R180, R186: hearths that start-up tests fail are RETIRED, the others FREE; a silent hearth of no lane is ISOLATED, and
an isolated one RETIRED; the rolling self-test takes a FREE suspect out for its test, and its pass returns it; a replay at the live point
ends; a load damaged in both copies and a splice without a match end their migration; the fall of a lane's lock is reported once. -/
def Claim.HearthsShowTheirState : Prop :=
  ∀ (s : State) (n h r : Nat) (us fails : List Nat) (m : Mig),
    let d := s.dev
    let st := d.hstate h
    let x := d.lane n
    (st = stTesting → (d.hearth h).testKind = 1 → Completes (.startupBistDone fails) s (fun _ t =>
      t.hstate h = if h ∈ fails then stRetired else stFree)) ∧
    (d.laneOf h = none → 2 ≤ st → st ≤ 5 → (d.hearth h).running = true → (d.hearth h).wait = none → (d.hearth h).lastRetire + 10000 ≤ d.now →
      Completes (.retireTimeout [h]) s (fun _ t => t.hstate h = stIsolated ∧ (t.hearth h).running = false ∧ t.get (Reg.HST_STAT_CAUSE h) = 5)) ∧
    (st = stIsolated → (d.hearth h).testKind = 0 → Completes (.isolationComplete h) s (fun _ t => t.hstate h = stRetired)) ∧
    (d.is Reg.HMG_RSTCFG_EN = true → d.migr = true → d.rolling.unit = none → d.rolling.startedAt = 0 → d.rolling.suspects = h :: us → h < 104 →
      st = stFree → Completes .rollingSelftestTick s (fun _ t => t.hstate h = stTesting ∧ t.rolling.unit = some h ∧ t.rolling.suspects = us)) ∧
    (h < 104 → st = stTesting → (d.hearth h).testKind = 2 → Completes (.rollingTestDone h true) s (fun _ t =>
      t.hstate h = stFree ∧ (t.hearth h).passed = true ∧ t.rolling.unit ≠ some h)) ∧
    (d.laneOf h = some n → (d.hearth h).replay = some r → x.bkNext ≤ r → (d.hearth h).fifo = [] → (d.replayRest n r).length ≤ 1024 →
      x.mig = none → x.swap = none → d.shadowOf n = none → h < d.part.hearths → Completes (.replayLivePoint h) s (fun _ t =>
        (t.hearth h).replay = none ∧ t.hstate h = stPrimary)) ∧
    (n < d.part.lanes → x.mig = some m → m.loaded = false → m.copying = false → x.halted = false → Completes (.migrationLoadDone n .bothCopies) s (fun _ t =>
      (t.lane n).mig = none ∧ (t.lane n).halted = true ∧ t.get (Reg.LANE_MIG_STATUS n) = 0x12)) ∧
    (n < d.part.lanes → x.mig = some m → m.kind = .unplanned → m.loaded = true → m.spliced = false →
      m.fault + d.get (Reg.LANE_DRAW_ACTIVE n) * 1000000 ≤ d.now → Completes (.spliceMatchTimeout n) s (fun _ t =>
        (t.lane n).mig = none ∧ t.get (Reg.LANE_MIG_STATUS n) = 0x13)) ∧
    (x.lockFell ≠ 0 → x.lockFell - 1 + 1000000000 ≤ d.now → Completes (.laneSyncLost n) s (fun d t =>
      (t.lane n).lockFell = 0 ∧ (∀ k, k ≠ n → t.lane k = d.lane k) ∧ t.hearths = d.hearths))

/-- R159, R162, R163, R216: an oven request that ends with a source error, or whose deadline passes before an oven takes it, gives its ticket that
status; an oven that runs for twice its limit is RETIRED; a hob command that has run for twice its stated time fails its hearth. -/
def Claim.OvensShowTheirStatus : Prop :=
  ∀ (s : State) (k h u : Nat) (q : OReq) (r : HobRun),
    let d := s.dev
    let result := fun (t : Dev) => (t.hearth q.hearth).oven q.ticket
    (SMap.get none d.pool.busy k = some q → q.dropped = false → k < 24 → q.ticket < 4 → d.chimney.failed.contains (.oven k) = false →
      Completes (.ovenRequestDone k ⟨.srcErr, {}⟩) s (fun _ t => result t = some { done := some 0x03000000 })) ∧
    (d.pool.ldpc = [q] → d.pool.trellis = [] → q.dropped = false → q.ticket < 4 → q.deadline ≤ (d.hearth q.hearth).smp →
      Completes (.ovenDeadlineLate q.hearth q.ticket) s (fun _ t => result t = some { done := some 0x02000000 } ∧ t.pool.ldpc = [])) ∧
    (SMap.get none d.pool.busy k = some q → k < 24 → d.chimney.failed.contains (.oven k) = false → Completes (.ovenOverrunTimeout k) s (fun _ t =>
      t.get (Reg.OVN_OSTAT_STATE k) = 4 ∧ t.get (Reg.OVN_OSTAT_CAUSE k) = 2)) ∧
    (((d.hearth h).unit u).running = some r → r.started + 2 * d.statedNs h u r ≤ d.now → d.laneOf h = none → 2 ≤ d.hstate h → d.hstate h ≤ 5 →
      Completes (.hobCommandTimeout h u) s (fun _ t => t.hstate h = stIsolated ∧ t.get (Reg.HST_STAT_CAUSE h) = 6))

/-! ## The statements that join several claims -/

/-- Logic, moves, mul, min, max, clz and shifts: result and flags. -/
def Obligations.LogicMovesShiftsAndProducts : Prop :=
  Claim.LogicAndMoveSetNegativeAndZero ∧
  Claim.ShiftsResultAndCarry

/-- pset, the accumulator operations and sat. -/
def Obligations.PredicatesAndAccumulators : Prop :=
  Claim.PsetWritesOnePredicate ∧
  Claim.MacAccumulatesModulo40Bits ∧
  Claim.SatSaturatesAccumulator

/-- Loads, stores and bcpy: values, addresses and frames of the data memory. -/
def Obligations.LoadsStoresAndCopies : Prop :=
  Claim.LoadsReadLittleEndian ∧
  Claim.StoresWriteOnlyTheirBytes ∧
  Claim.BcpyCopiesBetweenBanks

/-- Branches, calls, loops, halt, uret and nop. -/
def Obligations.BranchesAndThreadEnds : Prop :=
  Claim.BranchesSetThePc ∧
  Claim.HaltAndUretEndThreads

/-- Illegal words and fields, fetch errors, and what an exception does to its lane. -/
def Obligations.ErrorsInPlaceOfInstructions : Prop :=
  Claim.IllegalFieldTraps ∧
  Claim.FetchErrorFailsTheHearth ∧
  Claim.IllegalWordTraps ∧
  Claim.ExceptionStopsTheLane

/-- Waits in URGENT, bad data addresses, branch targets, mailboxes and register accesses raise their exception. -/
def Obligations.TrapsOfOperands : Prop :=
  Claim.WaitInUrgentTraps ∧
  Claim.BadDataAddressTraps ∧
  Claim.BranchMailboxAndAccessTraps

/-- hput, hget and hwait, and the pending word of the hobs. -/
def Obligations.HobInstructionsAndPendingWord : Prop :=
  Claim.HobInstructionsQueueReadAndWait ∧
  Claim.PendingWordBits

/-- oreq, oawait, areq and aawait: tickets of the ovens and the ashpit. -/
def Obligations.TicketsAreTakenAndCollected : Prop :=
  Claim.OvenTicketsAreTakenAndCollected ∧
  Claim.AshpitTicketsAreTakenAndCollected

/-- tick, yield, fwal, flput, mget and mput. -/
def Obligations.WaitsAlertsFramesAndMailboxes : Prop :=
  Claim.TickAndYieldPassOrWait ∧
  Claim.FwalAndFlputHandOver ∧
  Claim.OutputQueueDrains ∧
  Claim.MailboxesTakeAndPut

/-- sysrd reads its register and syswr posts its word. -/
def Obligations.RegisterAccessByLanes : Prop :=
  Claim.SysrdReadsItsRegister ∧
  Claim.SyswrPostsItsWord

/-- Hob commands start or fail, time out, and are served by the input FIFO. -/
def Obligations.HobCommandsStartFailOrTimeOut : Prop :=
  Claim.HobCommandsStartOrFail ∧
  Claim.HobTimeoutFailsTheHearth ∧
  Claim.InputFifoServesItsCommand

/-- Oven requests end, are reissued when an oven is retired, and are served in the scheduler's order. -/
def Obligations.OvenPoolServesItsRequests : Prop :=
  Claim.OvenRequestsEnd ∧
  Claim.RetiredOvenReissuesItsRequest ∧
  Claim.SchedulerOrder

/-- Host writes of registers: refused, plain, and through bit aliases. -/
def Obligations.RegisterWritesAndAliases : Prop :=
  Claim.RefusedRegisterWritesOnlyLeaveALog ∧
  Claim.PlainRegisterWriteStores ∧
  Claim.BitAliasChangesOneBit

/-- Sequence-cleared registers: events of one cycle count once, and a clear needs the current SEQ. -/
def Obligations.SequenceClearedRegisters : Prop :=
  Claim.SqcClearNeedsTheSequence ∧
  Claim.EventsOfOneCycleCountOnce

/-- Time reads, SPI transactions and events, the PCIe port and MSI-X. -/
def Obligations.HostPortsServeTheHost : Prop :=
  Claim.TimeReadsLatchTheHighHalf ∧
  Claim.SpiTransactionsRun ∧
  Claim.SpiDrainResetAndWake ∧
  Claim.PciePortAndMsix

/-- Every reset source asserts its level and RST_CAUSE names it. -/
def Obligations.ResetsAreAssertedAndRecorded : Prop :=
  Claim.ResetSourcesAssertTheirLevel ∧
  Claim.ResetRecordsItsCause

/-- What a SYSTEM reset clears and a CORE reset spares. -/
def Obligations.ResetLevelsClearAndSpare : Prop :=
  Claim.SystemResetClears ∧
  Claim.CoreResetSpares

/-- Kindling and BANKED entry run their steps; block resets assert and release. -/
def Obligations.KindlingBlocksAndBanking : Prop :=
  Claim.KindlingRunsItsSteps ∧
  Claim.BlockResetsAssertAndRelease ∧
  Claim.BankedEntryRunsItsSteps

/-- An event sets its bit, advances SEQ and reaches its vector; time ticks; immediate mode. -/
def Obligations.EventsTimeAndImmediateMode : Prop :=
  Claim.EventSetsItsBitAndSequence ∧
  Claim.ImmediateModeIsWritten ∧
  Claim.TimeTickAdvancesTheTime

/-- Commits name free groups, pages capture what is valid, and apply it at their boundary. -/
def Obligations.CommitsCaptureAndApply : Prop :=
  Claim.CommitNamesItsFreeGroups ∧
  Claim.PageCapturesWhatIsValid ∧
  Claim.PageAppliesItsCapture ∧
  Claim.PagesApplyAtTheirBoundary

/-- Capture commands answer with their status, and a gain index splits into LNA and ATT. -/
def Obligations.CaptureCommandsAndGain : Prop :=
  Claim.CaptureCommandStatus ∧
  Claim.CaptureCommandsAnswer ∧
  Claim.GainIndexSplits

/-- A rotation of the capture cores runs its phases and timers. -/
def Obligations.RotationsRunTheirPhases : Prop :=
  Claim.RotationRunsItsPhases ∧
  Claim.RotationTimers

/-- Capture frames, levels and the slow loop, blanking and snapshots. -/
def Obligations.FramesGainAndSnapshots : Prop :=
  Claim.FramesMarkCountAndSet ∧
  Claim.LevelsAndSlowLoop ∧
  Claim.BlankingOpensAndCloses ∧
  Claim.SnapshotWritesItsRecords

/-- Monitors suspect and fail a capture core, and the standby replaces it. -/
def Obligations.CaptureCoresFailAndAreReplaced : Prop :=
  Claim.MonitorsSuspectAndFail ∧
  Claim.ReplacementTakesTheRole

/-- The grate: samples of a lane and the chains' events. -/
def Obligations.GrateSamplesAndEvents : Prop :=
  Claim.LaneSamplesMarkAndCount ∧
  Claim.GrateEventsAct

/-- Lane commands, deferred binds, and the test, retirement and silence of hearths. -/
def Obligations.LanesBindAndHearthsAreTested : Prop :=
  Claim.LaneCommandsAnswer ∧
  Claim.DeferredBindTakesAHearth ∧
  Claim.HearthsAreTestedAndRetired ∧
  Claim.SilenceIsAFailure ∧
  Claim.SameMomentFailuresAreServedInOrder

/-- A failure takes a spare and a migration runs its steps to the splice. -/
def Obligations.MigrationMovesALane : Prop :=
  Claim.FailureMigratesToASpare ∧
  Claim.MigrationTakesItsSteps

/-- Program-store commands start, fail and complete; the window writes bytes. -/
def Obligations.ProgramStoreCommandsAndWindow : Prop :=
  Claim.StoreCommandsStartOrFail ∧
  Claim.StoreCommandsComplete ∧
  Claim.WindowWritesStoreBytes

/-- Firewatch: events are latched, enter the alert table, are acknowledged and end; tripwires. -/
def Obligations.FirewatchTakesAndEndsAlerts : Prop :=
  Claim.FirewatchLatchesEvents ∧
  Claim.AlertTableTakesEvents ∧
  Claim.TripwiresSendEvents ∧
  Claim.AlertsAreAcknowledgedAndEnd

/-- Chimney messages, credits and reservations, backlogs and draw lines. -/
def Obligations.ChimneyAndBacklogsMove : Prop :=
  Claim.ChimneyCountsItsCredits ∧
  Claim.MessagesReserveTheirReplies ∧
  Claim.OutputsServeTheirInputsInTurn ∧
  Claim.BacklogAndDrawLinesMove

/-- The ashpit's initialisation, scrubber, order of service and host aperture. -/
def Obligations.AshpitInitialisesScrubsAndServes : Prop :=
  Claim.AshpitInitialises ∧
  Claim.ScrubberReadsEveryLine ∧
  Claim.AshpitServesItsClassesInTurn ∧
  Claim.ApertureReachesTheHostRegion

/-- Flue ports: frames start in order, timers act, links change, received frames are filtered. -/
def Obligations.FluePortsSendAndReceive : Prop :=
  Claim.PortsStartFramesInOrder ∧
  Claim.PortTimersAct ∧
  Claim.LinksAndRingsChange ∧
  Claim.ReceivedFramesAreFiltered

/-- SFP+ modules come, go and fault, and their diagnostics are read. -/
def Obligations.ModulesAreWatchedAndRead : Prop :=
  Claim.ModulesComeGoAndFault ∧
  Claim.ModuleDiagnosticsAreRead

/-- PTP messages and PPS edges. -/
def Obligations.PtpAndPpsKeepTime : Prop :=
  Claim.PtpMessagesAreTaken ∧
  Claim.PpsEdgesAreStamped

/-- Audio ports: frames, locks, clock losses, rates and the tone. -/
def Obligations.AudioPortsLockAndPlay : Prop :=
  Claim.AudioFramesLockAndPlay ∧
  Claim.AudioEventsAct

/-- Clock references, holdover, switches and the clock's commands and steps. -/
def Obligations.ReferencesHoldoverAndClockCommands : Prop :=
  Claim.ReferencesQualifyAndFail ∧
  Claim.HoldoverAndSwitchIn ∧
  Claim.ClockCommandsAndSteps

/-- The smoke radio's SEND and ABORT, and pages taken and repeated. -/
def Obligations.SmokeSendsAndPages : Prop :=
  Claim.SendsStartEndOrAbort ∧
  Claim.PagesAreTakenAndRepeated

/-- A transmission follows the gate, the grant, its timers and the duty budget. -/
def Obligations.SmokeTransmissionsRunTheirCourse : Prop :=
  Claim.TransmissionsFollowTheGate ∧
  Claim.RadioTimersAct

/-- Frames heard enter the FIFO; the ember sniffs and matches. -/
def Obligations.SmokeFramesAndEmberReceive : Prop :=
  Claim.FramesHeardEnterTheFifo ∧
  Claim.EmberSniffsAndMatches

/-- The aux controller: commands, the ends of tries, and retries. -/
def Obligations.AuxControllerRunsTransactions : Prop :=
  Claim.AuxCommandsStartOrEnd ∧
  Claim.AuxTriesEnd ∧
  Claim.AuxRetriesFollowTheTable

/-- Calibration commands, restored blocks, runs and applications. -/
def Obligations.CalibrationRunsAndRestores : Prop :=
  Claim.CalCommandsStartOrFail ∧
  Claim.RestoreChecksItsBlock ∧
  Claim.CalRunsAreAppliedOrEnd

/-- Host BIST: what starts it, what keeps a unit from it and what its end makes of the unit. -/
def Obligations.BistRunsAndItsResults : Prop :=
  Claim.BistRunsAndEnds ∧
  Claim.BistConditionsAndResults

/-- The soot log: entries written whole, the first severe one copied, acknowledgements clamped. -/
def Obligations.SootLogWritesAndAcknowledges : Prop :=
  Claim.SootEntriesAreWrittenWhole ∧
  Claim.SootAcknowledgementsClamp

/-- Commits, a page, SR_SAMPLE_LO and the capture block's events complete, with what can then be read. -/
def Obligations.CommitsSamplesAndCaptureComplete : Prop :=
  Claim.CommitsShowTheirOutcome ∧
  Claim.SampleReadsLatch ∧
  Claim.CaptureShowsItsEffects

/-- The grate's events, lane commands, hearths, migrations and ovens complete, with what can then be read. -/
def Obligations.GrateLanesAndOvensComplete : Prop :=
  Claim.GrateShowsItsEffects ∧
  Claim.LaneCommandsShowTheirBinding ∧
  Claim.HearthsShowTheirState ∧
  Claim.OvensShowTheirStatus
end

