-- ==== Sys2Proof/Laws/Map.lean ====
section
/-! SUPPORT. The laws of the sparse map and of byte memories: a read after a write gives the value written, a write leaves
every other key alone, and every operation keeps the canonical form. -/

namespace Sys2Proof.Machine

variable {α : Type}

theorem SMap.find_erase (k j : Nat) (m : SMap α) :
    SMap.find? j (SMap.erase k m) = if j = k then none else SMap.find? j m := by
  induction m with
  | nil => simp [SMap.erase, SMap.find?]
  | cons e m ih =>
    obtain ⟨i, v⟩ := e
    by_cases h : i = k
    · subst h
      by_cases hj : j = i
      · subst hj; simp [SMap.erase, ih]
      · simp [SMap.erase, SMap.find?, ih, hj, Ne.symm hj]
    · by_cases hj : i = j
      · subst hj; simp [SMap.erase, SMap.find?, h]
      · simp [SMap.erase, SMap.find?, h, hj, ih]

theorem SMap.find_ins (k j : Nat) (v : α) (m : SMap α) (hk : SMap.find? k m = none) :
    SMap.find? j (SMap.ins k v m) = if j = k then some v else SMap.find? j m := by
  induction m with
  | nil =>
    by_cases h : j = k
    · simp [SMap.ins, SMap.find?, h]
    · simp [SMap.ins, SMap.find?, h, Ne.symm h]
  | cons e m ih =>
    obtain ⟨i, u⟩ := e
    have hik : i ≠ k := by
      intro h; subst h; simp [SMap.find?] at hk
    have hk' : SMap.find? k m = none := by simpa [SMap.find?, hik] using hk
    by_cases hlt : k < i
    · by_cases h : j = k
      · subst h; simp [SMap.ins, hlt, SMap.find?]
      · simp [SMap.ins, hlt, SMap.find?, h, Ne.symm h]
    · by_cases h : i = j
      · subst h; simp [SMap.ins, hlt, SMap.find?, hik]
      · simp [SMap.ins, hlt, SMap.find?, h, ih hk']

/-- A read after a write: the value written at its key, every other key as before. -/
theorem SMap.get_put [DecidableEq α] (dflt : α) (m : SMap α) (k j : Nat) (v : α) :
    SMap.get dflt (SMap.put dflt m k v) j = if j = k then v else SMap.get dflt m j := by
  unfold SMap.put
  by_cases h : v = dflt
  · by_cases hj : j = k <;> simp [SMap.get, SMap.find_erase, h, hj]
  · have hk : SMap.find? k (SMap.erase k m) = none := by simp [SMap.find_erase]
    by_cases hj : j = k <;> simp [SMap.get, SMap.find_ins, SMap.find_erase, h, hj, hk]

/-- A write leaves the listing of every other key alone, whatever that key reads as when unlisted. -/
theorem SMap.find_put_other [DecidableEq α] (dflt : α) (m : SMap α) {k j : Nat} (v : α) (h : j ≠ k) :
    SMap.find? j (SMap.put dflt m k v) = SMap.find? j m := by
  unfold SMap.put
  split
  · simp [SMap.find_erase, h]
  · rw [SMap.find_ins _ _ _ _ (by simp [SMap.find_erase])]; simp [SMap.find_erase, h]

theorem SMap.erase_erase (k : Nat) (m : SMap α) : SMap.erase k (SMap.erase k m) = SMap.erase k m := by
  induction m with
  | nil => rfl
  | cons e m ih =>
    obtain ⟨i, v⟩ := e
    by_cases h : i = k <;> simp [SMap.erase, h, ih]

theorem SMap.erase_ins (k : Nat) (v : α) (m : SMap α) : SMap.erase k (SMap.ins k v m) = SMap.erase k m := by
  induction m with
  | nil => simp [SMap.ins, SMap.erase]
  | cons e m ih =>
    obtain ⟨i, u⟩ := e
    by_cases hlt : k < i
    · simp [SMap.ins, hlt, SMap.erase]
    · by_cases h : i = k <;> simp [SMap.ins, hlt, SMap.erase, h, ih]

/-- The later of two writes at one key stands. -/
@[simp] theorem SMap.put_put [DecidableEq α] (dflt : α) (m : SMap α) (k : Nat) (v w : α) :
    SMap.put dflt (SMap.put dflt m k v) k w = SMap.put dflt m k w := by
  have h : SMap.erase k (SMap.put dflt m k v) = SMap.erase k m := by
    unfold SMap.put
    split
    · exact SMap.erase_erase k m
    · rw [SMap.erase_ins, SMap.erase_erase]
  unfold SMap.put at *
  rw [h]

@[simp] theorem SMap.get_put_same [DecidableEq α] (dflt : α) (m : SMap α) (k : Nat) (v : α) :
    SMap.get dflt (SMap.put dflt m k v) k = v := by simp [SMap.get_put]

theorem SMap.get_put_other [DecidableEq α] (dflt : α) (m : SMap α) {k j : Nat} (v : α) (h : j ≠ k) :
    SMap.get dflt (SMap.put dflt m k v) j = SMap.get dflt m j := by simp [SMap.get_put, h]

@[simp] theorem SMap.get_nil (dflt : α) (k : Nat) : SMap.get dflt [] k = dflt := rfl

/-! ## The canonical form -/

theorem SMap.wfFrom_mono [DecidableEq α] {dflt : Nat → α} {m : SMap α} :
    ∀ {a b : Nat}, a ≤ b → SMap.wfFrom dflt b m = true → SMap.wfFrom dflt a m = true := by
  intro a b hab h
  cases m with
  | nil => rfl
  | cons e m =>
    obtain ⟨k, v⟩ := e
    simp only [SMap.wfFrom, Bool.and_eq_true, decide_eq_true_eq] at h ⊢
    exact ⟨⟨by omega, h.1.2⟩, h.2⟩

theorem SMap.wfFrom_erase [DecidableEq α] {dflt : Nat → α} (k : Nat) {m : SMap α} :
    ∀ {lo : Nat}, SMap.wfFrom dflt lo m = true → SMap.wfFrom dflt lo (SMap.erase k m) = true := by
  induction m with
  | nil => intro lo _; rfl
  | cons e m ih =>
    obtain ⟨j, v⟩ := e
    intro lo h
    simp only [SMap.wfFrom, Bool.and_eq_true, decide_eq_true_eq] at h
    by_cases hj : j = k
    · simp only [SMap.erase, hj, if_true]
      exact SMap.wfFrom_mono (by omega) (ih h.2)
    · simp only [SMap.erase, hj, if_false, SMap.wfFrom, Bool.and_eq_true, decide_eq_true_eq]
      exact ⟨h.1, ih h.2⟩

theorem SMap.wfFrom_ins [DecidableEq α] {dflt : Nat → α} (k : Nat) (v : α) (hv : v ≠ dflt k) {m : SMap α} :
    ∀ {lo : Nat}, lo ≤ k → SMap.find? k m = none → SMap.wfFrom dflt lo m = true →
      SMap.wfFrom dflt lo (SMap.ins k v m) = true := by
  induction m with
  | nil => intro lo hlo _ _; simp [SMap.ins, SMap.wfFrom, hlo, hv]
  | cons e m ih =>
    obtain ⟨j, u⟩ := e
    intro lo hlo hk h
    have hjk : j ≠ k := by
      intro hjk; subst hjk; simp [SMap.find?] at hk
    have hk' : SMap.find? k m = none := by simpa [SMap.find?, hjk] using hk
    simp only [SMap.wfFrom, Bool.and_eq_true, decide_eq_true_eq] at h
    by_cases hlt : k < j
    · simp only [SMap.ins, hlt, if_true, SMap.wfFrom, Bool.and_eq_true, decide_eq_true_eq]
      exact ⟨⟨hlo, hv⟩, ⟨by omega, h.1.2⟩, h.2⟩
    · simp only [SMap.ins, hlt, if_false, SMap.wfFrom, Bool.and_eq_true, decide_eq_true_eq]
      exact ⟨h.1, ih (by omega) hk' h.2⟩

/-- A write keeps the canonical form. -/
theorem SMap.wf_put [DecidableEq α] {dflt : Nat → α} {m : SMap α} (k : Nat) (v : α) (h : SMap.wf dflt m = true) :
    SMap.wf dflt (SMap.put (dflt k) m k v) = true := by
  unfold SMap.wf SMap.put at *
  by_cases hv : v = dflt k
  · simpa [hv] using SMap.wfFrom_erase k h
  · simpa [hv] using
      SMap.wfFrom_ins k v hv (Nat.zero_le k) (by simp [SMap.find_erase]) (SMap.wfFrom_erase k h)

/-! ## Byte memories -/

theorem Memory.read_write (m : Memory) (a b : Nat) (v : Byte) :
    (m.write a v).read b = if b = a then v else m.read b := SMap.get_put _ _ _ _ _

theorem Memory.wf_write {m : Memory} (a : Nat) (v : Byte) (h : m.wf = true) : (m.write a v).wf = true :=
  SMap.wf_put (dflt := fun _ => Memory.empty) a v h

theorem Memory.wf_writeList (bs : List Byte) : ∀ {m : Memory} (a : Nat), m.wf = true → (m.writeList a bs).wf = true := by
  induction bs with
  | nil => intro m a h; exact h
  | cons b bs ih => intro m a h; exact ih (a + 1) (Memory.wf_write a b h)

/-- Bytes written at rising addresses read back; every other address reads as before. -/
theorem Memory.read_writeList (bs : List Byte) : ∀ (m : Memory) (a b : Nat),
    (m.writeList a bs).read b = if h : a ≤ b ∧ b - a < bs.length then bs[b - a]'h.2 else m.read b := by
  induction bs with
  | nil => intro m a b; simp [Memory.writeList]
  | cons x xs ih =>
    intro m a b
    rw [Memory.writeList, ih]
    by_cases h : a + 1 ≤ b ∧ b - (a + 1) < xs.length
    · have h' : a ≤ b ∧ b - a < (x :: xs).length := ⟨by omega, by simp only [List.length_cons]; omega⟩
      have e : b - a = (b - (a + 1)) + 1 := by omega
      simp only [h, h', dif_pos, and_self]
      simp [e]
    · rw [dif_neg h, Memory.read_write]
      by_cases hab : b = a
      · subst hab; simp
      · have h' : ¬(a ≤ b ∧ b - a < (x :: xs).length) := by simp only [List.length_cons]; omega
        rw [dif_neg h', if_neg hab]

theorem SMap.wfFrom_filter [DecidableEq α] {dflt : Nat → α} (q : Nat × α → Bool) {m : SMap α} :
    ∀ {lo : Nat}, SMap.wfFrom dflt lo m = true → SMap.wfFrom dflt lo (m.filter q) = true := by
  induction m with
  | nil => intro lo _; rfl
  | cons e m ih =>
    obtain ⟨j, v⟩ := e
    intro lo h
    simp only [SMap.wfFrom, Bool.and_eq_true, decide_eq_true_eq] at h
    by_cases hq : q (j, v) = true
    · rw [List.filter_cons_of_pos hq]
      simp only [SMap.wfFrom, Bool.and_eq_true, decide_eq_true_eq]
      exact ⟨h.1, ih h.2⟩
    · rw [List.filter_cons_of_neg hq]
      exact SMap.wfFrom_mono (by omega) (ih h.2)

theorem Memory.wf_clear {m : Memory} (a n : Nat) (h : m.wf = true) : (m.clear a n).wf = true :=
  SMap.wfFrom_filter _ h

theorem Memory.wf_paste {m : Memory} (a n : Nat) (w : Memory) (h : m.wf = true) : (m.paste a n w).wf = true := by
  unfold Memory.paste
  have : ∀ (l : Memory) (m : Memory), m.wf = true → (l.foldl (fun m c => m.write c.1 c.2) m).wf = true := by
    intro l
    induction l with
    | nil => intro m h; exact h
    | cons c l ih => intro m h; exact ih _ (Memory.wf_write _ _ h)
  exact this w _ (Memory.wf_clear a n h)

theorem Memory.wf_window {m : Memory} (a n b : Nat) (h : m.wf = true) : (m.window a n b).wf = true := by
  have key : ∀ (l : Memory) (lo : Nat), SMap.wfFrom (fun _ => Memory.empty) lo l = true →
      (∀ c ∈ l, a ≤ c.1) → SMap.wfFrom (fun _ => Memory.empty) (lo - a + b) (l.map (fun c => (c.1 - a + b, c.2))) = true := by
    intro l
    induction l with
    | nil => intro lo _ _; rfl
    | cons c l ih =>
      obtain ⟨k, v⟩ := c
      intro lo h hc
      simp only [SMap.wfFrom, Bool.and_eq_true, decide_eq_true_eq] at h
      have hk : a ≤ k := hc (k, v) (by simp)
      simp only [List.map_cons, SMap.wfFrom, Bool.and_eq_true, decide_eq_true_eq]
      refine ⟨⟨by omega, h.1.2⟩, ?_⟩
      have := ih (k + 1) h.2 (fun c hc' => hc c (by simp [hc']))
      exact SMap.wfFrom_mono (by omega) this
  have h2 := key _ 0 (SMap.wfFrom_filter (fun c => decide (a ≤ c.1) && decide (c.1 < a + n)) h)
    (by intro c hc; simp at hc; exact hc.2.1)
  unfold Memory.window Memory.wf SMap.wf
  exact SMap.wfFrom_mono (Nat.zero_le _) h2

end Sys2Proof.Machine
end

