-- ==== Sys2Proof/Laws/State.lean ====
section
/-! SUPPORT. One lemma for every field of the device and every basic update, so that no later proof unfolds a record update,
and the laws of the register map and of its fields. -/

namespace Sys2Proof.Machine

variable (d : Dev)

/-! ### wr -/

@[simp] theorem Dev.part_wr (a : Nat) (w : Word) : (d.wr a w).part = d.part := rfl
@[simp] theorem Dev.now_wr (a : Nat) (w : Word) : (d.wr a w).now = d.now := rfl
@[simp] theorem Dev.free_wr (a : Nat) (w : Word) : (d.wr a w).free = d.free := rfl
@[simp] theorem Dev.out_wr (a : Nat) (w : Word) : (d.wr a w).out = d.out := rfl
@[simp] theorem Dev.shadow_wr (a : Nat) (w : Word) : (d.wr a w).shadow = d.shadow := rfl
@[simp] theorem Dev.captures_wr (a : Nat) (w : Word) : (d.wr a w).captures = d.captures := rfl
@[simp] theorem Dev.commits_wr (a : Nat) (w : Word) : (d.wr a w).commits = d.commits := rfl
@[simp] theorem Dev.armed_wr (a : Nat) (w : Word) : (d.wr a w).armed = d.armed := rfl
@[simp] theorem Dev.evtLast_wr (a : Nat) (w : Word) : (d.wr a w).evtLast = d.evtLast := rfl
@[simp] theorem Dev.latches_wr (a : Nat) (w : Word) : (d.wr a w).latches = d.latches := rfl
@[simp] theorem Dev.devtime_wr (a : Nat) (w : Word) : (d.wr a w).devtime = d.devtime := rfl
@[simp] theorem Dev.scount_wr (a : Nat) (w : Word) : (d.wr a w).scount = d.scount := rfl
@[simp] theorem Dev.binCount_wr (a : Nat) (w : Word) : (d.wr a w).binCount = d.binCount := rfl
@[simp] theorem Dev.pcie_wr (a : Nat) (w : Word) : (d.wr a w).pcie = d.pcie := rfl
@[simp] theorem Dev.spi_wr (a : Nat) (w : Word) : (d.wr a w).spi = d.spi := rfl
@[simp] theorem Dev.soot_wr (a : Nat) (w : Word) : (d.wr a w).soot = d.soot := rfl
@[simp] theorem Dev.cap_wr (a : Nat) (w : Word) : (d.wr a w).cap = d.cap := rfl
@[simp] theorem Dev.cal_wr (a : Nat) (w : Word) : (d.wr a w).cal = d.cal := rfl
@[simp] theorem Dev.bist_wr (a : Nat) (w : Word) : (d.wr a w).bist = d.bist := rfl
@[simp] theorem Dev.hearths_wr (a : Nat) (w : Word) : (d.wr a w).hearths = d.hearths := rfl
@[simp] theorem Dev.lanes_wr (a : Nat) (w : Word) : (d.wr a w).lanes = d.lanes := rfl
@[simp] theorem Dev.pool_wr (a : Nat) (w : Word) : (d.wr a w).pool = d.pool := rfl
@[simp] theorem Dev.rolling_wr (a : Nat) (w : Word) : (d.wr a w).rolling = d.rolling := rfl
@[simp] theorem Dev.ash_wr (a : Nat) (w : Word) : (d.wr a w).ash = d.ash := rfl
@[simp] theorem Dev.chimney_wr (a : Nat) (w : Word) : (d.wr a w).chimney = d.chimney := rfl
@[simp] theorem Dev.store_wr (a : Nat) (w : Word) : (d.wr a w).store = d.store := rfl
@[simp] theorem Dev.fire_wr (a : Nat) (w : Word) : (d.wr a w).fire = d.fire := rfl
@[simp] theorem Dev.flue_wr (a : Nat) (w : Word) : (d.wr a w).flue = d.flue := rfl
@[simp] theorem Dev.ptp_wr (a : Nat) (w : Word) : (d.wr a w).ptp = d.ptp := rfl
@[simp] theorem Dev.audio_wr (a : Nat) (w : Word) : (d.wr a w).audio = d.audio := rfl
@[simp] theorem Dev.smoke_wr (a : Nat) (w : Word) : (d.wr a w).smoke = d.smoke := rfl
@[simp] theorem Dev.aux_wr (a : Nat) (w : Word) : (d.wr a w).aux = d.aux := rfl
@[simp] theorem Dev.target_wr (a : Nat) (w : Word) : (d.wr a w).target = d.target := rfl
@[simp] theorem Dev.rst_wr (a : Nat) (w : Word) : (d.wr a w).rst = d.rst := rfl
@[simp] theorem Dev.clk_wr (a : Nat) (w : Word) : (d.wr a w).clk = d.clk := rfl
@[simp] theorem Dev.balls_wr (a : Nat) (w : Word) : (d.wr a w).balls = d.balls := rfl

/-! ### set -/

@[simp] theorem Dev.part_set (f : Fld) (v : Nat) : (d.set f v).part = d.part := rfl
@[simp] theorem Dev.now_set (f : Fld) (v : Nat) : (d.set f v).now = d.now := rfl
@[simp] theorem Dev.free_set (f : Fld) (v : Nat) : (d.set f v).free = d.free := rfl
@[simp] theorem Dev.out_set (f : Fld) (v : Nat) : (d.set f v).out = d.out := rfl
@[simp] theorem Dev.shadow_set (f : Fld) (v : Nat) : (d.set f v).shadow = d.shadow := rfl
@[simp] theorem Dev.captures_set (f : Fld) (v : Nat) : (d.set f v).captures = d.captures := rfl
@[simp] theorem Dev.commits_set (f : Fld) (v : Nat) : (d.set f v).commits = d.commits := rfl
@[simp] theorem Dev.armed_set (f : Fld) (v : Nat) : (d.set f v).armed = d.armed := rfl
@[simp] theorem Dev.evtLast_set (f : Fld) (v : Nat) : (d.set f v).evtLast = d.evtLast := rfl
@[simp] theorem Dev.latches_set (f : Fld) (v : Nat) : (d.set f v).latches = d.latches := rfl
@[simp] theorem Dev.devtime_set (f : Fld) (v : Nat) : (d.set f v).devtime = d.devtime := rfl
@[simp] theorem Dev.scount_set (f : Fld) (v : Nat) : (d.set f v).scount = d.scount := rfl
@[simp] theorem Dev.binCount_set (f : Fld) (v : Nat) : (d.set f v).binCount = d.binCount := rfl
@[simp] theorem Dev.pcie_set (f : Fld) (v : Nat) : (d.set f v).pcie = d.pcie := rfl
@[simp] theorem Dev.spi_set (f : Fld) (v : Nat) : (d.set f v).spi = d.spi := rfl
@[simp] theorem Dev.soot_set (f : Fld) (v : Nat) : (d.set f v).soot = d.soot := rfl
@[simp] theorem Dev.cap_set (f : Fld) (v : Nat) : (d.set f v).cap = d.cap := rfl
@[simp] theorem Dev.cal_set (f : Fld) (v : Nat) : (d.set f v).cal = d.cal := rfl
@[simp] theorem Dev.bist_set (f : Fld) (v : Nat) : (d.set f v).bist = d.bist := rfl
@[simp] theorem Dev.hearths_set (f : Fld) (v : Nat) : (d.set f v).hearths = d.hearths := rfl
@[simp] theorem Dev.lanes_set (f : Fld) (v : Nat) : (d.set f v).lanes = d.lanes := rfl
@[simp] theorem Dev.pool_set (f : Fld) (v : Nat) : (d.set f v).pool = d.pool := rfl
@[simp] theorem Dev.rolling_set (f : Fld) (v : Nat) : (d.set f v).rolling = d.rolling := rfl
@[simp] theorem Dev.ash_set (f : Fld) (v : Nat) : (d.set f v).ash = d.ash := rfl
@[simp] theorem Dev.chimney_set (f : Fld) (v : Nat) : (d.set f v).chimney = d.chimney := rfl
@[simp] theorem Dev.store_set (f : Fld) (v : Nat) : (d.set f v).store = d.store := rfl
@[simp] theorem Dev.fire_set (f : Fld) (v : Nat) : (d.set f v).fire = d.fire := rfl
@[simp] theorem Dev.flue_set (f : Fld) (v : Nat) : (d.set f v).flue = d.flue := rfl
@[simp] theorem Dev.ptp_set (f : Fld) (v : Nat) : (d.set f v).ptp = d.ptp := rfl
@[simp] theorem Dev.audio_set (f : Fld) (v : Nat) : (d.set f v).audio = d.audio := rfl
@[simp] theorem Dev.smoke_set (f : Fld) (v : Nat) : (d.set f v).smoke = d.smoke := rfl
@[simp] theorem Dev.aux_set (f : Fld) (v : Nat) : (d.set f v).aux = d.aux := rfl
@[simp] theorem Dev.target_set (f : Fld) (v : Nat) : (d.set f v).target = d.target := rfl
@[simp] theorem Dev.rst_set (f : Fld) (v : Nat) : (d.set f v).rst = d.rst := rfl
@[simp] theorem Dev.clk_set (f : Fld) (v : Nat) : (d.set f v).clk = d.clk := rfl
@[simp] theorem Dev.balls_set (f : Fld) (v : Nat) : (d.set f v).balls = d.balls := rfl

/-! ### shWr -/

@[simp] theorem Dev.part_shWr (a : Nat) (w : Word) : (d.shWr a w).part = d.part := rfl
@[simp] theorem Dev.now_shWr (a : Nat) (w : Word) : (d.shWr a w).now = d.now := rfl
@[simp] theorem Dev.free_shWr (a : Nat) (w : Word) : (d.shWr a w).free = d.free := rfl
@[simp] theorem Dev.out_shWr (a : Nat) (w : Word) : (d.shWr a w).out = d.out := rfl
@[simp] theorem Dev.regs_shWr (a : Nat) (w : Word) : (d.shWr a w).regs = d.regs := rfl
@[simp] theorem Dev.captures_shWr (a : Nat) (w : Word) : (d.shWr a w).captures = d.captures := rfl
@[simp] theorem Dev.commits_shWr (a : Nat) (w : Word) : (d.shWr a w).commits = d.commits := rfl
@[simp] theorem Dev.armed_shWr (a : Nat) (w : Word) : (d.shWr a w).armed = d.armed := rfl
@[simp] theorem Dev.evtLast_shWr (a : Nat) (w : Word) : (d.shWr a w).evtLast = d.evtLast := rfl
@[simp] theorem Dev.latches_shWr (a : Nat) (w : Word) : (d.shWr a w).latches = d.latches := rfl
@[simp] theorem Dev.devtime_shWr (a : Nat) (w : Word) : (d.shWr a w).devtime = d.devtime := rfl
@[simp] theorem Dev.scount_shWr (a : Nat) (w : Word) : (d.shWr a w).scount = d.scount := rfl
@[simp] theorem Dev.binCount_shWr (a : Nat) (w : Word) : (d.shWr a w).binCount = d.binCount := rfl
@[simp] theorem Dev.pcie_shWr (a : Nat) (w : Word) : (d.shWr a w).pcie = d.pcie := rfl
@[simp] theorem Dev.spi_shWr (a : Nat) (w : Word) : (d.shWr a w).spi = d.spi := rfl
@[simp] theorem Dev.soot_shWr (a : Nat) (w : Word) : (d.shWr a w).soot = d.soot := rfl
@[simp] theorem Dev.cap_shWr (a : Nat) (w : Word) : (d.shWr a w).cap = d.cap := rfl
@[simp] theorem Dev.cal_shWr (a : Nat) (w : Word) : (d.shWr a w).cal = d.cal := rfl
@[simp] theorem Dev.bist_shWr (a : Nat) (w : Word) : (d.shWr a w).bist = d.bist := rfl
@[simp] theorem Dev.hearths_shWr (a : Nat) (w : Word) : (d.shWr a w).hearths = d.hearths := rfl
@[simp] theorem Dev.lanes_shWr (a : Nat) (w : Word) : (d.shWr a w).lanes = d.lanes := rfl
@[simp] theorem Dev.pool_shWr (a : Nat) (w : Word) : (d.shWr a w).pool = d.pool := rfl
@[simp] theorem Dev.rolling_shWr (a : Nat) (w : Word) : (d.shWr a w).rolling = d.rolling := rfl
@[simp] theorem Dev.ash_shWr (a : Nat) (w : Word) : (d.shWr a w).ash = d.ash := rfl
@[simp] theorem Dev.chimney_shWr (a : Nat) (w : Word) : (d.shWr a w).chimney = d.chimney := rfl
@[simp] theorem Dev.store_shWr (a : Nat) (w : Word) : (d.shWr a w).store = d.store := rfl
@[simp] theorem Dev.fire_shWr (a : Nat) (w : Word) : (d.shWr a w).fire = d.fire := rfl
@[simp] theorem Dev.flue_shWr (a : Nat) (w : Word) : (d.shWr a w).flue = d.flue := rfl
@[simp] theorem Dev.ptp_shWr (a : Nat) (w : Word) : (d.shWr a w).ptp = d.ptp := rfl
@[simp] theorem Dev.audio_shWr (a : Nat) (w : Word) : (d.shWr a w).audio = d.audio := rfl
@[simp] theorem Dev.smoke_shWr (a : Nat) (w : Word) : (d.shWr a w).smoke = d.smoke := rfl
@[simp] theorem Dev.aux_shWr (a : Nat) (w : Word) : (d.shWr a w).aux = d.aux := rfl
@[simp] theorem Dev.target_shWr (a : Nat) (w : Word) : (d.shWr a w).target = d.target := rfl
@[simp] theorem Dev.rst_shWr (a : Nat) (w : Word) : (d.shWr a w).rst = d.rst := rfl
@[simp] theorem Dev.clk_shWr (a : Nat) (w : Word) : (d.shWr a w).clk = d.clk := rfl
@[simp] theorem Dev.balls_shWr (a : Nat) (w : Word) : (d.shWr a w).balls = d.balls := rfl

/-! ### emit -/

@[simp] theorem Dev.part_emit (x : Out) : (d.emit x).part = d.part := rfl
@[simp] theorem Dev.now_emit (x : Out) : (d.emit x).now = d.now := rfl
@[simp] theorem Dev.free_emit (x : Out) : (d.emit x).free = d.free := rfl
@[simp] theorem Dev.regs_emit (x : Out) : (d.emit x).regs = d.regs := rfl
@[simp] theorem Dev.shadow_emit (x : Out) : (d.emit x).shadow = d.shadow := rfl
@[simp] theorem Dev.captures_emit (x : Out) : (d.emit x).captures = d.captures := rfl
@[simp] theorem Dev.commits_emit (x : Out) : (d.emit x).commits = d.commits := rfl
@[simp] theorem Dev.armed_emit (x : Out) : (d.emit x).armed = d.armed := rfl
@[simp] theorem Dev.evtLast_emit (x : Out) : (d.emit x).evtLast = d.evtLast := rfl
@[simp] theorem Dev.latches_emit (x : Out) : (d.emit x).latches = d.latches := rfl
@[simp] theorem Dev.devtime_emit (x : Out) : (d.emit x).devtime = d.devtime := rfl
@[simp] theorem Dev.scount_emit (x : Out) : (d.emit x).scount = d.scount := rfl
@[simp] theorem Dev.binCount_emit (x : Out) : (d.emit x).binCount = d.binCount := rfl
@[simp] theorem Dev.pcie_emit (x : Out) : (d.emit x).pcie = d.pcie := rfl
@[simp] theorem Dev.spi_emit (x : Out) : (d.emit x).spi = d.spi := rfl
@[simp] theorem Dev.soot_emit (x : Out) : (d.emit x).soot = d.soot := rfl
@[simp] theorem Dev.cap_emit (x : Out) : (d.emit x).cap = d.cap := rfl
@[simp] theorem Dev.cal_emit (x : Out) : (d.emit x).cal = d.cal := rfl
@[simp] theorem Dev.bist_emit (x : Out) : (d.emit x).bist = d.bist := rfl
@[simp] theorem Dev.hearths_emit (x : Out) : (d.emit x).hearths = d.hearths := rfl
@[simp] theorem Dev.lanes_emit (x : Out) : (d.emit x).lanes = d.lanes := rfl
@[simp] theorem Dev.pool_emit (x : Out) : (d.emit x).pool = d.pool := rfl
@[simp] theorem Dev.rolling_emit (x : Out) : (d.emit x).rolling = d.rolling := rfl
@[simp] theorem Dev.ash_emit (x : Out) : (d.emit x).ash = d.ash := rfl
@[simp] theorem Dev.chimney_emit (x : Out) : (d.emit x).chimney = d.chimney := rfl
@[simp] theorem Dev.store_emit (x : Out) : (d.emit x).store = d.store := rfl
@[simp] theorem Dev.fire_emit (x : Out) : (d.emit x).fire = d.fire := rfl
@[simp] theorem Dev.flue_emit (x : Out) : (d.emit x).flue = d.flue := rfl
@[simp] theorem Dev.ptp_emit (x : Out) : (d.emit x).ptp = d.ptp := rfl
@[simp] theorem Dev.audio_emit (x : Out) : (d.emit x).audio = d.audio := rfl
@[simp] theorem Dev.smoke_emit (x : Out) : (d.emit x).smoke = d.smoke := rfl
@[simp] theorem Dev.aux_emit (x : Out) : (d.emit x).aux = d.aux := rfl
@[simp] theorem Dev.target_emit (x : Out) : (d.emit x).target = d.target := rfl
@[simp] theorem Dev.rst_emit (x : Out) : (d.emit x).rst = d.rst := rfl
@[simp] theorem Dev.clk_emit (x : Out) : (d.emit x).clk = d.clk := rfl
@[simp] theorem Dev.balls_emit (x : Out) : (d.emit x).balls = d.balls := rfl

/-! ### setHearth -/

@[simp] theorem Dev.part_setHearth (h : Nat) (x : Hearth) : (d.setHearth h x).part = d.part := rfl
@[simp] theorem Dev.now_setHearth (h : Nat) (x : Hearth) : (d.setHearth h x).now = d.now := rfl
@[simp] theorem Dev.free_setHearth (h : Nat) (x : Hearth) : (d.setHearth h x).free = d.free := rfl
@[simp] theorem Dev.out_setHearth (h : Nat) (x : Hearth) : (d.setHearth h x).out = d.out := rfl
@[simp] theorem Dev.regs_setHearth (h : Nat) (x : Hearth) : (d.setHearth h x).regs = d.regs := rfl
@[simp] theorem Dev.shadow_setHearth (h : Nat) (x : Hearth) : (d.setHearth h x).shadow = d.shadow := rfl
@[simp] theorem Dev.captures_setHearth (h : Nat) (x : Hearth) : (d.setHearth h x).captures = d.captures := rfl
@[simp] theorem Dev.commits_setHearth (h : Nat) (x : Hearth) : (d.setHearth h x).commits = d.commits := rfl
@[simp] theorem Dev.armed_setHearth (h : Nat) (x : Hearth) : (d.setHearth h x).armed = d.armed := rfl
@[simp] theorem Dev.evtLast_setHearth (h : Nat) (x : Hearth) : (d.setHearth h x).evtLast = d.evtLast := rfl
@[simp] theorem Dev.latches_setHearth (h : Nat) (x : Hearth) : (d.setHearth h x).latches = d.latches := rfl
@[simp] theorem Dev.devtime_setHearth (h : Nat) (x : Hearth) : (d.setHearth h x).devtime = d.devtime := rfl
@[simp] theorem Dev.scount_setHearth (h : Nat) (x : Hearth) : (d.setHearth h x).scount = d.scount := rfl
@[simp] theorem Dev.binCount_setHearth (h : Nat) (x : Hearth) : (d.setHearth h x).binCount = d.binCount := rfl
@[simp] theorem Dev.pcie_setHearth (h : Nat) (x : Hearth) : (d.setHearth h x).pcie = d.pcie := rfl
@[simp] theorem Dev.spi_setHearth (h : Nat) (x : Hearth) : (d.setHearth h x).spi = d.spi := rfl
@[simp] theorem Dev.soot_setHearth (h : Nat) (x : Hearth) : (d.setHearth h x).soot = d.soot := rfl
@[simp] theorem Dev.cap_setHearth (h : Nat) (x : Hearth) : (d.setHearth h x).cap = d.cap := rfl
@[simp] theorem Dev.cal_setHearth (h : Nat) (x : Hearth) : (d.setHearth h x).cal = d.cal := rfl
@[simp] theorem Dev.bist_setHearth (h : Nat) (x : Hearth) : (d.setHearth h x).bist = d.bist := rfl
@[simp] theorem Dev.lanes_setHearth (h : Nat) (x : Hearth) : (d.setHearth h x).lanes = d.lanes := rfl
@[simp] theorem Dev.pool_setHearth (h : Nat) (x : Hearth) : (d.setHearth h x).pool = d.pool := rfl
@[simp] theorem Dev.rolling_setHearth (h : Nat) (x : Hearth) : (d.setHearth h x).rolling = d.rolling := rfl
@[simp] theorem Dev.ash_setHearth (h : Nat) (x : Hearth) : (d.setHearth h x).ash = d.ash := rfl
@[simp] theorem Dev.chimney_setHearth (h : Nat) (x : Hearth) : (d.setHearth h x).chimney = d.chimney := rfl
@[simp] theorem Dev.store_setHearth (h : Nat) (x : Hearth) : (d.setHearth h x).store = d.store := rfl
@[simp] theorem Dev.fire_setHearth (h : Nat) (x : Hearth) : (d.setHearth h x).fire = d.fire := rfl
@[simp] theorem Dev.flue_setHearth (h : Nat) (x : Hearth) : (d.setHearth h x).flue = d.flue := rfl
@[simp] theorem Dev.ptp_setHearth (h : Nat) (x : Hearth) : (d.setHearth h x).ptp = d.ptp := rfl
@[simp] theorem Dev.audio_setHearth (h : Nat) (x : Hearth) : (d.setHearth h x).audio = d.audio := rfl
@[simp] theorem Dev.smoke_setHearth (h : Nat) (x : Hearth) : (d.setHearth h x).smoke = d.smoke := rfl
@[simp] theorem Dev.aux_setHearth (h : Nat) (x : Hearth) : (d.setHearth h x).aux = d.aux := rfl
@[simp] theorem Dev.target_setHearth (h : Nat) (x : Hearth) : (d.setHearth h x).target = d.target := rfl
@[simp] theorem Dev.rst_setHearth (h : Nat) (x : Hearth) : (d.setHearth h x).rst = d.rst := rfl
@[simp] theorem Dev.clk_setHearth (h : Nat) (x : Hearth) : (d.setHearth h x).clk = d.clk := rfl
@[simp] theorem Dev.balls_setHearth (h : Nat) (x : Hearth) : (d.setHearth h x).balls = d.balls := rfl

/-! ### setLane -/

@[simp] theorem Dev.part_setLane (n : Nat) (x : Lane) : (d.setLane n x).part = d.part := rfl
@[simp] theorem Dev.now_setLane (n : Nat) (x : Lane) : (d.setLane n x).now = d.now := rfl
@[simp] theorem Dev.free_setLane (n : Nat) (x : Lane) : (d.setLane n x).free = d.free := rfl
@[simp] theorem Dev.out_setLane (n : Nat) (x : Lane) : (d.setLane n x).out = d.out := rfl
@[simp] theorem Dev.regs_setLane (n : Nat) (x : Lane) : (d.setLane n x).regs = d.regs := rfl
@[simp] theorem Dev.shadow_setLane (n : Nat) (x : Lane) : (d.setLane n x).shadow = d.shadow := rfl
@[simp] theorem Dev.captures_setLane (n : Nat) (x : Lane) : (d.setLane n x).captures = d.captures := rfl
@[simp] theorem Dev.commits_setLane (n : Nat) (x : Lane) : (d.setLane n x).commits = d.commits := rfl
@[simp] theorem Dev.armed_setLane (n : Nat) (x : Lane) : (d.setLane n x).armed = d.armed := rfl
@[simp] theorem Dev.evtLast_setLane (n : Nat) (x : Lane) : (d.setLane n x).evtLast = d.evtLast := rfl
@[simp] theorem Dev.latches_setLane (n : Nat) (x : Lane) : (d.setLane n x).latches = d.latches := rfl
@[simp] theorem Dev.devtime_setLane (n : Nat) (x : Lane) : (d.setLane n x).devtime = d.devtime := rfl
@[simp] theorem Dev.scount_setLane (n : Nat) (x : Lane) : (d.setLane n x).scount = d.scount := rfl
@[simp] theorem Dev.binCount_setLane (n : Nat) (x : Lane) : (d.setLane n x).binCount = d.binCount := rfl
@[simp] theorem Dev.pcie_setLane (n : Nat) (x : Lane) : (d.setLane n x).pcie = d.pcie := rfl
@[simp] theorem Dev.spi_setLane (n : Nat) (x : Lane) : (d.setLane n x).spi = d.spi := rfl
@[simp] theorem Dev.soot_setLane (n : Nat) (x : Lane) : (d.setLane n x).soot = d.soot := rfl
@[simp] theorem Dev.cap_setLane (n : Nat) (x : Lane) : (d.setLane n x).cap = d.cap := rfl
@[simp] theorem Dev.cal_setLane (n : Nat) (x : Lane) : (d.setLane n x).cal = d.cal := rfl
@[simp] theorem Dev.bist_setLane (n : Nat) (x : Lane) : (d.setLane n x).bist = d.bist := rfl
@[simp] theorem Dev.hearths_setLane (n : Nat) (x : Lane) : (d.setLane n x).hearths = d.hearths := rfl
@[simp] theorem Dev.pool_setLane (n : Nat) (x : Lane) : (d.setLane n x).pool = d.pool := rfl
@[simp] theorem Dev.rolling_setLane (n : Nat) (x : Lane) : (d.setLane n x).rolling = d.rolling := rfl
@[simp] theorem Dev.ash_setLane (n : Nat) (x : Lane) : (d.setLane n x).ash = d.ash := rfl
@[simp] theorem Dev.chimney_setLane (n : Nat) (x : Lane) : (d.setLane n x).chimney = d.chimney := rfl
@[simp] theorem Dev.store_setLane (n : Nat) (x : Lane) : (d.setLane n x).store = d.store := rfl
@[simp] theorem Dev.fire_setLane (n : Nat) (x : Lane) : (d.setLane n x).fire = d.fire := rfl
@[simp] theorem Dev.flue_setLane (n : Nat) (x : Lane) : (d.setLane n x).flue = d.flue := rfl
@[simp] theorem Dev.ptp_setLane (n : Nat) (x : Lane) : (d.setLane n x).ptp = d.ptp := rfl
@[simp] theorem Dev.audio_setLane (n : Nat) (x : Lane) : (d.setLane n x).audio = d.audio := rfl
@[simp] theorem Dev.smoke_setLane (n : Nat) (x : Lane) : (d.setLane n x).smoke = d.smoke := rfl
@[simp] theorem Dev.aux_setLane (n : Nat) (x : Lane) : (d.setLane n x).aux = d.aux := rfl
@[simp] theorem Dev.target_setLane (n : Nat) (x : Lane) : (d.setLane n x).target = d.target := rfl
@[simp] theorem Dev.rst_setLane (n : Nat) (x : Lane) : (d.setLane n x).rst = d.rst := rfl
@[simp] theorem Dev.clk_setLane (n : Nat) (x : Lane) : (d.setLane n x).clk = d.clk := rfl
@[simp] theorem Dev.balls_setLane (n : Nat) (x : Lane) : (d.setLane n x).balls = d.balls := rfl

/-! ### updHearth -/

@[simp] theorem Dev.part_updHearth (h : Nat) (f : Hearth → Hearth) : (d.updHearth h f).part = d.part := rfl
@[simp] theorem Dev.now_updHearth (h : Nat) (f : Hearth → Hearth) : (d.updHearth h f).now = d.now := rfl
@[simp] theorem Dev.free_updHearth (h : Nat) (f : Hearth → Hearth) : (d.updHearth h f).free = d.free := rfl
@[simp] theorem Dev.out_updHearth (h : Nat) (f : Hearth → Hearth) : (d.updHearth h f).out = d.out := rfl
@[simp] theorem Dev.regs_updHearth (h : Nat) (f : Hearth → Hearth) : (d.updHearth h f).regs = d.regs := rfl
@[simp] theorem Dev.shadow_updHearth (h : Nat) (f : Hearth → Hearth) : (d.updHearth h f).shadow = d.shadow := rfl
@[simp] theorem Dev.captures_updHearth (h : Nat) (f : Hearth → Hearth) : (d.updHearth h f).captures = d.captures := rfl
@[simp] theorem Dev.commits_updHearth (h : Nat) (f : Hearth → Hearth) : (d.updHearth h f).commits = d.commits := rfl
@[simp] theorem Dev.armed_updHearth (h : Nat) (f : Hearth → Hearth) : (d.updHearth h f).armed = d.armed := rfl
@[simp] theorem Dev.evtLast_updHearth (h : Nat) (f : Hearth → Hearth) : (d.updHearth h f).evtLast = d.evtLast := rfl
@[simp] theorem Dev.latches_updHearth (h : Nat) (f : Hearth → Hearth) : (d.updHearth h f).latches = d.latches := rfl
@[simp] theorem Dev.devtime_updHearth (h : Nat) (f : Hearth → Hearth) : (d.updHearth h f).devtime = d.devtime := rfl
@[simp] theorem Dev.scount_updHearth (h : Nat) (f : Hearth → Hearth) : (d.updHearth h f).scount = d.scount := rfl
@[simp] theorem Dev.binCount_updHearth (h : Nat) (f : Hearth → Hearth) : (d.updHearth h f).binCount = d.binCount := rfl
@[simp] theorem Dev.pcie_updHearth (h : Nat) (f : Hearth → Hearth) : (d.updHearth h f).pcie = d.pcie := rfl
@[simp] theorem Dev.spi_updHearth (h : Nat) (f : Hearth → Hearth) : (d.updHearth h f).spi = d.spi := rfl
@[simp] theorem Dev.soot_updHearth (h : Nat) (f : Hearth → Hearth) : (d.updHearth h f).soot = d.soot := rfl
@[simp] theorem Dev.cap_updHearth (h : Nat) (f : Hearth → Hearth) : (d.updHearth h f).cap = d.cap := rfl
@[simp] theorem Dev.cal_updHearth (h : Nat) (f : Hearth → Hearth) : (d.updHearth h f).cal = d.cal := rfl
@[simp] theorem Dev.bist_updHearth (h : Nat) (f : Hearth → Hearth) : (d.updHearth h f).bist = d.bist := rfl
@[simp] theorem Dev.lanes_updHearth (h : Nat) (f : Hearth → Hearth) : (d.updHearth h f).lanes = d.lanes := rfl
@[simp] theorem Dev.pool_updHearth (h : Nat) (f : Hearth → Hearth) : (d.updHearth h f).pool = d.pool := rfl
@[simp] theorem Dev.rolling_updHearth (h : Nat) (f : Hearth → Hearth) : (d.updHearth h f).rolling = d.rolling := rfl
@[simp] theorem Dev.ash_updHearth (h : Nat) (f : Hearth → Hearth) : (d.updHearth h f).ash = d.ash := rfl
@[simp] theorem Dev.chimney_updHearth (h : Nat) (f : Hearth → Hearth) : (d.updHearth h f).chimney = d.chimney := rfl
@[simp] theorem Dev.store_updHearth (h : Nat) (f : Hearth → Hearth) : (d.updHearth h f).store = d.store := rfl
@[simp] theorem Dev.fire_updHearth (h : Nat) (f : Hearth → Hearth) : (d.updHearth h f).fire = d.fire := rfl
@[simp] theorem Dev.flue_updHearth (h : Nat) (f : Hearth → Hearth) : (d.updHearth h f).flue = d.flue := rfl
@[simp] theorem Dev.ptp_updHearth (h : Nat) (f : Hearth → Hearth) : (d.updHearth h f).ptp = d.ptp := rfl
@[simp] theorem Dev.audio_updHearth (h : Nat) (f : Hearth → Hearth) : (d.updHearth h f).audio = d.audio := rfl
@[simp] theorem Dev.smoke_updHearth (h : Nat) (f : Hearth → Hearth) : (d.updHearth h f).smoke = d.smoke := rfl
@[simp] theorem Dev.aux_updHearth (h : Nat) (f : Hearth → Hearth) : (d.updHearth h f).aux = d.aux := rfl
@[simp] theorem Dev.target_updHearth (h : Nat) (f : Hearth → Hearth) : (d.updHearth h f).target = d.target := rfl
@[simp] theorem Dev.rst_updHearth (h : Nat) (f : Hearth → Hearth) : (d.updHearth h f).rst = d.rst := rfl
@[simp] theorem Dev.clk_updHearth (h : Nat) (f : Hearth → Hearth) : (d.updHearth h f).clk = d.clk := rfl
@[simp] theorem Dev.balls_updHearth (h : Nat) (f : Hearth → Hearth) : (d.updHearth h f).balls = d.balls := rfl

/-! ### updLane -/

@[simp] theorem Dev.part_updLane (n : Nat) (f : Lane → Lane) : (d.updLane n f).part = d.part := rfl
@[simp] theorem Dev.now_updLane (n : Nat) (f : Lane → Lane) : (d.updLane n f).now = d.now := rfl
@[simp] theorem Dev.free_updLane (n : Nat) (f : Lane → Lane) : (d.updLane n f).free = d.free := rfl
@[simp] theorem Dev.out_updLane (n : Nat) (f : Lane → Lane) : (d.updLane n f).out = d.out := rfl
@[simp] theorem Dev.regs_updLane (n : Nat) (f : Lane → Lane) : (d.updLane n f).regs = d.regs := rfl
@[simp] theorem Dev.shadow_updLane (n : Nat) (f : Lane → Lane) : (d.updLane n f).shadow = d.shadow := rfl
@[simp] theorem Dev.captures_updLane (n : Nat) (f : Lane → Lane) : (d.updLane n f).captures = d.captures := rfl
@[simp] theorem Dev.commits_updLane (n : Nat) (f : Lane → Lane) : (d.updLane n f).commits = d.commits := rfl
@[simp] theorem Dev.armed_updLane (n : Nat) (f : Lane → Lane) : (d.updLane n f).armed = d.armed := rfl
@[simp] theorem Dev.evtLast_updLane (n : Nat) (f : Lane → Lane) : (d.updLane n f).evtLast = d.evtLast := rfl
@[simp] theorem Dev.latches_updLane (n : Nat) (f : Lane → Lane) : (d.updLane n f).latches = d.latches := rfl
@[simp] theorem Dev.devtime_updLane (n : Nat) (f : Lane → Lane) : (d.updLane n f).devtime = d.devtime := rfl
@[simp] theorem Dev.scount_updLane (n : Nat) (f : Lane → Lane) : (d.updLane n f).scount = d.scount := rfl
@[simp] theorem Dev.binCount_updLane (n : Nat) (f : Lane → Lane) : (d.updLane n f).binCount = d.binCount := rfl
@[simp] theorem Dev.pcie_updLane (n : Nat) (f : Lane → Lane) : (d.updLane n f).pcie = d.pcie := rfl
@[simp] theorem Dev.spi_updLane (n : Nat) (f : Lane → Lane) : (d.updLane n f).spi = d.spi := rfl
@[simp] theorem Dev.soot_updLane (n : Nat) (f : Lane → Lane) : (d.updLane n f).soot = d.soot := rfl
@[simp] theorem Dev.cap_updLane (n : Nat) (f : Lane → Lane) : (d.updLane n f).cap = d.cap := rfl
@[simp] theorem Dev.cal_updLane (n : Nat) (f : Lane → Lane) : (d.updLane n f).cal = d.cal := rfl
@[simp] theorem Dev.bist_updLane (n : Nat) (f : Lane → Lane) : (d.updLane n f).bist = d.bist := rfl
@[simp] theorem Dev.hearths_updLane (n : Nat) (f : Lane → Lane) : (d.updLane n f).hearths = d.hearths := rfl
@[simp] theorem Dev.pool_updLane (n : Nat) (f : Lane → Lane) : (d.updLane n f).pool = d.pool := rfl
@[simp] theorem Dev.rolling_updLane (n : Nat) (f : Lane → Lane) : (d.updLane n f).rolling = d.rolling := rfl
@[simp] theorem Dev.ash_updLane (n : Nat) (f : Lane → Lane) : (d.updLane n f).ash = d.ash := rfl
@[simp] theorem Dev.chimney_updLane (n : Nat) (f : Lane → Lane) : (d.updLane n f).chimney = d.chimney := rfl
@[simp] theorem Dev.store_updLane (n : Nat) (f : Lane → Lane) : (d.updLane n f).store = d.store := rfl
@[simp] theorem Dev.fire_updLane (n : Nat) (f : Lane → Lane) : (d.updLane n f).fire = d.fire := rfl
@[simp] theorem Dev.flue_updLane (n : Nat) (f : Lane → Lane) : (d.updLane n f).flue = d.flue := rfl
@[simp] theorem Dev.ptp_updLane (n : Nat) (f : Lane → Lane) : (d.updLane n f).ptp = d.ptp := rfl
@[simp] theorem Dev.audio_updLane (n : Nat) (f : Lane → Lane) : (d.updLane n f).audio = d.audio := rfl
@[simp] theorem Dev.smoke_updLane (n : Nat) (f : Lane → Lane) : (d.updLane n f).smoke = d.smoke := rfl
@[simp] theorem Dev.aux_updLane (n : Nat) (f : Lane → Lane) : (d.updLane n f).aux = d.aux := rfl
@[simp] theorem Dev.target_updLane (n : Nat) (f : Lane → Lane) : (d.updLane n f).target = d.target := rfl
@[simp] theorem Dev.rst_updLane (n : Nat) (f : Lane → Lane) : (d.updLane n f).rst = d.rst := rfl
@[simp] theorem Dev.clk_updLane (n : Nat) (f : Lane → Lane) : (d.updLane n f).clk = d.clk := rfl
@[simp] theorem Dev.balls_updLane (n : Nat) (f : Lane → Lane) : (d.updLane n f).balls = d.balls := rfl

/-! ### Events -/

/-- What raising an SQC register's events leaves: everything but the registers, the rate limits, the message state and what
leaves the device. -/
theorem Dev.notify_frame (v : Nat) : d.notify v = { d with pcie := (d.notify v).pcie, out := (d.notify v).out } := by
  unfold Dev.notify Dev.msixSend
  repeat' split
  all_goals rfl

theorem Dev.raiseUnit_frame (a u : Nat) (bs : List Nat) :
    d.raiseUnit a u bs = { d with
      regs := (d.raiseUnit a u bs).regs, evtLast := (d.raiseUnit a u bs).evtLast,
      pcie := (d.raiseUnit a u bs).pcie, out := (d.raiseUnit a u bs).out } := by
  unfold Dev.raiseUnit
  dsimp only
  split
  · rfl
  · split
    · rw [Dev.notify_frame]; rfl
    · rfl


@[simp] theorem Dev.part_notify (v : Nat) : (d.notify v).part = d.part := by rw [Dev.notify_frame]
@[simp] theorem Dev.now_notify (v : Nat) : (d.notify v).now = d.now := by rw [Dev.notify_frame]
@[simp] theorem Dev.free_notify (v : Nat) : (d.notify v).free = d.free := by rw [Dev.notify_frame]
@[simp] theorem Dev.regs_notify (v : Nat) : (d.notify v).regs = d.regs := by rw [Dev.notify_frame]
@[simp] theorem Dev.shadow_notify (v : Nat) : (d.notify v).shadow = d.shadow := by rw [Dev.notify_frame]
@[simp] theorem Dev.captures_notify (v : Nat) : (d.notify v).captures = d.captures := by rw [Dev.notify_frame]
@[simp] theorem Dev.commits_notify (v : Nat) : (d.notify v).commits = d.commits := by rw [Dev.notify_frame]
@[simp] theorem Dev.armed_notify (v : Nat) : (d.notify v).armed = d.armed := by rw [Dev.notify_frame]
@[simp] theorem Dev.evtLast_notify (v : Nat) : (d.notify v).evtLast = d.evtLast := by rw [Dev.notify_frame]
@[simp] theorem Dev.latches_notify (v : Nat) : (d.notify v).latches = d.latches := by rw [Dev.notify_frame]
@[simp] theorem Dev.devtime_notify (v : Nat) : (d.notify v).devtime = d.devtime := by rw [Dev.notify_frame]
@[simp] theorem Dev.scount_notify (v : Nat) : (d.notify v).scount = d.scount := by rw [Dev.notify_frame]
@[simp] theorem Dev.binCount_notify (v : Nat) : (d.notify v).binCount = d.binCount := by rw [Dev.notify_frame]
@[simp] theorem Dev.spi_notify (v : Nat) : (d.notify v).spi = d.spi := by rw [Dev.notify_frame]
@[simp] theorem Dev.soot_notify (v : Nat) : (d.notify v).soot = d.soot := by rw [Dev.notify_frame]
@[simp] theorem Dev.cap_notify (v : Nat) : (d.notify v).cap = d.cap := by rw [Dev.notify_frame]
@[simp] theorem Dev.cal_notify (v : Nat) : (d.notify v).cal = d.cal := by rw [Dev.notify_frame]
@[simp] theorem Dev.bist_notify (v : Nat) : (d.notify v).bist = d.bist := by rw [Dev.notify_frame]
@[simp] theorem Dev.hearths_notify (v : Nat) : (d.notify v).hearths = d.hearths := by rw [Dev.notify_frame]
@[simp] theorem Dev.lanes_notify (v : Nat) : (d.notify v).lanes = d.lanes := by rw [Dev.notify_frame]
@[simp] theorem Dev.pool_notify (v : Nat) : (d.notify v).pool = d.pool := by rw [Dev.notify_frame]
@[simp] theorem Dev.rolling_notify (v : Nat) : (d.notify v).rolling = d.rolling := by rw [Dev.notify_frame]
@[simp] theorem Dev.ash_notify (v : Nat) : (d.notify v).ash = d.ash := by rw [Dev.notify_frame]
@[simp] theorem Dev.chimney_notify (v : Nat) : (d.notify v).chimney = d.chimney := by rw [Dev.notify_frame]
@[simp] theorem Dev.store_notify (v : Nat) : (d.notify v).store = d.store := by rw [Dev.notify_frame]
@[simp] theorem Dev.fire_notify (v : Nat) : (d.notify v).fire = d.fire := by rw [Dev.notify_frame]
@[simp] theorem Dev.flue_notify (v : Nat) : (d.notify v).flue = d.flue := by rw [Dev.notify_frame]
@[simp] theorem Dev.ptp_notify (v : Nat) : (d.notify v).ptp = d.ptp := by rw [Dev.notify_frame]
@[simp] theorem Dev.audio_notify (v : Nat) : (d.notify v).audio = d.audio := by rw [Dev.notify_frame]
@[simp] theorem Dev.smoke_notify (v : Nat) : (d.notify v).smoke = d.smoke := by rw [Dev.notify_frame]
@[simp] theorem Dev.aux_notify (v : Nat) : (d.notify v).aux = d.aux := by rw [Dev.notify_frame]
@[simp] theorem Dev.target_notify (v : Nat) : (d.notify v).target = d.target := by rw [Dev.notify_frame]
@[simp] theorem Dev.rst_notify (v : Nat) : (d.notify v).rst = d.rst := by rw [Dev.notify_frame]
@[simp] theorem Dev.clk_notify (v : Nat) : (d.notify v).clk = d.clk := by rw [Dev.notify_frame]
@[simp] theorem Dev.balls_notify (v : Nat) : (d.notify v).balls = d.balls := by rw [Dev.notify_frame]
@[simp] theorem Dev.part_raiseUnit (a u : Nat) (bs : List Nat) : (d.raiseUnit a u bs).part = d.part := by rw [Dev.raiseUnit_frame]
@[simp] theorem Dev.now_raiseUnit (a u : Nat) (bs : List Nat) : (d.raiseUnit a u bs).now = d.now := by rw [Dev.raiseUnit_frame]
@[simp] theorem Dev.free_raiseUnit (a u : Nat) (bs : List Nat) : (d.raiseUnit a u bs).free = d.free := by rw [Dev.raiseUnit_frame]
@[simp] theorem Dev.shadow_raiseUnit (a u : Nat) (bs : List Nat) : (d.raiseUnit a u bs).shadow = d.shadow := by rw [Dev.raiseUnit_frame]
@[simp] theorem Dev.captures_raiseUnit (a u : Nat) (bs : List Nat) : (d.raiseUnit a u bs).captures = d.captures := by rw [Dev.raiseUnit_frame]
@[simp] theorem Dev.commits_raiseUnit (a u : Nat) (bs : List Nat) : (d.raiseUnit a u bs).commits = d.commits := by rw [Dev.raiseUnit_frame]
@[simp] theorem Dev.armed_raiseUnit (a u : Nat) (bs : List Nat) : (d.raiseUnit a u bs).armed = d.armed := by rw [Dev.raiseUnit_frame]
@[simp] theorem Dev.latches_raiseUnit (a u : Nat) (bs : List Nat) : (d.raiseUnit a u bs).latches = d.latches := by rw [Dev.raiseUnit_frame]
@[simp] theorem Dev.devtime_raiseUnit (a u : Nat) (bs : List Nat) : (d.raiseUnit a u bs).devtime = d.devtime := by rw [Dev.raiseUnit_frame]
@[simp] theorem Dev.scount_raiseUnit (a u : Nat) (bs : List Nat) : (d.raiseUnit a u bs).scount = d.scount := by rw [Dev.raiseUnit_frame]
@[simp] theorem Dev.binCount_raiseUnit (a u : Nat) (bs : List Nat) : (d.raiseUnit a u bs).binCount = d.binCount := by rw [Dev.raiseUnit_frame]
@[simp] theorem Dev.spi_raiseUnit (a u : Nat) (bs : List Nat) : (d.raiseUnit a u bs).spi = d.spi := by rw [Dev.raiseUnit_frame]
@[simp] theorem Dev.soot_raiseUnit (a u : Nat) (bs : List Nat) : (d.raiseUnit a u bs).soot = d.soot := by rw [Dev.raiseUnit_frame]
@[simp] theorem Dev.cap_raiseUnit (a u : Nat) (bs : List Nat) : (d.raiseUnit a u bs).cap = d.cap := by rw [Dev.raiseUnit_frame]
@[simp] theorem Dev.cal_raiseUnit (a u : Nat) (bs : List Nat) : (d.raiseUnit a u bs).cal = d.cal := by rw [Dev.raiseUnit_frame]
@[simp] theorem Dev.bist_raiseUnit (a u : Nat) (bs : List Nat) : (d.raiseUnit a u bs).bist = d.bist := by rw [Dev.raiseUnit_frame]
@[simp] theorem Dev.hearths_raiseUnit (a u : Nat) (bs : List Nat) : (d.raiseUnit a u bs).hearths = d.hearths := by rw [Dev.raiseUnit_frame]
@[simp] theorem Dev.lanes_raiseUnit (a u : Nat) (bs : List Nat) : (d.raiseUnit a u bs).lanes = d.lanes := by rw [Dev.raiseUnit_frame]
@[simp] theorem Dev.pool_raiseUnit (a u : Nat) (bs : List Nat) : (d.raiseUnit a u bs).pool = d.pool := by rw [Dev.raiseUnit_frame]
@[simp] theorem Dev.rolling_raiseUnit (a u : Nat) (bs : List Nat) : (d.raiseUnit a u bs).rolling = d.rolling := by rw [Dev.raiseUnit_frame]
@[simp] theorem Dev.ash_raiseUnit (a u : Nat) (bs : List Nat) : (d.raiseUnit a u bs).ash = d.ash := by rw [Dev.raiseUnit_frame]
@[simp] theorem Dev.chimney_raiseUnit (a u : Nat) (bs : List Nat) : (d.raiseUnit a u bs).chimney = d.chimney := by rw [Dev.raiseUnit_frame]
@[simp] theorem Dev.store_raiseUnit (a u : Nat) (bs : List Nat) : (d.raiseUnit a u bs).store = d.store := by rw [Dev.raiseUnit_frame]
@[simp] theorem Dev.fire_raiseUnit (a u : Nat) (bs : List Nat) : (d.raiseUnit a u bs).fire = d.fire := by rw [Dev.raiseUnit_frame]
@[simp] theorem Dev.flue_raiseUnit (a u : Nat) (bs : List Nat) : (d.raiseUnit a u bs).flue = d.flue := by rw [Dev.raiseUnit_frame]
@[simp] theorem Dev.ptp_raiseUnit (a u : Nat) (bs : List Nat) : (d.raiseUnit a u bs).ptp = d.ptp := by rw [Dev.raiseUnit_frame]
@[simp] theorem Dev.audio_raiseUnit (a u : Nat) (bs : List Nat) : (d.raiseUnit a u bs).audio = d.audio := by rw [Dev.raiseUnit_frame]
@[simp] theorem Dev.smoke_raiseUnit (a u : Nat) (bs : List Nat) : (d.raiseUnit a u bs).smoke = d.smoke := by rw [Dev.raiseUnit_frame]
@[simp] theorem Dev.aux_raiseUnit (a u : Nat) (bs : List Nat) : (d.raiseUnit a u bs).aux = d.aux := by rw [Dev.raiseUnit_frame]
@[simp] theorem Dev.target_raiseUnit (a u : Nat) (bs : List Nat) : (d.raiseUnit a u bs).target = d.target := by rw [Dev.raiseUnit_frame]
@[simp] theorem Dev.rst_raiseUnit (a u : Nat) (bs : List Nat) : (d.raiseUnit a u bs).rst = d.rst := by rw [Dev.raiseUnit_frame]
@[simp] theorem Dev.clk_raiseUnit (a u : Nat) (bs : List Nat) : (d.raiseUnit a u bs).clk = d.clk := by rw [Dev.raiseUnit_frame]
@[simp] theorem Dev.balls_raiseUnit (a u : Nat) (bs : List Nat) : (d.raiseUnit a u bs).balls = d.balls := by rw [Dev.raiseUnit_frame]
@[simp] theorem Dev.part_raise (a b : Nat) : (d.raise a b).part = d.part := by unfold Dev.raise; simp
@[simp] theorem Dev.now_raise (a b : Nat) : (d.raise a b).now = d.now := by unfold Dev.raise; simp
@[simp] theorem Dev.free_raise (a b : Nat) : (d.raise a b).free = d.free := by unfold Dev.raise; simp
@[simp] theorem Dev.shadow_raise (a b : Nat) : (d.raise a b).shadow = d.shadow := by unfold Dev.raise; simp
@[simp] theorem Dev.captures_raise (a b : Nat) : (d.raise a b).captures = d.captures := by unfold Dev.raise; simp
@[simp] theorem Dev.commits_raise (a b : Nat) : (d.raise a b).commits = d.commits := by unfold Dev.raise; simp
@[simp] theorem Dev.armed_raise (a b : Nat) : (d.raise a b).armed = d.armed := by unfold Dev.raise; simp
@[simp] theorem Dev.latches_raise (a b : Nat) : (d.raise a b).latches = d.latches := by unfold Dev.raise; simp
@[simp] theorem Dev.devtime_raise (a b : Nat) : (d.raise a b).devtime = d.devtime := by unfold Dev.raise; simp
@[simp] theorem Dev.scount_raise (a b : Nat) : (d.raise a b).scount = d.scount := by unfold Dev.raise; simp
@[simp] theorem Dev.binCount_raise (a b : Nat) : (d.raise a b).binCount = d.binCount := by unfold Dev.raise; simp
@[simp] theorem Dev.spi_raise (a b : Nat) : (d.raise a b).spi = d.spi := by unfold Dev.raise; simp
@[simp] theorem Dev.soot_raise (a b : Nat) : (d.raise a b).soot = d.soot := by unfold Dev.raise; simp
@[simp] theorem Dev.cap_raise (a b : Nat) : (d.raise a b).cap = d.cap := by unfold Dev.raise; simp
@[simp] theorem Dev.cal_raise (a b : Nat) : (d.raise a b).cal = d.cal := by unfold Dev.raise; simp
@[simp] theorem Dev.bist_raise (a b : Nat) : (d.raise a b).bist = d.bist := by unfold Dev.raise; simp
@[simp] theorem Dev.hearths_raise (a b : Nat) : (d.raise a b).hearths = d.hearths := by unfold Dev.raise; simp
@[simp] theorem Dev.lanes_raise (a b : Nat) : (d.raise a b).lanes = d.lanes := by unfold Dev.raise; simp
@[simp] theorem Dev.pool_raise (a b : Nat) : (d.raise a b).pool = d.pool := by unfold Dev.raise; simp
@[simp] theorem Dev.rolling_raise (a b : Nat) : (d.raise a b).rolling = d.rolling := by unfold Dev.raise; simp
@[simp] theorem Dev.ash_raise (a b : Nat) : (d.raise a b).ash = d.ash := by unfold Dev.raise; simp
@[simp] theorem Dev.chimney_raise (a b : Nat) : (d.raise a b).chimney = d.chimney := by unfold Dev.raise; simp
@[simp] theorem Dev.store_raise (a b : Nat) : (d.raise a b).store = d.store := by unfold Dev.raise; simp
@[simp] theorem Dev.fire_raise (a b : Nat) : (d.raise a b).fire = d.fire := by unfold Dev.raise; simp
@[simp] theorem Dev.flue_raise (a b : Nat) : (d.raise a b).flue = d.flue := by unfold Dev.raise; simp
@[simp] theorem Dev.ptp_raise (a b : Nat) : (d.raise a b).ptp = d.ptp := by unfold Dev.raise; simp
@[simp] theorem Dev.audio_raise (a b : Nat) : (d.raise a b).audio = d.audio := by unfold Dev.raise; simp
@[simp] theorem Dev.smoke_raise (a b : Nat) : (d.raise a b).smoke = d.smoke := by unfold Dev.raise; simp
@[simp] theorem Dev.aux_raise (a b : Nat) : (d.raise a b).aux = d.aux := by unfold Dev.raise; simp
@[simp] theorem Dev.target_raise (a b : Nat) : (d.raise a b).target = d.target := by unfold Dev.raise; simp
@[simp] theorem Dev.rst_raise (a b : Nat) : (d.raise a b).rst = d.rst := by unfold Dev.raise; simp
@[simp] theorem Dev.clk_raise (a b : Nat) : (d.raise a b).clk = d.clk := by unfold Dev.raise; simp
@[simp] theorem Dev.balls_raise (a b : Nat) : (d.raise a b).balls = d.balls := by unfold Dev.raise; simp

/-! ### The soot log's holding stage -/

theorem Dev.sootC_frame (sev source code : Nat) (det : Word) (c : Option (Word × Word × Word)) :
    d.sootC sev source code det c = { d with
      regs := (d.sootC sev source code det c).regs, soot := (d.sootC sev source code det c).soot } := by
  unfold Dev.sootC
  dsimp only
  repeat' split
  all_goals rfl

@[simp] theorem Dev.part_sootC (sev source code : Nat) (det : Word) (c : Option (Word × Word × Word)) :
    (d.sootC sev source code det c).part = d.part := by rw [Dev.sootC_frame]
@[simp] theorem Dev.now_sootC (sev source code : Nat) (det : Word) (c : Option (Word × Word × Word)) :
    (d.sootC sev source code det c).now = d.now := by rw [Dev.sootC_frame]
@[simp] theorem Dev.free_sootC (sev source code : Nat) (det : Word) (c : Option (Word × Word × Word)) :
    (d.sootC sev source code det c).free = d.free := by rw [Dev.sootC_frame]
@[simp] theorem Dev.out_sootC (sev source code : Nat) (det : Word) (c : Option (Word × Word × Word)) :
    (d.sootC sev source code det c).out = d.out := by rw [Dev.sootC_frame]
@[simp] theorem Dev.shadow_sootC (sev source code : Nat) (det : Word) (c : Option (Word × Word × Word)) :
    (d.sootC sev source code det c).shadow = d.shadow := by rw [Dev.sootC_frame]
@[simp] theorem Dev.captures_sootC (sev source code : Nat) (det : Word) (c : Option (Word × Word × Word)) :
    (d.sootC sev source code det c).captures = d.captures := by rw [Dev.sootC_frame]
@[simp] theorem Dev.commits_sootC (sev source code : Nat) (det : Word) (c : Option (Word × Word × Word)) :
    (d.sootC sev source code det c).commits = d.commits := by rw [Dev.sootC_frame]
@[simp] theorem Dev.armed_sootC (sev source code : Nat) (det : Word) (c : Option (Word × Word × Word)) :
    (d.sootC sev source code det c).armed = d.armed := by rw [Dev.sootC_frame]
@[simp] theorem Dev.evtLast_sootC (sev source code : Nat) (det : Word) (c : Option (Word × Word × Word)) :
    (d.sootC sev source code det c).evtLast = d.evtLast := by rw [Dev.sootC_frame]
@[simp] theorem Dev.latches_sootC (sev source code : Nat) (det : Word) (c : Option (Word × Word × Word)) :
    (d.sootC sev source code det c).latches = d.latches := by rw [Dev.sootC_frame]
@[simp] theorem Dev.devtime_sootC (sev source code : Nat) (det : Word) (c : Option (Word × Word × Word)) :
    (d.sootC sev source code det c).devtime = d.devtime := by rw [Dev.sootC_frame]
@[simp] theorem Dev.scount_sootC (sev source code : Nat) (det : Word) (c : Option (Word × Word × Word)) :
    (d.sootC sev source code det c).scount = d.scount := by rw [Dev.sootC_frame]
@[simp] theorem Dev.binCount_sootC (sev source code : Nat) (det : Word) (c : Option (Word × Word × Word)) :
    (d.sootC sev source code det c).binCount = d.binCount := by rw [Dev.sootC_frame]
@[simp] theorem Dev.pcie_sootC (sev source code : Nat) (det : Word) (c : Option (Word × Word × Word)) :
    (d.sootC sev source code det c).pcie = d.pcie := by rw [Dev.sootC_frame]
@[simp] theorem Dev.spi_sootC (sev source code : Nat) (det : Word) (c : Option (Word × Word × Word)) :
    (d.sootC sev source code det c).spi = d.spi := by rw [Dev.sootC_frame]
@[simp] theorem Dev.cap_sootC (sev source code : Nat) (det : Word) (c : Option (Word × Word × Word)) :
    (d.sootC sev source code det c).cap = d.cap := by rw [Dev.sootC_frame]
@[simp] theorem Dev.cal_sootC (sev source code : Nat) (det : Word) (c : Option (Word × Word × Word)) :
    (d.sootC sev source code det c).cal = d.cal := by rw [Dev.sootC_frame]
@[simp] theorem Dev.bist_sootC (sev source code : Nat) (det : Word) (c : Option (Word × Word × Word)) :
    (d.sootC sev source code det c).bist = d.bist := by rw [Dev.sootC_frame]
@[simp] theorem Dev.hearths_sootC (sev source code : Nat) (det : Word) (c : Option (Word × Word × Word)) :
    (d.sootC sev source code det c).hearths = d.hearths := by rw [Dev.sootC_frame]
@[simp] theorem Dev.lanes_sootC (sev source code : Nat) (det : Word) (c : Option (Word × Word × Word)) :
    (d.sootC sev source code det c).lanes = d.lanes := by rw [Dev.sootC_frame]
@[simp] theorem Dev.pool_sootC (sev source code : Nat) (det : Word) (c : Option (Word × Word × Word)) :
    (d.sootC sev source code det c).pool = d.pool := by rw [Dev.sootC_frame]
@[simp] theorem Dev.rolling_sootC (sev source code : Nat) (det : Word) (c : Option (Word × Word × Word)) :
    (d.sootC sev source code det c).rolling = d.rolling := by rw [Dev.sootC_frame]
@[simp] theorem Dev.ash_sootC (sev source code : Nat) (det : Word) (c : Option (Word × Word × Word)) :
    (d.sootC sev source code det c).ash = d.ash := by rw [Dev.sootC_frame]
@[simp] theorem Dev.chimney_sootC (sev source code : Nat) (det : Word) (c : Option (Word × Word × Word)) :
    (d.sootC sev source code det c).chimney = d.chimney := by rw [Dev.sootC_frame]
@[simp] theorem Dev.store_sootC (sev source code : Nat) (det : Word) (c : Option (Word × Word × Word)) :
    (d.sootC sev source code det c).store = d.store := by rw [Dev.sootC_frame]
@[simp] theorem Dev.fire_sootC (sev source code : Nat) (det : Word) (c : Option (Word × Word × Word)) :
    (d.sootC sev source code det c).fire = d.fire := by rw [Dev.sootC_frame]
@[simp] theorem Dev.flue_sootC (sev source code : Nat) (det : Word) (c : Option (Word × Word × Word)) :
    (d.sootC sev source code det c).flue = d.flue := by rw [Dev.sootC_frame]
@[simp] theorem Dev.ptp_sootC (sev source code : Nat) (det : Word) (c : Option (Word × Word × Word)) :
    (d.sootC sev source code det c).ptp = d.ptp := by rw [Dev.sootC_frame]
@[simp] theorem Dev.audio_sootC (sev source code : Nat) (det : Word) (c : Option (Word × Word × Word)) :
    (d.sootC sev source code det c).audio = d.audio := by rw [Dev.sootC_frame]
@[simp] theorem Dev.smoke_sootC (sev source code : Nat) (det : Word) (c : Option (Word × Word × Word)) :
    (d.sootC sev source code det c).smoke = d.smoke := by rw [Dev.sootC_frame]
@[simp] theorem Dev.aux_sootC (sev source code : Nat) (det : Word) (c : Option (Word × Word × Word)) :
    (d.sootC sev source code det c).aux = d.aux := by rw [Dev.sootC_frame]
@[simp] theorem Dev.target_sootC (sev source code : Nat) (det : Word) (c : Option (Word × Word × Word)) :
    (d.sootC sev source code det c).target = d.target := by rw [Dev.sootC_frame]
@[simp] theorem Dev.rst_sootC (sev source code : Nat) (det : Word) (c : Option (Word × Word × Word)) :
    (d.sootC sev source code det c).rst = d.rst := by rw [Dev.sootC_frame]
@[simp] theorem Dev.clk_sootC (sev source code : Nat) (det : Word) (c : Option (Word × Word × Word)) :
    (d.sootC sev source code det c).clk = d.clk := by rw [Dev.sootC_frame]
@[simp] theorem Dev.balls_sootC (sev source code : Nat) (det : Word) (c : Option (Word × Word × Word)) :
    (d.sootC sev source code det c).balls = d.balls := by rw [Dev.sootC_frame]
@[simp] theorem Dev.part_sootE (sev source code det : Nat) : (d.sootE sev source code det).part = d.part := by unfold Dev.sootE; simp
@[simp] theorem Dev.now_sootE (sev source code det : Nat) : (d.sootE sev source code det).now = d.now := by unfold Dev.sootE; simp
@[simp] theorem Dev.free_sootE (sev source code det : Nat) : (d.sootE sev source code det).free = d.free := by unfold Dev.sootE; simp
@[simp] theorem Dev.out_sootE (sev source code det : Nat) : (d.sootE sev source code det).out = d.out := by unfold Dev.sootE; simp
@[simp] theorem Dev.shadow_sootE (sev source code det : Nat) : (d.sootE sev source code det).shadow = d.shadow := by unfold Dev.sootE; simp
@[simp] theorem Dev.captures_sootE (sev source code det : Nat) : (d.sootE sev source code det).captures = d.captures := by unfold Dev.sootE; simp
@[simp] theorem Dev.commits_sootE (sev source code det : Nat) : (d.sootE sev source code det).commits = d.commits := by unfold Dev.sootE; simp
@[simp] theorem Dev.armed_sootE (sev source code det : Nat) : (d.sootE sev source code det).armed = d.armed := by unfold Dev.sootE; simp
@[simp] theorem Dev.evtLast_sootE (sev source code det : Nat) : (d.sootE sev source code det).evtLast = d.evtLast := by unfold Dev.sootE; simp
@[simp] theorem Dev.latches_sootE (sev source code det : Nat) : (d.sootE sev source code det).latches = d.latches := by unfold Dev.sootE; simp
@[simp] theorem Dev.devtime_sootE (sev source code det : Nat) : (d.sootE sev source code det).devtime = d.devtime := by unfold Dev.sootE; simp
@[simp] theorem Dev.scount_sootE (sev source code det : Nat) : (d.sootE sev source code det).scount = d.scount := by unfold Dev.sootE; simp
@[simp] theorem Dev.binCount_sootE (sev source code det : Nat) : (d.sootE sev source code det).binCount = d.binCount := by unfold Dev.sootE; simp
@[simp] theorem Dev.pcie_sootE (sev source code det : Nat) : (d.sootE sev source code det).pcie = d.pcie := by unfold Dev.sootE; simp
@[simp] theorem Dev.spi_sootE (sev source code det : Nat) : (d.sootE sev source code det).spi = d.spi := by unfold Dev.sootE; simp
@[simp] theorem Dev.cap_sootE (sev source code det : Nat) : (d.sootE sev source code det).cap = d.cap := by unfold Dev.sootE; simp
@[simp] theorem Dev.cal_sootE (sev source code det : Nat) : (d.sootE sev source code det).cal = d.cal := by unfold Dev.sootE; simp
@[simp] theorem Dev.bist_sootE (sev source code det : Nat) : (d.sootE sev source code det).bist = d.bist := by unfold Dev.sootE; simp
@[simp] theorem Dev.hearths_sootE (sev source code det : Nat) : (d.sootE sev source code det).hearths = d.hearths := by unfold Dev.sootE; simp
@[simp] theorem Dev.lanes_sootE (sev source code det : Nat) : (d.sootE sev source code det).lanes = d.lanes := by unfold Dev.sootE; simp
@[simp] theorem Dev.pool_sootE (sev source code det : Nat) : (d.sootE sev source code det).pool = d.pool := by unfold Dev.sootE; simp
@[simp] theorem Dev.rolling_sootE (sev source code det : Nat) : (d.sootE sev source code det).rolling = d.rolling := by unfold Dev.sootE; simp
@[simp] theorem Dev.ash_sootE (sev source code det : Nat) : (d.sootE sev source code det).ash = d.ash := by unfold Dev.sootE; simp
@[simp] theorem Dev.chimney_sootE (sev source code det : Nat) : (d.sootE sev source code det).chimney = d.chimney := by unfold Dev.sootE; simp
@[simp] theorem Dev.store_sootE (sev source code det : Nat) : (d.sootE sev source code det).store = d.store := by unfold Dev.sootE; simp
@[simp] theorem Dev.fire_sootE (sev source code det : Nat) : (d.sootE sev source code det).fire = d.fire := by unfold Dev.sootE; simp
@[simp] theorem Dev.flue_sootE (sev source code det : Nat) : (d.sootE sev source code det).flue = d.flue := by unfold Dev.sootE; simp
@[simp] theorem Dev.ptp_sootE (sev source code det : Nat) : (d.sootE sev source code det).ptp = d.ptp := by unfold Dev.sootE; simp
@[simp] theorem Dev.audio_sootE (sev source code det : Nat) : (d.sootE sev source code det).audio = d.audio := by unfold Dev.sootE; simp
@[simp] theorem Dev.smoke_sootE (sev source code det : Nat) : (d.sootE sev source code det).smoke = d.smoke := by unfold Dev.sootE; simp
@[simp] theorem Dev.aux_sootE (sev source code det : Nat) : (d.sootE sev source code det).aux = d.aux := by unfold Dev.sootE; simp
@[simp] theorem Dev.target_sootE (sev source code det : Nat) : (d.sootE sev source code det).target = d.target := by unfold Dev.sootE; simp
@[simp] theorem Dev.rst_sootE (sev source code det : Nat) : (d.sootE sev source code det).rst = d.rst := by unfold Dev.sootE; simp
@[simp] theorem Dev.clk_sootE (sev source code det : Nat) : (d.sootE sev source code det).clk = d.clk := by unfold Dev.sootE; simp
@[simp] theorem Dev.balls_sootE (sev source code det : Nat) : (d.sootE sev source code det).balls = d.balls := by unfold Dev.sootE; simp

/-! ### Reading the map after an update -/

theorem Dev.rd_eq_of_regs {d t : Dev} (h : t.regs = d.regs) (a : Nat) : t.rd a = d.rd a := by unfold Dev.rd; rw [h]

theorem Dev.rd_wr (a b : Nat) (w : Word) : (d.wr a w).rd b = if b = a then w else d.rd b := by
  unfold Dev.rd Dev.wr
  by_cases h : b = a
  · subst h; simp
  · simp [SMap.get, SMap.find_put_other _ _ _ h, h]

@[simp] theorem Dev.rd_wr_same (a : Nat) (w : Word) : (d.wr a w).rd a = w := by simp [Dev.rd_wr]

@[simp] theorem Dev.rd_wr_other {a b : Nat} (w : Word) (h : b ≠ a) : (d.wr a w).rd b = d.rd b := by simp [Dev.rd_wr, h]

theorem Dev.rd_set (f : Fld) (v b : Nat) :
    (d.set f v).rd b = if b = f.addr then putBits (d.rd f.addr) f.hi f.lo v else d.rd b := by
  unfold Dev.set; rw [Dev.rd_wr]

@[simp] theorem Dev.rd_set_other {f : Fld} (v : Nat) {b : Nat} (h : b ≠ f.addr) : (d.set f v).rd b = d.rd b := by
  simp [Dev.rd_set, h]

@[simp] theorem Dev.rd_shWr (a b : Nat) (w : Word) : (d.shWr a w).rd b = d.rd b := rfl
@[simp] theorem Dev.rd_emit (x : Out) (b : Nat) : (d.emit x).rd b = d.rd b := rfl
@[simp] theorem Dev.rd_setHearth (h : Nat) (x : Hearth) (b : Nat) : (d.setHearth h x).rd b = d.rd b := rfl
@[simp] theorem Dev.rd_setLane (n : Nat) (x : Lane) (b : Nat) : (d.setLane n x).rd b = d.rd b := rfl
@[simp] theorem Dev.rd_updHearth (h : Nat) (f : Hearth → Hearth) (b : Nat) : (d.updHearth h f).rd b = d.rd b := rfl
@[simp] theorem Dev.rd_updLane (n : Nat) (f : Lane → Lane) (b : Nat) : (d.updLane n f).rd b = d.rd b := rfl
@[simp] theorem Dev.rd_notify (v b : Nat) : (d.notify v).rd b = d.rd b := Dev.rd_eq_of_regs (by simp) b

theorem Dev.rd_raiseUnit_other {a b : Nat} (u : Nat) (bs : List Nat) (h : b ≠ a) : (d.raiseUnit a u bs).rd b = d.rd b := by
  have key : ∀ (e : SMap Nat) (w : Word), (({ d with evtLast := e } : Dev).wr a w).rd b = d.rd b := by
    intro e w; rw [Dev.rd_wr_other _ _ h]; rfl
  unfold Dev.raiseUnit
  dsimp only
  split
  · rfl
  · split
    · rw [Dev.rd_notify]; exact key _ _
    · exact key _ _

@[simp] theorem Dev.rd_raise_other {a b : Nat} (c : Nat) (h : b ≠ a) : (d.raise a c).rd b = d.rd b :=
  Dev.rd_raiseUnit_other d 0 [c] h

/-- A read of the map is a read of the ring's third words or of SOOT_STAT where the holding stage can change it. -/
theorem Dev.rd_sootC {b : Nat} (sev source code : Nat) (det : Word) (c : Option (Word × Word × Word))
    (h1 : b ≠ Reg.SOOT_STAT) (h2 : ∀ n, b ≠ Reg.SOOT_RING n 2) : (d.sootC sev source code det c).rd b = d.rd b := by
  unfold Dev.sootC
  dsimp only
  repeat' split
  all_goals first
    | rfl
    | exact Dev.rd_wr_other _ _ (h2 _)
    | exact Dev.rd_set_other _ _ h1

theorem Dev.rd_sootE {b : Nat} (sev source code det : Nat)
    (h1 : b ≠ Reg.SOOT_STAT) (h2 : ∀ n, b ≠ Reg.SOOT_RING n 2) : (d.sootE sev source code det).rd b = d.rd b :=
  Dev.rd_sootC d sev source code _ none h1 h2

/-! ### Fields of a register -/

theorem getLsbD_maskOf (hi lo i : Nat) (h : hi ≤ 31) (hl : lo ≤ hi) : (maskOf hi lo).getLsbD i = (decide (lo ≤ i) && decide (i ≤ hi)) := by
  unfold maskOf
  simp only [BitVec.getLsbD_shiftLeft, BitVec.getLsbD_ofNat, Nat.testBit_two_pow_sub_one]
  rw [Bool.eq_iff_iff]; simp; omega
/-- A field that was put reads back, in its width. -/
theorem getBits_putBits (w : Word) (hi lo v : Nat) (h : hi ≤ 31) (hl : lo ≤ hi) :
    getBits (putBits w hi lo v) hi lo = v % 2 ^ (hi + 1 - lo) := by
  have : (putBits w hi lo v).extractLsb' lo (hi + 1 - lo) = BitVec.ofNat (hi + 1 - lo) v := by
    apply BitVec.eq_of_getLsbD_eq
    intro i hi'
    have h1 : lo + i ≤ hi := by omega
    have h2 : lo + i < 32 := by omega
    simp only [putBits, BitVec.getLsbD_extractLsb', BitVec.getLsbD_or, BitVec.getLsbD_and, BitVec.getLsbD_not, getLsbD_maskOf _ _ _ h hl,
      BitVec.getLsbD_shiftLeft, BitVec.getLsbD_ofNat]
    simp [h1, h2, hi', show i < 32 by omega]
  unfold getBits; rw [this]; simp

/-- A field apart from the one that was put reads as before. -/
theorem getBits_putBits_other (w : Word) (hi lo hi' lo' v : Nat) (h : hi ≤ 31) (hl : lo ≤ hi) (hd : hi' < lo ∨ hi < lo') :
    getBits (putBits w hi lo v) hi' lo' = getBits w hi' lo' := by
  unfold getBits
  congr 1
  ext i hi2
  simp only [putBits, BitVec.getElem_extractLsb', BitVec.getLsbD_or, BitVec.getLsbD_and, BitVec.getLsbD_not, getLsbD_maskOf _ _ _ h hl]
  have h1 : (decide (lo ≤ lo' + i) && decide (lo' + i ≤ hi)) = false := by simp; omega
  rw [h1]
  by_cases hlt : lo' + i < 32
  · simp [hlt]
  · simp [hlt]; exact BitVec.getLsbD_of_ge _ _ (by omega)


/-- A field that was set reads back, in its width. -/
theorem Dev.get_set_same {f : Fld} (v : Nat) (h : f.hi ≤ 31) (hl : f.lo ≤ f.hi) : (d.set f v).get f = v % 2 ^ (f.hi + 1 - f.lo) := by
  unfold Dev.get Dev.set
  rw [Dev.rd_wr_same, getBits_putBits _ _ _ _ h hl]
theorem Dev.get_set_other {f g : Fld} (v : Nat) (h : g.addr ≠ f.addr) : (d.set f v).get g = d.get g := by
  unfold Dev.get; rw [Dev.rd_set_other _ _ h]

/-- A field apart from the one that was set reads as before, in the same register or another. -/
theorem Dev.get_set_apart {f g : Fld} (v : Nat) (h : f.hi ≤ 31) (hl : f.lo ≤ f.hi) (hd : g.hi < f.lo ∨ f.hi < g.lo) :
    (d.set f v).get g = d.get g := by
  by_cases he : g.addr = f.addr
  · unfold Dev.get Dev.set
    rw [he, Dev.rd_wr_same, getBits_putBits_other _ _ _ _ _ _ h hl hd]
  · exact Dev.get_set_other d v he

theorem Dev.get_wr_other {f : Fld} {a : Nat} (w : Word) (h : f.addr ≠ a) : (d.wr a w).get f = d.get f := by
  unfold Dev.get; rw [Dev.rd_wr_other _ _ h]
theorem Dev.get_raise_other {f : Fld} {a : Nat} (b : Nat) (h : f.addr ≠ a) : (d.raise a b).get f = d.get f := by
  unfold Dev.get; rw [Dev.rd_raise_other _ _ h]

/-! ### Hearths and lanes -/

theorem Dev.hearth_setHearth (h k : Nat) (x : Hearth) : (d.setHearth h x).hearth k = if k = h then x else d.hearth k := by
  unfold Dev.hearth Dev.setHearth; exact SMap.get_put _ _ _ _ _

@[simp] theorem Dev.hearth_setHearth_same (h : Nat) (x : Hearth) : (d.setHearth h x).hearth h = x := by
  simp [Dev.hearth_setHearth]

@[simp] theorem Dev.setHearth_setHearth (h : Nat) (x y : Hearth) : (d.setHearth h x).setHearth h y = d.setHearth h y := by
  simp [Dev.setHearth]

@[simp] theorem Dev.setLane_setLane (n : Nat) (x y : Lane) : (d.setLane n x).setLane n y = d.setLane n y := by
  simp [Dev.setLane]

theorem Dev.lane_setLane (n k : Nat) (x : Lane) : (d.setLane n x).lane k = if k = n then x else d.lane k := by
  unfold Dev.lane Dev.setLane; exact SMap.get_put _ _ _ _ _

@[simp] theorem Dev.lane_setLane_same (n : Nat) (x : Lane) : (d.setLane n x).lane n = x := by simp [Dev.lane_setLane]

@[simp] theorem Dev.hearth_updHearth_same (h : Nat) (f : Hearth → Hearth) : (d.updHearth h f).hearth h = f (d.hearth h) := by
  simp [Dev.updHearth]

@[simp] theorem Dev.lane_updLane_same (n : Nat) (f : Lane → Lane) : (d.updLane n f).lane n = f (d.lane n) := by
  simp [Dev.updLane]

end Sys2Proof.Machine
end

