-- ==== Sys2Proof/Laws/Stoker.lean ====
section
/-! SUPPORT. What an instruction of a stoker does once it issues: the register file of a thread, and the issue of an instruction
that only changes its thread. -/

namespace Sys2Proof.Machine

@[simp] theorem Thread.reg_setReg (t : Thread) (r q : BitVec 4) (w : Word) :
    (t.setReg r w).reg q = if q = r then w else t.reg q := by
  unfold Thread.reg Thread.setReg
  rw [SMap.get_put]
  by_cases h : q = r
  · subst h; simp
  · have : q.toNat ≠ r.toNat := fun e => h (BitVec.eq_of_toNat_eq e)
    simp [h, this]

@[simp] theorem Hearth.thr_setThr (x : Hearth) (t : Thread) : (x.setThr t).thr = t := by
  unfold Hearth.thr Hearth.setThr
  by_cases h : x.urgOn <;> simp [h]

@[simp] theorem Hearth.thr_lastRetire (x : Hearth) (n : Nat) : ({ x with lastRetire := n } : Hearth).thr = x.thr := rfl

/-- An instruction that is ready and legal issues: its meaning runs on the device with the retirement noted. -/
theorem Dev.issue_ready {d : Dev} {i : Issue} {y : Yil} (f : Dev → Dev) (h : Ready d i y = true) (hl : y.legal = true) :
    d.issue i y f = f (d.setHearth i.hearth { d.hearth i.hearth with lastRetire := d.now }) := by
  simp only [Ready, Bool.and_eq_true, beq_iff_eq] at h
  obtain ⟨⟨⟨h1, h2⟩, h3⟩, h4⟩ := h
  simp [Dev.issue, Dev.eccThen, h1, h2, h3, h4, hl, Dev.updHearth]

/-- An instruction that is ready and legal issues: its thread changes as it says and passes it, and the time of the retirement is
kept. -/
theorem Dev.alu_ready {d : Dev} {i : Issue} {y : Yil} (f : Thread → Thread) (h : Ready d i y = true) (hl : y.legal = true) :
    d.alu i y f = d.retire i.hearth (f (d.hearth i.hearth).thr).next := by
  simp only [Ready, Bool.and_eq_true, beq_iff_eq] at h
  obtain ⟨⟨⟨h1, h2⟩, h3⟩, h4⟩ := h
  simp [Dev.retire, Dev.alu, Dev.issue, Dev.eccThen, h1, h2, h3, h4, hl, Dev.thr, Dev.updHearth]

/-- A command whose meaning only changes a thread retires when it is ready and legal. -/
theorem Retires.of_alu {c : Instr} {s : State} {i : Issue} {y : Yil} {f : Thread → Thread} {P : Thread → Thread → Prop}
    (hx : exec c s = s.onDev (fun d => d.alu i y f)) (hl : y.legal = true) (h : Ready s.dev i y = true)
    (hp : P (s.dev.hearth i.hearth).thr (f (s.dev.hearth i.hearth).thr).next) : Retires c s i.hearth P :=
  ⟨_, by rw [hx, State.onDev, Dev.alu_ready f h hl], hp⟩

/-- A command whose meaning is an issue completes when it is ready and legal. -/
theorem exec_of_issue {c : Instr} {s : State} {i : Issue} {y : Yil} {f : Dev → Dev}
    (hx : exec c s = s.onDev (fun d => d.issue i y f)) (hl : y.legal = true) (h : Ready s.dev i y = true) :
    let d := s.dev.setHearth i.hearth { s.dev.hearth i.hearth with lastRetire := s.dev.now }
    exec c s = .next { s with dev := f d } := by
  intro d
  rw [hx, State.onDev, Dev.issue_ready f h hl]

/-- An access inside data memory and aligned goes on. -/
theorem Dev.dmem_inside {d : Dev} {h : Nat} {a : Word} {len align : Nat} (f : Dev → Dev) (h1 : a.toNat % align = 0)
    (h2 : a.toNat + len ≤ 0x8000) (h3 : 0 < len) : d.dmem h a len align f = f d := by
  have : dmemCheck a len align = none := by
    unfold dmemCheck
    rw [if_neg (by omega), if_neg (by omega), if_neg (by omega)]
  simp [Dev.dmem, this]

/-- A thread's change is a change of its hearth's record. -/
theorem Dev.thr_eq (d : Dev) (h : Nat) (f : Thread → Thread) :
    d.thr h f = d.setHearth h ((d.hearth h).setThr (f (d.hearth h).thr).next) := rfl

/-- A store's bytes: its own take the low bytes of the word, every other byte reads as before. -/
theorem MemOp.read_store (op : MemOp) (m : Memory) (a k n : Nat) (w : Word)
    (h : op = .stw ∧ n = 4 ∨ op = .sth ∧ n = 2 ∨ op = .stb ∧ n = 1) :
    (op.store m a w).read k = if a ≤ k ∧ k < a + n then (w >>> (8 * (k - a))).setWidth 8 else m.read k := by
  have e : ∀ j, w.extractLsb' (8 * j) 8 = (w >>> (8 * j)).setWidth 8 := by
    intro j; ext i hi; simp
  rcases h with ⟨rfl, rfl⟩ | ⟨rfl, rfl⟩ | ⟨rfl, rfl⟩
  · simp only [MemOp.store, Memory.writeWord, Memory.read_writeList]
    by_cases hk : a ≤ k ∧ k < a + 4
    · have : k - a = 0 ∨ k - a = 1 ∨ k - a = 2 ∨ k - a = 3 := by omega
      rw [dif_pos ⟨hk.1, by simp; omega⟩, if_pos hk]
      rcases this with h | h | h | h <;> simp only [h]
      · exact e 0
      · exact e 1
      · exact e 2
      · exact e 3
    · rw [dif_neg (by simp; omega), if_neg hk]
  · simp only [MemOp.store, Memory.read_writeList]
    by_cases hk : a ≤ k ∧ k < a + 2
    · have : k - a = 0 ∨ k - a = 1 := by omega
      rw [dif_pos ⟨hk.1, by simp; omega⟩, if_pos hk]
      rcases this with h | h <;> simp [h, byteOf]
    · rw [dif_neg (by simp; omega), if_neg hk]
  · simp only [MemOp.store, Memory.read_write]
    by_cases hk : k = a
    · subst hk; simp [byteOf]
    · rw [if_neg hk, if_neg (by omega)]

theorem MemOp.wf_store (op : MemOp) {m : Memory} (a : Nat) (w : Word) (h : m.wf = true) : (op.store m a w).wf = true := by
  cases op <;> first | exact Memory.wf_writeList _ _ h | exact Memory.wf_write _ _ h

end Sys2Proof.Machine
end

