-- ==== Sys2Proof/Tests/Slice0.lean ====
section
/-! SUPPORT. Tests of the model: an ill-formed term refused for each check of WellFormed, the words of the spec's worked example and other values it
states, and for every statement a witness: a concrete state and operands that meet the hypotheses of its clauses. -/

set_option Elab.async false

namespace Sys2Proof.Tests

open Sys2Proof Sys2Proof.Machine

/-! ## Well-formedness: the check refuses a term outside each range -/

/-- What surrounds a write that nothing disturbs. -/
def x0 : WriteCtx := ⟨.intact, true, true, true, 0⟩

/-- A converter frame of mid-scale samples. -/
def frame0 : List (BitVec 12) := List.replicate 64 0

theorem test_wf_lane : Instr.wf (.unbind 95 0) = true ∧ Instr.wf (.unbind 96 0) = false := by decide
theorem test_wf_byte : Instr.wf (.unbind 0 255) = true ∧ Instr.wf (.unbind 0 256) = false := by decide
theorem test_wf_hearth : Instr.wf (.retireTimeout [103]) = true ∧ Instr.wf (.retireTimeout [104]) = false := by decide
theorem test_wf_issue : Instr.wf (.nop ⟨103, 0, .clean⟩) = true ∧ Instr.wf (.nop ⟨104, 0, .clean⟩) = false := by decide
theorem test_wf_half : Instr.wf (.commit 0 65535) = true ∧ Instr.wf (.commit 0 65536) = false := by decide
theorem test_wf_core : Instr.wf (.adcFrame 2 frame0 false) = true ∧ Instr.wf (.adcFrame 3 frame0 false) = false := by decide
theorem test_wf_frame : Instr.wf (.adcFrame 0 [0] false) = false := by decide
theorem test_wf_two : Instr.wf (.blankAssert 1) = true ∧ Instr.wf (.blankAssert 2) = false := by decide
theorem test_wf_bit : Instr.wf (.auxBusError 0 0 8 0) = true ∧ Instr.wf (.auxBusError 0 0 9 0) = false := by decide
theorem test_wf_bus : Instr.wf (.auxAbort 2) = true ∧ Instr.wf (.auxAbort 3) = false := by decide
theorem test_wf_slave : Instr.wf (.auxTargetAddress 127 true) = true ∧ Instr.wf (.auxTargetAddress 128 true) = false := by decide
theorem test_wf_flue : Instr.wf (.damperMaxqExpiry 2 0) = true ∧ Instr.wf (.damperMaxqExpiry 3 0) = false := by decide
theorem test_wf_stream : Instr.wf (.tsFlushTimeout 0 127) = true ∧ Instr.wf (.tsFlushTimeout 0 128) = false := by decide
theorem test_wf_sfp : Instr.wf (.sfpTxfault 1) = true ∧ Instr.wf (.sfpTxfault 2) = false := by decide
theorem test_wf_audio : Instr.wf (.audioClockStop 7) = true ∧ Instr.wf (.audioClockStop 8) = false := by decide
theorem test_wf_oven : Instr.wf (.ovenOverrunTimeout 23) = true ∧ Instr.wf (.ovenOverrunTimeout 24) = false := by decide
theorem test_wf_ovenTicket : Instr.wf (.ovenDeadlineLate 0 3) = true ∧ Instr.wf (.ovenDeadlineLate 0 4) = false := by decide
theorem test_wf_ashTicket : Instr.wf (.ashpitRequestDone 0 7 .clean {} false) = true ∧ Instr.wf (.ashpitRequestDone 0 8 .clean {} false) = false := by decide
theorem test_wf_unit : Instr.wf (.hobCommandTimeout 0 8) = true ∧ Instr.wf (.hobCommandTimeout 0 9) = false := by decide
theorem test_wf_testUnit : Instr.wf (.rollingTestDone 151 true) = true ∧ Instr.wf (.rollingTestDone 127 true) = false := by decide
theorem test_wf_trip : Instr.wf (.lrbmatchEval 3) = true ∧ Instr.wf (.lrbmatchEval 4) = false := by decide
theorem test_wf_entry : Instr.wf (.alertEntryExpire 31) = true ∧ Instr.wf (.alertEntryExpire 32) = false := by decide
theorem test_wf_chimney : Instr.wf (.hotportWindow 13 0 none) = true ∧ Instr.wf (.hotportWindow 14 0 none) = false := by decide
theorem test_wf_calBlock : Instr.wf (.calApplyStep 3) = true ∧ Instr.wf (.calApplyStep 4) = false := by decide
theorem test_wf_density : Instr.wf (.initDone 3 0 true) = true ∧ Instr.wf (.initDone 4 0 true) = false := by decide
theorem test_wf_block : Instr.wf (.blockRelease 16) = true ∧ Instr.wf (.blockRelease 17) = false := by decide
theorem test_wf_otp : Instr.wf (.otpProgram 63) = true ∧ Instr.wf (.otpProgram 64) = false := by decide
theorem test_wf_vector : Instr.wf (.imodHoldExpiry 31) = true ∧ Instr.wf (.imodHoldExpiry 32) = false := by decide
theorem test_wf_page : Instr.wf (.pageApply 0x3FF000 .intact) = true ∧ Instr.wf (.pageApply 0x3FF004 .intact) = false := by decide
theorem test_wf_offset : Instr.wf (.registerWrite .bar0 0x3FFFFFC 0 15 x0) = true ∧ Instr.wf (.registerWrite .bar0 2 0 15 x0) = false := by decide
theorem test_wf_writer : Instr.wf (.sysTimeLoRead ⟨.mantel, 0⟩) = true ∧ Instr.wf (.sysTimeLoRead ⟨.stoker 0, 0⟩) = false := by decide
theorem test_wf_alias : Instr.wf (.bitAliasWrite .bar0 0x27FFFFC 0 x0) = true ∧ Instr.wf (.bitAliasWrite .bar0 0x2800000 0 x0) = false := by decide
theorem test_wf_store : Instr.wf (.programStoreWrite 0x1FFFFC 0 15) = true ∧ Instr.wf (.programStoreWrite 0x200000 0 15) = false := by decide
theorem test_wf_mailbox : Instr.wf (.hostMailboxWrite 0 0x5FC 0) = true ∧ Instr.wf (.hostMailboxWrite 0 0x3FC 0) = false := by decide
theorem test_wf_aperture : Instr.wf (.apertureAccess .bar0 false 0xFFFFFF 1 [] .clean) = true ∧ Instr.wf (.apertureAccess .bar0 false 0x1000000 1 [] .clean) = false := by decide
theorem test_wf_msix : Instr.wf (.msixControlWrite (.table 127 0)) = true ∧ Instr.wf (.msixControlWrite (.table 128 0)) = false := by decide
theorem test_wf_message : Instr.wf (.chimneyMessage 13 true (some ⟨13, 0, 0, none⟩) .reply 2 [] true) = true ∧
    Instr.wf (.chimneyMessage 0 true (some ⟨14, 0, 0, none⟩) .reply 0 [] true) = false ∧
    Instr.wf (.chimneyMessage 0 true (some ⟨0, 0, 0, none⟩) .reply 3 [] true) = false := by decide
theorem test_wf_bar : Instr.wf (.msixControlWrite (.bar 5 0)) = true ∧ Instr.wf (.msixControlWrite (.bar 6 0)) = false := by decide

/-! ## A device whose kindling is over -/

/-- As after a power-on reset, with every block released (R475). -/
def dev0 : Dev := { Dev.por with rst := { steps := [] } }

/-! ## Witnesses: the stoker -/

/-- Hearth 0 with a program of one word, and a record beside it. -/
def ins (w : Word) (x : Hearth) : Dev := dev0.setHearth 0 { x with running := true, imem := Memory.writeList [] 0 (wordBytes w) }

def i0 : Issue := ⟨0, 0, .clean⟩

/-- MAIN with registers. -/
def thr (w : SMap Word) : Hearth := { main := { w := w } }

def at0 (y : Yil) (x : Hearth) : Dev := ins (y.encode 0) x

/-- The instruction stands at the pc of hearth 0 and may run. -/
def rdy (y : Yil) (x : Hearth) : Bool := Ready (at0 y x) i0 y

/-- Hearth 0 serves lane 0, which is bound to it. -/
def laned (d : Dev) : Dev := (d.set (Reg.HST_STAT_LANEV 0) 1).set (Reg.LANE_BIND_HVALID 0) 1

theorem witness_AddSubCmpResultAndFlags :
    rdy (.alu .add 1 2 (.reg 3)) {} = true ∧ rdy (.alu .sub 1 2 (.imm 0xFFFF)) {} = true ∧ rdy (.cmp 2 (.imm 0x8000)) {} = true := by decide
theorem witness_LogicAndMoveSetNegativeAndZero :
    rdy (.alu .and 1 2 (.imm 0xFFFF)) {} = true ∧ rdy (.alu .or 1 2 (.reg 3)) {} = true ∧ rdy (.alu .xor 1 2 (.reg 3)) {} = true ∧
    rdy (.reg .mul 1 2 3) {} = true ∧ rdy (.reg .min 1 2 3) {} = true ∧ rdy (.reg .max 1 2 3) {} = true ∧ rdy (.clz 1 2) {} = true ∧
    rdy (.movi 15 0xFFFF) {} = true ∧ rdy (.movhi 0 0x8000) {} = true := by decide
theorem witness_ShiftsResultAndCarry :
    rdy (.shift .shl 1 2 (.imm 31)) {} = true ∧ rdy (.shift .shr 1 2 (.imm 0)) {} = true ∧ rdy (.shift .sar 1 2 (.reg 3)) {} = true := by decide
theorem witness_PsetWritesOnePredicate :
    rdy (.pset 3 0 14 0) {} = true ∧ rdy (.pset 1 2 0 1) {} = true ∧ rdy (.pset 1 3 0 2) {} = true ∧ rdy (.pset 1 1 15 3) {} = true := by decide
theorem witness_MacAccumulatesModulo40Bits :
    rdy (.mac 0 1 2 3) {} = true ∧ rdy (.mac 1 0 2 3) {} = true ∧ rdy (.mac 2 0 2 3) {} = true ∧ rdy (.mac 3 0 2 3) {} = true ∧
    rdy (.mac 4 0 2 3) {} = true ∧ rdy (.mac 5 1 2 3) {} = true ∧ rdy (.mac 6 1 0 0) {} = true ∧ rdy (.mac 7 0 2 0) {} = true := by decide
theorem witness_SatSaturatesAccumulator :
    rdy (.sat 1 0 0 0) {} = true ∧ rdy (.sat 1 1 31 1) {} = true ∧ rdy (.sat 1 0 3 2) {} = true ∧ rdy (.sat 1 0 3 3) {} = true := by decide
theorem witness_LoadsReadLittleEndian :
    rdy (.mem .ldw 1 2 0x7FFC) {} = true ∧ rdy (.mem .ldh 1 2 0x7FFE) {} = true ∧ rdy (.mem .ldb 1 2 0x7FFF) {} = true ∧
    (({} : Hearth).thr.addr 2 0x7FFC).toNat = 0x7FFC := by decide
theorem witness_StoresWriteOnlyTheirBytes :
    rdy (.mem .stw 1 2 0) (thr [(2, 0x7FFC)]) = true ∧ rdy (.mem .sth 1 2 0) (thr [(2, 0x7FFE)]) = true ∧ rdy (.mem .stb 1 2 0) (thr [(2, 0x7FFF)]) = true ∧
    ((thr [(2, 0x7FFC)]).thr.addr 2 0).toNat = 0x7FFC := by decide
theorem witness_BcpyCopiesBetweenBanks :
    rdy (.bcpy 1 2 15) (thr [(1, 0x1FC0), (2, 0x7FC0)]) = true ∧ ((thr [(1, 0x1FC0), (2, 0x7FC0)]).thr.reg 1).toNat = 0x1FC0 ∧
    (0x1FC0 + 64 - 1) / 0x2000 = 0x1FC0 / 0x2000 ∧ (0x7FC0 + 64 - 1) / 0x2000 = 0x7FC0 / 0x2000 := by decide
theorem witness_BranchesSetThePc :
    rdy (.br 0xFFF) {} = true ∧ rdy (.bcc 15 1) {} = true ∧ ({} : Hearth).thr.cond 15 = true ∧ rdy (.bcc 0 0xFFFFF) {} = true ∧
    ({} : Hearth).thr.cond 0 = false ∧ rdy (.call 0) {} = true ∧ rdy (.ret 1) (thr [(1, 0x3FFF)]) = true ∧
    rdy (.loop 1 0xFFFFF) (thr [(1, 1)]) = true ∧ rdy (.loop 1 1) {} = true ∧ rdy .nop {} = true := by decide
theorem witness_HaltAndUretEndThreads :
    Ready (laned (at0 .halt {})) i0 .halt = true ∧ (laned (at0 .halt {})).laneOf 0 = some 0 ∧ 0 < (at0 .halt {}).part.hearths ∧
    rdy .uret { urgOn := true } = true ∧ rdy .uret { urgOn := true, umbox := [1] } = true := by decide
theorem witness_FalsePredicateChangesNothing :
    AtPc (ins ((Yil.movi 1 2).encode 3) {}) ⟨0, 3, .clean⟩ (.movi 1 2) = true ∧ (({} : Hearth).thr.pred 3) = false ∧
    AtPc (ins ((Yil.sysrd 1 2 0).encode 3) (thr [(2, 0xFF2024)])) ⟨0, 3, .clean⟩ (.sysrd 1 2 0) = true ∧
    ((thr [(2, 0xFF2024)]).thr.addr 2 0).toNat = 0xFF2024 ∧ ((thr [(2, 0xFF2000)]).thr.addr 2 0).toNat = 0xFF2000 := by decide
theorem witness_IllegalFieldTraps :
    rdy (.sat 1 0 0 4) {} = true ∧ (Yil.sat 1 0 0 4).legal = false ∧ rdy (.hwait 9) {} = true ∧ (Yil.hwait 9).legal = false ∧
    yilOf (.hwait i0 9) = some (i0, .hwait 9) := by decide
theorem witness_FetchErrorFailsTheHearth :
    AtPc (at0 .nop {}) ⟨0, 0, .double⟩ .nop = true ∧ yilOf (.nop ⟨0, 0, .double⟩) = some (⟨0, 0, .double⟩, .nop) := by decide
theorem witness_IllegalWordTraps :
    (ins 0 {}).canIssue 0 = true ∧ ((ins 0 {}).hearth 0).fetchWord = 0 ∧ Yil.decode 0 = none ∧ Yil.decode 0xB4000001 = none ∧
    ((ins 0x03000000 {}).hearth 0).thr.pred 3 = false ∧ Yil.decode 0x03000000 = none := by decide
theorem witness_ExceptionStopsTheLane :
    (laned (at0 .nop {})).laneOf 0 = some 0 ∧ 0 < (laned (at0 .nop {})).part.hearths ∧ (laned (at0 .nop {})).soot.stage.length ≤ 14 := by decide
theorem witness_WaitInUrgentTraps :
    rdy (.hwait 8) { urgOn := true } = true ∧ rdy (.tick 1 2) { urgOn := true } = true ∧ rdy (.flput 1) { urgOn := true } = true ∧
    rdy (.oawait 1 2) { urgOn := true } = true ∧ rdy (.aawait 1 2) { urgOn := true } = true ∧ rdy (.yield 1 0) { urgOn := true } = true := by decide
theorem witness_BadDataAddressTraps :
    rdy (.mem .ldw 1 2 0) (thr [(2, 0x7FFD)]) = true ∧ rdy (.mem .stb 1 2 0) (thr [(2, 0x8000)]) = true ∧ rdy (.oreq 1 2 3) (thr [(3, 2)]) = true ∧
    rdy (.areq 1 2 3) (thr [(3, 0x8000)]) = true ∧ rdy (.flput 3) (thr [(3, 1)]) = true ∧ takesDesc 3 0 = true ∧
    rdy (.hput 3 0 3 0) (thr [(3, 3)]) = true := by decide
theorem witness_BranchMailboxAndAccessTraps :
    rdy (.br 0x1000) {} = true ∧ rdy (.bcc 15 0xFFFFF) {} = true ∧ rdy (.call 0xFFFFF) {} = true ∧ rdy (.loop 1 0xFFFFF) (thr [(1, 2)]) = true ∧
    rdy (.ret 1) (thr [(1, 0x4000)]) = true ∧ rdy .uret {} = true ∧ rdy (.mput 1 0) { urgOn := true } = true ∧
    rdy (.sysrd 1 2 1) {} = true ∧ rdy (.syswr 1 2 0x10) {} = true ∧ isSr 0x10 = false ∧ mayRead 0 0x10 = true ∧ mayWrite 0 0x10 = false ∧
    rdy (.syswr 1 2 0x80) {} = true ∧ mayRead 0 0x80 = false ∧ mayWrite 0 0x80 = false := by decide

def hq : HobCmd := ⟨0, 0, 0, 0⟩
theorem witness_HobInstructionsQueueReadAndWait :
    rdy (.hput 3 0 1 0) (thr [(1, 0x7FF0)]) = true ∧ (0 : Nat) < unitCmds 3 ∧ takesDesc 3 0 = true ∧
    rdy (.hput 1 0 1 0) { units := [(1, { queue := [hq, hq, hq, hq] })] } = true ∧
    rdy (.hget 1 8 0) {} = true ∧ rdy (.hget 1 0 1) {} = true ∧ 1 ≤ unitSels 0 ∧ rdy (.hget 1 0 0xFFFF) {} = true ∧ unitSels 0 < 0xFFFF ∧
    rdy (.hwait 0) {} = true ∧ (({} : Hearth).unit 0).queue = [] ∧ ((at0 (.hwait 0) {}).issued 0).applyDue 0 = false ∧
    rdy (.hwait 1) { units := [(1, { queue := [hq] })] } = true := by decide

/-- A descriptor of an oven request that is in order: one LDPC code, its deadline far off. -/
def oreqBytes : List Byte := List.replicate 20 0 ++ [0xFF, 0xFF]
theorem witness_OvenTicketsAreTakenAndCollected :
    rdy (.oreq 1 2 3) (thr [(3, 0x7FE0)]) = true ∧ rdy (.oreq 1 2 3) { ovens := [(0, some {}), (1, some {}), (2, some {}), (3, some {})] } = true ∧
    rdy (.oawait 1 2) (thr [(2, 4)]) = true ∧ (({} : Hearth).oven 0).isNone = true ∧
    rdy (.oawait 1 2) { ovens := [(0, some { done := some 0 })] } = true ∧ rdy (.oawait 1 2) { ovens := [(0, some {})] } = true ∧
    ((at0 (.oreq 1 2 3) {}).issued 0).held 5 = false ∧ ((at0 (.oreq 1 2 3) {}).issued 0).wrapped 5 = false ∧
    ((at0 (.oreq 1 2 3) {}).wr Reg.RST_BLK 0x20).held 5 = true ∧
    ({ at0 (.oreq 1 2 3) {} with rst := { steps := [], closed := [5] } } : Dev).wrapped 5 = true := by decide
theorem witness_AshpitTicketsAreTakenAndCollected :
    rdy (.areq 1 2 3) (thr [(3, 0x7FF0)]) = true ∧ rdy (.areq 1 2 3) { tiOut := 8 } = true ∧ (({} : Hearth).ash 0).isNone = true ∧
    rdy (.aawait 1 2) (thr [(2, 8)]) = true ∧ rdy (.aawait 1 2) { ashes := [(0, some { desc := ⟨0, 0, 0, 0⟩, done := some 1 })] } = true ∧
    rdy (.aawait 1 2) { ashes := [(0, some { desc := ⟨0, 0, 0, 0⟩ })] } = true := by decide
theorem witness_TickAndYieldPassOrWait :
    rdy (.tick 1 2) {} = true ∧ rdy (.tick 1 2) (thr [(2, 1)]) = true ∧ (BitVec.ofNat 32 0 - (1 : Word)).toInt < 0 ∧
    rdy (.yield 1 0) {} = true ∧ rdy (.yield 1 0x20) {} = true ∧ ({} : Hearth).pendingWord &&& 0x20 ≠ 0 ∧
    rdy (.yield 1 1) {} = true ∧ ({} : Hearth).pendingWord &&& 1 = 0 := by decide

/-- A unit of one byte at DMEM address 0x100, its descriptor at 0. -/
def flBytes : List Byte := [0, 0, 1, 0, 0, 1]
theorem witness_FwalAndFlputHandOver :
    Ready (laned (at0 (.fwal 1 0xFFF) {})) i0 (.fwal 1 0xFFF) = true ∧
    (let d := laned (at0 (.flput 1) { dmem := Memory.writeList [] 0 flBytes })
     Ready d i0 (.flput 1) = true ∧ d.laneOf 0 = some 0 ∧ getBits ((d.hearth 0).dmem.readWord 0) 31 16 = 1 ∧
     ((d.hearth 0).dmem.readWord 4).toNat = 0x100 ∧ (d.hearth 0).lastUnit.isNone = true) ∧
    (let d := laned (at0 (.flput 1) { dmem := Memory.writeList [] 0 flBytes, lastUnit := some 0 })
     Ready d i0 (.flput 1) = true ∧ (d.hearth 0).lastUnit = some 0) := by decide
theorem witness_OutputQueueDrains :
    (let d := laned (dev0.setHearth 0 { flq := [⟨0, 0, 0, 0, false, false, false, 0, 0, 0, [1]⟩] })
     d.held 6 = false ∧ d.held 7 = false ∧ d.linkFree (0 / 8) true 2 ≠ 0 ∧ d.laneOf 0 = some 0) ∧
    (let d := { dev0 with chimney := { used := [(linkKey 0 true 2, linkRoom 2)] } }
     d.linkFree (0 / 8) true 2 = 0) ∧ (dev0.wr Reg.RST_BLK 0x80).held 7 = true := by decide

/-- A device in which the page of lane 0 is due to apply at its program's next wait (R230). -/
def due0 (y : Yil) (x : Hearth) : Dev := { laned (at0 y x) with captures := [⟨0x100000, none, [], false, 0⟩], now := 250000000 }
theorem witness_DuePageHoldsEveryWait :
    (Ready (due0 (.hwait 0) {}) i0 (.hwait 0) = true ∧ ((due0 (.hwait 0) {}).issued 0).applyDue 0 = true) ∧
    (Ready (due0 (.oawait 1 2) {}) i0 (.oawait 1 2) = true ∧ ((due0 (.oawait 1 2) {}).issued 0).applyDue 0 = true) ∧
    (Ready (due0 (.flput 1) {}) i0 (.flput 1) = true ∧ ((due0 (.flput 1) {}).issued 0).applyDue 0 = true) ∧
    ((laned (at0 (.hwait 0) {})).issued 0).applyDue 0 = false ∧
    (let x : Hearth := { flq := List.replicate 64 ⟨0, 0, 0, 0, false, false, false, 0, 0, 0, []⟩ }
     Ready (laned (at0 (.flput 1) x)) i0 (.flput 1) = true ∧ 64 ≤ ((laned (at0 (.flput 1) x)).hearth 0).flq.length) := by decide

theorem witness_MailboxesTakeAndPut :
    rdy (.mget 1 0) {} = true ∧
    (let d := (at0 (.mget 1 1) { sys := [1] }).set (Reg.HST_STAT_LANEV 0) 1
     Ready d i0 (.mget 1 1) = true ∧ d.laneOf 0 = some 0 ∧ d.bound 0 ≠ some 0) ∧
    (let d := (laned (at0 (.mget 1 1) { sys := [1] })).setLane 0 { sysHeld := [2] }
     Ready d i0 (.mget 1 1) = true ∧ d.laneOf 0 = some 0 ∧ d.bound 0 = some 0 ∧ (d.lane 0).sysHeld = [2]) ∧
    Ready (laned (at0 (.mget 1 2) { hin := true })) i0 (.mget 1 2) = true ∧ rdy (.mput 1 0) {} = true ∧
    (let d := laned (at0 (.mput 1 1) (thr [(1, 0x10000001)]))
     Ready d i0 (.mput 1 1) = true ∧ d.laneOf 0 = some 0 ∧ d.bound 0 = some 0 ∧ (d.lane 0).resync.isNone = true) ∧
    (let d := (laned (at0 (.mput 1 1) (thr [(1, 0x10000000)]))).setLane 0 { resync := some 3 }
     Ready d i0 (.mput 1 1) = true ∧ d.laneOf 0 = some 0 ∧ d.bound 0 = some 0 ∧ (d.lane 0).resync = some 3 ∧
     (d.hearth 0).thr.reg 1 = 0x10000000) ∧
    Ready (laned (at0 (.mput 1 3) {})) i0 (.mput 1 3) = true := by decide
/-! ## Witnesses: register access, waits, the hob, ovens and the ashpit -/

/-- Lane 0 runs, and a capture of its page waits. -/
def cap0 (off : BitVec 16) : Dev :=
  let d := (laned (at0 (.sysrd 1 2 off) (thr [(2, 0xFF2000)]))).set (Reg.LANE_CTL_EN 0) 1
  { d with shadow := [(Reg.LANE_CTL 0, d.rd (Reg.LANE_CTL 0))], captures := [⟨0x100000, none, [], false, 0⟩] }

theorem witness_SysrdReadsItsRegister :
    rdy (.sysrd 1 2 0) (thr [(2, 0xFF2000)]) = true ∧ ((thr [(2, 0xFF2000)]).thr.addr 2 0).toNat = 0xFF2000 ∧
    rdy (.sysrd 1 2 4) (thr [(2, 0xFF2000)]) = true ∧ rdy (.sysrd 1 2 0x38) (thr [(2, 0xFF2000)]) = true ∧ ((thr [(2, 0xFF2000)]).thr.addr 2 0x38).toNat = 0xFF2038 ∧
    (at0 (.sysrd 1 2 0x24) (thr [(2, 0xFF2000)])).captures = [] ∧
    (({ prev := [([], 5)] } : Lane).prev[0]? = some ([], 5) ∧ ({} : Lane).prev[0]? = none) ∧ (4 : Nat) < 5 ∧
    (let d := (laned (at0 (.sysrd 1 2 0x24) { main := { w := [(2, 0xFF2000)] }, smp := 5 })).setLane 0 { prev := [([], 5)] }
     Ready d i0 (.sysrd 1 2 0x24) = true ∧ (d.lane 0).prev[(d.hearth 0).applied]? = some ([], 5) ∧ 5 ≤ (d.hearth 0).smp) ∧
    (let d := cap0 0x24
     Ready d i0 (.sysrd 1 2 0x24) = true ∧ d.bound 0 = some 0 ∧ (d.issued 0).acquiring 0 0 = false ∧ (d.lane 0).prev[(d.hearth 0).applied]? = none ∧
     (d.issued 0).applyRestarts 0 = false) ∧
    rdy (.sysrd 1 2 0x10) {} = true ∧ mayRead 0 0x10 = true ∧ rdy (.sysrd 1 2 0x10) { urgOn := true } = true := by decide
theorem witness_SyswrPostsItsWord :
    rdy (.syswr 1 2 0) (thr [(2, 0x100400)]) = true ∧ mayWrite 0 (Reg.LANE_CKPT 0) = true ∧ isSr (Reg.LANE_CKPT 0) = false ∧
    rdy (.syswr 1 2 0) { main := { w := [(2, 0x100400)] }, posted := List.replicate 4 (0, 0) } = true ∧
    rdy (.syswr 1 2 0x34) (thr [(2, 0xFF2000)]) = true ∧ rdy (.syswr 1 2 0x28) (thr [(2, 0xFF2000)]) = true := by decide

/-- MAIN waits. -/
def waits (w : Wait) (x : Hearth) : Hearth := { x with running := true, wait := some w }
/-- The device with hearth 0 in a wait, no page due. -/
def waitDev (w : Wait) (x : Hearth) : Dev := laned (dev0.setHearth 0 (waits w x))
theorem witness_WaitsEndAndUrgentEnters :
    (let x := (waitDev (.hwait 0) {}).hearth 0
     x.running = true ∧ x.urgOn = false ∧ x.umbox = [] ∧ (waitDev (.hwait 0) {}).applyDue 0 = false ∧ x.wait = some (.hwait 0) ∧
     (x.unit 0).queue = [] ∧ (x.unit 0).running.isNone = true) ∧
    (waits (.hput 1 0 0 0) {}).wait = some (.hput 1 0 0 0) ∧ ((waits (.hput 1 0 0 0) {}).unit 1).queue.length < 4 ∧
    (waits (.oawait 1 3) { ovens := [(3, some { done := some 7 })] }).oven 3 = some { done := some 7 } ∧
    (waits (.aawait 1 7) { ashes := [(7, some { desc := ⟨0, 0, 0, 0⟩, done := some 7 })] }).ash 7 = some { desc := ⟨0, 0, 0, 0⟩, done := some 7 } ∧
    (0 : Int) ≤ (BitVec.ofNat 32 0 - (0 : Word)).toInt ∧ (waits (.yield 1 0x20) {}).pendingWord &&& 0x20 ≠ 0 ∧
    (waits (.syswr 0 1) { posted := [(0, 1)] }).posted = (0, 1) :: [] ∧ (waits (.flput 0) {}).flq.length < 64 ∧
    (waits (.got (some 1) 5) {}).wait = some (.got (some 1) 5) ∧ (waits (.got none 0) {}).wait = some (.got none 0) ∧
    (waits (.tick 1 0) { umbox := [1] }).umbox ≠ [] ∧ (waits (.tick 1 0) { urgOn := true }).urgOn = true ∧
    (let d := { waitDev (.hwait 0) {} with captures := [⟨0x100000, none, [], false, 0⟩], now := 250000000 }
     d.applyDue 0 = true ∧ (d.hearth 0).running = true ∧ (d.hearth 0).urgOn = false ∧ (d.hearth 0).umbox = []) := by decide

/-- A descriptor every hob command accepts: 4 cells, 64 points, lines from 0. -/
def hobDesc : Desc := ⟨0x00040600, 0, 0, 4⟩
/-- A command at the head of a unit's queue, its descriptor at DMEM address 0. -/
def hobQ (u cmd : Nat) (arg : Word) : Hearth :=
  { units := [(u, { queue := [⟨cmd, arg, 0, 0⟩] })], patLoaded := true, conLoaded := true,
    dmem := Memory.writeList [] 0 ([hobDesc.d0, hobDesc.d1, hobDesc.d2, hobDesc.d3].flatMap wordBytes) }
/-- The commands of the hob: unit and number. -/
def hobAll : List (Nat × Nat) :=
  [(0, 0), (0, 1), (1, 0), (1, 1), (1, 2), (2, 0), (2, 1), (2, 2), (3, 0), (4, 0), (4, 1), (4, 2), (5, 0), (5, 1), (6, 0), (6, 1), (6, 2), (7, 0), (7, 1), (8, 0), (8, 1)]
theorem witness_HobCommandsStartOrFail :
    (∀ p ∈ hobAll, (((hobQ p.1 p.2 0).unit p.1).queue.head?.map (·.cmd) = some p.2 ∧ ((hobQ p.1 p.2 0).unit p.1).running.isNone = true ∧
      (hobQ p.1 p.2 0).ashOut < 8)) ∧
    (hobQ 3 0 0).dmem.readDesc 0 = hobDesc ∧ getBits hobDesc.d0 31 16 = 4 ∧ getBits hobDesc.d0 11 8 = 6 ∧ getBits hobDesc.d3 1 0 ≤ 1 ∧
    getBits hobDesc.d3 4 2 = 1 ∧ 4 * 64 + (4 + 63) / 64 * 64 ≤ 6144 * 64 ∧ 0x4000 * 2 ^ 32 = 2 ^ 46 ∧ 0x8000 * 2 ^ 32 = 2 ^ 47 ∧
    (0x0004 : Nat) * 64 + (4 + 7) / 8 ≤ 6144 * 64 ∧ (6143 * 64 + (64 + 63) / 64 * 64 ≤ 6144 * 64) := by decide

def s0 : Sample := ⟨0, 0, 0, false, 0⟩
def hobR (cmd : Nat) : HobRun := ⟨⟨cmd, 0, 0, 0⟩, hobDesc, 0, List.replicate 4 s0, false⟩
def set0 : SetMem := ⟨0, 1, 64, [], none, none, none⟩
/-- A hearth's record in a device whose set 0 is the hearth's. -/
def setDev (x : Hearth) : Dev := { dev0.setHearth 0 { x with set := some 0 } with ash := { sets := [(0, some set0)] } }
theorem witness_HobCommandsCompleteWithTheirEffect :
    (∀ p ∈ hobAll, (({ units := [(p.1, { running := some (hobR p.2) })] } : Hearth).unit p.1).running = some (hobR p.2)) ∧
    (hobR 0).wants = 0 ∧ (hobR 1).wants = 0 ∧ hobDesc.d0.getLsbD 0 = false ∧ (hobR 0).lost = false ∧ (setDev {}).held 7 = false ∧ (setDev {}).wrapped 7 = false ∧
    (dev0.wr Reg.RST_BLK 0x80).held 7 = true ∧ ((0 : Nat) ≤ 12 ∧ 1 ≤ 2 ^ 0) ∧
    (setDev {}).setMem 0 = some set0 ∧ ((setDev {}).hearth 0).set = some 0 ∧ 4 + 4 * 4 ≤ set0.tiNeed * 1024 := by decide
theorem witness_HobTimeoutFailsTheHearth :
    (let d := { dev0 with now := 10000000 }.setHearth 0 { units := [(1, { running := some (hobR 0) })] }
     0 + 2 * d.statedNs 0 1 (hobR 0) ≤ d.now) ∧
    (let d := dev0.setHearth 0 { units := [(1, { running := some (hobR 0) })] }
     d.now < 0 + 2 * d.statedNs 0 1 (hobR 0)) := by decide
theorem witness_InputFifoServesItsCommand :
    (let d := laned (dev0.setHearth 0 { units := [(0, { running := some (hobR 0) })], fifo := [s0] })
     d.laneOf 0 = some 0 ∧ (d.hearth 0).replay.isNone = true ∧ ((d.hearth 0).unit 0).running = some (hobR 0)) := by decide

def oq : OReq := ⟨0, 0, false, 0, 0, true, false, 0, 1, 5, 0, false, false⟩
theorem witness_OvenRequestsEnd :
    SMap.get none ({ busy := [(0, some oq)] } : Pool).busy 0 = some oq ∧ oq.dropped = false ∧ dev0.chimney.failed.contains (.oven 0) = false ∧ oq ∈ ({ ldpc := [oq] } : Pool).ldpc ++ [] ∧
    (∀ r ∈ [oq], r = oq) ∧ oq.deadline ≤ ({ smp := 5 } : Hearth).smp ∧ ({ smp := 4 } : Hearth).smp < oq.deadline ∧
    (3 : Nat) ≤ (0 :: ([0, 0] : List Nat).filter (fun t => decide (0 < t + 1000000000))).length := by decide
theorem witness_oreq_descriptor :
    (Memory.readODesc (Memory.writeList [] 0 ([0, 1, 0, 0, 5, 0, 0, 0].flatMap (fun n => wordBytes (BitVec.ofNat 32 n)))) 0).ok = true ∧
    (Memory.readODesc [] 0).ok = false := by decide

/-- Every LDPC oven but the first is retired. -/
def oneOven : Dev := (List.range 16).foldl (fun d j => if j = 0 then d else d.set (Reg.OVN_OSTAT_STATE j) 4) { dev0 with pool := { busy := [(0, some oq)] } }
theorem witness_RetiredOvenReissuesItsRequest :
    SMap.get none oneOven.pool.busy 0 = some oq ∧ (∀ j < 16, j ≠ 0 → oneOven.get (Reg.OVN_OSTAT_STATE j) = 4) := by decide +kernel
theorem witness_SchedulerOrder :
    [oq, { oq with reissued := true }].find? (·.reissued) = some { oq with reissued := true } ∧ oq.at_ + 1 * 1000 ≤ 1000 ∧
    nextReq 1000 1 0 [oq] = some oq ∧ 999 < oq.at_ + 1 * 1000 ∧ nextReq 999 1 0 [oq] = some oq := by decide

/-- The descriptor of 64 bytes from target 0, offset 0, to DMEM address 0; a write; a write of the checkpoint. -/
def aRd : Desc := ⟨0x00000040, 0, 0, 0⟩
def aWr : Desc := ⟨0x80000040, 0, 0, 0⟩
def aCk : Desc := ⟨0x80000040, 0x10000000, 0, 0⟩
theorem witness_AshpitRequestsMoveOrFail :
    (let d := setDev { ashes := [(7, some { desc := aRd })], running := true }
     (d.hearth 0).ash 7 = some { desc := aRd } ∧ d.held 7 = false ∧ d.wrapped 7 = false ∧ d.ashTurn 0 0 = true ∧
     d.chimney.failed.contains (.ash 0 7) = false ∧ (d.ashSpend 0).setMem 0 = some set0 ∧ (d.hearth 0).running = true) ∧
    (dev0.wr Reg.RST_BLK 0x80).held 7 = true ∧ (dev0.wr Reg.RST_BLK 0x80).wrapped 7 = false ∧
    ({ dev0 with ash := { quota := [0, 1, 1] } }.setHearth 0 { ashes := [(0, some { desc := ⟨0, 0x30000000, 0, 0⟩ })] } : Dev).ashTurn 0 0 = false ∧
    aRd.aOk = true ∧ aWr.aOk = true ∧ aCk.aOk = true ∧ (⟨3, 0, 0, 0⟩ : Desc).aOk = false ∧ (⟨0x40, 0x40000000, 0, 0⟩ : Desc).aOk = true ∧
    getBits (0x40000000 : Word) 31 28 = 4 ∧ getBits aCk.d1 31 28 = 1 ∧ 0 + 64 ≤ set0.tiNeed * 1024 ∧ aRd.d0.getLsbD 31 = false ∧ aWr.d0.getLsbD 31 = true ∧
    aWr.d0.getLsbD 30 = false ∧ (setDev { ashes := [(7, some { desc := aRd })] }).setMem 0 = some set0 ∧
    (⟨0x1000, 0x0000F004, 0, 0⟩ : Desc).aOk = true ∧ set0.tiNeed * 1024 < 0xF004 + 0x1000 ∧
    (({ ashes := [(7, some { desc := aRd })] } : Hearth).ash 7) = some { desc := aRd } := by decide
/-! ## Witnesses: the host -/

/-- A device in ACTIVE with the PCIe link up, and one whose host port is SPI. -/
def act : Dev := { dev0.set Reg.RST_STAT_STATE 2 with rst := { host := true, aon := true, steps := [] }, pcie := { linkUp := true } }
def spi : Dev := { (dev0.set Reg.RST_STAT_STATE 2).wr Reg.RST_STRAP 8 with rst := { host := true, aon := true, steps := [] } }

/-- The same on a RK4802-FA. -/
def actFa : Dev := { act with part := .fa4802 }
theorem witness_RefusedRegisterWritesOnlyLeaveALog :
    (actFa.part.has (Reg.LANE_CMD 48) = false ∧ mapOpen actFa .bar0 (Reg.LANE_CMD 48) x0 = true ∧ Reg.LANE_CMD 48 % 0x1000 = 0x18) ∧
    (actFa.part.has (Reg.AUX_CMD 2) = false ∧ ({ act with part := .fa9600 } : Dev).part.has Reg.SMK_TXCMD = false ∧ actFa.part.has (Reg.AUX_CFG 2) = false ∧
     mapOpen actFa .bar0 (Reg.AUX_CFG 2) x0 = true) ∧
    mapOpen act .bar0 0x50 x0 = true ∧ mapOpen act .bar0 0x7FFFFC x0 = true ∧ (lookupReg 0x7FFFFC).isNone = true ∧
    mapOpen act .bar0 Reg.RST_MODE x0 = true ∧ act.part.has Reg.RST_MODE = true ∧ (lookupReg Reg.RST_MODE).any (fun r => r.prv != 0) = true ∧
    byteWritable 0x50 = false ∧ mapOpen spi (.spi false) 0x50 x0 = true ∧ mapOpen act .bar2 0x50 x0 = true ∧ mapOpen act .mantel 0x50 x0 = true := by decide

/-- A register of RW fields and one of RWB fields, each without an effect of its own. -/
theorem witness_PlainRegisterWriteStores :
    (mapOpen act .bar0 0x50 x0 = true ∧ act.part.has 0x50 = true ∧ (lookupReg 0x50).any (fun r => r.prv == 0 && !r.isSqc && r.rwb == 0) = true ∧
     act.closedAt 0x50 = false ∧ act.immed (blockOf 0x50) = false ∧ enVector 0x50 = none ∧ act.smoke.embOld = []) ∧
    (∀ m : Word, act.hookSys 0x50 m 7 x0 = none) ∧ act.hookBlock 0x50 7 x0 = none ∧ act.hookOther 0x50 7 x0 = none ∧
    (mapOpen act .bar0 Reg.CAP_ROTCFG x0 = true ∧ act.part.has Reg.CAP_ROTCFG = true ∧
     (lookupReg Reg.CAP_ROTCFG).any (fun r => r.prv == 0 && !r.isSqc && r.rwb != 0) = true ∧
     act.closedAt Reg.CAP_ROTCFG = false ∧ act.immed (blockOf Reg.CAP_ROTCFG) = false ∧ enVector Reg.CAP_ROTCFG = none ∧
     Reg.CAP_ROTCFG ≠ Reg.CAP_ROTCFG / 0x1000 * 0x1000 + 0xFFC) ∧
    (∀ m : Word, act.hookSys Reg.CAP_ROTCFG m 7 x0 = none) ∧ act.hookBlock Reg.CAP_ROTCFG 7 x0 = none ∧
    act.hookOther Reg.CAP_ROTCFG 7 x0 = none := by
  refine ⟨by decide, fun m => rfl, rfl, rfl, by decide, fun m => rfl, rfl, rfl⟩
theorem witness_SqcClearNeedsTheSequence :
    mapOpen act .bar0 Reg.CAP_EVT x0 = true ∧ act.part.has Reg.CAP_EVT = true ∧ (lookupReg Reg.CAP_EVT).any (fun r => r.isSqc && r.prv == 0) = true ∧
    act.closedAt Reg.CAP_EVT = false ∧ act.heldAt Reg.CAP_EVT = false ∧ getBits (0x00000001 : Word) 31 24 = getBits (act.rd Reg.CAP_EVT) 31 24 ∧
    getBits (0xFF000001 : Word) 31 24 ≠ getBits (act.rd Reg.CAP_EVT) 31 24 := by decide

/-- The alias of SYS_VEC_EN bit 12 (R76), and a RW, a RWB, a SQC and a privileged bit. -/
theorem test_alias_of_sys_vec_en : 0x2000000 + Reg.SYS_VEC_EN * 32 + 12 * 4 = 0x020012B0 := by decide
theorem witness_BitAliasChangesOneBit :
    ((lookupReg 0x50).bind (·.fieldAt 31)).map (·.acc) = some .rw ∧ ((lookupReg Reg.CAP_EVT).bind (·.fieldAt 0)).map (·.acc) = some .sqc ∧
    ((lookupReg Reg.CAP_ROTCFG).any (fun r => (List.range 32).any (fun b => (r.fieldAt b).any (fun f => f.acc == .rwb && !f.prv)))) = true ∧
    ((lookupReg Reg.RST_EVT).bind (·.fieldAt 0)).map (·.prv) = some true ∧ ((lookupReg Reg.RST_EVT).any (fun r => (r.fieldAt 23).isNone)) = true ∧
    act.reaches .bar0 = true ∧ privileged .bar0 = false ∧ 0x2000000 + 0x50 * 32 + 31 * 4 < 0x2800000 ∧
    (0x2000000 + 0x50 * 32 + 31 * 4 - 0x2000000) / 128 * 4 = 0x50 ∧ (0x2000000 + 0x50 * 32 + 31 * 4 - 0x2000000) / 4 % 32 = 31 := by decide
theorem witness_TimeReadsLatchTheHighHalf :
    act.pcieUp = true ∧ 0x3FF0000 ≤ 0x3FF01FC ∧ 0x3FF01FC < 0x3FF0200 ∧ act.reaches .bar0 = true ∧ act.reaches .mantel = true ∧ spi.reaches (.spi true) = true ∧ act.held 3 = false ∧ act.rst.isolating = [] := by decide
theorem witness_SpiTransactionsRun :
    spi.spiServed = true ∧ spi.spi.buffer = [] ∧ spi.open_ = true ∧ spi.is Reg.SYS_SPICFG_CRC = false ∧ (0xFF : Nat) % 128 ∉ [1, 2, 3, 4, 5, 8, 9] ∧
    (let d := { Dev.por with rst := { aon := true } }.wr Reg.RST_STRAP 8
     d.spiServed = true ∧ d.spi.buffer = [] ∧ d.open_ = false) := by decide
theorem witness_SpiDrainResetAndWake :
    ({ spi with spi := { buffer := [(0x50, 1, false)] } } : Dev).spi.buffer = [(0x50, 1, false)] ∧ spi.reaches (.spi false) = true ∧
    spi.spiServed = true ∧ spi.rst.banked = false ∧ ((spi.set Reg.RST_WAKECFG_SPIWAKE 1).spiHost && (spi.set Reg.RST_WAKECFG_SPIWAKE 1).is Reg.RST_WAKECFG_SPIWAKE) = true ∧
    (spi.spiHost && (spi.set Reg.RST_WAKECFG_SPIWAKE 0).is Reg.RST_WAKECFG_SPIWAKE) = false := by decide
theorem witness_PciePortAndMsix :
    act.spiHost = false ∧ act.is Reg.HF_CTL_RUN = false ∧ act.rst.host = true ∧ act.pcieUp = true ∧ Dev.por.rst.host = false ∧
    (let d := { act with pcie := { linkUp := true, held := [16], enable := true } }
     d.pcie.held.contains 16 = true ∧ d.imodHeld 16 = false ∧ d.vecPending 16 = false) ∧
    (let d := { act with pcie := { linkUp := true, lastMsg := [(6, 1)] } }.wr Reg.SYS_IMOD 0xFFFF
     d.imodHeld 6 = true) := by decide
/-! ## Witnesses: reset, kindling and power -/

/-- A device whose reset state is `r`. -/
def rsd (r : Rst) : Dev := { Dev.por with rst := r }
theorem witness_ResetSourcesAssertTheirLevel :
    (rsd {}).rst.banked = false ∧ (rsd { asserted := true, aon := true }).rst.bad = [] ∧ (rsd { relAt := 5 }).rst.relAt = 5 ∧
    (rsd { asserted := false, relAt := 0 }).rst.asserted = false ∧ (rsd { asserted := true, stretching := true }).rst.stretching = true ∧
    (rsd { asserted := true, stretching := false }).rst.stretching = false ∧ (rsd { thermal := false }).rst.thermal = false ∧
    (1249 : Int) < 1250 ∧ (1250 : Int) ≤ 1250 ∧
    (let d := rsd { thermal := true, temp := 1099, asserted := true, aon := true }
     d.rst.thermal = true ∧ d.rst.temp < 1100 ∧ d.rst.asserted = true ∧ d.rst.aon = true ∧ d.rst.bad = []) ∧
    (let d := (rsd { banked := true }).set Reg.RST_WAKECFG_WAKEN 1
     d.is Reg.RST_WAKECFG_WAKEN = true ∧ d.rst.banked = true) ∧
    (let d := (rsd { banked := false, bankSteps := [5], wake := none }).set Reg.RST_WAKECFG_WAKEN 1
     d.is Reg.RST_WAKECFG_WAKEN = true ∧ d.rst.banked = false ∧ d.rst.bankSteps ≠ [] ∧ d.rst.wake = none) ∧
    (let d := (rsd { banked := false, bankSteps := [] }).set Reg.RST_WAKECFG_WAKEN 1
     d.is Reg.RST_WAKECFG_WAKEN = true ∧ d.rst.banked = false ∧ d.rst.bankSteps = []) ∧
    ((rsd {}).set Reg.RST_WAKECFG_WAKEN 0).is Reg.RST_WAKECFG_WAKEN = false := by decide
theorem witness_ResetRecordsItsCause :
    1 ≤ (rsd { level := 3, asserted := true }).rst.level ∧ (rsd { level := 3 }).rst.level ≤ 3 ∧ 1 ≤ 3 ∧ 255 < 256 := by decide
theorem witness_SystemResetClears :
    (rsd { banked := false }).rst.banked = false ∧ (rsd { banked := true }).rst.banked = true := by decide
theorem witness_CoreResetSpares : act.cap.rot = none ∧ act.cal.cmd = none := by decide
theorem witness_KindlingRunsItsSteps :
    (rsd { asserted := true }).rst.asserted = true ∧
    (let d := rsd { asserted := false, romBad := false, steps := [1, 4, 6, 7], aon := true, thermal := false }
     d.rst.asserted = false ∧ d.rst.romBad = false ∧ d.rst.steps = 1 :: [4, 6, 7] ∧ d.rst.aon = true ∧ d.rst.bad = [] ∧ d.rst.thermal = false) ∧
    (let d := rsd { asserted := false, romBad := false, steps := [1, 4, 6, 7], bad := [2] }
     d.rst.asserted = false ∧ d.rst.romBad = false ∧ d.rst.steps = 1 :: [4, 6, 7] ∧ d.rst.bad ≠ []) ∧
    (∀ n ∈ [2, 3, 4, 5, 6, 7], (rsd { asserted := false, romBad := false, steps := [n] }).rst.steps = n :: []) ∧
    (rsd { romBad := true }).rst.romBad = true := by decide
/-- Block 3 held, its release deferred, or its wrapper closing. -/
def blk (held pend iso mode : Bool) : Dev :=
  (((rsd { isolating := if iso then [3] else [] }).wr Reg.RST_BLK (if held then 8 else 0)).wr Reg.RST_PEND (if pend then 8 else 0)).wr Reg.RST_MODE
    (if mode then 8 else 0)
theorem witness_BlockResetsAssertAndRelease :
    3 ∈ (blk false false false false).part.rstBlocks ∧ (∀ c ∈ (blk false false false false).part.rstBlocks, c ≠ 3 → (8 : Word).getLsbD c = (0 : Word).getLsbD c) ∧
    (8 : Word).getLsbD 3 = ((blk true false false false).rd Reg.RST_BLK).getLsbD 3 ∧
    (((blk false true false false).rd Reg.RST_BLK).getLsbD 3 = false ∧ ((blk false true false false).rd Reg.RST_PEND).getLsbD 3 = true) ∧
    (((blk false false false true).rd Reg.RST_BLK).getLsbD 3 = false ∧ ((blk false false false true).rd Reg.RST_PEND).getLsbD 3 = false ∧
     ((blk false false false true).rd Reg.RST_MODE).getLsbD 3 = true) ∧
    (∃ b ∈ Dev.por.part.rstBlocks, ∃ clk ∈ [false, true], let d := (rsd {}).wr Reg.RST_BLK (BitVec.ofNat 32 (2 ^ b))
      (d.rd Reg.RST_BLK).getLsbD b = true ∧ d.rst.isolating = [] ∧ d.clockGood b clk clk = false) ∧
    (let d := (rsd { steps := [] }).wr Reg.RST_MODE 0
     10 ∈ d.part.rstBlocks ∧ 16 ∈ d.part.rstBlocks ∧ (d.rd Reg.RST_BLK).getLsbD 10 = false ∧ (d.rd Reg.RST_PEND).getLsbD 16 = false ∧
     (d.rd Reg.RST_MODE).getLsbD 10 = false) ∧
    3 ∈ (blk false false true true).rst.isolating ∧ 3 ∉ (blk false false false true).rst.isolating ∧
    ((blk true true false false).rd Reg.RST_PEND).getLsbD 3 = true ∧ ((blk true false false false).rd Reg.RST_PEND).getLsbD 3 = false := by decide

/-- Slot 0 holds a mantel image whose signer, epochs and versions pass. -/
def fwDev : Dev :=
  ((({ Dev.por with store := { mem := Memory.writeList [] 0 ((List.range 64).map fun i => BitVec.ofNat 8
    (if i = 0x28 ∨ i = 0x0D then 1 else if i = 0x09 then 255 else if i = 0x0A ∨ i = 0x0B then 2 else 0)) } } : Dev).set
      (Reg.PST_SLOT_STATE 0) 2).set (Reg.PST_SLOT_TYPE 0) 2)
theorem witness_BootAndOtpCheckFirst :
    (Dev.por.set Reg.RST_MNTSTAT_BUSY 1).is Reg.RST_MNTSTAT_BUSY = true ∧ Dev.por.is Reg.RST_MNTSTAT_BUSY = false ∧
    fwDev.is Reg.RST_MNTSTAT_BUSY = false ∧ fwDev.get (Reg.PST_SLOT_STATE 0) = 2 ∧ fwDev.get (Reg.PST_SLOT_TYPE 0) = 2 ∧
    fwDev.bootStatus (fwDev.slotBytes 0) = 0 ∧ (rsd { otpProg := none }).rst.otpProg = none ∧
    (Dev.por.lanesOn = [] ∧ ¬(Dev.por.part.hasSmoke = true ∧ Dev.por.is Reg.SMK_CTL_EN = true)) ∧ (Dev.por.set (Reg.LANE_CTL_EN 0) 1).lanesOn ≠ [] ∧
    (SMap.get 0 (rsd { fuses := [(0, 0x40000000)] }).rst.fuses 0).getLsbD 30 = true ∧ (SMap.get 0 (rsd { fuses := [(4, 1)] }).rst.fuses 0).getLsbD 30 = false ∧
    SMap.get 0 (rsd { fuses := [(4, 1)] }).rst.fuses 4 ≠ 0 ∧ SMap.get 0 (rsd { fuses := [(4, 1)] }).rst.fuses 5 = 0 ∧
    (rsd { otpProg := some (5, 7) }).rst.otpProg = some (5, 7) := by decide +kernel
theorem witness_BankedEntryRunsItsSteps :
    act.get Reg.RST_STAT_STATE = 2 ∧ (act.set Reg.FWT_STAT_ACTIVE 1).get Reg.FWT_STAT_ACTIVE ≠ 0 ∧
    (act.get Reg.FWT_STAT_ACTIVE = 0 ∧ act.fire.pages = [] ∧
      (let d := (act.wr Reg.RST_WAKECFG 0).set Reg.EMB_CFG_WAKE 0
       d.is Reg.EMB_CFG_WAKE = false ∧ d.rd Reg.RST_WAKECFG = 0 ∧ d.get Reg.FWT_STAT_ACTIVE = 0 ∧ d.get Reg.RST_STAT_STATE = 2)) ∧
    Dev.por.get Reg.RST_STAT_STATE ≠ 2 ∧
    (let d := { rsd { bankSteps := [3, 4] } with aux := [(1, { cur := some ⟨.host, 0, 0, 0, [], 0, false, false, 0, true, false⟩ })] }
     d.rst.bankSteps = 3 :: [4] ∧ (∃ b < 3, (d.auxBus b).cur.any (·.running) = true)) ∧
    (∀ b < 3, ((rsd { bankSteps := [3, 4] }).auxBus b).cur.any (·.running) = false) ∧
    (rsd { bankSteps := [6], wake := none }).rst.wake = none := by decide
/-! ## Witnesses: commits and the device's time -/

theorem witness_EventSetsItsBitAndSequence :
    act.evtFree Reg.SYS_EVT 8 0 = true ∧ ({ act with evtLast := [(evtKey Reg.SYS_EVT 8 0, 1)] } : Dev).evtFree Reg.SYS_EVT 8 0 = false ∧
    evtRate Reg.SYS_EVT 8 ≠ 0 ∧ (evtInfo Reg.SYS_EVT).1 ≠ Reg.SYS_EVT ∧
    (let d := ({ act with pcie := { linkUp := true, enable := true, fmask := false } } : Dev).wr Reg.SYS_EVT_EN 0x100
     (d.rd (evtInfo Reg.SYS_EVT).1).getLsbD 8 = true ∧ d.pcie.fmask = false) ∧
    (let d := (act.wr Reg.SYS_EVT_EN 0x100).wr Reg.SYS_VEC_EN 0xFFFFFFFF
     d.vecEnabled 2 = true ∧ d.pcie.fmask = false ∧ d.imodHeld 2 = false ∧
     ({ d with pcie := { enable := true, table := [(11, 0)] } } : Dev).vecMasked 2 = false ∧
     ({ d with pcie := { enable := true, table := [(11, 1)] } } : Dev).vecMasked 2 = true) ∧
    ((dev0.wr Reg.SYS_EVT_EN 0).rd (evtInfo Reg.SYS_EVT).1).getLsbD 8 = false := by decide
theorem witness_EventsOfOneCycleCountOnce :
    (∀ b ∈ [0, 8, 23], b < 24 ∧ act.evtFree Reg.CAP_EVT b 0 = true) ∧ [0, 8, 23] ≠ [] ∧ (lookupReg Reg.SYS_EVT).any (·.isSqc) = true := by decide

/-- A commit of group 1 under way. -/
def busy1 : Dev := { act with commits := [⟨7, [1], [(Reg.OVN_CFG, 1)], false⟩] }
/-- A timed commit of group 1 is armed. -/
def armed1 : Dev := { act with armed := some ⟨7, [1], [], 5⟩ }
theorem witness_CommitNamesItsFreeGroups :
    setBits 16 0 = [] ∧ setBits 16 0x10002 = [1] ∧ setBits 16 3 = [0, 1] ∧ busy1.busyGroups = [1] ∧ act.busyGroups = [] ∧ armed1.busyGroups = [1] ∧
    busy1.armed = none ∧ armed1.armed.isSome = true ∧
    (let d := { act with devtime := 5 }
     of64 ((d.set Reg.SYS_CMTSTAT_OVL 0).rd Reg.SYS_CMTTIME_LO) ((d.set Reg.SYS_CMTSTAT_OVL 0).rd Reg.SYS_CMTTIME_HI) < d.devtime) ∧
    act.devtime ≤ of64 ((act.set Reg.SYS_CMTSTAT_OVL 0).rd Reg.SYS_CMTTIME_LO) ((act.set Reg.SYS_CMTSTAT_OVL 0).rd Reg.SYS_CMTTIME_HI) := by decide

/-- The ovens' page with a captured word of OVN_CFG. -/
def ovnCap (w : Word) : Dev := { busy1 with captures := [⟨Reg.OVN_CFG, some 1, [(Reg.OVN_CFG, w)], false, 0⟩] }
theorem witness_PageCapturesWhatIsValid :
    (let p := Reg.OVN_CFG
     let e : Dev := { act with captures := act.captures ++ [⟨p, some 1, act.pageShadow p, false, act.now⟩] }
     e.wordsOk p = true) ∧
    (let p := Reg.OVN_CFG
     let d : Dev := { act with shadow := [(p, 9)] }
     let e : Dev := { d with captures := d.captures ++ [⟨p, some 1, d.pageShadow p, false, d.now⟩] }
     e.wordsOk p = false) := by decide +kernel
theorem witness_PageAppliesItsCapture :
    (act.captures.filter (fun x => x.page == Reg.OVN_CFG) = []) ∧
    (let c : Capture := ⟨Reg.OVN_CFG, some 1, [(Reg.OVN_CFG, 100)], false, 0⟩
     ((ovnCap 100).captures.filter (fun x => x.page == Reg.OVN_CFG) = [c]) ∧ (c.words.map (·.1)).Nodup ∧
     (∀ w ∈ c.words, pageOf w.1 = Reg.OVN_CFG ∧ w.1 ≠ Reg.OVN_CFG + 0xFFC) ∧
     (ovnCap 100).commits = [⟨7, [1], [(Reg.OVN_CFG, 1)], false⟩] ∧
     (∀ g ∈ [1], ∀ x ∈ (ovnCap 100).captures, x.group = some g → x.page = Reg.OVN_CFG) ∧ (ovnCap 100).evtFree Reg.SYS_EVT 0 0 = true) := by decide

/-- Lane 0, bound to hearth 0, with a capture of its page of time 0, at a given time. -/
def lateLane (now : Nat) : Dev :=
  { (laned dev0).setHearth 0 (waits (.hwait 0) {}) with now := now, captures := [⟨0x100000, none, [], false, 0⟩] }
theorem witness_PagesApplyAtTheirBoundary :
    dev0.ownBoundary 0x162000 = true ∧ dev0.ownBoundary Reg.OVN_CFG = false ∧ (0x51000 : Nat) % 0x1000 = 0 ∧ dev0.part.lanes ≤ 96 ∧
    0 < dev0.part.lanes ∧ dev0.bound 0 = none ∧ (lateLane 0).bound 0 = some 0 ∧ ((lateLane 0).lane 0).mig = none ∧
    (∀ c ∈ (lateLane 0).captures, c.page = 0x100000 → (lateLane 0).now < c.at_ + 250000000) ∧
    (∃ c ∈ (lateLane 250000000).captures, c.page = 0x100000 ∧ c.at_ + 250000000 ≤ (lateLane 250000000).now) ∧
    ((lateLane 250000000).hearth 0).running = true ∧ ((lateLane 250000000).hearth 0).urgOn = false ∧
    ((lateLane 250000000).hearth 0).wait.isSome = true ∧ ((lateLane 250000000).lane 0).prev.length ≤ ((lateLane 250000000).hearth 0).applied ∧
    (lateLane 0).laneOf 0 = some 0 ∧ (dev0.pageApply 0x162000 .intact).migr = false := by decide +kernel

/-- Lane 0 guarded, with or without a shadow, in a device whose DRAM is ready. -/
def grd (shadow started : Bool) : Dev :=
  let d := ((laned dev0).set (Reg.LANE_CTL_GUARD 0) 1).set (Reg.LANE_CTL_EN 0) 1
  let d := { d with lanes := [(0, { started := started })] }
  if shadow then (d.set (Reg.LANE_BIND_SVALID 0) 1).set (Reg.LANE_BIND_SHADOW 0) 5 else d
theorem witness_ScheduleGrantsShadowsInOrder :
    ((dev0.set Reg.SYS_MARGIN_MIGR 1).pageApply 0x162000 .intact).migr = true ∧
    (dev0.is (Reg.LANE_CTL_GUARD 0) = false ∧ dev0.shadowOf 0 = none ∧ dev0.get (Reg.LANE_BIND_GSTATE 0) = 0) ∧
    ((grd true false).set (Reg.LANE_CTL_GUARD 0) 0).is (Reg.LANE_CTL_GUARD 0) = false ∧ ((grd true false).shadowOf 0).isSome = true ∧
    (grd false true).is (Reg.LANE_CTL_GUARD 0) = true ∧ (grd false true).is (Reg.LANE_CTL_EN 0) = true ∧ (grd false true).shadowOf 0 = none ∧
    ((grd false false).lane 0).started = false ∧ ((grd false true).lane 0).halted = false ∧
    (({ grd false true with lanes := [(0, { started := true, halted := true })] } : Dev).lane 0).halted = true ∧
    ((grd true true).set (Reg.LANE_CTL_EN 0) 0).is (Reg.LANE_CTL_EN 0) = false ∧ ((grd false true).set (Reg.LANE_CTL_EN 0) 0).shadowOf 0 = none ∧ ((grd false true).lane 0).started = true ∧ ((grd false true).bound 0).isSome = true ∧
    (grd false true).hearthsIn stFree = [] := by decide +kernel
theorem witness_ImmediateModeIsWritten :
    (∀ p ∈ allPages dev0.part, (dev0.rd (p + 0xFFC)).getLsbD 31 = false) := by decide +kernel
theorem witness_TimeTickAdvancesTheTime :
    (rsd { asserted := true, level := 3, banked := true }).ticking = false ∧ ({ act with rst := { steps := [] } } : Dev).ticking = true ∧ act.captures = [] ∧ act.cap.snap = none ∧ act.armed = none ∧
    act.hearths = [] ∧ act.clk.tset = none ∧ act.clk.frac < 2 ^ 32 ∧ (act.wr Reg.CLK_TRIMUSE 0).rd Reg.CLK_TRIMUSE = 0 ∧
    act.is Reg.CLK_TSTAT_SLEWING = false ∧ ({ act with clk := { tset := some 9 } } : Dev).clk.tset = some 9 := by decide

/-- A schedule that grants: the DRAM's TI region has room, and hearth 9 is free. -/
def grdFree : Dev := ((grd false true).set (Reg.HST_STAT_STATE 9) stFree).set (Reg.ASH_RGN_SIZE 0) 0x400
theorem witness_ScheduleGrantsAFreeHearth : grdFree.hearthsIn stFree = [9] ∧ (grdFree.grantShadow 0 9).isSome = true := by decide +kernel
/-! ## Witnesses: the capture block -/

/-- The mantel has full firmware and core 2 is a calibrated standby; the cores stand in states `a`, `b`, `c`. -/
def capDev (a b c : Nat) (x : Cap) : Dev :=
  { ((((dev0.set Reg.SYS_MARGIN_MIGR 1).set Reg.CAP_ROLE_CORE_SB 2).set Reg.CAP_ROLE_CORE_A 0).set Reg.CAP_ROLE_CORE_B 1).set (Reg.CAP_CC_STAT_STATE 0) a
      |>.set (Reg.CAP_CC_STAT_STATE 1) b |>.set (Reg.CAP_CC_STAT_STATE 2) c with
    cap := { x with cores := [(2, { calibrated := true })] } }
def rot0 (p : RotPhase) : Rotation := ⟨p, 0, 2, 0, 0, 1000000, 0, [], 0, 0, 0, [], (0, 0, 0), (0, 0, 0)⟩
def snap0 (mode : Nat) (running ring aborting : Bool) : Snap :=
  ⟨mode, 0, false, 0, ring, 0, [], 0, 8, 12352, 0, 0, 0, 0, [], none, {}, [{ frames := 128 }],
    [(0, { full := [(List.replicate 256 s0, 0)] })], aborting, running⟩
/-- Core 0 has failed, core 2 is to take role A. -/
def rep0 : Replacing := ⟨0, 2, 0, 0, false⟩
/-- A tone of the reference's frequency and level, whose two runs agree. -/
def good : CalMeas := ⟨1000000, 0, 0, 0, []⟩

theorem witness_CaptureCommandStatus :
    (dev0.set Reg.CAP_CMDSTAT_BUSY 1).held 2 = false ∧ ((dev0.set Reg.CAP_CMDSTAT_BUSY 1).rd Reg.CAP_CMDSTAT).getLsbD 0 = true := by decide
theorem witness_CaptureCommandsAnswer :
    (let d := capDev 4 4 1 {}
     d.held 2 = false ∧ (d.rd Reg.CAP_CMDSTAT).getLsbD 0 = false ∧ d.cap.rot = none ∧ d.migr = true ∧ d.standbyCore.isSome = true ∧ d.cap.replacing = none ∧
     d.get Reg.CAP_ROLE_CORE_SB ≠ 3 ∧ d.get (Reg.CAP_CC_STAT_STATE (d.get Reg.CAP_ROLE_CORE_SB)) = 1 ∧ d.cap.snap = none) ∧
    (dev0.migr = false ∧ (capDev 4 4 5 {}).standbyCore = none ∧ (capDev 4 4 2 {}).get (Reg.CAP_CC_STAT_STATE 2) ≠ 1 ∧
     (dev0.set Reg.CAP_ROLE_CORE_SB 3).get Reg.CAP_ROLE_CORE_SB = 3) ∧
    (capDev 4 4 1 { rot := some (rot0 .coarse) }).cap.rot.isSome = true ∧ (rot0 .crossfade).phase = .crossfade ∧ (rot0 .coarse).phase ≠ .crossfade ∧
    (capDev 4 4 1 { snap := some (snap0 0 true false false) }).cap.snap = some (snap0 0 true false false) ∧
    (capDev 4 4 1 { snap := some (snap0 0 false false false) }).cap.snap.isSome = true ∧
    (((capDev 4 4 1 {}).set Reg.CAP_SNAPCFG_RING 1).is Reg.CAP_SNAPCFG_RING = true ∧ (capDev 4 4 1 {}).get Reg.CAP_SNAPCFG_TRIG = 0) ∧
    (capDev 4 4 1 {}).snapStatus ≠ 0 ∧ (capDev 4 4 1 { replacing := some rep0 }).cap.replacing.isSome = true ∧
    ((capDev 4 4 1 {}).get (Reg.CAP_CC_STAT_STATE ((capDev 4 4 1 {}).roleCore 0)) = 4 ∧ (capDev 3 4 1 {}).get (Reg.CAP_CC_STAT_STATE ((capDev 3 4 1 {}).roleCore 0)) ≠ 4) ∧
    ((((capDev 4 4 1 {}).set Reg.ASH_STAT_READY 1).set (Reg.ASH_RGN_SIZE 3) 64).set Reg.CAP_SNAPLEN_UNITS 8).snapStatus = 0 := by decide +kernel
theorem witness_RotationRunsItsPhases :
    (capDev 4 4 3 { rot := some (rot0 .fine) }).cap.rot.isSome = true ∧ (capDev 4 4 1 {}).cap.rot = none ∧
    (∀ p ∈ [RotPhase.connect, .firstRun, .secondRun, .applying, .moved, .coarse, .fine, .verify, .crossfade, .refreshWait, .refreshFirst, .refreshSecond,
      .refreshApply], (capDev 4 4 3 { rot := some (rot0 p) }).cap.rot = some (rot0 p) ∧ (capDev 4 4 3 { rot := some (rot0 p) }).held 2 = false) ∧
    toneOk (rot0 .secondRun).refF (rot0 .secondRun).refL good = true ∧ toneOk (rot0 .secondRun).refF (rot0 .secondRun).refL { good with toneHz := 1010001 } = false ∧
    calAgree 2 good = true ∧ calAgree 2 { good with dPhase := 21 } = false ∧ (50 : Int).natAbs ≤ 50 ∧ (-30 : Int).natAbs ≤ 30 ∧ ¬(51 : Int).natAbs ≤ 50 := by decide
theorem witness_RotationTimers :
    (let d := (({ capDev 4 4 1 { periodicOk := true } with now := 60000000000 } : Dev).set Reg.CAP_ROTCFG_PERIOD 1).set Reg.CAP_ROTCFG_AUTO 1
     d.cap.rotEnd + d.get Reg.CAP_ROTCFG_PERIOD * 60000000000 ≤ d.now ∧ d.cap.rot = none ∧ d.migr = true ∧ d.standbyCore.isSome = true ∧
     d.cap.replacing = none ∧ d.cap.periodicOk = true ∧ d.is Reg.CAP_ROTCFG_AUTO = true ∧ d.coreRun = false) ∧
    dev0.migr = false ∧
    (let d := { capDev 4 4 3 { rot := some (rot0 .fine) } with now := 100000000 }
     d.held 2 = false ∧ d.cap.rot = some (rot0 .fine) ∧ (rot0 .fine).alignAt + 100000000 ≤ d.now) ∧
    (capDev 4 4 3 { rot := some (rot0 .fine) }).now < 100000000 := by decide
theorem witness_GainIndexSplits : 87 ≤ 99 ∧ splitGain 87 = (3, 12) ∧ splitGain 0 = (0, 63) ∧ splitGain 99 = (3, 0) := by decide
theorem witness_FramesMarkCountAndSet :
    (capDev 0 5 1 {}).get (Reg.CAP_CC_STAT_STATE 0) = 0 ∧ (capDev 0 5 1 {}).get (Reg.CAP_CC_STAT_STATE 1) = 5 ∧
    (let d := ((capDev 4 4 1 {}).set (Reg.CAP_CC_CTL_MODE 0) 1)
     d.get (Reg.CAP_CC_STAT_STATE 0) ≠ 0 ∧ d.get (Reg.CAP_CC_STAT_STATE 0) ≠ 5 ∧ d.cap.rot = none ∧ d.get (Reg.CAP_CC_CTL_MODE 0) = 1 ∧
     d.coreBlanked 0 = false ∧ d.roleOf 0 = some 0 ∧ d.cap.replacing = none ∧ (d.capCore 0).stepped = false ∧ d.is Reg.CLK_STAT_LOCK = false) := by decide

/-- Core 0 in service, its RMS at `lvl` tenths of a dB below full scale as a signed field, its gain index at `g`, at time `now`. -/
def slow (lvl : Int) (g now : Nat) : Dev :=
  ((({ capDev 4 4 1 {} with now := now } : Dev).setI (Reg.CAP_CC_LVL_RMS 0) lvl).set (Reg.CAP_CC_STAT_GIDX 0) g).set (Reg.CAP_CC_AGC_DECAY 0) 1
    |>.set (Reg.CAP_CC_AGC_TARGET 0) 24 |>.set (Reg.CAP_CC_AGC_HYST 0) 2 |>.set (Reg.CAP_CC_CTL_GMAX 0) 90
theorem witness_LevelsAndSlowLoop :
    (let d := slow (-100) 50 1000000
     d.held 2 = false ∧ d.get (Reg.CAP_CC_STAT_STATE 0) = 4 ∧ (d.capCore 0).mode = 0 ∧ d.coreBlanked 0 = false ∧ d.rotFrozen 0 = false ∧
     (d.capCore 0).decayAt + d.get (Reg.CAP_CC_AGC_DECAY 0) * 1000000 ≤ d.now ∧ d.is (Reg.CAP_CC_STAT_STALE 0) = false) ∧
    (slow 0 50 0).now < 1000000 ∧
    (-5 * (24 : Int) + 5 * 2 < (slow (-100) 50 1000000).getI (Reg.CAP_CC_LVL_RMS 0) ∧ 0 < (slow (-100) 50 1000000).get (Reg.CAP_CC_STAT_GIDX 0)) ∧
    ((slow (-140) 50 1000000).getI (Reg.CAP_CC_LVL_RMS 0) < -5 * 24 - 5 * 2 ∧ (slow (-140) 50 1000000).getI (Reg.CAP_CC_LVL_RMS 0) ≤ -5 * 24 + 5 * 2 ∧ (slow (-140) 50 1000000).get (Reg.CAP_CC_STAT_GIDX 0) < (slow (-140) 50 1000000).get (Reg.CAP_CC_CTL_GMAX 0) ∧
     ((slow (-140) 50 1000000).capCore 0).holdTo ≤ 1000000) ∧
    (-130 ≤ (slow (-120) 50 1000000).getI (Reg.CAP_CC_LVL_RMS 0) ∧ (slow (-120) 50 1000000).getI (Reg.CAP_CC_LVL_RMS 0) ≤ -110) ∧
    (slow (-140) 90 1000000).get (Reg.CAP_CC_CTL_GMAX 0) ≤ (slow (-140) 90 1000000).get (Reg.CAP_CC_STAT_GIDX 0) ∧
    ((slow 0 50 0).set (Reg.CAP_CC_STAT_STALE 0) 1).is (Reg.CAP_CC_STAT_STALE 0) = true ∧
    ((slow 0 50 0).set (Reg.CAP_CC_CTL_TRACK 0) 0).is (Reg.CAP_CC_CTL_TRACK 0) = false ∧ (∀ p < 8, (slow 0 50 0).rd (Reg.CAL_VAL 0 (108 + 2 * p)) = 0) := by decide +kernel
theorem witness_BlankingOpensAndCloses :
    (dev0.set Reg.CAP_BLKCFG_EN_A 1).is Reg.CAP_BLKCFG_EN_A = true ∧ (dev0.blank 0).active = false ∧
    (({ dev0 with cap := { blankA := { active := true } } } : Dev).blank 0).active = true ∧
    (dev0.set Reg.CAP_BLKCFG_EN_B 0).is Reg.CAP_BLKCFG_EN_B = false ∧ (dev0.blank 1).active = false ∧
    (let d := ({ dev0 with now := 5000000, cap := { blankA := { active := true } } } : Dev).set Reg.CAP_BLKCFG_STUCK 5
     d.held 2 = false ∧ (d.blank 0).stuckRaised = false ∧ (d.blank 0).since + d.get Reg.CAP_BLKCFG_STUCK * 1000000 ≤ d.now) := by decide
theorem witness_MonitorsSuspectAndFail :
    (let d := capDev 4 4 1 {}
     d.held 2 = false ∧ d.get (Reg.CAP_CC_STAT_STATE 0) = 4 ∧ d.roleOf 0 = some 0 ∧ d.get Reg.CAP_ROLE_CORE_SB ≠ 0 ∧ d.standbyCore.isSome = true ∧
     d.migr = true ∧ d.cap.rot = none ∧ d.cap.replacing = none ∧ d.cal.cmd = none ∧ d.is (Reg.CAP_CC_STAT_SUSPECT 0) = false ∧ d.evtFree Reg.CAP_EVT 3 0 = true) ∧
    (capDev 4 4 5 {}).rotReady = false ∧ monitorLevel 1 7 true = 2 ∧ monitorLevel 1 7 false = 1 ∧ monitorLevel 5 3 false = 0 := by decide
theorem witness_ReplacementTakesTheRole :
    dev0.cap.replacing = none ∧ (capDev 5 4 3 { replacing := some rep0 }).held 2 = false ∧
    (capDev 5 4 3 { replacing := some rep0 }).cap.replacing = some rep0 ∧ rep0.failed < 3 ∧ rep0.s < 3 ∧ rep0.role < 2 ∧ rep0.joined = false ∧
    (let g := (capDev 5 4 3 { replacing := some rep0 }).gainAt 0 0
     g.1 < 4 ∧ g.2 < 64) := by decide
theorem witness_SnapshotWritesItsRecords :
    dev0.cap.snap = none ∧ (capDev 4 4 1 { snap := some (snap0 0 true true false) }).held 2 = false ∧
    (snap0 0 true true false).running = true ∧ (snap0 0 false true false).running = false ∧ (snap0 0 true true false).full = { frames := 128 } :: [] ∧
    (snap0 0 true true false).aborting = false ∧ (snap0 0 true true true).aborting = true ∧
    (snap0 0 true true false).trigRec = none ∧ (snap0 0 true true false).ring = true ∧
    (snap0 0 true false false).ring = false ∧ (snap0 0 true false false).written + 1 < (snap0 0 true false false).n ∧
    ({ snap0 0 true false false with written := 7 }.ring = false ∧ { snap0 0 true false false with written := 7 }.n ≤ 7 + 1) ∧
    (let x := { snap0 0 true true false with written := 5, post := 2, trigRec := some (4, 0) }
     x.trigRec = some (4, 0) ∧ x.written < 4 + x.post) ∧
    (let x := { snap0 0 true true false with written := 6, post := 2, trigRec := some (4, 0) }
     4 + x.post ≤ x.written) ∧
    ({ snap0 0 true true false with full := [] } : Snap).full = [] ∧ (snap0 1 true true false).mode ≠ 0 ∧
    (SMap.get {} (snap0 1 true true false).lacc 0 : SnapLane).full = (List.replicate 256 s0, 0) :: [] ∧
    true ≠ ((snap0 0 true true false).mode != 0) ∧
    (SMap.get {} (snap0 1 true true false).lacc 1 : SnapLane).full = [] := by decide +kernel
/-! ## Witnesses: the grate, lanes and hearths -/

/-- Lane 0's chain runs. -/
def runs0 : Dev := dev0.set (Reg.GRT_LSTAT_RUN 0 0) 1
theorem witness_LaneSamplesMarkAndCount :
    ((∀ p ∈ ({ marks := [(64, 128)] } : GrateBank).spans 64, p.2 ≤ 0 ∨ 64 ≤ p.1) ∧ (∀ p ∈ ({ marks := [(64, 128)] } : GrateBank).spans 64, p.1 < p.2)) ∧
    (∃ p ∈ ({ marks := [(64, 128)] } : GrateBank).spans 128, p.1 ≤ 64 ∧ 128 ≤ p.2) ∧ (∃ p ∈ ({ gap := some 64 } : GrateBank).spans 200, p.1 ≤ 100 ∧ 200 ≤ p.2) ∧
    (∃ p ∈ ({ marks := [(64, 128)] } : GrateBank).spans 100, p.1 < 100 ∧ 0 < p.2) ∧
    ((runs0.lane 0).next * runs0.grid 0 + runs0.laneDelay 0 ≤ ({ runs0 with scount := 1000000000 } : Dev).scount ∧
     runs0.scount < (runs0.lane 0).next * runs0.grid 0 + runs0.laneDelay 0) ∧
    dev0.is (Reg.GRT_LSTAT_RUN 0 0) = false ∧ runs0.is (Reg.GRT_LSTAT_RUN 0 0) = true ∧ 0 < runs0.part.lanes ∧ runs0.held 3 = false ∧
    (runs0.wr Reg.RST_BLK 8).held 3 = true ∧ runs0.captures.filter (fun c => c.page == pageOf (Reg.GRT_LCFG 0 0)) = [] ∧
    (32767 < (32768 : Int).natAbs) ∧ (32767 < (-32768 : Int).natAbs) ∧ ¬32767 < (-32767 : Int).natAbs ∧
    (runs0.set (Reg.GRT_LGAIN_ETHR 0 0) 5).get (Reg.GRT_LGAIN_ETHR 0 0) = 5 ∧ (runs0.set (Reg.GRT_LGAIN_ETHR 0 0) 0).get (Reg.GRT_LGAIN_ETHR 0 0) = 0 ∧
    (runs0.set (Reg.GRT_LSTAT_REFILL 0 0) 1).is (Reg.GRT_LSTAT_REFILL 0 0) = true := by decide
theorem witness_GrateEventsAct :
    (let d := { runs0.set (Reg.GRT_LSTAT_REFILL 0 0) 1 with scount := 64, lanes := [(0, { refillTo := 64 })] }
     0 < d.part.lanes ∧ d.is (Reg.GRT_LSTAT_REFILL 0 0) = true ∧ (d.lane 0).refillTo ≤ d.scount) ∧
    (runs0.set (Reg.GRT_LSTAT_REFILL 0 0) 1).held 3 = false ∧ (runs0.set (Reg.GRT_LSTAT_REFILL 0 0) 0).is (Reg.GRT_LSTAT_REFILL 0 0) = false ∧
    runs0.evtFree Reg.GRT_EVT 0 0 = true ∧ (({ runs0 with lanes := [(0, { sat := true })] } : Dev).lane 0).sat = true ∧
    (∀ m < runs0.part.lanes, (runs0.lane m).sat = false) ∧
    (let d := ({ runs0 with binCount := 16 } : Dev).set Reg.GRT_BANKCFG_PWREN 1 |>.set Reg.GRT_BANKCFG_AVG 4
     d.is Reg.GRT_BANKCFG_PWREN = true ∧ 2 ^ d.get Reg.GRT_BANKCFG_AVG ≤ d.binCount ∧ d.evtFree Reg.GRT_EVT 3 0 = true) ∧
    ¬(dev0.is Reg.GRT_BANKCFG_PWREN = true ∧ 2 ^ dev0.get Reg.GRT_BANKCFG_AVG ≤ dev0.binCount) := by decide

/-- Lane 0 bound to hearth 0, whose state is PRIMARY; hearth 9 FREE when `free`, hearth 5 RETIRED. -/
def fleet (free : Bool) (l : Lane) (x : Hearth) : Dev :=
  let d := (((laned dev0).setHearth 0 x).set Reg.SYS_MARGIN_MIGR 1).set (Reg.HST_STAT_STATE 0) stPrimary
  { (d.set (Reg.HST_STAT_STATE 9) (if free then stFree else stRetired)).set (Reg.HST_STAT_STATE 5) stRetired with lanes := [(0, l)] }
/-- The same with no hearth bound to lane 0. -/
def unbound (free : Bool) : Dev := (fleet free {} {}).set (Reg.LANE_BIND_HVALID 0) 0
/-- Every hearth RETIRED, none bound. -/
def quiet (l : Lane) : Dev :=
  { dev0 with regs := (List.range 104).map (fun k => (Reg.HST_STAT k, 0x80000000)), lanes := [(0, l)] }
theorem witness_LaneCommandsAnswer :
    dev0.part.lanes ≤ 127 ∧ ((fleet true {} {}).rd (Reg.LANE_CMDSTAT 0)).getLsbD 0 = false ∧
    (((fleet true {} {}).set (Reg.LANE_CMDSTAT_BUSY 0) 1).rd (Reg.LANE_CMDSTAT 0)).getLsbD 0 = true ∧
    (fleet true {} {}).migrating 0 = false ∧ (fleet true { resync := some 0 } {}).migrating 0 = true ∧ ((fleet true {} {}).bound 0) = some 0 ∧
    (unbound true).bound 0 = none ∧ (unbound true).migrating 0 = false ∧ (unbound true).hearthsIn stFree = [9] ∧ (unbound false).hearthsIn stFree = [] ∧
    (quiet {}).awaitsTest = false ∧ (quiet {}).bound 0 = none ∧ (quiet {}).hearthsIn stFree = [] ∧ (quiet {}).migrating 0 = false ∧ (unbound false).awaitsTest = true ∧
    (unbound true).hstate 5 = stRetired ∧ (unbound true).hstate 9 = stFree ∧ (unbound true).hstate 0 = stPrimary ∧
    (unbound false).hstate 3 = stUntested ∧
    (let d := (unbound true).set (Reg.HST_STAT_STATE 2) stTesting |>.setHearth 2 { testKind := 1 }
     d.hstate 2 = stTesting ∧ (d.hearth 2).testKind = 1) ∧ (unbound true).part.hearths ≤ 126 ∧ 126 ≠ 0x7F := by decide +kernel
theorem witness_LaneMoves :
    ((fleet true {} {}).set (Reg.LANE_CTL_EN 0) 1).is (Reg.LANE_CTL_EN 0) = true ∧ (fleet true {} {}).is (Reg.LANE_CTL_EN 0) = false ∧
    dev0.migr = false ∧ (fleet true {} {}).migr = true ∧ (fleet false {} {}).hearthsIn stFree = [] ∧ (fleet true {} {}).nameStatus 5 = 8 ∧
    (fleet true {} {}).nameStatus 9 = 0 ∧ ((fleet true {} {}).hearth 0).running = false ∧ ((fleet true {} { running := true }).hearth 0).running = true ∧
    (unbound true).migr = true ∧
    (let d := (fleet true { resync := some 0 } { running := true }).set (Reg.LANE_CTL_EN 0) 1
     d.bound 0 = some 0 ∧ d.is (Reg.LANE_CTL_EN 0) = true ∧ d.migrating 0 = true ∧ (d.hearth 0).running = true) ∧
    ((fleet true { started := true } {}).lane 0).started = true ∧
    (let d := (fleet true { resync := some 0, halted := true } {}).set (Reg.LANE_CTL_EN 0) 1
     d.bound 0 = some 0 ∧ d.is (Reg.LANE_CTL_EN 0) = true ∧ d.migrating 0 = true ∧ (d.lane 0).halted = true) ∧
    (fleet true {} {}).nameStatus 126 ≠ 0 := by decide +kernel

/-- Lane 0 waits for a hearth. -/
def waiting (w : Option Nat) (free : Bool) : Dev := { unbound free with lanes := [(0, { waitBind := some w })] }
theorem witness_DeferredBindTakesAHearth :
    (dev0.lane 0).waitBind = none ∧ ((waiting (some 0x7F) true).lane 0).waitBind = some (some 0x7F) ∧ (waiting (some 0x7F) true).hearthsIn stFree = [9] ∧
    ((waiting (some 9) true).lane 0).waitBind = some (some 9) ∧ (waiting (some 9) true).hstate 9 = stFree ∧ (waiting (some 9) false).hstate 9 = stRetired ∧
    ((waiting none true).lane 0).waitBind = some none ∧ (waiting none false).hearthsIn stFree = [] ∧
    (quiet { waitBind := some none }).awaitsTest = false ∧ (quiet { waitBind := some none }).hearthsIn stFree = [] ∧
    ((waiting (some 0) false).hstate 0 ≠ stFree ∧ (waiting (some 0) false).hstate 0 ≠ stRetired) ∧
    (waiting none false).awaitsTest = true := by decide +kernel

/-- Hearth 2 in a state, under a test of a kind. -/
def tested (st kind : Nat) : Dev := (dev0.setHearth 2 { testKind := kind }).set (Reg.HST_STAT_STATE 2) st
/-- Rolling self-test is on, over the hearths from `next` when `scope`. -/
def rolls (scope : Bool) (r : Rolling) : Dev :=
  { ((dev0.set Reg.HMG_RSTCFG_EN 1).set Reg.SYS_MARGIN_MIGR 1).set Reg.HMG_RSTCFG_HEARTHS (if scope then 1 else 0)
      |>.set Reg.HMG_RSTCFG_LDPC 0 |>.set Reg.HMG_RSTCFG_TRELLIS 0 with rolling := r }
theorem witness_HearthsAreTestedAndRetired :
    ((dev0.hearthsIn stTesting).filter (fun h => (dev0.hearth h).testKind == 1) = []) ∧
    ((tested stTesting 1).hearthsIn stTesting).filter (fun h => ((tested stTesting 1).hearth h).testKind == 1) = [2] ∧
    dev0.hstate 2 ≠ stIsolated ∧ (tested stIsolated 4).hstate 2 = stIsolated ∧ ((tested stIsolated 4).hearth 2).testKind = 4 ∧
    ((tested stIsolated 0).hearth 2).testKind ≠ 4 ∧ dev0.migr = false ∧
    (let d := rolls true { suspects := [5, 130] }
     d.is Reg.HMG_RSTCFG_EN = true ∧ d.migr = true ∧ d.rolling.unit = none ∧ d.rolling.startedAt = 0 ∧ d.rolling.suspects = 5 :: [130]) ∧
    (let d := { (rolls true { startedAt := 1 }).set Reg.HMG_RSTCFG_PERIOD 1 with now := 1000000000 }
     d.rolling.startedAt - 1 + d.get Reg.HMG_RSTCFG_PERIOD * 1000000000 ≤ d.now) ∧
    (rolls true { suspects := [130] }).rolling.suspects = 130 :: [] ∧ (∀ v < 152, (rolls false {}).inScope v = false) ∧
    (rolls true { next := 7 }).inScope 7 = true ∧ (tested stFree 0).hstate 2 = stFree ∧ ((tested stFree 0).hstate 2 ≠ stTesting) ∧
    ((tested stTesting 2).hstate 2 = stTesting ∧ ((tested stTesting 2).hearth 2).testKind = 2) ∧ ((tested stTesting 4).hearth 2).testKind = 4 ∧
    ((rolls true { unit := some 130 }).set (Reg.OVN_OSTAT_STATE 2) 2).get (Reg.OVN_OSTAT_STATE (130 - 128)) = 2 ∧
    (rolls true { unit := none }).rolling.unit ≠ some 130 := by decide +kernel
theorem witness_SilenceIsAFailure :
    (let d := { fleet true {} { running := true, wait := none } with now := 10000 }
     (d.hearth 0).running = true ∧ (d.hearth 0).wait = none ∧ (d.hearth 0).lastRetire + 10000 ≤ d.now ∧ (∀ m, d.laneOf 0 = some m → m < d.part.lanes)) ∧
    dev0.laneOf 0 = none ∧ (fleet true {} {}).laneOf 0 = some 0 ∧
    (let d := { (fleet true {} { running := true }).set (Reg.LANE_CTL_WDOG 0) 1 with now := 10000000 }
     (d.hearth 0).running = true ∧ d.get (Reg.LANE_CTL_WDOG 0) ≠ 0 ∧ (d.hearth 0).lastTick + d.get (Reg.LANE_CTL_WDOG 0) * 10000000 ≤ d.now ∧
     d.bound 0 = some 0 ∧ (d.lane 0).stallAt = 0) ∧
    (unbound true).bound 0 ≠ some 0 ∧ (unbound true).laneOf 0 = some 0 ∧
    (let d := fleet true { stallAt := 1 } { running := true }
     (d.lane 0).stallAt ≠ 0 ∧ d.now < (d.lane 0).stallAt - 1 + 10000000000) := by decide +kernel
theorem witness_FailureMigratesToASpare :
    dev0.hstate 2 < 2 ∧ (2 ≤ (tested stFree 0).hstate 2 ∧ (tested stFree 0).hstate 2 ≤ 5 ∧ (tested stFree 0).laneOf 2 = none) ∧
    (let d := fleet true {} { running := true }
     3 ≤ d.hstate 0 ∧ d.hstate 0 ≤ 5 ∧ 0 < d.part.lanes ∧ d.laneOf 0 = some 0 ∧ d.bound 0 = some 0 ∧ (d.hearth 0).running = true ∧ (d.lane 0).mig = none ∧
     (d.lane 0).swap = none ∧ d.shadowOf 0 = none ∧ d.migr = true ∧ d.hearthsIn stFree = 9 :: [] ∧ (d.hearth 9).set = none) := by decide +kernel

/-- A migration of lane 0 from hearth 0 to hearth 9. -/
def mig0 (k : MigKind) (loaded live spliced : Bool) : Mig := { newMig k 0 9 0 0 none with loaded := loaded, live := live, spliced := spliced }
/-- Lane 0 migrates; hearth 9 has set 0 when `set`. -/
def migd (m : Mig) (set : Option SetMem) : Dev :=
  let d := fleet false { mig := some m } {}
  match set with
  | some t => { d.setHearth 9 { set := some 0 } with ash := { sets := [(0, some t)] } }
  | none => d
theorem witness_MigrationTakesItsSteps :
    (dev0.lane 0).mig = none ∧ ((migd (mig0 .unplanned false false false) none).lane 0).mig = some (mig0 .unplanned false false false) ∧
    (mig0 .unplanned true false false).loaded = true ∧ ((mig0 .unplanned false false false).loaded = false ∧ (mig0 .unplanned false false false).copying = false) ∧
    (let e := ((migd (mig0 .unplanned false false false) none).loadDamage 0 .intact).2
     e.tiArea 9 = none) ∧
    (let e := ((migd (mig0 .unplanned false false false) (some set0)).loadDamage 0 .intact).2
     e.tiArea 9 = some (0, set0) ∧ e.pickCkpt 0 set0 ((e.lane 0).sampleAt 0) = none) ∧
    ((mig0 .planned true true false).kind = .planned ∧ (mig0 .planned true true false).live = true ∧ (mig0 .planned true true false).test = false ∧
     (mig0 .planned true true false).ahead = [] ∧ (mig0 .planned true true false).fade = [] ∧
     ((migd (mig0 .planned true true false) none).lane 0).halted = false ∧ ((migd (mig0 .planned true true false) none).hearth 0).flq = [] ∧
     ((migd (mig0 .planned true true false) none).hearth 9).own = [] ∧ (mig0 .planned true true false).dst < (migd (mig0 .planned true true false) none).part.hearths) ∧
    (mig0 .planned true false false).live = false ∧ (mig0 .unplanned true true true).spliced = true ∧ (mig0 .unplanned true true false).spliced = false ∧
    (let d := (migd (mig0 .unplanned true true false) none).set (Reg.LANE_DRAW_ACTIVE 0) 100
     d.now < (mig0 .unplanned true true false).fault + d.get (Reg.LANE_DRAW_ACTIVE 0) * 1000000 ∧
     (mig0 .unplanned true true false).fault + d.get (Reg.LANE_DRAW_ACTIVE 0) * 1000000 ≤ ({ d with now := 100000000 } : Dev).now) := by decide +kernel
/-- A hearth that replays, at the live point and before it; a lane's resync; a lane that lost lock. -/
theorem witness_ReplayResyncAndLoss :
    (let d := fleet true { bk := [⟨0, [], [0, 0, 0, 0, 0], false⟩] } { replay := some 5 }
     (d.hearth 0).fifo.length + (d.replayRest 0 5).length ≤ 1024) ∧
    (dev0.hearth 0).replay = none ∧ ((fleet true { bk := [⟨0, [], [0, 0, 0, 0, 0], false⟩] } { replay := some 4 }).hearth 0).replay = some 4 ∧
    4 < ((fleet true { bk := [⟨0, [], [0, 0, 0, 0, 0], false⟩] } { replay := some 4 }).lane 0).bkNext ∧ ((fleet true { bk := [⟨0, [], [0, 0, 0, 0, 0], false⟩] } { replay := some 5 }).lane 0).bkNext ≤ 5 ∧
    ((((fleet true { swap := some 0 } { replay := some 0 }).goLive 0 0 0).lane 0).swap = some 0) ∧
    (let g := ((fleet true {} { replay := some 0 }).set (Reg.LANE_BIND_SVALID 0) 1).goLive 0 0 0
     (g.lane 0).swap ≠ some 0 ∧ g.shadowOf 0 = some 0) ∧
    (let g := (fleet true {} { replay := some 0 }).goLive 0 0 0
     (g.lane 0).swap ≠ some 0 ∧ g.shadowOf 0 ≠ some 0 ∧ (g.lane 0).mig = none) ∧
    (let q := { mig0 .unplanned true false false with dst := 0 }
     let g := (fleet true { mig := some q } { replay := some 0 }).goLive 0 0 0
     g.shadowOf 0 ≠ some 0 ∧ (g.lane 0).mig = some q ∧ q.dst = 0) ∧
    (dev0.lane 0).resync = none ∧ ((fleet true { resync := some 3 } {}).lane 0).resync = some 3 ∧ (fleet true { resync := some 3 } {}).bound 0 = some 0 ∧
    (let d := { fleet true { lockFell := 1 } {} with now := 1000000000 }
     (d.lane 0).lockFell ≠ 0 ∧ (d.lane 0).lockFell - 1 + 1000000000 ≤ d.now) := by decide +kernel
/-- A valid checkpoint slot, taken before the fault, that the backlog still reaches. -/
theorem witness_UsableCheckpoint :
    (let sm : SetMem := { set0 with slot0 := some ⟨2, 0, true⟩, valid := some 0 }
     let l : Lane := { next := 9, bk := [⟨0, [], [0, 0, 0, 0, 0], false⟩], mig := some { mig0 .unplanned false false false with faultT := 4 } }
     let d := { (fleet false l {}).setHearth 9 { set := some 0 } with ash := { sets := [(0, some sm)] } }
     let e := (d.loadDamage 0 .intact).2
     e.tiArea 9 = some (0, sm) ∧ e.pickCkpt 0 sm ((e.lane 0).sampleAt 4) = some (0, ⟨2, 0, true⟩)) := by decide
/-- R147: a frame whose weight is not zero is left out of the sum of |x|²: 9 + 16 + 1. -/
theorem test_binSum : binSum [true, false, true] [[(3, -4)], [(7, 7)], [(0, 1)]] 0 = 26 := by decide
/-! ## Witnesses: the program store and the firewatch -/

/-- Slot 0 in a state, VERIFY or ERASE running when `cmd`. -/
def slotDev (st : Nat) (cmd : Option (Nat × Nat)) (erasing : List Nat) : Dev :=
  { dev0.set (Reg.PST_SLOT_STATE 0) st with store := { cmd := cmd, erasing := erasing } }
theorem witness_StoreCommandsStartOrFail :
    ((dev0.set Reg.PST_CMDSTAT_BUSY 1).rd Reg.PST_CMDSTAT).getLsbD 0 = true ∧ (dev0.rd Reg.PST_CMDSTAT).getLsbD 0 = false ∧
    (∀ st < 6, (slotDev st none []).get (Reg.PST_SLOT_STATE 0) = st) ∧ (slotDev 2 none []).is (Reg.PST_SLOT_PIN 0) = false ∧
    ((slotDev 2 none []).set (Reg.PST_SLOT_PIN 0) 1).is (Reg.PST_SLOT_PIN 0) = true := by decide
/-- The bytes that differ from zero of an unsigned image of 324 bytes and one section; its CRC by R246 is 0xF89B084F. -/
def unsigned : Memory :=
  [(0, 0x53), (1, 0x4D), (2, 0x48), (3, 0x4C), (4, 1), (5, 3), (0x10, 0x44), (0x11, 1), (0x20, 1), (0x24, 0x4F), (0x25, 0x08), (0x26, 0x9B), (0x27, 0xF8),
    (0x80, 1), (0x85, 1), (0x8C, 4), (0x100, 0x5A)].map (fun c => (c.1, BitVec.ofNat 8 c.2))
/-- A development device that verifies it. -/
def vfy : Dev := { (slotDev 1 none []).set Reg.PST_EPOCH_DEV 1 with store := { mem := unsigned, cmd := some (1, 0) } }
/-- The register of R246's CRC after the first 40 bytes is the value given. -/
theorem crc_forty {l : List Byte} {c : Word} (v : Word) (h : (l.take 40).foldl crcByte c = v) : l.foldl crcByte c = (l.drop 40).foldl crcByte v := by
  rw [← h, ← List.foldl_append, List.take_append_drop]
theorem test_crc_of_image : imgCrcOk (vfy.slotBytes 0) = true := by
  have h : crc32 (imgBody (vfy.slotBytes 0)) = 0xF89B084F := by
    unfold crc32
    rw [crc_forty 0x3E076C64 (by decide +kernel),
      crc_forty 0x0E011757 (by decide +kernel),
      crc_forty 0x8F304687 (by decide +kernel),
      crc_forty 0x19D5BDC3 (by decide +kernel),
      crc_forty 0x6A5E14CA (by decide +kernel),
      crc_forty 0x317EA7C1 (by decide +kernel),
      crc_forty 0x0764F7B0 (by decide +kernel)]
    decide +kernel
  rw [imgCrcOk, h]
  decide +kernel
theorem test_unsigned_image_verifies : vfy.verifyStatus 0 = 0 := by
  have h : imgHeaderOk (vfy.slotBytes 0) = true ∧ imgSizeOk (vfy.slotBytes 0) = true ∧ imgTableOk (vfy.slotBytes 0) = true ∧ imgSpan (vfy.slotBytes 0) = 1 ∧
      vfy.signerStatus (vfy.slotBytes 0) = 0 ∧ at8 (vfy.slotBytes 0) 0x28 = 0 := by decide +kernel
  simp [Dev.verifyStatus, h, test_crc_of_image, imgSigOk]
theorem test_other_bytes_are_refused : dev0.verifyStatus 0 = 0x40 := by decide +kernel
theorem witness_StoreCommandsComplete :
    (slotDev 1 none []).store.cmd = none ∧ (slotDev 1 none []).evtFree Reg.PST_EVT 0 0 = true ∧
    ((slotDev 1 (some (1, 0)) []).store.cmd = some (1, 0) ∧ (slotDev 1 (some (1, 0)) []).verifyStatus 0 ≠ 0) ∧
    ((slotDev 2 (some (2, 0)) [0]).store.cmd = some (2, 0) ∧ (∀ j ∈ (slotDev 2 (some (2, 0)) [0]).store.erasing, j < 64)) := by decide +kernel
theorem witness_WindowWritesStoreBytes :
    (∀ st ∈ [0, 1, 2, 3, 4, 5], (slotDev st none []).get (Reg.PST_SLOT_STATE (0x7FFC / 0x8000)) = st) ∧ 0x1FFFFC / 0x8000 ≤ 63 ∧ 63 < 0x200000 / 0x8000 ∧
    (5 : BitVec 4) ≠ 0 ∧ dev0.part.lanes ≤ 96 ∧ 0 < dev0.part.lanes ∧ dev0.bound 0 = none ∧ (laned dev0).bound 0 = some 0 := by decide

/-- An event of hearth 0 with tag 7, in flight, the firewatch enabled with default actions `acts` and lane 0's mask bit set. -/
def fwEv (start : Bool) (acts : Nat) : FwEvent :=
  { input := 0, lane := 0, hearth := 0, role := 0, tag := 7, word := if start then 0x80000001 else 1, start := start, late := false, peer := none, acts := acts }
def fwd (acts : Nat) (f : Fire) : Dev :=
  { (((dev0.set Reg.FWT_CFG_EN 1).set Reg.FWT_CFG_DEFACT acts).wr (Reg.FWT_LMASK 0) 1) with fire := f }
theorem witness_FirewatchLatchesEvents :
    dev0.held 1 = false ∧ dev0.fire.flight = [] ∧ (fwd 16 { flight := [fwEv true 0] }).fire.flight = fwEv true 0 :: [] ∧
    ((fwd 16 {}).set Reg.FWT_CFG_EN 0).is Reg.FWT_CFG_EN = false ∧ (fwd 16 {}).is Reg.FWT_CFG_EN = true ∧
    (let f := fwd 16 {}
     f.laneMasked (f.qualify (fwEv true 0)) = false ∧ (f.qualify (fwEv true 0)).acts = 16 ∧ actPin 16 = true ∧
     (SMap.get [] ((f.assertPin).snapTrigger 2).fire.fifo 0).length < 4) ∧
    ((fwd 16 {}).wr (Reg.FWT_LMASK 0) 0).laneMasked (fwEv true 0) = true ∧ ((fwd 0 {}).qualify (fwEv true 0)).acts = 0 ∧
    (let f := fwd 1 { fifo := [(0, List.replicate 4 (fwEv true 1))] }
     f.laneMasked (f.qualify (fwEv true 0)) = false ∧ (f.qualify (fwEv true 0)).acts ≠ 0 ∧
     4 ≤ (SMap.get [] (f.snapTrigger 2).fire.fifo 0).length) := by decide +kernel

/-- Entry 0 of the alert table is valid and active, for the key of `fwEv`. -/
def entry0 : FwEntry := ⟨1, 0x7FFFFFFF, 1, true, 0, 0, [0], 0, 0, false, false⟩
def tabled : Dev := { (fwd 1 { entries := [(0, some entry0)] }).wr (Reg.FWT_ACT_W0 0) (fwWord0 (fwEv true 1)) with now := 1000000000 }
theorem witness_AlertTableTakesEvents :
    (∀ c ∈ (fwd 1 {}).fire.fifo, c.2 = []) ∧ (fwd 1 { fifo := [(0, [fwEv true 1])] }).fwTurn = some 0 ∧
    SMap.get [] (fwd 1 { fifo := [(0, [fwEv true 1])] }).fire.fifo 0 = fwEv true 1 :: [] ∧ (fwEv true 1).start = true ∧ (fwEv false 1).start = false ∧
    tabled.fwFind (fwEv true 1) = some 0 ∧ (fwd 1 {}).fwFind (fwEv true 1) = none ∧ (fwd 1 {}).fwPlace = some 0 ∧
    (fwEv true 1).tag < 4096 ∧ (fwEv true 1).lane < 128 ∧ (fwEv true 1).prio < 4 ∧ actFrame 1 = false ∧ actPage 1 = false := by decide
theorem witness_TripwiresSendEvents :
    dev0.held 1 = false ∧ (dev0.set (Reg.FWT_TW_CFG_KIND 0) 1).get (Reg.FWT_TW_CFG_KIND 0) = 1 ∧
    (let d := ((dev0.set (Reg.FWT_TW_CFG_KIND 3) 2).wr (Reg.FWT_TW_MASK 3) 0xFF).wr (Reg.FWT_TW_VAL 3) 5
     d.get (Reg.FWT_TW_CFG_KIND 3) = 2 ∧ (d.rd (Reg.LANE_LRB (d.get (Reg.FWT_TW_CFG_LANE 3)) 0)).toNat % 2 = 0 ∧ (d.trip 3).eq = false ∧
     (((0x105 : Word) &&& d.rd (Reg.FWT_TW_MASK 3)) == d.rd (Reg.FWT_TW_VAL 3)) = true ∧
     (((0x104 : Word) &&& d.rd (Reg.FWT_TW_MASK 3)) == d.rd (Reg.FWT_TW_VAL 3)) = false) ∧
    (({ dev0 with fire := { trips := [(3, ⟨true, 5⟩)] } } : Dev).trip 3).eq = true := by decide
theorem witness_AlertsAreAcknowledgedAndEnd :
    tabled.held 1 = false ∧ tabled.fwValid 0 = true ∧ tabled.fwValid 1 = false ∧ fwEntry tabled 0 = some entry0 ∧ fwEntry tabled 1 = none ∧
    (let d := tabled.set Reg.FWT_CFG_HOLD 1
     d.fwActive 0 = true ∧ entry0.noend = true ∧ entry0.startAt + d.get Reg.FWT_CFG_HOLD * 1000000000 ≤ d.now) ∧
    (let d := tabled.set Reg.FWT_CFG_HOLD 2
     ¬entry0.startAt + d.get Reg.FWT_CFG_HOLD * 1000000000 ≤ d.now) ∧
    (∀ y ∈ tabled.fire.reps, tabled.now < y.due) ∧
    (let a : AlertTx := ⟨1, 0, 0, 0, 0, 7, 1, 0, 0, 1, 0⟩
     ({ tabled with fire := { reps := [⟨none, a, 0, 5⟩] } } : Dev).fire.reps = ⟨none, a, 0, 5⟩ :: [] ∧ 5 ≤ tabled.now) := by decide
/-! ## Witnesses: the chimney and the ashpit -/

/-- An ashpit that is READY with 2 MiB of one region each: TI, backlog, draw, capture and HOST, the aperture at HOST's start. -/
def ashy (x : Ash) : Dev :=
  let d := ((dev0.set Reg.ASH_STAT_READY 1).set Reg.ASH_STAT_USABLE 10).set Reg.ASH_APBASE_BASE 8
  { (List.range 5).foldl (fun d k => (d.set (Reg.ASH_RGN_BASE k) (2 * k)).set (Reg.ASH_RGN_SIZE k) 2) d with ash := x }
/-- A message of a class, from cluster 0 to the ashpit, of a hearth's ticket. -/
def lmsg (k : Transfer) (data : Nat) : LinkMsg := ⟨0, 13, 0, k, data, some (.ash 0 0)⟩
/-- The link of port 0 towards the switch with messages that wait and credits spent. -/
def linkd (q : List (LinkMsg × Nat × Bool)) (spent : Nat) (c : Nat) : Dev :=
  { dev0 with chimney := { queues := [(0 * 2 + 1, q)], used := [((0 * 2 + 1) * 4 + c, spent)] } }
theorem witness_ChimneyCountsItsCredits :
    (dev0.part.hasPort 0 = true ∧ dev0.part.hasPort 14 = false ∧ dev0.held 6 = false) ∧ (dev0.wr Reg.RST_BLK 0x40).held 6 = true ∧
    (let d := linkd [(lmsg .laneSample 2, 3, false)] 29 2
     SMap.get [] d.chimney.queues (0 * 2 + 1) = [(lmsg .laneSample 2, 3, false)] ∧ (lmsg .laneSample 2).kind.cls = 2 ∧
     SMap.get 0 d.chimney.used ((0 * 2 + 1) * 4 + 2) + 3 ≤ 32) ∧
    (∀ w ∈ SMap.get [] (linkd [(lmsg .reply 0, 1, false)] 16 1).chimney.queues (0 * 2 + 1),
      16 ≤ SMap.get 0 (linkd [(lmsg .reply 0, 1, false)] 16 1).chimney.used ((0 * 2 + 1) * 4 + w.1.kind.cls)) ∧
    (SMap.get [] (linkd [] 5 2).chimney.queues (0 * 2 + 1) = [] ∧ (∀ c < 4, [0, 0, 5, 0].getD c 0 ≤ SMap.get 0 (linkd [] 5 2).chimney.used ((0 * 2 + 1) * 4 + c)) ∧
     SMap.get 0 (linkd [] 5 2).chimney.used ((0 * 2 + 1) * 4 + 2) < [0, 0, 6, 0].getD 2 0) ∧
    ([1, 2, 3, 4, 5, 6] : List Nat).length = 6 := by decide
theorem witness_MessagesReserveTheirReplies :
    ((lmsg .ashRead 0).src ≠ (lmsg .ashRead 0).dst ∧ dev0.part.hasPort 0 = true ∧ dev0.part.hasPort 13 = true) ∧
    ¬((⟨0, 0, 0, .reply, 0, none⟩ : LinkMsg).src ≠ 0) ∧ (lmsg .laneSample 2).kind.needsReply = false ∧ (lmsg .ashRead 0).kind.needsReply = true ∧
    (dev0.chimney.reserved.filter (· == Requester.ash 0 0)).length < Requester.limit (.ash 0 0) ∧
    (let d := { dev0 with chimney := { reserved := [.ash 0 0] } }
     Requester.limit (.ash 0 0) ≤ (d.chimney.reserved.filter (· == Requester.ash 0 0)).length ∧ d.chimney.blocked = []) ∧
    (lmsg .reply 2).kind = .reply := by decide
theorem witness_OutputsServeTheirInputsInTurn :
    nextMsg true 3 [(lmsg .reply 0, 1, false)] = some (lmsg .reply 0, 1, false) ∧
    (∃ v ∈ [(lmsg .reply 0, 1, false), (lmsg .reply 2, 2, true)], v.2.2 = true) ∧ (∀ v ∈ [(lmsg .reply 0, 1, false)], v.2.2 = false) := by decide

theorem witness_AshpitInitialises :
    (ashy {}).held 7 = false ∧ ((ashy {}).rd Reg.ASH_CMDSTAT).getLsbD 0 = false ∧ (((ashy {}).set Reg.ASH_CMDSTAT_BUSY 1).rd Reg.ASH_CMDSTAT).getLsbD 0 = true ∧
    ((ashy {}).set (Reg.LANE_CTL_EN 0) 1).lanesOn ≠ [] ∧ (ashy {}).lanesOn = [] ∧ (ashy {}).cap.snap = none ∧ (ashy {}).ash.init = none ∧
    (ashy { init := some true }).ash.init = some true ∧ ((ashy {}).set Reg.ASH_DRAMCFG_DENSITY 1).get Reg.ASH_DRAMCFG_DENSITY = 1 ∧
    (ashy {}).ready = true ∧ (ashy {}).ash.selfRefresh = false ∧ dev0.ready = false := by decide +kernel
theorem witness_ScrubberReadsEveryLine :
    (ashy {}).held 7 = false ∧ dev0.ready = false ∧ ((ashy {}).set Reg.ASH_SCRUB_EN 0).is Reg.ASH_SCRUB_EN = false ∧
    (let d := (ashy {}).set Reg.ASH_SCRUB_EN 1 |>.set Reg.ASH_SCRUB_PERIOD 24
     d.ready = true ∧ d.is Reg.ASH_SCRUB_EN = true ∧ d.scrubLate = false ∧ d.ashWaiting = [] ∧
     (d.setHearth 0 { ashes := [(0, some { desc := ⟨0, 0, 0, 0⟩ })] }).ashWaiting ≠ [] ∧
     ({ d with now := 24 * 3600000000000 } : Dev).scrubLate = true ∧ ({ d with now := 24 * 3600000000000 } : Dev).ashTurn 0 (24 * 3600000000000) = true ∧
     ({ d with now := 24 * 3600000000000 }.setHearth 0 { ashes := [(0, some { desc := ⟨0, 0, 0, 0⟩ })] } : Dev).ashTurn 0 (24 * 3600000000000) = false) := by
  decide +kernel
theorem witness_AshpitServesItsClassesInTurn :
    (let d := { dev0 with now := 2000 }.setHearth 0 { ashes := [(0, some { desc := ⟨0, 0, 0, 0⟩ })] }
     (∃ w ∈ d.ashWaiting, w.2 + 2000 ≤ d.now) ∧ d.ash.quota.length = 3 ∧ 0 < d.ash.quota.getD 2 0) ∧
    (∀ w ∈ dev0.ashWaiting, ¬w.2 + 2000 ≤ dev0.now) ∧ ¬0 < ({ dev0 with ash := { quota := [0, 2, 1] } } : Dev).ash.quota.getD 0 0 := by decide
theorem witness_ApertureReachesTheHostRegion :
    ((ashy {}).ready = true ∧ (ashy {}).held 7 = false) ∧ (∀ h, Initiator.bar0 ≠ .stoker h) ∧ dev0.ready = false ∧
    (let a := (ashy {}).get Reg.ASH_APBASE_BASE * 1048576 + 0x1FFFFF
     a < (ashy {}).usable ∧ (ashy {}).regionOf a = 4) ∧
    (let a := (ashy {}).get Reg.ASH_APBASE_BASE * 1048576 + 0x200000
     ¬a < (ashy {}).usable) ∧ (ashy {}).evtFree Reg.ASH_EVT 3 0 = true := by
  refine ⟨by decide +kernel, fun h => nofun, by decide, by decide +kernel, by decide +kernel, by decide +kernel⟩

def unit0 (marked : Bool) (release : Nat) : DUnit := ⟨1, 0, 0, 0, false, marked, false, 0, release, 0, []⟩
def bk0 : BkBlock := ⟨0, [], [0, 0, 0, 0, 0], false⟩
theorem witness_BacklogAndDrawLinesMove :
    (dev0.lane 0).bkBuf = [] ∧
    (let d := fleet false { bkBuf := [bk0], bkCap := 4 } {}
     (d.lane 0).bkBuf = bk0 :: [] ∧ d.held 7 = false ∧ d.ashTurn 0 (d.blockSince bk0) = true ∧ (d.lane 0).mig = none) ∧
    ((fleet false { bkBuf := [bk0] } {}).wr Reg.RST_BLK 0x80).held 7 = true ∧ (((fleet false {} {}).judgePause 0).lane 0).main = [] ∧
    (let p := (fleet false { main := [unit0 false 5] } {}).judgePause 0
     (p.lane 0).main = unit0 false 5 :: [] ∧ p.devtime < 5) ∧
    (let p := ({ fleet false { main := [unit0 false 5] } {} with devtime := 5 } : Dev).judgePause 0
     (p.lane 0).main = unit0 false 5 :: [] ∧ (unit0 false 5).release ≤ p.devtime ∧ (p.lane 0).awaits (unit0 false 5) = false ∧ p.held 7 = false ∧
     (p.lane 0).playout = false) ∧
    ((fleet false {} {}).lane 0).awaits (unit0 true 5) = true ∧ dev0.laneOf 0 = none ∧ (fleet false {} {}).laneOf 0 = some 0 ∧
    ((fleet false {} {}).lane 0).shCopy = false ∧ ((fleet false {} {}).lane 0).swapCopy = false ∧ ((fleet false {} {}).lane 0).mig = none ∧
    ((fleet false { halted := true } {}).lane 0).halted = true := by decide +kernel
/-- Hearth 9 joins as lane 0's shadow, both sets are there, and hearth 0's has a valid checkpoint that the backlog reaches. -/
theorem witness_SetCopy :
    (let src : SetMem := { set0 with slot0 := some ⟨2, 0, true⟩, valid := some 0 }
     let d := (((fleet false { bk := [bk0], shCopy := true } { set := some 0 }).set (Reg.LANE_BIND_SVALID 0) 1).set (Reg.LANE_BIND_SHADOW 0) 9)
     let d := { (d.set (Reg.HST_STAT_LANEV 9) 1).setHearth 9 { set := some 1 } with ash := { sets := [(0, some src), (1, some set0)] } }
     d.laneOf 9 = some 0 ∧ (d.shadowOf 0 = some 9 ∧ (d.lane 0).shCopy = true) ∧ (d.bound 0).bind d.tiArea = some (0, src) ∧ d.tiArea 9 = some (1, set0) ∧
     (d.lane 0).halted = false ∧ src.valid = some 0 ∧ src.slot 0 = some ⟨2, 0, true⟩ ∧ (d.lane 0).bkHolds 2 = true) := by decide +kernel
/-! ## Witnesses: the flue -/

/-- Port `p` is up, with its state. -/
def port (p : Nat) (x : FluePort) : Dev :=
  { (if p < 2 then dev0.set (Reg.FLU_LINK_UP p) 1 else dev0.set Reg.HF_CTL_RUN 1) with flue := [(p, x)] }
def alert0 : AlertTx := ⟨1, 0, 0, 0, 0, 7, 1, 0, 0, 1, 0⟩
def qu (kind enq : Nat) : QUnit := ⟨kind, 0, 0, false, 1, 0, 0, 0, enq, false, List.replicate 64 0, false⟩
/-- Entry 5 of port 0 is enabled with an encapsulation, and holds `q`. -/
def entry5 (enc : Nat) (q : List QUnit) : Dev :=
  (port 0 { dampers := [(5, { queue := q, tokens := 80000000 })] }).wr (entAddr 0 5 0) (BitVec.ofNat 32 (2 ^ 31 + 4 * 2 ^ 28 + enc * 2 ^ 24))
theorem witness_PortsStartFramesInOrder :
    dev0.hasPort 3 = false ∧ ((port 0 {}).hasPort 0 = true ∧ (port 0 {}).held (8 + 0) = false) ∧ dev0.portUp 0 = false ∧ (port 0 {}).portUp 0 = true ∧
    ((port 0 { alerts := [alert0] }).fport 0).alerts = alert0 :: [] ∧ ((port 0 { ctrl := [.ptp 0 1 2] }).fport 0).ctrl = .ptp 0 1 2 :: [] ∧
    ((port 0 {}).portPrep 0 65536).chosen 0 = none ∧ ((port 0 { tele := [qu 1 0] }).portPrep 0 65536).chosen 0 = some 128 ∧
    (((port 0 { tele := [qu 1 0] }).portPrep 0 65536).fport 0).tele = qu 1 0 :: [] ∧ (port 2 {}).held 10 = false ∧ dev0.is Reg.HF_CTL_RUN = false ∧
    (port 2 {}).is Reg.HF_CTL_RUN = true ∧ (port 2 {}).hfReady = false ∧ ((port 2 {}).wr Reg.HF_TAIL 1).hfReady = true := by decide +kernel
/-- A unit of an entry that sends GSF frames is the one whose turn it is. -/
theorem witness_EntryChosen :
    ((entry5 2 [qu 0 0]).portPrep 0 65536).chosen 0 = some 5 ∧ (((entry5 2 [qu 0 0]).portPrep 0 65536).nextTx 0 5).isSome = true := by decide +kernel
theorem witness_PortTimersAct :
    ((port 0 {}).hasPort 0 = true ∧ (port 0 {}).held (8 + 0) = false) ∧ dev0.hasPort 3 = false ∧
    (let d := { port 0 { tele := [qu 1 0] } with now := 1000001 }
     (d.fport 0).tele = qu 1 0 :: [] ∧ (qu 1 0).enq + 1000000 < d.now ∧ d.now ≤ (qu 1 1).enq + 1000000) ∧ ((port 0 {}).damper 0 5).queue = [] ∧
    ((entry5 2 [qu 0 0]).damper 0 5).queue = qu 0 0 :: [] ∧ ((entry5 2 [qu 0 0]).damper 0 5).sent = 0 ∧
    (entry5 2 [qu 0 0]).now ≤ (qu 0 0).enq + (entry5 2 [qu 0 0]).ent 0 5 2 25 16 * 10000 ∧
    (let d := { entry5 2 [qu 0 0] with now := 1 }
     (qu 0 0).enq + d.ent 0 5 2 25 16 * 10000 < d.now) ∧ (entry5 2 []).entEnc 0 5 ≠ 0 ∧ (entry5 0 []).entOn 0 5 = true ∧ (entry5 0 []).entEnc 0 5 = 0 ∧
    (((entry5 0 []).pull 0 5 8).damper 0 5).ts = [] ∧ dev0.portUp 0 = false ∧ (port 0 {}).portUp 0 = true ∧ (port 0 {}).teleOn 0 0 = false ∧
    (let d := ((port 0 {}).set (Reg.LANE_CTL_EN 0) 1).wr (portBase 0 + 0x74) 1
     d.teleOn 0 0 = true ∧ (d.rd (Reg.LANE_LRB 0 0)).getLsbD 0 = false) := by decide +kernel
/-- TS packets wait in entry 5. -/
theorem witness_PacketsWait :
    (let d := { (port 0 { dampers := [(5, { ts := [(0, List.replicate 188 0)], tsAt := 0 })] }).wr (entAddr 0 5 0) 0xC0000000 with now := 10000000 }
     d.entOn 0 5 = true ∧ d.entEnc 0 5 = 0 ∧ ((d.pull 0 5 8).damper 0 5).ts ≠ [] ∧ ((d.pull 0 5 8).damper 0 5).tsAt + 10000000 ≤ (d.pull 0 5 8).now) := by
  decide +kernel
theorem witness_LinksAndRingsChange :
    ((port 0 {}).hasPort 0 = true ∧ (port 0 {}).held (8 + 0) = false) ∧ (port 0 {}).portUp 0 = true ∧ dev0.portUp 0 = false ∧
    (port 0 {}).evtFree (portBase 0 + 8) 1 0 = true ∧ (port 0 {}).evtFree (portBase 0 + 8) 0 0 = true ∧ dev0.held 10 = false ∧
    (let d := dev0.set (Reg.FLU_CTL_EN 0) 1
     (d.is (Reg.FLU_CTL_EN 0) && true && !false && !false && !decide (SMap.get 3300 d.rst.vio 3 < 2900)) = true) ∧
    SMap.get 3300 ({ dev0 with rst := { steps := [], vio := [(3, 2899)] } } : Dev).rst.vio 3 < 2900 ∧ (dev0.wr Reg.RST_BLK 0x400).held 10 = true := by decide

/-- A frame for another station: a header, 46 bytes of zero and its FCS. -/
def frameOut : List Byte := [0x02, 0, 0, 0, 0, 0x01, 0, 0, 0, 0, 0, 0, 0x08] ++ List.replicate 47 0 ++ [0xE6, 0x41, 0x39, 0x5E]
/-- A PTP frame. -/
def framePtp : List Byte := [0x01, 0x1B, 0x19, 0, 0, 0, 0, 0, 0, 0, 0, 0, 0x88, 0xF7] ++ List.replicate 46 0 ++ [0x7E, 0xBE, 0x98, 0xB2]
/-- A frame of an unknown type to the PTP address. -/
def frameOther : List Byte := [0x01, 0x1B, 0x19, 0, 0, 0, 0, 0, 0, 0, 0, 0, 0x12, 0x34] ++ List.replicate 46 0 ++ [0xA5, 0x37, 0xBC, 0xA6]
/-- A GSF alert frame in UDP to 239.1.2.3, port 5000. -/
def frameAlert : List Byte :=
  [0x01, 0, 0x5E, 0x01, 0x02, 0x03, 0, 0, 0, 0, 0, 0, 0x08, 0, 0x45, 0, 0, 0x4C, 0, 0, 0, 0, 0x40, 0x11, 0x7F, 0x9C, 0x0A, 0, 0, 0x01, 0xEF, 0x01, 0x02, 0x03] ++
  [0x13, 0x88, 0x13, 0x88, 0, 0x38, 0x81, 0x15, 0x47, 0x53, 0x15] ++ List.replicate 45 0 ++ [0xA4, 0x72, 0xA0, 0xF8]
/-- Port 0 is up, its alerts go to 239.1.2.3, port 5000. -/
def rxd : Dev := ((port 0 {}).wr (Reg.FLU_ADST_IP 0 0) 0x030201EF).set (Reg.FLU_ADST_CFG_UPORT 0) 5000
def fcsOk (bs : List Byte) : Bool := leNat (bs.drop (bs.length - 4)) == (crc32 (bs.take (bs.length - 4))).toNat
theorem test_fcs_frameOut : fcsOk frameOut = true := by
  unfold fcsOk crc32; rw [crc_forty 0x51DA1FA1 (by decide +kernel)]; decide +kernel
theorem test_fcs_framePtp : fcsOk framePtp = true := by
  unfold fcsOk crc32; rw [crc_forty 0x14766619 (by decide +kernel)]; decide +kernel
theorem test_fcs_frameOther : fcsOk frameOther = true := by
  unfold fcsOk crc32; rw [crc_forty 0x5412FD26 (by decide +kernel)]; decide +kernel
theorem test_fcs_frameAlert : fcsOk frameAlert = true := by
  unfold fcsOk crc32; rw [crc_forty 0x6430B7F9 (by decide +kernel), crc_forty 0x135FFCA2 (by decide +kernel)]; decide +kernel
theorem witness_ReceivedFramesAreFiltered :
    (rxd.hasPort 0 = true ∧ rxd.held (8 + 0) = false ∧ rxd.portUp 0 = true) ∧ dev0.portUp 0 = false ∧
    (64 ≤ frameOut.length ∧ frameOut.length ≤ 1518) ∧
    (64 ≤ framePtp.length) ∧ (64 ≤ frameOther.length) ∧
    (let e := rxd.incWordSat (Reg.FLU_RXFRAMES 0) 1
     e.rxPasses 0 (parseFrame frameOut) = false ∧ (e.rxPasses 0 (parseFrame framePtp) = true ∧ e.ptpFrame 0 (parseFrame framePtp) = true) ∧
     (e.rxPasses 0 (parseFrame frameOther) = true ∧ e.ptpFrame 0 (parseFrame frameOther) = false ∧ e.relayFrame 0 (parseFrame frameOther) = none)) ∧
    (let e := rxd.incWordSat (Reg.FLU_RXFRAMES 0) 1
     let f := parseFrame frameAlert
     64 ≤ frameAlert.length ∧ e.rxPasses 0 f = true ∧ e.ptpFrame 0 f = false ∧ (e.relayFrame 0 f).isSome = true ∧
     (e.fport 0).relayAt = 0) := by decide +kernel

theorem witness_ModulesComeGoAndFault :
    (let d := port 0 {}
     d.hasPort 0 = true ∧ d.held (8 + 0) = false ∧ d.is (Reg.FLU_LINK_MOD 0) = false ∧ d.evtFree (Reg.FLU_EVT 0) 6 0 = true) ∧
    ((port 0 {}).set (Reg.FLU_LINK_MOD 0) 1).is (Reg.FLU_LINK_MOD 0) = true ∧ ((port 0 {}).set (Reg.FLU_LINK_TXFLTL 0) 1).is (Reg.FLU_LINK_TXFLTL 0) = true ∧
    ((port 0 {}).is (Reg.FLU_LINK_TXFLTL 0) = false ∧ ((port 0 {}).fport 0).sfp.pulse = false) ∧
    (((port 0 { sfp := { resets := [2, 1] } }).fport 0).sfp.resets.filter (fun t => decide ((port 0 {}).now < t + 60000000000))).length < 3 ∧
    3 ≤ (((port 0 { sfp := { resets := [3, 2, 1] } }).fport 0).sfp.resets.filter (fun t => decide ((port 0 {}).now < t + 60000000000))).length ∧
    ((port 0 { sfp := { pulse := true } }).fport 0).sfp.pulse = true := by decide
/-- A module with diagnostics on a free bus, and readings of a day. -/
def mod0 (x : Sfp) : Dev :=
  { ((((port 0 { sfp := x }).set (Reg.FLU_LINK_MOD 0) 1).set (Reg.FLU_SFPSTAT_DDM 0) 1).set (Reg.AUX_CFG_EN 1) 1).set (Reg.AUX_STAT_FREE 1) 1 with
    aux := [(1, { clearDue := false })] }
theorem witness_ModuleDiagnosticsAreRead :
    (let d := mod0 { days := [5], sum := 12, cnt := 4 }
     d.hasPort 0 = true ∧ d.held (8 + 0) = false ∧ d.is (Reg.FLU_LINK_MOD 0) = true ∧ d.is (Reg.FLU_SFPSTAT_DDM 0) = true ∧
     (d.rd (Reg.FLU_SFPA0 0 23)).getLsbD 4 = false ∧ (d.fport 0).sfp.cnt ≠ 0 ∧ (d.fport 0).sfp.sum % (d.fport 0).sfp.cnt = 0 ∧ (d.fport 0).sfp.days.length ≤ 29) ∧
    ((mod0 {}).is (Reg.AUX_CFG_EN (0 + 1)) = true ∧ (mod0 {}).is (Reg.AUX_STAT_FREE (0 + 1)) = true ∧ (mod0 {}).auxStuck (0 + 1) = false ∧
     ((mod0 {}).auxBus (0 + 1)).clearDue = false ∧ ((mod0 {}).auxBus (0 + 1)).cur = none ∧ ((mod0 {}).auxBus (0 + 1)).wait = none) ∧
    ((port 0 {}).auxBus (0 + 1)).clearDue = true ∧ ((mod0 {}).set (Reg.FLU_LINK_TXDIS 0) 1).is (Reg.FLU_LINK_TXDIS 0) = true ∧
    ((mod0 {}).set (Reg.FLU_LINK_TXDIS 0) 0).is (Reg.FLU_LINK_TXDIS 0) = false ∧ ((mod0 {}).fport 0).sfp.cnt = 0 ∧
    (port 0 {}).is (Reg.FLU_SFPSTAT_DDM 0) = false ∧ (mod0 {}).evtFree (Reg.FLU_EVT 0) 8 0 = true := by decide
/-! ## Witnesses: PTP, PPS and audio -/

/-- The PTP state is `st`, with times taken. -/
def ptpd (st : Nat) (x : Ptp) : Dev := { dev0.set Reg.FLU_PTPSTAT_STATE st with ptp := x }
theorem witness_PtpMessagesAreTaken :
    dev0.held 8 = false ∧ dev0.get Reg.FLU_PTPSTAT_STATE = 0 ∧ (ptpd 4 {}).get Reg.FLU_PTPSTAT_STATE = 4 ∧ (ptpd 5 {}).get Reg.FLU_PTPSTAT_STATE = 5 ∧
    (let d := ptpd 4 { t1 := 10, t2 := 25, t3 := 40 }
     ((d.ptp.t2 : Int) - d.ptp.t1 + (45 : Nat) - d.ptp.t3) % 20 = 0 ∧ ((d.ptp.t2 : Int) - d.ptp.t1 + (46 : Nat) - d.ptp.t3) % 20 ≠ 0) ∧
    (ptpd 4 {}).rd64 Reg.FLU_PTPGM_LO Reg.FLU_PTPGM_HI = 0 % 2 ^ 64 ∧ (ptpd 4 {}).rd64 Reg.FLU_PTPGM_LO Reg.FLU_PTPGM_HI ≠ 7 % 2 ^ 64 ∧
    (ptpd 4 {}).get Reg.FLU_PTPCFG_MODE ≠ 1 ∧ ((ptpd 4 {}).set Reg.FLU_PTPCFG_MODE 1).get Reg.FLU_PTPCFG_MODE = 1 ∧
    (let d := { ((ptpd 4 {}).set Reg.FLU_PTPCFG_AUTOPORT 1) with now := 2000000000 }
     d.is Reg.FLU_PTPCFG_AUTOPORT = true ∧ d.portUp (d.get Reg.FLU_PTPSTAT_PORTNOW) = false ∧
     (d.fport (d.get Reg.FLU_PTPSTAT_PORTNOW)).downAt - 1 + 2000000000 ≤ d.now ∧ d.part.hasF1 = true) := by decide
theorem witness_PpsEdgesAreStamped :
    dev0.held 8 = false ∧ (dev0.set Reg.FLU_PPSCFG_INEN 0).is Reg.FLU_PPSCFG_INEN = false ∧ (dev0.set Reg.FLU_PPSCFG_INEN 1).is Reg.FLU_PPSCFG_INEN = true ∧
    dev0.get Reg.CLK_TIMECFG_SRC ≠ 2 ∧
    (let d := { dev0.set Reg.CLK_TIMECFG_SRC 2 with now := 1500000000, ptp := { ppsAt := 1 } }
     d.get Reg.CLK_TIMECFG_SRC = 2 ∧ d.ptp.ppsAt - 1 + 1500000000 ≤ d.now ∧ d.is Reg.CLK_TSTAT_PPSLOCK = false ∧
     (d.set Reg.CLK_TSTAT_PPSLOCK 1).is Reg.CLK_TSTAT_PPSLOCK = true) := by decide

/-- Audio port 0 runs, in a phase, its clock present or lost. -/
def aud (lost : Bool) (x : AudPort) : Dev :=
  { (dev0.set (Reg.AUD_CTL_EN 0) 1).set (Reg.AUD_STAT_CLKLOST 0) (b2n lost) with audio := { ports := [(0, x)] } }
theorem witness_AudioFramesLockAndPlay :
    dev0.held 11 = false ∧ dev0.is (Reg.AUD_CTL_EN 0) = false ∧
    (∀ lost ∈ [true, false], 0 < (aud lost {}).part.audio ∧ (aud lost {}).is (Reg.AUD_CTL_EN 0) = true ∧ ((aud lost {}).aport 0).held = false ∧
      (aud lost {}).is (Reg.AUD_STAT_CLKLOST 0) = lost) ∧
    ((aud true { frames := 0 }).aport 0).frames = 0 ∧ ((aud true { frames := 1 }).aport 0).frames ≠ 0 ∧
    (let d := aud false { phase := 1, frames := 1 }
     (d.aport 0).phase = 1 ∧ (d.aport 0).healTx = 0 ∧ (d.aport 0).healRx = 0 ∧ 1 ≤ (d.aport 0).frames ∧
     ((64 == d.audSlots 0 * widthBits 2) = true ∧ (63 == d.audSlots 0 * widthBits (d.get (Reg.AUD_CTL_SWIDTH 0))) = false)) := by decide
theorem witness_AudioEventsAct :
    dev0.held 11 = false ∧ ((aud false {}).aport 0).phase < 3 ∧
    (let d := aud false { phase := 3 }
     d.is (Reg.AUD_CTL_EN 0) = true ∧ 3 ≤ (d.aport 0).phase ∧ d.is (Reg.AUD_STAT_LOCK_TX 0) = false ∧ d.is (Reg.AUD_STAT_LOCK_RX 0) = false ∧
     d.is (Reg.AUD_STAT_CLKLOST 0) = false ∧ d.is (Reg.AUD_CTL_MASTER 0) = false ∧ 0 < d.part.audio ∧ d.audOn = [0] ∧ (d.aport 0).held = false ∧ d.evtFree (Reg.AUD_EVT 0) 1 0 = true) ∧
    ((aud false {}).set (Reg.AUD_CTL_MASTER 0) 0).is (Reg.AUD_CTL_MASTER 0) = false ∧ ((aud false {}).set (Reg.AUD_CTL_MASTER 0) 1).audMasters = [0] ∧
    dev0.audOn = [] ∧ (dev0.set Reg.AUD_GSTAT_MCLKOK 0).is Reg.AUD_GSTAT_MCLKOK = false ∧ (dev0.set Reg.AUD_GSTAT_MCLKOK 1).is Reg.AUD_GSTAT_MCLKOK = true ∧
    (dev0.set Reg.AUD_GSTAT_TONE 0).is Reg.AUD_GSTAT_TONE = false ∧
    (let d := { (dev0.set Reg.AUD_GSTAT_TONE 1).set Reg.AUD_TONE_C_OFF 3 with audio := { burst := true } }
     d.is Reg.AUD_GSTAT_TONE = true ∧ d.audio.burst = true ∧ d.get Reg.AUD_TONE_C_OFF ≠ 0) ∧ dev0.audio.burst = false := by decide +kernel

/-! ## Witnesses: the root clock -/

/-- A running device whose CLK_STAT has these fields. -/
def clkd (hold xo noref : Bool) (sel mode : Nat) : Dev :=
  (((((act.set Reg.CLK_STAT_HOLDOVER (b2n hold)).set Reg.CLK_STAT_XO (b2n xo)).set Reg.CLK_STAT_NOREF (b2n noref)).set Reg.CLK_STAT_REFSEL sel).set Reg.CLK_CFG_REFMODE mode)
theorem witness_ReferencesQualifyAndFail :
    (rsd { level := 3, banked := true }).rootOn = false ∧
    (let d := clkd true true true 0 0
     d.rootOn = true ∧ d.is Reg.CLK_STAT_HOLDOVER = true ∧ d.is Reg.CLK_STAT_XO = true ∧ d.get Reg.CLK_CFG_REFMODE = 0 ∧ d.is Reg.CLK_STAT_NOREF = true ∧
     d.get Reg.CLK_STAT_REFSEL = 0) ∧
    (clkd false true false 2 2).get Reg.CLK_CFG_REFMODE = 2 ∧ (clkd false true false 1 0).get Reg.CLK_STAT_REFSEL = 1 ∧
    (clkd false false false 2 0).is Reg.CLK_STAT_XO = false ∧ (clkd false true false 2 0).get Reg.CLK_STAT_REFSEL = 2 ∧
    (-200000 : Int).natAbs ≤ 200000 ∧ 200000 < (200001 : Int).natAbs ∧
    ((clkd false true false 1 0).set Reg.CLK_STAT_LOCK 1).is Reg.CLK_STAT_LOCK = !false ∧ ((clkd false true false 1 0).set Reg.CLK_STAT_LOCK 0).is Reg.CLK_STAT_LOCK = !true ∧
    (((clkd false true false 1 0).set Reg.CLK_STAT_SLEW 1).is Reg.CLK_STAT_SLEW = true ∧ (clkd false true false 1 0).clk.realign = false) ∧
    ({ act with clk := { realign := true } } : Dev).clk.realign = true ∧ Dev.por.inReset = true ∧
    (let d := rsd { asserted := false, steps := [] }
     (d.set Reg.RST_STAT_STATE 2).inReset = false ∧ d.rst.banked = false) := by decide
theorem witness_HoldoverAndSwitchIn :
    (clkd true true false 0 0).get Reg.CLK_STAT_REFSEL = 0 ∧ (clkd false true false 1 0).get Reg.CLK_STAT_REFSEL ≠ 0 ∧ act.evtFree Reg.CLK_EVT 0 0 = true ∧
    act.evtFree Reg.CLK_EVT 2 0 = true ∧ (-(2 ^ 31) : Int) ≤ -5 ∧ (2147483647 : Int) < 2 ^ 31 := by decide
theorem witness_ClockCommandsAndSteps :
    ((act.set Reg.CLK_CMDSTAT_BUSY 1).rd Reg.CLK_CMDSTAT).getLsbD 0 = true ∧ (act.rd Reg.CLK_CMDSTAT).getLsbD 0 = false ∧
    (clkd false true false 2 0).get Reg.CLK_STAT_REFSEL ≠ 1 ∧
    (let d := ((clkd false true false 1 0).set Reg.CLK_STAT_SLEW 0).wr Reg.CLK_BOUT 0
     ¬(d.is Reg.CLK_STAT_SLEW = true ∨ d.get Reg.CLK_STAT_REFSEL ≠ 1) ∧ d.rd Reg.CLK_BOUT = 0 ∧ (d.wr Reg.CLK_BOUT 9).rd Reg.CLK_BOUT ≠ 0) ∧
    (act.lanesOn = [] ∧ act.armed = none ∧ act.cap.snap = none) ∧ act.get Reg.CLK_TIMECFG_SRC = 0 ∧
    (act.set Reg.CLK_TIMECFG_SRC 1).get Reg.CLK_TIMECFG_SRC ≠ 0 ∧ armed1.armed ≠ none ∧
    (toSigned 64 ((act.wr64 Reg.CLK_TOFS_LO Reg.CLK_TOFS_HI 1000000000).rd64 Reg.CLK_TOFS_LO Reg.CLK_TOFS_HI)).natAbs ≤ 1000000000 ∧
    1000000000 < (toSigned 64 ((act.wr64 Reg.CLK_TOFS_LO Reg.CLK_TOFS_HI (2 ^ 64 - 1000000001)).rd64 Reg.CLK_TOFS_LO Reg.CLK_TOFS_HI)).natAbs ∧
    act.phasePos 1 = toSigned 32 (act.rd (phaseTarget 1)).toNat ∧ (act.wr (phaseTarget 1) 5).phasePos 1 ≠ toSigned 32 ((act.wr (phaseTarget 1) 5).rd (phaseTarget 1)).toNat ∧
    (let d := act.wr (phaseTarget 0) 1
     stepTo (d.phasePos 0) (toSigned 32 (d.rd (phaseTarget 0)).toNat) = toSigned 32 (d.rd (phaseTarget 0)).toNat ∧ d.evtFree Reg.CLK_EVT 7 0 = true) ∧
    act.clk.realign = false ∧ ({ act with clk := { realign := true } } : Dev).clk.realign = true := by decide +kernel
/-! ## Witnesses: the smoke radio, the ember and the auxiliary buses -/

/-- A radio that is enabled, with a region whose sub-band 0 is 35 MHz to 105 MHz in 50 kHz steps (700 to 2,100), and a DATA of 20 bytes set up. -/
def smk (x : Smoke) : Dev :=
  let d := ((((act.set Reg.SMK_CTL_EN 1).set Reg.SMK_RGNID_VALID 1).set (Reg.SMK_RGN_W0_EN 0) 1).set (Reg.SMK_RGN_W0_LO 0) 700).set (Reg.SMK_RGN_W0_HI 0) 2200
  let d := ((((d.set Reg.SMK_RGNLIM_TXMAX 400).set Reg.SMK_RADIO_TMO 400).set Reg.SMK_TXPAR0_CH 780).set Reg.SMK_TXPAR3_LEN 20).set Reg.SMK_RGNLIM_WINDOW 60
  { d.set (Reg.SMK_RGN_W1_DUTY 0) 100 with smoke := x }
def tx (p : SmkPhase) (page : Option SmkPage) : SmkTx := ⟨page, 1, 0, 0, [], ⟨780, 10, false, 0, 0, 8, 0, 20⟩, 1, 0, 2000000000, false, p, 0, 0⟩
def page0 : SmkPage := ⟨1, 0, 0, 5000000000, 0, false, 0, alert0⟩
/-- A pager device: one page waits. -/
def pgr (x : Smoke) : Dev := let d := smk x; { (d.set Reg.SMK_PGCFG_PEN 1).set Reg.SMK_PGCFG_CH 780 with fire := { pages := [page0] } }
theorem witness_SendsStartEndOrAbort :
    (let a : Dev := { smk {} with part := .fa9600 }
     a.held 13 = false ∧ a.part.hasSmoke = false) ∧
    ((smk {}).held 13 = false ∧ (smk {}).part.hasSmoke = true ∧ (smk {}).cmdBusy Reg.SMK_TXSTAT = false) ∧
    ((smk {}).set Reg.SMK_TXSTAT_BUSY 1).cmdBusy Reg.SMK_TXSTAT = true ∧
    (let e := (smk {}).cmdStart Reg.SMK_TXSTAT 1 7
     chanOk (e.get Reg.SMK_TXPAR0_CH) = true ∧ 1 ≤ e.get Reg.SMK_TXPAR3_LEN ∧ e.get Reg.SMK_TXPAR3_LEN ≤ 116 ∧ e.get Reg.SMK_TXPAR1_PWR ≤ 60 ∧
     e.is Reg.SMK_CTL_EN = true ∧ e.is Reg.SMK_RGNID_VALID = true ∧
     e.smkSub (e.get Reg.SMK_TXPAR0_CH) (smkWidth (e.is Reg.SMK_TXPAR1_MOD4) (e.get Reg.SMK_TXPAR1_RATE)) = some 0 ∧
     smkAir 0 (e.get Reg.SMK_RADIO_PRE) (11 + e.get Reg.SMK_TXPAR3_LEN) (e.get Reg.SMK_TXPAR1_RATE) ≤ min (e.get Reg.SMK_RGNLIM_TXMAX) (e.get Reg.SMK_RADIO_TMO)) ∧
    ¬1 ≤ ((smk {}).set Reg.SMK_TXPAR3_LEN 0).get Reg.SMK_TXPAR3_LEN ∧ ((smk {}).set Reg.SMK_CTL_EN 0).is Reg.SMK_CTL_EN = false ∧
    ((smk {}).set Reg.SMK_RGNID_VALID 0).is Reg.SMK_RGNID_VALID = false ∧ (smk {}).smkSub 520 100000 = none ∧
    (let e := ((smk {}).set Reg.SMK_RGNLIM_TXMAX 1).cmdStart Reg.SMK_TXSTAT 1 7
     min (e.get Reg.SMK_RGNLIM_TXMAX) (e.get Reg.SMK_RADIO_TMO) < smkAir 0 (e.get Reg.SMK_RADIO_PRE) (11 + e.get Reg.SMK_TXPAR3_LEN) (e.get Reg.SMK_TXPAR1_RATE)) := by
  decide +kernel
theorem witness_Aborts :
    (smk { send := some (tx .synth none) }).smoke.send.isSome = true ∧ (smk {}).smoke.send = none ∧ (smk {}).smoke.job = none ∧
    (∀ p ∈ [SmkPhase.duty, .synth, .grant, .ramp, .onAir, .cut 5], (smk { job := some (tx p none) }).smoke.job = some (tx p none) ∧ (tx p none).page = none) ∧
    (tx .onAir (some page0)).page.isSome = true ∧ (tx .duty none).keyed = false ∧ ((tx .ramp none).keyed = true ∧ (∀ c, (tx .ramp none).phase ≠ .cut c)) := by
  refine ⟨by decide, by decide, by decide, by decide, by decide, by decide, by decide, fun c => nofun⟩
theorem witness_PagesAreTakenAndRepeated :
    (smk { next := some (tx .synth none) }).smoke.next.isSome = true ∧ (smk {}).fire.pages = [] ∧
    ((pgr {}).fire.pages = page0 :: [] ∧ (pgr {}).smoke.job = none ∧ (pgr {}).smoke.next = none) ∧
    (pgr {}).is Reg.SMK_PGCFG_PEN = true ∧ ((pgr {}).pageSet ((pgr {}).rd Reg.SMK_PGCFG) ((pgr {}).rd Reg.SMK_RADIO)).isSome = true ∧
    ((pgr {}).now < page0.deadline) ∧ page0.deadline ≤ ({ pgr {} with now := 5000000000 } : Dev).now ∧ ((pgr {}).set Reg.SMK_PGCFG_PEN 0).is Reg.SMK_PGCFG_PEN = false ∧
    ((smk { reps := [(5, tx .synth (some page0))] }).smoke.reps.find? (fun r => decide (r.1 ≤ (smk {}).now))) = none ∧
    (let d := { smk { reps := [(5, tx .synth (some page0))] } with now := 5 }
     d.smoke.reps.find? (fun r => decide (r.1 ≤ d.now)) = some (5, tx .synth (some page0)) ∧ d.now < (tx .synth (some page0)).latest ∧ d.fire.pages = [] ∧
     d.smoke.reps.find? (fun r => decide (r.2.latest ≤ d.now)) = none) ∧
    (let d := { smk { job := some (tx .onAir (some page0)), reps := [(5, tx .synth (some page0))] } with now := 2000000000 }
     d.smoke.job.any (·.page.isSome) = true ∧ d.smoke.reps.find? (fun r => decide (r.2.latest ≤ d.now)) = some (5, tx .synth (some page0))) := by decide +kernel
theorem witness_TransmissionsFollowTheGate :
    (smk {}).held 13 = false ∧ (smk {}).is Reg.SMK_CTL_EN = true ∧ (act.set Reg.SMK_CTL_EN 0).is Reg.SMK_CTL_EN = false ∧ (smk { lock := true }).smoke.lock = true ∧
    (smk {}).smoke.lock = false ∧ (smk {}).smoke.gnt = false ∧ (smk { gnt := true }).smoke.gnt = true ∧ ((smk {}).set Reg.SMK_CTL_COEXEN 1).is Reg.SMK_CTL_COEXEN = true ∧
    ((smk {}).set Reg.SMK_CTL_COEXEN 0).is Reg.SMK_CTL_COEXEN = false ∧ ((smk {}).set Reg.SMK_CTL_COEXHOLD 1).is Reg.SMK_CTL_COEXHOLD = true ∧
    ((smk {}).set Reg.SMK_CTL_COEXHOLD 0).is Reg.SMK_CTL_COEXHOLD = false ∧ (tx .onAir none).phase = .onAir ∧ (tx .onAir none).keyed = true := by decide +kernel
theorem witness_RadioTimersAct :
    (let d := { smk { job := some (tx .synth none) } with now := 1999979000 }
     (tx .synth none).keyed = false ∧ (tx .synth none).latest ≤ d.now + 21000) ∧ ¬(tx .synth none).latest ≤ (smk {}).now + 21000 ∧
    (let d := { smk { job := some (tx .onAir none) } with now := 400000000 }
     (tx .onAir none).keyed = true ∧ (tx .onAir none).txAt + msNs (min (d.get Reg.SMK_RGNLIM_TXMAX) (d.get Reg.SMK_RADIO_TMO)) ≤ d.now) ∧
    ((smk { lock := true }).smoke.lock = true ∧ (smk { lock := true }).smkCal = false) ∧ (smk {}).smoke.lock = false ∧
    (let d := smk {}
     d.refreshDuty.dutyUsed 0 + 20 ≤ d.refreshDuty.dutyLimit (tx .duty none)) ∧
    (let d := smk { duty := [(0, 6000)] }
     d.refreshDuty.dutyLimit (tx .duty none) < d.refreshDuty.dutyUsed 0 + 20) := by decide +kernel

/-- The radio listens; a frame of 12 bytes after its length, of version 1. -/
def ear : Dev := ((smk { lock := true }).set Reg.SMK_CTL_RXON 1).set Reg.SMK_CTL_RXSYS 0
def heard0 : List Byte := [12, 0x10, 0, 0, 0, 0, 0, 0, 0, 0, 0, 0, 0]
theorem witness_FramesHeardEnterTheFifo :
    ear.held 13 = false ∧ ear.smkListens = true ∧ (0 ≤ ear.get Reg.SMK_RXCFG_SYNCERR ∧ heard0.length = (heard0.headD 0).toNat + 1 ∧ 12 ≤ (heard0.headD 0).toNat) ∧
    (heard0.getD 1 0).toNat / 16 = 1 ∧ ear.is Reg.SMK_CTL_RXSYS = false ∧ (ear.set Reg.SMK_CTL_RXSYS 1).is Reg.SMK_CTL_RXSYS = true ∧
    beNat ((heard0.drop 2).take 2) ≠ (ear.set Reg.SYS_DEVID_SYSID 9).get Reg.SYS_DEVID_SYSID ∧ (ear.set Reg.SMK_RXSTAT_COUNT 4).get Reg.SMK_RXSTAT_COUNT = 4 ∧
    ear.get Reg.SMK_RXSTAT_COUNT = 0 ∧ (smk { job := some (tx .synth none) }).smoke.job.isSome = true ∧ (smk {}).smkListens = false := by decide +kernel
/-- The ember is enabled and searches or not, for the pattern 0xFF with no bit error. -/
def ember (search : Bool) (r : Rst) (x : Smoke) : Dev :=
  { (act.set Reg.EMB_CFG_EN 1).set Reg.EMB_STAT_SEARCH (b2n search) with rst := r, smoke := { x with pat := 0xFF, errMax := 1 } }
theorem witness_EmberSniffsAndMatches :
    ((ember false { steps := [] } {}).is Reg.EMB_CFG_EN = true ∧ (ember false { steps := [] } {}).is Reg.EMB_STAT_SEARCH = false ∧ bit ((ember false { steps := [] } {}).rd Reg.RST_BLK) 14 = false) ∧
    act.is Reg.EMB_CFG_EN = false ∧ (ember false { steps := [] } { job := some (tx .onAir none) }).smkKeyed = true ∧ (ember false { steps := [] } {}).smkKeyed = false ∧
    (((ember false { steps := [] } {}).set Reg.EMB_CFG_THR 20).get Reg.EMB_CFG_THR : Int) - 100 < -79 ∧ ¬(((ember false { steps := [] } {}).set Reg.EMB_CFG_THR 20).get Reg.EMB_CFG_THR : Int) - 100 < -80 ∧
    (ember true { steps := [] } {}).is Reg.EMB_STAT_SEARCH = true ∧ bitErrors 0xFE (ember true { steps := [] } {}).smoke.pat ≤ (ember true { steps := [] } {}).smoke.errMax ∧
    (ember true { steps := [] } {}).smoke.errMax < bitErrors 0xFC (ember true { steps := [] } {}).smoke.pat ∧ ((ember true { steps := [] } {}).rst.banked = false ∧ (ember true { steps := [] } {}).rst.bankSteps = []) ∧
    (let d := (ember true { steps := [], banked := true } {}).set Reg.EMB_CFG_WAKE 1
     d.rst.banked = true ∧ d.rst.wake = none ∧ ((d.set Reg.EMB_STAT_SEARCH 0).set Reg.EMB_STAT_ERRS 1).is Reg.EMB_CFG_WAKE = true) := by decide

/-- Bus 0 is enabled, with a transaction. -/
def auxd (x : AuxBus) : Dev := { act.set (Reg.AUX_CFG_EN 0) 1 with aux := [(0, x)] }
def atx (running delay : Bool) : AuxTx := ⟨.host, 0x3A, 2, 1, [1, 2], 3, false, true, 1, running, delay⟩
theorem witness_AuxCommandsStartOrEnd :
    (auxd {}).held 12 = false ∧ (auxd {}).part.hasBus 0 = true ∧ (auxd {}).part.hasBus 3 = false ∧ (auxd {}).cmdBusy (Reg.AUX_CMDSTAT 0) = false ∧
    ((auxd {}).set (Reg.AUX_CMDSTAT_BUSY 0) 1).cmdBusy (Reg.AUX_CMDSTAT 0) = true ∧
    (let e := ((auxd {}).set (Reg.AUX_XFER_WLEN 0) 255 |>.set (Reg.AUX_XFER_RLEN 0) 2).cmdStart (Reg.AUX_CMDSTAT 0) 1 9
     256 < e.get (Reg.AUX_XFER_WLEN 0) + e.get (Reg.AUX_XFER_RLEN 0)) ∧
    (let e := (auxd {}).cmdStart (Reg.AUX_CMDSTAT 0) 1 9
     e.get (Reg.AUX_XFER_WLEN 0) + e.get (Reg.AUX_XFER_RLEN 0) ≤ 256 ∧ e.is (Reg.AUX_CFG_EN 0) = true ∧ e.auxStuck 0 = false) ∧
    ((auxd {}).part.hasBus 2 = true ∧ ((auxd {}).set (Reg.AUX_CFG_SPEED 2) 2).get (Reg.AUX_CFG_SPEED 2) = 2) ∧ ({ auxd {} with part := .fa4802 } : Dev).part.hasBus 2 = false ∧
    ((auxd {}).set (Reg.AUX_STAT_SCLSTUCK 0) 1).auxStuck 0 = true ∧ ((auxd { cur := some (atx true false) }).auxBus 0).cur.any (·.running) = true ∧
    ((auxd { cur := some (atx true false) }).auxBus 0).cur = some (atx true false) ∧ (atx true false).use = .host ∧
    ((auxd { wait := some (atx false false) }).auxBus 0).wait.isSome = true ∧ ((auxd {}).auxBus 0).cur = none ∧ ((auxd {}).auxBus 0).wait = none := by decide
theorem witness_AuxTriesEnd :
    ((auxd { cur := some (atx true false) }).auxBus 0).cur = some (atx true false) ∧ (atx true false).running = true ∧
    ((auxd {}).auxBus 0).cur.any (·.running) = false ∧ ((auxd {}).part.hasBus 0 = true ∧ (auxd {}).is (Reg.AUX_CFG_EN 0) = true ∧ ((auxd {}).auxBus 0).cur = none) ∧
    ((auxd {}).set (Reg.AUX_STAT_SCLSTUCK 0) 1).is (Reg.AUX_STAT_SCLSTUCK 0) = true ∧ (auxd {}).is (Reg.AUX_STAT_SCLSTUCK 0) = false ∧
    (act.set (Reg.AUX_CFG_EN 0) 0).is (Reg.AUX_CFG_EN 0) = false ∧ ((auxd { clearDue := true }).auxBus 0).clearDue = true ∧ ((auxd { clearDue := false }).auxBus 0).clearDue = false ∧
    ((auxd {}).set (Reg.AUX_CFG_AUTOCLR 0) 0).is (Reg.AUX_CFG_AUTOCLR 0) = false ∧ ((auxd {}).set (Reg.AUX_CFG_AUTOCLR 0) 1).is (Reg.AUX_CFG_AUTOCLR 0) = true ∧
    ((atx false true).delay = true ∧ ((auxd {}).set (Reg.AUX_STAT_FREE 0) 1).is (Reg.AUX_STAT_FREE 0) = true) ∧
    ((auxd {}).set (Reg.AUX_STAT_FREE 0) 0).is (Reg.AUX_STAT_FREE 0) = false := by decide
theorem witness_AuxRetriesFollowTheTable :
    (atx true false).tries ≤ (atx true false).retries ∧ (atx true false).nakretry = true ∧ (atx true false).wretry = false ∧
    { atx true false with tries := 4 }.retries < 4 := by decide
theorem witness_TargetAnswersOnAux0 :
    (act.set Reg.AUX_TCFG_TADDR 0x3A).get Reg.AUX_TCFG_TADDR = 0x3A ∧ (act.set Reg.AUX_TCFG_TADDR 0).get Reg.AUX_TCFG_TADDR = 0 ∧
    ((act.set Reg.AUX_TCFG_TADDR 0x3A).drive .atnN false).ball .atnN = false ∧ (act.drive .atnN true).ball .atnN = true ∧ act.target.cur = none ∧
    (∀ c ∈ [AuxTarget.writing 0, .writing 1, .reading, .alert], ({ act with target := { cur := some c } } : Dev).target.cur = some c) ∧
    (let d := act.set Reg.AUX_TCFG_ATNEN 1
     let d : Dev := { d with target := { values := d.mailbox, severe := 1 } }
     (d.target.values ≠ [] ∧ d.target.severe ≠ d.soot.severe) ∧ d.is Reg.AUX_TCFG_ATNEN = true) ∧
    act.target.values = [] ∧
    (let q := ((act.set Reg.AUX_TCFG_ATNQ 1).drive .atnN true).set (Reg.AUX_STAT_ATN 0) 1
     q.is Reg.AUX_TCFG_ATNQ = true ∧ q.ball .atnN = true ∧ q.target.stuck = false) ∧
    (act.set Reg.AUX_TCFG_ATNQ 0).is Reg.AUX_TCFG_ATNQ = false := by decide +kernel

/-! ## Witnesses: calibration, BIST, the soot log and the block -/

/-- Core 2 is standby, the tone's frequency and level are set, and no command runs. -/
def cal0 : Dev := ((capDev 4 4 1 {}).wr Reg.CAL_REFF 100000000).wr Reg.CAL_REFL 0xF830
/-- Slot 0 is VALID and holds a calibration set of one section for block 0. -/
def calSet : Dev :=
  { (slotDev 2 none []) with store := { mem := [(5, 3), (9, 255), (0x20, 1), (0x80, 4), (0x85, 1), (0x8D, 4)].map (fun c => (c.1, BitVec.ofNat 8 c.2)) } }
theorem witness_CalCommandsStartOrFail :
    (cal0.held 15 = false ∧ cal0.cmdBusy Reg.CAL_CMDSTAT = false) ∧ (cal0.set Reg.CAL_CMDSTAT_BUSY 1).cmdBusy Reg.CAL_CMDSTAT = true ∧
    (calRefOk (calKind 8) (cal0.rd Reg.CAL_REFF) (cal0.rd Reg.CAL_REFL) = true ∧ cal0.calTarget 8 = some 2 ∧ calKind 8 = 0 ∧ calKind 9 = 1) ∧
    calRefOk (calKind 8) 0 0 = false ∧ calRefOk (calKind 6) 868000000 0xF830 = true ∧ (act.set Reg.SMK_CTL_EN 1).is Reg.SMK_CTL_EN = true ∧ ({ cal0 with part := .fa9600 } : Dev).part.hasSmoke = false ∧
    (cal0.coreState 2 = 1 ∧ cal0.cap.replacing = none) ∧ dev0.is Reg.SMK_CTL_EN = false ∧ calSet.slotState 0 = 2 ∧ (slotDev 1 none []).slotState 0 ≠ 2 ∧
    ((calSet.loadDamage 0 .intact).1 = false ∧ (calSet.loadDamage 0 .bothCopies).1 = true) ∧
    (let f := (calSet.loadDamage 0 .intact).2
     f.imgByte 0 5 = 3 ∧ f.imgByte 0 8 ≤ f.get Reg.SYS_REV_EPOCH ∧ f.get Reg.SYS_REV_EPOCH ≤ f.imgByte 0 9 ∧ setShape (f.imgSecs 0) = true) ∧
    (let f := (fwDev.loadDamage 0 .intact).2
     f.imgByte 0 5 ≠ 3) ∧
    ({ cal0 with cal := { cmd := some { op := 1, target := 2 } } } : Dev).cal.cmd = some { op := 1, target := 2 } ∧ cal0.cal.cmd = none := by decide +kernel
/-- Block 0 of CAL_STG with a header and a CRC over zeros, as it is after reset. -/
def stg : Dev := dev0
theorem test_crc_of_zeros : crc32 (List.replicate 1016 0) = 0x80F8D2C4 := by
  unfold crc32
  rw [crc_forty 0x1613C24E (by decide +kernel), crc_forty 0x71DCE719 (by decide +kernel), crc_forty 0xC6A285D8 (by decide +kernel), crc_forty 0x55F8AC9C (by decide +kernel), crc_forty 0x368E5789 (by decide +kernel), crc_forty 0x439EDBEC (by decide +kernel), crc_forty 0x7B052A93 (by decide +kernel), crc_forty 0x5238A8B2 (by decide +kernel), crc_forty 0xE8C4B839 (by decide +kernel), crc_forty 0xB9DDF2F3 (by decide +kernel), crc_forty 0x9DD063C2 (by decide +kernel), crc_forty 0x04453C72 (by decide +kernel), crc_forty 0x89B83CC3 (by decide +kernel), crc_forty 0xCD3A0996 (by decide +kernel), crc_forty 0x88125DDC (by decide +kernel), crc_forty 0xB488E925 (by decide +kernel), crc_forty 0x80ED38A9 (by decide +kernel), crc_forty 0x00A10E56 (by decide +kernel), crc_forty 0x31209C7E (by decide +kernel), crc_forty 0x97705D1C (by decide +kernel), crc_forty 0x5A8EAEDE (by decide +kernel), crc_forty 0x86A07180 (by decide +kernel), crc_forty 0x1062BFA1 (by decide +kernel), crc_forty 0xC71DFF84 (by decide +kernel), crc_forty 0xF9F4E87F (by decide +kernel)]
  decide +kernel
theorem witness_RestoreChecksItsBlock :
    (stg.held 15 = false ∧ stg.cmdBusy Reg.CAL_CMDSTAT = false) ∧ ({ stg with part := .fa9600 } : Dev).part.hasSmoke = false ∧ (capDev 4 4 3 { rot := some (rot0 .applying) }).cap.rot = some (rot0 .applying) ∧
    (rot0 .applying).s = 2 ∧
    (let e : Dev := { stg with cal := { stg.cal with cmd := some { op := 2, target := 0 } } }
     let e := e.cmdStart Reg.CAL_CMDSTAT 2 9
     let w := fun i => e.rd (Reg.CAL_STG 0 i)
     (getBits (w 0) 31 24 = 1 ∧ getBits (w 0) 23 16 = 0 ∧ w 1 = blockCrc w ∧ ∀ i < 2, w (2 + i) = 0) ∧
     (∀ i < 68, (toSigned 16 ((w (36 + i)).toNat / 65536)).natAbs ≤ 1000) ∧ (∀ p < 8, getBits (w (109 + 2 * p)) 15 0 = 0) ∧ (∀ i < 132, w (124 + i) = 0)) ∧
    getBits ((stg.wr (Reg.CAL_STG 0 0) 0).rd (Reg.CAL_STG 0 0)) 31 24 ≠ 1 := by
  refine ⟨by decide, by decide, by decide, by decide, ⟨⟨by decide +kernel, by decide +kernel, ?_, by decide +kernel⟩, by decide +kernel, by decide +kernel, by decide +kernel⟩,
    by decide⟩
  have h : (List.range 254).flatMap (fun i => wordBytes ((({ stg with cal := { stg.cal with cmd := some { op := 2, target := 0 } } } : Dev).cmdStart
      Reg.CAL_CMDSTAT 2 9).rd (Reg.CAL_STG 0 (i + 2)))) = List.replicate 1016 0 := by decide +kernel
  rw [blockCrc, h, test_crc_of_zeros]
  decide +kernel
/-- A command of the calibration block and its applications. -/
def cald (c : Option CalCmd) (a : List CalApply) : Dev := { cal0 with cal := { cmd := c, applies := a } }
def run0 (target : Nat) (second abort : Bool) : CalCmd := { op := 1, target := target, refF := 1000000, second := second, abort := abort }
def app0 (b step : Nat) : CalApply := ⟨b, 4, [0], [7], step⟩
theorem witness_CalRunsAreAppliedOrEnd :
    (cald none []).held 15 = false ∧ (cald none []).cal.cmd = none ∧
    (∀ k ∈ [run0 2 false false, run0 2 true false, run0 5 true false, run0 6 true false, run0 2 true true], (cald (some k) []).cal.cmd = some k ∧ k.op = 1 ∧
      toneOk k.refF k.refL good = true ∧ toneOk k.refF k.refL { good with toneHz := 2000000 } = false) ∧
    (good.dGain ≤ 50 ∧ good.dPhase ≤ 20 ∧ ¬({ good with dGain := 201 } : CalMeas).dGain ≤ 200) ∧
    (cald none [app0 1 3]).cal.applies.find? (fun a => a.block == 1) = some (app0 1 3) ∧ (cald none []).cal.applies.find? (fun a => a.block == 1) = none ∧
    (app0 1 3).step + 1 < 256 ∧ 256 ≤ (app0 1 255).step + 1 ∧ (cald (some (run0 2 true true)) [app0 2 3]).ownsApply 2 = true ∧
    (cald (some (run0 2 false false)) [app0 2 3]).cal.applies.any (fun a => a.block == 2) = true ∧
    (let w := (cald (some { op := 2, target := 2, rest := [0] }) [app0 2 255]).calFinish 2
     w.cal.cmd = some { op := 2, target := 2, rest := [0] } ∧ w.cap.rot = none) ∧
    (let d := capDev 4 4 3 { rot := some (rot0 .applying) }
     d.cap.rot = some (rot0 .applying) ∧ (rot0 .applying).s = 2) := by decide +kernel
theorem witness_BistRunsAndEnds :
    dev0.held 16 = false ∧ dev0.cmdBusy Reg.BST_CMDSTAT = false ∧ (dev0.set Reg.BST_CMDSTAT_BUSY 1).cmdBusy Reg.BST_CMDSTAT = true ∧
    dev0.part.hasUnit 1 3 = true ∧ dev0.bistRefusal 1 3 = 0 ∧ (tested stPrimary 0).bistRefusal 1 2 ≠ 0 ∧
    (dev0.set (Reg.CAP_CC_STAT_STATE 0) 5).bistRefusal 3 0 = 0 ∧ (dev0.set (Reg.OVN_OSTAT_STATE 4) 4).bistRefusal 2 4 = 0 ∧
    dev0.bist = none ∧ ({ dev0 with bist := some (1, 3) } : Dev).bist = some (1, 3) ∧
    (let d := { dev0.set (Reg.OVN_OSTAT_STATE 4) 3 with bist := some (2, 4) }
     d.bist = some (2, 4) ∧ d.get (Reg.OVN_OSTAT_STATE 4) ≠ 2) ∧ (1 : Nat) ≠ 2 := by decide
theorem witness_BistConditionsAndResults :
    ({ dev0 with rolling := { unit := some 132 } } : Dev).rolling.unit = some (128 + 4) ∧ dev0.rolling.unit ≠ some (128 + 4) ∧
    (dev0.set (Reg.OVN_OSTAT_STATE 4) 4).get (Reg.OVN_OSTAT_STATE 4) = 4 ∧ (dev0.set (Reg.OVN_OSTAT_STATE 4) 3).get (Reg.OVN_OSTAT_STATE 4) = 3 ∧
    (dev0.setHearth 3 { before := stRetired }).hearth 3 = { before := stRetired } ∧
    SMap.find? 4 ({ dev0 with pool := { testing := [(4, 4)] } } : Dev).pool.testing = some 4 ∧ SMap.find? 4 dev0.pool.testing ≠ some 4 := by decide
/-- An entry of the holding stage, severe or not. -/
def soot0 (severe : Bool) : SootItem := ⟨1, 2, if severe then 2 else 1, 4, true⟩
theorem witness_SootEntriesAreWrittenWhole :
    dev0.soot.stage = [] ∧ ({ dev0 with soot := { stage := [soot0 true] } } : Dev).soot.stage = soot0 true :: [] ∧
    (getBits (soot0 true).w2 1 0 = 2 ∧ bit (soot0 true).w2 3 = false) ∧ getBits (soot0 false).w2 1 0 ≠ 2 ∧ dev0.soot.unack = [] ∧
    ({ dev0 with soot := { unack := [3] } } : Dev).soot.unack ≠ [] := by decide
theorem witness_SootAcknowledgementsClamp :
    (dev0.rd Reg.SOOT_PTR).toNat < (1 : Word).toNat ∧ dev0.soot.unack.filter (fun n => decide (0 ≤ n)) = [] := by decide
theorem witness_StepRunsFrontCommand : State.reset.pending = [] := rfl
theorem witness_YilWordsRoundTrip :
    (Yil.movi 14 0x6000).legal = true ∧ Yil.decode 0x78E06000 = some (0, .movi 14 0x6000) := by decide
theorem witness_ProgrammedFusesStayAsTheyAre :
    otpFresh State.reset ∧ SMap.get 0 (rsd { fuses := [(4, 1)] }).rst.fuses 4 ≠ 0 := ⟨fun i w h => by simp [State.reset, Dev.por] at h, by decide⟩
/-! ## Witnesses: what completed commands show -/

/-- After reset every page of the device lies in group 0, and group 5 has none. -/
theorem witness_CommitsShowTheirOutcome :
    (5 < 16 ∧ act.commits = [] ∧ act.captures = [] ∧ act.armed = none) ∧ act.pagesIn [5] = [] ∧
    act.devtime ≤ of64 (act.rd Reg.SYS_CMTTIME_LO) (act.rd Reg.SYS_CMTTIME_HI) ∧
    (let d := { act with captures := [⟨Reg.OVN_CFG, some 1, [(Reg.OVN_CFG, 100)], false, 0⟩] }
     d.commits = [] ∧ d.captures = [⟨Reg.OVN_CFG, some 1, [(Reg.OVN_CFG, 100)], false, 0⟩]) := by decide +kernel
theorem witness_SampleReadsLatch :
    rdy (.sysrd 1 2 0) (thr [(2, 0xFF2000)]) = true ∧ (((at0 (.sysrd 1 2 0) (thr [(2, 0xFF2000)])).hearth 0).thr.reg 2 + (0 : BitVec 16).signExtend 32).toNat = 0xFF2000 := by
  decide
theorem witness_CaptureShowsItsEffects :
    (let d := slow (-100) 50 1000000
     d.held 2 = false ∧ d.get (Reg.CAP_CC_STAT_STATE 0) = 4 ∧ (d.capCore 0).mode = 0 ∧ d.coreBlanked 0 = false ∧ d.rotFrozen 0 = false ∧
     (d.capCore 0).decayAt + d.get (Reg.CAP_CC_AGC_DECAY 0) * 1000000 ≤ d.now ∧ d.is (Reg.CAP_CC_STAT_STALE 0) = false ∧
     -5 * (d.get (Reg.CAP_CC_AGC_TARGET 0) : Int) + 5 * (d.get (Reg.CAP_CC_AGC_HYST 0) : Int) < d.getI (Reg.CAP_CC_LVL_RMS 0) ∧ 0 < d.get (Reg.CAP_CC_STAT_GIDX 0)) ∧
    (let d := slow (-120) 50 1000000
     (-5 * (d.get (Reg.CAP_CC_AGC_TARGET 0) : Int) - 5 * (d.get (Reg.CAP_CC_AGC_HYST 0) : Int) ≤ d.getI (Reg.CAP_CC_LVL_RMS 0)) ∧
     d.getI (Reg.CAP_CC_LVL_RMS 0) ≤ -5 * (d.get (Reg.CAP_CC_AGC_TARGET 0) : Int) + 5 * (d.get (Reg.CAP_CC_AGC_HYST 0) : Int)) ∧
    ((slow 0 50 0).set (Reg.CAP_CC_CTL_TRACK 0) 0).is (Reg.CAP_CC_CTL_TRACK 0) = false ∧
    ((dev0.set Reg.CAP_BLKCFG_EN_A 1).is Reg.CAP_BLKCFG_EN_A = true ∧ ((dev0.set Reg.CAP_BLKCFG_EN_A 1).blank 0).active = false) ∧
    (let d := ({ dev0 with now := 5000000, cap := { blankA := { active := true } } } : Dev).set Reg.CAP_BLKCFG_STUCK 5
     d.held 2 = false ∧ (d.blank 0).active = true ∧ (d.blank 0).stuckRaised = false ∧ (d.blank 0).since + d.get Reg.CAP_BLKCFG_STUCK * 1000000 ≤ d.now ∧
     d.evtFree Reg.CAP_EVT 7 0 = true) ∧
    (let d := capDev 4 4 1 { snap := some (snap0 0 true true false) }
     d.held 2 = false ∧ d.cap.snap = some (snap0 0 true true false) ∧ (snap0 0 true true false).running = true ∧ (snap0 0 true true false).mode = 0 ∧
     (snap0 0 true true false).full = { frames := 128 } :: [] ∧ (snap0 0 true true false).aborting = false ∧ d.evtFree Reg.ASH_EVT 8 0 = true) ∧
    (let d := (capDev 4 4 1 {}).setCapCore 2 { stepped := true }
     d.get (Reg.CAP_CC_STAT_STATE 2) = 1 ∧ d.roleOf 2 = none ∧ d.cap.rot = none ∧ d.cap.replacing = none ∧ d.cap.snap = none ∧ (d.capCore 2).stepped = true) := by
  decide +kernel
theorem witness_GrateShowsItsEffects :
    (let d := runs0.set Reg.GRT_BANKCFG_PWREN 1
     d.held 3 = false ∧ d.captures = [] ∧ d.is Reg.GRT_BANKCFG_PWREN = true) ∧
    (let d := { runs0.set (Reg.GRT_LSTAT_REFILL 0 0) 1 with scount := 64, lanes := [(0, { refillTo := 64 })] }
     d.held 3 = false ∧ 0 < d.part.lanes ∧ d.is (Reg.GRT_LSTAT_REFILL 0 0) = true ∧ (d.lane 0).refillTo ≤ d.scount ∧ d.evtFree Reg.GRT_EVT 1 0 = true) ∧
    (let d := ({ runs0 with binCount := 16 } : Dev).set Reg.GRT_BANKCFG_PWREN 1 |>.set Reg.GRT_BANKCFG_AVG 4
     2 ^ d.get Reg.GRT_BANKCFG_AVG ≤ d.binCount) ∧
    (let d := { runs0 with scount := 1000000000 }
     d.is (Reg.GRT_LSTAT_RUN 0 0) = true ∧ (d.lane 0).next * d.grid 0 + d.laneDelay 0 ≤ d.scount) ∧
    (let d := capDev 4 4 5 {}
     d.held 2 = false ∧ d.get (Reg.CAP_CC_STAT_STATE 0) = 4 ∧ d.rotReady = false ∧ monitorLevel 1 7 false = 1) := by decide +kernel
theorem witness_LaneCommandsShowTheirBinding :
    (let d := unbound true
     (0 < d.part.lanes ∧ (d.rd (Reg.LANE_CMDSTAT 0)).getLsbD 0 = false ∧ d.migrating 0 = false) ∧ d.is (Reg.LANE_CTL_EN 0) = false ∧
     d.bound 0 = none ∧ d.hearthsIn stFree = [9] ∧ 9 < d.part.hearths ∧ d.hstate 9 = stFree) ∧
    (let d := fleet true {} {}
     (0 < d.part.lanes ∧ (d.rd (Reg.LANE_CMDSTAT 0)).getLsbD 0 = false ∧ d.migrating 0 = false) ∧ d.is (Reg.LANE_CTL_EN 0) = false ∧
     d.bound 0 = some 0 ∧ d.migr = true ∧ (d.hearth 0).running = false ∧ d.hstate 9 = stFree) ∧
    (let d := (fleet true { started := true } {}).set (Reg.LANE_CTL_EN 0) 1
     (0 < d.part.lanes ∧ (d.rd (Reg.LANE_CMDSTAT 0)).getLsbD 0 = false ∧ d.migrating 0 = false) ∧ d.is (Reg.LANE_CTL_EN 0) = true ∧
     d.bound 0 = some 0 ∧ (d.lane 0).started = true) ∧
    (let d := waiting (some 9) true
     d.is (Reg.LANE_CTL_EN 0) = false ∧ (d.lane 0).waitBind = some (some 9) ∧ d.hstate 9 = stFree) := by decide +kernel
/-- Hearth 2, FREE and silent since time 0, with its program running for no lane. -/
def silent2 : Dev :=
  { (dev0.setHearth 2 { running := true }).set (Reg.HST_STAT_STATE 2) stFree with now := 10000 }
theorem witness_HearthsShowTheirState :
    ((tested stTesting 1).hstate 2 = stTesting ∧ ((tested stTesting 1).hearth 2).testKind = 1) ∧
    (silent2.laneOf 2 = none ∧ 2 ≤ silent2.hstate 2 ∧ silent2.hstate 2 ≤ 5 ∧ (silent2.hearth 2).running = true ∧ (silent2.hearth 2).wait = none ∧
      (silent2.hearth 2).lastRetire + 10000 ≤ silent2.now) ∧
    ((tested stIsolated 0).hstate 2 = stIsolated ∧ ((tested stIsolated 0).hearth 2).testKind = 0) ∧
    (let d := (rolls true { suspects := [5, 130] }).set (Reg.HST_STAT_STATE 5) stFree
     d.is Reg.HMG_RSTCFG_EN = true ∧ d.migr = true ∧ d.rolling.unit = none ∧ d.rolling.startedAt = 0 ∧ d.rolling.suspects = 5 :: [130] ∧ d.hstate 5 = stFree) ∧
    ((tested stTesting 2).hstate 2 = stTesting ∧ ((tested stTesting 2).hearth 2).testKind = 2) ∧
    (let d := fleet true {} { replay := some 0 }
     d.laneOf 0 = some 0 ∧ (d.hearth 0).replay = some 0 ∧ (d.lane 0).bkNext ≤ 0 ∧ (d.hearth 0).fifo = [] ∧ (d.replayRest 0 0).length ≤ 1024 ∧
     (d.lane 0).mig = none ∧ (d.lane 0).swap = none ∧ d.shadowOf 0 = none ∧ 0 < d.part.hearths) ∧
    (let m := mig0 .unplanned false false false
     ((migd m none).lane 0).mig = some m ∧ m.loaded = false ∧ m.copying = false ∧ ((migd m none).lane 0).halted = false) ∧
    (let m := mig0 .unplanned true true false
     let d : Dev := { (migd m none).set (Reg.LANE_DRAW_ACTIVE 0) 100 with now := 100000000 }
     (d.lane 0).mig = some m ∧ m.kind = .unplanned ∧ m.loaded = true ∧ m.spliced = false ∧ m.fault + d.get (Reg.LANE_DRAW_ACTIVE 0) * 1000000 ≤ d.now) ∧
    (let d : Dev := { fleet true { lockFell := 1 } {} with now := 1000000000 }
     (d.lane 0).lockFell ≠ 0 ∧ (d.lane 0).lockFell - 1 + 1000000000 ≤ d.now) := by decide +kernel
theorem witness_OvensShowTheirStatus :
    (SMap.get none oneOven.pool.busy 0 = some oq ∧ oq.dropped = false ∧ oq.ticket < 4 ∧ oneOven.chimney.failed.contains (.oven 0) = false) ∧
    (let d : Dev := { dev0.setHearth 0 { smp := 5 } with pool := { ldpc := [oq] } }
     d.pool.ldpc = [oq] ∧ d.pool.trellis = [] ∧ oq.deadline ≤ (d.hearth oq.hearth).smp) ∧
    (let d := (({ dev0 with now := 10000000 } : Dev).setHearth 0 { units := [(1, { running := some (hobR 0) })] }).set (Reg.HST_STAT_STATE 0) stFree
     ((d.hearth 0).unit 1).running = some (hobR 0) ∧ 0 + 2 * d.statedNs 0 1 (hobR 0) ≤ d.now ∧ d.laneOf 0 = none ∧ 2 ≤ d.hstate 0 ∧ d.hstate 0 ≤ 5) := by
  decide +kernel

/-! ## Values the spec works out -/

/-- Chapter 4, worked examples 1 to 3: lanes 17, 60 and 61 as set there. -/
def lane17 : Dev := ((Dev.por.wr (Reg.GRT_LCFG 2 1) 0xD01300C4).wr (Reg.GRT_LFREQ 2 1) 0x3170A3D7).wr (Reg.GRT_LGAIN 2 1) 0x00100007
def lane60 : Dev := (Dev.por.wr (Reg.GRT_LCFG 7 4) 0x8061001F).wr (Reg.GRT_LFREQ 7 4) 0x07DD2F1B
def lane61 : Dev := (Dev.por.wr (Reg.GRT_LCFG 7 5) 0x90B10000).wr (Reg.GRT_LFREQ 7 5) 0x0017689D
theorem test_grate_lane_fields :
    Reg.GRT_LCFG 2 1 = 0x53020 ∧ lane17.get (Reg.GRT_LCFG_SRC 2 1) = 1 ∧ lane17.get (Reg.GRT_LCFG_PRESET 2 1) = 1 ∧ lane17.get (Reg.GRT_LCFG_DLOG 2 1) = 1 ∧
    lane17.get (Reg.GRT_LCFG_NBINS 2 1) = 3 ∧ lane17.get (Reg.GRT_LCFG_BIN 2 1) = 196 ∧ lane17.get (Reg.GRT_LGAIN_ETHR 2 1) = 0x10 ∧
    lane17.get (Reg.GRT_LGAIN_GAIN 2 1) = 7 := by decide
theorem test_grate_span : spanBad 0x3170A3D7 196 4 = false ∧ spanBad 0x3170A3D7 197 1 = true ∧ spanBad 0x07DD2F1B 31 2 = false ∧ spanBad 0x07DD2F1B 31 1 = true := by decide
/-- The constant delays are 5.105 µs, 122.305 µs and 2,542.145 µs (R137): a sample's time at the ball is that much before its time. -/
theorem test_grate_delay :
    lane17.ballTime 17 { s0 with t := 10000000 } = 10000000 - 5105 ∧ lane60.ballTime 60 { s0 with t := 10000000 } = 10000000 - 122305 ∧
    lane61.ballTime 61 { s0 with t := 10000000 } = 10000000 - 2542145 := by decide
/-- Chapter 3, worked example 1: GIDX 87 is LNA 18 dB (code 3) and 6 dB of attenuation (code 12). -/
theorem test_gain_index_87 : splitGain 87 = (3, 12) ∧ gidxOf 3 12 = 87 := by decide
/-- Chapter 3, worked example 2: CAP_SNAPCFG, and 21,731 records of the buffer. -/
theorem test_snapshot_settings :
    (let d := Dev.por.wr Reg.CAP_SNAPCFG 0x22801388
     d.get Reg.CAP_SNAPCFG_MODE = 0 ∧ d.get Reg.CAP_SNAPCFG_SRC = 4 ∧ d.get Reg.CAP_SNAPCFG_TRIG = 2 ∧ d.is Reg.CAP_SNAPCFG_RING = true ∧
     d.get Reg.CAP_SNAPCFG_POST = 5000) ∧ (0x10000 * 4096 - 4096) / recSize 0 = 21731 := by decide
/-- Chapter 11, worked example 1. -/
theorem test_audio_settings :
    (let d := (Dev.por.wr (Reg.AUD_CTL 2) 0xE9072401).wr (Reg.AUD_RATE 2) 0x50493E00
     Reg.AUD_CTL 2 = 0x313000 ∧ d.is (Reg.AUD_CTL_EN 2) = true ∧ d.is (Reg.AUD_CTL_MASTER 2) = true ∧ d.get (Reg.AUD_CTL_FMT 2) = 2 ∧ d.is (Reg.AUD_CTL_AUTOHEAL 2) = true ∧
     d.is (Reg.AUD_CTL_DELAY 2) = true ∧ d.audSlots 2 = 8 ∧ widthBits (d.get (Reg.AUD_CTL_SWIDTH 2)) = 32 ∧ d.get (Reg.AUD_CTL_SAMPW 2) = 1 ∧
     d.get (Reg.AUD_CTL_MDIV 2) = 1 ∧ d.get (Reg.AUD_RATE_NOM 2) = 5 ∧ d.get (Reg.AUD_RATE_RATE 2) = 4800000) ∧
    routeFeed 0x603C0100 = some (60 * 8) ∧ routeOk 0x603C0100 = true ∧ routeOk 0x8000000C = true := by decide
/-- Chapter 12, worked example 1: the page's airtime is 38 ms, and its registers. -/
theorem test_page_airtime :
    smkAir 30 8 31 0 = 38 ∧ smkWidth false 0 = 100000 ∧
    (let d := (Dev.por.wr Reg.SMK_PGCFG 0xF801E30D).wr Reg.SMK_PGDEST 0xFFFF3064
     d.is Reg.SMK_PGCFG_PEN = true ∧ d.get Reg.SMK_PGCFG_PWR = 60 ∧ d.get Reg.SMK_PGCFG_LPRE = 30 ∧ d.get Reg.SMK_PGCFG_CH = 781 ∧
     d.get Reg.SMK_PGDEST_DEST = 0xFFFF ∧ d.get Reg.SMK_PGDEST_REPEAT = 3 ∧ d.get Reg.SMK_PGDEST_PGINT = 100) := by decide
/-- Chapter 10, worked example 1: entry 17's address and words, its group's MAC address. -/
theorem test_stream_entry :
    entAddr 0 17 0 = 0x301220 ∧
    (let d := (Dev.por.wr (entAddr 0 17 0) 0xC0881101).wr (entAddr 0 17 2) 0x88C88064
     d.entOn 0 17 = true ∧ d.entKind 0 17 = 0 ∧ d.entEnc 0 17 = 0 ∧ d.ent 0 17 0 23 21 = 4 ∧ d.ent 0 17 0 14 8 = 17 ∧ d.ent 0 17 2 25 16 = 200 ∧
     entWordOk d.part 0 0 0xC0881101 = true) ∧ mac4 [] [0xEF, 0x0A, 0x00, 0x11] = [0x01, 0x00, 0x5E, 0x0A, 0x00, 0x11] := by decide
/-- Chapter 15, worked example 1: an ember wake from BANKED reads 0x20010008 in RST_CAUSE. -/
theorem test_ember_wake_cause : ((rsd { banked := true, steps := [], asserted := false }).wakeUp 1).rd Reg.RST_CAUSE = 0x20010008 := by decide +kernel
/-- Chapter 6, the worked program: its words and what they spell. -/
theorem test_program_words :
    (Yil.movi 14 0x6000).encode 0 = 0x78E06000 ∧ (Yil.bcc 0 8).encode 0 = 0xA4000008 ∧ (Yil.mem .stw 2 14 0x10).encode 0 = 0x8C2E0010 ∧
    (Yil.cmp 2 (.reg 4)).encode 0 = 0x34024000 ∧ Yil.uret.encode 0 = 0xB4000000 := by decide
/-- The table gives no row any bits: no word spells a command, and the queue stays as it is. -/
theorem test_no_table_words : decodeTableWord 32 0xB4000000 = none ∧ State.reset.withFetchWord 32 0xB4000000 = State.reset := by decide

end Sys2Proof.Tests
end

section
/-! Fields, masks and status words, as numbers and as bits. -/

namespace Sys2Proof.Machine

/-- A word with a field replaced, bit by bit. -/
theorem getLsbD_putBits (w : Word) {hi lo : Nat} (v : Nat) (h : hi ≤ 31) (hl : lo ≤ hi) (i : Nat) :
    (putBits w hi lo v).getLsbD i = if lo ≤ i ∧ i ≤ hi then v.testBit (i - lo) else w.getLsbD i := by
  simp only [putBits, BitVec.getLsbD_or, BitVec.getLsbD_and, BitVec.getLsbD_not, getLsbD_maskOf _ _ _ h hl,
    BitVec.getLsbD_shiftLeft, BitVec.getLsbD_ofNat]
  by_cases hin : lo ≤ i ∧ i ≤ hi
  · simp [hin.1, hin.2, show i < 32 by omega, show i - lo < 32 by omega]
  · have hm : (decide (lo ≤ i) && decide (i ≤ hi)) = false := by simpa using hin
    rw [hm, if_neg hin]
    by_cases h32 : i < 32
    · simp [h32]
    · simp [h32, BitVec.getLsbD_of_ge w i (by omega)]

/-- A word with a field replaced, as a number: what lies above the field, the field, what lies below. -/
theorem putBits_toNat (w : Word) {hi lo : Nat} (v : Nat) (h : hi ≤ 31) (hl : lo ≤ hi) :
    (putBits w hi lo v).toNat =
      2 ^ (hi + 1) * (w.toNat / 2 ^ (hi + 1)) + (2 ^ lo * (v % 2 ^ (hi + 1 - lo)) + w.toNat % 2 ^ lo) := by
  have hC : w.toNat % 2 ^ lo < 2 ^ lo := Nat.mod_lt _ (by positivity)
  have hB : 2 ^ lo * (v % 2 ^ (hi + 1 - lo)) + w.toNat % 2 ^ lo < 2 ^ (hi + 1) := by
    have hv : v % 2 ^ (hi + 1 - lo) + 1 ≤ 2 ^ (hi + 1 - lo) := Nat.mod_lt _ (by positivity)
    calc _ < 2 ^ lo * (v % 2 ^ (hi + 1 - lo) + 1) := by rw [Nat.mul_add]; omega
      _ ≤ 2 ^ lo * 2 ^ (hi + 1 - lo) := Nat.mul_le_mul_left _ hv
      _ = 2 ^ (hi + 1) := by rw [← pow_add]; congr 1; omega
  apply Nat.eq_of_testBit_eq
  intro i
  rw [Nat.testBit_two_pow_mul_add _ hB, Nat.testBit_two_pow_mul_add _ hC, BitVec.testBit_toNat, getLsbD_putBits w v h hl]
  simp only [Nat.testBit_div_two_pow, Nat.testBit_mod_two_pow, BitVec.testBit_toNat]
  by_cases hhi : i < hi + 1
  · by_cases hlo : i < lo
    · simp [hhi, hlo, Nat.not_le.mpr hlo]
    · simp [hhi, hlo, Nat.le_of_not_lt hlo, show i ≤ hi by omega, show i - lo < hi + 1 - lo by omega]
  · rw [if_neg hhi, if_neg (by omega), show i - (hi + 1) + (hi + 1) = i by omega]

theorem getBits_lt (w : Word) (hi lo : Nat) : getBits w hi lo < 2 ^ (hi + 1 - lo) := by
  unfold getBits; exact BitVec.isLt _

/-- The status word of a command that was accepted and ended at once (R127). -/
theorem cmdDone_word {op tag st : Nat} (ho : op < 256) (ht : tag < 256) (hs : st < 256) :
    putBits (putBits (BitVec.ofNat 32 (op % 256 * 2 ^ 24 + tag % 256 * 2 ^ 8 + 1)) 23 16 st) 0 0 0
      = BitVec.ofNat 32 (op * 2 ^ 24 + st * 2 ^ 16 + tag * 2 ^ 8) := by
  apply BitVec.eq_of_toNat_eq
  rw [putBits_toNat _ 0 (by omega) (le_refl 0), putBits_toNat _ st (by omega) (by omega)]
  simp only [BitVec.toNat_ofNat]
  omega

theorem Dev.cmdDone_eq_wr (d : Dev) (a : Nat) {op tag st : Nat} (ho : op < 256) (ht : tag < 256) (hs : st < 256) :
    d.cmdDone a op tag st = d.wr a (BitVec.ofNat 32 (op * 2 ^ 24 + st * 2 ^ 16 + tag * 2 ^ 8)) := by
  unfold Dev.cmdDone Dev.cmdEnd Dev.cmdStart
  rw [Dev.rd_wr_same, cmdDone_word ho ht hs]
  unfold Dev.wr
  rw [SMap.put_put]

/-- A command to an absent unit ends with its OP and TAG and the status ABSENT (R4). -/
theorem Dev.cmdAbsent_eq_wr (d : Dev) (a : Nat) {op tag : Nat} (ho : op < 256) (ht : tag < 256) :
    d.cmdAbsent a op tag = d.wr a (BitVec.ofNat 32 (op * 2 ^ 24 + 0xFE * 2 ^ 16 + tag * 2 ^ 8)) :=
  d.cmdDone_eq_wr a ho ht (by omega)

/-! ## Bits of masks and merges -/

theorem getLsbD_mergeMask (m w v : Word) (k : Nat) :
    (mergeMask m w v).getLsbD k = if m.getLsbD k then v.getLsbD k else w.getLsbD k := by
  simp only [mergeMask, BitVec.getLsbD_or, BitVec.getLsbD_and, BitVec.getLsbD_not]
  by_cases hk : k < 32
  · cases m.getLsbD k <;> simp [hk]
  · simp [hk, BitVec.getLsbD_of_ge w k (by omega), BitVec.getLsbD_of_ge v k (by omega)]

/-- A one-bit field that was put, and every other bit of the word. -/
theorem getLsbD_putBits_bit (w : Word) {b k : Nat} (v : Bool) (hb : b < 32) :
    (putBits w b b (b2n v)).getLsbD k = if k = b then v else w.getLsbD k := by
  rw [getLsbD_putBits w _ (by omega) (le_refl b)]
  by_cases hk : k = b
  · subst hk; cases v <;> simp [b2n]
  · rw [if_neg (by omega), if_neg hk]

theorem getLsbD_maskOf_inside {hi lo b : Nat} (hb : b < 32) (hl : lo ≤ b) (hh : b ≤ hi) : (maskOf hi lo).getLsbD b = true := by
  unfold maskOf
  simp only [BitVec.getLsbD_shiftLeft, BitVec.getLsbD_ofNat, Nat.testBit_two_pow_sub_one]
  simp; omega

theorem getLsbD_foldl_maskOf (q : Field → Bool) (b : Nat) (fs : List Field) (m : Word) :
    (fs.foldl (fun m f => if q f then m ||| maskOf f.hi f.lo else m) m).getLsbD b =
      (m.getLsbD b || fs.any (fun f => q f && (maskOf f.hi f.lo).getLsbD b)) := by
  induction fs generalizing m with
  | nil => simp
  | cons f fs ih => cases hq : q f <;> simp [ih, hq, Bool.or_assoc]

/-- A bit of a field of the kind asked for is in the mask of that kind. -/
theorem Reg.getLsbD_maskBy_of_fieldAt {r : Reg} {q : Field → Bool} {b : Nat} {f : Field} (hb : b < 32)
    (hf : r.fieldAt b = some f) (hq : q f = true) : (r.maskBy q).getLsbD b = true := by
  have hin : f.lo ≤ b ∧ b ≤ f.hi := by simpa using List.find?_some hf
  have hany : r.fields.any (fun f => q f && (maskOf f.hi f.lo).getLsbD b) = true :=
    List.any_eq_true.mpr ⟨f, List.mem_of_find?_eq_some hf, by simp [hq, getLsbD_maskOf_inside hb hin.1 hin.2]⟩
  rw [Reg.maskBy, getLsbD_foldl_maskOf, hany, Bool.or_true]

end Sys2Proof.Machine
end

section
/-! Commands as maps of the device, and writes of registers through a port: what refuses them, what they store, and the one bit that an
aliased write changes. -/

namespace Sys2Proof.Machine

/-! ## Commands as maps of the device -/

/-- A command goes on to the device that its arm answers. -/
theorem goes_of_next {c : Instr} {s : State} {d t : Dev} (hx : exec c s = .next { s with dev := d }) (ht : d = t) : Goes c s t := by
  subst ht; exact hx

theorem completes_of_goes {c : Instr} {s : State} {t : Dev} {P : Dev → Dev → Prop} (h : Goes c s t) (hp : P s.dev t) :
    Completes c s P := ⟨t, h, hp⟩

theorem goes_registerWrite {s : State} {who : Initiator} {a : Nat} {w : Word} {be : BitVec 4} {x : WriteCtx} {t : Dev}
    (h : s.dev.portWrite who a w be x = t) : Goes (.registerWrite who a w be x) s t :=
  goes_of_next rfl h

/-! ## The way of a write to its register (R4, R13, R14, R55) -/

section
variable {d : Dev} {who : Initiator} {a : Nat} {w : Word} {x : WriteCtx}

/-- A write without an error of the port, below the MSI-X table, goes to the map. -/
theorem Dev.portWrite_eq_mapWrite {be : BitVec 4} (hr : d.reaches who = true) (hb : inBar who a = true) (he : x.aer = 0)
    (ha : a < 0x3FF0000) : d.portWrite who a w be x = d.mapWrite who a w be x := by
  unfold Dev.portWrite
  simp [he, Dev.aerLog, hr, hb, Nat.not_le.mpr ha]

theorem mapOpen_iff : mapOpen d who a x = true ↔
    d.reaches who = true ∧ inBar who a = true ∧ a < 0x800000 ∧ a % 4 = 0 ∧ x.aer = 0 := by
  simp [mapOpen, and_assoc]

/-- A whole word reaches its register. -/
theorem Dev.portWrite_word (h : mapOpen d who a x = true) : d.portWrite who a w 15 x = d.regWrite who a w x := by
  obtain ⟨hr, hb, ha, h4, he⟩ := mapOpen_iff.mp h
  rw [Dev.portWrite_eq_mapWrite hr hb he (by omega)]
  unfold Dev.mapWrite
  simp only [show a / 4 * 4 = a by omega]
  rw [if_neg (by omega), if_neg (by omega), if_neg (by omega), if_neg (by simp), if_pos (by omega)]

/-- A partial write outside the byte-writable buffers is discarded (R14). -/
theorem Dev.portWrite_partial {be : BitVec 4} (h : mapOpen d who a x = true) (hbe : be ≠ 15) (hbw : byteWritable a = false) :
    d.portWrite who a w be x = d.alignDiscard who true a := by
  obtain ⟨hr, hb, ha, h4, he⟩ := mapOpen_iff.mp h
  rw [Dev.portWrite_eq_mapWrite hr hb he (by omega)]
  unfold Dev.mapWrite
  simp only [show a / 4 * 4 = a by omega]
  rw [if_neg (by omega), if_neg (by omega), if_neg (by omega), if_pos hbe, if_neg (by simp [hbw])]

theorem Dev.regWrite_absent (hp : d.part.has a = false) : d.regWrite who a w x = d.absentWrite a w := by
  simp [Dev.regWrite, hp]

theorem Dev.regWrite_unassigned (hp : d.part.has a = true) (hl : lookupReg a = none) : d.regWrite who a w x = d := by
  simp [Dev.regWrite, hp, hl]

theorem Dev.regWrite_refused {r : Reg} (hp : d.part.has a = true) (hl : lookupReg a = some r) (hr : r.prv ≠ 0)
    (hw : privileged who = false) : d.regWrite who a w x = d.privAttempt who true a := by
  simp only [Dev.regWrite, hp, hl]
  rw [if_neg (by decide), if_pos ⟨hr, by simp [hw]⟩]

theorem Dev.regWrite_allowed {r : Reg} (hp : d.part.has a = true) (hl : lookupReg a = some r)
    (hr : r.prv = 0 ∨ privileged who = true) : d.regWrite who a w x = d.regPut a r w x := by
  rcases hr with hr | hr <;> simp [Dev.regWrite, hp, hl, hr]

/-- A write to an absent unit is ignored where it is no command register. -/
theorem Dev.absentWrite_ignored (hl : ¬(0x100000 ≤ a ∧ a < 0x160000 ∧ a % 0x1000 = 0x18)) (hx : a ≠ Reg.AUX_CMD 2)
    (ht : a ≠ Reg.SMK_TXCMD) : d.absentWrite a w = d := by
  simp only [Dev.absentWrite, if_neg hl, if_neg hx, if_neg ht]

end

theorem refusedRegisterWritesOnlyLeaveALog : Claim.RefusedRegisterWritesOnlyLeaveALog := by
  intro s who a w be x d src detail absent hm
  have absentOf : ∀ st, d.part.has a = false → d.absentWrite a w = d.cmdAbsent st (getBits w 31 24) (getBits w 15 8) → absent st := by
    intro st hp ha
    apply goes_registerWrite
    rw [Dev.portWrite_word hm, Dev.regWrite_absent hp, ha, Dev.cmdAbsent_eq_wr _ _ (getBits_lt w 31 24) (getBits_lt w 15 8)]
  refine ⟨fun hp hl => ?_, fun hp => ⟨?_, ?_, ?_, ?_⟩, fun r hp hl hr hw => ?_, fun hbe hbw => ?_, ?_⟩
  · exact goes_registerWrite (by rw [Dev.portWrite_word hm, Dev.regWrite_unassigned hp hl])
  · intro h1 h2 h3
    exact absentOf _ hp (if_pos ⟨h1, h2, h3⟩)
  · rintro rfl
    exact absentOf _ hp rfl
  · rintro rfl
    exact absentOf _ hp rfl
  · intro h1 h2 h3
    exact goes_registerWrite (by rw [Dev.portWrite_word hm, Dev.regWrite_absent hp, Dev.absentWrite_ignored h1 h2 h3])
  · have hu : privileged who = false := by rcases hw with rfl | rfl <;> rfl
    refine goes_registerWrite ?_
    rw [Dev.portWrite_word hm, Dev.regWrite_refused hp hl hr hu]
    simp [Dev.privAttempt, accessDetail, b2n, d, detail]
  · refine goes_registerWrite ?_
    rw [Dev.portWrite_partial hm hbe hbw]
    simp [Dev.alignDiscard, accessDetail, b2n, d, detail]
  · refine ⟨?_, ?_, ?_, ?_⟩ <;> (rintro rfl; rfl)

/-! ## What a write stores (R12, R57, R68) -/

section
variable {d : Dev} {a : Nat} {w : Word} {x : WriteCtx} {r : Reg}

theorem Dev.sh_shWr (d : Dev) (a b : Nat) (w : Word) : (d.shWr a w).sh b = if b = a then w else d.sh b := by
  unfold Dev.sh Dev.shWr
  by_cases h : b = a
  · subst h; simp
  · simp [SMap.get, SMap.find_put_other _ _ _ h, h]

/-- SYS_IMMED has an effect of its own. -/
theorem Dev.ne_sysImmed_of_hookSys {m : Word} (h : d.hookSys a m w x = none) : a ≠ Reg.SYS_IMMED := by
  rintro rfl
  simp [Dev.hookSys] at h

/-- A register without an effect of its own takes the bits of its RW fields and nothing else changes. -/
theorem Dev.plainWrite_stores (he : enVector a = none) (hs : d.hookSys a r.rwMask w x = none) (hb : d.hookBlock a w x = none)
    (ho : d.hookOther a w x = none) :
    (d.plainWrite a r w x).rd a = mergeMask r.rwMask (d.rd a) w ∧ KeepsRegs [a] d (d.plainWrite a r w x) ∧
      d.plainWrite a r w x = { d with regs := (d.plainWrite a r w x).regs } := by
  have hp : d.plainWrite a r w x = if r.rwMask = 0 then d else d.rwMerge a r.rwMask w := by
    simp [Dev.plainWrite, he, hs, hb, ho]
  rw [hp]
  by_cases hm : r.rwMask = 0
  · rw [if_pos hm, hm]
    refine ⟨BitVec.eq_of_getLsbD_eq fun k _ => ?_, fun _ _ => rfl, rfl⟩
    simp [getLsbD_mergeMask]
  · rw [if_neg hm]
    refine ⟨by simp [Dev.rwMerge], fun b hb => ?_, rfl⟩
    exact Dev.rd_wr_other _ _ (by simpa using hb)

/-- A buffered write as far as it is the same in and outside immediate mode: the shadow word and PEND of the page (R57). -/
def Dev.toShadow (d : Dev) (a : Nat) (w : Word) : Dev :=
  let e := (d.shWr a (mergeMask (rwbMask a) (d.sh a) w)).setPend (pageOf a) true
  { e with smoke := { e.smoke with embOld := e.smoke.embOld.filter (· != a) } }

theorem Dev.regs_toShadow (d : Dev) (a : Nat) (w : Word) : (d.toShadow a w).regs = (d.setPend (pageOf a) true).regs := by
  simp only [Dev.toShadow, Dev.setPend, Dev.wr, Dev.shWr, Dev.rd]

theorem Dev.rd_toShadow (d : Dev) (a b : Nat) (w : Word) :
    (d.toShadow a w).rd b = if b = cgrp (pageOf a) then putBits (d.rd b) 31 31 (b2n true) else d.rd b := by
  rw [Dev.rd_eq_of_regs (d.regs_toShadow a w), Dev.setPend, Dev.rd_wr]
  split
  · next hb => rw [hb]
  · rfl

theorem Dev.sh_toShadow (d : Dev) (a b : Nat) (w : Word) :
    (d.toShadow a w).sh b = if b = a then mergeMask (rwbMask a) (d.sh a) w else d.sh b := by
  rw [← Dev.sh_shWr]
  simp only [Dev.toShadow, Dev.setPend, Dev.wr, Dev.sh]

theorem Dev.toShadow_frame (d : Dev) (a : Nat) (w : Word) : d.toShadow a w = { d with
    regs := (d.toShadow a w).regs, shadow := (d.toShadow a w).shadow
    smoke := { d.smoke with embOld := d.smoke.embOld.filter (· != a) } } := by
  unfold Dev.toShadow Dev.setPend
  generalize cgrp (pageOf a) = q
  rfl

theorem cgrp_pageOf_ne_sysImmed (a : Nat) : Reg.SYS_IMMED ≠ cgrp (pageOf a) := by
  simp only [pageOf, cgrp, Reg.SYS_IMMED]; omega

@[simp] theorem Dev.rd_markLate (d : Dev) (p b : Nat) : (d.markLate p).rd b = d.rd b := rfl
@[simp] theorem Dev.sh_markLate (d : Dev) (p b : Nat) : (d.markLate p).sh b = d.sh b := rfl

/-- Outside immediate mode a buffered write marks what waits on the page as followed, and is done (R58). -/
theorem Dev.shadowWrite_eq_markLate (hi : d.immed (blockOf a) = false) :
    d.shadowWrite a w = (d.toShadow a w).markLate (pageOf a) := by
  have hi' : (d.toShadow a w).immed (blockOf a) = false := by
    unfold Dev.immed; rw [Dev.rd_toShadow, if_neg (cgrp_pageOf_ne_sysImmed a)]; exact hi
  have h : d.shadowWrite a w = if (d.toShadow a w).immed (blockOf a) then (d.toShadow a w).immedWord a
      else (d.toShadow a w).markLate (pageOf a) := by
    unfold Dev.shadowWrite Dev.toShadow; rfl
  rw [h, hi', if_neg (by simp)]

/-- A write of buffered fields outside immediate mode: the shadow, PEND of the page, and the captures that wait. -/
theorem Dev.shadowWrite_buffers (hi : d.immed (blockOf a) = false) :
    (d.shadowWrite a w).sh a = mergeMask (rwbMask a) (d.sh a) w ∧
    (∀ b, b ≠ a → (d.shadowWrite a w).sh b = d.sh b) ∧
    KeepsRegs [cgrp (pageOf a)] d (d.shadowWrite a w) ∧
    ((d.shadowWrite a w).rd (cgrp (pageOf a))).getLsbD 31 = true ∧
    (d.shadowWrite a w).captures = d.captures.map (fun c => if c.page = pageOf a then { c with late := true } else c) := by
  rw [Dev.shadowWrite_eq_markLate hi]
  refine ⟨?_, fun b hb => ?_, fun b hb => ?_, ?_, ?_⟩
  · rw [Dev.sh_markLate, Dev.sh_toShadow, if_pos rfl]
  · rw [Dev.sh_markLate, Dev.sh_toShadow, if_neg hb]
  · rw [Dev.rd_markLate, Dev.rd_toShadow, if_neg (by simpa using hb)]
  · rw [Dev.rd_markLate, Dev.rd_toShadow, if_pos rfl, getLsbD_putBits_bit _ _ (by omega), if_pos rfl]
  · rw [Dev.markLate, Dev.toShadow_frame]

/-- Nothing but the registers, the shadow and the captures changes where no ember register shows its old word (log 33). -/
theorem Dev.shadowWrite_frame (hi : d.immed (blockOf a) = false) (he : d.smoke.embOld = []) : d.shadowWrite a w = { d with
    regs := (d.shadowWrite a w).regs, shadow := (d.shadowWrite a w).shadow, captures := (d.shadowWrite a w).captures } := by
  have hs : { d.smoke with embOld := d.smoke.embOld.filter (· != a) } = d.smoke := by
    rw [he, List.filter_nil, ← he]
  have ht := d.toShadow_frame a w
  rw [hs] at ht
  rw [Dev.shadowWrite_eq_markLate hi]
  generalize d.toShadow a w = e at ht
  rw [ht]
  rfl

end

theorem plainRegisterWriteStores : Claim.PlainRegisterWriteStores := by
  intro s who a w x r d p hm hp hl hr hq hc hi he hne hemb hs hb ho
  have ha : a ≠ Reg.SYS_IMMED := Dev.ne_sysImmed_of_hookSys (hs 0)
  obtain ⟨hrd, hkeep, hframe⟩ := Dev.plainWrite_stores (r := r) he (hs _) hb ho
  have hput : d.portWrite who a w 15 x =
      if r.rwb = 0 then d.plainWrite a r w x else (d.plainWrite a r w x).shadowWrite a w := by
    rw [Dev.portWrite_word hm, Dev.regWrite_allowed hp hl hr]
    simp [Dev.regPut, hc, hq]
  refine completes_of_goes (goes_registerWrite hput) ?_
  generalize d.plainWrite a r w x = e at hrd hkeep hframe
  by_cases hb0 : r.rwb = 0
  · rw [if_pos hb0]
    refine ⟨hrd, fun _ => ⟨hkeep, by rw [hframe], by rw [hframe]⟩, fun h => absurd hb0 h, ?_⟩
    rw [hframe]
  · rw [if_neg hb0]
    have hie : e.immed (blockOf a) = false := by
      unfold Dev.immed; rw [hkeep _ (by simpa using ha.symm)]; exact hi
    obtain ⟨hsa, hsb, hkr, hpend, hcap⟩ := Dev.shadowWrite_buffers (w := w) hie
    have hfr := Dev.shadowWrite_frame (w := w) hie (by rw [hframe]; exact hemb)
    have hshe : ∀ b, e.sh b = d.sh b := fun b => by rw [hframe]; rfl
    generalize e.shadowWrite a w = t at hsa hsb hkr hpend hcap hfr
    refine ⟨?_, fun h => absurd h hb0,
      fun _ => ⟨by rw [hsa, hshe], fun b hb => by rw [hsb b hb, hshe], fun b hb => ?_, hpend, ?_⟩, ?_⟩
    · rw [hkr a (List.mem_singleton.not.mpr hne), hrd]
    · simp only [List.mem_cons, List.not_mem_nil, or_false, not_or] at hb
      rw [hkr b (List.mem_singleton.not.mpr hb.2), hkeep b (List.mem_singleton.not.mpr hb.1)]
    · rw [hcap, hframe]; rfl
    · rw [hframe] at hfr
      exact hfr

/-! ## Aliased bits (R75, R76) -/

section
variable {d : Dev} {who : Initiator} {al : Nat} {w : Word} {x : WriteCtx} {r : Reg} {f : Field}

theorem Dev.portWrite_bitAlias (h1 : 0x2000000 ≤ al) (h2 : al < 0x2800000) (h4 : al % 4 = 0) (hw : who ≠ .bar2) (he : x.aer = 0)
    (hr : d.reaches who = true) : d.portWrite who al w 15 x = d.aliasWrite who al w x := by
  rw [Dev.portWrite_eq_mapWrite hr (by simp [inBar, hw]) he (by omega)]
  unfold Dev.mapWrite
  simp only [show al / 4 * 4 = al by omega]
  rw [if_neg (by omega), if_neg (by omega), if_neg (by omega), if_neg (by simp), if_neg (by omega)]

theorem aliasBit_lt (al : Nat) : aliasBit al < 32 := Nat.mod_lt _ (by omega)

variable (hp : d.part.has (aliasAddr al) = true) (hl : lookupReg (aliasAddr al) = some r)
include hp hl

theorem Dev.aliasWrite_reserved (hf : r.fieldAt (aliasBit al) = none) : d.aliasWrite who al w x = d := by
  simp [Dev.aliasWrite, hp, hl, hf]

theorem Dev.aliasWrite_refused (hf : r.fieldAt (aliasBit al) = some f) (hv : f.prv = true) (hu : privileged who = false) :
    d.aliasWrite who al w x = d.privAttempt who true al := by
  simp [Dev.aliasWrite, hp, hl, hf, hv, hu]

variable (hf : r.fieldAt (aliasBit al) = some f) (ha : f.prv = false ∨ privileged who = true)
include hf ha

theorem Dev.aliasWrite_fixed (hacc : f.acc = .ro ∨ f.acc = .sqc) : d.aliasWrite who al w x = d := by
  rcases hacc with hacc | hacc <;> rcases ha with ha | ha <;> simp [Dev.aliasWrite, hp, hl, hf, ha, hacc]

theorem Dev.aliasWrite_rw (hacc : f.acc = .rw) (hc : d.closedAt (aliasAddr al) = false) : d.aliasWrite who al w x =
    d.plainWrite (aliasAddr al) r (putBits (d.rd (aliasAddr al)) (aliasBit al) (aliasBit al) (b2n (bit w 0))) x := by
  rcases ha with ha | ha <;> simp [Dev.aliasWrite, hp, hl, hf, ha, hacc, hc]

theorem Dev.aliasWrite_rwb (hacc : f.acc = .rwb) (hc : d.closedAt (aliasAddr al) = false) : d.aliasWrite who al w x =
    d.shadowWrite (aliasAddr al) (putBits (d.sh (aliasAddr al)) (aliasBit al) (aliasBit al) (b2n (bit w 0))) := by
  rcases ha with ha | ha <;> simp [Dev.aliasWrite, hp, hl, hf, ha, hacc, hc]

end

/-- A word merged from one that differs in a bit the mask holds differs in that bit alone. -/
theorem getLsbD_mergeMask_putBits {m w : Word} {b : Nat} {v : Bool} (hb : b < 32) (hm : m.getLsbD b = true) (k : Nat) :
    (mergeMask m w (putBits w b b (b2n v))).getLsbD k = if k = b then v else w.getLsbD k := by
  rw [getLsbD_mergeMask, getLsbD_putBits_bit w v hb]
  by_cases hk : k = b
  · subst hk; simp [hm]
  · simp [hk]

theorem rwbMask_of_lookup {a : Nat} {r : Reg} (h : lookupReg a = some r) : rwbMask a = r.rwb := by
  simp [rwbMask, h]

theorem bitAliasChangesOneBit : Claim.BitAliasChangesOneBit := by
  intro s who al w x r d a b h1 h2 h4 hw he hr hp hl
  have go : ∀ {t : Dev}, d.aliasWrite who al w x = t → Goes (.bitAliasWrite who al w x) s t := fun ht =>
    goes_of_next rfl ((if_pos ⟨h1, h2⟩).trans ((Dev.portWrite_bitAlias h1 h2 h4 hw he hr).trans ht))
  have hb : b < 32 := aliasBit_lt al
  refine ⟨fun hf => go (Dev.aliasWrite_reserved hp hl hf), fun f hf ha => ⟨fun hacc => ?_, ?_, ?_⟩, fun f hf hv hu => go ?_⟩
  · exact go (Dev.aliasWrite_fixed hp hl hf ha hacc)
  · intro hacc hc hen hs hbl ho
    refine completes_of_goes (go (Dev.aliasWrite_rw hp hl hf ha hacc hc)) ?_
    obtain ⟨hrd, hkeep, hframe⟩ :=
      Dev.plainWrite_stores (r := r) (w := putBits (d.rd a) b b (b2n (bit w 0))) hen (hs _ _) (hbl _) (ho _)
    have hbit : ∀ k, ((d.plainWrite a r (putBits (d.rd a) b b (b2n (bit w 0))) x).rd a).getLsbD k =
        if k = b then w.getLsbD 0 else (d.rd a).getLsbD k := fun k => by
      rw [hrd]
      exact getLsbD_mergeMask_putBits hb (Reg.getLsbD_maskBy_of_fieldAt hb hf (by simp [hacc])) k
    exact ⟨(hbit b).trans (if_pos rfl), fun k _ hk => (hbit k).trans (if_neg hk), hkeep, hframe⟩
  · intro hacc hc hi
    refine completes_of_goes (go (Dev.aliasWrite_rwb hp hl hf ha hacc hc)) ?_
    obtain ⟨hsa, hsb, hkeep, -, -⟩ := Dev.shadowWrite_buffers (a := a) (w := putBits (d.sh a) b b (b2n (bit w 0))) hi
    have hbit : ∀ k, ((d.shadowWrite a (putBits (d.sh a) b b (b2n (bit w 0)))).sh a).getLsbD k =
        if k = b then w.getLsbD 0 else (d.sh a).getLsbD k := fun k => by
      rw [hsa, rwbMask_of_lookup hl]
      exact getLsbD_mergeMask_putBits hb (Reg.getLsbD_maskBy_of_fieldAt hb hf (by simp [hacc])) k
    exact ⟨(hbit b).trans (if_pos rfl), fun k _ hk => (hbit k).trans (if_neg hk), hsb, hkeep⟩
  · rw [Dev.aliasWrite_refused hp hl hf hv hu]
    simp [Dev.privAttempt, accessDetail, b2n, d]

/-- Settles O24: each way of a write through the port ends in one of the lemmas above, by presence, privilege, byte enables and access
type. An aliased write's own address in the log (log 24) and the discarding of partial writes (log 28) are the model's
choices. -/
theorem registerWritesAndAliases : Obligations.RegisterWritesAndAliases :=
  ⟨refusedRegisterWritesOnlyLeaveALog, plainRegisterWriteStores, bitAliasChangesOneBit⟩

end Sys2Proof.Machine
end

section
/-! What leaves the lanes' and the hearths' registers alone, and what a change of one hearth's state and the record of its test write. -/

namespace Sys2Proof.Machine

/-! ## What leaves the lanes' and the hearths' registers alone -/

/-- A change that leaves the part, the hearths' records and every register of the lane pages and of the hearths as they were. -/
structure KeepsUnits (d t : Dev) : Prop where
  part : t.part = d.part
  hearths : t.hearths = d.hearths
  rd : ∀ a, 0x100000 ≤ a → a < 0x162000 → t.rd a = d.rd a

namespace KeepsUnits
variable {d t u : Dev}

theorem refl (d : Dev) : KeepsUnits d d := ⟨rfl, rfl, fun _ _ _ => rfl⟩

theorem trans (h : KeepsUnits d t) (k : KeepsUnits t u) : KeepsUnits d u :=
  ⟨k.part.trans h.part, k.hearths.trans h.hearths, fun a h1 h2 => (k.rd a h1 h2).trans (h.rd a h1 h2)⟩

/-- A change of what is neither a register nor a hearth's record. -/
theorem of_regs (hp : t.part = d.part) (hh : t.hearths = d.hearths) (hr : t.regs = d.regs) : KeepsUnits d t :=
  ⟨hp, hh, fun a _ _ => Dev.rd_eq_of_regs hr a⟩

theorem wr (h : KeepsUnits d t) {a : Nat} (w : Word) (ha : a < 0x100000 ∨ 0x162000 ≤ a) : KeepsUnits d (t.wr a w) :=
  h.trans ⟨rfl, rfl, fun b _ _ => Dev.rd_wr_other _ _ (by omega)⟩

theorem set (h : KeepsUnits d t) (f : Fld) (v : Nat) (ha : f.addr < 0x100000 ∨ 0x162000 ≤ f.addr) : KeepsUnits d (t.set f v) :=
  h.wr _ ha

theorem raise (h : KeepsUnits d t) {a : Nat} (b : Nat) (ha : a < 0x100000 ∨ 0x162000 ≤ a) : KeepsUnits d (t.raise a b) :=
  h.trans ⟨by simp, by simp, fun c _ _ => Dev.rd_raise_other _ _ (by omega)⟩

theorem sootE (h : KeepsUnits d t) (sev source code det : Nat) : KeepsUnits d (t.sootE sev source code det) :=
  h.trans ⟨by simp, by simp, fun c _ _ => Dev.rd_sootE _ _ _ _ _ (by simp only [Reg.SOOT_STAT]; omega)
    (fun n => by simp only [Reg.SOOT_RING]; omega)⟩

theorem ite {c : Prop} [Decidable c] (h : KeepsUnits d t) (k : KeepsUnits d u) : KeepsUnits d (if c then t else u) := by
  split
  · exact h
  · exact k

end KeepsUnits

theorem Dev.refreshMargin_keepsUnits (d : Dev) : KeepsUnits d d.refreshMargin := by
  unfold Dev.refreshMargin
  have step1 : ∀ (w v : Word) (c : Prop) [Decidable c],
      KeepsUnits d (if c then ((d.wr Reg.OVN_DEMAND w).wr Reg.OVN_CAPACITY v).raise Reg.OVN_EVT 3
        else (d.wr Reg.OVN_DEMAND w).wr Reg.OVN_CAPACITY v) := fun w v c _ => by
    have h := ((KeepsUnits.refl d).wr (a := Reg.OVN_DEMAND) w (by decide)).wr (a := Reg.OVN_CAPACITY) v (by decide)
    exact .ite (h.raise 3 (by decide)) h
  have step2 : ∀ {e : Dev} (w : Word) (c : Prop) [Decidable c], KeepsUnits d e →
      KeepsUnits d (if c then e.wr Reg.SYS_MARGIN w else (e.wr Reg.SYS_MARGIN w).raise Reg.CAP_EVT 5) := fun w c _ he => by
    have h := he.wr (a := Reg.SYS_MARGIN) w (by decide)
    exact .ite h (h.raise 5 (by decide))
  have step3 : ∀ {e : Dev} (c : Prop) [Decidable c], KeepsUnits d e → KeepsUnits d (if c then e.raise Reg.HMG_EVT 2 else e) :=
    fun c _ he => .ite (he.raise 2 (by decide)) he
  exact step3 _ (step2 _ _ (step1 _ _ _))

theorem Dev.refreshAsh_keepsUnits (d : Dev) (n : Nat) : KeepsUnits d (d.refreshAsh n) := by
  unfold Dev.refreshAsh
  exact (((KeepsUnits.refl d).set _ _ (by decide)).set _ _ (by decide)).wr _ (by simp only [Reg.ASH_LUSE]; omega)

theorem Dev.freeSet_keepsUnits (d : Dev) (i : Nat) : KeepsUnits d (d.freeSet i) := by
  unfold Dev.freeSet
  split
  · have h : KeepsUnits d (d.putSet i none) := .of_regs rfl rfl rfl
    exact h.trans (Dev.refreshAsh_keepsUnits _ _)
  · exact .refl d

theorem Dev.visitEnd_keepsUnits (d : Dev) (st : Nat) : KeepsUnits d (d.visitEnd st) := by
  have h := (KeepsUnits.refl d).set Reg.HMG_RSTSTAT_STATE st (by decide)
  exact .trans (.ite (h.set _ _ (by decide)) h) (.of_regs rfl rfl rfl)


/-! ## A hearth put into a state (R153) -/

/-- HST_STAT with a state and a lane put into it. -/
def hstWord (w : Word) (st : Nat) (lane : Option Nat) : Word :=
  putBits (putBits (putBits w 31 28 st) 22 16 (lane.getD 0)) 15 15 (b2n lane.isSome)

theorem getBits_hstWord_state (w : Word) (st : Nat) (lane : Option Nat) : getBits (hstWord w st lane) 31 28 = st % 16 := by
  unfold hstWord
  rw [getBits_putBits_other _ 15 15 31 28 _ (by omega) (by omega) (by omega),
    getBits_putBits_other _ 22 16 31 28 _ (by omega) (by omega) (by omega), getBits_putBits _ 31 28 _ (by omega) (by omega)]
  norm_num

theorem getBits_hstWord_laneV (w : Word) (st : Nat) (lane : Option Nat) :
    getBits (hstWord w st lane) 15 15 = b2n lane.isSome % 2 := by
  unfold hstWord
  rw [getBits_putBits _ 15 15 _ (by omega) (by omega)]
  norm_num

theorem Dev.setHstate_eq (d : Dev) (h st : Nat) (lane : Option Nat) :
    d.setHstate h st lane = (d.wr (Reg.HST_STAT h) (hstWord (d.rd (Reg.HST_STAT h)) st lane)).refreshMargin := rfl

theorem Dev.rd_setHstate (d : Dev) (h st : Nat) (lane : Option Nat) {a : Nat} (h1 : 0x100000 ≤ a) (h2 : a < 0x162000) :
    (d.setHstate h st lane).rd a = if a = Reg.HST_STAT h then hstWord (d.rd (Reg.HST_STAT h)) st lane else d.rd a := by
  rw [Dev.setHstate_eq, (Dev.refreshMargin_keepsUnits _).rd a h1 h2, Dev.rd_wr]

@[simp] theorem Dev.part_setHstate (d : Dev) (h st : Nat) (lane : Option Nat) : (d.setHstate h st lane).part = d.part :=
  (Dev.refreshMargin_keepsUnits _).part

@[simp] theorem Dev.hearths_setHstate (d : Dev) (h st : Nat) (lane : Option Nat) : (d.setHstate h st lane).hearths = d.hearths :=
  (Dev.refreshMargin_keepsUnits _).hearths

theorem Dev.hearth_of_hearths {d t : Dev} (h : t.hearths = d.hearths) (g : Nat) : t.hearth g = d.hearth g := by
  unfold Dev.hearth; rw [h]

theorem Part.hearths_le (p : Part) : p.hearths ≤ 104 := by cases p <;> decide
theorem Part.lanes_le (p : Part) : p.lanes ≤ 96 := by cases p <;> decide


/-! ## One hearth: its state, its BIST register and its record -/

/-- A change that leaves one hearth as it was: its HST_STAT, its HST_BIST and its record. -/
structure KeepsHearth (g : Nat) (d t : Dev) : Prop where
  part : t.part = d.part
  stat : t.rd (Reg.HST_STAT g) = d.rd (Reg.HST_STAT g)
  bist : t.rd (Reg.HST_BIST g) = d.rd (Reg.HST_BIST g)
  record : t.hearth g = d.hearth g

/-- A hearth's test is over with a result: its state, HST_BIST.RESULT and its record agree. -/
def TestedAs (t : Dev) (g : Nat) (pass : Bool) : Prop :=
  t.hstate g = (if pass = true then stFree else stRetired) ∧ t.get (Reg.HST_BIST_RESULT g) = (if pass = true then 1 else 2) ∧
    (t.hearth g).passed = pass

namespace KeepsHearth
variable {d t u : Dev} {g : Nat}

theorem trans (h : KeepsHearth g d t) (k : KeepsHearth g t u) : KeepsHearth g d u :=
  ⟨k.part.trans h.part, k.stat.trans h.stat, k.bist.trans h.bist, k.record.trans h.record⟩

theorem of_keepsUnits (h : KeepsUnits d t) (hg : g < d.part.hearths) : KeepsHearth g d t := by
  have := d.part.hearths_le
  exact ⟨h.part, h.rd _ (by simp only [Reg.HST_STAT]; omega) (by simp only [Reg.HST_STAT]; omega),
    h.rd _ (by simp only [Reg.HST_BIST]; omega) (by simp only [Reg.HST_BIST]; omega), Dev.hearth_of_hearths h.hearths g⟩

theorem hstate (h : KeepsHearth g d t) : t.hstate g = d.hstate g := by
  unfold Dev.hstate Dev.get; rw [h.part, h.stat]

theorem laneOf (h : KeepsHearth g d t) : t.laneOf g = d.laneOf g := by
  unfold Dev.laneOf Dev.is Dev.get; rw [h.stat]

theorem testedAs (h : KeepsHearth g d t) {pass : Bool} (hp : TestedAs d g pass) : TestedAs t g pass := by
  obtain ⟨hs, hb, hr⟩ := hp
  refine ⟨h.hstate.trans hs, ?_, by rw [h.record, hr]⟩
  rw [← hb]; unfold Dev.get; rw [h.bist]

theorem updHearth_other (d : Dev) {h : Nat} (f : Hearth → Hearth) (hne : g ≠ h) : KeepsHearth g d (d.updHearth h f) :=
  ⟨rfl, rfl, rfl, by unfold Dev.updHearth; rw [Dev.hearth_setHearth, if_neg hne]⟩

theorem setHstate_other (d : Dev) {h : Nat} (st : Nat) (lane : Option Nat) (hne : g ≠ h) (hg : g < d.part.hearths) :
    KeepsHearth g d (d.setHstate h st lane) := by
  have := d.part.hearths_le
  refine ⟨by simp, ?_, ?_, Dev.hearth_of_hearths (by simp) g⟩
  · rw [Dev.rd_setHstate _ _ _ _ (by simp only [Reg.HST_STAT]; omega) (by simp only [Reg.HST_STAT]; omega),
      if_neg (by simp only [Reg.HST_STAT]; omega)]
  · rw [Dev.rd_setHstate _ _ _ _ (by simp only [Reg.HST_BIST]; omega) (by simp only [Reg.HST_BIST]; omega),
      if_neg (by simp only [Reg.HST_BIST, Reg.HST_STAT]; omega)]

end KeepsHearth

section
variable (d : Dev) {h : Nat} (hh : h < d.part.hearths)
include hh

theorem Dev.hstate_setHstate {st : Nat} (hs : st < 16) (lane : Option Nat) : (d.setHstate h st lane).hstate h = st := by
  have := d.part.hearths_le
  unfold Dev.hstate Dev.get
  rw [Dev.part_setHstate, if_pos hh, Dev.rd_setHstate _ _ _ _ (by simp only [Reg.HST_STAT]; omega) (by simp only [Reg.HST_STAT]; omega),
    if_pos rfl, getBits_hstWord_state, Nat.mod_eq_of_lt hs]

theorem Dev.laneOf_setHstate_none (st : Nat) : (d.setHstate h st none).laneOf h = none := by
  have := d.part.hearths_le
  have hv : (d.setHstate h st none).get (Reg.HST_STAT_LANEV h) = 0 := by
    unfold Dev.get
    rw [Dev.rd_setHstate _ _ _ _ (by simp only [Reg.HST_STAT]; omega) (by simp only [Reg.HST_STAT]; omega), if_pos rfl,
      getBits_hstWord_laneV]
    rfl
  simp [Dev.laneOf, Dev.is, hv]

theorem Dev.bist_setHstate (st : Nat) (lane : Option Nat) :
    (d.setHstate h st lane).rd (Reg.HST_BIST h) = d.rd (Reg.HST_BIST h) := by
  have := d.part.hearths_le
  rw [Dev.rd_setHstate _ _ _ _ (by simp only [Reg.HST_BIST]; omega) (by simp only [Reg.HST_BIST]; omega),
    if_neg (by simp only [Reg.HST_BIST, Reg.HST_STAT]; omega)]

end

/-! ## Retirement and the result of a test (R153, R154, R187) -/

/-- Retiring a hearth is putting it into RETIRED, but for what is counted and raised. -/
theorem Dev.retireHearth_keepsUnits (d : Dev) (h : Nat) :
    KeepsUnits d (d.incSat Reg.SYS_MARGIN_RETIRED 1) ∧
      KeepsUnits ((d.incSat Reg.SYS_MARGIN_RETIRED 1).setHstate h stRetired none) (d.retireHearth h) :=
  ⟨(KeepsUnits.refl d).set _ _ (by decide), (KeepsUnits.refl _).raise _ (by decide)⟩

theorem Dev.retireHearth_keeps_other (d : Dev) {g h : Nat} (hne : g ≠ h) (hg : g < d.part.hearths) :
    KeepsHearth g d (d.retireHearth h) := by
  obtain ⟨h1, h2⟩ := d.retireHearth_keepsUnits h
  have hs := KeepsHearth.setHstate_other (d.incSat Reg.SYS_MARGIN_RETIRED 1) stRetired none hne (by rw [h1.part]; exact hg)
  exact ((KeepsHearth.of_keepsUnits h1 hg).trans hs).trans (.of_keepsUnits h2 (by rw [Dev.part_setHstate, h1.part]; exact hg))

/-- A retired hearth: its state, no lane, its record and its BIST register as before. -/
theorem Dev.retireHearth_retires (d : Dev) {h : Nat} (hh : h < d.part.hearths) :
    (d.retireHearth h).hstate h = stRetired ∧ (d.retireHearth h).laneOf h = none ∧ (d.retireHearth h).hearth h = d.hearth h ∧
      (d.retireHearth h).rd (Reg.HST_BIST h) = d.rd (Reg.HST_BIST h) := by
  obtain ⟨h1, h2⟩ := d.retireHearth_keepsUnits h
  have hh1 : h < (d.incSat Reg.SYS_MARGIN_RETIRED 1).part.hearths := by rw [h1.part]; exact hh
  have k1 : KeepsHearth h d _ := .of_keepsUnits h1 hh
  have k2 : KeepsHearth h _ (d.retireHearth h) := .of_keepsUnits h2 (by rw [Dev.part_setHstate]; exact hh1)
  refine ⟨?_, ?_, ?_, ?_⟩
  · rw [k2.hstate, Dev.hstate_setHstate _ hh1 (by decide)]
  · rw [k2.laneOf, Dev.laneOf_setHstate_none _ hh1]
  · rw [k2.record, Dev.hearth_of_hearths (Dev.hearths_setHstate _ _ _ _), k1.record]
  · rw [k2.bist, Dev.bist_setHstate _ hh1, k1.bist]

/-- A finished BIST in HST_BIST and HST_BISTTIME. -/
def Dev.bistDated (d : Dev) (h : Nat) (pass : Bool) : Dev :=
  let e := (d.set (Reg.HST_BIST_RESULT h) (if pass = true then 1 else 2)).incMod (Reg.HST_BIST_COUNT h) 1
  e.wr64 (Reg.HST_BISTTIME_LO h) (Reg.HST_BISTTIME_HI h) e.devtime

theorem Dev.bistRecord_eq (d : Dev) (h : Nat) (pass : Bool) : d.bistRecord h pass =
    if pass = true then (d.bistDated h pass).set (Reg.HST_STAT_SUSPECT h) 0 else d.bistDated h pass := rfl

section
variable (d : Dev) {h : Nat} (pass : Bool)

@[simp] theorem Dev.hearths_bistRecord : (d.bistRecord h pass).hearths = d.hearths := by
  cases pass <;> simp [Dev.bistRecord, Dev.incMod, Dev.wr64]

@[simp] theorem Dev.part_bistRecord : (d.bistRecord h pass).part = d.part := by
  cases pass <;> simp [Dev.bistRecord, Dev.incMod, Dev.wr64]

/-- The record of a BIST writes the registers of its hearth alone. -/
theorem Dev.rd_bistRecord_other {a : Nat} (ha : a < 0x160000 + h * 0x40 ∨ 0x160000 + h * 0x40 + 0x40 ≤ a) :
    (d.bistRecord h pass).rd a = d.rd a := by
  have hd : (d.bistDated h pass).rd a = d.rd a := by
    unfold Dev.bistDated Dev.wr64 Dev.incMod
    rw [Dev.rd_wr_other _ _ (by simp only [Reg.HST_BISTTIME_HI]; omega), Dev.rd_wr_other _ _ (by simp only [Reg.HST_BISTTIME_LO]; omega),
      Dev.rd_set_other _ _ (by simp only [Reg.HST_BIST]; omega), Dev.rd_set_other _ _ (by simp only [Reg.HST_BIST]; omega)]
  rw [Dev.bistRecord_eq]
  split
  · rw [Dev.rd_set_other _ _ (by simp only [Reg.HST_STAT]; omega), hd]
  · exact hd

/-- The state of a hearth stays as its BIST is recorded. -/
theorem Dev.state_bistRecord : (d.bistRecord h pass).get (Reg.HST_STAT_STATE h) = d.get (Reg.HST_STAT_STATE h) := by
  have hd : (d.bistDated h pass).get (Reg.HST_STAT_STATE h) = d.get (Reg.HST_STAT_STATE h) := by
    unfold Dev.bistDated Dev.wr64 Dev.incMod
    rw [Dev.get_wr_other _ _ (by simp only [Reg.HST_STAT, Reg.HST_BISTTIME_HI]; omega),
      Dev.get_wr_other _ _ (by simp only [Reg.HST_STAT, Reg.HST_BISTTIME_LO]; omega),
      Dev.get_set_other _ _ (by simp only [Reg.HST_STAT, Reg.HST_BIST]; omega),
      Dev.get_set_other _ _ (by simp only [Reg.HST_STAT, Reg.HST_BIST]; omega)]
  rw [Dev.bistRecord_eq]
  split
  · rw [Dev.get_set_apart _ _ (by simp) (by simp) (by simp), hd]
  · exact hd

theorem Dev.result_bistRecord : (d.bistRecord h pass).get (Reg.HST_BIST_RESULT h) = if pass = true then 1 else 2 := by
  have hd : (d.bistDated h pass).get (Reg.HST_BIST_RESULT h) = if pass = true then 1 else 2 := by
    unfold Dev.bistDated Dev.wr64 Dev.incMod
    rw [Dev.get_wr_other _ _ (by simp only [Reg.HST_BIST, Reg.HST_BISTTIME_HI]; omega),
      Dev.get_wr_other _ _ (by simp only [Reg.HST_BIST, Reg.HST_BISTTIME_LO]; omega),
      Dev.get_set_apart _ _ (by simp) (by simp) (by simp), Dev.get_set_same _ _ (by simp) (by simp)]
    cases pass <;> rfl
  cases pass
  · exact hd
  · exact (Dev.get_set_other _ _ (by simp only [Reg.HST_BIST, Reg.HST_STAT]; omega)).trans hd

end

/-- The device as a test's result is decided: HST_BIST and the record are written, the state is still to follow. -/
def Dev.bistNoted (d : Dev) (h : Nat) (pass : Bool) : Dev :=
  (d.bistRecord h pass).updHearth h (fun x => { x with testKind := 0, passed := pass })

theorem Dev.bistHearth_eq (d : Dev) (h : Nat) (pass : Bool) : d.bistHearth h pass =
    if pass = true then (d.bistNoted h pass).setHstate h stFree none
    else if (d.bistNoted h pass).hstate h = stRetired then d.bistNoted h pass else (d.bistNoted h pass).retireHearth h := rfl

@[simp] theorem Dev.part_bistNoted (d : Dev) (h : Nat) (pass : Bool) : (d.bistNoted h pass).part = d.part :=
  d.part_bistRecord pass

theorem Dev.hstate_bistNoted (d : Dev) (h : Nat) (pass : Bool) : (d.bistNoted h pass).hstate h = d.hstate h := by
  show (d.bistRecord h pass).hstate h = d.hstate h
  unfold Dev.hstate
  rw [Dev.part_bistRecord, Dev.state_bistRecord]

theorem Dev.bistHearth_pass (d : Dev) (h : Nat) : d.bistHearth h true = (d.bistNoted h true).setHstate h stFree none := rfl

theorem Dev.bistHearth_fail {d : Dev} {h : Nat} (hs : d.hstate h ≠ stRetired) :
    d.bistHearth h false = (d.bistNoted h false).retireHearth h := by
  rw [Dev.bistHearth_eq, if_neg (by simp), if_neg (by rw [Dev.hstate_bistNoted]; exact hs)]

theorem Dev.bistNoted_keeps_other (d : Dev) {g h : Nat} (pass : Bool) (hne : g ≠ h) : KeepsHearth g d (d.bistNoted h pass) := by
  have hr : KeepsHearth g d (d.bistRecord h pass) :=
    ⟨by simp, Dev.rd_bistRecord_other _ _ (by simp only [Reg.HST_STAT]; omega),
      Dev.rd_bistRecord_other _ _ (by simp only [Reg.HST_BIST]; omega), Dev.hearth_of_hearths (by simp) g⟩
  exact hr.trans (.updHearth_other _ _ hne)

/-- A hearth's test leaves every other hearth as it was. -/
theorem Dev.bistHearth_keeps_other {d : Dev} {g h : Nat} (pass : Bool) (hs : d.hstate h ≠ stRetired) (hne : g ≠ h)
    (hg : g < d.part.hearths) : KeepsHearth g d (d.bistHearth h pass) := by
  have hn := d.bistNoted_keeps_other pass hne
  have hg' : g < (d.bistNoted h pass).part.hearths := by rw [hn.part]; exact hg
  cases pass
  · rw [Dev.bistHearth_fail hs]
    exact hn.trans (Dev.retireHearth_keeps_other _ hne hg')
  · rw [Dev.bistHearth_pass]
    exact hn.trans (.setHstate_other _ _ _ hne hg')

/-- A hearth's test ends in FREE or in RETIRED, with its result in HST_BIST. -/
theorem Dev.bistHearth_testedAs {d : Dev} {h : Nat} (pass : Bool) (hs : d.hstate h ≠ stRetired) (hh : h < d.part.hearths) :
    TestedAs (d.bistHearth h pass) h pass := by
  have hh' : h < (d.bistNoted h pass).part.hearths := by
    rw [Dev.part_bistNoted]; exact hh
  have hres : (d.bistNoted h pass).get (Reg.HST_BIST_RESULT h) = if pass = true then 1 else 2 := d.result_bistRecord pass
  have hrec : ((d.bistNoted h pass).hearth h).passed = pass := by simp [Dev.bistNoted]
  unfold Dev.get at hres
  unfold TestedAs Dev.get
  cases pass
  · obtain ⟨h1, -, h3, h4⟩ := (d.bistNoted h false).retireHearth_retires hh'
    rw [Dev.bistHearth_fail hs]
    exact ⟨h1, by rw [h4]; exact hres, by rw [h3]; exact hrec⟩
  · rw [Dev.bistHearth_pass]
    refine ⟨Dev.hstate_setHstate _ hh' (by decide) none, by rw [Dev.bist_setHstate _ hh']; exact hres, ?_⟩
    rw [Dev.hearth_of_hearths (Dev.hearths_setHstate _ _ _ _)]; exact hrec

@[simp] theorem Dev.part_retireHearth (d : Dev) (h : Nat) : (d.retireHearth h).part = d.part := by
  obtain ⟨h1, h2⟩ := d.retireHearth_keepsUnits h
  rw [h2.part, Dev.part_setHstate, h1.part]

@[simp] theorem Dev.part_bistHearth (d : Dev) (h : Nat) (pass : Bool) : (d.bistHearth h pass).part = d.part := by
  rw [Dev.bistHearth_eq]
  split
  · simp
  · split <;> simp

/-! ## The end of start-up tests (R154) -/

/-- The end of one hearth's start-up test, with its log entry where it fails. -/
def Dev.startupEnd (fails : List Nat) (d : Dev) (h : Nat) : Dev :=
  if fails.contains h then (d.bistHearth h (!fails.contains h)).sootE 2 (0x80 + h) 0x4003 h else d.bistHearth h (!fails.contains h)

theorem Dev.startupEnd_keepsUnits (fails : List Nat) (d : Dev) (h : Nat) :
    KeepsUnits (d.bistHearth h (!fails.contains h)) (d.startupEnd fails h) :=
  .ite ((KeepsUnits.refl _).sootE _ _ _ _) (.refl _)

/-- Start-up tests end one by one: each hearth of the list as its result says, every other hearth as before. -/
theorem Dev.foldl_startupEnd (fails : List Nat) : ∀ (hs : List Nat) (d : Dev), hs.Nodup → (∀ h ∈ hs, d.hstate h = stTesting) →
    (∀ h ∈ hs, h < d.part.hearths) →
    (∀ g ∈ hs, TestedAs (hs.foldl (Dev.startupEnd fails) d) g (!fails.contains g)) ∧
      ∀ g < d.part.hearths, g ∉ hs → KeepsHearth g d (hs.foldl (Dev.startupEnd fails) d)
  | [], d, _, _, _ => ⟨by simp, fun g _ _ => ⟨rfl, rfl, rfl, rfl⟩⟩
  | h :: hs, d, hn, ht, hp => by
    obtain ⟨hnot, hn'⟩ := List.nodup_cons.mp hn
    have hne : d.hstate h ≠ stRetired := by rw [ht h (by simp)]; decide
    have hh : h < d.part.hearths := hp h (by simp)
    have hk := d.startupEnd_keepsUnits fails h
    have hpart : (d.startupEnd fails h).part = d.part := by rw [hk.part]; simp
    have hother : ∀ g < d.part.hearths, g ≠ h → KeepsHearth g d (d.startupEnd fails h) := fun g hg hgh =>
      (Dev.bistHearth_keeps_other _ hne hgh hg).trans (.of_keepsUnits hk (by simpa using hg))
    have hself : TestedAs (d.startupEnd fails h) h (!fails.contains h) :=
      (KeepsHearth.of_keepsUnits hk (by simpa using hh)).testedAs (Dev.bistHearth_testedAs _ hne hh)
    obtain ⟨ih1, ih2⟩ := Dev.foldl_startupEnd fails hs (d.startupEnd fails h) hn'
      (fun g hg => by
        rw [(hother g (hp g (by simp [hg])) (fun e => hnot (e ▸ hg))).hstate]; exact ht g (by simp [hg]))
      (fun g hg => by rw [hpart]; exact hp g (by simp [hg]))
    refine ⟨fun g hg => ?_, fun g hg hgn => ?_⟩
    · rcases List.mem_cons.mp hg with rfl | hg
      · exact (ih2 g (by rw [hpart]; exact hh) hnot).testedAs hself
      · exact ih1 g hg
    · simp only [List.mem_cons, not_or] at hgn
      exact (hother g hg hgn.1).trans (ih2 g (by rw [hpart]; exact hg) hgn.2)

end Sys2Proof.Machine
end

section
/-! The tests of hearths: isolation, the end of start-up tests, the rolling self-test. -/

namespace Sys2Proof.Machine

/-! ## Isolation (R171) -/

theorem Dev.lt_hearths_of_hstate {d : Dev} {h st : Nat} (hs : d.hstate h = st) (h0 : st ≠ 0) : h < d.part.hearths := by
  by_contra hn
  exact h0 (by rw [← hs, Dev.hstate, if_neg hn])

section
variable (d : Dev) (h : Nat)

/-- A hearth that gives its set back keeps the rest of its record. -/
theorem Dev.hearth_freeHearthSet : (d.freeHearthSet h).hearth h = { d.hearth h with set := none } := by
  unfold Dev.freeHearthSet
  split
  · rw [Dev.hearth_of_hearths (Dev.freeSet_keepsUnits _ _).hearths, Dev.hearth_setHearth_same]
  · next hn => rw [← hn]

@[simp] theorem Dev.part_freeHearthSet : (d.freeHearthSet h).part = d.part := by
  unfold Dev.freeHearthSet
  split
  · exact (Dev.freeSet_keepsUnits _ _).part
  · rfl

theorem Dev.rd_freeHearthSet {a : Nat} (h1 : 0x100000 ≤ a) (h2 : a < 0x162000) : (d.freeHearthSet h).rd a = d.rd a := by
  unfold Dev.freeHearthSet
  split
  · exact (Dev.freeSet_keepsUnits _ _).rd a h1 h2
  · rfl

end

theorem goes_isolationComplete_idle {s : State} {h : Nat} (hs : s.dev.hstate h ≠ stIsolated) :
    Goes (.isolationComplete h) s s.dev :=
  goes_of_next rfl (if_pos hs)

/-- A stalled hearth goes to its test (R164). -/
theorem goes_isolationComplete_test {s : State} {h : Nat} (hs : s.dev.hstate h = stIsolated) (hk : (s.dev.hearth h).testKind = 4) :
    Goes (.isolationComplete h) s ((s.dev.freeHearthSet h).setHstate h stTesting none) := by
  have hk' : ((s.dev.freeHearthSet h).hearth h).testKind = 4 := by rw [Dev.hearth_freeHearthSet]; exact hk
  exact goes_of_next rfl ((if_neg (not_not.mpr hs)).trans (if_pos hk'))

/-- A failed hearth is retired (R171). -/
theorem goes_isolationComplete_retire {s : State} {h : Nat} (hs : s.dev.hstate h = stIsolated) (hk : (s.dev.hearth h).testKind ≠ 4) :
    Goes (.isolationComplete h) s (((s.dev.freeHearthSet h).retireHearth h).sootE 1 (0x80 + h) 0x4002
      (((s.dev.freeHearthSet h)).get (Reg.HST_STAT_CAUSE h) * 2 ^ 24)) := by
  have hk' : ((s.dev.freeHearthSet h).hearth h).testKind ≠ 4 := by rw [Dev.hearth_freeHearthSet]; exact hk
  exact goes_of_next rfl ((if_neg (not_not.mpr hs)).trans (if_neg hk'))

theorem completes_isolationComplete_retire {s : State} {h : Nat} (hs : s.dev.hstate h = stIsolated)
    (hk : (s.dev.hearth h).testKind ≠ 4) : Completes (.isolationComplete h) s (fun _ t =>
      t.hstate h = stRetired ∧ t.laneOf h = none ∧ (t.hearth h).set = none) := by
  refine completes_of_goes (goes_isolationComplete_retire hs hk) ?_
  have hh : h < (s.dev.freeHearthSet h).part.hearths := by
    rw [Dev.part_freeHearthSet]; exact Dev.lt_hearths_of_hstate hs (by decide)
  obtain ⟨h1, h2, h3, -⟩ := Dev.retireHearth_retires _ hh
  have k := KeepsHearth.of_keepsUnits ((KeepsUnits.refl ((s.dev.freeHearthSet h).retireHearth h)).sootE 1 (0x80 + h) 0x4002
    (((s.dev.freeHearthSet h)).get (Reg.HST_STAT_CAUSE h) * 2 ^ 24)) (by rw [Dev.part_retireHearth]; exact hh)
  exact ⟨k.hstate.trans h1, k.laneOf.trans h2, by rw [k.record, h3, Dev.hearth_freeHearthSet]⟩

/-! ## Start-up tests (R154) -/

/-- The hearths whose start-up test runs. -/
def Dev.startupTests (d : Dev) : List Nat := (d.hearthsIn stTesting).filter (fun h => (d.hearth h).testKind == 1)

theorem goes_startupBistDone (s : State) (fails : List Nat) :
    Goes (.startupBistDone fails) s (s.dev.startupTests.foldl (Dev.startupEnd fails) s.dev) := rfl

theorem mem_startupTests {d : Dev} {g : Nat} (hg : g ∈ d.startupTests) : g < d.part.hearths ∧ d.hstate g = stTesting := by
  simp only [Dev.startupTests, Dev.hearthsIn, List.mem_filter, List.mem_range, beq_iff_eq] at hg
  exact hg.1

theorem nodup_startupTests (d : Dev) : d.startupTests.Nodup := (List.nodup_range.filter _).filter _

theorem startupBistDone_testsAll (s : State) (fails : List Nat) :
    Completes (.startupBistDone fails) s (fun d t => ∀ g ∈ d.startupTests, TestedAs t g (!fails.contains g)) :=
  completes_of_goes (goes_startupBistDone s fails)
    (Dev.foldl_startupEnd fails _ _ (nodup_startupTests _) (fun _ hg => (mem_startupTests hg).2) (fun _ hg => (mem_startupTests hg).1)).1

/-! ## The rolling self-test (R186, R187) -/

/-- A visit falls due: the self-test is on, the mantel runs in full, no unit is under test and the period has passed. -/
def Dev.rollingDue (d : Dev) : Prop :=
  d.is Reg.HMG_RSTCFG_EN = true ∧ d.migr = true ∧ d.rolling.unit = none ∧
    (d.rolling.startedAt = 0 ∨ d.rolling.startedAt - 1 + d.get Reg.HMG_RSTCFG_PERIOD * 1000000000 ≤ d.now)

theorem Dev.rollingDue_iff (d : Dev) :
    d.rollingDue ↔ ¬(!d.is Reg.HMG_RSTCFG_EN || !d.migr || d.rolling.unit.isSome || !d.periodOver) = true := by
  rw [Bool.not_eq_true]
  simp only [Dev.rollingDue, Dev.periodOver, Bool.or_eq_false_iff, Bool.not_eq_false', Bool.or_eq_true, beq_iff_eq,
    decide_eq_true_eq, Option.isSome_eq_false_iff, Option.isNone_iff_eq_none, and_assoc]

/-- A visit begins: its time is kept with the cycle. -/
def Dev.visit (d : Dev) (r : Rolling) : Dev := { d with rolling := { r with startedAt := d.now + 1 } }

/-- The unit a visit goes to is shown. -/
def Dev.showUnit (d : Dev) (u : Nat) : Dev :=
  (d.set Reg.HMG_RSTSTAT_KIND (if u < 128 then 0 else 1)).set Reg.HMG_RSTSTAT_UNIT (u % 128)

/-- The visit of the unit that the cycle chose, if any. -/
def visitUnit (r : Option Nat × Dev) : Dev :=
  match r.1 with
  | none => r.2
  | some u => if u < 128 then (r.2.showUnit u).rollHearth u else (r.2.showUnit u).rollOven (u - 128)

theorem goes_rollingSelftestTick_idle {s : State} (h : ¬s.dev.rollingDue) : Goes .rollingSelftestTick s s.dev :=
  goes_of_next rfl (if_pos (not_not.mp (mt s.dev.rollingDue_iff.mpr h)))

/-- A visit that falls due goes to the unit the cycle chooses. -/
theorem goes_rollingSelftestTick_due {s : State} (h : s.dev.rollingDue) :
    Goes .rollingSelftestTick s (visitUnit (s.dev.visit s.dev.rolling).nextUnit) :=
  goes_of_next rfl (if_neg (s.dev.rollingDue_iff.mp h))

theorem Dev.nextUnit_suspect {d : Dev} {u : Nat} {us : List Nat} (h : d.rolling.suspects = u :: us) :
    d.nextUnit = (some u, { d with rolling := { d.rolling with suspects := us, lastOfPass := false } }) := by
  unfold Dev.nextUnit; rw [h]

theorem Dev.nextUnit_none {d : Dev} (h : d.rolling.suspects = []) (hn : ∀ v < 152, d.inScope v = false) : d.nextUnit = (none, d) := by
  have h1 : (List.range 152).find? (fun u => decide (d.rolling.next ≤ u) && d.inScope u) = none :=
    List.find?_range_eq_none.mpr fun v hv => by simp [hn v hv]
  have h2 : (List.range 152).find? d.inScope = none := List.find?_range_eq_none.mpr fun v hv => by simp [hn v hv]
  unfold Dev.nextUnit
  simp only [h, h1, h2]

theorem Dev.nextUnit_next {d : Dev} {u : Nat} (h : d.rolling.suspects = []) (hu : u < 152) (hl : d.rolling.next ≤ u)
    (hs : d.inScope u = true) (hn : ∀ v < u, d.rolling.next ≤ v → d.inScope v = false) :
    d.nextUnit = (some u, { d with rolling := { d.rolling with next := u + 1, lastOfPass := d.lastInPass u } }) := by
  have h1 : (List.range 152).find? (fun u => decide (d.rolling.next ≤ u) && d.inScope u) = some u :=
    List.find?_range_eq_some.mpr ⟨by simp [hl, hs], List.mem_range.mpr hu, fun v hv => by
      by_cases hv' : d.rolling.next ≤ v
      · simp [hn v hv hv']
      · simp [hv']⟩
  unfold Dev.nextUnit
  simp only [h, h1]

/-! ### The end of a rolling test -/

theorem rollEnd_unit_ne (d : Dev) (u : Nat) (pass : Bool) : (d.rollEnd u pass).rolling.unit ≠ some u := by
  unfold Dev.rollEnd
  simp only [Dev.rolling_raise]
  split
  · simp [Dev.visitEnd]
  · assumption

theorem Dev.rollEnd_keepsUnits (d : Dev) (u : Nat) (pass : Bool) : KeepsUnits d (d.rollEnd u pass) := by
  have h : KeepsUnits d (if d.rolling.unit = some u then d.visitEnd 0 else d) := .ite (d.visitEnd_keepsUnits 0) (.refl d)
  exact h.raise _ (by decide)

/-- The device after a hearth's test, with what a failure logs. -/
def Dev.testLogged (d : Dev) (u : Nat) (pass : Bool) : Dev :=
  if pass = true then d.bistHearth u pass
  else ((d.bistHearth u pass).sootE 1 (0x80 + u) 0x4003 u).sootE 1 (0x80 + u) 0x4002
    ((d.bistHearth u pass).get (Reg.HST_STAT_CAUSE u) * 2 ^ 24)

theorem Dev.testLogged_keepsUnits (d : Dev) (u : Nat) (pass : Bool) : KeepsUnits (d.bistHearth u pass) (d.testLogged u pass) :=
  .ite (.refl _) (((KeepsUnits.refl _).sootE _ _ _ _).sootE _ _ _ _)

section
variable {s : State} {u : Nat} {pass : Bool}

theorem goes_rollingTestDone_hearth_idle (hu : u < 128)
    (h : s.dev.hstate u ≠ stTesting ∨ ((s.dev.hearth u).testKind ≠ 2 ∧ (s.dev.hearth u).testKind ≠ 4)) :
    Goes (.rollingTestDone u pass) s s.dev :=
  goes_of_next rfl ((if_pos hu).trans (if_pos h))

/-- A rolling test of a hearth ends: the result, the log, and the visit's end. -/
theorem goes_rollingTestDone_rolling (hu : u < 128) (ht : s.dev.hstate u = stTesting) (hk : (s.dev.hearth u).testKind = 2) :
    Goes (.rollingTestDone u pass) s ((s.dev.testLogged u pass).rollEnd u pass) :=
  goes_of_next rfl ((if_pos hu).trans ((if_neg (by simp [ht, hk])).trans (if_pos hk)))

/-- The test after a stall ends (R164): no visit of the cycle is over. -/
theorem goes_rollingTestDone_stalled (hu : u < 128) (ht : s.dev.hstate u = stTesting) (hk : (s.dev.hearth u).testKind = 4) :
    Goes (.rollingTestDone u pass) s (s.dev.testLogged u pass) :=
  goes_of_next rfl ((if_pos hu).trans ((if_neg (by simp [ht, hk])).trans (if_neg (by simp [hk]))))

theorem completes_rollingTestDone_rolling (hu : u < 128) (ht : s.dev.hstate u = stTesting) (hk : (s.dev.hearth u).testKind = 2) :
    Completes (.rollingTestDone u pass) s (fun _ t => TestedAs t u pass ∧ t.rolling.unit ≠ some u) := by
  refine completes_of_goes (goes_rollingTestDone_rolling hu ht hk) ⟨?_, rollEnd_unit_ne _ u pass⟩
  have hh : u < s.dev.part.hearths := Dev.lt_hearths_of_hstate ht (by decide)
  have k := (s.dev.testLogged_keepsUnits u pass).trans (Dev.rollEnd_keepsUnits _ u pass)
  exact (KeepsHearth.of_keepsUnits k (by simpa using hh)).testedAs (Dev.bistHearth_testedAs pass (by rw [ht]; decide) hh)

theorem goes_rollingTestDone_oven (hu : 128 ≤ u) (hr : s.dev.rolling.unit = some u)
    (ht : s.dev.get (Reg.OVN_OSTAT_STATE (u - 128)) = 2) :
    Goes (.rollingTestDone u pass) s ((s.dev.ovenTested (u - 128) pass).rollEnd u pass) :=
  goes_of_next rfl ((if_neg (by omega)).trans (if_pos ⟨hr, ht⟩))

theorem goes_rollingTestDone_oven_idle (hu : 128 ≤ u) (hr : s.dev.rolling.unit ≠ some u) : Goes (.rollingTestDone u pass) s s.dev :=
  goes_of_next rfl ((if_neg (by omega)).trans (if_neg fun h => hr h.1))

end

theorem hearthsAreTestedAndRetired : Claim.HearthsAreTestedAndRetired := by
  intro s h u us fails pass d st waiting periodOver due visits unit
  have visitOf : ∀ {v : Option Nat} {e : Dev}, due → (d.visit d.rolling).nextUnit = (v, e) →
      Goes .rollingSelftestTick s (visitUnit (v, e)) := fun hd hn => hn ▸ goes_rollingSelftestTick_due hd
  refine ⟨fun hw => ?_, ?_, goes_isolationComplete_idle, goes_isolationComplete_test, completes_isolationComplete_retire,
    goes_rollingSelftestTick_idle, fun hd hs hu => ?_, fun hd hs hu => ?_, fun hd hs hn => ?_, fun hd hs hu hl hi hn => ?_,
    fun hs => if_pos hs, goes_rollingTestDone_hearth_idle, fun hu ht hk => ?_, goes_rollingTestDone_stalled,
    goes_rollingTestDone_oven, goes_rollingTestDone_oven_idle⟩
  · exact goes_of_next (goes_startupBistDone s fails) (by rw [show s.dev.startupTests = [] from hw, List.foldl_nil])
  · obtain ⟨t, hx, ht⟩ := startupBistDone_testsAll s fails
    refine ⟨t, hx, fun g hg => ?_⟩
    have hg' : TestedAs t g (!fails.contains g) := ht g hg
    by_cases hf : g ∈ fails
    · rw [List.contains_iff_mem.mpr hf] at hg' ⊢
      rw [if_pos hf, if_pos hf]
      exact hg'
    · rw [Bool.eq_false_iff.mpr (mt List.contains_iff_mem.mp hf)] at hg' ⊢
      rw [if_neg hf, if_neg hf]
      exact hg'
  · exact goes_of_next (visitOf hd (Dev.nextUnit_suspect hs)) (if_pos hu)
  · exact goes_of_next (visitOf hd (Dev.nextUnit_suspect hs)) (if_neg (by omega))
  · exact visitOf hd (Dev.nextUnit_none hs hn)
  · exact goes_of_next (visitOf hd (Dev.nextUnit_next hs (by omega) hl hi hn)) (if_pos hu)
  · obtain ⟨t, hx, ⟨h1, h2, h3⟩, h4⟩ := completes_rollingTestDone_rolling (pass := pass) hu ht hk
    exact ⟨t, hx, h1, h3, h4, h2⟩

end Sys2Proof.Machine
end

section
/-! The lane commands and the bind that waits. -/

namespace Sys2Proof.Machine

/-! ## Lane commands (R4, R5, R155, R156, R163, R175, R178) -/

section
variable (d : Dev)

theorem Dev.laneCmd_absent {n : Nat} (op tag : Nat) (f : Dev → Dev) (h : d.part.lanes ≤ n) :
    d.laneCmd n op tag f = d.cmdAbsent (Reg.LANE_CMDSTAT n) op tag := if_pos h

theorem Dev.laneCmd_lost {n : Nat} (op tag : Nat) (f : Dev → Dev) (h : n < d.part.lanes)
    (hb : (d.rd (Reg.LANE_CMDSTAT n)).getLsbD 0 = true) :
    d.laneCmd n op tag f = d.wr (Reg.LANE_CMDSTAT n) (putBits (d.rd (Reg.LANE_CMDSTAT n)) 1 1 1) :=
  (if_neg (by omega)).trans (if_pos hb)

theorem Dev.laneCmd_accepted {n : Nat} (op tag : Nat) (f : Dev → Dev) (h : n < d.part.lanes)
    (hb : (d.rd (Reg.LANE_CMDSTAT n)).getLsbD 0 = false) : d.laneCmd n op tag f = f d :=
  (if_neg (by omega)).trans (if_neg (by rw [show d.cmdBusy (Reg.LANE_CMDSTAT n) = false from hb]; simp))

/-! ### BIND -/

variable {d} {n arg tag h : Nat} {hs : List Nat} {dmg : Damage}

theorem Dev.laneBind_migrating (hm : d.migrating n = true) : d.laneBind n arg tag dmg = d.laneDone n 1 tag 2 := if_pos hm

section
variable (hm : d.migrating n = false)
include hm

theorem Dev.laneBind_bound (hb : (d.bound n).isSome = true) : d.laneBind n arg tag dmg = d.laneDone n 1 tag 7 := by
  simp [Dev.laneBind, hm, hb]

theorem Dev.laneUnbind_unbound (hb : d.bound n = none) : d.laneUnbind n tag = d.laneDone n 2 tag 6 := by
  simp [Dev.laneUnbind, hm, hb]

theorem Dev.laneUnbind_enabled (hb : d.bound n = some h) (he : d.is (Reg.LANE_CTL_EN n) = true) :
    d.laneUnbind n tag = d.laneDone n 2 tag 7 := by
  simp [Dev.laneUnbind, hm, hb, he]

variable (hb : d.bound n = none)
include hb

theorem Dev.laneBind_any (hf : d.hearthsIn stFree = h :: hs) :
    d.laneBind n 0x7F tag dmg = (d.bindStart n h dmg).laneDone n 1 tag 0 := by
  simp [Dev.laneBind, hm, hb, hf]

theorem Dev.laneBind_any_waits (hf : d.hearthsIn stFree = []) (ha : d.awaitsTest = true) : d.laneBind n 0x7F tag dmg =
    (d.cmdStart (Reg.LANE_CMDSTAT n) 1 tag).updLane n (fun x => { x with waitBind := some (some 0x7F) }) := by
  simp [Dev.laneBind, hm, hb, hf, ha]

theorem Dev.laneBind_any_none (hf : d.hearthsIn stFree = []) (ha : d.awaitsTest = false) :
    d.laneBind n 0x7F tag dmg = d.laneDone n 1 tag 5 := by
  simp [Dev.laneBind, hm, hb, hf, ha]

theorem Dev.laneBind_untested (hn : arg ≠ 0x7F) (hp : arg < d.part.hearths)
    (hu : d.hstate arg = stUntested ∨ (d.hstate arg = stTesting ∧ (d.hearth arg).testKind = 1)) : d.laneBind n arg tag dmg =
    (d.cmdStart (Reg.LANE_CMDSTAT n) 1 tag).updLane n (fun x => { x with waitBind := some (some arg) }) := by
  simp [Dev.laneBind, hm, hb, hn, hp, hu]

/-- A named hearth that needs no test is taken or refused as `nameStatus` says. -/
theorem Dev.laneBind_named (hn : arg ≠ 0x7F) (hu : ¬(arg < d.part.hearths ∧
      (d.hstate arg = stUntested ∨ (d.hstate arg = stTesting ∧ (d.hearth arg).testKind = 1)))) : d.laneBind n arg tag dmg =
    if d.nameStatus arg ≠ 0 then d.laneDone n 1 tag (d.nameStatus arg) else (d.bindStart n arg dmg).laneDone n 1 tag 0 := by
  rw [Dev.laneBind, if_neg (by simp [hm]), if_neg (by simp [hb]), if_neg hn, if_neg hu]

end

theorem Dev.nameStatus_absent (hp : d.part.hearths ≤ h) : d.nameStatus h = 0xFE := if_pos hp

theorem Dev.nameStatus_retired (hp : h < d.part.hearths) (hs : d.hstate h = stRetired) : d.nameStatus h = 8 :=
  (if_neg (by omega)).trans (if_pos hs)

theorem Dev.nameStatus_free (hp : h < d.part.hearths) (hs : d.hstate h = stFree) : d.nameStatus h = 0 :=
  (if_neg (by omega)).trans ((if_neg (by rw [hs]; decide)).trans (if_pos hs))

theorem Dev.nameStatus_inUse (hp : h < d.part.hearths) (hr : d.hstate h ≠ stRetired) (hf : d.hstate h ≠ stFree) : d.nameStatus h = 7 :=
  (if_neg (by omega)).trans ((if_neg hr).trans (if_neg hf))

/-! ### UNBIND -/

theorem Dev.rd_killHearth (d : Dev) (h a : Nat) : (d.killHearth h).rd a = d.rd a := rfl

/-- A hearth that leaves its lane leaves the lanes' registers as they were. -/
theorem Dev.rd_leave (d : Dev) (h st : Nat) {a : Nat} (h1 : 0x100000 ≤ a) (h2 : a < 0x160000) : (d.leave h st).rd a = d.rd a := by
  unfold Dev.leave
  rw [Dev.rd_setHstate _ _ _ _ h1 (by omega), if_neg (by simp only [Reg.HST_STAT]; omega), Dev.rd_freeHearthSet _ _ h1 (by omega),
    Dev.rd_killHearth]

theorem Dev.gstate_dropShadow (d : Dev) (n : Nat) : (d.dropShadow n).get (Reg.LANE_BIND_GSTATE n) = 0 := by
  unfold Dev.dropShadow
  exact Dev.get_set_same _ 0 (by simp) (by simp)

/-- The end of an UNBIND: the lane has no hearth and no checkpoint, and GSTATE stays. -/
theorem Dev.unbound_laneDone (e : Dev) (n st : Nat) :
    let t := (((e.set (Reg.LANE_BIND_HVALID n) 0).set (Reg.LANE_BIND_HEARTH n) 0).set (Reg.LANE_CKPT_VALID n) 0).laneDone n 2 tag st
    t.bound n = none ∧ t.get (Reg.LANE_CKPT_VALID n) = 0 ∧ t.get (Reg.LANE_BIND_GSTATE n) = e.get (Reg.LANE_BIND_GSTATE n) := by
  intro t
  have ht : ∀ f : Fld, f.addr = Reg.LANE_BIND n ∨ f.addr = Reg.LANE_CKPT n → t.get f =
      (((e.set (Reg.LANE_BIND_HVALID n) 0).set (Reg.LANE_BIND_HEARTH n) 0).set (Reg.LANE_CKPT_VALID n) 0).get f := fun f hf => by
    have h1 : f.addr ≠ Reg.LANE_STAT n := by simp only [Reg.LANE_BIND, Reg.LANE_CKPT, Reg.LANE_STAT] at *; omega
    have h2 : f.addr ≠ Reg.LANE_CMDSTAT n := by simp only [Reg.LANE_BIND, Reg.LANE_CKPT, Reg.LANE_CMDSTAT] at *; omega
    simp only [t, Dev.laneDone, Dev.cmdDone, Dev.cmdEnd, Dev.cmdStart]
    rw [Dev.get_raise_other _ _ h1, Dev.get_wr_other _ _ h2, Dev.get_wr_other _ _ h2]
  have hne : Reg.LANE_BIND n ≠ Reg.LANE_CKPT n := by simp only [Reg.LANE_BIND, Reg.LANE_CKPT]; omega
  have hv : t.get (Reg.LANE_BIND_HVALID n) = 0 := by
    rw [ht _ (.inl rfl), Dev.get_set_other _ _ hne, Dev.get_set_apart _ _ (by simp) (by simp) (by simp),
      Dev.get_set_same _ _ (by simp) (by simp)]
    simp
  refine ⟨by simp [Dev.bound, Dev.is, hv], ?_, ?_⟩
  · rw [ht _ (.inr rfl), Dev.get_set_same _ _ (by simp) (by simp)]
    simp
  · rw [ht _ (.inl rfl), Dev.get_set_other _ _ hne, Dev.get_set_apart _ _ (by simp) (by simp) (by simp),
      Dev.get_set_apart _ _ (by simp) (by simp) (by simp)]

/-- An UNBIND of a lane whose EN is 0 (R156): no hearth, no checkpoint, no shadow. -/
theorem Dev.laneUnbind_stopped (hm : d.migrating n = false) (hb : d.bound n = some h) (he : d.is (Reg.LANE_CTL_EN n) = false)
    (hn : n < 96) : (d.laneUnbind n tag).bound n = none ∧ (d.laneUnbind n tag).get (Reg.LANE_CKPT_VALID n) = 0 ∧
      (d.laneUnbind n tag).get (Reg.LANE_BIND_GSTATE n) = 0 := by
  have hu : d.laneUnbind n tag = (((((d.dropShadow n).leave h stFree).set (Reg.LANE_BIND_HVALID n) 0).set
      (Reg.LANE_BIND_HEARTH n) 0).set (Reg.LANE_CKPT_VALID n) 0).laneDone n 2 tag 0 := by
    simp [Dev.laneUnbind, hm, hb, he]
  obtain ⟨h1, h2, h3⟩ := ((d.dropShadow n).leave h stFree).unbound_laneDone (tag := tag) n 0
  have hg : ((d.dropShadow n).leave h stFree).get (Reg.LANE_BIND_GSTATE n) = 0 := by
    unfold Dev.get
    rw [Dev.rd_leave _ _ _ (by simp only [Reg.LANE_BIND]; omega) (by simp only [Reg.LANE_BIND]; omega)]
    exact d.gstate_dropShadow n
  rw [hu]
  exact ⟨h1, h2, h3.trans hg⟩

/-! ### MOVE -/

theorem Dev.laneMove_migrating (hm : d.migrating n = true) : d.laneMove n arg tag = d.laneDone n 3 tag 2 := if_pos hm

section
variable (hm : d.migrating n = false)
include hm

theorem Dev.laneMove_minimal (hg : d.migr = false) : d.laneMove n arg tag = d.laneDone n 3 tag 4 := by
  simp [Dev.laneMove, hm, hg]

variable (hg : d.migr = true)
include hg

theorem Dev.laneMove_unbound (hb : d.bound n = none) : d.laneMove n arg tag = d.laneDone n 3 tag 6 := by
  simp [Dev.laneMove, hm, hg, hb]

variable (hb : d.bound n = some h)
include hb

theorem Dev.laneMove_noneFree (hf : d.hearthsIn stFree = []) : d.laneMove n 0x7F tag = d.laneDone n 3 tag 5 := by
  simp [Dev.laneMove, hm, hg, hb, hf]

variable (hn : arg ≠ 0x7F)
include hn

theorem Dev.laneMove_refused (hs : d.nameStatus arg ≠ 0) : d.laneMove n arg tag = d.laneDone n 3 tag (d.nameStatus arg) := by
  simp [Dev.laneMove, hm, hg, hb, hn, hs]

variable (h0 : d.nameStatus arg = 0)
include h0

theorem Dev.laneMove_stopped (hr : (d.hearth h).running = false) :
    d.laneMove n arg tag = (d.moveStopped n h arg).laneDone n 3 tag 0 := by
  simp [Dev.laneMove, hm, hg, hb, hn, h0, hr]

theorem Dev.laneMove_running (hr : (d.hearth h).running = true) : d.laneMove n arg tag =
    (d.planMove n arg false).2.laneDone n 3 tag (if (d.planMove n arg false).1 = true then 0 else 5) := by
  simp [Dev.laneMove, hm, hg, hb, hn, h0, hr]

end

/-! ### RESTART -/

theorem Dev.laneRestartCmd_unbound (hb : d.bound n = none) :
    d.laneRestartCmd n tag dmg = d.laneDone n 4 tag (if d.migrating n = true then 2 else 6) := by
  simp [Dev.laneRestartCmd, hb]

section
variable (hb : d.bound n = some h)
include hb

theorem Dev.laneRestartCmd_disabled (he : d.is (Reg.LANE_CTL_EN n) = false) :
    d.laneRestartCmd n tag dmg = d.laneDone n 4 tag 3 := by
  simp [Dev.laneRestartCmd, hb, he]

variable (he : d.is (Reg.LANE_CTL_EN n) = true)
include he

theorem Dev.laneRestartCmd_busy (hm : d.migrating n = true) (hh : (d.lane n).halted = false) :
    d.laneRestartCmd n tag dmg = d.laneDone n 4 tag 2 := by
  simp [Dev.laneRestartCmd, hb, he, hm, hh]

theorem Dev.laneRestartCmd_accepted (hm : d.migrating n = false ∨ (d.lane n).halted = true) :
    d.laneRestartCmd n tag dmg = (if ((d.haltedMig n h).lane n).started = true then (d.haltedMig n h).laneRestart n h dmg
      else (d.haltedMig n h).laneStart n 1 dmg).laneDone n 4 tag 0 := by
  rcases hm with hm | hm <;> simp [Dev.laneRestartCmd, hb, he, hm]

end

/-- A lane that migrates nothing has no migration to end. -/
theorem Dev.haltedMig_idle (hm : d.migrating n = false) : d.haltedMig n h = d := by
  have h1 : (d.lane n).mig = none := by
    simp only [Dev.migrating, Bool.or_eq_false_iff] at hm
    exact Option.isNone_iff_eq_none.mp (by simpa using hm.1.1)
  simp [Dev.haltedMig, h1, hm]

end

section
variable {s : State} {n arg tag : Nat} {dmg : Damage} {t : Dev}

theorem goes_bind (h : s.dev.laneCmd n 1 tag (fun d => d.laneBind n arg tag dmg) = t) : Goes (.bind n arg tag dmg) s t :=
  goes_of_next rfl h

theorem goes_unbind (h : s.dev.laneCmd n 2 tag (fun d => d.laneUnbind n tag) = t) : Goes (.unbind n tag) s t :=
  goes_of_next rfl h

theorem goes_move (h : s.dev.laneCmd n 3 tag (fun d => d.laneMove n arg tag) = t) : Goes (.move n arg tag) s t :=
  goes_of_next rfl h

theorem goes_restart (h : s.dev.laneCmd n 4 tag (fun d => d.laneRestartCmd n tag dmg) = t) : Goes (.restart n tag dmg) s t :=
  goes_of_next rfl h

end

theorem laneCommandsAnswer : Claim.LaneCommandsAnswer := by
  intro s n arg tag dmg d lost busy named all absent untested waits
  refine ⟨fun hn => ?_, fun op ho ht => ?_, fun hn hb => ?_, fun hn hb => ?_⟩
  · exact ⟨goes_bind (d.laneCmd_absent _ _ _ hn), goes_unbind (d.laneCmd_absent _ _ _ hn), goes_move (d.laneCmd_absent _ _ _ hn),
      goes_restart (d.laneCmd_absent _ _ _ hn)⟩
  · rw [show absent op = _ from d.cmdAbsent_eq_wr _ ho ht, Dev.rd_wr_same]
  · exact ⟨goes_bind (d.laneCmd_lost _ _ _ hn hb), goes_unbind (d.laneCmd_lost _ _ _ hn hb), goes_move (d.laneCmd_lost _ _ _ hn hb),
      goes_restart (d.laneCmd_lost _ _ _ hn hb)⟩
  have bindTo : ∀ {a : Nat} {t : Dev}, d.laneBind n a tag dmg = t → Goes (.bind n a tag dmg) s t :=
    fun h => goes_bind ((d.laneCmd_accepted _ _ _ hn hb).trans h)
  have unbindTo : ∀ {t : Dev}, d.laneUnbind n tag = t → Goes (.unbind n tag) s t :=
    fun h => goes_unbind ((d.laneCmd_accepted _ _ _ hn hb).trans h)
  have moveTo : ∀ {a : Nat} {t : Dev}, d.laneMove n a tag = t → Goes (.move n a tag) s t :=
    fun h => goes_move ((d.laneCmd_accepted _ _ _ hn hb).trans h)
  have restartTo : ∀ {t : Dev}, d.laneRestartCmd n tag dmg = t → Goes (.restart n tag dmg) s t :=
    fun h => goes_restart ((d.laneCmd_accepted _ _ _ hn hb).trans h)
  have refused : ∀ {st : Nat}, d.migrating n = false → d.bound n = none → named → ¬(arg < d.part.hearths ∧ untested) →
      d.nameStatus arg = st → st ≠ 0 → Goes (.bind n arg tag dmg) s (d.laneDone n 1 tag st) := fun hm hu ha ht hst h0 =>
    bindTo (by rw [Dev.laneBind_named hm hu ha ht, hst, if_pos h0])
  refine ⟨fun hm => ⟨bindTo (Dev.laneBind_migrating hm), unbindTo (if_pos hm), moveTo (Dev.laneMove_migrating hm)⟩,
    fun hm => ⟨fun hu => bindTo (Dev.laneBind_bound hm hu), fun h hs hu hf => bindTo (Dev.laneBind_any hm hu hf),
      fun hu hf ha => bindTo (Dev.laneBind_any_waits hm hu hf ha), fun hu hf ha => bindTo (Dev.laneBind_any_none hm hu hf ha),
      fun hu ha hp => ?_, fun hu ha hp hr => ?_, fun hu ha hp ht => bindTo (Dev.laneBind_untested hm hu ha hp ht),
      fun hu ha hp ht hr hf => ?_, fun hu ha hp hf => ?_, fun hu => unbindTo (Dev.laneUnbind_unbound hm hu),
      fun h hu he => unbindTo (Dev.laneUnbind_enabled hm hu he), fun h hu he => ?_, fun hg => moveTo (Dev.laneMove_minimal hm hg),
      fun hg hu => moveTo (Dev.laneMove_unbound hm hg hu), fun h hg hu hf => moveTo (Dev.laneMove_noneFree hm hg hu hf),
      fun h hg hu ha hs => moveTo (Dev.laneMove_refused hm hg hu ha hs),
      fun h hg hu ha hs hr => moveTo (Dev.laneMove_stopped hm hg hu ha hs hr),
      fun h hg hu ha hs hr => moveTo (Dev.laneMove_running hm hg hu ha hs hr)⟩,
    fun hu => restartTo (Dev.laneRestartCmd_unbound hu), fun h hu he => restartTo (Dev.laneRestartCmd_disabled hu he),
    fun h hu he hm hh => restartTo (Dev.laneRestartCmd_busy hu he hm hh), fun h hu he hm => ?_,
    fun h hu he hm hh => restartTo (Dev.laneRestartCmd_accepted hu he (.inr hh))⟩
  · exact refused hm hu ha (fun h => by omega) (Dev.nameStatus_absent hp) (by decide)
  · refine refused hm hu ha (fun h => ?_) (Dev.nameStatus_retired hp hr) (by decide)
    rcases h.2 with h | h
    · exact absurd (h.symm.trans hr) (by decide)
    · exact absurd (h.1.symm.trans hr) (by decide)
  · exact refused hm hu ha (fun h => ht h.2) (Dev.nameStatus_inUse hp hr hf) (by decide)
  · refine bindTo ?_
    rw [Dev.laneBind_named hm hu ha, Dev.nameStatus_free hp hf, if_neg (by decide)]
    rintro ⟨-, h | h⟩
    · exact absurd (h.symm.trans hf) (by decide)
    · exact absurd (h.1.symm.trans hf) (by decide)
  · exact completes_of_goes (unbindTo rfl) (Dev.laneUnbind_stopped hm hu he (lt_of_lt_of_le hn d.part.lanes_le))
  · refine restartTo ((Dev.laneRestartCmd_accepted hu he (.inl hm)).trans ?_)
    rw [Dev.haltedMig_idle hm]

/-! ## A bind that waits (R155) -/

section
variable {d : Dev} {n a h : Nat} {hs : List Nat} {dmg : Damage}

theorem Dev.deferredBind_none (hw : (d.lane n).waitBind = none) : d.deferredBind n dmg = d := by
  simp [Dev.deferredBind, hw]

/-- A BIND that waits for any hearth takes the lowest FREE one. -/
theorem Dev.deferredBind_any (hw : (d.lane n).waitBind = some (some 0x7F)) (hf : d.hearthsIn stFree = h :: hs) : d.deferredBind n dmg =
    ((d.updLane n (fun x => { x with waitBind := none })).bindStart n h dmg).laneEnd n 0 := by
  simp [Dev.deferredBind, hw, hf]

theorem Dev.deferredBind_any_none (hw : (d.lane n).waitBind = some (some 0x7F)) (hf : d.hearthsIn stFree = []) : d.deferredBind n dmg =
    if d.awaitsTest = true then d else (d.updLane n (fun x => { x with waitBind := none })).laneEnd n 5 := by
  simp [Dev.deferredBind, hw, hf]

theorem Dev.deferredBind_named (hw : (d.lane n).waitBind = some (some a)) (ha : a ≠ 0x7F) (hf : d.hstate a = stFree) :
    d.deferredBind n dmg = ((d.updLane n (fun x => { x with waitBind := none })).bindStart n a dmg).laneEnd n 0 := by
  simp [Dev.deferredBind, hw, ha, hf]

theorem Dev.deferredBind_named_notFree (hw : (d.lane n).waitBind = some (some a)) (ha : a ≠ 0x7F) (hf : d.hstate a ≠ stFree) :
    d.deferredBind n dmg = if d.hstate a = stRetired then (d.updLane n (fun x => { x with waitBind := none })).laneEnd n 8
      else if d.awaitsTest = true then d else (d.updLane n (fun x => { x with waitBind := none })).laneEnd n 5 := by
  simp [Dev.deferredBind, hw, ha, hf]

/-- An EN that waits takes the lowest FREE hearth and starts. -/
theorem Dev.deferredBind_enable (hw : (d.lane n).waitBind = some none) (hf : d.hearthsIn stFree = h :: hs) : d.deferredBind n dmg =
    ((d.updLane n (fun x => { x with waitBind := none })).bindTo n h).startOn n h 0 dmg := by
  simp [Dev.deferredBind, hw, hf]

theorem Dev.deferredBind_enable_none (hw : (d.lane n).waitBind = some none) (hf : d.hearthsIn stFree = []) : d.deferredBind n dmg =
    if d.awaitsTest = true then d else (d.updLane n (fun x => { x with waitBind := none })).raise (Reg.LANE_STAT n) 11 := by
  simp [Dev.deferredBind, hw, hf]

end

theorem goes_deferredBind {s : State} {n : Nat} {dmg : Damage} {t : Dev} (h : s.dev.deferredBind n dmg = t) :
    Goes (.deferredBind n dmg) s t := goes_of_next rfl h

theorem deferredBindTakesAHearth : Claim.DeferredBindTakesAHearth := by
  intro s n a h hs dmg d C off
  refine ⟨fun hw => ?_, fun hw hf => ?_, fun hw ha hf => ?_, fun hw ha hr => ?_, fun hw ha hf hr => ?_, fun hw hf => ?_,
    fun hw hf ht => ?_, fun hw hf ht => ?_, fun hw hf ht => ?_⟩
  all_goals refine goes_deferredBind ?_
  · exact Dev.deferredBind_none hw
  · exact Dev.deferredBind_any hw hf
  · exact Dev.deferredBind_named hw ha hf
  · exact (Dev.deferredBind_named_notFree hw ha (by rw [hr]; decide)).trans (if_pos hr)
  · exact (Dev.deferredBind_named_notFree hw ha hf).trans (if_neg hr)
  · exact Dev.deferredBind_enable hw hf
  · rcases hw with hw | hw
    · exact (Dev.deferredBind_any_none hw hf).trans (if_pos ht)
    · exact (Dev.deferredBind_enable_none hw hf).trans (if_pos ht)
  · exact (Dev.deferredBind_any_none hw hf).trans (if_neg (by rw [ht]; simp))
  · exact (Dev.deferredBind_enable_none hw hf).trans (if_neg (by rw [ht]; simp))

end Sys2Proof.Machine
end

section
/-! Failures at the same moment, and silence as a failure. -/

namespace Sys2Proof.Machine

/-! ## Failures at the same moment (R29) -/

/-- The lanes in the order of R29: guarded lanes first, each kind in ascending lane number. -/
def Dev.laneOrder (d : Dev) : List Nat :=
  (List.range d.part.lanes).filter (fun n => d.is (Reg.LANE_CTL_GUARD n)) ++
    (List.range d.part.lanes).filter (fun n => !d.is (Reg.LANE_CTL_GUARD n))

/-- The failures of one lane, in the order they are served (log 93). -/
def Dev.failuresOf (d : Dev) (fs : List Failure) (n : Nat) : List Failure :=
  (fs.filter (fun f => f.lane == n)).filter (fun f => d.bound n != some f.hearth) ++
    (fs.filter (fun f => f.lane == n)).filter (fun f => d.bound n == some f.hearth)

section
variable (d : Dev) (fs : List Failure)

theorem Dev.serveOrder_eq : d.serveOrder fs = d.laneOrder.flatMap (d.failuresOf fs) := rfl

theorem Dev.mem_laneOrder {n : Nat} : n ∈ d.laneOrder ↔ n < d.part.lanes := by
  cases hg : d.is (Reg.LANE_CTL_GUARD n) <;> simp [Dev.laneOrder, hg]

theorem Dev.mem_failuresOf {f : Failure} {n : Nat} : f ∈ d.failuresOf fs n ↔ f ∈ fs ∧ f.lane = n := by
  by_cases hb : d.bound n = some f.hearth <;> simp [Dev.failuresOf, hb]

theorem Dev.laneOrder_pairwise : d.laneOrder.Pairwise (fun n m =>
    (d.is (Reg.LANE_CTL_GUARD n) = true ∧ d.is (Reg.LANE_CTL_GUARD m) = false) ∨
      (d.is (Reg.LANE_CTL_GUARD n) = d.is (Reg.LANE_CTL_GUARD m) ∧ n < m)) := by
  have hlt : (List.range d.part.lanes).Pairwise (· < ·) := List.pairwise_lt_range
  refine List.pairwise_append.mpr ⟨?_, ?_, fun n hn m hm => .inl ?_⟩
  · refine (hlt.filter _).imp_of_mem fun hn hm h => .inr ⟨?_, h⟩
    rw [(List.mem_filter.mp hn).2, (List.mem_filter.mp hm).2]
  · refine (hlt.filter _).imp_of_mem fun hn hm h => .inr ⟨?_, h⟩
    have h1 := (List.mem_filter.mp hn).2
    have h2 := (List.mem_filter.mp hm).2
    simp only [Bool.not_eq_true'] at h1 h2
    rw [h1, h2]
  · exact ⟨(List.mem_filter.mp hn).2, by simpa using (List.mem_filter.mp hm).2⟩

theorem Dev.nodup_laneOrder : d.laneOrder.Nodup := by
  refine d.laneOrder_pairwise.imp fun h e => ?_
  subst e
  rcases h with ⟨h1, h2⟩ | ⟨-, h⟩
  · rw [h1] at h2; exact absurd h2 (by decide)
  · exact absurd h (lt_irrefl _)

theorem Dev.mem_serveOrder {f : Failure} : f ∈ d.serveOrder fs ↔ f ∈ fs ∧ f.lane < d.part.lanes := by
  rw [Dev.serveOrder_eq, List.mem_flatMap]
  constructor
  · rintro ⟨n, hn, hf⟩
    obtain ⟨h1, rfl⟩ := (d.mem_failuresOf fs).mp hf
    exact ⟨h1, d.mem_laneOrder.mp hn⟩
  · rintro ⟨h1, h2⟩
    exact ⟨f.lane, d.mem_laneOrder.mpr h2, (d.mem_failuresOf fs).mpr ⟨h1, rfl⟩⟩

theorem Dev.serveOrder_nil : d.serveOrder [] = [] :=
  List.eq_nil_iff_forall_not_mem.mpr fun _ hf => absurd ((d.mem_serveOrder []).mp hf).1 List.not_mem_nil

/-- One failure alone is served, where its lane exists. -/
theorem Dev.serveOrder_singleton {f : Failure} (hf : f.lane < d.part.lanes) : d.serveOrder [f] = [f] := by
  obtain ⟨as, bs, hl⟩ := List.append_of_mem (d.mem_laneOrder.mpr hf)
  have hn := hl ▸ d.nodup_laneOrder
  obtain ⟨ha, hb⟩ : f.lane ∉ as ∧ f.lane ∉ bs := by
    rw [List.nodup_middle, List.nodup_cons, List.mem_append, not_or] at hn
    exact hn.1
  have hnil : ∀ ns : List Nat, f.lane ∉ ns → ns.flatMap (d.failuresOf [f]) = [] := fun ns hns => by
    refine List.flatMap_eq_nil_iff.mpr fun n hn => ?_
    have : f.lane ≠ n := fun e => hns (e ▸ hn)
    simp [Dev.failuresOf, this]
  have hself : d.failuresOf [f] f.lane = [f] := by
    by_cases h : d.bound f.lane = some f.hearth <;> simp [Dev.failuresOf, h]
  rw [Dev.serveOrder_eq, hl, List.flatMap_append, List.flatMap_cons, hnil as ha, hnil bs hb, hself]
  rfl

end

theorem sameMomentFailuresAreServedInOrder : Claim.SameMomentFailuresAreServedInOrder := by
  intro d fs guarded
  refine ⟨?_, fun f => d.mem_serveOrder fs⟩
  rw [Dev.serveOrder_eq, List.pairwise_flatMap]
  constructor
  · intro n _
    refine List.pairwise_of_forall_mem_list fun f hf g hg hne => absurd ?_ hne
    rw [((d.mem_failuresOf fs).mp hf).2, ((d.mem_failuresOf fs).mp hg).2]
  · refine d.laneOrder_pairwise.imp fun h f hf g hg _ => ?_
    obtain ⟨-, rfl⟩ := (d.mem_failuresOf fs).mp hf
    obtain ⟨-, rfl⟩ := (d.mem_failuresOf fs).mp hg
    exact h

/-! ## A failure is declared (R163, R171) -/

@[simp] theorem Dev.part_fwHearthFailed (d : Dev) (h faultT : Nat) : (d.fwHearthFailed h faultT).part = d.part := by
  unfold Dev.fwHearthFailed
  generalize d.fwList = cs
  induction cs generalizing d with
  | nil => rfl
  | cons c cs ih =>
    rw [List.foldl_cons, ih]
    split
    · rw [Dev.part_set]
    · rfl

@[simp] theorem Dev.part_declare (d : Dev) (h cause faultT : Nat) : (d.declare h cause faultT).2.part = d.part := by
  unfold Dev.declare
  dsimp only
  split
  · rfl
  · simp [Dev.wr64, Dev.killHearth, Dev.withdraw, Dev.updHearth]

theorem Dev.laneOf_of_declare {d e : Dev} {h cause faultT n : Nat} {ran : Bool}
    (hd : d.declare h cause faultT = (some (n, ran), e)) : d.laneOf h = some n := by
  unfold Dev.declare at hd
  dsimp only at hd
  split at hd
  · cases hd
  · cases hl : d.laneOf h with
    | none => simp [hl] at hd
    | some m => simp [hl] at hd; rw [hd.1.1]

theorem Dev.declareAll_nil (d : Dev) : d.declareAll [] = d := by
  simp only [Dev.declareAll, List.foldl_nil, Dev.serveOrder_nil]

/-- One failure alone is declared and its lane served. -/
theorem Dev.declareAll_singleton {d : Dev} {h cause fault : Nat} (hl : ∀ m, d.laneOf h = some m → m < d.part.lanes) :
    d.declareAll [(h, cause, fault)] = d.declareFail h cause fault (d.devAt fault) := by
  have hp := d.part_declare h cause (d.devAt fault)
  unfold Dev.declareAll Dev.declareFail
  simp only [List.foldl_cons, List.foldl_nil]
  rw [show d.devtime - (d.now - fault) = d.devAt fault from rfl]
  rcases hd : d.declare h cause (d.devAt fault) with ⟨_ | ⟨n, ran⟩, e⟩
  · simp [Dev.serveOrder_nil]
  · rw [hd] at hp
    have hn : n < e.part.lanes := by rw [hp]; exact hl n (Dev.laneOf_of_declare hd)
    simp [Dev.serveOrder_singleton e (f := ⟨h, n, fault, d.devAt fault, ran⟩) hn]

/-! ## Silence (R163, R164) -/

theorem Dev.retireLate_iff (d : Dev) (h : Nat) : d.retireLate h = true ↔
    (d.hearth h).running = true ∧ ((d.hearth h).urgOn = true ∨ (d.hearth h).wait = none) ∧
      (d.hearth h).lastRetire + 10000 ≤ d.now := by
  simp [Dev.retireLate, and_assoc]

theorem goes_retireTimeout (s : State) (hs : List Nat) : Goes (.retireTimeout hs) s
    (s.dev.declareAll ((hs.eraseDups.filter s.dev.retireLate).map (fun g => (g, 5, (s.dev.hearth g).lastRetire)))) := rfl

theorem goes_retireTimeout_one {s : State} {h : Nat} (hr : s.dev.retireLate h = true) :
    Goes (.retireTimeout [h]) s (s.dev.declareAll [(h, 5, (s.dev.hearth h).lastRetire)]) := by
  refine goes_of_next (goes_retireTimeout s [h]) ?_
  rw [show [h].eraseDups = [h] from rfl, List.filter_cons_of_pos hr, List.filter_nil, List.map_singleton]

theorem goes_retireTimeout_idle {s : State} {h : Nat} (hr : ¬s.dev.retireLate h = true) : Goes (.retireTimeout [h]) s s.dev := by
  refine goes_of_next (goes_retireTimeout s [h]) ?_
  rw [show [h].eraseDups = [h] from rfl, List.filter_cons_of_neg hr, List.filter_nil, List.map_nil, Dev.declareAll_nil]

/-- A hearth's program has completed no tick for WDOG times 10 ms (R164). -/
def Dev.tickLate (d : Dev) (h n : Nat) : Prop :=
  (d.hearth h).running = true ∧ d.get (Reg.LANE_CTL_WDOG n) ≠ 0 ∧
    (d.hearth h).lastTick + d.get (Reg.LANE_CTL_WDOG n) * 10000000 ≤ d.now

theorem Dev.tickLate_iff (d : Dev) (h n : Nat) : d.tickLate h n ↔ ¬(!(d.hearth h).running || d.get (Reg.LANE_CTL_WDOG n) == 0 ||
    decide (d.now < (d.hearth h).lastTick + d.get (Reg.LANE_CTL_WDOG n) * 10000000)) = true := by
  rw [Bool.not_eq_true]
  simp only [Dev.tickLate, Bool.or_eq_false_iff, Bool.not_eq_false', beq_eq_false_iff_ne, decide_eq_false_iff_not, not_lt, and_assoc]

/-- The first stall of a lane is kept with its time and raised. -/
def Dev.stallNoted (d : Dev) (n : Nat) : Dev :=
  (d.updLane n (fun y => { y with stallAt := d.now + 1 })).raise (Reg.LANE_STAT n) 10

@[simp] theorem Dev.devAt_stallNoted (d : Dev) (n t : Nat) : (d.stallNoted n).devAt t = d.devAt t := by
  simp [Dev.devAt, Dev.stallNoted]

/-- What the stall of a hearth of lane `n` does. -/
def Dev.stallOf (d : Dev) (h n : Nat) : Dev :=
  let last := (d.hearth h).lastTick
  if d.bound n ≠ some h then d.declareFail h 9 last (d.devAt last)
  else if (d.lane n).stallAt ≠ 0 ∧ d.now < (d.lane n).stallAt - 1 + 10000000000 then d.stallAgain n h last
  else (d.stallNoted n).declareFail h 9 last ((d.stallNoted n).devAt last)

section
variable {s : State} {h n : Nat}

theorem goes_stallWatchdogExpiry_free (hl : s.dev.laneOf h = none) : Goes (.stallWatchdogExpiry h) s s.dev := by
  refine goes_of_next rfl ?_
  simp only [hl]

variable (hl : s.dev.laneOf h = some n)
include hl

theorem goes_stallWatchdogExpiry_idle (hk : ¬s.dev.tickLate h n) : Goes (.stallWatchdogExpiry h) s s.dev := by
  refine goes_of_next rfl ?_
  simp only [hl]
  exact if_pos (not_not.mp (mt (s.dev.tickLate_iff h n).mpr hk))

theorem goes_stallWatchdogExpiry_late (hk : s.dev.tickLate h n) : Goes (.stallWatchdogExpiry h) s (s.dev.stallOf h n) := by
  refine goes_of_next rfl ?_
  simp only [hl]
  exact if_neg ((s.dev.tickLate_iff h n).mp hk)

end

theorem silenceIsAFailure : Claim.SilenceIsAFailure := by
  intro s h n hs d x silent w stalled again C
  refine ⟨fun hq hl => ?_, fun hq => goes_retireTimeout_idle (mt (d.retireLate_iff h).mp hq), goes_retireTimeout s hs,
    goes_stallWatchdogExpiry_free, fun hl hk => goes_stallWatchdogExpiry_idle hl hk, fun hl hk hb => ?_, fun hl hk hb ha => ?_,
    fun hl hk hb ha => ?_⟩
  · exact goes_of_next (goes_retireTimeout_one ((d.retireLate_iff h).mpr hq)) (Dev.declareAll_singleton hl)
  · exact goes_of_next (goes_stallWatchdogExpiry_late hl hk) (if_pos hb)
  · exact goes_of_next (goes_stallWatchdogExpiry_late hl hk) ((if_neg (not_not.mpr hb)).trans (if_pos ha))
  · refine goes_of_next (goes_stallWatchdogExpiry_late hl hk) ?_
    refine (if_neg (not_not.mpr hb)).trans ((if_neg ha).trans ?_)
    rw [Dev.devAt_stallNoted]
    rfl

/-- Settles O39: the commands by the lemma of each of their branches, the tests by what they leave of every other hearth, and the
failures of one moment by the order of their lanes. BADARG of a RESTART with EN 0 and the waiting BIND of an untested hearth (log 39),
the MOVE of a stopped lane (log 45) and the order of one lane's hearths (log 93) are the model's choices. -/
theorem lanesBindAndHearthsAreTested : Obligations.LanesBindAndHearthsAreTested :=
  ⟨laneCommandsAnswer, deferredBindTakesAHearth, hearthsAreTestedAndRetired, silenceIsAFailure,
    sameMomentFailuresAreServedInOrder⟩

end Sys2Proof.Machine
end

section
/-! Every command answers a next state. -/

namespace Sys2Proof.Machine

/-- Settles O2: the arm of every command is a map of the device that passes the queue through (`State.onDev`, `State.onBlock`, or the
issue of an instruction), so the next state is read off the arm. -/
theorem everyCommandAnswersANextState : Obligations.EveryCommandAnswersANextState := by
  intro c s
  cases c
  all_goals exact ⟨_, rfl⟩

end Sys2Proof.Machine
end

section
/-! Events of the sequence-cleared registers: what raising them and clearing them does to the register, to the vector's message and to
the rate limits. -/

namespace Sys2Proof.Machine

/-! ## Raising (R69, R79, R84) -/

/-- The bits of events as one number. -/
def eventMask (bs : List Nat) : Nat := bs.foldl (fun w b => w ||| 2 ^ b) 0

theorem testBit_foldl_two_pow (bs : List Nat) (k : Nat) : ∀ m : Nat,
    (bs.foldl (fun w b => w ||| 2 ^ b) m).testBit k = (m.testBit k || bs.contains k) := by
  induction bs with
  | nil => simp
  | cons b bs ih =>
    intro m
    rw [List.foldl_cons, ih, Nat.testBit_or, Nat.testBit_two_pow, List.contains_cons, Bool.or_assoc]
    rw [show decide (b = k) = (k == b) from decide_eq_decide.mpr eq_comm]

theorem testBit_eventMask (bs : List Nat) (k : Nat) : (eventMask bs).testBit k = bs.contains k := by
  rw [eventMask, testBit_foldl_two_pow]; simp

theorem eventMask_singleton (b : Nat) : eventMask [b] = 2 ^ b := by simp [eventMask]

/-- The register's word with the events' bits set and SEQ advanced. -/
def eventWord (w : Word) (bs : List Nat) : Word := putBits (w ||| BitVec.ofNat 32 (eventMask bs)) 31 24 (getBits w 31 24 + 1)

theorem getLsbD_eventWord (w : Word) (bs : List Nat) {k : Nat} (hk : k < 24) :
    (eventWord w bs).getLsbD k = (w.getLsbD k || bs.contains k) := by
  rw [eventWord, getLsbD_putBits _ _ (by omega) (by omega), if_neg (by omega), BitVec.getLsbD_or, BitVec.getLsbD_ofNat,
    testBit_eventMask]
  simp [show k < 32 by omega]

theorem seq_eventWord (w : Word) (bs : List Nat) : getBits (eventWord w bs) 31 24 = (getBits w 31 24 + 1) % 256 :=
  getBits_putBits _ _ _ _ (by omega) (by omega)

/-- The events noted in their register and in the times of their last raising, no message sent yet. -/
def Dev.eventsNoted (d : Dev) (a u : Nat) (bs : List Nat) : Dev :=
  ({ d with evtLast := bs.foldl (fun m b => if evtRate a b = 0 then m else SMap.put 0 m (evtKey a b u) (d.now + 1)) d.evtLast } : Dev).wr a
    (eventWord (d.rd a) bs)

@[simp] theorem Dev.now_eventsNoted (d : Dev) (a u : Nat) (bs : List Nat) : (d.eventsNoted a u bs).now = d.now := rfl
@[simp] theorem Dev.pcie_eventsNoted (d : Dev) (a u : Nat) (bs : List Nat) : (d.eventsNoted a u bs).pcie = d.pcie := rfl
@[simp] theorem Dev.out_eventsNoted (d : Dev) (a u : Nat) (bs : List Nat) : (d.eventsNoted a u bs).out = d.out := rfl

@[simp] theorem Dev.rd_eventsNoted_same (d : Dev) (a u : Nat) (bs : List Nat) : (d.eventsNoted a u bs).rd a = eventWord (d.rd a) bs :=
  Dev.rd_wr_same _ _ _

theorem Dev.rd_eventsNoted_other (d : Dev) {a c : Nat} (u : Nat) (bs : List Nat) (h : c ≠ a) : (d.eventsNoted a u bs).rd c = d.rd c :=
  Dev.rd_wr_other _ _ h

section
variable {d : Dev} {a u : Nat} {bs : List Nat}

/-- None of the events may be raised yet. -/
theorem Dev.raiseUnit_spaced (h : ∀ b ∈ bs, d.evtFree a b u = false) : d.raiseUnit a u bs = d := by
  have hf : bs.filter (fun b => d.evtFree a b u) = [] := List.filter_eq_nil_iff.mpr fun b hb => by simp [h b hb]
  unfold Dev.raiseUnit
  rw [hf]
  rfl

variable (hne : bs ≠ []) (hf : ∀ b ∈ bs, d.evtFree a b u = true)
include hne hf

/-- Events that may be raised are noted, and an enabled one makes the vector's message fall due. -/
theorem Dev.raiseUnit_free : d.raiseUnit a u bs =
    if (BitVec.ofNat 32 (eventMask bs) &&& (d.eventsNoted a u bs).rd (evtInfo a).1) != 0 then (d.eventsNoted a u bs).notify (evtInfo a).2
    else d.eventsNoted a u bs := by
  have hfil : bs.filter (fun b => d.evtFree a b u) = bs := List.filter_eq_self.mpr hf
  unfold Dev.raiseUnit
  rw [hfil]
  exact if_neg (by simpa using hne)

theorem Dev.regs_raiseUnit_free : (d.raiseUnit a u bs).regs = (d.eventsNoted a u bs).regs := by
  rw [Dev.raiseUnit_free hne hf]
  split
  · exact Dev.regs_notify _ _
  · rfl

theorem Dev.rd_raiseUnit_free : (d.raiseUnit a u bs).rd a = eventWord (d.rd a) bs := by
  rw [Dev.rd_eq_of_regs (Dev.regs_raiseUnit_free hne hf), Dev.rd_eventsNoted_same]

end

section
variable {d : Dev} {a b : Nat}

theorem Dev.raise_spaced (hf : d.evtFree a b 0 = false) : d.raise a b = d :=
  Dev.raiseUnit_spaced (by simpa using hf)

theorem and_two_pow_ne_zero (w : Word) (hb : b < 32) : ((BitVec.ofNat 32 (2 ^ b) &&& w) != 0) = w.getLsbD b := by
  have hk : ∀ k, (BitVec.ofNat 32 (2 ^ b) &&& w).getLsbD k = (decide (b = k) && w.getLsbD k) := fun k => by
    rw [BitVec.getLsbD_and, BitVec.getLsbD_ofNat, Nat.testBit_two_pow]
    by_cases h : b = k
    · subst h; simp [hb]
    · simp [h]
  cases hw : w.getLsbD b with
  | true =>
    refine bne_iff_ne.mpr fun h0 => ?_
    have := hk b
    rw [h0, hw] at this
    simp at this
  | false =>
    refine bne_eq_false_iff_eq.mpr (BitVec.eq_of_getLsbD_eq fun k _ => ?_)
    rw [hk k]
    by_cases h : b = k
    · subst h; simp [hw]
    · simp [h]

variable (hf : d.evtFree a b 0 = true)
include hf

theorem Dev.rd_raise_free : (d.raise a b).rd a = eventWord (d.rd a) [b] :=
  Dev.rd_raiseUnit_free (by simp) (by simpa using hf)

/-- The event's own bit is 1 afterwards. -/
theorem Dev.getLsbD_raise_free (hb : b < 24) : ((d.raise a b).rd a).getLsbD b = true := by
  rw [Dev.rd_raise_free hf, getLsbD_eventWord _ _ hb]; simp

theorem Dev.raise_free (hb : b < 24) (ha : (evtInfo a).1 ≠ a) : d.raise a b =
    if (d.rd (evtInfo a).1).getLsbD b then (d.eventsNoted a 0 [b]).notify (evtInfo a).2 else d.eventsNoted a 0 [b] := by
  unfold Dev.raise
  rw [Dev.raiseUnit_free (by simp) (by simpa using hf), eventMask_singleton, and_two_pow_ne_zero _ (by omega),
    Dev.rd_eventsNoted_other _ _ _ ha]

theorem Dev.evtLast_raise_free : (d.raise a b).evtLast =
    if evtRate a b = 0 then d.evtLast else SMap.put 0 d.evtLast (evtKey a b 0) (d.now + 1) := by
  unfold Dev.raise
  rw [Dev.raiseUnit_free (by simp) (by simpa using hf)]
  split
  · rw [Dev.evtLast_notify]; rfl
  · rfl

/-- An event with a least spacing is not raised again at once (R84). -/
theorem Dev.evtFree_raise (hr : evtRate a b ≠ 0) : (d.raise a b).evtFree a b 0 = false := by
  unfold Dev.evtFree
  rw [Dev.evtLast_raise_free hf, if_neg hr, SMap.get_put_same, Dev.now_raise]
  simp only [Bool.or_eq_false_iff, beq_eq_false_iff_ne, decide_eq_false_iff_not]
  omega

end

/-! ## The message of a vector (R79, R82) -/

section
variable {d : Dev} {v : Nat} (he : d.vecEnabled v = true)
include he

theorem Dev.notify_masked (hm : d.vecMasked v = true) :
    d.notify v = { d with pcie := { d.pcie with pba := d.pcie.pba ||| 2 ^ v } } := by
  simp [Dev.notify, he, hm]

theorem Dev.notify_sends (hm : d.vecMasked v = false) (hf : d.pcie.fmask = false) (hi : d.imodHeld v = false) :
    d.notify v = d.msixSend v := by
  simp [Dev.notify, he, hm, hf, hi]

end

section
variable (d : Dev) {a : Nat} (u v : Nat) (bs : List Nat)

theorem Dev.vecEnabled_eventsNoted (ha : a ≠ Reg.SYS_VEC_EN) : (d.eventsNoted a u bs).vecEnabled v = d.vecEnabled v := by
  unfold Dev.vecEnabled; rw [Dev.rd_eventsNoted_other _ _ _ ha.symm]

@[simp] theorem Dev.vecMasked_eventsNoted (a : Nat) : (d.eventsNoted a u bs).vecMasked v = d.vecMasked v := rfl

theorem Dev.imodHeld_eventsNoted (ha : a ≠ Reg.SYS_IMOD) : (d.eventsNoted a u bs).imodHeld v = d.imodHeld v := by
  unfold Dev.imodHeld Dev.get; rw [Dev.rd_eventsNoted_other _ _ _ ha.symm]; rfl

end

theorem eventSetsItsBitAndSequence : Claim.EventSetsItsBitAndSequence := by
  intro d a b hb t v en
  refine ⟨Dev.raise_spaced, fun hf => ⟨fun k hk => ?_, ?_, fun c hc => ?_, d.raiseUnit_frame a 0 [b], Dev.evtFree_raise hf,
    fun ha he => ?_, fun ha he hv hm hfm hi hve him => ?_, fun ha he hv hm hve => ?_⟩⟩
  · rw [Dev.rd_raise_free hf, getLsbD_eventWord _ _ hk]
    rw [List.contains_cons, List.contains_nil, Bool.or_false]
  · rw [Dev.rd_raise_free hf, seq_eventWord]
  · exact Dev.rd_raise_other d b (by simpa using hc)
  · have ht : t = d.eventsNoted a 0 [b] := (Dev.raise_free hf hb ha).trans (if_neg (by simpa using he))
    rw [ht]
    exact ⟨rfl, rfl⟩
  · have ht : t = (d.eventsNoted a 0 [b]).msixSend v := by
      refine (Dev.raise_free hf hb ha).trans ((if_pos he).trans (Dev.notify_sends ?_ ?_ hfm ?_))
      · rw [Dev.vecEnabled_eventsNoted _ _ _ _ hve]; exact hv
      · exact hm
      · rw [Dev.imodHeld_eventsNoted _ _ _ _ him]; exact hi
    rw [ht]
    rfl
  · have ht : t = { d.eventsNoted a 0 [b] with pcie := { d.pcie with pba := d.pcie.pba ||| 2 ^ v } } := by
      refine (Dev.raise_free hf hb ha).trans ((if_pos he).trans (Dev.notify_masked ?_ hm))
      rw [Dev.vecEnabled_eventsNoted _ _ _ _ hve]; exact hv
    rw [ht]
    exact ⟨rfl, rfl⟩

/-! ## Clearing (R70) -/

theorem goes_sqcClear {s : State} {who : Initiator} {a : Nat} {w : Word} {x : WriteCtx} {r : Reg} {t : Dev} (hl : lookupReg a = some r)
    (hq : r.isSqc = true) (h : s.dev.portWrite who a w 15 x = t) : Goes (.sqcClear who a w x) s t :=
  goes_of_next rfl ((if_pos (by simp [isSqcAddr, hl, hq])).trans h)

/-- A write of a sequence-cleared register that is reached clears what its SEQ allows. -/
theorem Dev.portWrite_sqc {d : Dev} {who : Initiator} {a : Nat} {w : Word} {x : WriteCtx} {r : Reg} (hm : mapOpen d who a x = true)
    (hp : d.part.has a = true) (hl : lookupReg a = some r) (hq : r.isSqc = true) (hr : r.prv = 0) (hc : d.closedAt a = false)
    (hh : d.heldAt a = false) : d.portWrite who a w 15 x = d.sqcClear a w := by
  rw [Dev.portWrite_word hm, Dev.regWrite_allowed hp hl (.inl hr)]
  simp [Dev.regPut, hc, hq, hh]

@[simp] theorem Dev.rd_settle (d : Dev) (a : Nat) : d.settle.rd a = d.rd a := rfl

/-- The low 24 bits of a word cleared where the written word has them. -/
theorem getLsbD_clearEvents (w v : Word) (b : Nat) :
    (w &&& ~~~(v &&& 0x00FFFFFF)).getLsbD b = (w.getLsbD b && !(decide (b < 24) && v.getLsbD b)) := by
  have h : (0x00FFFFFF : Word).getLsbD b = decide (b < 24) := getLsbD_maskOf 23 0 b (by omega) (by omega) |>.trans (by simp; omega)
  rw [BitVec.getLsbD_and, BitVec.getLsbD_not, BitVec.getLsbD_and, h]
  by_cases hb : b < 32
  · rw [decide_eq_true hb, Bool.true_and, Bool.and_comm (v.getLsbD b)]
  · simp [BitVec.getLsbD_of_ge w b (by omega)]

/-- SEQ stands where events are cleared. -/
theorem seq_clearEvents (w v : Word) : getBits (w &&& ~~~(v &&& 0x00FFFFFF)) 31 24 = getBits w 31 24 := by
  unfold getBits
  congr 1
  refine BitVec.eq_of_getLsbD_eq fun i _ => ?_
  rw [BitVec.getLsbD_extractLsb', BitVec.getLsbD_extractLsb', getLsbD_clearEvents]
  simp

theorem sqcClearNeedsTheSequence : Claim.SqcClearNeedsTheSequence := by
  intro s who a w x r d hm hp hl hq hr hc hh
  have hput := Dev.portWrite_sqc (w := w) hm hp hl hq hr hc hh
  refine ⟨fun hne => goes_sqcClear hl hq (hput.trans (if_neg hne)), fun he =>
    completes_of_goes (goes_sqcClear hl hq (hput.trans (if_pos he))) ⟨fun b hb => ?_, ?_, fun c hc => ?_, rfl⟩⟩
  · rw [Dev.rd_settle, Dev.rd_wr_same, getLsbD_clearEvents]
    simp [hb]
    rfl
  · rw [Dev.rd_settle, Dev.rd_wr_same, seq_clearEvents]
  · exact Dev.rd_wr_other _ _ (by simpa using hc)


/-! ## Events of one cycle, and the reset value (R69) -/

/-- Rows in which every word with sequence-cleared fields resets to zero. -/
def sqcRowsReset (rs : List Reg) : Bool := rs.all (fun r => !r.isSqc || (r.reset == 0 && r.rstep == 0))

theorem sqcRowsReset_ite (c : Prop) [Decidable c] {rs qs : List Reg} (hr : sqcRowsReset rs = true) (hq : sqcRowsReset qs = true) :
    sqcRowsReset (if c then rs else qs) = true := by
  split
  · exact hr
  · exact hq

theorem sqcRowsReset_blockRegs (a : Nat) : sqcRowsReset (blockRegs a) = true := by
  unfold blockRegs
  repeat refine sqcRowsReset_ite _ (by decide +kernel) ?_
  rfl

theorem reset_of_isSqc_row {a : Nat} {r : Reg} (hr : r ∈ blockRegs a) (hq : r.isSqc = true) : r.reset = 0 ∧ r.rstep = 0 := by
  simpa [hq] using List.all_eq_true.mp (sqcRowsReset_blockRegs a) r hr

/-- A row of one word lies at its base alone. -/
theorem Reg.base_of_at? {r : Reg} {a : Nat} (h1 : r.c1 = 1) (h2 : r.c2 = 1) (h : (r.at? a).isSome = true) : a = r.base := by
  rcases lt_or_ge a r.base with hlt | hge
  · simp [Reg.at?, hlt] at h
  · have h0 : a - r.base = 0 := by
      by_contra h0
      simp [Reg.at?, h1, h2, h0] at h
    omega

theorem findReg_eq_some {a : Nat} {r : Reg} {rs : List Reg} (h : findReg a rs = some r) : r ∈ rs ∧ (r.at? a).isSome = true := by
  induction rs with
  | nil => simp [findReg] at h
  | cons q rs ih =>
    unfold findReg at h
    split at h
    · next hq => cases h; exact ⟨List.mem_cons_self, hq⟩
    · exact ⟨List.mem_cons_of_mem _ (ih h).1, (ih h).2⟩

/-- No calibration word is sequence-cleared. -/
theorem sqc_row_outside_calibration : ∀ r ∈ regsCal, r.isSqc = true → r.c1 = 1 ∧ r.c2 = 1 ∧ (r.base < 0x341000 ∨ 0x343000 ≤ r.base) := by
  decide

theorem not_isSqc_calibration {a : Nat} {r : Reg} (h1 : 0x341000 ≤ a) (h2 : a < 0x343000) (h : lookupReg a = some r) :
    r.isSqc ≠ true := by
  intro hq
  have hb : blockRegs a = regsCal := by
    unfold blockRegs
    repeat rw [if_neg (by omega)]
    exact if_pos (by omega)
  obtain ⟨hr, ha⟩ := findReg_eq_some h
  obtain ⟨hc1, hc2, hbase⟩ := sqc_row_outside_calibration r (hb ▸ hr) hq
  have := Reg.base_of_at? hc1 hc2 ha
  omega

/-- A sequence-cleared register resets to zero. -/
theorem regReset_of_isSqc {a : Nat} {r : Reg} (h : lookupReg a = some r) (hq : r.isSqc = true) : regReset a = 0 := by
  have special : ∀ c, (lookupReg c).any Reg.isSqc = false → a ≠ c := by
    rintro c hc rfl
    simp [h, hq] at hc
  unfold regReset
  rw [if_neg (special _ (by decide)), if_neg (special _ (by decide)), if_neg (special _ (by decide)), if_neg (by
    simp only [not_or]
    exact ⟨special _ (by decide), special _ (by decide), special _ (by decide)⟩), if_neg (fun hc =>
      not_isSqc_calibration hc.1 hc.2 h hq), h]
  obtain ⟨h0, h1⟩ := reset_of_isSqc_row (findReg_eq_some h).1 hq
  simp only [h0, h1]
  split <;> simp

theorem eventsOfOneCycleCountOnce : Claim.EventsOfOneCycleCountOnce := by
  refine ⟨fun d a u bs hne hf => ?_, fun a r h hq => regReset_of_isSqc h hq⟩
  have hrd : (d.raiseUnit a u bs).rd a = eventWord (d.rd a) bs := Dev.rd_raiseUnit_free hne fun b hb => (hf b hb).2
  exact ⟨fun k hk => by rw [hrd, getLsbD_eventWord _ _ hk], by rw [hrd, seq_eventWord]⟩

/-- Settles O25: a clear through the port is `Dev.sqcClear`, read bit by bit; events of one cycle are noted by one word; the reset
values are those of the map's rows. -/
theorem sequenceClearedRegisters : Obligations.SequenceClearedRegisters :=
  ⟨sqcClearNeedsTheSequence, eventsOfOneCycleCountOnce⟩

end Sys2Proof.Machine
end

section
/-! The state after reset, immediate mode and the time tick. -/

namespace Sys2Proof.Machine

theorem State.otpProg_reset : State.reset.dev.rst.otpProg = none := rfl

theorem State.otpFresh_reset : otpFresh State.reset := fun _ _ h => nomatch State.otpProg_reset.symm.trans h

/-- Settles O3: after reset no command waits, no fuse is being programmed, and both maps list nothing. -/
theorem resetStateIsClean : Obligations.ResetStateIsClean :=
  ⟨rfl, State.otpFresh_reset, rfl, rfl⟩

/-! ## Immediate mode (R65) -/

/-- With no page pending, a write of SYS_IMMED captures nothing. -/
theorem Dev.immedWrite_of_no_pend {d : Dev} (w : Word) (h : ∀ p ∈ allPages d.part, (d.rd (cgrp p)).getLsbD 31 = false) :
    d.immedWrite w = d.wr Reg.SYS_IMMED (w &&& 0x1FFFF) := by
  have hp : (allPages d.part).filter (fun p => bit ((d.wr Reg.SYS_IMMED (w &&& 0x1FFFF)).rd (cgrp p)) 31) = [] :=
    List.filter_eq_nil_iff.mpr fun p hp => by
      rw [Dev.rd_wr_other _ _ (by simp only [cgrp, Reg.SYS_IMMED]; omega), bit, h p hp]
      simp
  unfold Dev.immedWrite
  dsimp only
  rw [Dev.part_wr, hp]
  rfl

theorem immediateModeIsWritten : Claim.ImmediateModeIsWritten :=
  fun _ w h => goes_of_next rfl (Dev.immedWrite_of_no_pend w h)

/-! ## The time tick (R19, R130, R456) -/

theorem goes_timeTick {s : State} {t : Dev} (h : s.dev.timeTick = t) : Goes .timeTick s t := goes_of_next rfl h

/-- The root's clocks after a tick, before DEVTIME and what acts at the tick. -/
def Dev.rootTick (d : Dev) : Dev := { d with now := d.now + 10, scount := (d.scount + 32) % 2 ^ 64 }

theorem Dev.timeTick_idle {d : Dev} (h : d.ticking = false) : d.timeTick = d := if_pos (by simp [h])

theorem Dev.timeTick_ticks {d : Dev} (h : d.ticking = true) : d.timeTick =
    (((d.rootTick.devSet.sscTick.pageApply 0x10000 .intact).clkOuts).ppsOutTick d.devtime).snapTime.armedTick.drainAll :=
  if_neg (by simp [h])

/-- A page of which nothing waits does not apply. -/
theorem Dev.pageApply_of_no_capture {d : Dev} (p : Nat) (dmg : Damage) (h : d.captures = []) : d.pageApply p dmg = d := by
  unfold Dev.pageApply; rw [h]; rfl

/-- What the clock outputs and PPS_OUT change at a tick: the records of the clocks and of PTP, the balls and what leaves the device. -/
def SameButOutputs (d t : Dev) : Prop := t = { d with clk := t.clk, ptp := t.ptp, balls := t.balls, out := t.out }

namespace SameButOutputs
variable {d t u : Dev}

theorem trans (h : SameButOutputs d t) (k : SameButOutputs t u) : SameButOutputs d u := by
  unfold SameButOutputs at *; rw [k, h]

theorem drive (h : SameButOutputs d t) (b : Ball) (v : Bool) : SameButOutputs d (t.drive b v) := by
  refine h.trans ?_
  unfold SameButOutputs Dev.drive
  split <;> rfl

theorem updClk (d : Dev) (f : Clk → Clk) : SameButOutputs d (d.updClk f) := rfl

theorem updPtp (d : Dev) (f : Ptp → Ptp) : SameButOutputs d (d.updPtp f) := rfl

theorem clkOuts (d : Dev) : SameButOutputs d d.clkOuts := ((updClk d _).drive _ _).drive _ _

theorem ppsOutTick (d : Dev) (before : Nat) : SameButOutputs d (d.ppsOutTick before) := by
  unfold Dev.ppsOutTick
  split_ifs
  · rfl
  · exact (updPtp d _).drive _ _
  · exact (updPtp d _).drive _ _
  · exact (updPtp d _).drive _ _
  · rfl

end SameButOutputs

@[simp] theorem Dev.clk_drive (d : Dev) (b : Ball) (v : Bool) : (d.drive b v).clk = d.clk := by
  unfold Dev.drive
  split <;> rfl

theorem Dev.tset_clkOuts (d : Dev) : d.clkOuts.clk.tset = d.clk.tset := by
  unfold Dev.clkOuts
  rw [Dev.clk_drive, Dev.clk_drive]
  rfl

theorem Dev.clk_ppsOutTick (d : Dev) (before : Nat) : (d.ppsOutTick before).clk = d.clk := by
  unfold Dev.ppsOutTick
  split_ifs
  all_goals simp [Dev.updPtp]

/-- At a tick with nothing captured, armed or recording and no hearth listed, only the clocks' outputs act. -/
theorem Dev.timeTick_quiet {d : Dev} (ht : d.ticking = true) (e : Dev) (he : d.rootTick.devSet = e) (hc : e.captures = [])
    (hs : e.cap.snap = none) (ha : e.armed = none) (hh : e.hearths = []) :
    SameButOutputs e d.timeTick ∧ d.timeTick.clk.tset = e.clk.tset := by
  have htset : (e.sscTick.clkOuts.ppsOutTick d.devtime).clk.tset = e.clk.tset := by
    rw [Dev.clk_ppsOutTick, Dev.tset_clkOuts]; rfl
  have hsame : SameButOutputs e (e.sscTick.clkOuts.ppsOutTick d.devtime) :=
    ((SameButOutputs.updClk e _).trans (.clkOuts _)).trans (.ppsOutTick _ _)
  rw [Dev.timeTick_ticks ht, he, Dev.pageApply_of_no_capture (d := e.sscTick) _ _ hc]
  generalize e.sscTick.clkOuts.ppsOutTick d.devtime = t at hsame htset
  have hsnap : t.snapTime = t := by unfold Dev.snapTime; rw [show t.cap.snap = none by rw [hsame]; exact hs]
  have harm : t.armedTick = t := by unfold Dev.armedTick; rw [show t.armed = none by rw [hsame]; exact ha]
  have hdr : t.drainAll = t := by unfold Dev.drainAll; rw [show t.hearths = [] by rw [hsame]; exact hh]; rfl
  rw [hsnap, harm, hdr]
  exact ⟨hsame, htset⟩

/-- Without trim, slew or a time to be set, DEVTIME advances by 10 ns. -/
theorem Dev.devSet_plain {d : Dev} (ht : d.clk.tset = none) (hf : d.clk.frac < 2 ^ 32) (hu : d.rd Reg.CLK_TRIMUSE = 0)
    (hs : d.is Reg.CLK_TSTAT_SLEWING = false) : d.devSet = { d with devtime := (d.devtime + 10) % 2 ^ 64 } := by
  have hn : ((d.devtime * 2 ^ 32 + d.clk.frac : Nat) + (42949672960 : Int) + toSigned 32 (0 : Word).toNat + 0).toNat =
      (d.devtime + 10) * 2 ^ 32 + d.clk.frac := by simp [toSigned]; omega
  have hdiv : ((d.devtime + 10) * 2 ^ 32 + d.clk.frac) / 2 ^ 32 = d.devtime + 10 := by omega
  have hmod : ((d.devtime + 10) * 2 ^ 32 + d.clk.frac) % 2 ^ 32 = d.clk.frac := by omega
  have hset : d.devSet = d.devTick := by unfold Dev.devSet; rw [ht]
  rw [hset]
  unfold Dev.devTick
  simp only [hs, hu, Bool.false_eq_true, if_false, Bool.not_false, if_true, hn, hdiv, hmod, sub_zero]

theorem Dev.devSet_set {d : Dev} {t : Nat} (ht : d.clk.tset = some t) :
    d.devSet = ({ d with devtime := t, clk := { d.clk with tset := none, frac := 0 } } : Dev).raise Reg.CLK_EVT 9 := by
  unfold Dev.devSet; rw [ht]; rfl

theorem timeTickAdvancesTheTime : Claim.TimeTickAdvancesTheTime := by
  intro s d e
  refine ⟨fun h => goes_timeTick (Dev.timeTick_idle h), fun h => goes_timeTick (Dev.timeTick_ticks h),
    fun h hc hsn ha hh => ⟨fun ht hf hu hs => ?_, fun x ht => ?_⟩⟩
  · have he := Dev.devSet_plain (d := d.rootTick) ht hf hu hs
    obtain ⟨hsame, -⟩ := Dev.timeTick_quiet h _ he hc hsn ha hh
    refine completes_of_goes (goes_timeTick rfl) ?_
    rw [hsame]
    exact ⟨rfl, rfl, rfl, fun _ _ => rfl, rfl⟩
  · have he := Dev.devSet_set (d := d.rootTick) ht
    obtain ⟨hsame, htset⟩ := Dev.timeTick_quiet h _ he ((Dev.captures_raise _ _ _).trans hc) (by rw [Dev.cap_raise]; exact hsn)
      ((Dev.armed_raise _ _ _).trans ha) ((Dev.hearths_raise _ _ _).trans hh)
    refine completes_of_goes (goes_timeTick rfl) ⟨?_, ?_, ?_, ?_, fun a h => ?_⟩
    · rw [hsame]; exact Dev.now_raise _ _ _
    · rw [hsame]; exact Dev.scount_raise _ _ _
    · rw [hsame]; exact Dev.devtime_raise _ _ _
    · rw [htset, Dev.clk_raise]
    · rw [hsame]; exact Dev.rd_raise_other _ _ (by simpa using h)

/-- Settles O31. That DEVTIME and the sample index advance at the tick is R456; the events of R69 reach their vector by the lemmas of
raising. -/
theorem eventsTimeAndImmediateMode : Obligations.EventsTimeAndImmediateMode :=
  ⟨eventSetsItsBitAndSequence, immediateModeIsWritten, timeTickAdvancesTheTime⟩

end Sys2Proof.Machine
end

section
/-! Register access by the stokers: sysrd and syswr. -/

namespace Sys2Proof.Machine

/-! ## The issue of an instruction and the registers of its thread -/

@[simp] theorem Dev.hearth_issued (d : Dev) (h : Nat) : (d.issued h).hearth h = { d.hearth h with lastRetire := d.now } :=
  d.hearth_setHearth_same h _

theorem Dev.thr_hearth_issued (d : Dev) (h : Nat) : ((d.issued h).hearth h).thr = (d.hearth h).thr := by
  rw [Dev.hearth_issued, Hearth.thr_lastRetire]

@[simp] theorem Hearth.setThr_setThr (x : Hearth) (t u : Thread) : (x.setThr t).setThr u = x.setThr u := by
  cases hu : x.urgOn <;> simp [Hearth.setThr, hu]

/-- A thread's change at the issue is the retirement with it. -/
theorem Dev.thr_issued (d : Dev) (h : Nat) (f : Thread → Thread) : (d.issued h).thr h f = d.retire h (f (d.hearth h).thr).next := by
  rw [Dev.thr_eq, Dev.hearth_issued]
  exact d.setHearth_setHearth h _ _

/-- A thread's change beside a change of the latches. -/
theorem Dev.thr_issued_latches (d : Dev) (h : Nat) (m : SMap (Option Word)) (f : Thread → Thread) :
    ({ d.issued h with latches := m } : Dev).thr h f = { d.retire h (f (d.hearth h).thr).next with latches := m } :=
  congrArg (fun e : Dev => { e with latches := m }) (d.thr_issued h f)

/-- A change of the hearth's record at the issue is a change of the record with the retirement noted. -/
theorem Dev.setHearth_issued (d : Dev) (h : Nat) (y : Hearth) : (d.issued h).setHearth h y = d.setHearth h y :=
  d.setHearth_setHearth h _ y

/-! ## Words of bits (SR_TKT, SR_FLAGS) -/

theorem bitsOf_succ (n : Nat) (q : Nat → Bool) : bitsOf (n + 1) q = 2 ^ n * b2n (q n) + bitsOf n q := by
  simp [bitsOf, List.range_succ, Nat.mul_comm, Nat.add_comm]

theorem bitsOf_lt (n : Nat) (q : Nat → Bool) : bitsOf n q < 2 ^ n := by
  induction n with
  | zero => simp [bitsOf]
  | succ n ih =>
    rw [bitsOf_succ, pow_succ]
    cases q n <;> simp [b2n] <;> omega

theorem testBit_bitsOf (n : Nat) (q : Nat → Bool) (k : Nat) (hk : k < n) : (bitsOf n q).testBit k = q k := by
  induction n with
  | zero => omega
  | succ n ih =>
    rw [bitsOf_succ, Nat.testBit_two_pow_mul_add _ (bitsOf_lt n q)]
    by_cases h : k < n
    · rw [if_pos h, ih h]
    · obtain rfl : k = n := by omega
      cases q k <;> simp [b2n]

/-- A field of a word by its number. -/
theorem getBits_ofNat (n hi lo : Nat) : getBits (BitVec.ofNat 32 n) hi lo = n % 2 ^ 32 / 2 ^ lo % 2 ^ (hi + 1 - lo) := by
  simp [getBits, Nat.shiftRight_eq_div_pow]

/-- A bit of a small number kept above `m` others. -/
theorem testBit_mul_add {m k : Nat} (a r : Nat) (hr : r < 2 ^ m) : (2 ^ m * a + r).testBit (m + k) = a.testBit k := by
  rw [Nat.testBit_two_pow_mul_add _ hr, if_neg (by omega), Nat.add_sub_cancel_left]

theorem testBit_mul_add_low {m k : Nat} (a r : Nat) (hr : r < 2 ^ m) (hk : k < m) : (2 ^ m * a + r).testBit k = r.testBit k := by
  rw [Nat.testBit_two_pow_mul_add _ hr, if_pos hk]

/-- A word of five fields of 8, 8, 4, 4 and 4 bits, [11:8] free, field by field. -/
theorem fields_of_word (a : Nat) {b t c e : Nat} (hb : b < 2 ^ 8) (ht : t < 16) (hc : c < 2 ^ 4) (he : e < 2 ^ 4) :
    let f : Word := BitVec.ofNat 32 (a * 2 ^ 24 + b * 65536 + t * 4096 + c * 16 + e)
    getBits f 15 12 = t ∧ getBits f 11 8 = 0 ∧ (∀ k < 8, f.getLsbD (24 + k) = a.testBit k ∧ f.getLsbD (16 + k) = b.testBit k) ∧
      (∀ k < 4, f.getLsbD (4 + k) = c.testBit k ∧ f.getLsbD k = e.testBit k) := by
  intro f
  refine ⟨?_, ?_, fun k hk => ⟨?_, ?_⟩, fun k hk => ⟨?_, ?_⟩⟩
  · rw [getBits_ofNat]; omega
  · rw [getBits_ofNat]; omega
  · rw [BitVec.getLsbD_ofNat, decide_eq_true (by omega : 24 + k < 32), Bool.true_and,
      show a * 2 ^ 24 + b * 65536 + t * 4096 + c * 16 + e = 2 ^ 24 * a + (b * 65536 + t * 4096 + c * 16 + e) by omega,
      testBit_mul_add _ _ (by omega)]
  · rw [BitVec.getLsbD_ofNat, decide_eq_true (by omega : 16 + k < 32), Bool.true_and,
      show a * 2 ^ 24 + b * 65536 + t * 4096 + c * 16 + e = 2 ^ 16 * (2 ^ 8 * a + b) + (t * 4096 + c * 16 + e) by omega,
      testBit_mul_add _ _ (by omega), testBit_mul_add_low _ _ hb hk]
  · rw [BitVec.getLsbD_ofNat, decide_eq_true (by omega : 4 + k < 32), Bool.true_and,
      show a * 2 ^ 24 + b * 65536 + t * 4096 + c * 16 + e = 2 ^ 4 * (2 ^ 4 * (a * 2 ^ 16 + b * 2 ^ 8 + t * 2 ^ 4) + c) + e by omega,
      testBit_mul_add _ _ he, testBit_mul_add_low _ _ hc hk]
  · rw [BitVec.getLsbD_ofNat, decide_eq_true (by omega : k < 32), Bool.true_and,
      show a * 2 ^ 24 + b * 65536 + t * 4096 + c * 16 + e = 2 ^ 4 * (a * 2 ^ 20 + b * 2 ^ 12 + t * 2 ^ 8 + c) + e by omega,
      testBit_mul_add_low _ _ he hk]

/-- SR_TKT field by field (R231). -/
theorem Hearth.tkt_fields (x : Hearth) :
    getBits x.tkt 15 12 = x.tiOut % 16 ∧ getBits x.tkt 11 8 = 0 ∧
    (∀ t < 8, x.tkt.getLsbD (24 + t) = (x.ash t).any (·.done.isSome) ∧ x.tkt.getLsbD (16 + t) = (x.ash t).isSome) ∧
    (∀ t < 4, x.tkt.getLsbD (4 + t) = (x.oven t).any (·.done.isSome) ∧ x.tkt.getLsbD t = (x.oven t).isSome) := by
  obtain ⟨hti, hzero, hash, hoven⟩ := fields_of_word
    (bitsOf 8 (fun t => match x.ash t with | some k => k.done.isSome | none => false)) (bitsOf_lt 8 (fun t => (x.ash t).isSome))
    (Nat.mod_lt x.tiOut (by omega))
    (bitsOf_lt 4 (fun t => match x.oven t with | some k => k.done.isSome | none => false)) (bitsOf_lt 4 (fun t => (x.oven t).isSome))
  refine ⟨hti, hzero, fun t ht => ⟨(hash t ht).1.trans ?_, (hash t ht).2.trans (testBit_bitsOf _ _ _ ht)⟩,
    fun t ht => ⟨(hoven t ht).1.trans ?_, (hoven t ht).2.trans (testBit_bitsOf _ _ _ ht)⟩⟩
  · rw [testBit_bitsOf _ _ _ ht]
    cases x.ash t <;> rfl
  · rw [testBit_bitsOf _ _ _ ht]
    cases x.oven t <;> rfl

/-- SR_FLAGS holds S, N, Z, C and V in [4:0]. -/
theorem Thread.flagWord_bits (t : Thread) :
    t.flagWord.toNat < 32 ∧ t.flagWord.getLsbD 4 = t.s ∧ t.flagWord.getLsbD 3 = t.n ∧ t.flagWord.getLsbD 2 = t.z ∧
      t.flagWord.getLsbD 1 = t.c ∧ t.flagWord.getLsbD 0 = t.v := by
  have h : ∀ s n z c v : Bool, let f : Word := BitVec.ofNat 32 (16 * s.toNat + 8 * n.toNat + 4 * z.toNat + 2 * c.toNat + v.toNat)
      f.toNat < 32 ∧ f.getLsbD 4 = s ∧ f.getLsbD 3 = n ∧ f.getLsbD 2 = z ∧ f.getLsbD 1 = c ∧ f.getLsbD 0 = v := by decide
  exact h t.s t.n t.z t.c t.v

/-! ## sysrd (R230, R231) -/

/-! ### The registers of the stoker -/

section
variable (d : Dev) (h : Nat)

theorem Dev.srRead_sampleLo : d.srRead h 0xFF2000 =
    (lo32 (d.hearth h).smp, d.latch (.stoker h) 0xFF2004 (hi32 (d.hearth h).smp)) := rfl
theorem Dev.srRead_sampleHi : d.srRead h 0xFF2004 = d.takeLatch (.stoker h) 0xFF2004 (hi32 (d.hearth h).smp) := rfl
theorem Dev.srRead_cycle : d.srRead h 0xFF2008 = (BitVec.ofNat 32 ((d.now - (d.hearth h).startAt) * 2 / 5), d) := rfl
theorem Dev.srRead_ctx : d.srRead h 0xFF200C =
    (BitVec.ofNat 32 ((d.laneOf h).getD 0 * 65536 + h * 256 + d.role h * 2 + b2n (d.hearth h).urgOn), d) := rfl
theorem Dev.srRead_start : d.srRead h 0xFF2010 = (BitVec.ofNat 32 (d.hearth h).start, d) := rfl
theorem Dev.srRead_ckSampLo : d.srRead h 0xFF2014 = (lo32 (d.hearth h).ckSamp, d) := rfl
theorem Dev.srRead_ckSampHi : d.srRead h 0xFF2018 = (hi32 (d.hearth h).ckSamp, d) := rfl
theorem Dev.srRead_rsyncLo : d.srRead h 0xFF201C = (lo32 (d.hearth h).rsync, d) := rfl
theorem Dev.srRead_rsyncHi : d.srRead h 0xFF2020 = (hi32 (d.hearth h).rsync, d) := rfl
theorem Dev.srRead_umbox : d.srRead h 0xFF2028 =
    (BitVec.ofNat 32 (b2n (d.hearth h).uovf * 256 + (d.hearth h).umbox.length), d) := rfl
theorem Dev.srRead_tkt : d.srRead h 0xFF202C = ((d.hearth h).tkt, d) := rfl
theorem Dev.srRead_flq : d.srRead h 0xFF2030 = (BitVec.ofNat 32 (64 - (d.hearth h).flq.length), d) := rfl
theorem Dev.srRead_flags : d.srRead h 0xFF2034 = ((d.hearth h).thr.flagWord, d) := rfl
theorem Dev.srRead_flbad : d.srRead h 0xFF2038 = (BitVec.ofNat 32 (d.hearth h).flbad, d) := rfl

/-- A HI read takes the latched word, which is then used up, or the live one. -/
theorem Dev.takeLatch_eq (who : Initiator) (hi : Nat) (live : Word) : d.takeLatch who hi live =
    ((SMap.get none d.latches (latchKey who hi)).getD live, { d with latches :=
      if (SMap.get none d.latches (latchKey who hi)).isSome then SMap.put none d.latches (latchKey who hi) none else d.latches }) := by
  unfold Dev.takeLatch
  cases SMap.get none d.latches (latchKey who hi) <;> rfl

end

/-! ### What an address does -/

theorem isSr_of_srListed {n : Nat} (hl : srListed n = true) : n % 4 = 0 ∧ isSr n = true := by
  simp only [srListed, Bool.and_eq_true, decide_eq_true_eq] at hl
  exact ⟨hl.1.2, hl.1.1⟩

theorem pageOf_laneCtl (n : Nat) : pageOf (Reg.LANE_CTL n) = 0x100000 + n * 0x1000 := by
  simp only [pageOf, Reg.LANE_CTL]; omega

section
variable {d : Dev} {h : Nat} {rd : BitVec 4} {a : Word} {dmg : Damage}

theorem Dev.sysrdAt_sr {n : Nat} (ha : a.toNat = n) (hl : srListed n = true) (hne : n ≠ 0xFF2024) :
    d.sysrdAt h rd a dmg = (d.srRead h n).2.thr h (fun t => t.setReg rd (d.srRead h n).1) := by
  obtain ⟨h4, hs⟩ := isSr_of_srListed hl
  simp [Dev.sysrdAt, ha, h4, hs, hl, hne]

theorem Dev.sysrdAt_apply (ha : a.toNat = 0xFF2024) : d.sysrdAt h rd a dmg = d.applyRead h rd dmg := by
  simp [Dev.sysrdAt, ha, show isSr 0xFF2024 = true by decide, show srListed 0xFF2024 = true by decide]

variable {x : Hearth} (hx : d.hearth h = x)
include hx

section
variable (h4 : a.toNat % 4 = 0) (hs : isSr a.toNat = false) (hm : mayRead ((d.laneOf h).getD 0) a.toNat = true)
include h4 hs hm

theorem Dev.sysrdAt_waits (hu : x.urgOn = false) :
    d.sysrdAt h rd a dmg = d.setHearth h { x with wait := some (.sysrd rd.toNat a.toNat) } := by
  subst hx
  simp [Dev.sysrdAt, h4, hs, hm, hu, Dev.waitFor, Dev.updHearth]

theorem Dev.sysrdAt_traps (hu : x.urgOn = true) : d.sysrdAt h rd a dmg = d.exception h 1 4 none := by
  subst hx
  simp [Dev.sysrdAt, h4, hs, hm, hu]

end

/-! ### The apply point (R168, R230) -/

variable {n : Nat}

theorem Dev.applyPoint_history_early {e : List Captured × Nat} (he : (d.lane n).prev[x.applied]? = some e) (hl : x.smp < e.2) :
    d.applyPoint h n dmg = (false, d) := by
  subst hx
  simp only [Dev.applyPoint, he]
  exact if_neg (by omega)

theorem Dev.applyPoint_history {e : List Captured × Nat} (he : (d.lane n).prev[x.applied]? = some e) (hl : e.2 ≤ x.smp) :
    d.applyPoint h n dmg = (true, d.updHearth h (fun y => { y with applied := y.applied + 1 })) := by
  subst hx
  simp only [Dev.applyPoint, he]
  exact if_pos hl

theorem Dev.applyPoint_nothing (he : (d.lane n).prev[x.applied]? = none) (hc : d.captures = []) :
    d.applyPoint h n dmg = (false, d) := by
  subst hx
  simp [Dev.applyPoint, he, hc]

theorem Dev.applyPoint_page (he : (d.lane n).prev[x.applied]? = none) (hb : d.bound n = some h)
    (hq : d.acquiring n h = false) (hc : ∃ c ∈ d.captures, c.page = 0x100000 + n * 0x1000) :
    d.applyPoint h n dmg = (true, d.pageApply (0x100000 + n * 0x1000) dmg) := by
  subst hx
  have hany : d.captures.any (fun c => c.page == 0x100000 + n * 0x1000) = true := by simpa using hc
  simp only [Dev.applyPoint, he, pageOf_laneCtl]
  exact if_pos ⟨hb, by simp [hq], hany⟩

omit hx

section
variable {t : Dev} (hn : (d.laneOf h).getD 0 = n)
include hn

theorem Dev.applyRead_zero (hp : d.applyPoint h n dmg = (false, t)) :
    d.applyRead h rd dmg = t.thr h (fun u => u.setReg rd 0) := by
  simp [Dev.applyRead, hn, hp, b2n]

/-- The read retires with 1 unless the apply of a page that waits starts or stops the program. -/
theorem Dev.applyRead_one (hp : d.applyPoint h n dmg = (true, t)) (hk : d.applyRestarts n = false ∨ d.captures = []) :
    d.applyRead h rd dmg = t.thr h (fun u => u.setReg rd 1) := by
  rcases hk with hk | hk <;> simp [Dev.applyRead, hn, hp, b2n, hk]

end

end

/-! ### The commands -/

section
variable {s : State} {i : Issue} {rd ra : BitVec 4} {off : BitVec 16} {dmg : Damage} {t : Dev}

/-- A register set by a command that does nothing else is a retirement. -/
theorem retires_setReg {c : Instr} {h : Nat} {v : Word} (hg : Goes c s ((s.dev.issued h).thr h (fun t => t.setReg rd v))) :
    Retires c s h (fun t u => u = (t.setReg rd v).next) :=
  ⟨_, hg.trans (by rw [Dev.thr_issued]), rfl⟩

/-- SR_SAMPLE_LO retires with the low word of the last sample and latches the high one (R221). -/
theorem Dev.sysrdAt_sampleLo {a : Word} (ha : a.toNat = 0xFF2000) : (s.dev.issued i.hearth).sysrdAt i.hearth rd a dmg =
    { s.dev.retire i.hearth (((s.dev.hearth i.hearth).thr.setReg rd (lo32 (s.dev.hearth i.hearth).smp)).next) with
      latches := SMap.put none s.dev.latches (latchKey (.stoker i.hearth) 0xFF2004) (some (hi32 (s.dev.hearth i.hearth).smp)) } := by
  rw [Dev.sysrdAt_sr ha (by decide) (by decide), Dev.srRead_sampleLo, Dev.hearth_issued]
  exact s.dev.thr_issued_latches i.hearth _ _

/-- SR_SAMPLE_HI retires with the latched word, which is then used up, or the live one (R221). -/
theorem Dev.sysrdAt_sampleHi {a : Word} (ha : a.toNat = 0xFF2004) :
    let y := s.dev.hearth i.hearth
    let l := SMap.get none s.dev.latches (latchKey (.stoker i.hearth) 0xFF2004)
    (s.dev.issued i.hearth).sysrdAt i.hearth rd a dmg =
    { s.dev.retire i.hearth ((y.thr.setReg rd (l.getD (hi32 y.smp))).next) with
      latches := if l.isSome then SMap.put none s.dev.latches (latchKey (.stoker i.hearth) 0xFF2004) none else s.dev.latches } := by
  intro y l
  rw [Dev.sysrdAt_sr ha (by decide) (by decide), Dev.srRead_sampleHi, Dev.takeLatch_eq, Dev.hearth_issued]
  exact s.dev.thr_issued_latches i.hearth _ _

variable (hr : Ready s.dev i (.sysrd rd ra off) = true)
include hr

theorem Dev.sysrd_issued : s.dev.issue i (.sysrd rd ra off)
      (fun d => d.sysrdAt i.hearth rd ((d.hearth i.hearth).thr.addr ra off) dmg) =
    (s.dev.issued i.hearth).sysrdAt i.hearth rd ((s.dev.hearth i.hearth).thr.addr ra off) dmg :=
  (Dev.issue_ready _ hr rfl).trans (congrArg (fun t : Thread =>
    (s.dev.issued i.hearth).sysrdAt i.hearth rd (t.addr ra off) dmg) (s.dev.thr_hearth_issued i.hearth))

/-- sysrd issues: what it does is what its address says. -/
theorem goes_sysrd (h : (s.dev.issued i.hearth).sysrdAt i.hearth rd ((s.dev.hearth i.hearth).thr.addr ra off) dmg = t) :
    Goes (.sysrd i rd ra off dmg) s t :=
  goes_of_next rfl ((Dev.sysrd_issued hr).trans h)

theorem goes_srSampleLoRead (ha : ((s.dev.hearth i.hearth).thr.addr ra off).toNat = 0xFF2000)
    (h : (s.dev.issued i.hearth).sysrdAt i.hearth rd ((s.dev.hearth i.hearth).thr.addr ra off) .intact = t) :
    Goes (.srSampleLoRead i rd ra off) s t :=
  goes_of_next rfl ((if_neg (not_not.mpr ha)).trans ((Dev.sysrd_issued hr).trans h))

/-- The read of SR_APPLY, by either of its commands. -/
theorem goes_srApply (ha : ((s.dev.hearth i.hearth).thr.addr ra off).toNat = 0xFF2024)
    (h : (s.dev.issued i.hearth).applyRead i.hearth rd dmg = t) :
    Goes (.sysrd i rd ra off dmg) s t ∧ Goes (.srApplyRead i rd ra off dmg) s t :=
  have ht := (Dev.sysrdAt_apply ha).trans h
  ⟨goes_sysrd hr ht, goes_of_next rfl ((if_neg (not_not.mpr ha)).trans ((Dev.sysrd_issued hr).trans ht))⟩

/-- A read of a register of the stoker without a side effect retires with its value. -/
theorem retires_sysrd {n : Nat} {v : Word} (ha : ((s.dev.hearth i.hearth).thr.addr ra off).toNat = n) (hl : srListed n = true)
    (hne : n ≠ 0xFF2024) (hv : (s.dev.issued i.hearth).srRead i.hearth n = (v, s.dev.issued i.hearth)) :
    Retires (.sysrd i rd ra off dmg) s i.hearth (fun t u => u = (t.setReg rd v).next) :=
  retires_setReg (goes_sysrd hr ((Dev.sysrdAt_sr ha hl hne).trans (by rw [hv])))

end

theorem sysrdReadsItsRegister : Claim.SysrdReadsItsRegister := by
  intro s i rd ra off dmg h d x n a reads lo hi key sample page hr
  have hx : d.hearth h = x := s.dev.hearth_issued h
  have hn : (d.laneOf h).getD 0 = n := rfl
  have sr : ∀ {k : Nat} {v : Word}, srListed k = true → k ≠ 0xFF2024 → d.srRead h k = (v, d) → a = k →
      reads (.sysrd i rd ra off dmg) v := fun hl hne hv ha => retires_sysrd hr ha hl hne hv
  refine ⟨fun ha => ?_, fun ha => ?_, sr (by decide) (by decide) ?_, sr (by decide) (by decide) ?_,
    sr (by decide) (by decide) ?_, sr (by decide) (by decide) ?_, sr (by decide) (by decide) ?_, sr (by decide) (by decide) ?_,
    fun ha => ⟨x.tkt, sr (by decide) (by decide) ?_ ha, x.tkt_fields⟩,
    sr (by decide) (by decide) ?_, sr (by decide) (by decide) ?_, sr (by decide) (by decide) ?_,
    fun ha => ⟨x.thr.flagWord, sr (by decide) (by decide) ?_ ha, x.thr.flagWord_bits⟩, sr (by decide) (by decide) ?_,
    fun ha hc he => ?_, fun e ha he hl => ?_, fun e ha hc he hl => ?_, fun ha hb hq he hc hk => ?_,
    fun h4 hs hm hu => ?_, fun h4 hs hm hu => ?_⟩
  · have ht := fun dmg => Dev.sysrdAt_sampleLo (s := s) (i := i) (rd := rd) (dmg := dmg) ha
    exact ⟨goes_sysrd hr (ht dmg), goes_srSampleLoRead hr ha (ht .intact)⟩
  · exact goes_sysrd hr (Dev.sysrdAt_sampleHi ha)
  · rw [Dev.srRead_cycle, hx]
    rfl
  · rw [Dev.srRead_ctx, hx]
    rfl
  · rw [Dev.srRead_ckSampLo, hx]
    rfl
  · rw [Dev.srRead_ckSampHi, hx]
    rfl
  · rw [Dev.srRead_rsyncLo, hx]
    rfl
  · rw [Dev.srRead_rsyncHi, hx]
    rfl
  · rw [Dev.srRead_tkt, hx]
  · rw [Dev.srRead_flq, hx]
  · rw [Dev.srRead_start, hx]
  · rw [Dev.srRead_umbox, hx]
    cases x.uovf <;> rfl
  · rw [Dev.srRead_flags, hx]
  · rw [Dev.srRead_flbad, hx]
  · have ht := goes_srApply (dmg := dmg) hr ha (Dev.applyRead_zero hn (Dev.applyPoint_nothing hx he hc))
    exact ⟨retires_setReg ht.1, retires_setReg ht.2⟩
  · have ht := goes_srApply (dmg := dmg) hr ha (Dev.applyRead_zero hn (Dev.applyPoint_history_early hx he hl))
    exact ⟨retires_setReg ht.1, retires_setReg ht.2⟩
  · exact goes_srApply hr ha (Dev.applyRead_one hn (Dev.applyPoint_history hx he hl) (.inr hc))
  · exact goes_srApply hr ha (Dev.applyRead_one hn (Dev.applyPoint_page hx he hb hq hc) (.inl hk))
  · refine goes_sysrd hr ((Dev.sysrdAt_waits hx h4 hs hm hu).trans ?_)
    exact s.dev.setHearth_issued h _
  · exact goes_sysrd hr (Dev.sysrdAt_traps hx h4 hs hm hu)

/-! ## syswr (R231) -/

section
variable {d : Dev} {h : Nat} {a w : Word} {x : Hearth} (hx : d.hearth h = x)
include hx

section
variable (h4 : a.toNat % 4 = 0) (hs : isSr a.toNat = false) (hm : mayWrite ((d.laneOf h).getD 0) a.toNat = true)
include h4 hs hm

theorem Dev.syswrAt_posts (hp : x.posted.length < 4) : d.syswrAt h a w =
    d.setHearth h (({ x with posted := x.posted ++ [(selfAddr ((d.laneOf h).getD 0) a.toNat, w)] } : Hearth).setThr x.thr.next) := by
  subst hx
  simp only [Dev.syswrAt, h4, hs, hm, hp, Dev.thr_eq, Dev.hearth_setHearth_same, Dev.setHearth_setHearth]
  rfl

theorem Dev.syswrAt_waits (hp : 4 ≤ x.posted.length) (hu : x.urgOn = false) : d.syswrAt h a w =
    d.setHearth h { x with wait := some (.syswr (selfAddr ((d.laneOf h).getD 0) a.toNat) w) } := by
  subst hx
  simp [Dev.syswrAt, h4, hs, hm, Nat.not_lt.mpr hp, hu, Dev.waitFor, Dev.updHearth]

end

theorem Dev.syswrAt_flags (ha : a.toNat = 0xFF2034) :
    d.syswrAt h a w = d.setHearth h (x.setThr (x.thr.setFlags w).next) := by
  subst hx
  simp [Dev.syswrAt, ha, show isSr 0xFF2034 = true by decide, show srListed 0xFF2034 = true by decide,
    show srWritable 0xFF2034 = true by decide, Dev.srWrite, Dev.thr_eq, Dev.updHearth]

theorem Dev.syswrAt_umbox (ha : a.toNat = 0xFF2028) :
    d.syswrAt h a w = d.setHearth h (({ x with uovf := if w.getLsbD 8 then false else x.uovf } : Hearth).setThr x.thr.next) := by
  subst hx
  have hovf : ((d.hearth h).uovf && !bit w 8) = if w.getLsbD 8 then false else (d.hearth h).uovf := by
    unfold bit
    cases w.getLsbD 8 <;> simp
  have hs : d.syswrAt h a w = (d.srWrite h 0xFF2028 w).thr h id := by
    simp [Dev.syswrAt, ha, show isSr 0xFF2028 = true by decide, show srListed 0xFF2028 = true by decide,
      show srWritable 0xFF2028 = true by decide]
  rw [hs, Dev.srWrite, if_pos rfl, Dev.thr_eq, Dev.hearth_updHearth_same, Dev.updHearth, Dev.setHearth_setHearth, hovf]
  rfl

end

section
variable {s : State} {i : Issue} {rs ra : BitVec 4} {off : BitVec 16} {t : Dev} (hr : Ready s.dev i (.syswr rs ra off) = true)
include hr

/-- syswr issues with no earlier post draining: what it does is what its address says. -/
theorem goes_syswr (h : (s.dev.issued i.hearth).syswrAt i.hearth ((s.dev.hearth i.hearth).thr.addr ra off)
    ((s.dev.hearth i.hearth).thr.reg rs) = t) : Goes (.syswr i rs ra off 0) s t := by
  have hd : (s.dev.issued i.hearth).drainSome i.hearth 0 = s.dev.issued i.hearth := by
    rw [Dev.drainSome, List.take_zero, List.foldl_nil, Dev.updHearth, Dev.hearth_issued]
    exact s.dev.setHearth_issued i.hearth _
  refine goes_of_next rfl ((Dev.issue_ready _ hr rfl).trans ?_)
  refine Eq.trans ?_ h
  dsimp only
  rw [show s.dev.setHearth i.hearth { s.dev.hearth i.hearth with lastRetire := s.dev.now } = s.dev.issued i.hearth from rfl, hd,
    Dev.thr_hearth_issued]

end

theorem syswrPostsItsWord : Claim.SyswrPostsItsWord := by
  intro s i rs ra off h x n a w hr
  have hx : (s.dev.issued h).hearth h = x := s.dev.hearth_issued h
  have set : ∀ y : Hearth, (s.dev.issued h).setHearth h y = s.dev.setHearth h y := s.dev.setHearth_issued h
  refine ⟨fun h4 hs hm hp => ?_, fun h4 hs hm hp hu => ?_, fun ha => ?_, fun ha => ?_⟩
  · exact goes_syswr hr ((Dev.syswrAt_posts hx h4 hs hm hp).trans (set _))
  · exact goes_syswr hr ((Dev.syswrAt_waits hx h4 hs hm hp hu).trans (set _))
  · exact ⟨_, goes_syswr hr ((Dev.syswrAt_flags hx ha).trans (set _)), rfl⟩
  · exact goes_syswr hr ((Dev.syswrAt_umbox hx ha).trans (set _))

/-- Settles O18: sysrd and syswr by what their address says, one lemma for each. That SR_APPLY makes the next apply of the lane's
history only at its sample (logs 47 and 90) and the clock that SR_CYCLE counts (log 55) are the model's choices. -/
theorem registerAccessByLanes : Obligations.RegisterAccessByLanes := ⟨sysrdReadsItsRegister, syswrPostsItsWord⟩

end Sys2Proof.Machine
end

section
/-! The host's ports: reads of the time, the quad-SPI port's transactions, the PCIe port's events and MSI-X. -/

namespace Sys2Proof.Machine

/-! ## Reads that latch (R83, R130) -/

section
variable {d : Dev} {who : Initiator} {a : Nat}

theorem Dev.answerRead_reached (hb : inBar who a = true) (hr : d.reaches who = true) (hn : a < 0x3FF0000) :
    d.answerRead who a = (d.mapRead who a .clean).2.emit (.reply who a (d.mapRead who a .clean).1 false) := by
  unfold Dev.answerRead
  rw [if_neg (by omega), hb, hr]
  rfl

/-- A register without privileged fields is read as it stands. -/
theorem Dev.regRead_unprivileged (hp : d.part.has a = true) (hl : (lookupReg a).any (fun r => r.prv == 0) = true) :
    d.regRead who a = d.regReadRaw who a := by
  cases hr : lookupReg a with
  | none => simp [hr] at hl
  | some r =>
    have hv : r.prv = 0 := by simpa [hr] using hl
    simp [Dev.regRead, hp, hr, hv]

theorem Dev.mapRead_register {e : Ecc} (h4 : a % 4 = 0) (ha : a < 0x800000) : d.mapRead who a e = d.regRead who a := by
  unfold Dev.mapRead
  simp only [show a / 4 * 4 = a by omega]
  rw [if_neg (by omega), if_pos (by omega)]

/-- A read of a LO register answers it and latches the register above it. -/
theorem Dev.regReadRaw_latches (hc : d.closedAt a = false) (hl : latchesHi a = true) :
    d.regReadRaw who a = (d.shown a, d.latch who (a + 4) (d.shown (a + 4))) := by
  simp [Dev.regReadRaw, hc, hl]

/-- A register without buffered fields, in a block that is not held, shows its word. -/
theorem Dev.shown_eq_view (hh : d.heldAt a = false) (hm : rwbMask a = 0) : d.shown a = d.view a := by
  simp [Dev.shown, Dev.hostView, hh, hm]

/-- What the answer to a read of a LO register is, and what it latches. -/
theorem Dev.answerRead_latches (hr : d.reaches who = true) (hb : inBar who a = true) (h4 : a % 4 = 0) (ha : a < 0x800000)
    (hp : d.part.has a = true) (hl : (lookupReg a).any (fun r => r.prv == 0) = true) (hc : d.closedAt a = false)
    (hx : latchesHi a = true) : d.answerRead who a = (d.latch who (a + 4) (d.shown (a + 4))).emit (.reply who a (d.shown a) false) := by
  rw [Dev.answerRead_reached hb hr (by omega), Dev.mapRead_register h4 ha, Dev.regRead_unprivileged hp hl, Dev.regReadRaw_latches hc hx]

end

theorem Part.has_of_lt (p : Part) {a : Nat} (h : a < 0x51000) : p.has a = true := if_pos h

theorem inBar_of_lt (who : Initiator) {a : Nat} (h : a < 0x1000000) : inBar who a = true := by simp [inBar, h]

section
variable {d : Dev} {who : Initiator}

theorem Dev.shown_sysTime : d.shown Reg.SYS_TIME_LO = lo32 d.devtime ∧ d.shown (Reg.SYS_TIME_LO + 4) = hi32 d.devtime := by
  have h : ∀ a, gateBlock a = none → d.heldAt a = false := fun a h => by simp [Dev.heldAt, h]
  rw [Dev.shown_eq_view (h _ (by decide)) (by decide), Dev.shown_eq_view (h _ (by decide)) (by decide)]
  exact ⟨rfl, rfl⟩

theorem Dev.shown_grtScount (h : d.held 3 = false) :
    d.shown Reg.GRT_SCOUNT_LO = lo32 d.scount ∧ d.shown (Reg.GRT_SCOUNT_LO + 4) = hi32 d.scount := by
  have hb : d.heldBlk 3 = false := by
    simp only [Dev.held, Bool.or_eq_false_iff] at h
    exact h.1
  have hh : ∀ a, gateBlock a = some 3 → d.heldAt a = false := fun a h => by simp [Dev.heldAt, h, hb]
  rw [Dev.shown_eq_view (hh _ (by decide)) (by decide), Dev.shown_eq_view (hh _ (by decide)) (by decide)]
  exact ⟨rfl, rfl⟩

theorem Dev.answerRead_sysTimeLo (hr : d.reaches who = true) : d.answerRead who Reg.SYS_TIME_LO =
    (d.latch who (Reg.SYS_TIME_LO + 4) (hi32 d.devtime)).emit (.reply who Reg.SYS_TIME_LO (lo32 d.devtime) false) := by
  rw [Dev.answerRead_latches hr (inBar_of_lt _ (by decide)) (by decide) (by decide) (d.part.has_of_lt (by decide)) (by decide) rfl
    (by decide), Dev.shown_sysTime.1, Dev.shown_sysTime.2]

theorem Dev.answerRead_grtScountLo (hr : d.reaches who = true) (hh : d.held 3 = false) (hi : d.rst.isolating = []) :
    d.answerRead who Reg.GRT_SCOUNT_LO =
      (d.latch who (Reg.GRT_SCOUNT_LO + 4) (hi32 d.scount)).emit (.reply who Reg.GRT_SCOUNT_LO (lo32 d.scount) false) := by
  have hc : d.closedAt Reg.GRT_SCOUNT_LO = false := by
    simp [Dev.closedAt, show gateBlock Reg.GRT_SCOUNT_LO = some 3 by decide, hi]
  rw [Dev.answerRead_latches hr (inBar_of_lt _ (by decide)) (by decide) (by decide) (d.part.has_of_lt (by decide)) (by decide) hc
    (by decide), (Dev.shown_grtScount hh).1, (Dev.shown_grtScount hh).2]

theorem Dev.answerRead_msixTable {a : Nat} (hu : d.pcieUp = true) (h1 : 0x3FF0000 ≤ a) (h2 : a < 0x3FF0200) :
    d.answerRead .bar0 a = d.emit (.reply .bar0 a
      (SMap.get (if (a - 0x3FF0000) / 4 % 4 = 3 then 1 else 0) d.pcie.table ((a - 0x3FF0000) / 4)) false) := by
  simp [Dev.answerRead, Dev.msixRead, hu, h1, h2]

end

theorem timeReadsLatchTheHighHalf : Claim.TimeReadsLatchTheHighHalf := by
  intro s who a d reads k
  refine ⟨fun hu h1 h2 => goes_of_next rfl (Dev.answerRead_msixTable hu h1 h2),
    fun hr => ⟨goes_of_next rfl (Dev.answerRead_sysTimeLo hr), fun hh hi => goes_of_next rfl (Dev.answerRead_grtScountLo hr hh hi)⟩⟩

/-! ## The quad-SPI port (R45 to R53) -/

@[simp] theorem spiCommand_opByte (p : Bool) (c : SpiName) : spiCommand (opByte p c) = some c := by
  cases p <;> cases c <;> rfl

@[simp] theorem spiPriv_opByte (p : Bool) (c : SpiName) : spiPriv (opByte p c) = p := by
  cases p <;> cases c <;> rfl

/-- An opcode that selects no command (R46). -/
theorem spiCommand_ofNat_none {op : Nat} (h : op % 128 ∉ [1, 2, 3, 4, 5, 8, 9]) : spiCommand (BitVec.ofNat 8 op) = none := by
  have hb : (BitVec.ofNat 8 op).toNat % 128 = op % 128 := by rw [BitVec.toNat_ofNat]; omega
  simp only [List.mem_cons, List.not_mem_nil, or_false, not_or] at h
  unfold spiCommand
  rw [hb]
  split <;> simp_all

@[simp] theorem Dev.spiCut_whole (d : Dev) : d.spiCut .whole = d := rfl

theorem Dev.spiFlow_empty {d : Dev} (x : WriteCtx) (k fuel : Nat) (h : d.spi.buffer = []) : Dev.spiFlow x fuel k d = d := by
  cases fuel with
  | zero => rfl
  | succ fuel => unfold Dev.spiFlow; rw [h]

/-- What a command of the port does with its transaction (R46). -/
def Dev.spiRun (d : Dev) (op : Byte) (t : SpiTx) : SpiName → Dev
  | .wr | .wr1 => d.spiWrite op t
  | .rd | .rd1 => d.spiRead op t
  | .stat => d.spiStatus op t
  | .rstc => d.spiReset op t
  | .wake => d.spiWake

section
variable {d : Dev} {t : SpiTx} (hs : d.spiServed = true) (he : t.e = .whole)
include hs he

/-- A whole transaction of a served port with the opcode of a command does what the command says. -/
theorem Dev.spiSelect_opByte (p : Bool) (c : SpiName) : d.spiSelect (opByte p c) t = d.spiRun (opByte p c) t c := by
  unfold Dev.spiSelect
  rw [if_neg (by simp [hs, he]), spiCommand_opByte]
  cases c <;> rfl

/-- An unknown opcode is counted, with the outcome BADOP (R46). -/
theorem Dev.spiSelect_badop {op : Byte} (ho : spiCommand op = none) :
    d.spiSelect op t = (d.incSat Reg.SYS_SPISTAT_ABORTS 1).spiEnd 2 := by
  unfold Dev.spiSelect
  rw [if_neg (by simp [hs, he]), ho]

end

section
variable {d : Dev} {p : Bool} {addr v : BitVec 32} {c16 : BitVec 16} {k wait : Nat} {waits : List Nat} {ecc : Ecc} {x : WriteCtx}

/-! ### Reads and writes -/

/-- While register space is closed a transaction only counts itself (R47, R51). -/
theorem Dev.spiWrite_closed {op : Byte} {t : SpiTx} (ho : d.open_ = false) (he : t.e = .whole) : d.spiWrite op t = d.spiEnd 5 := by
  unfold Dev.spiWrite
  rw [if_pos (by simp [ho]), he, Dev.spiCut_whole]

theorem Dev.spiRead_closed {op : Byte} {t : SpiTx} (ho : d.open_ = false) (he : t.e = .whole) : d.spiRead op t = d.spiEnd 5 := by
  unfold Dev.spiRead
  rw [if_pos (by simp [ho]), he, Dev.spiCut_whole]

/-- One word enters the empty buffer, which then drains (R48). -/
theorem Dev.spiWrite_word {op : Byte} (hp : spiPriv op = p) (ho : d.open_ = true) (hb : d.spi.buffer = []) (hc : d.is Reg.SYS_SPICFG_CRC = false)
    (ha : addr.toNat % 4 = 0) :
    d.spiWrite op { addr := addr.toNat, ws := [⟨v, c16, k⟩], e := .whole, x := x } =
      (Dev.spiFlow x 64 0 { d with spi := { d.spi with buffer := [(addr.toNat, v, p)] } }).spiEnd 0 := by
  have hw : Dev.spiWords x p false [⟨v, c16, k⟩] addr.toNat (spiHead op addr.toNat) d =
      (0, { d with spi := { d.spi with buffer := [(addr.toNat, v, p)] } }) := by
    simp [Dev.spiWords, Dev.spiFlow_empty x k 64 hb, hb]
  simp [Dev.spiWrite, hp, ho, ha, hc, hw]

/-- A misaligned write is discarded, logged and raised (R49). -/
theorem Dev.spiWrite_misaligned {op : Byte} {ws : List SpiWord} (ho : d.open_ = true) (ha : addr.toNat % 4 ≠ 0) :
    d.spiWrite op { addr := addr.toNat, ws := ws, e := .whole, x := x } =
      ((d.sootE 1 0x23 0xC002 (2 ^ 31 + addr.toNat % 2 ^ 26)).raise Reg.SYS_EVT 4).spiEnd 3 := by
  simp [Dev.spiWrite, ho, ha, Dev.alignDiscard, sourceOf, accessDetail, b2n]

/-- A read answers its words. -/
theorem Dev.spiRead_words {op : Byte} (hp : spiPriv op = p) (ho : d.open_ = true) (hb : d.spi.buffer = [])
    (hc : d.is Reg.SYS_SPICFG_CRC = false) :
    let r := Dev.spiReads p false ecc waits.length addr.toNat (d.spiWaits waits) (spiHead op addr.toNat) d
    d.spiRead op { addr := addr.toNat, n := waits.length, waits := waits, e := .whole, ecc := ecc, x := x } =
      (r.2.emit (.spi r.1)).spiEnd 0 := by
  simp [Dev.spiRead, hp, ho, Dev.spiFlow_empty x 0 64 hb, hc]

/-- One word of a read: its wait phase, its token and its bytes, high nibble first (R45, R47). -/
theorem Dev.spiReads_one {head : List Byte} (ha : addr.toNat % 4 = 0) :
    (Dev.spiReads p false ecc 1 addr.toNat (d.spiWaits [wait]) head d).1 =
      spiToken (d.get Reg.SYS_SPICFG_DUMMY + wait) ++ nibbles (wordBytes (d.mapRead (.spi p) addr.toNat ecc).1) := by
  simp [Dev.spiReads, ha, Dev.spiWaits]

/-! ### The status word (R51) -/

/-- The low byte of the status word. -/
def statByte (full alert irq1 irq0 minimal banked kindling opened : Bool) : Nat :=
  b2n full * 128 + b2n alert * 64 + b2n irq1 * 32 + b2n irq0 * 16 + b2n minimal * 8 + b2n banked * 4 + b2n kindling * 2 + b2n opened

theorem statByte_lt : ∀ f a i j m b k o : Bool, statByte f a i j m b k o < 2 ^ 8 := by decide

theorem testBit_statByte : ∀ f a i j m b k o : Bool, let n := statByte f a i j m b k o
    n.testBit 0 = o ∧ n.testBit 1 = k ∧ n.testBit 2 = b ∧ n.testBit 4 = j ∧ n.testBit 5 = i ∧ n.testBit 6 = a := by decide

theorem Dev.spiStat_bits (d : Dev) :
    d.spiStat.getLsbD 0 = d.open_ ∧ d.spiStat.getLsbD 1 = (d.get Reg.RST_STAT_STATE == 1) ∧ d.spiStat.getLsbD 2 = d.rst.banked ∧
      d.spiStat.getLsbD 4 = d.irq0 ∧ d.spiStat.getLsbD 5 = d.irq1 ∧ d.spiStat.getLsbD 6 = !d.ball .alertN ∧
      getBits d.spiStat 15 8 = d.spi.lastErr % 256 := by
  have hw : d.spiStat = BitVec.ofNat 32 (2 ^ 8 * (d.spi.txCount * 2 ^ 8 + d.spi.lastErr) +
      statByte (decide (64 ≤ d.spi.buffer.length)) (!d.ball .alertN) d.irq1 d.irq0 (d.is Reg.RST_STAT_MINIMAL) d.rst.banked
        (d.get Reg.RST_STAT_STATE == 1) d.open_) := by
    unfold Dev.spiStat statByte
    refine congrArg (BitVec.ofNat 32) ?_
    omega
  obtain ⟨h0, h1, h2, h4, h5, h6⟩ := testBit_statByte (decide (64 ≤ d.spi.buffer.length)) (!d.ball .alertN) d.irq1 d.irq0
    (d.is Reg.RST_STAT_MINIMAL) d.rst.banked (d.get Reg.RST_STAT_STATE == 1) d.open_
  have hlt := statByte_lt (decide (64 ≤ d.spi.buffer.length)) (!d.ball .alertN) d.irq1 d.irq0 (d.is Reg.RST_STAT_MINIMAL) d.rst.banked
    (d.get Reg.RST_STAT_STATE == 1) d.open_
  generalize statByte (decide (64 ≤ d.spi.buffer.length)) (!d.ball .alertN) d.irq1 d.irq0 (d.is Reg.RST_STAT_MINIMAL) d.rst.banked
    (d.get Reg.RST_STAT_STATE == 1) d.open_ = n at hw hlt h0 h1 h2 h4 h5 h6
  have hbit : ∀ k < 8, d.spiStat.getLsbD k = n.testBit k := fun k hk => by
    rw [hw, BitVec.getLsbD_ofNat, decide_eq_true (by omega : k < 32), Bool.true_and, testBit_mul_add_low _ _ hlt hk]
  refine ⟨(hbit 0 (by omega)).trans h0, (hbit 1 (by omega)).trans h1, (hbit 2 (by omega)).trans h2, (hbit 4 (by omega)).trans h4,
    (hbit 5 (by omega)).trans h5, (hbit 6 (by omega)).trans h6, ?_⟩
  rw [hw, getBits_ofNat]
  omega

/-- STAT answers the status word and counts nothing (R51). -/
theorem Dev.spiStatus_whole {op : Byte} (hc : d.is Reg.SYS_SPICFG_CRC = false) :
    d.spiStatus op { waits := [wait], e := .whole, x := noCtx } =
      d.emit (.spi (spiToken (d.get Reg.SYS_SPICFG_DUMMY + wait) ++ nibbles (wordBytes d.spiStat))) := by
  simp [Dev.spiStatus, hc, Dev.spiWaits]

end

theorem spiTransactionsRun : Claim.SpiTransactionsRun := by
  intro s p addr v c16 k op wait waits ecc x d ends one queued reads shut nibs phase hs hb
  have wr : ∀ {ws t}, (∀ op, spiPriv op = p → d.spiWrite op { addr := addr.toNat, ws := ws, e := .whole, x := x } = t) →
      Goes (.wr p addr ws .whole x) s t ∧ Goes (.wr1 p addr ws .whole x) s t := fun h =>
    ⟨goes_of_next rfl ((Dev.spiSelect_opByte hs rfl p .wr).trans (h _ (spiPriv_opByte p .wr))),
      goes_of_next rfl ((Dev.spiSelect_opByte hs rfl p .wr1).trans (h _ (spiPriv_opByte p .wr1)))⟩
  have rd : ∀ {n : SpiName} {ws : List Nat}, d.open_ = true → d.is Reg.SYS_SPICFG_CRC = false →
      d.spiRead (opByte p n) { addr := addr.toNat, n := ws.length, waits := ws, e := .whole, ecc := ecc, x := x } = _ := fun ho hc =>
    Dev.spiRead_words (spiPriv_opByte p _) ho hb hc
  refine ⟨fun ho hc => ⟨fun ha => wr fun op hp => Dev.spiWrite_word hp ho hb hc ha,
    fun ha => wr fun op _ => Dev.spiWrite_misaligned ho ha, ⟨_, goes_of_next rfl ((Dev.spiSelect_opByte hs rfl p .rd).trans (rd ho hc))⟩,
    ⟨_, goes_of_next rfl ((Dev.spiSelect_opByte hs rfl p .rd1).trans (rd ho hc))⟩, fun ha => ?_⟩, fun ho => ?_,
    fun hc => ⟨d.spiStat, goes_of_next rfl ((Dev.spiSelect_opByte hs rfl p .stat).trans (Dev.spiStatus_whole hc)), d.spiStat_bits⟩,
    fun hop => ?_⟩
  · refine completes_of_goes (goes_of_next rfl ((Dev.spiSelect_opByte hs rfl p .rd).trans (rd (ws := [wait]) ho hc))) ?_
    exact congrArg (fun ns => some (Out.spi ns)) (Dev.spiReads_one ha)
  · exact ⟨(wr fun op _ => Dev.spiWrite_closed ho rfl).1, (wr fun op _ => Dev.spiWrite_closed ho rfl).2,
      goes_of_next rfl ((Dev.spiSelect_opByte hs rfl p .rd).trans (Dev.spiRead_closed ho rfl)),
      goes_of_next rfl ((Dev.spiSelect_opByte hs rfl p .rd1).trans (Dev.spiRead_closed ho rfl))⟩
  · have hn := spiCommand_ofNat_none hop
    exact goes_of_next rfl ((if_neg (by simp [hn])).trans (Dev.spiSelect_badop hs rfl hn))

/-! ### The write buffer, RSTC and WAKE (R48, R52, R53) -/

/-- The oldest word of the buffer is a write of its port. -/
theorem Dev.spiDrain_word {d : Dev} {a : Nat} {w : Word} {p : Bool} {rest : List (Nat × Word × Bool)} (x : WriteCtx)
    (hb : d.spi.buffer = (a, w, p) :: rest) (hr : d.reaches (.spi p) = true) :
    d.spiDrain x = ({ d with spi := { d.spi with buffer := rest } } : Dev).mapWrite (.spi p) a w 15 x := by
  have hr' : ({ d with spi := { d.spi with buffer := rest } } : Dev).reaches (.spi p) = true := hr
  unfold Dev.spiDrain
  rw [hb]
  simp [Dev.portWrite, hr', inBar]

theorem Dev.spiDrain_empty {d : Dev} (x : WriteCtx) (hb : d.spi.buffer = []) : d.spiDrain x = d := by
  unfold Dev.spiDrain
  rw [hb]

section
variable {d : Dev} {op : Byte} {key level : Nat} (hb : d.rst.banked = false)
include hb

theorem Dev.spiReset_accepted (hp : spiPriv op = true) (h1 : 1 ≤ level) (h3 : level ≤ 3) :
    d.spiReset op { key := 0xC1D3, level := level, e := .whole, x := noCtx } = (d.spiEnd 0).resetCmd level true := by
  simp [Dev.spiReset, hb, hp, h1, h3]

theorem Dev.spiReset_ignored (hp : spiPriv op = true) (h : key ≠ 0xC1D3 ∨ level = 0 ∨ 3 < level) :
    d.spiReset op { key := key, level := level, e := .whole, x := noCtx } = d.spiEnd 0 := by
  have hn : ¬(key = 0xC1D3 ∧ 1 ≤ level ∧ level ≤ 3) := by omega
  simp [Dev.spiReset, hb, hp, hn]

theorem Dev.spiReset_unprivileged {t : SpiTx} (hp : spiPriv op = false) :
    d.spiReset op t = (d.privAttempt (.spi false) true Reg.RST_CMD).spiEnd 0 := by
  simp [Dev.spiReset, hb, hp]

end

/-- An event's register after it was raised or not. -/
theorem Dev.rd_raise_same (d : Dev) (a b : Nat) :
    (d.raise a b).rd a = if d.evtFree a b 0 then eventWord (d.rd a) [b] else d.rd a := by
  cases hf : d.evtFree a b 0 with
  | true => exact Dev.rd_raise_free hf
  | false => exact congrArg (fun e : Dev => e.rd a) (Dev.raise_spaced hf)

/-- A soot entry made just before leaves an event of SYS_EVT as it would be. -/
theorem Dev.rd_sysEvt_raise_sootE (d : Dev) (b sev src code det : Nat) :
    ((d.sootE sev src code det).raise Reg.SYS_EVT b).rd Reg.SYS_EVT = (d.raise Reg.SYS_EVT b).rd Reg.SYS_EVT := by
  have hf : (d.sootE sev src code det).evtFree Reg.SYS_EVT b 0 = d.evtFree Reg.SYS_EVT b 0 := by
    unfold Dev.evtFree; rw [Dev.evtLast_sootE, Dev.now_sootE]
  rw [Dev.rd_raise_same, Dev.rd_raise_same, hf,
    Dev.rd_sootE d sev src code det (by decide) (fun n => by simp only [Reg.SYS_EVT, Reg.SOOT_RING]; omega)]

theorem spiDrainResetAndWake : Claim.SpiDrainResetAndWake := by
  intro s x a w p rest key level d e
  have rstc : ∀ {q key level t}, d.spiServed = true →
      d.spiReset (opByte q .rstc) { key := key, level := level, e := .whole, x := noCtx } = t → Goes (.rstc q key level .whole) s t :=
    fun hs h => goes_of_next rfl ((Dev.spiSelect_opByte hs rfl _ .rstc).trans h)
  have wake : ∀ {t}, d.spiServed = true → d.spiWake = t → Goes .wake s t :=
    fun hs h => goes_of_next rfl ((Dev.spiSelect_opByte hs rfl false .wake).trans h)
  refine ⟨fun hb hr => goes_of_next rfl (Dev.spiDrain_word x hb hr), fun hb => goes_of_next rfl (Dev.spiDrain_empty x hb),
    fun hs hk => ⟨fun h1 h3 => rstc hs (Dev.spiReset_accepted hk (spiPriv_opByte _ _) h1 h3),
      fun h => rstc hs (Dev.spiReset_ignored hk (spiPriv_opByte _ _) h),
      completes_of_goes (rstc hs (Dev.spiReset_unprivileged hk (spiPriv_opByte _ _))) ⟨Dev.rd_sysEvt_raise_sootE _ _ _ _ _ _, ?_, ?_, ?_⟩⟩,
    fun hs hw => wake hs (if_pos hw), fun hs hw => wake hs (if_neg (Bool.eq_false_iff.mp hw))⟩
  · simp [Dev.spiEnd, Dev.privAttempt, e, d]
  · simp [Dev.spiEnd, Dev.privAttempt, d]
  · simp [Dev.spiEnd, Dev.privAttempt, d]

/-! ## The PCIe port and MSI-X (R41, R44, R79, R82, R473) -/

section
variable {d : Dev} {k v : Nat} {w : Word}

/-- An engine that does not run is not stopped. -/
theorem Dev.hfStop_idle {evt : Option Nat} (h : d.is Reg.HF_CTL_RUN = false) : d.hfStop evt = d := by
  unfold Dev.hfStop
  rw [if_pos (by simp [h])]

/-- A word of the table that is no Vector Control is stored whole. -/
theorem Dev.msixTable_message (hk : k < 128) (hc : k % 4 ≠ 3) : d.msixTable k w =
    ({ d with pcie := { d.pcie with table := SMap.put 0 d.pcie.table k w } } : Dev).msixFlush := by
  simp [Dev.msixTable, Nat.not_le.mpr hk, hc]

/-- Of Vector Control the Mask bit is stored. -/
theorem Dev.msixTable_control (hk : k < 128) (hc : k % 4 = 3) : d.msixTable k w =
    ({ d with pcie := { d.pcie with table := SMap.put 1 d.pcie.table k (w &&& 1) } } : Dev).msixFlush := by
  simp [Dev.msixTable, Nat.not_le.mpr hk, hc]

theorem Dev.imodExpiry_spaced (h : d.imodHeld v = true) : d.imodExpiry v = d := by
  unfold Dev.imodExpiry
  rw [if_pos (by simp [h])]

/-- The spacing is over: the message is no longer held, and goes if its vector is still pending (R82). -/
theorem Dev.imodExpiry_over (hh : d.pcie.held.contains v = true) (hi : d.imodHeld v = false) :
    let f : Dev := { d with pcie := { d.pcie with held := d.pcie.held.filter (· != v) } }
    d.imodExpiry v = if d.vecPending v then f.notify v else f := by
  unfold Dev.imodExpiry
  rw [if_neg (by simp only [hh, hi]; decide)]
  rfl

end

theorem pciePortAndMsix : Claim.PciePortAndMsix := by
  intro s k v w e m d z pba
  refine ⟨fun hs => ?_, Dev.hfStop_idle, fun hh hs => ?_, fun hh => ?_, fun hu => ?_, fun hu hk hc => ?_, fun hu hk hc => ?_,
    fun hh hi => ⟨fun hp => ?_, fun hp => ?_⟩, fun hi => ?_⟩
  · exact goes_of_next rfl (if_neg (by simp [hs, d]))
  · exact goes_of_next rfl (if_pos (by simp [hh, hs, d]))
  · exact goes_of_next rfl (if_neg (by simp [hh, d]))
  · exact goes_of_next rfl (if_pos hu)
  · exact goes_of_next rfl ((if_pos hu).trans (Dev.msixTable_message hk hc))
  · exact goes_of_next rfl ((if_pos hu).trans (Dev.msixTable_control hk hc))
  · exact goes_of_next rfl ((Dev.imodExpiry_over hh hi).trans (if_pos hp))
  · exact goes_of_next rfl ((Dev.imodExpiry_over hh hi).trans (if_neg (by simp [hp])))
  · exact goes_of_next rfl (Dev.imodExpiry_spaced hi)

/-- Settles O26: each transaction, event and access by the lemma of its branch. When a buffered word drains (log 20), RSTC without P and
what WAKE needs (log 21) and the link after a port reset (log 19) are the model's choices. -/
theorem hostPortsServeTheHost : Obligations.HostPortsServeTheHost :=
  ⟨timeReadsLatchTheHighHalf, spiTransactionsRun, spiDrainResetAndWake, pciePortAndMsix⟩

end Sys2Proof.Machine
end


section
/-! The capture block's events and what can be read after each: the slow loop, the level of a core, blanking, a skipped record and a frame. -/

namespace Sys2Proof.Machine

/-! ## A core's record and a blanking input's (R92, R98) -/

@[simp] theorem Dev.capCore_setCapCore_same (d : Dev) (c : Nat) (x : CapCore) : (d.setCapCore c x).capCore c = x := by
  simp [Dev.capCore, Dev.setCapCore]

@[simp] theorem Dev.capCore_updCore_same (d : Dev) (c : Nat) (f : CapCore → CapCore) : (d.updCore c f).capCore c = f (d.capCore c) :=
  d.capCore_setCapCore_same c _

theorem Dev.capCore_of_cap {d t : Dev} (h : t.cap = d.cap) (c : Nat) : t.capCore c = d.capCore c := by
  simp only [Dev.capCore, h]

@[simp] theorem Dev.blank_setBlank_same (d : Dev) (x : Nat) (b : Blank) : (d.setBlank x b).blank x = b := by
  unfold Dev.blank Dev.setBlank
  split <;> rfl

@[simp] theorem Dev.setBlank_setBlank (d : Dev) (x : Nat) (a b : Blank) : (d.setBlank x a).setBlank x b = d.setBlank x b := by
  unfold Dev.setBlank
  split <;> rfl

theorem Dev.blank_of_cap {d t : Dev} (h : t.cap = d.cap) (x : Nat) : t.blank x = d.blank x := by
  simp only [Dev.blank, h]

@[simp] theorem Dev.rd_setBlank (d : Dev) (x : Nat) (b : Blank) (a : Nat) : (d.setBlank x b).rd a = d.rd a := by
  unfold Dev.setBlank
  split <;> rfl

@[simp] theorem Dev.get_setBlank (d : Dev) (x : Nat) (b : Blank) (f : Fld) : (d.setBlank x b).get f = d.get f := by
  simp [Dev.get]

@[simp] theorem Dev.is_setBlank (d : Dev) (x : Nat) (b : Blank) (f : Fld) : (d.setBlank x b).is f = d.is f := by
  simp [Dev.is]

@[simp] theorem Dev.now_setBlank (d : Dev) (x : Nat) (b : Blank) : (d.setBlank x b).now = d.now := by
  unfold Dev.setBlank
  split <;> rfl

@[simp] theorem Dev.evtFree_setBlank (d : Dev) (x : Nat) (b : Blank) (a e u : Nat) :
    (d.setBlank x b).evtFree a e u = d.evtFree a e u := by
  unfold Dev.setBlank
  split <;> rfl

@[simp] theorem Dev.cap_refreshCore (d : Dev) (c : Nat) : (d.refreshCore c).cap = d.cap := rfl
@[simp] theorem Dev.now_refreshCore (d : Dev) (c : Nat) : (d.refreshCore c).now = d.now := rfl
@[simp] theorem Dev.cap_refreshCores (d : Dev) : d.refreshCores.cap = d.cap := rfl
@[simp] theorem Dev.now_refreshCores (d : Dev) : d.refreshCores.now = d.now := rfl

/-- A command of a block that is not held. -/
theorem goes_onBlock {c : Instr} {s : State} {b : Nat} {f : Dev → Dev} {t : Dev} (hx : exec c s = s.onBlock b f)
    (hh : s.dev.held b = false) (ht : f s.dev = t) : Goes c s t := by
  refine goes_of_next hx ?_
  simpa [hh] using ht

/-! ## The slow loop (R95) -/

section
variable {s : State} {c : Nat}

/-- The slow loop of a core is due, and nothing freezes its bellows (R95, R100). -/
def Dev.decayDue (d : Dev) (c : Nat) : Prop :=
  c < 3 ∧ d.get (Reg.CAP_CC_STAT_STATE c) = 4 ∧ (d.capCore c).mode = 0 ∧ d.coreBlanked c = false ∧ d.rotFrozen c = false ∧
    (d.capCore c).decayAt + d.get (Reg.CAP_CC_AGC_DECAY c) * 1000000 ≤ d.now

theorem goes_agcDecayStep (hh : s.dev.held 2 = false) (hd : s.dev.decayDue c) : Goes (.agcDecayStep c) s (s.dev.decayStep c) := by
  obtain ⟨hc, hst, hm, hb, hr, ht⟩ := hd
  exact goes_onBlock rfl hh (if_pos ⟨hc, .inr hst, hm, by simp [Dev.frozen, hb, hr], ht⟩)

end

/-- A level above the band asks for one step less of gain. -/
theorem Dev.decayStep_above {d : Dev} {c : Nat}
    (hl : -5 * (d.get (Reg.CAP_CC_AGC_TARGET c) : Int) + 5 * (d.get (Reg.CAP_CC_AGC_HYST c) : Int) < d.getI (Reg.CAP_CC_LVL_RMS c))
    (hg : 0 < d.get (Reg.CAP_CC_STAT_GIDX c)) :
    let g := d.get (Reg.CAP_CC_STAT_GIDX c) - 1
    d.decayStep c = d.setCapCore c { d.capCore c with decayAt := d.now, gainNext := some ((splitGain g).1, (splitGain g).2, g) } := by
  have hne : d.get (Reg.CAP_CC_STAT_GIDX c) - 1 ≠ d.get (Reg.CAP_CC_STAT_GIDX c) := by omega
  simp only [Dev.decayStep, if_pos hl, if_neg hne]

/-- A level within the band leaves what the bellows was to do. -/
theorem Dev.decayStep_within {d : Dev} {c : Nat}
    (hlo : -5 * (d.get (Reg.CAP_CC_AGC_TARGET c) : Int) - 5 * (d.get (Reg.CAP_CC_AGC_HYST c) : Int) ≤ d.getI (Reg.CAP_CC_LVL_RMS c))
    (hhi : d.getI (Reg.CAP_CC_LVL_RMS c) ≤ -5 * (d.get (Reg.CAP_CC_AGC_TARGET c) : Int) + 5 * (d.get (Reg.CAP_CC_AGC_HYST c) : Int)) :
    d.decayStep c = d.setCapCore c { d.capCore c with decayAt := d.now } := by
  have hkept : ∀ q : Prop, ¬ (d.getI (Reg.CAP_CC_LVL_RMS c) <
      -5 * (d.get (Reg.CAP_CC_AGC_TARGET c) : Int) - 5 * (d.get (Reg.CAP_CC_AGC_HYST c) : Int) ∧ q) :=
    fun _ h => absurd h.1 (not_lt.mpr hlo)
  simp only [Dev.decayStep, if_neg (not_lt.mpr hhi), if_neg (hkept _), if_pos]

/-! ## The level of a core (R97) -/

/-- Where the background estimator does not track, it leaves the device. -/
theorem Dev.trackStep_off {d : Dev} {c : Nat} (est : List Int) (h : d.is (Reg.CAP_CC_CTL_TRACK c) = false) : d.trackStep c est = d := by
  simp [Dev.trackStep, h]

/-- The device after a level update of a core that does not track. -/
def Dev.levelShown (d : Dev) (c : Nat) (rms peak : BitVec 16) : Dev :=
  let d := d.wr (Reg.CAP_CC_LVL c) (rms ++ peak)
  d.setI (Reg.CAP_CC_PWR_PWR c) (d.ballPower c rms)

theorem goes_coreLevelUpdate {s : State} {c : Nat} {rms peak : BitVec 16} {est : List Int} (hh : s.dev.held 2 = false) (hc : c < 3)
    (hst : s.dev.get (Reg.CAP_CC_STAT_STATE c) = 4) (hs : s.dev.is (Reg.CAP_CC_STAT_STALE c) = false)
    (ht : s.dev.is (Reg.CAP_CC_CTL_TRACK c) = false) :
    Goes (.coreLevelUpdate c ⟨rms, peak⟩ est) s (s.dev.levelShown c rms peak) := by
  refine goes_onBlock rfl hh ((if_pos ⟨hc, by simp [Dev.coreState, hst], by simp [Dev.coreState, hst], by simp [hs]⟩).trans ?_)
  have ht' : (s.dev.wr (Reg.CAP_CC_LVL c) (rms ++ peak)).is (Reg.CAP_CC_CTL_TRACK c) = false := by
    rw [Dev.is, Dev.get_wr_other _ _ (by dsimp only [Reg.CAP_CC_CTL, Reg.CAP_CC_LVL]; omega)]
    exact ht
  rw [Dev.trackStep_off est ht']
  rfl

theorem Dev.rd_levelShown_level (d : Dev) (c : Nat) (rms peak : BitVec 16) :
    (d.levelShown c rms peak).rd (Reg.CAP_CC_LVL c) = rms ++ peak := by
  unfold Dev.levelShown Dev.setI
  rw [Dev.rd_set_other _ _ (by dsimp only [Reg.CAP_CC_PWR, Reg.CAP_CC_LVL]; omega), Dev.rd_wr_same]

theorem getBits_append_high (a b : BitVec 16) : getBits (a ++ b : Word) 31 16 = a.toNat := by
  have h : (a ++ b : BitVec (16 + 16)).extractLsb' 16 16 = a := by
    ext i hi
    rw [BitVec.getElem_extractLsb', BitVec.getLsbD_append]
    simp [hi]
  exact congrArg BitVec.toNat h

theorem getBits_append_low (a b : BitVec 16) : getBits (a ++ b : Word) 15 0 = b.toNat := by
  have h : (a ++ b : BitVec (16 + 16)).extractLsb' 0 16 = b := by
    ext i hi
    rw [BitVec.getElem_extractLsb', BitVec.getLsbD_append]
    simp [hi]
  exact congrArg BitVec.toNat h

theorem Dev.keepsRegs_levelShown (d : Dev) (c : Nat) (rms peak : BitVec 16) :
    KeepsRegs [Reg.CAP_CC_LVL c, Reg.CAP_CC_PWR c] d (d.levelShown c rms peak) := by
  intro a ha
  obtain ⟨hl, hp⟩ : a ≠ Reg.CAP_CC_LVL c ∧ a ≠ Reg.CAP_CC_PWR c := by simpa using ha
  unfold Dev.levelShown Dev.setI
  rw [Dev.rd_set_other _ _ hp, Dev.rd_wr_other _ _ hl]

/-! ## Blanking (R98 to R101) -/

section
variable {s : State} {x : Nat}

/-- A blanking input as an assertion leaves it. -/
def Blank.asserted (b : Blank) (level : Bool) (now : Nat) : Blank := { b with level, active := true, stuckRaised := false, since := now }

/-- A blanking input as its release leaves it: the window stays open to `endAt`. -/
def Blank.released (b : Blank) (level : Bool) (endAt : Nat) : Blank := { b with level, active := false, endAt }

theorem goes_blankAssert (hx : x < 2) (he : s.dev.is (if x = 0 then Reg.CAP_BLKCFG_EN_A else Reg.CAP_BLKCFG_EN_B) = true)
    (ha : (s.dev.blank x).active = false) : Goes (.blankAssert x) s (s.dev.setBlank x ((s.dev.blank x).asserted
      (s.dev.is (if x = 0 then Reg.CAP_BLKCFG_POL_A else Reg.CAP_BLKCFG_POL_B)) s.dev.now)).refreshCores := by
  refine goes_of_next rfl ((if_pos hx).trans ?_)
  simp [Dev.blankEval, he, ha, Blank.asserted]

theorem goes_blankRelease (hx : x < 2) (ha : (s.dev.blank x).active = true) :
    Goes (.blankRelease x) s (s.dev.setBlank x ((s.dev.blank x).released
      (!s.dev.is (if x = 0 then Reg.CAP_BLKCFG_POL_A else Reg.CAP_BLKCFG_POL_B))
      (s.dev.now + 20 * s.dev.get (if x = 0 then Reg.CAP_BLKCFG_POST_A else Reg.CAP_BLKCFG_POST_B)))).refreshCores := by
  refine goes_of_next rfl ((if_pos hx).trans ?_)
  simp [Dev.blankEval, ha, Blank.released]

theorem goes_blkstuck (hh : s.dev.held 2 = false) (hx : x < 2) (ha : (s.dev.blank x).active = true)
    (hr : (s.dev.blank x).stuckRaised = false) (ht : (s.dev.blank x).since + s.dev.get Reg.CAP_BLKCFG_STUCK * 1000000 ≤ s.dev.now) :
    Goes (.blkstuck x) s ((s.dev.setBlank x { s.dev.blank x with stuckRaised := true }).raise Reg.CAP_EVT (7 + x)) :=
  goes_onBlock rfl hh (if_pos ⟨hx, ha, by simp [hr], ht⟩)

end

/-! ## Snapshots (R121, R315) -/

/-- A record of a full-band snapshot that cannot be written in time is skipped and counted. -/
theorem goes_snapRecordDone_skip {s : State} {n : Nat} {y : Snap} {a : SnapAcc} {rest : List SnapAcc} (hh : s.dev.held 2 = false)
    (hs : s.dev.cap.snap = some y) (hr : y.running = true) (hm : y.mode = 0) (hf : y.full = a :: rest) (ha : y.aborting = false) :
    Goes (.snapRecordDone false n true) s
      ((s.dev.raise Reg.ASH_EVT 8).setSnap (some { y with full := rest, skipped := y.skipped + 1 })) := by
  refine goes_of_next rfl ?_
  simp [hh, hs, hr, hm, hf, ha, Dev.snapDone, Dev.snapSkip]

/-! ## A frame (R92, R99, R102) -/

/-- What a frame of a core without a role leaves beside the mark: the marks, the clip count, the snapshot, the lanes and the hearths. -/
structure KeepsFrame (c : Nat) (d t : Dev) : Prop where
  marked : (t.capCore c).marked = (d.capCore c).marked
  snap : t.cap.snap = d.cap.snap
  clip : t.rd (Reg.CAP_CC_CLIP c) = d.rd (Reg.CAP_CC_CLIP c)
  lanes : t.lanes = d.lanes
  hearths : t.hearths = d.hearths

section
variable {c : Nat} {d t u : Dev}

theorem KeepsFrame.refl (c : Nat) (d : Dev) : KeepsFrame c d d := ⟨rfl, rfl, rfl, rfl, rfl⟩

theorem KeepsFrame.trans (h : KeepsFrame c d t) (k : KeepsFrame c t u) : KeepsFrame c d u :=
  ⟨k.marked.trans h.marked, k.snap.trans h.snap, k.clip.trans h.clip, k.lanes.trans h.lanes, k.hearths.trans h.hearths⟩

theorem KeepsFrame.set {f : Fld} (v : Nat) (hf : f.addr = Reg.CAP_CC_STAT c) : KeepsFrame c d (d.set f v) :=
  ⟨rfl, rfl, Dev.rd_set_other d v (by rw [hf]; dsimp only [Reg.CAP_CC_STAT, Reg.CAP_CC_CLIP]; omega), rfl, rfl⟩

theorem KeepsFrame.updCore {f : CapCore → CapCore} (hf : ∀ x, (f x).marked = x.marked) : KeepsFrame c d (d.updCore c f) :=
  ⟨by rw [Dev.capCore_updCore_same, hf], rfl, rfl, rfl, rfl⟩

theorem KeepsFrame.refreshCore : KeepsFrame c d (d.refreshCore c) :=
  (KeepsFrame.set _ rfl).trans (KeepsFrame.set _ rfl)

theorem KeepsFrame.setGain (lna att : Nat) : KeepsFrame c d (d.setGain c lna att) := by
  unfold Dev.setGain
  dsimp only
  refine KeepsFrame.trans ?_ (KeepsFrame.set _ rfl)
  refine KeepsFrame.trans ?_ (KeepsFrame.set _ rfl)
  refine KeepsFrame.trans ?_ (KeepsFrame.set _ rfl)
  exact KeepsFrame.updCore (fun _ => rfl)

/-- Without a snapshot a setting that lands is noted in none. -/
theorem KeepsFrame.landGain (hs : d.cap.snap = none) (lna att : Nat) : KeepsFrame c d (d.landGain c lna att) := by
  have hk : KeepsFrame c d ((d.setGain c lna att).updCore c (fun x => { x with stepped := true, gainNext := none })) :=
    (KeepsFrame.setGain lna att).trans (KeepsFrame.updCore (fun _ => rfl))
  have hn := hk.snap.trans hs
  unfold Dev.landGain
  dsimp only
  rw [hn]
  exact hk

theorem KeepsFrame.wantGain (hs : d.cap.snap = none) (w : Nat × Nat) : KeepsFrame c d (d.wantGain c w) := by
  unfold Dev.wantGain
  split
  · exact .refl c d
  · exact .landGain hs _ _

theorem KeepsFrame.bellows (hs : d.cap.snap = none) : KeepsFrame c d (d.bellows c) := by
  have hm : KeepsFrame c d (d.updCore c (fun x => { x with mode := d.get (Reg.CAP_CC_CTL_MODE c) })) := .updCore (fun _ => rfl)
  unfold Dev.bellows
  split
  · exact .refl c d
  · dsimp only
    split
    · exact hm
    · split
      · exact (hm.trans (.wantGain (hm.snap.trans hs) _)).trans (.updCore (fun _ => rfl))
      · exact hm.trans (.wantGain (hm.snap.trans hs) _)
      · exact hm.trans (.updCore (fun _ => rfl))

end

/-- The frame of a core with no role, no rotation, no replacement and no snapshot, in which a gain change landed: it is marked, kept as
the core's last, and the bellows acts at the boundary. -/
theorem Dev.adcFrame_alone {d : Dev} {c : Nat} (xs : List (BitVec 12)) (ecc : Bool) (hr : d.roleOf c = none) (ht : d.cap.rot = none)
    (hp : d.cap.replacing = none) (hs : d.cap.snap = none) (hk : (d.capCore c).stepped = true) :
    d.adcFrame c xs ecc = ((d.updCore c (fun x => { x with
      marked := true, stepped := false, frame := (d.capCore c).toBank (d.corrected12 c xs) })).refreshCore c).bellows c := by
  have hd : d.replaceDue = d := by simp [Dev.replaceDue, hp]
  unfold Dev.adcFrame
  dsimp only
  simp [hd, hr, hk, Dev.snapFrame, Dev.rotFrame, Dev.updCore, Dev.setCapCore, hs, ht]

theorem goes_adcFrame {s : State} {c : Nat} (xs : List (BitVec 12)) (ecc : Bool) (hc : c < 3)
    (hst : s.dev.get (Reg.CAP_CC_STAT_STATE c) = 1) : Goes (.adcFrame c xs ecc) s (s.dev.adcFrame c xs ecc) :=
  goes_of_next rfl (if_pos ⟨hc, by simp [Dev.coreState, hst], by simp [Dev.coreState, hst]⟩)

/-! ## The claim of the capture block -/

theorem captureShowsItsEffects : Claim.CaptureShowsItsEffects := by
  intro s c x n xs ecc rms peak est y a rest
  refine ⟨fun hh hl ha hg => ?_, fun hh hl hlo hhi => ?_, fun hh hc hst hs ht => ?_, fun hx he ha => ?_, fun hx ha => ?_,
    fun hh hx ha hr ht hf => ?_, fun hh hs hr hm hf ha he => ?_, fun hc hst hr ht hp hs hk => ?_⟩
  · refine completes_of_goes (goes_agcDecayStep hh hl) ?_
    rw [Dev.decayStep_above ha hg, Dev.capCore_setCapCore_same]
    exact ⟨rfl, rfl, rfl⟩
  · refine completes_of_goes (goes_agcDecayStep hh hl) ?_
    rw [Dev.decayStep_within hlo hhi, Dev.capCore_setCapCore_same]
    exact ⟨rfl, rfl, rfl⟩
  · refine completes_of_goes (goes_coreLevelUpdate hh hc hst hs ht)
      ⟨?_, ?_, Dev.keepsRegs_levelShown _ _ _ _, rfl⟩
    · rw [Dev.get, Dev.rd_levelShown_level]
      exact getBits_append_high rms peak
    · rw [Dev.get, Dev.rd_levelShown_level]
      exact getBits_append_low rms peak
  · refine completes_of_goes (goes_blankAssert hx he ha) ?_
    simp [Dev.blankOpen, Dev.blank_of_cap (Dev.cap_refreshCores _), Blank.asserted]
  · refine completes_of_goes (goes_blankRelease hx ha) ?_
    simp [Dev.blankOpen, Dev.blank_of_cap (Dev.cap_refreshCores _), Blank.released]
  · refine completes_of_goes (goes_blkstuck hh hx ha hr ht) ⟨Dev.getLsbD_raise_free ?_ ?_, ?_⟩
    · rwa [Dev.evtFree_setBlank]
    · omega
    · rw [Dev.blank_of_cap (Dev.cap_raise _ _ _), Dev.blank_setBlank_same]
  · exact completes_of_goes (goes_snapRecordDone_skip hh hs hr hm hf ha) ⟨Dev.getLsbD_raise_free he (by decide), rfl⟩
  · refine completes_of_goes (goes_adcFrame xs ecc hc hst) ?_
    rw [Dev.adcFrame_alone xs ecc hr ht hp hs hk]
    obtain ⟨hm, -, hcl, hl, hh⟩ := (KeepsFrame.refreshCore (c := c)).trans (KeepsFrame.bellows (c := c)
      (d := (s.dev.updCore c (fun x => { x with
        marked := true, stepped := false, frame := (s.dev.capCore c).toBank (s.dev.corrected12 c xs) })).refreshCore c) hs)
    exact ⟨by rw [hm, Dev.capCore_updCore_same], hcl, hl, hh⟩

end Sys2Proof.Machine
end


section
/-! Commits, one page and the latched sample: what can be read once each completes. -/

namespace Sys2Proof.Machine

/-! ## The outcome of a commit (R58, R60 to R62) -/

/-- A mask of one bit names one group. -/
theorem setBits_two_pow {g : Nat} (h : g < 16) : setBits 16 (2 ^ g) = [g] := by
  interval_cases g <;> rfl

section
variable {d : Dev} {g tag : Nat}

theorem Dev.busyGroups_idle (hc : d.commits = []) (ha : d.armed = none) : d.busyGroups = [] := by
  simp [Dev.busyGroups, hc, ha]

theorem Dev.busyGroups_armed {a : Armed} (hc : d.commits = []) (ha : d.armed = some a) : d.busyGroups = a.groups := by
  simp [Dev.busyGroups, hc, ha]

/-- A field of SYS_CMTSTAT is no page's group. -/
theorem Dev.pagesIn_set_cmtstat (d : Dev) {f : Fld} (v : Nat) (hf : f.addr = Reg.SYS_CMTSTAT) (gs : List Nat) :
    (d.set f v).pagesIn gs = d.pagesIn gs := by
  have hg : ∀ p, (d.set f v).groupOf p = d.groupOf p := fun p => by
    rw [Dev.groupOf, Dev.rd_set_other d v (by rw [hf]; dsimp only [cgrp, Reg.SYS_CMTSTAT]; omega), Dev.groupOf]
  have hp : ∀ p, (d.set f v).pageGroup p = d.pageGroup p := fun p => by
    simp only [Dev.pageGroup, Dev.armed_set, Dev.commits_set, hg]
  simp only [Dev.pagesIn, Dev.part_set, hp]

/-- A named group that no commit keeps busy is free, and OVL reads 0. -/
theorem Dev.freeGroups_idle (hg : g < 16) (hc : d.commits = []) (ha : d.armed = none) :
    d.freeGroups (2 ^ g) = ([g], d.set Reg.SYS_CMTSTAT_OVL 0) := by
  simp [Dev.freeGroups, setBits_two_pow hg, Dev.busyGroups_idle hc ha]

/-- The commits under way replaced. -/
def Dev.setCommits (d : Dev) (cs : List Commit) : Dev := { d with commits := cs }

@[simp] theorem Dev.captures_setCommits (d : Dev) (cs : List Commit) : (d.setCommits cs).captures = d.captures := rfl
@[simp] theorem Dev.commits_setCommits (d : Dev) (cs : List Commit) : (d.setCommits cs).commits = cs := rfl
@[simp] theorem Dev.armed_setCommits (d : Dev) (cs : List Commit) : (d.setCommits cs).armed = d.armed := rfl
@[simp] theorem Dev.get_setCommits (d : Dev) (cs : List Commit) (f : Fld) : (d.setCommits cs).get f = d.get f := rfl

/-- Without captures no group waits: the one commit under way is done. -/
theorem Dev.commitProgress_done {c : Commit} (hx : d.captures = []) (hc : d.commits = [c]) :
    d.commitProgress = ((d.setCommits []).commitDone { c with groups := [] }).showBusy := by
  have ho : c.groups.filter d.groupOpen = [] := by simp [Dev.groupOpen, hx]
  unfold Dev.commitProgress
  simp [hc, ho, Dev.setCommits]

/-- With no commit under way, progress brings BUSY and TPEND up to date. -/
theorem Dev.commitProgress_idle (hc : d.commits = []) : d.commitProgress = d.showBusy := by
  unfold Dev.commitProgress
  rw [hc]
  simp only [List.map_nil, List.filter_nil, List.foldl_nil]
  rw [← hc]

/-- A broadcast that reaches no page is done at once. -/
theorem Dev.broadcast_no_page (hx : d.captures = []) (hc : d.commits = []) : d.broadcast tag [g] [] =
    ((d.setCommits []).commitDone ⟨tag, [], [], false⟩).showBusy := by
  have h : d.broadcast tag [g] [] = (d.setCommits [⟨tag, [g], [], false⟩]).commitProgress := by
    simp [Dev.broadcast, Dev.captureGroup, Dev.setCommits, hc]
  rw [h, Dev.commitProgress_done (d := d.setCommits [⟨tag, [g], [], false⟩]) (c := ⟨tag, [g], [], false⟩) hx rfl]
  rfl

/-- A commit of a free group without a page: done at once. -/
theorem Dev.commit_no_page (hg : g < 16) (hc : d.commits = []) (hx : d.captures = []) (ha : d.armed = none) (hp : d.pagesIn [g] = []) :
    d.commit tag (2 ^ g) =
      (((d.set Reg.SYS_CMTSTAT_OVL 0).setCommits []).commitDone ⟨tag % 256, [], [], false⟩).showBusy := by
  unfold Dev.commit
  rw [setBits_two_pow hg, if_neg (by simp), Dev.freeGroups_idle hg hc ha]
  dsimp only
  rw [if_neg (by simp), Dev.pagesIn_set_cmtstat d 0 rfl, hp]
  exact Dev.broadcast_no_page hx hc

/-- A timed commit of a free group whose time has not passed is armed. -/
theorem Dev.commitArm_waits (hg : g < 16) (hc : d.commits = []) (ha : d.armed = none)
    (ht : d.devtime ≤ of64 (d.rd Reg.SYS_CMTTIME_LO) (d.rd Reg.SYS_CMTTIME_HI)) :
    d.commitArm tag (2 ^ g) = ({ d.set Reg.SYS_CMTSTAT_OVL 0 with armed := some ⟨tag % 256, [g], d.pagesIn [g],
      of64 (d.rd Reg.SYS_CMTTIME_LO) (d.rd Reg.SYS_CMTTIME_HI)⟩ } : Dev).showBusy := by
  have hr : (d.set Reg.SYS_CMTSTAT_OVL 0).rd64 Reg.SYS_CMTTIME_LO Reg.SYS_CMTTIME_HI =
      of64 (d.rd Reg.SYS_CMTTIME_LO) (d.rd Reg.SYS_CMTTIME_HI) := by
    rw [Dev.rd64, Dev.rd_set_other d 0 (by decide), Dev.rd_set_other d 0 (by decide)]
  unfold Dev.commitArm
  rw [setBits_two_pow hg, if_neg (by simp), if_neg (by simp [ha]), Dev.freeGroups_idle hg hc ha]
  dsimp only
  rw [if_neg (by simp), hr, Dev.devtime_set, if_neg (not_lt.mpr ht), Dev.pagesIn_set_cmtstat d 0 rfl]

/-! ## SYS_CMTSTAT -/

/-- BUSY of SYS_CMTSTAT, as a mask of the busy groups. -/
theorem Dev.get_showBusy_busy (d : Dev) :
    d.showBusy.get Reg.SYS_CMTSTAT_BUSY = (d.busyGroups.foldl (fun m g => m ||| 2 ^ g) 0) % 2 ^ 16 := by
  unfold Dev.showBusy
  dsimp only
  rw [Dev.get_set_apart _ _ (by decide) (by decide) (by decide), Dev.get_set_same _ _ (by decide) (by decide)]
  rfl

theorem Dev.get_showBusy_tpend (d : Dev) : d.showBusy.get Reg.SYS_CMTSTAT_TPEND = b2n d.armed.isSome := by
  unfold Dev.showBusy
  dsimp only
  rw [Dev.get_set_same _ _ (by decide) (by decide)]
  rw [Dev.armed_set]
  cases d.armed <;> rfl

/-- The fields above TPEND and BUSY, and those of the other registers, keep their values. -/
theorem Dev.get_showBusy_apart (d : Dev) {f : Fld} (hb : 15 < f.lo) (ht : f.hi < 18 ∨ 18 < f.lo) : d.showBusy.get f = d.get f := by
  unfold Dev.showBusy
  dsimp only
  rw [Dev.get_set_apart _ _ (by decide) (by decide) ht, Dev.get_set_apart _ _ (by decide) (by decide) (.inr hb)]

theorem Dev.rd_showBusy_other (d : Dev) {a : Nat} (h : a ≠ Reg.SYS_CMTSTAT) : d.showBusy.rd a = d.rd a := by
  unfold Dev.showBusy
  dsimp only
  rw [Dev.rd_set_other _ _ h, Dev.rd_set_other _ _ h]

@[simp] theorem Dev.captures_showBusy (d : Dev) : d.showBusy.captures = d.captures := rfl
@[simp] theorem Dev.commits_showBusy (d : Dev) : d.showBusy.commits = d.commits := rfl
@[simp] theorem Dev.armed_showBusy (d : Dev) : d.showBusy.armed = d.armed := rfl
@[simp] theorem Dev.shadow_showBusy (d : Dev) : d.showBusy.shadow = d.shadow := rfl

@[simp] theorem Dev.captures_commitDone (d : Dev) (c : Commit) : (d.commitDone c).captures = d.captures := by simp [Dev.commitDone]
@[simp] theorem Dev.commits_commitDone (d : Dev) (c : Commit) : (d.commitDone c).commits = d.commits := by simp [Dev.commitDone]
@[simp] theorem Dev.armed_commitDone (d : Dev) (c : Commit) : (d.commitDone c).armed = d.armed := by simp [Dev.commitDone]

theorem Dev.get_commitDone_tag (d : Dev) (c : Commit) : (d.commitDone c).get Reg.SYS_CMTSTAT_TAG = c.tag % 2 ^ 8 := by
  unfold Dev.commitDone
  rw [Dev.get_raise_other _ _ (by decide), Dev.get_set_apart _ _ (by decide) (by decide) (by decide),
    Dev.get_set_same _ _ (by decide) (by decide)]
  rfl

theorem Dev.get_commitDone_err (d : Dev) (c : Commit) : (d.commitDone c).get Reg.SYS_CMTSTAT_ERR = b2n c.err := by
  unfold Dev.commitDone
  rw [Dev.get_raise_other _ _ (by decide), Dev.get_set_same _ _ (by decide) (by decide)]
  cases c.err <;> rfl

theorem Dev.get_commitDone_ovl (d : Dev) (c : Commit) : (d.commitDone c).get Reg.SYS_CMTSTAT_OVL = d.get Reg.SYS_CMTSTAT_OVL := by
  unfold Dev.commitDone
  rw [Dev.get_raise_other _ _ (by decide), Dev.get_set_apart _ _ (by decide) (by decide) (by decide),
    Dev.get_set_apart _ _ (by decide) (by decide) (by decide)]

end

/-! ## The ovens' page (R60) -/

section
variable {s : State} {d : Dev} {g : Option Nat} {w : Word} {at_ : Nat} {dmg : Damage}

/-- The ovens' block does nothing more where its page has applied. -/
theorem Dev.pageHook_ovens (d0 d : Dev) (keys : List Nat) (dmg : Damage) : Dev.pageHook d0 d Reg.OVN_CFG keys dmg = d := by
  simp [Dev.pageHook, tablePage, Reg.OVN_CFG]

/-- The ovens' page with one captured word: the word takes it, PEND and REJ of the page go to 0. -/
theorem Dev.pageApply_ovens (hc : d.commits = []) (hx : d.captures = [⟨Reg.OVN_CFG, g, [(Reg.OVN_CFG, w)], false, at_⟩]) :
    d.pageApply Reg.OVN_CFG dmg = (((({ d with captures := [] } : Dev).applyWord (Reg.OVN_CFG, w)).setPend Reg.OVN_CFG false).setRej
      Reg.OVN_CFG false).showBusy := by
  have hs : d.skips Reg.OVN_CFG = false := by simp [Dev.skips, Reg.HF_CTL, Reg.HF_RING_LO, Reg.HF_RING_HI]
  unfold Dev.pageApply
  dsimp only
  rw [hx, List.filter_singleton, beq_self_eq_true, cond_true, if_neg (by simp), dropCaptures, List.filter_singleton,
    bne_self_eq_false, cond_false, List.flatMap_singleton, List.filter_singleton, hs, Bool.not_false, cond_true, if_neg (by decide),
    Dev.pageHook_ovens, Dev.commitProgress_idle]
  · rfl
  · simpa [Dev.applyWord, Dev.setPend, Dev.setRej] using hc

end

/-! ## The latched sample (R83, R221) -/

/-- The thread after an instruction retires is the one it leaves, whatever is latched. -/
theorem Dev.thr_retire_latches (d : Dev) (h : Nat) (u : Thread) (l : SMap (Option Word)) :
    (({ d.retire h u with latches := l } : Dev).hearth h).thr = u := by
  have hr : ({ d.retire h u with latches := l } : Dev).hearth h = (d.retire h u).hearth h := rfl
  rw [hr, Dev.retire, Dev.hearth_setHearth_same, Hearth.thr_setThr]

@[simp] theorem Thread.reg_next (t : Thread) (r : BitVec 4) : t.next.reg r = t.reg r := rfl

/-! ## The claims -/

theorem commitsShowTheirOutcome : Claim.CommitsShowTheirOutcome := by
  intro s tag g at_ dmg w
  refine ⟨fun ⟨hg, hc, hx, ha⟩ hp => ?_, fun ⟨hg, hc, hx, ha⟩ ht => ?_, fun hc hx => ?_⟩
  · refine completes_of_goes (goes_of_next rfl (Dev.commit_no_page hg hc hx ha hp)) ?_
    refine ⟨?_, ?_, ?_, ?_, by simp, by simpa using hx⟩
    · rw [Dev.get_showBusy_apart _ (by decide) (by decide), Dev.get_commitDone_tag]
      exact Nat.mod_mod _ _
    · rw [Dev.get_showBusy_apart _ (by decide) (by decide), Dev.get_commitDone_err]
      rfl
    · rw [Dev.get_showBusy_apart _ (by decide) (by decide), Dev.get_commitDone_ovl, Dev.get_setCommits,
        Dev.get_set_same _ _ (by decide) (by decide)]
      rfl
    · rw [Dev.get_showBusy_busy, Dev.busyGroups_idle (by simp) (by simpa using ha)]
      rfl
  · refine completes_of_goes (goes_of_next rfl (Dev.commitArm_waits hg hc ha ht)) ?_
    refine ⟨rfl, Dev.get_showBusy_tpend _, ?_, ?_, by simpa using hx, rfl⟩
    · rw [Dev.get_showBusy_busy, Dev.busyGroups_armed (by simpa using hc) rfl]
      simpa using Nat.mod_eq_of_lt (Nat.pow_lt_pow_right one_lt_two hg)
    · rw [Dev.get_showBusy_apart _ (by decide) (by decide)]
      exact (Dev.get_set_same s.dev 0 (by decide) (by decide)).trans rfl
  · refine completes_of_goes (goes_of_next rfl (Dev.pageApply_ovens hc hx)) ?_
    refine ⟨?_, by simp [Dev.applyWord, Dev.setPend, Dev.setRej],
      by simp [Dev.applyWord, Dev.setPend, Dev.setRej], by simp [Dev.applyWord, Dev.setPend, Dev.setRej]⟩
    rw [Dev.rd_showBusy_other _ (by decide), Dev.setRej, Dev.rd_wr_other _ _ (by decide), Dev.setPend, Dev.rd_wr_other _ _ (by decide),
      Dev.applyWord, Dev.rd_wr_same]
    rfl

theorem sampleReadsLatch : Claim.SampleReadsLatch := by
  intro s i rd ra off x k hr ha
  have ht := s.dev.thr_retire_latches i.hearth ((s.dev.hearth i.hearth).thr.setReg rd (lo32 (s.dev.hearth i.hearth).smp)).next
    (SMap.put none s.dev.latches k (some (hi32 (s.dev.hearth i.hearth).smp)))
  refine completes_of_goes (goes_srSampleLoRead hr ha (Dev.sysrdAt_sampleLo ha)) ⟨?_, ?_, fun r h => ?_, ?_, rfl⟩
  · rw [ht]
    simp [lo32, x]
  · simp [hi32, k, x]
  · rw [ht]
    simp [h, x]
  · rw [ht]
    rfl

/-- Settles O58: each command by the one device it goes to once its guard is met, and then by what that device reads. -/
theorem commitsSamplesAndCaptureComplete : Obligations.CommitsSamplesAndCaptureComplete :=
  ⟨commitsShowTheirOutcome, sampleReadsLatch, captureShowsItsEffects⟩

end Sys2Proof.Machine
end


section
/-! The capture block's commands: what CAP_CMDSTAT shows, each command's statuses, and the split of a gain index. -/

namespace Sys2Proof.Machine

/-! ## The gain index (R91) -/

theorem gainIndexSplits : Claim.GainIndexSplits := by
  intro g hg s
  by_cases h3 : 75 ≤ g
  · simp only [s, splitGain, gidxOf, if_pos h3]
    exact ⟨by omega, by omega, by omega, by omega, fun l _ _ => by omega⟩
  by_cases h2 : 63 ≤ g
  · simp only [s, splitGain, gidxOf, if_neg h3, if_pos h2]
    exact ⟨by omega, by omega, by omega, by omega, fun l _ _ => by omega⟩
  by_cases h1 : 51 ≤ g
  · simp only [s, splitGain, gidxOf, if_neg h3, if_neg h2, if_pos h1]
    exact ⟨by omega, by omega, by omega, by omega, fun l _ _ => by omega⟩
  · simp only [s, splitGain, gidxOf, if_neg h3, if_neg h2, if_neg h1]
    exact ⟨by omega, by omega, by omega, by simp, fun l _ _ => by omega⟩

/-! ## The status of a CAP command (R127) -/

section
variable (d : Dev) {op tag : Nat} (f : Dev → Nat × Dev)

theorem Dev.capCmd_lost (hb : (d.rd Reg.CAP_CMDSTAT).getLsbD 0 = true) :
    d.capCmd op tag f = d.wr Reg.CAP_CMDSTAT (putBits (d.rd Reg.CAP_CMDSTAT) 1 1 1) := by
  have hb' : d.cmdBusy Reg.CAP_CMDSTAT = true := hb
  rw [Dev.capCmd, if_pos hb', Dev.cmdLost]

theorem Dev.capCmd_ends (hb : (d.rd Reg.CAP_CMDSTAT).getLsbD 0 = false) : d.capCmd op tag f = capEnds op tag (f d).1 (f d).2 :=
  if_neg (Bool.eq_false_iff.mp (show d.cmdBusy Reg.CAP_CMDSTAT = false from hb))

@[simp] theorem cap_capEnds (op tag st : Nat) (u : Dev) : (capEnds op tag st u).cap = u.cap := by
  rw [capEnds, Dev.cap_raise, Dev.cmdDone, Dev.cmdEnd, Dev.cap_wr, Dev.cmdStart, Dev.cap_wr]

theorem keepsRegs_capEnds (op tag st : Nat) : KeepsRegs [Reg.CAP_CMDSTAT, Reg.CAP_EVT] d (capEnds op tag st d) := by
  intro a ha
  obtain ⟨hs, he⟩ : a ≠ Reg.CAP_CMDSTAT ∧ a ≠ Reg.CAP_EVT := by simpa using ha
  rw [capEnds, Dev.rd_raise_other _ _ he, Dev.cmdDone, Dev.cmdEnd, Dev.rd_wr_other _ _ hs, Dev.cmdStart, Dev.rd_wr_other _ _ hs]

theorem rd_capEnds_cmdstat {st : Nat} (ho : op < 256) (ht : tag < 256) (hs : st < 256) :
    (capEnds op tag st d).rd Reg.CAP_CMDSTAT = BitVec.ofNat 32 (op * 2 ^ 24 + st * 2 ^ 16 + tag * 2 ^ 8) := by
  rw [capEnds, Dev.rd_raise_other _ _ (by decide), Dev.cmdDone_eq_wr _ _ ho ht hs, Dev.rd_wr_same]

section
variable {d} {s : State} {c : Instr} {f : Dev → Nat × Dev} (hh : s.dev.held 2 = false)
include hh

theorem goes_capCmd_lost (hx : exec c s = s.onBlock 2 (fun d => d.capCmd op tag f)) (hb : (s.dev.rd Reg.CAP_CMDSTAT).getLsbD 0 = true) :
    Goes c s (s.dev.wr Reg.CAP_CMDSTAT (putBits (s.dev.rd Reg.CAP_CMDSTAT) 1 1 1)) :=
  goes_onBlock hx hh (Dev.capCmd_lost _ _ hb)

/-- A CAP command that is taken ends at once, with the status and the device it answers. -/
theorem goes_capCmd {st : Nat} {u : Dev} (hx : exec c s = s.onBlock 2 (fun d => d.capCmd op tag f))
    (hb : (s.dev.rd Reg.CAP_CMDSTAT).getLsbD 0 = false) (hf : f s.dev = (st, u)) : Goes c s (capEnds op tag st u) := by
  refine goes_onBlock hx hh ((Dev.capCmd_ends _ _ hb).trans ?_)
  rw [hf]

end

/-- While a rotation goes on none is started for a suspect core (R115). -/
theorem Dev.rotSuspects_of_rot {u : Dev} (h : u.cap.rot.isSome = true) : u.rotSuspects = u := by
  unfold Dev.rotSuspects
  rw [if_pos]
  simp [Dev.rotReady, Option.isNone_eq_false_iff.mpr h]

end

theorem captureCommandStatus : Claim.CaptureCommandStatus := by
  intro s op tag st arg ho ht hs t lost w
  have hw : w = BitVec.ofNat 32 (op * 2 ^ 24 + st * 2 ^ 16 + tag * 2 ^ 8) := rd_capEnds_cmdstat _ ho ht hs
  refine ⟨?_, ?_, ?_, ?_, ?_, keepsRegs_capEnds _ _ _ _, fun hh hb => ?_⟩
  · rw [hw, getBits_ofNat]; omega
  · rw [hw, getBits_ofNat]; omega
  · rw [hw, getBits_ofNat]; omega
  · rw [hw, BitVec.getLsbD_ofNat, Nat.testBit_eq_decide_div_mod_eq]; simp; omega
  · rw [hw, BitVec.getLsbD_ofNat, Nat.testBit_eq_decide_div_mod_eq]; simp; omega
  · refine ⟨goes_capCmd_lost hh rfl hb, goes_capCmd_lost hh rfl hb, goes_capCmd_lost hh rfl hb, goes_capCmd_lost hh rfl hb,
      goes_capCmd_lost hh rfl hb, fun hr => ?_⟩
    refine goes_onBlock (f := fun d => (d.capCmd 6 tag Dev.rotAbort).rotSuspects) rfl hh ?_
    rw [Dev.capCmd_lost _ _ hb]
    exact Dev.rotSuspects_of_rot hr

/-! ## ROTATE and SBSRC (R89, R107, R127) -/

section
variable {d : Dev} {arg : Nat}

theorem Dev.capRotate_badarg (h : 2 < arg) : d.capRotate arg = (3, d) := if_pos h

variable (ha : arg ≤ 2)
include ha

theorem Dev.capRotate_busy (hr : d.cap.rot.isSome = true) : d.capRotate arg = (2, d) := by
  simp [Dev.capRotate, Nat.not_lt.mpr ha, hr]

variable (hr : d.cap.rot = none)
include hr

theorem Dev.capRotate_unavail (hm : d.migr = false) : d.capRotate arg = (4, d) := by
  simp [Dev.capRotate, Nat.not_lt.mpr ha, hr, hm]

variable (hm : d.migr = true)
include hm

theorem Dev.capRotate_nostandby (hs : d.standbyCore = none ∨ d.cap.replacing.isSome = true) : d.capRotate arg = (5, d) := by
  rcases hs with hs | hs <;> simp [Dev.capRotate, Nat.not_lt.mpr ha, hr, hm, hs]

/-- With a standby at hand the role decides: one with no core in service is refused, any other rotates. -/
theorem Dev.capRotate_standby (hs : d.standbyCore.isSome = true) (hp : d.cap.replacing = none) : d.capRotate arg =
    if (if arg = 0 then d.inService 0 = true ∨ d.inService 1 = true else d.inService (arg - 1) = true) then
      (0, d.rotStart (if arg = 0 then d.longestRole else arg - 1)) else (3, d) := by
  have hs' : d.standbyCore ≠ none := Option.isSome_iff_ne_none.mp hs
  by_cases h0 : arg = 0
  · cases h1 : d.inService 0 <;> cases h2 : d.inService 1 <;> simp [Dev.capRotate, hr, hm, hs', hp, h0, h1, h2]
  · cases h1 : d.inService (arg - 1) <;> simp [Dev.capRotate, Nat.not_lt.mpr ha, hr, hm, hs', hp, h0, h1]

end

theorem Dev.inService_iff (d : Dev) (r : Nat) : d.inService r = true ↔ d.get (Reg.CAP_CC_STAT_STATE (d.roleCore r)) = 4 := by
  simp [Dev.inService, Dev.coreState]

section
variable {d : Dev} {arg : Nat}

theorem Dev.capSbsrc_badarg (h : 3 < arg) : d.capSbsrc arg = (3, d) := if_pos h

variable (ha : arg ≤ 3)
include ha

theorem Dev.capSbsrc_nostandby (hs : d.get Reg.CAP_ROLE_CORE_SB = 3) : d.capSbsrc arg = (5, d) :=
  (if_neg (Nat.not_lt.mpr ha)).trans (if_pos hs)

variable (hs : d.get Reg.CAP_ROLE_CORE_SB ≠ 3)
include hs

theorem Dev.capSbsrc_busy (hb : d.cap.rot.isSome = true ∨ d.cap.replacing.isSome = true ∨
    d.get (Reg.CAP_CC_STAT_STATE (d.get Reg.CAP_ROLE_CORE_SB)) ≠ 1) : d.capSbsrc arg = (2, d) :=
  (if_neg (Nat.not_lt.mpr ha)).trans ((if_neg hs).trans (if_pos (by simpa [Dev.coreState, or_assoc] using hb)))

theorem Dev.capSbsrc_accepted (hr : d.cap.rot = none) (hp : d.cap.replacing = none)
    (hst : d.get (Reg.CAP_CC_STAT_STATE (d.get Reg.CAP_ROLE_CORE_SB)) = 1) : d.capSbsrc arg =
    (0, ((d.set Reg.CAP_ROLE_SB_SRC arg).set (Reg.CAP_CC_STAT_SRC (d.get Reg.CAP_ROLE_CORE_SB)) arg).refreshCores) :=
  (if_neg (Nat.not_lt.mpr ha)).trans ((if_neg hs).trans (if_neg (by simp [Dev.coreState, hr, hp, hst])))

end

/-! ## Snapshots (R121) -/

section
variable {d : Dev}

theorem Dev.snapStatus_busy (h : d.cap.snap.isSome = true) : d.snapStatus = 2 := if_pos h

theorem Dev.snapStatus_badarg (h : d.cap.snap = none) (hr : d.is Reg.CAP_SNAPCFG_RING = true) (ht : d.get Reg.CAP_SNAPCFG_TRIG = 0) :
    d.snapStatus = 3 := (if_neg (by simp [h])).trans (if_pos ⟨hr, ht⟩)

theorem Dev.snapArm_refused (h : d.snapStatus ≠ 0) : d.snapArm = (d.snapStatus, d) := if_pos h

/-- The snapshot that SNAP_ARM takes from the page. -/
def Dev.snapArmed (d : Dev) : Snap where
  mode := d.get Reg.CAP_SNAPCFG_MODE
  src := d.get Reg.CAP_SNAPCFG_SRC
  raw := d.is Reg.CAP_SNAPCFG_RAW
  trig := d.get Reg.CAP_SNAPCFG_TRIG
  ring := d.is Reg.CAP_SNAPCFG_RING
  post := d.get Reg.CAP_SNAPCFG_POST
  lanes := if d.get Reg.CAP_SNAPCFG_MODE = 1 then d.snapLanes else []
  base := d.rgnBase 3 + d.get Reg.CAP_SNAPBASE_UNITS * 4096
  n := (d.get Reg.CAP_SNAPLEN_UNITS * 4096 - 4096) / recSize (d.get Reg.CAP_SNAPCFG_MODE)
  z := recSize (d.get Reg.CAP_SNAPCFG_MODE)
  time := d.rd64 Reg.CAP_SNAPTIME_LO Reg.CAP_SNAPTIME_HI
  devid := d.rd Reg.SYS_DEVID
  written := 0
  skipped := 0
  laneSeq := []
  trigRec := none
  acc := {}
  lacc := []
  aborting := false
  running := false

/-- The snapshot as SNAP_ARM leaves it: a ring and an immediate one record at once. -/
def Dev.snapTaken (d : Dev) : Snap :=
  { d.snapArmed with running := decide (d.snapArmed.ring = true ∨ d.snapArmed.trig = 0) }

theorem Dev.snapArm_accepted (h : d.snapStatus = 0) : ∃ e, d.snapArm = (0, e) ∧ e.cap.snap = some d.snapTaken ∧
    e.get Reg.CAP_SNAPSTAT_STATE = (if d.snapTaken.running = true then 2 else 1) ∧ KeepsRegs [Reg.CAP_SNAPSTAT] d e := by
  let e := (d.wr Reg.CAP_SNAPSTAT 0x10000000).setSnap (some d.snapArmed)
  have he : d.snapArm = (0, if d.snapArmed.ring = true ∨ d.snapArmed.trig = 0 then e.snapRun d.snapArmed else e) :=
    if_neg (not_not.mpr h)
  have hrd : ∀ a, e.rd a = (d.wr Reg.CAP_SNAPSTAT 0x10000000).rd a := fun _ => rfl
  have hk : KeepsRegs [Reg.CAP_SNAPSTAT] d e := fun a ha => (hrd a).trans (Dev.rd_wr_other _ _ (by simpa using ha))
  by_cases hr : d.snapArmed.ring = true ∨ d.snapArmed.trig = 0
  · have ht : d.snapTaken = { d.snapArmed with running := true } := by rw [Dev.snapTaken, decide_eq_true hr]
    refine ⟨_, he.trans (by rw [if_pos hr]), by rw [ht]; rfl, ?_, fun a ha => ?_⟩
    · rw [ht]
      exact Dev.get_set_same _ _ (by decide) (by decide)
    · rw [Dev.snapRun, Dev.rd_set_other _ _ (by simpa using ha)]
      exact hk a ha
  · have ht : d.snapTaken = d.snapArmed := by rw [Dev.snapTaken, decide_eq_false hr]; rfl
    refine ⟨e, he.trans (by rw [if_neg hr]), by rw [ht]; rfl, ?_, hk⟩
    rw [ht, Dev.get, hrd, Dev.rd_wr_same]
    rfl

theorem Dev.snapAbort_none (h : d.cap.snap = none) : d.snapAbort = (6, d) := by
  simp [Dev.snapAbort, h]

theorem Dev.snapAbort_running {x : Snap} (h : d.cap.snap = some x) (hr : x.running = true) :
    d.snapAbort = (0, d.setSnap (some { x with aborting := true })) := by
  simp [Dev.snapAbort, h, hr]

theorem Dev.snapAbort_waiting {x : Snap} (h : d.cap.snap = some x) (hr : x.running = false) :
    d.snapAbort = (0, ((d.setSnap none).set Reg.CAP_SNAPSTAT_STATE 4).raise Reg.CAP_EVT 10) := by
  simp [Dev.snapAbort, Dev.snapStop, h, hr]

end

/-! ## ROT_ABORT (R111) -/

theorem goes_rotAbort {s : State} {tag st : Nat} {u t : Dev} (hh : s.dev.held 2 = false)
    (hb : (s.dev.rd Reg.CAP_CMDSTAT).getLsbD 0 = false) (hf : s.dev.rotAbort = (st, u)) (ht : (capEnds 6 tag st u).rotSuspects = t) :
    Goes (.rotAbort tag) s t := by
  refine goes_onBlock (f := fun d => (d.capCmd 6 tag Dev.rotAbort).rotSuspects) rfl hh ?_
  rw [Dev.capCmd_ends _ _ hb, hf]
  exact ht

section
variable {d : Dev}

theorem Dev.rotAbort_none (h : d.cap.rot = none) : d.rotAbort = (6, d) := by
  simp [Dev.rotAbort, h]

theorem Dev.rotAbort_early {r : Rotation} (h : d.cap.rot = some r) (he : r.early = true) : d.rotAbort = (0, d.rotAbandon r 0x17) := by
  simp [Dev.rotAbort, h, he]

theorem Dev.rotAbort_late {r : Rotation} (h : d.cap.rot = some r) (he : r.early = false) : d.rotAbort = (6, d) := by
  simp [Dev.rotAbort, h, he]

end

/-- The first eight phases are before step 9 of a rotation. -/
theorem Rotation.early_iff (r : Rotation) : r.early = true ↔ r.phase ≠ .ready ∧ r.phase ≠ .crossfade ∧ r.phase ≠ .refreshWait ∧
    r.phase ≠ .refreshFirst ∧ r.phase ≠ .refreshSecond ∧ r.phase ≠ .refreshApply := by
  unfold Rotation.early
  cases r.phase <;> simp

theorem captureCommandsAnswer : Claim.CaptureCommandsAnswer := by
  intro s arg tag d sb ring serves may hh hb
  have hmay : may ↔ (if arg = 0 then d.inService 0 = true ∨ d.inService 1 = true else d.inService (arg - 1) = true) := by
    simp only [Dev.inService_iff]
    exact Iff.rfl
  refine ⟨fun ha => goes_capCmd hh rfl hb (Dev.capRotate_badarg ha), fun ha hr => goes_capCmd hh rfl hb (Dev.capRotate_busy ha hr),
    fun ha hr hm => goes_capCmd hh rfl hb (Dev.capRotate_unavail ha hr hm),
    fun ha hr hm hs => goes_capCmd hh rfl hb (Dev.capRotate_nostandby ha hr hm hs), fun ha hr hm hs hp hn => ?_,
    fun ha hr hm hs hp hn => ?_, fun ha => goes_capCmd hh rfl hb (Dev.capSbsrc_badarg ha),
    fun ha hs => goes_capCmd hh rfl hb (Dev.capSbsrc_nostandby ha hs), fun ha hs h => goes_capCmd hh rfl hb (Dev.capSbsrc_busy ha hs h),
    fun ha hs hr hp hst => goes_capCmd hh rfl hb (Dev.capSbsrc_accepted ha hs hr hp hst), fun h => ?_, fun h hr ht => ?_,
    fun h => goes_capCmd hh rfl hb (Dev.snapArm_refused h), fun h => ?_, fun h => ⟨?_, ?_⟩, fun x hx => ⟨?_, fun hr => ?_, fun hr => ?_⟩,
    fun h => goes_rotAbort hh hb (Dev.rotAbort_none h) rfl, fun r hr => ⟨fun hp => ?_, fun hp => ?_⟩⟩
  · exact goes_capCmd hh rfl hb ((Dev.capRotate_standby ha hr hm hs hp).trans (if_neg (mt hmay.mpr hn)))
  · exact goes_capCmd hh rfl hb ((Dev.capRotate_standby ha hr hm hs hp).trans (if_pos (hmay.mp hn)))
  · have hst := Dev.snapStatus_busy h
    exact goes_capCmd hh rfl hb (hst ▸ Dev.snapArm_refused (by rw [hst]; decide))
  · have hst := Dev.snapStatus_badarg h hr ht
    exact goes_capCmd hh rfl hb (hst ▸ Dev.snapArm_refused (by rw [hst]; decide))
  · obtain ⟨e, he, hc, hst, hk⟩ := Dev.snapArm_accepted h
    have hce := keepsRegs_capEnds e 3 tag 0
    refine completes_of_goes (goes_capCmd hh rfl hb he) ⟨_, (cap_capEnds _ _ _ _).symm ▸ hc, rfl, rfl, rfl, rfl, rfl, rfl, rfl,
      decide_eq_true_iff, ?_, fun a ha => ?_⟩
    · rw [Dev.get, hce _ (by decide)]
      exact hst
    · obtain ⟨h1, h2, h3⟩ : a ≠ Reg.CAP_SNAPSTAT ∧ a ≠ Reg.CAP_CMDSTAT ∧ a ≠ Reg.CAP_EVT := by simpa using ha
      rw [hce a (by simp [h2, h3]), hk a (by simp [h1])]
  · exact goes_capCmd hh rfl hb (by simp [d, h])
  · exact goes_capCmd hh rfl hb (Dev.snapAbort_none h)
  · exact goes_capCmd hh rfl hb (by simp [d, hx])
  · exact goes_capCmd hh rfl hb (Dev.snapAbort_running hx hr)
  · exact goes_capCmd hh rfl hb (Dev.snapAbort_waiting hx hr)
  · have hl : r.early = false := Bool.eq_false_iff.mpr fun h => by
      obtain ⟨h1, h2, h3, h4, h5, h6⟩ := r.early_iff.mp h
      tauto
    exact goes_rotAbort hh hb (Dev.rotAbort_late hr hl) (Dev.rotSuspects_of_rot (by rw [cap_capEnds, hr]; rfl))
  · exact goes_rotAbort hh hb (Dev.rotAbort_early hr (r.early_iff.mpr hp)) rfl

/-- Settles O34: each command by the lemma of each of its statuses. The order of ROTATE's statuses, BUSY of SBSRC during a replacement,
SNAP_TRIG of a snapshot that waits for another trigger and SNAP_ABORT before recording are the model's choices (log 36). -/
theorem captureCommandsAndGain : Obligations.CaptureCommandsAndGain :=
  ⟨captureCommandStatus, captureCommandsAnswer, gainIndexSplits⟩

end Sys2Proof.Machine
end


section
/-! The rotation of the capture cores: its phases, the period after which one starts and the time an alignment may take. -/

namespace Sys2Proof.Machine

/-! ## What a block's command does whether the block is held or not (R477) -/

theorem goes_onBlock_keeps {c : Instr} {s : State} {b : Nat} {f : Dev → Dev} (hx : exec c s = s.onBlock b f)
    (hf : s.dev.held b = false → f s.dev = s.dev) : Goes c s s.dev := by
  refine goes_of_next hx ?_
  cases hh : s.dev.held b with
  | true => exact if_pos hh
  | false => exact (if_neg (by simp [hh])).trans (hf hh)

/-! ## The phases (R108) -/

theorem goes_rotationPhaseDone {s : State} {m : CalMeas} {g p t : Int} {u : Dev} (hh : s.dev.held 2 = false)
    (h : s.dev.rotPhase m g p t = u) : Goes (.rotationPhaseDone m g p t) s u.rotSuspects :=
  goes_onBlock (f := fun d => (d.rotPhase m g p t).rotSuspects) rfl hh (congrArg Dev.rotSuspects h)

theorem residOk_iff (g p t : Int) : residOk g p t = true ↔ g.natAbs ≤ 50 ∧ p.natAbs ≤ 30 ∧ t.natAbs ≤ 50 := by
  simp [residOk, and_assoc]

/-- The rotation goes on to a phase. -/
def Dev.rotTo (d : Dev) (r : Rotation) (ph : RotPhase) : Dev := d.setRot (some { r with phase := ph })

theorem Dev.rotPhase_idle {d : Dev} {m : CalMeas} {g p t : Int} (hr : d.cap.rot = none) : d.rotPhase m g p t = d := by
  simp only [Dev.rotPhase, hr]

section
variable {d : Dev} {r : Rotation} {m : CalMeas} {g p t : Int} (hr : d.cap.rot = some r)
include hr

theorem Dev.rotPhase_connect (hp : r.phase = .connect) : d.rotPhase m g p t = d.rotTo r .firstRun := by
  simp only [Dev.rotPhase, Dev.rotTo, hr, hp]

theorem Dev.rotPhase_firstRun (hp : r.phase = .firstRun) :
    d.rotPhase m g p t = if toneOk r.refF r.refL m = true then d.rotTo r .secondRun else d.rotAbandon r 0x11 := by
  simp only [Dev.rotPhase, Dev.rotTo, hr, hp]

/-- The second run of S: the tone of R495, then the agreement of the two runs (R494), or an abandonment. -/
theorem Dev.rotPhase_secondRun (hp : r.phase = .secondRun) : d.rotPhase m g p t =
    if toneOk r.refF r.refL m = false then d.rotAbandon r 0x11
    else if calAgree r.s m = true then ((d.calCompare r.s m).rotSecond r.s m).rotTo r .applying
    else (d.calCompare r.s m).rotAbandon r 0x10 := by
  simp only [Dev.rotPhase, Dev.rotTo, hr, hp, Bool.not_eq_true']

theorem Dev.rotPhase_applying (hp : r.phase = .applying) : d.rotPhase m g p t = d.rotMoved r := by
  simp only [Dev.rotPhase, hr, hp]

theorem Dev.rotPhase_moved (hp : r.phase = .moved) : d.rotPhase m g p t =
    (d.setRot (some { r with phase := .coarse, alignAt := d.now, frames := 0, marked := 0 })).set Reg.CAP_ROTSTAT_STEP 3 := by
  simp only [Dev.rotPhase, Dev.rotStep, hr, hp]

theorem Dev.rotPhase_coarse (hp : r.phase = .coarse) : d.rotPhase m g p t = d.rotTo r .fine := by
  simp only [Dev.rotPhase, Dev.rotTo, hr, hp]

theorem Dev.rotPhase_fine (hp : r.phase = .fine) : d.rotPhase m g p t =
    if residOk g p t = true then ((d.fineLoop r.s).rotTo r .verify).set Reg.CAP_ROTSTAT_STEP 4 else d.fineLoop r.s := by
  simp only [Dev.rotPhase, Dev.rotTo, Dev.rotStep, hr, hp]

theorem Dev.rotPhase_verify (hp : r.phase = .verify) : d.rotPhase m g p t =
    if residOk g p t = true then (d.setRot (some { r with phase := .ready, res := (g, p, t) })).set Reg.CAP_ROTSTAT_STEP 5
    else (d.rotTo r .fine).set Reg.CAP_ROTSTAT_STEP 3 := by
  simp only [Dev.rotPhase, Dev.rotVerified, Dev.rotTo, Dev.rotStep, hr, hp]

theorem Dev.rotPhase_waits (hp : r.phase = .ready ∨ r.phase = .crossfade) : d.rotPhase m g p t = d := by
  rcases hp with hp | hp <;> simp only [Dev.rotPhase, hr, hp]

theorem Dev.rotPhase_refreshWait (hp : r.phase = .refreshWait) :
    d.rotPhase m g p t = ((d.setCore r.x 2 3).setStale r.x true).rotTo r .refreshFirst := by
  simp only [Dev.rotPhase, Dev.rotTo, hr, hp]

theorem Dev.rotPhase_refreshFirst (hp : r.phase = .refreshFirst) : d.rotPhase m g p t =
    if toneOk r.refF r.refL m = true then d.rotTo r .refreshSecond else d.refreshFail r 0x11 := by
  simp only [Dev.rotPhase, Dev.rotTo, hr, hp]

/-- The second run of X's refresh, as the second run of S. -/
theorem Dev.rotPhase_refreshSecond (hp : r.phase = .refreshSecond) : d.rotPhase m g p t =
    if toneOk r.refF r.refL m = false then d.refreshFail r 0x11
    else if calAgree r.x m = true then ((d.calCompare r.x m).rotSecond r.x m).rotTo r .refreshApply
    else (d.calCompare r.x m).refreshFail r 0x10 := by
  simp only [Dev.rotPhase, Dev.rotTo, hr, hp, Bool.not_eq_true']

theorem Dev.rotPhase_refreshApply (hp : r.phase = .refreshApply) : d.rotPhase m g p t = d.refreshDone r := by
  simp only [Dev.rotPhase, hr, hp]

end

theorem rotationRunsItsPhases : Claim.RotationRunsItsPhases := by
  intro s r m g p t d goTo near C
  have hnear : residOk g p t = true ↔ near := residOk_iff g p t
  refine ⟨fun u => Dev.rotSuspects_of_rot, fun hh => ?_⟩
  have goes : ∀ {u : Dev}, d.rotPhase m g p t = u → C u := goes_rotationPhaseDone hh
  refine ⟨fun hr => goes (Dev.rotPhase_idle hr), fun hr => ⟨fun hp => goes (Dev.rotPhase_connect hr hp),
    fun hp => goes (Dev.rotPhase_firstRun hr hp), fun hp ht => ?_, fun hp ht ha => ?_, fun hp ht ha => ?_,
    fun hp => goes (Dev.rotPhase_applying hr hp), fun hp => goes (Dev.rotPhase_moved hr hp), fun hp => goes (Dev.rotPhase_coarse hr hp),
    fun hp hn => ?_, fun hp hn => ?_, fun hp hn => ?_, fun hp hn => ?_, fun hp => goes (Dev.rotPhase_waits hr hp),
    fun hp => goes (Dev.rotPhase_refreshWait hr hp), fun hp => goes (Dev.rotPhase_refreshFirst hr hp), fun hp ht => ?_,
    fun hp ht ha => ?_, fun hp ht ha => ?_, fun hp => goes (Dev.rotPhase_refreshApply hr hp)⟩⟩
  · exact goes ((Dev.rotPhase_secondRun hr hp).trans (if_pos ht))
  · exact goes ((Dev.rotPhase_secondRun hr hp).trans (by rw [if_neg (by simp [ht]), if_neg (by simp [ha])]))
  · exact goes ((Dev.rotPhase_secondRun hr hp).trans ((if_neg (by simp [ht])).trans (if_pos ha)))
  · exact goes ((Dev.rotPhase_fine hr hp).trans (if_pos (hnear.mpr hn)))
  · exact goes ((Dev.rotPhase_fine hr hp).trans (if_neg (mt hnear.mp hn)))
  · exact goes ((Dev.rotPhase_verify hr hp).trans (if_neg (mt hnear.mp hn)))
  · exact goes ((Dev.rotPhase_verify hr hp).trans (if_pos (hnear.mpr hn)))
  · exact goes ((Dev.rotPhase_refreshSecond hr hp).trans (if_pos ht))
  · exact goes ((Dev.rotPhase_refreshSecond hr hp).trans ((if_neg (by simp [ht])).trans (if_pos ha)))
  · exact goes ((Dev.rotPhase_refreshSecond hr hp).trans (by rw [if_neg (by simp [ht]), if_neg (by simp [ha])]))

/-! ## The timers (R107, R109) -/

/-- A periodic rotation falls due: it may start, and PERIOD minutes have passed since the last ended. -/
theorem Dev.rotPeriodic_due {d : Dev} (hr : d.rotReady = true) (ho : d.cap.periodicOk = true) (ha : d.is Reg.CAP_ROTCFG_AUTO = true)
    (hc : d.coreRun = false) (ht : d.cap.rotEnd + d.get Reg.CAP_ROTCFG_PERIOD * 60000000000 ≤ d.now) :
    d.rotPeriodic = d.rotStart d.longestRole := by
  unfold Dev.rotPeriodic
  rw [if_pos]
  simp [hr, ho, ha, hc, ht]

theorem Dev.rotPeriodic_early {d : Dev} (h : ¬(d.rotReady = true ∧ d.cap.periodicOk = true ∧ d.is Reg.CAP_ROTCFG_AUTO = true ∧
    d.coreRun = false ∧ d.cap.rotEnd + d.get Reg.CAP_ROTCFG_PERIOD * 60000000000 ≤ d.now)) : d.rotPeriodic = d := by
  unfold Dev.rotPeriodic
  rw [if_neg]
  simpa [and_assoc] using h

theorem Dev.rotReady_iff (d : Dev) : d.rotReady = true ↔ d.cap.rot = none ∧ d.migr = true ∧ d.standbyCore.isSome = true ∧
    d.cap.replacing = none ∧ (d.inService 0 = true ∨ d.inService 1 = true) := by
  simp [Dev.rotReady, and_assoc]

/-- A rotation whose alignment goes on, from step 6 to the end of its verification (log 104). -/
def Rotation.aligns (r : Rotation) : Prop := r.phase = .coarse ∨ r.phase = .fine ∨ r.phase = .verify

theorem goes_rotationAlignTimeout_over {s : State} {r : Rotation} (hh : s.dev.held 2 = false) (hr : s.dev.cap.rot = some r)
    (ha : r.aligns) (ht : r.alignAt + 100000000 ≤ s.dev.now) : Goes .rotationAlignTimeout s
      (s.dev.rotAbandon r (if r.frames < 2 * r.marked then 0x13 else 0x12)).rotSuspects := by
  refine goes_of_next rfl ((if_neg (by simp [hh])).trans ?_)
  simp only [hr]
  exact if_pos ⟨ha, ht⟩

theorem goes_rotationAlignTimeout_early {s : State}
    (hn : ∀ r, s.dev.cap.rot = some r → ¬(r.aligns ∧ r.alignAt + 100000000 ≤ s.dev.now)) : Goes .rotationAlignTimeout s s.dev := by
  refine goes_of_next rfl ?_
  dsimp only
  split
  · rfl
  · cases hr : s.dev.cap.rot with
    | none => rfl
    | some r => exact if_neg (hn r hr)

theorem rotationTimers : Claim.RotationTimers := by
  intro s r d due serves may aligning
  have hready : d.rotReady = true ↔ d.cap.rot = none ∧ d.migr = true ∧ d.standbyCore.isSome = true ∧ d.cap.replacing = none ∧
      (serves 0 ∨ serves 1) := by
    rw [Dev.rotReady_iff, Dev.inService_iff, Dev.inService_iff]
  refine ⟨fun hm ht => ?_, fun hn => ?_, fun hh hr ha ht => ?_, fun hr hn => ?_, fun hr => ?_⟩
  · obtain ⟨hh, hr, hg, hs, hp, hv, ho, ha, hc⟩ := hm
    exact goes_onBlock rfl hh (Dev.rotPeriodic_due (hready.mpr ⟨hr, hg, hs, hp, hv⟩) ho ha hc ht)
  · refine goes_onBlock_keeps rfl fun hh => Dev.rotPeriodic_early fun ⟨hr, ho, ha, hc, ht⟩ => hn ⟨?_, ht⟩
    obtain ⟨hr, hg, hs, hp, hv⟩ := hready.mp hr
    exact ⟨hh, hr, hg, hs, hp, hv, ho, ha, hc⟩
  · exact goes_rotationAlignTimeout_over hh hr ha ht
  · exact goes_rotationAlignTimeout_early fun r' hr' => by
      obtain rfl := Option.some.inj (hr.symm.trans hr')
      exact hn
  · exact goes_rotationAlignTimeout_early fun r' hr' => nomatch hr.symm.trans hr'

/-- Settles O35: each phase by the lemma of its row of R108, the timers by when they are due. What the fine loop finds, to which a
verification out of limits returns (log 35), and the end of a verification at 100 ms (log 104) are the model's choices. -/
theorem rotationsRunTheirPhases : Obligations.RotationsRunTheirPhases := ⟨rotationRunsItsPhases, rotationTimers⟩

end Sys2Proof.Machine
end


section
/-! A frame of a capture core: what it marks and counts, what enters its bank, and what the bellows does at its boundary. -/

namespace Sys2Proof.Machine

/-! ## What the steps of a frame leave -/

/-- With the crosspoint, the blanking inputs and the time as they were, a core's aerial is blanked as it was. -/
theorem Dev.coreBlanked_congr {d t : Dev} {k : Nat} (hs : t.get (Reg.CAP_CC_STAT_SRC k) = d.get (Reg.CAP_CC_STAT_SRC k))
    (hb : ∀ x, t.blank x = d.blank x) (hn : t.now = d.now) : t.coreBlanked k = d.coreBlanked k := by
  simp only [Dev.coreBlanked, Dev.aerialOf, Dev.blankOpen, hs, hb, hn]

/-- A change of the capture block's state and events and of the registers `as`, which leaves the rotation, the blanking inputs and
the mark of core `c` as they were. -/
structure FrameStep (c : Nat) (as : List Nat) (d t : Dev) : Prop where
  frame : t = { d with regs := t.regs, cap := t.cap, evtLast := t.evtLast, pcie := t.pcie, out := t.out }
  regs : KeepsRegs as d t
  rot : t.cap.rot = d.cap.rot
  blank : ∀ x, t.blank x = d.blank x
  marked : (t.capCore c).marked = (d.capCore c).marked

namespace FrameStep
variable {c : Nat} {as : List Nat} {d t u : Dev}

theorem refl (c : Nat) (as : List Nat) (d : Dev) : FrameStep c as d d := ⟨rfl, fun _ _ => rfl, rfl, fun _ => rfl, rfl⟩

theorem trans (h : FrameStep c as d t) (k : FrameStep c as t u) : FrameStep c as d u :=
  ⟨by rw [k.frame, h.frame], fun a ha => (k.regs a ha).trans (h.regs a ha), k.rot.trans h.rot,
    fun x => (k.blank x).trans (h.blank x), k.marked.trans h.marked⟩

theorem ite {p : Prop} [Decidable p] (h : FrameStep c as d t) (k : FrameStep c as d u) : FrameStep c as d (if p then t else u) := by
  split
  · exact h
  · exact k

theorem wr (d : Dev) {a : Nat} (w : Word) (ha : a ∈ as) : FrameStep c as d (d.wr a w) :=
  ⟨rfl, fun _ hb => Dev.rd_wr_other _ _ (fun e => hb (e ▸ ha)), rfl, fun _ => rfl, rfl⟩

theorem set (d : Dev) {f : Fld} (v : Nat) (ha : f.addr ∈ as) : FrameStep c as d (d.set f v) := wr d _ ha

theorem raise (d : Dev) {a : Nat} (b : Nat) (ha : a ∈ as) : FrameStep c as d (d.raise a b) :=
  ⟨by rw [Dev.raise, Dev.raiseUnit_frame], fun _ hb => Dev.rd_raise_other _ _ (fun e => hb (e ▸ ha)),
    by rw [Dev.cap_raise], fun x => Dev.blank_of_cap (Dev.cap_raise _ _ _) x, by rw [Dev.capCore_of_cap (Dev.cap_raise _ _ _)]⟩

theorem setCapCore (d : Dev) {x : CapCore} (hx : x.marked = (d.capCore c).marked) : FrameStep c as d (d.setCapCore c x) :=
  ⟨rfl, fun _ _ => rfl, rfl, fun _ => rfl, by rw [Dev.capCore_setCapCore_same, hx]⟩

theorem setSnap (d : Dev) (y : Option Snap) : FrameStep c as d (d.setSnap y) := ⟨rfl, fun _ _ => rfl, rfl, fun _ => rfl, rfl⟩

theorem part (h : FrameStep c as d t) : t.part = d.part := by rw [h.frame]
theorem lanes (h : FrameStep c as d t) : t.lanes = d.lanes := by rw [h.frame]
theorem hearths (h : FrameStep c as d t) : t.hearths = d.hearths := by rw [h.frame]
theorem captures (h : FrameStep c as d t) : t.captures = d.captures := by rw [h.frame]
theorem shadow (h : FrameStep c as d t) : t.shadow = d.shadow := by rw [h.frame]
theorem now (h : FrameStep c as d t) : t.now = d.now := by rw [h.frame]
theorem gbank (h : FrameStep c as d t) (r : Nat) : t.gbank r = d.gbank r := by rw [h.frame]; rfl

theorem get (h : FrameStep c as d t) {f : Fld} (hf : f.addr ∉ as) : t.get f = d.get f := by
  rw [Dev.get, h.regs _ hf, Dev.get]

theorem coreBlanked (h : FrameStep c as d t) {k : Nat} (hs : t.get (Reg.CAP_CC_STAT_SRC k) = d.get (Reg.CAP_CC_STAT_SRC k)) :
    t.coreBlanked k = d.coreBlanked k := Dev.coreBlanked_congr hs h.blank h.now

theorem refreshCore (d : Dev) (hs : Reg.CAP_CC_STAT c ∈ as) : FrameStep c as d (d.refreshCore c) :=
  (set d _ hs).trans (set _ _ hs)

theorem setGain (d : Dev) (hs : Reg.CAP_CC_STAT c ∈ as) (lna att : Nat) : FrameStep c as d (d.setGain c lna att) := by
  unfold Dev.setGain
  dsimp only
  refine trans ?_ (set _ _ hs)
  refine trans ?_ (set _ _ hs)
  refine trans ?_ (set _ _ hs)
  exact setCapCore d rfl

theorem landGain (d : Dev) (hs : Reg.CAP_CC_STAT c ∈ as) (lna att : Nat) : FrameStep c as d (d.landGain c lna att) := by
  have h := (setGain d hs lna att).trans (setCapCore (as := as) (d.setGain c lna att)
    (x := { (d.setGain c lna att).capCore c with stepped := true, gainNext := none }) rfl)
  unfold Dev.landGain
  dsimp only
  split
  · exact .ite (h.trans (setSnap _ _)) h
  · exact h

theorem wantGain (d : Dev) (hs : Reg.CAP_CC_STAT c ∈ as) (w : Nat × Nat) : FrameStep c as d (d.wantGain c w) :=
  .ite (refl c as d) (landGain d hs _ _)

theorem bellows (d : Dev) (hs : Reg.CAP_CC_STAT c ∈ as) : FrameStep c as d (d.bellows c) := by
  have hm : FrameStep c as d (d.updCore c (fun x => { x with mode := d.get (Reg.CAP_CC_CTL_MODE c) })) := setCapCore d rfl
  unfold Dev.bellows
  split
  · exact refl c as d
  · dsimp only
    split
    · exact hm
    · split
      · exact (hm.trans (wantGain _ hs _)).trans (setCapCore _ rfl)
      · exact hm.trans (wantGain _ hs _)
      · exact hm.trans (setCapCore _ rfl)

theorem overrange (d : Dev) (he : Reg.CAP_EVT ∈ as) : FrameStep c as d (d.overrange c) := by
  refine .ite (trans (setCapCore d ?_) (raise _ _ he)) (refl c as d)
  rfl

theorem attack (d : Dev) (he : Reg.CAP_EVT ∈ as) : FrameStep c as d (d.attack c) :=
  .ite (overrange d he) (.ite (refl c as d) (setCapCore d rfl))

end FrameStep

/-! ## A clipped frame (R94, R96) -/

section
variable (d : Dev) {c : Nat}

@[simp] theorem Dev.stepped_overrange : ((d.overrange c).capCore c).stepped = (d.capCore c).stepped := by
  unfold Dev.overrange
  dsimp only
  split
  · rw [Dev.capCore_of_cap (Dev.cap_raise _ _ _), Dev.capCore_setCapCore_same]
  · rfl

@[simp] theorem Dev.stepped_attack : ((d.attack c).capCore c).stepped = (d.capCore c).stepped := by
  unfold Dev.attack
  dsimp only
  split
  · exact d.stepped_overrange
  · split
    · rfl
    · rw [Dev.capCore_setCapCore_same]

variable {d} (hr : d.cap.rot = none)
include hr

/-- With no rotation to end, a clip frame is counted and the bellows answers. -/
theorem Dev.clipFrame_quiet : d.clipFrame c = if (d.capCore c).mode = 0 then (d.incWordSat (Reg.CAP_CC_CLIP c) 1).attack c
    else (d.incWordSat (Reg.CAP_CC_CLIP c) 1).overrange c := by
  have hr' : (d.incWordSat (Reg.CAP_CC_CLIP c) 1).cap.rot = none := hr
  unfold Dev.clipFrame
  dsimp only
  rw [hr']
  rfl

theorem FrameStep.clipFrame : FrameStep c [Reg.CAP_CC_CLIP c, Reg.CAP_EVT] d (d.clipFrame c) := by
  have hw : FrameStep c [Reg.CAP_CC_CLIP c, Reg.CAP_EVT] d (d.incWordSat (Reg.CAP_CC_CLIP c) 1) := .wr d _ (by simp)
  rw [Dev.clipFrame_quiet hr]
  exact .ite (hw.trans (.attack _ (by simp))) (hw.trans (.overrange _ (by simp)))

theorem Dev.rd_clipFrame_clip : (d.clipFrame c).rd (Reg.CAP_CC_CLIP c) =
    BitVec.ofNat 32 (satInc 32 (d.rd (Reg.CAP_CC_CLIP c)).toNat 1) := by
  have hne : Reg.CAP_CC_CLIP c ∉ [Reg.CAP_EVT] := by simp only [List.mem_singleton, Reg.CAP_CC_CLIP, Reg.CAP_EVT]; omega
  have hw : (d.incWordSat (Reg.CAP_CC_CLIP c) 1).rd (Reg.CAP_CC_CLIP c) =
      BitVec.ofNat 32 (satInc 32 (d.rd (Reg.CAP_CC_CLIP c)).toNat 1) := Dev.rd_wr_same _ _ _
  rw [Dev.clipFrame_quiet hr, ← hw]
  split
  · exact (FrameStep.attack (c := c) _ (by simp)).regs _ hne
  · exact (FrameStep.overrange (c := c) _ (by simp)).regs _ hne

theorem Dev.stepped_clipFrame : ((d.clipFrame c).capCore c).stepped = (d.capCore c).stepped := by
  rw [Dev.clipFrame_quiet hr]
  split
  · rw [Dev.stepped_attack]; rfl
  · rw [Dev.stepped_overrange]; rfl

end

/-! ## What enters the bank (R92, R141) -/

theorem Dev.roleOf_lt {d : Dev} {c r : Nat} (h : d.roleOf c = some r) : r < 2 := by
  unfold Dev.roleOf at h
  split at h
  · cases h; decide
  · split at h
    · cases h; decide
    · cases h

@[simp] theorem Dev.gbank_setBank_same (d : Dev) (r : Nat) (x : GrateBank) : (d.setBank r x).gbank r = x := by
  unfold Dev.gbank Dev.setBank
  split <;> rfl

/-- A bank that changes leaves everything but the banks. -/
theorem Dev.setBank_frame (d : Dev) (r : Nat) (x : GrateBank) :
    d.setBank r x = { d with bankA := (d.setBank r x).bankA, bankB := (d.setBank r x).bankB } := by
  unfold Dev.setBank
  split <;> rfl

/-- The frame of core `c` with no rotation enters the bank of its role, if it has one, and a blanked one is counted. -/
def Dev.frameIn (d : Dev) (c : Nat) (blanked mark : Bool) (xs : List (BitVec 12)) : Dev :=
  match d.roleOf c with
  | some r => (if blanked = true then d.incWordSat (Reg.CAP_BLKCNT r) 1 else d).bankFrame r mark xs
  | none => d

section
variable (d : Dev) {c r : Nat} {blanked mark : Bool} {xs : List (BitVec 12)}

/-- What the bank's input leaves: everything but the registers and the banks. -/
theorem Dev.frameIn_frame : d.frameIn c blanked mark xs = { d with
    regs := (d.frameIn c blanked mark xs).regs, bankA := (d.frameIn c blanked mark xs).bankA,
    bankB := (d.frameIn c blanked mark xs).bankB } := by
  unfold Dev.frameIn
  split
  · unfold Dev.bankFrame
    dsimp only
    split <;> split <;> rw [Dev.setBank_frame] <;> rfl
  · rfl

theorem Dev.frameIn_none (h : d.roleOf c = none) : d.frameIn c blanked mark xs = d := by
  simp only [Dev.frameIn, h]

theorem Dev.frameIn_some (h : d.roleOf c = some r) : d.frameIn c blanked mark xs =
    (if blanked = true then d.incWordSat (Reg.CAP_BLKCNT r) 1 else d).bankFrame r mark xs := by
  simp only [Dev.frameIn, h]

theorem Dev.gbank_frameIn_marked (h : d.roleOf c = some r) (hm : mark = true) :
    ((d.frameIn c blanked mark xs).gbank r).frame = List.replicate 64 0 := by
  rw [Dev.frameIn_some d h, Dev.bankFrame]
  simp only [hm, if_true, Dev.gbank_setBank_same]

theorem Dev.rd_bankFrame (r : Nat) (mark : Bool) (a : Nat) : (d.bankFrame r mark xs).rd a = d.rd a := by
  unfold Dev.bankFrame
  dsimp only
  split <;> rw [Dev.setBank_frame] <;> rfl

/-- The frame changes the count of its own blanked aerial alone. -/
theorem Dev.rd_frameIn (a : Nat) : (d.frameIn c blanked mark xs).rd a =
    if blanked = true ∧ ∃ r, d.roleOf c = some r ∧ a = Reg.CAP_BLKCNT r then BitVec.ofNat 32 (satInc 32 (d.rd a).toNat 1) else d.rd a := by
  cases h : d.roleOf c with
  | none => rw [Dev.frameIn_none d h, if_neg (by simp)]
  | some r =>
    rw [Dev.frameIn_some d h, Dev.rd_bankFrame]
    cases blanked with
    | false => simp
    | true =>
      rw [if_pos rfl, Dev.incWordSat, Dev.rd_wr]
      by_cases ha : a = Reg.CAP_BLKCNT r
      · subst ha; simp
      · simp [ha]

end

/-! ## A frame without rotation or replacement -/

/-- A frame of core `c` is marked (R92, R99, R102, R437, R477). -/
def Dev.frameMark (d : Dev) (c : Nat) (ecc : Bool) : Bool :=
  (d.capCore c).stepped || d.frameBlanked c || ecc || !d.is Reg.CLK_STAT_LOCK || d.held 2

/-- The frame has entered its bank, and the core keeps it with its mark. -/
def Dev.frameKept (d : Dev) (c : Nat) (xs : List (BitVec 12)) (ecc : Bool) : Dev :=
  let fed := (d.capCore c).toBank (d.corrected12 c xs)
  (d.frameIn c (d.frameBlanked c) (d.frameMark c ecc) fed).updCore c (fun x => { x with
    marked := d.frameMark c ecc, stepped := false, frame := fed })

/-- An unmarked frame has as many clipped codes as count (R94). -/
def Dev.frameClips (d : Dev) (c : Nat) (xs : List (BitVec 12)) (ecc : Bool) : Bool :=
  !d.frameMark c ecc && decide (d.get (Reg.CAP_CC_AGC_CLIPN c) ≤ xs.countP clipped)

/-- A frame reaches the snapshot and changes nothing else there. -/
theorem Dev.snapFrame_eq (d : Dev) (c : Nat) (mark blanked ecc cross : Bool) (raw out : List (BitVec 12)) :
    ∃ y, d.snapFrame c mark blanked ecc cross raw out = d.setSnap y := by
  unfold Dev.snapFrame
  split
  · dsimp only
    split
    · exact ⟨_, rfl⟩
    · exact ⟨d.cap.snap, rfl⟩
  · exact ⟨d.cap.snap, rfl⟩

section
variable {d : Dev} {c : Nat} {xs : List (BitVec 12)} {ecc : Bool}

theorem Dev.rd_frameKept (a : Nat) : (d.frameKept c xs ecc).rd a = if d.frameBlanked c = true ∧ ∃ r, d.roleOf c = some r ∧ a = Reg.CAP_BLKCNT r
    then BitVec.ofNat 32 (satInc 32 (d.rd a).toNat 1) else d.rd a := d.rd_frameIn a

/-- A register that counts no blanked frames is as before. -/
theorem Dev.rd_frameKept_other {a : Nat} (ha : ∀ r < 2, a ≠ Reg.CAP_BLKCNT r) : (d.frameKept c xs ecc).rd a = d.rd a := by
  rw [Dev.rd_frameKept, if_neg]
  rintro ⟨-, r, hr, he⟩
  exact ha r (Dev.roleOf_lt hr) he

theorem Dev.cap_frameIn {blanked mark : Bool} : (d.frameIn c blanked mark xs).cap = d.cap := by rw [Dev.frameIn_frame]

theorem Dev.frameKept_frame : d.frameKept c xs ecc = { d with
    regs := (d.frameKept c xs ecc).regs, cap := (d.frameKept c xs ecc).cap, bankA := (d.frameKept c xs ecc).bankA,
    bankB := (d.frameKept c xs ecc).bankB } := by
  unfold Dev.frameKept
  dsimp only
  rw [Dev.frameIn_frame]
  rfl

theorem Dev.part_frameKept : (d.frameKept c xs ecc).part = d.part := by rw [Dev.frameKept_frame]
theorem Dev.now_frameKept : (d.frameKept c xs ecc).now = d.now := by rw [Dev.frameKept_frame]
theorem Dev.lanes_frameKept : (d.frameKept c xs ecc).lanes = d.lanes := by rw [Dev.frameKept_frame]
theorem Dev.hearths_frameKept : (d.frameKept c xs ecc).hearths = d.hearths := by rw [Dev.frameKept_frame]
theorem Dev.captures_frameKept : (d.frameKept c xs ecc).captures = d.captures := by rw [Dev.frameKept_frame]
theorem Dev.shadow_frameKept : (d.frameKept c xs ecc).shadow = d.shadow := by rw [Dev.frameKept_frame]

theorem Dev.capCore_frameKept : (d.frameKept c xs ecc).capCore c = { d.capCore c with
    marked := d.frameMark c ecc, stepped := false, frame := (d.capCore c).toBank (d.corrected12 c xs) } := by
  unfold Dev.frameKept
  dsimp only
  rw [Dev.capCore_updCore_same, Dev.capCore_of_cap Dev.cap_frameIn]

theorem Dev.rot_frameKept : (d.frameKept c xs ecc).cap.rot = d.cap.rot := by
  unfold Dev.frameKept Dev.updCore Dev.setCapCore
  dsimp only
  rw [Dev.cap_frameIn]

theorem Dev.blank_frameKept (x : Nat) : (d.frameKept c xs ecc).blank x = d.blank x := by
  unfold Dev.frameKept Dev.updCore Dev.setCapCore Dev.blank
  dsimp only
  rw [Dev.cap_frameIn]

theorem Dev.rotFrame_none {d : Dev} {c : Nat} {mark : Bool} (h : d.cap.rot = none) : d.rotFrame c mark = d := by
  simp only [Dev.rotFrame, h]

theorem Dev.bankIn_none {d : Dev} {c : Nat} {xs : List (BitVec 12)} (h : d.cap.rot = none) : d.bankIn c xs = xs := by
  simp only [Dev.bankIn, h]

/-- The frame of a core while nothing rotates and nothing is replaced: it is kept, a clipped one is counted and answered, and the bellows
acts at the boundary. -/
theorem Dev.adcFrame_quiet (hr : d.cap.rot = none) (hp : d.cap.replacing = none) : ∃ y,
    d.adcFrame c xs ecc = ((if d.frameClips c xs ecc = true then ((d.frameKept c xs ecc).setSnap y).clipFrame c
      else (d.frameKept c xs ecc).setSnap y).refreshCore c).bellows c := by
  have hd : d.replaceDue = d := by simp only [Dev.replaceDue, hp]
  have hin : ∀ r, (if d.frameBlanked c = true then d.incWordSat (Reg.CAP_BLKCNT r) 1 else d).cap.rot = none := fun r => by
    split <;> exact hr
  let e := d.frameIn c (d.frameBlanked c) (d.frameMark c ecc) ((d.capCore c).toBank (d.corrected12 c xs))
  obtain ⟨y, hy⟩ := (d.frameKept c xs ecc).snapFrame_eq c (d.frameMark c ecc) (d.frameBlanked c) ecc (e.crossing c) xs
    (d.corrected12 c xs)
  have hclip : ((d.frameKept c xs ecc).setSnap y).get (Reg.CAP_CC_AGC_CLIPN c) = d.get (Reg.CAP_CC_AGC_CLIPN c) := by
    have hk : (d.frameKept c xs ecc).rd (Reg.CAP_CC_AGC c) = d.rd (Reg.CAP_CC_AGC c) :=
      Dev.rd_frameKept_other fun r hr => by simp only [Reg.CAP_CC_AGC, Reg.CAP_BLKCNT]; omega
    exact congrArg (getBits · 19 16) hk
  refine ⟨y, ?_⟩
  have hrot : ((d.frameKept c xs ecc).setSnap y).cap.rot = none := Dev.rot_frameKept.trans hr
  unfold Dev.frameClips
  rw [← hclip, ← Dev.rotFrame_none (c := c) (mark := d.frameMark c ecc) hrot, ← hy]
  unfold Dev.adcFrame Dev.frameKept
  dsimp only
  rw [hd]
  cases h : d.roleOf c with
  | none => simp only [e, Dev.frameIn_none d h, Dev.frameMark]
  | some r => simp only [e, Dev.frameIn_some d h, Dev.frameMark, Dev.bankIn_none (hin r)]

end

end Sys2Proof.Machine
end


section
/-! The bellows of a core in MANUAL, and the claim on its frames. -/

namespace Sys2Proof.Machine

/-! ## The bellows in MANUAL (R91 to R93) -/

section
variable (d : Dev) {c : Nat}

/-- BLANKED and FROZEN brought up to date leave the other fields of the core's status. -/
theorem Dev.get_refreshCore {f : Fld} (hf : f.hi < 22 ∨ 25 < f.lo) : (d.refreshCore c).get f = d.get f := by
  unfold Dev.refreshCore
  dsimp only
  rw [Dev.get_set_apart _ _ (by simp) (by simp) (by simp; omega), Dev.get_set_apart _ _ (by simp) (by simp) (by simp; omega)]

@[simp] theorem Dev.get_setSnap (y : Option Snap) (f : Fld) : (d.setSnap y).get f = d.get f := rfl
@[simp] theorem Dev.capCore_setSnap (y : Option Snap) (k : Nat) : (d.setSnap y).capCore k = d.capCore k := rfl
@[simp] theorem Dev.get_updCore (k : Nat) (f : CapCore → CapCore) (g : Fld) : (d.updCore k f).get g = d.get g := rfl

theorem Dev.setSnap_self : d.setSnap d.cap.snap = d := rfl

/-- A setting that lands is in the core's status, and the snapshot alone notes it beside. -/
theorem Dev.landGain_eq (lna att : Nat) : ∃ y, d.landGain c lna att =
    ((d.setGain c lna att).updCore c (fun x => { x with stepped := true, gainNext := none })).setSnap y := by
  unfold Dev.landGain
  dsimp only
  generalize (d.setGain c lna att).updCore c (fun x => { x with stepped := true, gainNext := none }) = e
  split
  · split
    · exact ⟨_, rfl⟩
    · exact ⟨_, e.setSnap_self.symm⟩
  · exact ⟨_, e.setSnap_self.symm⟩

theorem Dev.get_setGain (lna att : Nat) : (d.setGain c lna att).get (Reg.CAP_CC_STAT_LNA c) = lna % 4 ∧
    (d.setGain c lna att).get (Reg.CAP_CC_STAT_ATT c) = att % 64 := by
  unfold Dev.setGain
  dsimp only
  refine ⟨?_, ?_⟩
  · rw [Dev.get_set_apart _ _ (by simp) (by simp) (by simp), Dev.get_set_apart _ _ (by simp) (by simp) (by simp),
      Dev.get_set_same _ _ (by simp) (by simp)]
    norm_num
  · rw [Dev.get_set_apart _ _ (by simp) (by simp) (by simp), Dev.get_set_same _ _ (by simp) (by simp)]
    norm_num

/-- A setting that is wanted is in the core's status, and lands where it differs from the one in use. -/
theorem Dev.wantGain_shows {w : Nat × Nat} (hl : w.1 < 4) (ha : w.2 < 64) :
    (d.wantGain c w).get (Reg.CAP_CC_STAT_LNA c) = w.1 ∧ (d.wantGain c w).get (Reg.CAP_CC_STAT_ATT c) = w.2 ∧
      (((d.wantGain c w).capCore c).stepped = true ↔ (d.capCore c).stepped = true ∨
        d.get (Reg.CAP_CC_STAT_LNA c) ≠ w.1 ∨ d.get (Reg.CAP_CC_STAT_ATT c) ≠ w.2) := by
  unfold Dev.wantGain
  split
  · next h =>
    subst h
    simp
  · next h =>
    obtain ⟨y, hy⟩ := d.landGain_eq (c := c) w.1 w.2
    obtain ⟨h1, h2⟩ := d.get_setGain (c := c) w.1 w.2
    have hst : ((d.landGain c w.1 w.2).capCore c).stepped = true := by
      rw [hy, Dev.capCore_setSnap, Dev.capCore_updCore_same]
    rw [hst, hy, Dev.get_setSnap, Dev.get_setSnap, Dev.get_updCore, Dev.get_updCore, h1, h2]
    refine ⟨Nat.mod_eq_of_lt hl, Nat.mod_eq_of_lt ha, iff_of_true rfl (.inr ?_)⟩
    by_contra hn
    simp only [not_or, not_not] at hn
    exact h (Prod.ext hn.1.symm hn.2.symm)

/-- The bellows in MANUAL takes the setting written, where neither blanking nor a rotation holds it. -/
theorem Dev.bellows_manual (hf : d.rotFrozen c = false) (hm : d.get (Reg.CAP_CC_CTL_MODE c) = 1) (hb : d.coreBlanked c = false) :
    d.bellows c = (d.updCore c (fun x => { x with mode := 1 })).wantGain c
      (d.get (Reg.CAP_CC_CTL_LNA c), d.get (Reg.CAP_CC_CTL_ATT c)) := by
  have hb' : (d.updCore c (fun x => { x with mode := 1 })).coreBlanked c = false := hb
  have hm' : ((d.updCore c (fun x => { x with mode := 1 })).capCore c).mode = 1 := by rw [Dev.capCore_updCore_same]
  unfold Dev.bellows
  rw [if_neg (by simp [hf])]
  dsimp only
  rw [hm, if_neg (by simp [hb'])]
  simp only [hm']
  rfl

end

/-! ## The claim on frames -/

section
variable {d : Dev} {c : Nat} {xs : List (BitVec 12)} {ecc : Bool}

/-- A clip frame or none: what it leaves, and the clip count. -/
theorem Dev.clip_shows {e : Dev} {clips : Bool} (hr : e.cap.rot = none) :
    FrameStep c [Reg.CAP_CC_CLIP c, Reg.CAP_EVT] e (if clips = true then e.clipFrame c else e) ∧
      (if clips = true then e.clipFrame c else e).rd (Reg.CAP_CC_CLIP c) =
        (if clips = true then BitVec.ofNat 32 (satInc 32 (e.rd (Reg.CAP_CC_CLIP c)).toNat 1) else e.rd (Reg.CAP_CC_CLIP c)) ∧
      ((if clips = true then e.clipFrame c else e).capCore c).stepped = (e.capCore c).stepped := by
  cases clips with
  | true => exact ⟨.clipFrame hr, Dev.rd_clipFrame_clip hr, Dev.stepped_clipFrame hr⟩
  | false => exact ⟨.refl _ _ _, rfl, rfl⟩

/-- The boundary after a frame: BLANKED and FROZEN, then the bellows. -/
theorem FrameStep.boundary (d : Dev) : FrameStep c [Reg.CAP_CC_STAT c] d ((d.refreshCore c).bellows c) :=
  (FrameStep.refreshCore d (by simp)).trans (.bellows _ (by simp))

/-- The boundary after an unmarked stretch in MANUAL: the setting written is in use, and marks the next frame where it is a new one. -/
theorem Dev.boundary_manual (hr : d.cap.rot = none) (hm : d.get (Reg.CAP_CC_CTL_MODE c) = 1) (hb : d.coreBlanked c = false)
    (hs : (d.capCore c).stepped = false) :
    ((d.refreshCore c).bellows c).get (Reg.CAP_CC_STAT_LNA c) = d.get (Reg.CAP_CC_CTL_LNA c) ∧
      ((d.refreshCore c).bellows c).get (Reg.CAP_CC_STAT_ATT c) = d.get (Reg.CAP_CC_CTL_ATT c) ∧
      ((((d.refreshCore c).bellows c).capCore c).stepped = true ↔ d.get (Reg.CAP_CC_STAT_LNA c) ≠ d.get (Reg.CAP_CC_CTL_LNA c) ∨
        d.get (Reg.CAP_CC_STAT_ATT c) ≠ d.get (Reg.CAP_CC_CTL_ATT c)) := by
  have hg := FrameStep.refreshCore (c := c) (as := [Reg.CAP_CC_STAT c]) d (by simp)
  have hctl : ∀ {k : Fld}, k.addr = Reg.CAP_CC_CTL c → (d.refreshCore c).get k = d.get k := fun {k} hk =>
    hg.get (by simp only [List.mem_singleton, hk, Reg.CAP_CC_CTL, Reg.CAP_CC_STAT]; omega)
  have hblank : (d.refreshCore c).coreBlanked c = false :=
    (Dev.coreBlanked_congr (d.get_refreshCore (.inr (by simp))) hg.blank hg.now).trans hb
  have hfrozen : (d.refreshCore c).rotFrozen c = false := by
    simp only [Dev.rotFrozen, hg.rot.trans hr]
  obtain ⟨h1, h2, h3⟩ := Dev.wantGain_shows ((d.refreshCore c).updCore c (fun x => { x with mode := 1 })) (c := c)
    (w := (d.get (Reg.CAP_CC_CTL_LNA c), d.get (Reg.CAP_CC_CTL_ATT c))) (getBits_lt _ _ _) (getBits_lt _ _ _)
  rw [Dev.capCore_updCore_same, Dev.get_updCore, Dev.get_updCore, d.get_refreshCore (.inl (by simp)),
    d.get_refreshCore (.inl (by simp)), Dev.capCore_of_cap (Dev.cap_refreshCore d c), hs] at h3
  rw [Dev.bellows_manual _ hfrozen ((hctl rfl).trans hm) hblank, hctl rfl, hctl rfl]
  exact ⟨h1, h2, h3.trans (by simp only [Bool.false_eq_true, false_or])⟩

end

theorem framesMarkCountAndSet : Claim.FramesMarkCountAndSet := by
  intro s c xs ecc d st blanked clips mark
  refine ⟨fun h => goes_of_next rfl (if_neg ?_), fun hc h0 h5 => goes_of_next rfl (if_pos ⟨hc, h0, h5⟩), fun hc h0 h5 hr hp => ?_⟩
  · rintro ⟨hc, h0, h5⟩
    rcases h with h | h | h
    · omega
    · exact h0 h
    · exact h5 h
  obtain ⟨y, hy⟩ := Dev.adcFrame_quiet (c := c) (xs := xs) (ecc := ecc) hr hp
  refine completes_of_goes (goes_of_next rfl (if_pos ⟨hc, h0, h5⟩)) ?_
  rw [hy]
  have hrot : ((d.frameKept c xs ecc).setSnap y).cap.rot = none := Dev.rot_frameKept.trans hr
  obtain ⟨hf, hclip, hstep⟩ := Dev.clip_shows (c := c) (clips := d.frameClips c xs ecc) hrot
  generalize (if d.frameClips c xs ecc = true then ((d.frameKept c xs ecc).setSnap y).clipFrame c
    else (d.frameKept c xs ecc).setSnap y) = f at hf hclip hstep ⊢
  have hb := FrameStep.boundary (c := c) f
  have hcnt : ∀ r < 2, ((f.refreshCore c).bellows c).rd (Reg.CAP_BLKCNT r) = (d.frameKept c xs ecc).rd (Reg.CAP_BLKCNT r) :=
    fun r hr => by
      rw [hb.regs _ (by simp only [List.mem_singleton, Reg.CAP_BLKCNT, Reg.CAP_CC_STAT]; omega),
        hf.regs _ (by simp only [List.mem_cons, List.not_mem_nil, or_false, Reg.CAP_BLKCNT, Reg.CAP_CC_CLIP, Reg.CAP_EVT]; omega)]
      rfl
  have hkept : ∀ a, (∀ r < 2, a ≠ Reg.CAP_BLKCNT r) → ((d.frameKept c xs ecc).setSnap y).rd a = d.rd a :=
    fun a ha => Dev.rd_frameKept_other ha
  have hmark : d.frameMark c ecc = mark := rfl
  refine ⟨?_, fun r hrole hm => ?_, fun r hr => ?_, ?_, fun hm hcb => ?_, ?_, ?_, ?_, ?_, ?_⟩
  · rw [hb.marked, hf.marked, Dev.capCore_setSnap, Dev.capCore_frameKept, hmark]
  · rw [hb.gbank, hf.gbank]
    exact Dev.gbank_frameIn_marked d hrole hm
  · rw [hcnt r hr, Dev.rd_frameKept]
    have hone : (∃ r', d.roleOf c = some r' ∧ Reg.CAP_BLKCNT r = Reg.CAP_BLKCNT r') ↔ d.roleOf c = some r := by
      refine ⟨fun ⟨r', h, he⟩ => ?_, fun h => ⟨r, h, rfl⟩⟩
      rw [h, Option.some.injEq]
      simp only [Reg.CAP_BLKCNT] at he
      omega
    simp only [hone, satInc, min_comm]
    rfl
  · rw [hb.regs _ (by simp only [List.mem_singleton, Reg.CAP_CC_CLIP, Reg.CAP_CC_STAT]; omega), hclip,
      hkept _ (by intro r hr; simp only [Reg.CAP_CC_CLIP, Reg.CAP_BLKCNT]; omega)]
    have hone : d.frameClips c xs ecc = true ↔ mark = false ∧ d.get (Reg.CAP_CC_AGC_CLIPN c) ≤ clips := by
      simp only [Dev.frameClips, hmark, Bool.and_eq_true, Bool.not_eq_true', decide_eq_true_eq]
      rfl
    simp only [hone, satInc, min_comm]
    rfl
  · have hfget : ∀ {g : Fld}, g.addr = Reg.CAP_CC_STAT c ∨ g.addr = Reg.CAP_CC_CTL c → f.get g = d.get g := fun {g} hg => by
      rw [hf.get (by simp only [List.mem_cons, List.not_mem_nil, or_false, Reg.CAP_CC_STAT, Reg.CAP_CC_CTL, Reg.CAP_CC_CLIP,
        Reg.CAP_EVT] at hg ⊢; omega), Dev.get, hkept _ (by
          intro r hr; simp only [Reg.CAP_CC_STAT, Reg.CAP_CC_CTL, Reg.CAP_BLKCNT] at hg ⊢; omega), Dev.get]
    have hblank : f.coreBlanked c = false :=
      (Dev.coreBlanked_congr (hfget (.inl rfl)) (fun x => (hf.blank x).trans (Dev.blank_frameKept x))
        (hf.now.trans Dev.now_frameKept)).trans hcb
    have hstepped : (f.capCore c).stepped = false := by
      rw [hstep, Dev.capCore_setSnap, Dev.capCore_frameKept]
    have hw := Dev.boundary_manual (hf.rot.trans hrot) ((hfget (.inr rfl)).trans hm) hblank hstepped
    rwa [hfget (.inr rfl), hfget (.inr rfl), hfget (.inl rfl), hfget (.inl rfl)] at hw
  · rw [hb.part, hf.part]
    exact Dev.part_frameKept
  · rw [hb.lanes, hf.lanes]
    exact Dev.lanes_frameKept
  · rw [hb.hearths, hf.hearths]
    exact Dev.hearths_frameKept
  · rw [hb.captures, hf.captures]
    exact Dev.captures_frameKept
  · rw [hb.shadow, hf.shadow]
    exact Dev.shadow_frameKept

end Sys2Proof.Machine
end


section
/-! The slow loop and the level of a core, the blanking inputs, and the records of a snapshot. -/

namespace Sys2Proof.Machine

/-! ## The slow loop (R95) -/

/-- The slow loop of a core looks at its level: the core is ready or in service, and nothing freezes its bellows (R95, R100, log 118). -/
def Dev.decayLooks (d : Dev) (c : Nat) : Prop :=
  c < 3 ∧ (d.get (Reg.CAP_CC_STAT_STATE c) = 1 ∨ d.get (Reg.CAP_CC_STAT_STATE c) = 4) ∧ (d.capCore c).mode = 0 ∧
    d.coreBlanked c = false ∧ d.rotFrozen c = false ∧ (d.capCore c).decayAt + d.get (Reg.CAP_CC_AGC_DECAY c) * 1000000 ≤ d.now

theorem Dev.frozen_eq_false (d : Dev) (c : Nat) : d.frozen c = false ↔ d.coreBlanked c = false ∧ d.rotFrozen c = false := by
  simp [Dev.frozen]

section
variable {s : State} {c : Nat}

theorem goes_agcDecayStep_looks (hh : s.dev.held 2 = false) (hd : s.dev.decayLooks c) :
    Goes (.agcDecayStep c) s (s.dev.decayStep c) := by
  obtain ⟨hc, hst, hm, hb, hr, ht⟩ := hd
  exact goes_onBlock rfl hh (if_pos ⟨hc, hst, hm, by simp [Dev.frozen, hb, hr], ht⟩)

theorem goes_agcDecayStep_idle (hd : ¬s.dev.decayLooks c) : Goes (.agcDecayStep c) s s.dev := by
  refine goes_onBlock_keeps rfl fun _ => if_neg ?_
  rintro ⟨hc, hst, hm, hf, ht⟩
  obtain ⟨hb, hr⟩ := (s.dev.frozen_eq_false c).mp (by simpa using hf)
  exact hd ⟨hc, hst, hm, hb, hr, ht⟩

end

/-- A level below the band asks for one step more of gain, or waits for the hold or at GMAX. -/
theorem Dev.decayStep_below {d : Dev} {c : Nat}
    (hl : d.getI (Reg.CAP_CC_LVL_RMS c) < -5 * (d.get (Reg.CAP_CC_AGC_TARGET c) : Int) - 5 * (d.get (Reg.CAP_CC_AGC_HYST c) : Int))
    (hh : d.getI (Reg.CAP_CC_LVL_RMS c) ≤ -5 * (d.get (Reg.CAP_CC_AGC_TARGET c) : Int) + 5 * (d.get (Reg.CAP_CC_AGC_HYST c) : Int)) :
    let g := d.get (Reg.CAP_CC_STAT_GIDX c)
    d.decayStep c = d.setCapCore c (if g < d.get (Reg.CAP_CC_CTL_GMAX c) ∧ (d.capCore c).holdTo ≤ d.now then
      { d.capCore c with decayAt := d.now, gainNext := some ((splitGain (g + 1)).1, (splitGain (g + 1)).2, g + 1) }
      else { d.capCore c with decayAt := d.now }) := by
  by_cases hg : d.get (Reg.CAP_CC_STAT_GIDX c) < d.get (Reg.CAP_CC_CTL_GMAX c) ∧ (d.capCore c).holdTo ≤ d.now
  · simp only [Dev.decayStep, if_neg (not_lt.mpr hh), if_pos (And.intro hl hg), if_pos hg, Nat.add_eq_left, one_ne_zero, if_false]
  · simp only [Dev.decayStep, if_neg (not_lt.mpr hh), if_neg (fun h => hg (And.right h)), if_neg hg, if_true]

/-! ## The level at the ball (R97, R103, R498) -/

section
variable {s : State} {c : Nat} {rms peak : BitVec 16} {est : List Int}

theorem goes_coreLevelUpdate_idle (h : 3 ≤ c ∨ s.dev.get (Reg.CAP_CC_STAT_STATE c) = 0 ∨ s.dev.get (Reg.CAP_CC_STAT_STATE c) = 5 ∨
    s.dev.is (Reg.CAP_CC_STAT_STALE c) = true) : Goes (.coreLevelUpdate c ⟨rms, peak⟩ est) s s.dev := by
  refine goes_onBlock_keeps rfl fun _ => if_neg ?_
  rintro ⟨hc, h0, h5, hs⟩
  rcases h with h | h | h | h
  · omega
  · exact h0 h
  · exact h5 h
  · simp [h] at hs

theorem goes_coreLevelUpdate_shows (hh : s.dev.held 2 = false) (hc : c < 3) (h0 : s.dev.get (Reg.CAP_CC_STAT_STATE c) ≠ 0)
    (h5 : s.dev.get (Reg.CAP_CC_STAT_STATE c) ≠ 5) (hs : s.dev.is (Reg.CAP_CC_STAT_STALE c) = false) :
    let e := (s.dev.wr (Reg.CAP_CC_LVL c) (rms ++ peak)).trackStep c est
    Goes (.coreLevelUpdate c ⟨rms, peak⟩ est) s (e.setI (Reg.CAP_CC_PWR_PWR c) (e.ballPower c rms)) :=
  goes_onBlock rfl hh (if_pos ⟨hc, h0, h5, by simp [hs]⟩)

end

theorem Dev.rssiPoints_nil {d : Dev} {c : Nat} (h : ∀ p < 8, d.rd (Reg.CAL_VAL c (108 + 2 * p)) = 0) : d.rssiPoints c = [] := by
  unfold Dev.rssiPoints
  rw [List.filterMap_eq_nil_iff.mpr fun p hp => ?_]
  · exact List.mergeSort_nil
  · rw [h p (List.mem_range.mp hp)]
    rfl

/-- With no RSSI point the power at the ball is the level, FS_ball of the setting and the corrections of its two codes. -/
theorem Dev.ballPower_plain {d : Dev} {c : Nat} (rms : BitVec 16) (h : d.rssiPoints c = []) :
    let lna := d.get (Reg.CAP_CC_STAT_LNA c)
    let att := d.get (Reg.CAP_CC_STAT_ATT c)
    d.ballPower c rms = roundOpen (100 * rms.toInt + (-2000 + 500 * (att : Int) - 6000 * (lna : Int)) + d.calHi c (36 + lna) +
      d.calHi c (40 + att)) 100 := by
  have ho : d.rssiOffset c = (0, 1) := by
    unfold Dev.rssiOffset
    rw [h]
    rfl
  simp [Dev.ballPower, ho, fsBall]

theorem levelsAndSlowLoop : Claim.LevelsAndSlowLoop := by
  intro s c rms peak est d x st level target hyst g looks goes e lna att hh
  have run : ∀ {y : CapCore}, looks → d.decayStep c = d.setCapCore c y → goes y := fun hl h => by
    have := goes_agcDecayStep_looks hh hl
    rwa [show s.dev.decayStep c = _ from h] at this
  refine ⟨goes_agcDecayStep_idle, fun hl ha hg => run hl (Dev.decayStep_above ha hg), fun hl hb ha hg ht => run hl ?_,
    fun hl hlo hhi => run hl (Dev.decayStep_within hlo hhi), fun hl hb ha hn => run hl ?_, goes_coreLevelUpdate_idle,
    goes_coreLevelUpdate_shows hh, Dev.trackStep_off est, fun h => Dev.ballPower_plain rms (Dev.rssiPoints_nil h)⟩
  · exact (Dev.decayStep_below hb ha).trans (by rw [if_pos ⟨hg, ht⟩])
  · exact (Dev.decayStep_below hb ha).trans (by rw [if_neg fun h => hn.elim (not_le.mpr h.1) (not_lt.mpr h.2)])

/-! ## Blanking (R98 to R101) -/

section
variable {s : State} {x : Nat}

theorem goes_blank_absent (hx : 2 ≤ x) : Goes (.blankAssert x) s s.dev ∧ Goes (.blankRelease x) s s.dev :=
  ⟨goes_of_next rfl (if_neg (by omega)), goes_of_next rfl (if_neg (by omega))⟩

/-- An input that takes a level without a change of what BLANK reads keeps its window. -/
theorem Dev.blankEval_keeps {d : Dev} (h : (d.is (if x = 0 then Reg.CAP_BLKCFG_EN_A else Reg.CAP_BLKCFG_EN_B) &&
      ((d.blank x).level == d.is (if x = 0 then Reg.CAP_BLKCFG_POL_A else Reg.CAP_BLKCFG_POL_B))) = (d.blank x).active) :
    d.blankEval x = (d.setBlank x (d.blank x)).refreshCores := by
  unfold Dev.blankEval
  dsimp only
  rw [h]
  cases (d.blank x).active <;> rfl

theorem goes_blankAssert_keeps (hx : x < 2)
    (h : s.dev.is (if x = 0 then Reg.CAP_BLKCFG_EN_A else Reg.CAP_BLKCFG_EN_B) = (s.dev.blank x).active) :
    Goes (.blankAssert x) s (s.dev.setBlank x { s.dev.blank x with
      level := s.dev.is (if x = 0 then Reg.CAP_BLKCFG_POL_A else Reg.CAP_BLKCFG_POL_B) }).refreshCores := by
  refine goes_of_next rfl ((if_pos hx).trans ((Dev.blankEval_keeps ?_).trans ?_))
  · simp [h]
  · rw [Dev.blank_setBlank_same, Dev.setBlank_setBlank]

theorem goes_blankRelease_keeps (hx : x < 2) (ha : (s.dev.blank x).active = false) :
    Goes (.blankRelease x) s (s.dev.setBlank x { s.dev.blank x with
      level := !s.dev.is (if x = 0 then Reg.CAP_BLKCFG_POL_A else Reg.CAP_BLKCFG_POL_B) }).refreshCores := by
  refine goes_of_next rfl ((if_pos hx).trans ((Dev.blankEval_keeps ?_).trans ?_))
  · simp [ha]
  · rw [Dev.blank_setBlank_same, Dev.setBlank_setBlank]

theorem goes_blkstuck_early (h : ¬(x < 2 ∧ (s.dev.blank x).active = true ∧ (s.dev.blank x).stuckRaised = false ∧
    (s.dev.blank x).since + s.dev.get Reg.CAP_BLKCFG_STUCK * 1000000 ≤ s.dev.now)) : Goes (.blkstuck x) s s.dev := by
  refine goes_onBlock_keeps rfl fun _ => if_neg ?_
  rintro ⟨hx, ha, hr, ht⟩
  exact h ⟨hx, ha, by simpa using hr, ht⟩

end

theorem blankingOpensAndCloses : Claim.BlankingOpensAndCloses := by
  intro s x d b en pol post due
  refine ⟨goes_blank_absent, fun hx => ⟨goes_blankAssert hx, fun he ha => goes_blankAssert_keeps hx (he.trans ha.symm), goes_blankRelease hx,
    goes_blankRelease_keeps hx, fun he ha => goes_blankAssert_keeps hx (he.trans ha.symm), fun hh ⟨ha, hr, ht⟩ => ?_⟩,
    goes_blkstuck_early⟩
  exact goes_blkstuck hh hx ha hr ht

/-! ## The records of a snapshot (R121, R123, R124, R315) -/

section
variable {s : State} {lane : Bool} {n : Nat} {skip : Bool}

theorem goes_snapRecordDone_none (hs : s.dev.cap.snap = none) : Goes (.snapRecordDone lane n skip) s s.dev := by
  refine goes_of_next rfl ?_
  simp only [hs, ite_self]

section
variable {x : Snap} (hs : s.dev.cap.snap = some x)
include hs

theorem goes_snapRecordDone_other (h : x.running = false ∨ lane ≠ (x.mode != 0)) : Goes (.snapRecordDone lane n skip) s s.dev := by
  refine goes_of_next rfl ?_
  have hn : ¬(x.running && lane == (x.mode != 0)) = true := by
    rcases h with h | h
    · simp [h]
    · rw [Bool.and_eq_true, beq_iff_eq]
      exact fun hl => h hl.2
  simp only [hs, if_neg hn, ite_self]

theorem goes_snapRecordDone {t : Dev} (hh : s.dev.held 2 = false) (hr : x.running = true) (ht : s.dev.snapDone x n skip = t) :
    Goes (.snapRecordDone (x.mode != 0) n skip) s t := by
  refine goes_of_next rfl ((if_neg (by simp [hh])).trans ?_)
  simp only [hs, hr, beq_self_eq_true, Bool.and_self, if_true]
  exact ht

end
end

section
variable {d : Dev} {x : Snap} {n : Nat}

theorem Dev.snapDone_none {skip : Bool} (hm : x.mode = 0) (hf : x.full = []) : d.snapDone x n skip = d := by
  simp only [Dev.snapDone, if_pos hm, hf]

theorem Dev.snapDone_written {a : SnapAcc} {rest : List SnapAcc} (hm : x.mode = 0) (hf : x.full = a :: rest) :
    d.snapDone x n false = d.snapRecord { x with full := rest } (packCodes a.codes ++ a.desc (x.written + x.skipped)) := by
  simp only [Dev.snapDone, if_pos hm, hf, Bool.false_eq_true, if_false]

theorem Dev.snapDone_skipped {a : SnapAcc} {rest : List SnapAcc} (hm : x.mode = 0) (hf : x.full = a :: rest) :
    d.snapDone x n true = d.snapSkip { x with full := rest } := by
  simp only [Dev.snapDone, if_pos hm, hf, if_true]

theorem Dev.snapDone_lane_none {skip : Bool} (hm : x.mode ≠ 0) (hf : (SMap.get {} x.lacc n : SnapLane).full = []) :
    d.snapDone x n skip = d := by
  simp only [Dev.snapDone, if_neg hm, hf]

theorem Dev.snapDone_lane_written {r : List Sample × Nat} {rs : List (List Sample × Nat)} (hm : x.mode ≠ 0)
    (hf : (SMap.get {} x.lacc n : SnapLane).full = r :: rs) :
    d.snapDone x n false = d.snapRecord (x.takeLane n) (d.laneRecord n (SMap.get 0 x.laneSeq n) r.2 r.1) := by
  simp only [Dev.snapDone, if_neg hm, hf, Bool.false_eq_true, if_false]

/-- The device with a record of a snapshot in the ring, and counted. -/
def Dev.recordIn (d : Dev) (x : Snap) (bs : List Byte) : Dev :=
  let d := d.dramWrite (x.base + 4096 + x.written % x.n * x.z) bs
  let d := if x.n ≤ x.written then d.set Reg.CAP_SNAPSTAT_WRAPPED 1 else d
  d.incSat Reg.CAP_SNAPSTAT_RECORDS 1

/-- The record just written was the last one (R121). -/
def Snap.ends (x : Snap) : Prop :=
  (x.ring = true ∧ ∃ t, x.trigRec = some t ∧ t.1 + x.post ≤ x.written) ∨ (x.ring = false ∧ x.n ≤ x.written + 1)

variable {bs : List Byte}

theorem Dev.snapRecord_aborts (ha : x.aborting = true) :
    d.snapRecord x bs = (d.recordIn x bs).snapStop { x with written := x.written + 1 } true := if_pos ha

section
variable (ha : x.aborting = false)
include ha

theorem Dev.snapRecord_ends (he : x.ends) :
    d.snapRecord x bs = (d.recordIn x bs).snapStop { x with written := x.written + 1 } false := by
  refine (if_neg (by simp [ha])).trans (if_pos ?_)
  rcases he with ⟨hr, t, ht, hl⟩ | ⟨hr, hl⟩
  · simp only [hr, if_true, ht, decide_eq_true_eq]
    omega
  · simp [hr, hl]

theorem Dev.snapRecord_goesOn (he : ¬x.ends) : d.snapRecord x bs = (d.recordIn x bs).setSnap (some { x with written := x.written + 1 }) := by
  refine (if_neg (by simp [ha])).trans (if_neg fun h => he ?_)
  dsimp only at h
  cases hr : x.ring with
  | false => exact .inr ⟨hr, by simpa [hr] using h⟩
  | true =>
    cases ht : x.trigRec with
    | none => simp [hr, ht] at h
    | some t =>
      simp only [hr, if_true, ht, decide_eq_true_eq] at h
      exact .inl ⟨hr, t, ht, by omega⟩

end
end

theorem snapshotWritesItsRecords : Claim.SnapshotWritesItsRecords := by
  intro s n x a rest t d C e w1 w2 w on stop
  refine ⟨fun lane skip => goes_snapRecordDone_none, fun lane skip => goes_snapRecordDone_other, fun hh hs hr => ?_⟩
  have goes : ∀ {skip : Bool} {u : Dev}, d.snapDone x n skip = u → Goes (C skip) s u := goes_snapRecordDone hs hh hr
  refine ⟨fun skip hm hf => goes (Dev.snapDone_none hm hf), fun hm hf => ?_, fun skip hm hf => goes (Dev.snapDone_lane_none hm hf),
    fun r rs hm hf => goes (Dev.snapDone_lane_written hm hf)⟩
  have goOn : x.aborting = false → ¬e.ends → on := fun ha he => goes ((Dev.snapDone_written hm hf).trans (Dev.snapRecord_goesOn ha he))
  have ends : x.aborting = false → e.ends → stop false := fun ha he =>
    goes ((Dev.snapDone_written hm hf).trans (Dev.snapRecord_ends ha he))
  have hends : e.ends ↔ (x.ring = true ∧ ∃ t, x.trigRec = some t ∧ t.1 + x.post ≤ x.written) ∨ (x.ring = false ∧ x.n ≤ x.written + 1) :=
    Iff.rfl
  refine ⟨fun ha => goes ((Dev.snapDone_skipped hm hf).trans (if_neg (by simp [ha]))),
    fun ha => goes ((Dev.snapDone_skipped hm hf).trans (if_pos ha)), fun ha hr hl => goOn ha ?_, fun ha hr hl => ends ha (.inr ⟨hr, hl⟩),
    fun ha hr ht => goOn ha ?_, fun ha hr ht hl => goOn ha ?_, fun ha hr ht hl => ends ha (.inl ⟨hr, t, ht, hl⟩),
    fun ha => goes ((Dev.snapDone_written hm hf).trans (Dev.snapRecord_aborts ha))⟩
  · simp [hends, hr]; omega
  · simp [hends, hr, ht]
  · simp [hends, hr, ht]; omega

/-- Settles O36: frames by what each step of a frame leaves, the slow loop and the level by their branches, the blanking inputs by what
BLANK reads, the records by how the snapshot goes on. BLKCNT on the core of a role (log 34), WRAPPED at the record after the last place
(log 102) and the slow loop on a core that is STANDBY or IN_SERVICE alone (log 118) are the model's choices. -/
theorem framesGainAndSnapshots : Obligations.FramesGainAndSnapshots :=
  ⟨framesMarkCountAndSet, levelsAndSlowLoop, blankingOpensAndCloses, snapshotWritesItsRecords⟩

end Sys2Proof.Machine
end


section
/-! What a change of the device leaves of the capture block: a frame over fields, with the shared operations that keep the cores' status and faults. -/

namespace Sys2Proof.Machine

/-! ## Fields that a change keeps -/

/-- A change that keeps the fields `P`, the time, the calibration unit, the rotation and replacement under way and what a core is known by. -/
structure KeepsFields (P : Fld → Prop) (d t : Dev) : Prop where
  get : ∀ f, P f → t.get f = d.get f
  now : t.now = d.now
  cal : t.cal = d.cal
  rot : t.cap.rot = d.cap.rot
  replacing : t.cap.replacing = d.cap.replacing
  calibrated : ∀ k, (t.capCore k).calibrated = (d.capCore k).calibrated
  since : ∀ k, (t.capCore k).since = (d.capCore k).since

/-- Two fields share no bit. -/
def Fld.apart (f g : Fld) : Prop := f.addr ≠ g.addr ∨ f.hi < g.lo ∨ g.hi < f.lo

namespace KeepsFields
variable {P Q : Fld → Prop} {d t u : Dev}

theorem refl (P : Fld → Prop) (d : Dev) : KeepsFields P d d := ⟨fun _ _ => rfl, rfl, rfl, rfl, rfl, fun _ => rfl, fun _ => rfl⟩

theorem trans (h : KeepsFields P d t) (k : KeepsFields P t u) : KeepsFields P d u :=
  ⟨fun f hf => (k.get f hf).trans (h.get f hf), k.now.trans h.now, k.cal.trans h.cal, k.rot.trans h.rot,
    k.replacing.trans h.replacing, fun i => (k.calibrated i).trans (h.calibrated i), fun i => (k.since i).trans (h.since i)⟩

theorem mono (h : KeepsFields P d t) (hq : ∀ f, Q f → P f) : KeepsFields Q d t := { h with get := fun f hf => h.get f (hq f hf) }

theorem ite {p : Prop} [Decidable p] (h : KeepsFields P d t) (k : KeepsFields P d u) : KeepsFields P d (if p then t else u) := by
  split
  · exact h
  · exact k

theorem foldl {α : Type} {g : Dev → α → Dev} (hg : ∀ e a, KeepsFields P e (g e a)) (xs : List α) (d : Dev) :
    KeepsFields P d (xs.foldl g d) := by
  induction xs generalizing d with
  | nil => exact .refl P d
  | cons a xs ih => exact (hg d a).trans (ih _)

/-- A change outside the capture block's record. -/
theorem of_cap (hg : ∀ f, P f → t.get f = d.get f) (hn : t.now = d.now) (hl : t.cal = d.cal) (hc : t.cap = d.cap) : KeepsFields P d t :=
  ⟨hg, hn, hl, by rw [hc], by rw [hc], fun k => by rw [Dev.capCore_of_cap hc], fun k => by rw [Dev.capCore_of_cap hc]⟩

/-- A change of neither the registers nor the capture block. -/
theorem of_regs (hr : t.regs = d.regs) (hn : t.now = d.now) (hl : t.cal = d.cal) (hc : t.cap = d.cap) : KeepsFields P d t :=
  .of_cap (fun f _ => by rw [Dev.get, Dev.get, Dev.rd_eq_of_regs hr]) hn hl hc

theorem wr (d : Dev) {a : Nat} (w : Word) (ha : ∀ f, P f → f.addr ≠ a) : KeepsFields P d (d.wr a w) :=
  ⟨fun f hf => Dev.get_wr_other d w (ha f hf), rfl, rfl, rfl, rfl, fun _ => rfl, fun _ => rfl⟩

theorem set (d : Dev) {g : Fld} (v : Nat) (ha : ∀ f, P f → f.apart g) (hg : g.hi ≤ 31 := by simp) (hl : g.lo ≤ g.hi := by simp) :
    KeepsFields P d (d.set g v) :=
  ⟨fun f hf => (ha f hf).elim (Dev.get_set_other d v) (Dev.get_set_apart d v hg hl), rfl, rfl, rfl, rfl, fun _ => rfl, fun _ => rfl⟩

theorem raise (d : Dev) {a : Nat} (b : Nat) (ha : ∀ f, P f → f.addr ≠ a) : KeepsFields P d (d.raise a b) :=
  .of_cap (fun f hf => Dev.get_raise_other d b (ha f hf)) (by simp) (by simp) (by simp)

theorem sootE (d : Dev) (sev source code det : Nat) (ha : ∀ f, P f → f.addr < Reg.SOOT_STAT) :
    KeepsFields P d (d.sootE sev source code det) := by
  refine .of_cap (fun f hf => ?_) (by simp) (by simp) (by simp)
  have := ha f hf
  rw [Dev.get, Dev.get, Dev.rd_sootE _ _ _ _ _ (by omega) (fun n => by simp only [Reg.SOOT_RING, Reg.SOOT_STAT] at *; omega)]

/-- A change of a core's record that leaves what it is known by. -/
theorem updCore (d : Dev) (c : Nat) {g : CapCore → CapCore} (hc : ∀ x, (g x).calibrated = x.calibrated) (hs : ∀ x, (g x).since = x.since) :
    KeepsFields P d (d.updCore c g) := by
  have hcore : ∀ k, (d.updCore c g).capCore k = if k = c then g (d.capCore c) else d.capCore k := fun k =>
    SMap.get_put _ _ _ _ _
  refine ⟨fun _ _ => rfl, rfl, rfl, rfl, rfl, fun k => ?_, fun k => ?_⟩
  · rw [hcore]
    split
    · next h => rw [hc, h]
    · rfl
  · rw [hcore]
    split
    · next h => rw [hs, h]
    · rfl

theorem is (h : KeepsFields P d t) {f : Fld} (hf : P f) : t.is f = d.is f := by simp only [Dev.is, h.get f hf]

end KeepsFields

/-! ## The capture block's fields -/

/-- MIGR and the fields of the capture pages, but for the block's event register and a core's BLANKED and FROZEN. -/
def captureField (f : Fld) : Prop :=
  f = Reg.SYS_MARGIN_MIGR ∨
    (0x40000 ≤ f.addr ∧ f.addr < 0x45000 ∧ f.addr ≠ Reg.CAP_EVT ∧ ((∀ k < 3, f.addr ≠ Reg.CAP_CC_STAT k) ∨ f.hi < 22 ∨ 23 < f.lo))

/-- A register outside the capture pages and SYS_MARGIN. -/
theorem captureField.addr_ne {f : Fld} (h : captureField f) {a : Nat} (ha : a ≠ Reg.SYS_MARGIN)
    (hr : a < 0x40000 ∨ 0x45000 ≤ a ∨ a = Reg.CAP_EVT) : f.addr ≠ a := by
  rcases h with rfl | ⟨h1, h2, h3, -⟩
  · exact fun h => ha h.symm
  · omega

/-- A field of a core's page that shares no bit with its BLANKED and FROZEN. -/
theorem captureField.of_core {f : Fld} {c o : Nat} (hc : c < 4) (ha : f.addr = 0x41000 + o + c * 0x1000) (ho : o < 0x1000)
    (hf : o ≠ 8 ∨ f.hi < 22 ∨ 23 < f.lo) : captureField f := by
  refine .inr ⟨by omega, by omega, by simp only [Reg.CAP_EVT]; omega, ?_⟩
  rcases hf with h | h
  · exact .inl fun k _ => by simp only [Reg.CAP_CC_STAT]; omega
  · exact .inr h

theorem captureField.below_soot {f : Fld} (h : captureField f) : f.addr < Reg.SOOT_STAT := by
  rcases h with rfl | ⟨-, h2, -, -⟩
  · decide
  · simp only [Reg.SOOT_STAT]
    omega

theorem captureField.apart_frozen {f : Fld} (h : captureField f) {c : Nat} (hc : c < 3) :
    f.apart (Reg.CAP_CC_STAT_BLANKED c) ∧ f.apart (Reg.CAP_CC_STAT_FROZEN c) := by
  rcases h with rfl | ⟨-, -, -, h⟩
  · simp only [Fld.apart]
    omega
  · simp only [Fld.apart]
    rcases h with h | h | h
    · exact ⟨.inl (h c hc), .inl (h c hc)⟩
    · omega
    · omega

theorem captureField.migr : captureField Reg.SYS_MARGIN_MIGR := .inl rfl

/-- A change that keeps the capture block's fields. -/
abbrev KeepsCapture (d t : Dev) : Prop := KeepsFields captureField d t

namespace KeepsCapture
variable (d : Dev)

theorem raise_outside {a : Nat} (b : Nat) (ha : a ≠ Reg.SYS_MARGIN) (hr : a < 0x40000 ∨ 0x45000 ≤ a ∨ a = Reg.CAP_EVT) :
    KeepsCapture d (d.raise a b) := .raise d b fun _ hf => hf.addr_ne ha hr

theorem set_outside {f : Fld} (v : Nat) (ha : f.addr ≠ Reg.SYS_MARGIN) (hr : f.addr < 0x40000 ∨ 0x45000 ≤ f.addr) :
    KeepsCapture d (d.set f v) := .wr d _ fun _ hf => hf.addr_ne ha (by omega)

theorem sootE (sev source code det : Nat) : KeepsCapture d (d.sootE sev source code det) :=
  KeepsFields.sootE d _ _ _ _ fun _ hf => hf.below_soot

theorem refreshCore {c : Nat} (hc : c < 3) : KeepsCapture d (d.refreshCore c) :=
  (KeepsFields.set d _ (fun _ hf => (hf.apart_frozen hc).1)).trans (.set _ _ fun _ hf => (hf.apart_frozen hc).2)

theorem refreshCores : KeepsCapture d d.refreshCores :=
  ((refreshCore d (by decide : 0 < 3)).trans (refreshCore _ (by decide : 1 < 3))).trans (refreshCore _ (by decide : 2 < 3))

theorem refreshNocores : KeepsCapture d d.refreshNocores :=
  .foldl (fun e n => set_outside e _ (by simp only [Reg.GRT_LSTAT, Reg.SYS_MARGIN]; omega) (by simp only [Reg.GRT_LSTAT]; omega)) _ _

theorem setLane (n : Nat) (x : Lane) : KeepsCapture d (d.setLane n x) := .of_regs rfl rfl rfl rfl
theorem setHearth (h : Nat) (x : Hearth) : KeepsCapture d (d.setHearth h x) := .of_regs rfl rfl rfl rfl

theorem setBank (r : Nat) (x : GrateBank) : KeepsCapture d (d.setBank r x) := by
  unfold Dev.setBank
  exact .ite (.of_regs rfl rfl rfl rfl) (.of_regs rfl rfl rfl rfl)

theorem bankBack (r : Nat) : KeepsCapture d (d.bankBack r) := by
  unfold Dev.bankBack
  dsimp only
  split
  · exact setBank _ _ _
  · exact .refl _ d

theorem setSnap (y : Option Snap) : KeepsCapture d (d.setSnap y) := ⟨fun _ _ => rfl, rfl, rfl, rfl, rfl, fun _ => rfl, fun _ => rfl⟩

theorem snapChg (role flag : Nat) : KeepsCapture d (d.snapChg role flag) := by
  unfold Dev.snapChg
  split
  · exact .ite (setSnap d _) (.refl _ d)
  · exact .refl _ d

theorem snapLaneChg (role : Nat) : KeepsCapture d (d.snapLaneChg role) := by
  unfold Dev.snapLaneChg
  split
  · exact .ite (setSnap d _) (.refl _ d)
  · exact .refl _ d

theorem sysPost (n : Nat) (w : Word) : KeepsCapture d (d.sysPost n w) := by
  have hp := setLane d n { d.lane n with sysHeld := (d.lane n).sysHeld ++ [w] }
  unfold Dev.sysPost
  dsimp only
  split
  · next h _ => exact hp.trans (.ite ((setHearth _ _ _).trans (setLane _ _ _)) (.refl _ _))
  · exact hp

theorem migStart (n mstate : Nat) : KeepsCapture d (d.migStart n mstate) :=
  ((set_outside d _ (by simp only [Reg.LANE_BIND, Reg.SYS_MARGIN]; omega) (by simp only [Reg.LANE_BIND]; omega)).trans
    (raise_outside _ _ (by simp only [Reg.LANE_STAT, Reg.SYS_MARGIN]; omega) (by simp only [Reg.LANE_STAT]; omega))).trans
    (raise_outside _ _ (by decide) (by decide))

theorem askResync (n faultT : Nat) : KeepsCapture d (d.askResync n faultT) := by
  unfold Dev.askResync
  dsimp only
  refine .ite (.trans ?_ ((sysPost _ n _).trans (migStart _ n _))) (.refl _ d)
  split
  · exact (setLane _ _ _).trans (setHearth _ _ _)
  · exact setLane _ _ _

/-- The lanes fed from a bank are asked to re-acquire, which is no matter of the capture block. -/
theorem bankResync (role faultT : Nat) : KeepsCapture d (d.bankResync role faultT) :=
  .foldl (fun e n => .ite ((setLane e n _).trans (askResync _ _ _)) (.refl _ e)) _ _

/-- SYS_MARGIN is written as a whole, with MIGR as it was. -/
theorem writeMargin {w : Word} (hw : getBits w 2 2 = getBits (d.rd Reg.SYS_MARGIN) 2 2) : KeepsCapture d (d.wr Reg.SYS_MARGIN w) := by
  refine ⟨fun f hf => ?_, rfl, rfl, rfl, rfl, fun _ => rfl, fun _ => rfl⟩
  rcases hf with rfl | ⟨h1, -, -, -⟩
  · rw [Dev.get, Dev.rd_wr_same, hw]
    rfl
  · exact Dev.get_wr_other _ _ (by simp only [Reg.SYS_MARGIN]; omega)

theorem refreshMargin : KeepsCapture d d.refreshMargin := by
  have hov : ∀ (w v : Word) (p : Prop) [Decidable p],
      KeepsCapture d (if p then ((d.wr Reg.OVN_DEMAND w).wr Reg.OVN_CAPACITY v).raise Reg.OVN_EVT 3
        else (d.wr Reg.OVN_DEMAND w).wr Reg.OVN_CAPACITY v) := fun w v p _ => by
    have hd : KeepsCapture d ((d.wr Reg.OVN_DEMAND w).wr Reg.OVN_CAPACITY v) :=
      (KeepsFields.wr d w fun f hf => hf.addr_ne (by decide) (by decide)).trans
        (.wr _ v fun f hf => hf.addr_ne (by decide) (by decide))
    exact .ite (hd.trans (raise_outside _ _ (by decide) (by decide))) hd
  have hstandby : ∀ (e : Dev) (b : Nat) (p : Prop) [Decidable p], KeepsCapture e (if p then e else e.raise Reg.CAP_EVT b) :=
    fun e b p _ => .ite (.refl _ e) (raise_outside e b (by decide) (by decide))
  have hintact : ∀ (e : Dev) (b : Nat) (p : Prop) [Decidable p], KeepsCapture e (if p then e.raise Reg.HMG_EVT b else e) :=
    fun e b p _ => .ite (raise_outside e b (by decide) (by decide)) (.refl _ e)
  unfold Dev.refreshMargin
  dsimp only
  refine (((hov _ _ _).trans (writeMargin _ ?_)).trans (hstandby _ _ _)).trans (hintact _ _ _)
  simp [getBits_putBits_other]

end KeepsCapture

end Sys2Proof.Machine
end


section
/-! The monitors of a capture core, its failure, and the standby that replaces it. -/

namespace Sys2Proof.Machine

/-! ## What the roles depend on -/

/-- The fields that the roles, the standby and a rotation's readiness are read from. -/
def roleField (f : Fld) : Prop := f = Reg.SYS_MARGIN_MIGR ∨ f.addr = Reg.CAP_ROLE ∨ ∃ k < 4, f = Reg.CAP_CC_STAT_STATE k

theorem roleField.capture {f : Fld} (h : roleField f) : captureField f := by
  rcases h with rfl | h | ⟨k, hk, rfl⟩
  · exact .migr
  · refine .inr ⟨?_, ?_, ?_, .inl fun k hk => ?_⟩ <;> simp only [h, Reg.CAP_ROLE, Reg.CAP_EVT, Reg.CAP_CC_STAT] <;> omega
  · exact .of_core hk (o := 8) rfl (by omega) (.inr (.inr (by simp)))

theorem roleField.apart_suspect {f : Fld} (h : roleField f) (c : Nat) : f.apart (Reg.CAP_CC_STAT_SUSPECT c) := by
  rcases h with rfl | h | ⟨k, -, rfl⟩
  · exact .inl (by simp only [Reg.SYS_MARGIN, Reg.CAP_CC_STAT]; omega)
  · exact .inl (by simp only [h, Reg.CAP_ROLE, Reg.CAP_CC_STAT]; omega)
  · exact .inr (.inr (by simp))

theorem roleField.apart_health {f : Fld} (h : roleField f) {c : Nat} {g : Fld} (hg : g.addr = Reg.CAP_CC_HEALTH c) : f.apart g := by
  refine .inl ?_
  rw [hg]
  rcases h with rfl | h | ⟨k, -, rfl⟩
  · simp only [Reg.SYS_MARGIN, Reg.CAP_CC_HEALTH]; omega
  · simp only [h, Reg.CAP_ROLE, Reg.CAP_CC_HEALTH]; omega
  · simp only [Reg.CAP_CC_STAT, Reg.CAP_CC_HEALTH]; omega

/-- A role's core number is that of a core, or 3 for none. -/
theorem Dev.get_role_lt (d : Dev) {f : Fld} (hf : f.hi + 1 - f.lo = 2) : d.get f < 4 := by
  have h := getBits_lt (d.rd f.addr) f.hi f.lo
  rwa [hf] at h

theorem Dev.roleCore_lt (d : Dev) (r : Nat) : d.roleCore r < 4 := by
  unfold Dev.roleCore
  split
  · exact d.get_role_lt rfl
  · exact d.get_role_lt rfl

theorem Dev.standbyCore_isSome_iff (d : Dev) : d.standbyCore.isSome = true ↔ d.get Reg.CAP_ROLE_CORE_SB < 3 ∧
    d.get (Reg.CAP_CC_STAT_STATE (d.get Reg.CAP_ROLE_CORE_SB)) ≠ 5 ∧ (d.capCore (d.get Reg.CAP_ROLE_CORE_SB)).calibrated = true := by
  unfold Dev.standbyCore
  dsimp only
  split
  · next h => simpa using h
  · next h => simpa using h

namespace KeepsFields
variable {d t : Dev} (h : KeepsFields roleField d t)
include h

theorem role {f : Fld} (hf : f.addr = Reg.CAP_ROLE) : t.get f = d.get f := h.get f (.inr (.inl hf))

theorem state {k : Nat} (hk : k < 4) : t.get (Reg.CAP_CC_STAT_STATE k) = d.get (Reg.CAP_CC_STAT_STATE k) :=
  h.get _ (.inr (.inr ⟨k, hk, rfl⟩))

theorem migr : t.migr = d.migr := h.is (.inl rfl)

theorem roleOf (c : Nat) : t.roleOf c = d.roleOf c := by
  simp only [Dev.roleOf, h.role (f := Reg.CAP_ROLE_CORE_A) rfl, h.role (f := Reg.CAP_ROLE_CORE_B) rfl]

theorem roleCore (r : Nat) : t.roleCore r = d.roleCore r := by
  unfold Dev.roleCore
  split
  · exact h.role rfl
  · exact h.role rfl

theorem standbyCore : t.standbyCore = d.standbyCore := by
  simp only [Dev.standbyCore, h.role (f := Reg.CAP_ROLE_CORE_SB) rfl, h.state (d.get_role_lt (f := Reg.CAP_ROLE_CORE_SB) rfl),
    h.calibrated]

theorem rotReady : t.rotReady = d.rotReady := by
  have hs : ∀ r, t.inService r = d.inService r := fun r => by
    simp only [Dev.inService, Dev.coreState, h.roleCore, h.state (d.roleCore_lt r)]
  simp only [Dev.rotReady, h.rot, h.migr, h.standbyCore, h.replacing, hs]

end KeepsFields

/-! ## The monitors (R114) -/

theorem monitorLevel_eq_two (cause v : Nat) (others : Bool) : monitorLevel cause v others = 2 ↔
    (cause = 1 ∧ v < 8 ∧ others = true) ∨ (cause = 2 ∧ 1000 < v) ∨ (cause = 3 ∧ 10000 < v) ∨ (cause = 4 ∧ 0 < v) ∨ (cause = 5 ∧ 16 ≤ v) := by
  unfold monitorLevel
  split <;> simp <;> grind

theorem monitorLevel_eq_zero (cause v : Nat) (others : Bool) : monitorLevel cause v others = 0 ↔
    (cause = 1 ∧ 32 ≤ v) ∨ (cause = 2 ∧ v ≤ 500) ∨ (cause = 3 ∧ v ≤ 5000) ∨ (cause = 4 ∧ v = 0) ∨ (cause = 5 ∧ v < 4) ∨
      cause = 0 ∨ 6 ≤ cause := by
  unfold monitorLevel
  split <;> simp <;> grind

/-- A level is reached by one of the five monitors, and the clock monitor reaches no suspect level. -/
theorem cause_lt_of_level {cause v : Nat} {others : Bool} (h : monitorLevel cause v others ≠ 0) : cause < 6 := by
  by_contra hc
  exact h ((monitorLevel_eq_zero _ _ _).mpr (by omega))

theorem cause_ne_four_of_suspect {cause v : Nat} {others : Bool} (h : monitorLevel cause v others = 1) : cause ≠ 4 := by
  rintro rfl
  simp only [monitorLevel] at h
  split at h <;> omega

/-- The core's monitors as a window at level `lvl` leaves them, with SUSPECT following them. -/
def Dev.windowMark (d : Dev) (c cause sub lvl : Nat) : Dev :=
  (d.updCore c (fun x => { x with
    sus := if lvl = 0 ∨ cause = 4 then x.sus.filter (· != (cause, sub)) else (cause, sub) :: x.sus.filter (· != (cause, sub)) })).refreshSuspect c

/-- A core with a monitor at its suspect level or above: marked, with the cause, and CORESUSPECT as the mark comes (R114, R115). -/
def Dev.windowSuspect (d : Dev) (c cause sub lvl : Nat) : Dev :=
  let e := (d.windowMark c cause sub lvl).set (Reg.CAP_CC_HEALTH_CAUSE c) cause
  if d.is (Reg.CAP_CC_STAT_SUSPECT c) = true ∨ cause = 4 then e else (e.raise Reg.CAP_EVT 3).sootE 1 2 0x3001 (cause * 256 + c)

/-- The sub-converter of a monitor at its failure level noted in SUBFAIL. -/
def Dev.windowFailure (d : Dev) (c cause sub : Nat) : Dev :=
  let e := d.windowSuspect c cause sub 2
  if cause = 5 then e else e.set (Reg.CAP_CC_HEALTH_SUBFAIL c) (e.get (Reg.CAP_CC_HEALTH_SUBFAIL c) ||| 2 ^ sub)

section
variable {d : Dev} {c cause sub v start : Nat} {others : Bool}

theorem Dev.monitor_below (h : monitorLevel cause v others = 0) : d.monitor c cause sub v others start =
    (d.updCore c (fun x => { x with sus := x.sus.filter (· != (cause, sub)) })).refreshSuspect c := by
  simp [Dev.monitor, h]

theorem Dev.monitor_suspect (h : monitorLevel cause v others = 1) :
    d.monitor c cause sub v others start = (d.windowSuspect c cause sub 1).rotSuspects := by
  simp only [Dev.monitor, h]
  rfl

theorem Dev.monitor_failure (h : monitorLevel cause v others = 2) :
    d.monitor c cause sub v others start = (d.windowFailure c cause sub).coreFail c cause start := by
  simp only [Dev.monitor, h]
  rfl

theorem Dev.windowMark_keepsRoles (d : Dev) (c cause sub lvl : Nat) : KeepsFields roleField d (d.windowMark c cause sub lvl) := by
  unfold Dev.windowMark Dev.refreshSuspect
  refine .trans (.trans ?_ (.set (g := Reg.CAP_CC_HEALTH_SUBSUS c) _ _ fun _ hf => hf.apart_health rfl))
    (.set (g := Reg.CAP_CC_STAT_SUSPECT c) _ _ fun _ hf => hf.apart_suspect c)
  exact .updCore d c (fun _ => rfl) fun _ => rfl

/-- Beyond the mark and the cause, a suspect's window writes events and the log. -/
theorem Dev.windowSuspect_keepsCapture (d : Dev) (c cause sub lvl : Nat) :
    KeepsCapture ((d.windowMark c cause sub lvl).set (Reg.CAP_CC_HEALTH_CAUSE c) cause) (d.windowSuspect c cause sub lvl) :=
  .ite (.refl _ _) ((KeepsCapture.raise_outside _ 3 (a := Reg.CAP_EVT) (by decide) (by decide)).trans (KeepsCapture.sootE _ _ _ _ _))

theorem Dev.windowSuspect_keepsRoles (d : Dev) (c cause sub lvl : Nat) : KeepsFields roleField d (d.windowSuspect c cause sub lvl) :=
  ((d.windowMark_keepsRoles c cause sub lvl).trans
    (.set (g := Reg.CAP_CC_HEALTH_CAUSE c) _ _ fun _ hf => roleField.apart_health hf rfl)).trans
    ((d.windowSuspect_keepsCapture c cause sub lvl).mono fun _ hf => hf.capture)

theorem Dev.windowFailure_keepsRoles (d : Dev) (c cause sub : Nat) : KeepsFields roleField d (d.windowFailure c cause sub) :=
  .ite (d.windowSuspect_keepsRoles c cause sub 2)
    ((d.windowSuspect_keepsRoles c cause sub 2).trans
      (.set (g := Reg.CAP_CC_HEALTH_SUBFAIL c) _ _ fun _ hf => roleField.apart_health hf rfl))

/-- A window at the suspect level marks its core and names the cause. -/
theorem Dev.windowSuspect_shows (hc : c < 3) (hcause : cause < 6) (h4 : cause ≠ 4) :
    (d.windowSuspect c cause sub 1).is (Reg.CAP_CC_STAT_SUSPECT c) = true ∧
      (d.windowSuspect c cause sub 1).get (Reg.CAP_CC_HEALTH_CAUSE c) = cause := by
  have hk := d.windowSuspect_keepsCapture c cause sub 1
  have hsus : captureField (Reg.CAP_CC_STAT_SUSPECT c) := .of_core (Nat.lt_succ_of_lt hc) (o := 8) rfl (by omega) (.inr (.inr (by simp)))
  have hhealth : captureField (Reg.CAP_CC_HEALTH_CAUSE c) := .of_core (Nat.lt_succ_of_lt hc) (o := 0x18) rfl (by omega) (.inl (by omega))
  constructor
  · rw [hk.is hsus, Dev.is, Dev.get_set_other _ _ (by simp)]
    unfold Dev.windowMark Dev.refreshSuspect
    rw [Dev.get_set_same _ _ (by simp) (by simp), Dev.capCore_updCore_same, if_neg (by omega)]
    rfl
  · rw [hk.get _ hhealth, Dev.get_set_same _ _ (by simp) (by simp)]
    norm_num
    omega

/-- CORESUSPECT is raised as the mark comes, by a monitor other than the clock's. -/
theorem Dev.windowSuspect_event (hs : d.is (Reg.CAP_CC_STAT_SUSPECT c) = false) (h4 : cause ≠ 4)
    (hf : d.evtFree Reg.CAP_EVT 3 0 = true) : ((d.windowSuspect c cause sub 1).rd Reg.CAP_EVT).getLsbD 3 = true := by
  unfold Dev.windowSuspect
  dsimp only
  rw [if_neg (by simp [hs, h4]), Dev.rd_sootE _ _ _ _ _ (by decide) (fun n => by simp only [Reg.SOOT_RING, Reg.CAP_EVT]; omega)]
  exact Dev.getLsbD_raise_free hf (by decide)

theorem Dev.windowSuspect_units (d : Dev) (c cause sub lvl : Nat) :
    (d.windowSuspect c cause sub lvl).lanes = d.lanes ∧ (d.windowSuspect c cause sub lvl).hearths = d.hearths := by
  unfold Dev.windowSuspect
  dsimp only
  split
  · exact ⟨rfl, rfl⟩
  · rw [Dev.lanes_sootE, Dev.lanes_raise, Dev.hearths_sootE, Dev.hearths_raise]
    exact ⟨rfl, rfl⟩

theorem Dev.rotSuspects_notReady (h : d.rotReady = false) : d.rotSuspects = d := if_pos (by simp [h])

end

/-! ## The failure of a core in service (R114, R116) -/

/-- A failed core as it is recorded: FAILED, isolated, with the cause and the time (R114, R119). -/
def Dev.coreMarked (d : Dev) (c cause faultT : Nat) : Dev :=
  (((d.set (Reg.CAP_CC_HEALTH_CAUSE c) cause).wr64 (Reg.CAP_CC_FAULT_LO c) (Reg.CAP_CC_FAULT_HI c) faultT).setCore c 5 0).updCore c
    (fun x => { x with calibrated := false })

/-- The replacement under way set. -/
def Dev.setReplacing (d : Dev) (y : Option Replacing) : Dev := { d with cap := { d.cap with replacing := y } }

@[simp] theorem Dev.get_setReplacing (d : Dev) (y : Option Replacing) (f : Fld) : (d.setReplacing y).get f = d.get f := rfl

theorem Dev.replacing_setReplacing (d : Dev) (y : Option Replacing) : (d.setReplacing y).cap.replacing = y := rfl

@[simp] theorem Dev.rd_updCore (d : Dev) (k : Nat) (f : CapCore → CapCore) (a : Nat) : (d.updCore k f).rd a = d.rd a := rfl

theorem Dev.now_updCore (d : Dev) (k : Nat) (f : CapCore → CapCore) : (d.updCore k f).now = d.now := rfl
theorem Dev.cal_updCore (d : Dev) (k : Nat) (f : CapCore → CapCore) : (d.updCore k f).cal = d.cal := rfl
theorem Dev.replacing_updCore (d : Dev) (k : Nat) (f : CapCore → CapCore) : (d.updCore k f).cap.replacing = d.cap.replacing := rfl

section
variable {d : Dev} {c cause faultT : Nat}

theorem Dev.coreRecord_keepsCapture (d : Dev) (c cause faultT : Nat) :
    KeepsCapture (d.coreMarked c cause faultT) (d.coreRecord c cause faultT) :=
  ((KeepsCapture.raise_outside _ 4 (a := Reg.CAP_EVT) (by decide) (by decide)).trans (KeepsCapture.refreshCores _)).trans
    (KeepsCapture.refreshNocores _)

theorem Dev.rd64_of_get (d : Dev) (c : Nat) : d.rd64 (Reg.CAP_CC_FAULT_LO c) (Reg.CAP_CC_FAULT_HI c) =
    d.get (Reg.CAP_CC_FAULT_HI_TIME c) * 2 ^ 32 + d.get (Reg.CAP_CC_FAULT_LO_TIME c) := by
  have hw : ∀ w : Word, getBits w 31 0 = w.toNat := fun w => by simp [getBits]
  simp only [Dev.rd64, of64, Dev.get, hw]

/-- What a failure leaves on the core, its replacement still to come. -/
structure CoreFailed (t : Dev) (c cause faultT : Nat) : Prop where
  state : t.get (Reg.CAP_CC_STAT_STATE c) = 5
  src : t.get (Reg.CAP_CC_STAT_SRC c) = 0
  cause : t.get (Reg.CAP_CC_HEALTH_CAUSE c) = cause
  fault : t.rd64 (Reg.CAP_CC_FAULT_LO c) (Reg.CAP_CC_FAULT_HI c) = faultT
  uncalibrated : (t.capCore c).calibrated = false

theorem CoreFailed.kept {t u : Dev} (h : CoreFailed t c cause faultT) (k : KeepsCapture t u) (hc : c < 3) :
    CoreFailed u c cause faultT := by
  have h4 : c < 4 := Nat.lt_succ_of_lt hc
  refine ⟨?_, ?_, ?_, ?_, (k.calibrated c).trans h.uncalibrated⟩
  · rw [k.get _ (.of_core h4 (o := 8) rfl (by omega) (by simp)), h.state]
  · rw [k.get _ (.of_core h4 (o := 8) rfl (by omega) (by simp)), h.src]
  · rw [k.get _ (.of_core h4 (o := 0x18) rfl (by omega) (by simp)), h.cause]
  · rw [← h.fault, Dev.rd64_of_get, Dev.rd64_of_get, k.get _ (.of_core h4 (o := 0x24) rfl (by omega) (by simp)),
      k.get _ (.of_core h4 (o := 0x20) rfl (by omega) (by simp))]

theorem CoreFailed.setReplacing {t : Dev} (h : CoreFailed t c cause faultT) (y : Option Replacing) :
    CoreFailed (t.setReplacing y) c cause faultT :=
  ⟨by rw [Dev.get_setReplacing, h.state], by rw [Dev.get_setReplacing, h.src], by rw [Dev.get_setReplacing, h.cause],
    by rw [Dev.rd64_of_get, Dev.get_setReplacing, Dev.get_setReplacing, ← Dev.rd64_of_get, h.fault], h.uncalibrated⟩

theorem Dev.coreMarked_failed (hcause : cause < 256) (hf : faultT < 2 ^ 64) : CoreFailed (d.coreMarked c cause faultT) c cause faultT := by
  unfold Dev.coreMarked Dev.setCore Dev.wr64
  refine ⟨?_, ?_, ?_, ?_, by rw [Dev.capCore_updCore_same]⟩
  · rw [Dev.get_updCore, Dev.get_set_apart _ _ (by simp) (by simp) (by simp), Dev.get_set_same _ _ (by simp) (by simp)]
    norm_num
  · rw [Dev.get_updCore, Dev.get_set_same _ _ (by simp) (by simp)]
    norm_num
  · rw [Dev.get_updCore, Dev.get_set_other _ _ (by simp), Dev.get_set_other _ _ (by simp), Dev.get_wr_other _ _ (by simp),
      Dev.get_wr_other _ _ (by simp), Dev.get_set_same _ _ (by simp) (by simp)]
    norm_num
    omega
  · rw [Dev.rd64, Dev.rd_updCore, Dev.rd_updCore, Dev.rd_set_other _ _ (by simp), Dev.rd_set_other _ _ (by simp), Dev.rd_set_other _ _ (by simp), Dev.rd_set_other _ _ (by simp),
      Dev.rd_wr_other _ _ (by simp), Dev.rd_wr_same, Dev.rd_wr_same]
    simp only [of64, lo32, hi32, BitVec.toNat_ofNat]
    omega

theorem Dev.coreMarked_role {f : Fld} (hf : f.addr = Reg.CAP_ROLE ∨ f = Reg.SYS_MARGIN_MIGR ∨ ∃ k, k ≠ c ∧ f = Reg.CAP_CC_STAT_STATE k) :
    (d.coreMarked c cause faultT).get f = d.get f := by
  have ha : f.addr ≠ Reg.CAP_CC_STAT c ∧ f.addr ≠ Reg.CAP_CC_HEALTH c ∧ f.addr ≠ Reg.CAP_CC_FAULT_LO c ∧ f.addr ≠ Reg.CAP_CC_FAULT_HI c := by
    rcases hf with h | rfl | ⟨k, hk, rfl⟩
    · simp only [h, Reg.CAP_ROLE, Reg.CAP_CC_STAT, Reg.CAP_CC_HEALTH, Reg.CAP_CC_FAULT_LO, Reg.CAP_CC_FAULT_HI]
      omega
    · simp only [Reg.SYS_MARGIN, Reg.CAP_CC_STAT, Reg.CAP_CC_HEALTH, Reg.CAP_CC_FAULT_LO, Reg.CAP_CC_FAULT_HI]
      omega
    · simp only [Reg.CAP_CC_STAT, Reg.CAP_CC_HEALTH, Reg.CAP_CC_FAULT_LO, Reg.CAP_CC_FAULT_HI]
      omega
  obtain ⟨hstat, hhealth, hlo, hhi⟩ := ha
  unfold Dev.coreMarked Dev.setCore Dev.wr64
  rw [Dev.get_updCore, Dev.get_set_other _ _ hstat, Dev.get_set_other _ _ hstat, Dev.get_wr_other _ _ hhi, Dev.get_wr_other _ _ hlo,
    Dev.get_set_other _ _ hhealth]

theorem Dev.capCore_coreMarked_other {k : Nat} (hk : k ≠ c) : (d.coreMarked c cause faultT).capCore k = d.capCore k :=
  (SMap.get_put _ _ _ _ _).trans (if_neg hk)

/-- The standby of a core that fails in service stays what it was. -/
theorem Dev.coreRecord_standby (hsb : d.get Reg.CAP_ROLE_CORE_SB ≠ c) (h : d.standbyCore.isSome = true) :
    (d.coreRecord c cause faultT).standbyCore.isSome = true := by
  have hk := (d.coreRecord_keepsCapture c cause faultT).mono fun _ hf => roleField.capture hf
  obtain ⟨h1, h2, h3⟩ := d.standbyCore_isSome_iff.mp h
  rw [hk.standbyCore, Dev.standbyCore_isSome_iff, Dev.coreMarked_role (.inl rfl), Dev.coreMarked_role (.inr (.inr ⟨_, hsb, rfl⟩)),
    Dev.capCore_coreMarked_other hsb]
  exact ⟨h1, h2, h3⟩

/-- The role of a failed core with its standby ready waits for the standby (R116). -/
theorem Dev.roleFailed_replaced {r : Nat} (hsb : d.get Reg.CAP_ROLE_CORE_SB ≠ c) (hr : d.roleOf c = some r)
    (hready : d.standbyCore.isSome = true) (hm : d.migr = true) (hp : d.cap.replacing = none) (hcal : d.cal.cmd = none) :
    ∃ e, KeepsCapture d e ∧ d.roleFailed c cause faultT =
      (e.setReplacing (some { failed := c, s := d.get Reg.CAP_ROLE_CORE_SB, role := r, since := d.now })).bankResync r faultT := by
  have hl : KeepsCapture d (d.bankLost r) := .setBank _ _ _
  have hrole := hl.mono fun _ hf => roleField.capture hf
  have hstop : ∀ k, (d.bankLost r).calStopRun k 0x16 = d.bankLost r := fun k => by
    simp only [Dev.calStopRun, hl.cal, hcal]
  have hnow : ((d.bankLost r).sootE 1 2 0x3002 (cause * 256 + c)).now = d.now := by rw [Dev.now_sootE, hl.now]
  refine ⟨(d.bankLost r).sootE 1 2 0x3002 (cause * 256 + c), hl.trans (KeepsCapture.sootE _ _ _ _ _), ?_⟩
  unfold Dev.roleFailed
  rw [if_neg hsb, hr]
  dsimp only
  rw [if_pos ⟨by rw [hrole.standbyCore, hready], by rw [hl.replacing, hp]; rfl, by rw [hrole.migr, hm]⟩, hstop, hrole.role rfl,
    ← hnow]
  rfl

/-- A failure while no rotation and no calibration goes on. -/
theorem Dev.coreFail_idle (hc : c < 3) (hst : d.get (Reg.CAP_CC_STAT_STATE c) ≠ 5) (hrot : d.cap.rot = none) (hcal : d.cal.cmd = none) :
    d.coreFail c cause faultT = ((d.coreRecord c cause faultT).roleFailed c cause faultT).refreshMargin := by
  have hstop : d.calStopRun c 0x15 = d := by simp only [Dev.calStopRun, hcal]
  have hthrough : d.rotThrough c = d := by simp only [Dev.rotThrough, hrot]
  have hnot : ¬(2 < c ∨ d.coreState c = 5) := by
    simp only [Dev.coreState]
    omega
  unfold Dev.coreFail
  rw [if_neg hnot, hstop, hthrough]
  simp only [hrot]

theorem Dev.coreMarked_keeps (d : Dev) (c cause faultT : Nat) : (d.coreMarked c cause faultT).now = d.now ∧
    (d.coreMarked c cause faultT).cal = d.cal ∧ (d.coreMarked c cause faultT).cap.replacing = d.cap.replacing := by
  unfold Dev.coreMarked Dev.setCore Dev.wr64
  rw [Dev.now_updCore, Dev.cal_updCore, Dev.replacing_updCore]
  simp

theorem Dev.coreRecord_role {f : Fld} (hf : f.addr = Reg.CAP_ROLE) : (d.coreRecord c cause faultT).get f = d.get f :=
  (((d.coreRecord_keepsCapture c cause faultT).mono fun _ hf => roleField.capture hf).role hf).trans (Dev.coreMarked_role (.inl hf))

theorem Dev.coreRecord_roleOf (k : Nat) : (d.coreRecord c cause faultT).roleOf k = d.roleOf k := by
  simp only [Dev.roleOf, Dev.coreRecord_role (f := Reg.CAP_ROLE_CORE_A) rfl, Dev.coreRecord_role (f := Reg.CAP_ROLE_CORE_B) rfl]

theorem Dev.coreRecord_migr : (d.coreRecord c cause faultT).migr = d.migr := by
  rw [((d.coreRecord_keepsCapture c cause faultT).mono fun _ hf => roleField.capture hf).migr]
  simp only [Dev.migr, Dev.is, Dev.coreMarked_role (.inr (.inl rfl))]

/-- A core in service fails while no rotation, replacement or calibration goes on, its standby ready. -/
theorem Dev.coreFail_replaced {r : Nat} (hc : c < 3) (hst : d.get (Reg.CAP_CC_STAT_STATE c) ≠ 5) (hcause : cause < 256)
    (hf : faultT < 2 ^ 64) (hsb : d.get Reg.CAP_ROLE_CORE_SB ≠ c) (hr : d.roleOf c = some r) (hready : d.standbyCore.isSome = true)
    (hm : d.migr = true) (hrot : d.cap.rot = none) (hp : d.cap.replacing = none) (hcal : d.cal.cmd = none) :
    CoreFailed (d.coreFail c cause faultT) c cause faultT ∧ (d.coreFail c cause faultT).cap.replacing =
      some { failed := c, s := d.get Reg.CAP_ROLE_CORE_SB, role := r, since := d.now } := by
  have hk := d.coreRecord_keepsCapture c cause faultT
  obtain ⟨hnow, hcalm, hrep⟩ := d.coreMarked_keeps c cause faultT
  have hfail := (Dev.coreMarked_failed (d := d) (c := c) hcause hf).kept hk hc
  have hsb' := Dev.coreRecord_role (d := d) (c := c) (cause := cause) (faultT := faultT) (f := Reg.CAP_ROLE_CORE_SB) rfl
  obtain ⟨e, he, heq⟩ := Dev.roleFailed_replaced (d := d.coreRecord c cause faultT) (cause := cause) (faultT := faultT) (by rwa [hsb'])
    ((Dev.coreRecord_roleOf c).trans hr) (Dev.coreRecord_standby hsb hready) (Dev.coreRecord_migr.trans hm)
    (hk.replacing.trans (hrep.trans hp)) (by rw [hk.cal, hcalm, hcal])
  rw [Dev.coreFail_idle hc hst hrot hcal, heq, hsb', hk.now, hnow]
  generalize (some { failed := c, s := d.get Reg.CAP_ROLE_CORE_SB, role := r, since := d.now } : Option Replacing) = y
  have htail := (KeepsCapture.bankResync (e.setReplacing y) r faultT).trans (KeepsCapture.refreshMargin _)
  exact ⟨((hfail.kept he hc).setReplacing y).kept htail hc, htail.replacing⟩

end

end Sys2Proof.Machine
end


section
/-! The claims on the monitors of a capture core and on the standby that takes a failed core's role. -/

namespace Sys2Proof.Machine

/-- The window of a monitor of a core that is watched. -/
def Dev.monitorWindow (d : Dev) (c cause sub v : Nat) (others : Bool) (start : Nat) : Dev :=
  if c < 3 ∧ d.coreState c ≠ 0 ∧ d.coreState c ≠ 5 then d.monitor c cause (sub % 8) v others start else d

theorem exec_coreMonitorWindow (c cause sub v : Nat) (others : Bool) (start : Nat) (s : State) :
    exec (.coreMonitorWindow c cause sub v others start) s = s.onBlock 2 (fun d => d.monitorWindow c cause sub v others start) := rfl

section
variable {s : State} {c cause sub v start : Nat} {others : Bool}

theorem goes_coreMonitorWindow_watched {t : Dev} (hh : s.dev.held 2 = false) (hc : c < 3)
    (h0 : s.dev.get (Reg.CAP_CC_STAT_STATE c) ≠ 0) (h5 : s.dev.get (Reg.CAP_CC_STAT_STATE c) ≠ 5)
    (ht : s.dev.monitor c cause (sub % 8) v others start = t) : Goes (.coreMonitorWindow c cause sub v others start) s t :=
  goes_onBlock (exec_coreMonitorWindow _ _ _ _ _ _ _) hh ((if_pos ⟨hc, h0, h5⟩).trans ht)

theorem goes_coreMonitorWindow_unwatched (h : 3 ≤ c ∨ s.dev.get (Reg.CAP_CC_STAT_STATE c) = 0 ∨ s.dev.get (Reg.CAP_CC_STAT_STATE c) = 5) :
    Goes (.coreMonitorWindow c cause sub v others start) s s.dev := by
  refine goes_onBlock_keeps (exec_coreMonitorWindow _ _ _ _ _ _ _) fun _ => if_neg ?_
  rintro ⟨hc, h0, h5⟩
  rcases h with h | h | h
  · exact absurd hc (not_lt.mpr h)
  · exact h0 h
  · exact h5 h

end

theorem monitorsSuspectAndFail : Claim.MonitorsSuspectAndFail := by
  intro s c cause sub v start others d st C lvl
  refine ⟨monitorLevel_eq_two cause v others, monitorLevel_eq_zero cause v others, goes_coreMonitorWindow_unwatched,
    fun hh hc h0 h5 => ⟨fun hl => ?_, ?_, ?_⟩⟩
  · exact goes_coreMonitorWindow_watched hh hc h0 h5 (Dev.monitor_below hl)
  · intro hl hready
    have hk := d.windowSuspect_keepsRoles c cause (sub % 8) 1
    have h4 := cause_ne_four_of_suspect hl
    obtain ⟨hsus, hcause⟩ := Dev.windowSuspect_shows (d := d) (sub := sub % 8) hc (cause_lt_of_level (ne_of_eq_of_ne hl one_ne_zero)) h4
    obtain ⟨hlanes, hhearths⟩ := d.windowSuspect_units c cause (sub % 8) 1
    exact completes_of_goes
      (goes_coreMonitorWindow_watched hh hc h0 h5 ((Dev.monitor_suspect hl).trans (Dev.rotSuspects_notReady (hk.rotReady.trans hready))))
      ⟨hsus, hcause, hk.state (Nat.lt_succ_of_lt hc), fun hs hf => Dev.windowSuspect_event hs h4 hf, hlanes, hhearths⟩
  · intro r hl hr hsb hready hm hrot hp hcal hstart
    have hk := d.windowFailure_keepsRoles c cause (sub % 8)
    have hst : (d.windowFailure c cause (sub % 8)).get (Reg.CAP_CC_STAT_STATE c) ≠ 5 := by rwa [hk.state (Nat.lt_succ_of_lt hc)]
    have hcause : cause < 256 := (cause_lt_of_level (ne_of_eq_of_ne hl two_ne_zero)).trans (by decide)
    have hsb' := hk.role (f := Reg.CAP_ROLE_CORE_SB) rfl
    obtain ⟨hfail, hrep⟩ := Dev.coreFail_replaced hc hst hcause hstart (by rwa [hsb']) ((hk.roleOf c).trans hr)
      (by rwa [hk.standbyCore]) (hk.migr.trans hm) (hk.rot.trans hrot) (hk.replacing.trans hp) (by rw [hk.cal]; exact hcal)
    rw [hsb', hk.now] at hrep
    exact completes_of_goes (goes_coreMonitorWindow_watched hh hc h0 h5 (Dev.monitor_failure hl))
      ⟨hfail.state, hfail.src, hfail.cause, hfail.fault, hfail.uncalibrated, hrep⟩

theorem Dev.roleCore_updCore (d : Dev) (k : Nat) (f : CapCore → CapCore) (r : Nat) : (d.updCore k f).roleCore r = d.roleCore r := rfl

/-! ## The standby takes the role (R116) -/

/-- The device as the standby joins the aerial, where it has not joined it before. -/
def Dev.standbyJoined (d : Dev) (p : Replacing) : Dev := if p.joined then d else d.replaceJoin p

/-- The standby in the failed core's role, feeding its bank. -/
def Dev.roleTaken (d : Dev) (p : Replacing) : Dev :=
  ((((((d.standbyJoined p).setReplacing none).setRole p.role p.s).set Reg.CAP_ROLE_CORE_SB 3).setCore p.s 4 (p.role + 1)).bankBack p.role).setStale
    p.s false

section
variable {d : Dev} {p : Replacing}

theorem Dev.now_standbyJoined : (d.standbyJoined p).now = d.now := by
  unfold Dev.standbyJoined
  split
  · rfl
  · unfold Dev.replaceJoin Dev.setGain
    rw [Dev.now_refreshCores, Dev.now_updCore]
    simp only [Dev.now_set, Dev.now_updCore]

/-- The standby that joins takes the core's setting of the time of the fault. -/
theorem Dev.gain_replaceJoin (hs : p.s < 3) :
    let g := d.gainAt p.failed (d.rd64 (Reg.CAP_CC_FAULT_LO p.failed) (Reg.CAP_CC_FAULT_HI p.failed))
    (d.replaceJoin p).get (Reg.CAP_CC_STAT_LNA p.s) = g.1 % 4 ∧ (d.replaceJoin p).get (Reg.CAP_CC_STAT_ATT p.s) = g.2 % 64 := by
  have h4 : p.s < 4 := Nat.lt_succ_of_lt hs
  unfold Dev.replaceJoin
  dsimp only
  rw [(KeepsCapture.refreshCores _).get _ (.of_core h4 (o := 8) rfl (by omega) (by simp)),
    (KeepsCapture.refreshCores _).get _ (.of_core h4 (o := 8) rfl (by omega) (by simp)), Dev.get_updCore, Dev.get_updCore]
  exact Dev.get_setGain _ _ _

/-- The standby in the role, in service there (R116). -/
theorem Dev.roleTaken_shows (hr : p.role < 2) (hs : p.s < 3) :
    (d.roleTaken p).roleCore p.role = p.s ∧ (d.roleTaken p).get Reg.CAP_ROLE_CORE_SB = 3 ∧
      (d.roleTaken p).get (Reg.CAP_CC_STAT_STATE p.s) = 4 ∧ (d.roleTaken p).get (Reg.CAP_CC_STAT_SRC p.s) = p.role + 1 ∧
      (d.roleTaken p).is (Reg.CAP_CC_STAT_STALE p.s) = false := by
  have h4 : p.s < 4 := Nat.lt_succ_of_lt hs
  have hstat : ∀ {f : Fld}, f.addr = Reg.CAP_CC_STAT p.s → 25 < f.lo → ∀ e : Dev, ((e.bankBack p.role).setStale p.s false).get f = e.get f :=
    fun {f} ha hlo e => by
      unfold Dev.setStale
      rw [Dev.get_set_other _ _ (by rw [ha]; simp), Dev.get_set_apart _ _ (by simp) (by simp) (.inr hlo),
        (KeepsCapture.bankBack _ _).get _ (.of_core h4 (o := 8) ha (by omega) (.inr (.inr (by omega))))]
  have hrole : ∀ {f : Fld}, f.addr = Reg.CAP_ROLE → ∀ e : Dev,
      (((e.setCore p.s 4 (p.role + 1)).bankBack p.role).setStale p.s false).get f = e.get f := fun {f} ha e => by
    have hf : captureField f := roleField.capture (.inr (.inl ha))
    have hne : f.addr ≠ Reg.CAP_CC_STAT p.s ∧ f.addr ≠ Reg.CAP_CC_PWR p.s := by
      simp only [ha, Reg.CAP_ROLE, Reg.CAP_CC_STAT, Reg.CAP_CC_PWR]
      omega
    unfold Dev.setStale Dev.setCore
    rw [Dev.get_set_other _ _ hne.2, Dev.get_set_other _ _ hne.1, (KeepsCapture.bankBack _ _).get _ hf, Dev.get_set_other _ _ hne.1,
      Dev.get_set_other _ _ hne.1]
  unfold Dev.roleTaken
  refine ⟨?_, ?_, ?_, ?_, ?_⟩
  · unfold Dev.roleCore Dev.setRole
    split
    · rw [hrole rfl, Dev.get_set_apart _ _ (by simp) (by simp) (by simp), Dev.get_set_same _ _ (by simp) (by simp)]
      exact Nat.mod_eq_of_lt h4
    · rw [hrole rfl, Dev.get_set_apart _ _ (by simp) (by simp) (by simp), Dev.get_set_same _ _ (by simp) (by simp)]
      exact Nat.mod_eq_of_lt h4
  · rw [hrole rfl, Dev.get_set_same _ _ (by simp) (by simp)]
    norm_num
  · rw [hstat rfl (by simp)]
    unfold Dev.setCore
    rw [Dev.get_set_apart _ _ (by simp) (by simp) (by simp), Dev.get_set_same _ _ (by simp) (by simp)]
    norm_num
  · rw [hstat rfl (by simp)]
    unfold Dev.setCore
    rw [Dev.get_set_same _ _ (by simp) (by simp)]
    exact Nat.mod_eq_of_lt (by simp only; omega)
  · unfold Dev.setStale Dev.is
    rw [Dev.get_set_other _ _ (by simp), Dev.get_set_same _ _ (by simp) (by simp)]
    rfl

/-- The standby keeps the setting with which it joined. -/
theorem Dev.get_roleTaken_gain {f : Fld} (hs : p.s < 3) (ha : f.addr = Reg.CAP_CC_STAT p.s) (hf : f.hi < 22) :
    (d.roleTaken p).get f = (d.standbyJoined p).get f := by
  have hk : captureField f := .of_core (Nat.lt_succ_of_lt hs) (o := 8) ha (by omega) (.inr (.inl hf))
  have hrole : f.addr ≠ Reg.CAP_ROLE := by
    simp only [ha, Reg.CAP_ROLE, Reg.CAP_CC_STAT]
    omega
  unfold Dev.roleTaken Dev.setStale Dev.setCore Dev.setRole
  rw [Dev.get_set_other _ _ (by rw [ha]; simp), Dev.get_set_apart _ _ (by simp) (by simp) (.inl (hf.trans_le (by simp))),
    (KeepsCapture.bankBack _ _).get _ hk, Dev.get_set_apart _ _ (by simp) (by simp) (.inl (hf.trans_le (by simp))),
    Dev.get_set_apart _ _ (by simp) (by simp) (.inl (hf.trans_le (by simp))), Dev.get_set_other _ _ hrole]
  split
  · rw [Dev.get_set_other _ _ hrole, Dev.get_setReplacing]
  · rw [Dev.get_set_other _ _ hrole, Dev.get_setReplacing]

theorem Dev.roleTaken_ends : (d.roleTaken p).cap.replacing = none ∧ (d.roleTaken p).now = d.now := by
  have hk := KeepsCapture.bankBack (((((d.standbyJoined p).setReplacing none).setRole p.role p.s).set Reg.CAP_ROLE_CORE_SB 3).setCore p.s 4
    (p.role + 1)) p.role
  unfold Dev.roleTaken Dev.setStale
  rw [Dev.cap_set, Dev.cap_set, Dev.now_set, Dev.now_set, hk.replacing, hk.now]
  unfold Dev.setCore Dev.setRole
  rw [Dev.cap_set, Dev.cap_set, Dev.cap_set, Dev.cap_set, Dev.now_set, Dev.now_set, Dev.now_set, Dev.now_set, Dev.replacing_setReplacing]
  exact ⟨rfl, Dev.now_standbyJoined⟩

end

/-- The replacement settled: the standby in service from now on, the records it falls in and what follows the roles brought up to date. -/
def Dev.replaced (d : Dev) (p : Replacing) : Dev :=
  let e := (d.roleTaken p).updCore p.s (fun x => { x with since := (d.roleTaken p).now })
  ((e.snapChg p.role 1).snapLaneChg p.role).refreshCores.refreshNocores.refreshMargin

/-- What the settling of a replacement does, where one is under way. -/
def Dev.replacementSettled (d : Dev) : Dev :=
  match d.cap.replacing with
  | none => d
  | some p => d.replaced p

theorem exec_coreReplacementSettled (s : State) : exec .coreReplacementSettled s = s.onBlock 2 Dev.replacementSettled := rfl

theorem Dev.replacementSettled_none {d : Dev} (h : d.cap.replacing = none) : d.replacementSettled = d := by
  simp only [Dev.replacementSettled, h]

theorem Dev.replacementSettled_some {d : Dev} {p : Replacing} (h : d.cap.replacing = some p) : d.replacementSettled = d.replaced p := by
  simp only [Dev.replacementSettled, h]

theorem replacementTakesTheRole : Claim.ReplacementTakesTheRole := by
  intro s p d
  refine ⟨fun h => goes_onBlock_keeps (exec_coreReplacementSettled s) fun _ => Dev.replacementSettled_none h, fun hh h _ hs hr => ?_⟩
  refine completes_of_goes (goes_onBlock (exec_coreReplacementSettled s) hh (Dev.replacementSettled_some h)) ?_
  intro g
  have h4 : p.s < 4 := Nat.lt_succ_of_lt hs
  have hk : KeepsCapture ((d.roleTaken p).updCore p.s (fun x => { x with since := (d.roleTaken p).now })) (d.replaced p) :=
    ((((KeepsCapture.snapChg _ _ _).trans (KeepsCapture.snapLaneChg _ _)).trans (KeepsCapture.refreshCores _)).trans
      (KeepsCapture.refreshNocores _)).trans (KeepsCapture.refreshMargin _)
  have hroles := hk.mono fun _ hf => roleField.capture hf
  have hstat : ∀ {f : Fld}, f.addr = Reg.CAP_CC_STAT p.s → f.hi < 22 ∨ 23 < f.lo → (d.replaced p).get f = (d.roleTaken p).get f :=
    fun {f} ha hf => (hk.get f (.of_core h4 (o := 8) ha (by omega) (.inr hf))).trans (Dev.get_updCore _ _ _ _)
  obtain ⟨hcore, hsb, hstate, hsrc, hstale⟩ := Dev.roleTaken_shows (d := d) hr hs
  obtain ⟨hrep, hnow⟩ := Dev.roleTaken_ends (d := d) (p := p)
  refine ⟨(hroles.roleCore _).trans ((Dev.roleCore_updCore _ _ _ _).trans hcore), (hroles.role rfl).trans ((Dev.get_updCore _ _ _ _).trans hsb), (hstat rfl (by simp)).trans hstate,
    (hstat rfl (by simp)).trans hsrc, ?_, fun hj hl ha => ?_, hk.replacing.trans ((Dev.replacing_updCore _ _ _).trans hrep), ?_⟩
  · rw [Dev.is, hstat rfl (by simp)]
    exact hstale
  · obtain ⟨hlna, hatt⟩ := Dev.gain_replaceJoin (d := d) hs
    have hjoin : d.standbyJoined p = d.replaceJoin p := if_neg (by simp [hj])
    rw [hstat rfl (by simp), hstat rfl (by simp), Dev.get_roleTaken_gain hs rfl (by simp), Dev.get_roleTaken_gain hs rfl (by simp), hjoin]
    exact ⟨hlna.trans (Nat.mod_eq_of_lt hl), hatt.trans (Nat.mod_eq_of_lt ha)⟩
  · rw [hk.since, Dev.capCore_updCore_same, hnow]

/-- Settles O37: the level of each monitor by cases of its thresholds; a suspect's mark and a failure with the standby ready are followed through
the fields that the shared operations keep; so is the standby's entry into the role. That SUSPECT follows the monitors' levels and the moment
at which the standby joins the aerial are the model's choices (log 35). -/
theorem captureCoresFailAndAreReplaced : Obligations.CaptureCoresFailAndAreReplaced := ⟨monitorsSuspectAndFail, replacementTakesTheRole⟩

end Sys2Proof.Machine
end


section
/-! What leaves the lanes, the hearths and their registers alone: events, the flue's dampers, the margin, the firewatch's log. -/

namespace Sys2Proof.Machine

/-! ## Changes of registers, events and messages alone -/

/-- A change of registers, of the events' rate limits and of the messages they send. -/
structure EventStep (d t : Dev) : Prop where
  frame : t = { d with regs := t.regs, evtLast := t.evtLast, pcie := t.pcie, out := t.out }

namespace EventStep
variable {d t u : Dev}

theorem refl (d : Dev) : EventStep d d := ⟨rfl⟩

theorem trans (h : EventStep d t) (k : EventStep t u) : EventStep d u := ⟨by rw [k.frame, h.frame]⟩

theorem ite {p : Prop} [Decidable p] (h : EventStep d t) (k : EventStep d u) : EventStep d (if p then t else u) := by
  split
  · exact h
  · exact k

theorem wr (d : Dev) (a : Nat) (w : Word) : EventStep d (d.wr a w) := ⟨rfl⟩

theorem foldl {α : Type} {f : Dev → α → Dev} (hf : ∀ e a, EventStep e (f e a)) (xs : List α) (d : Dev) : EventStep d (xs.foldl f d) := by
  induction xs generalizing d with
  | nil => exact .refl d
  | cons a xs ih => exact (hf d a).trans (ih _)

theorem raise (d : Dev) (a b : Nat) : EventStep d (d.raise a b) := ⟨d.raiseUnit_frame a 0 [b]⟩

theorem part (h : EventStep d t) : t.part = d.part := by rw [h.frame]
theorem now (h : EventStep d t) : t.now = d.now := by rw [h.frame]
theorem lanes (h : EventStep d t) : t.lanes = d.lanes := by rw [h.frame]
theorem hearths (h : EventStep d t) : t.hearths = d.hearths := by rw [h.frame]
theorem pool (h : EventStep d t) : t.pool = d.pool := by rw [h.frame]
theorem rolling (h : EventStep d t) : t.rolling = d.rolling := by rw [h.frame]
theorem captures (h : EventStep d t) : t.captures = d.captures := by rw [h.frame]
theorem shadow (h : EventStep d t) : t.shadow = d.shadow := by rw [h.frame]
theorem scount (h : EventStep d t) : t.scount = d.scount := by rw [h.frame]
theorem binCount (h : EventStep d t) : t.binCount = d.binCount := by rw [h.frame]
theorem bankA (h : EventStep d t) : t.bankA = d.bankA := by rw [h.frame]
theorem bankB (h : EventStep d t) : t.bankB = d.bankB := by rw [h.frame]

/-- The margin is a matter of registers and events. -/
theorem refreshMargin (d : Dev) : EventStep d d.refreshMargin := by
  have hdemand : ∀ (w v : Word) (p : Prop) [Decidable p], EventStep d (if p then
      ((d.wr Reg.OVN_DEMAND w).wr Reg.OVN_CAPACITY v).raise Reg.OVN_EVT 3 else (d.wr Reg.OVN_DEMAND w).wr Reg.OVN_CAPACITY v) :=
    fun w v p _ => .ite (((wr d _ w).trans (wr _ _ v)).trans (raise _ _ _)) ((wr d _ w).trans (wr _ _ v))
  have hstandby : ∀ {e : Dev} (w : Word) (p : Prop) [Decidable p], EventStep d e →
      EventStep d (if p then e.wr Reg.SYS_MARGIN w else (e.wr Reg.SYS_MARGIN w).raise Reg.CAP_EVT 5) :=
    fun w p _ he => .ite (he.trans (wr _ _ w)) ((he.trans (wr _ _ w)).trans (raise _ _ _))
  have hintact : ∀ {e : Dev} (p : Prop) [Decidable p], EventStep d e → EventStep d (if p then e.raise Reg.HMG_EVT 2 else e) :=
    fun p _ he => .ite (he.trans (raise _ _ _)) he
  unfold Dev.refreshMargin
  exact hintact _ (hstandby _ _ (hdemand _ _ _))

theorem refreshAsh (d : Dev) (n : Nat) : EventStep d (d.refreshAsh n) :=
  ((wr d _ _).trans (wr _ _ _)).trans (wr _ _ _)

end EventStep

/-! ## Changes that leave lanes, hearths and their registers -/

/-- A change that leaves the lanes' and the hearths' records and registers, what waits to apply, and the sample index. -/
structure KeepsWork (d t : Dev) : Prop where
  units : KeepsUnits d t
  lanes : t.lanes = d.lanes
  captures : t.captures = d.captures
  shadow : t.shadow = d.shadow
  scount : t.scount = d.scount

namespace KeepsWork
variable {d t u : Dev}

theorem refl (d : Dev) : KeepsWork d d := ⟨.refl d, rfl, rfl, rfl, rfl⟩

theorem trans (h : KeepsWork d t) (k : KeepsWork t u) : KeepsWork d u :=
  ⟨h.units.trans k.units, k.lanes.trans h.lanes, k.captures.trans h.captures, k.shadow.trans h.shadow, k.scount.trans h.scount⟩

theorem ite {p : Prop} [Decidable p] (h : KeepsWork d t) (k : KeepsWork d u) : KeepsWork d (if p then t else u) := by
  split
  · exact h
  · exact k

theorem foldl {α : Type} {f : Dev → α → Dev} {xs : List α} (hf : ∀ e, ∀ a ∈ xs, KeepsWork e (f e a)) (d : Dev) :
    KeepsWork d (xs.foldl f d) := by
  induction xs generalizing d with
  | nil => exact .refl d
  | cons a xs ih => exact (hf d a List.mem_cons_self).trans (ih (fun e b hb => hf e b (List.mem_cons_of_mem a hb)) _)

theorem of_event (h : EventStep d t) (hu : KeepsUnits d t) : KeepsWork d t := ⟨hu, h.lanes, h.captures, h.shadow, h.scount⟩

section
variable (d)

theorem wr {a : Nat} (w : Word) (ha : a < 0x100000 ∨ 0x162000 ≤ a) : KeepsWork d (d.wr a w) :=
  .of_event (.wr d a w) ((KeepsUnits.refl d).wr w ha)

theorem set {f : Fld} (v : Nat) (ha : f.addr < 0x100000 ∨ 0x162000 ≤ f.addr) : KeepsWork d (d.set f v) := wr d _ ha

theorem raise {a : Nat} (b : Nat) (ha : a < 0x100000 ∨ 0x162000 ≤ a) : KeepsWork d (d.raise a b) :=
  .of_event (.raise d a b) ((KeepsUnits.refl d).raise b ha)

theorem sootE (sev source code det : Nat) : KeepsWork d (d.sootE sev source code det) :=
  ⟨(KeepsUnits.refl d).sootE _ _ _ _, by simp, by simp, by simp, by simp⟩

theorem refreshMargin : KeepsWork d d.refreshMargin := .of_event (.refreshMargin d) d.refreshMargin_keepsUnits
theorem refreshAsh (n : Nat) : KeepsWork d (d.refreshAsh n) := .of_event (.refreshAsh d n) (d.refreshAsh_keepsUnits n)

theorem visitEnd (st : Nat) : KeepsWork d (d.visitEnd st) := by
  refine ⟨d.visitEnd_keepsUnits st, ?_, ?_, ?_, ?_⟩ <;> · unfold Dev.visitEnd; dsimp only; split <;> rfl

/-! ### The dampers of the flue (R325) -/

theorem setFport (p : Nat) (x : FluePort) : KeepsWork d (d.setFport p x) := ⟨.of_regs rfl rfl rfl, rfl, rfl, rfl, rfl⟩

theorem setDamper (p e : Nat) (x : Damper) : KeepsWork d (d.setDamper p e x) := setFport d _ _

theorem portBase_high (p : Nat) : 0x162000 ≤ portBase p := by
  unfold portBase
  split <;> omega

theorem incWordSat {a : Nat} (k : Nat) (ha : a < 0x100000 ∨ 0x162000 ≤ a) : KeepsWork d (d.incWordSat a k) := wr d _ ha

theorem cntAddr_high (p e k : Nat) : 0x162000 ≤ cntAddr p e k := by
  have := portBase_high p
  unfold cntAddr
  omega

theorem portEvt (p b : Nat) : KeepsWork d (d.portEvt p b) := raise d b (.inr (by have := portBase_high p; omega))

theorem sootDrops (p : Nat) : KeepsWork d (d.sootDrops p) := .ite ((setFport d _ _).trans (sootE _ _ _ _ _)) (setFport d _ _)

theorem dropUnit (p e cause : Nat) : KeepsWork d (d.dropUnit p e cause) := by
  have hcount := (setDamper d p e ((d.damper p e).loss cause (some 1) (cause == 4))).trans
    (incWordSat _ (a := cntAddr p e 2) 1 (.inr (cntAddr_high p e 2)))
  have hevent : ∀ x : Dev, KeepsWork x (if cause = 6 then (if p < 2 then (x.incWordSat (Reg.FLU_FMTDROP p) 1).portEvt p 4 else x)
      else x.portEvt p (if p < 2 then 2 else 1)) := fun x =>
    .ite (.ite ((incWordSat x 1 (.inr (by simp only [Reg.FLU_FMTDROP]; omega))).trans (portEvt _ _ _)) (.refl x)) (portEvt x _ _)
  unfold Dev.dropUnit
  exact (hcount.trans (hevent _)).trans (.ite (sootDrops _ _) (.refl _))

theorem qkib (p e : Nat) : KeepsWork d (d.qkib p e) := wr d _ (.inr (cntAddr_high p e 3))

theorem teleDrop (p : Nat) : KeepsWork d (d.teleDrop p) := ((setFport d _ _).trans (portEvt _ _ _)).trans (sootDrops _ _)

theorem fitDamper (p n : Nat) : KeepsWork d (d.fitDamper p n) := by
  induction n generalizing d with
  | zero => exact .refl d
  | succ n ih =>
    rw [Dev.fitDamper]
    refine .ite (.refl d) ?_
    split
    · exact .refl d
    · exact (teleDrop d p).trans (ih _)
    · exact (((setDamper d _ _ _).trans (dropUnit _ _ _ _)).trans (qkib _ _ _)).trans (ih _)

theorem damperIn (p e : Nat) (u : QUnit) : KeepsWork d (d.damperIn p e u) :=
  .ite (dropUnit d _ _ _) (.ite (dropUnit d _ _ _) (((setDamper d _ _ _).trans (fitDamper _ _ _)).trans (qkib _ _ _)))

/-- A sample that enters an IQ entry. -/
theorem iqIn (n : Nat) (s : Sample) (pe : Nat × Nat) : KeepsWork d (d.iqIn n s pe) :=
  .ite (setDamper d _ _ _) ((setDamper d _ _ _).trans (damperIn _ _ _ _))

theorem lossAll (lane : Nat) (stream : Option Nat) (cause : Nat) : KeepsWork d (d.lossAll lane stream cause) :=
  .foldl (fun e _ _ => .ite ((setDamper e _ _ _).trans (incWordSat _ _ (.inr (cntAddr_high _ _ _)))) (setDamper e _ _ _)) d

/-! ### The firewatch (R273) -/

theorem fwLog (kind flags lane hearth role tag prio peer : Nat) (word : Word) (seq outcome entry time : Nat) :
    KeepsWork d (d.fwLog kind flags lane hearth role tag prio peer word seq outcome entry time).2 := by
  have hring : ∀ (x : Dev) (k : Nat) (ws : List Nat), ws.length ≤ 8 →
      KeepsWork x ((ws.zipIdx).foldl (fun d w => d.wr (Reg.FWT_LOG (k % 256) w.2) (BitVec.ofNat 32 w.1)) x) := fun x k ws hw =>
    .foldl (fun e w hm => wr e _ (.inl (by
      have := List.snd_lt_of_mem_zipIdx hm
      simp only [Reg.FWT_LOG]
      omega))) x
  unfold Dev.fwLog
  refine (((KeepsWork.ite (raise d 8 (.inl (by decide))) (.refl d)).trans (hring _ _ _ ?_)).trans (set _ _ (.inl (by decide)))).trans
    (set _ _ (.inl (by decide)))
  simp

theorem fwList_lt {j : Nat} {x : FwEntry} (h : (j, x) ∈ d.fwList) : j < 32 := by
  obtain ⟨k, hk, hx⟩ := List.mem_filterMap.mp h
  split at hx
  · obtain ⟨y, -, hy⟩ := Option.map_eq_some_iff.mp hx
    rw [Prod.mk.injEq] at hy
    exact hy.1 ▸ List.mem_range.mp hk
  · exact absurd hx (by simp)

/-- A lane without a migration: the relays that wait for it are reported. -/
theorem fwLaneIdle (lane : Nat) : KeepsWork d (d.fwLaneIdle lane) :=
  .foldl (fun e _ _ => .ite ((fwLog e _ _ _ _ _ _ _ _ _ _ _ _ _).trans (raise _ _ (.inl (by decide)))) (.refl e)) d

/-- A failed hearth's actions are marked unconfirmed. -/
theorem fwHearthFailed (h faultT : Nat) : KeepsWork d (d.fwHearthFailed h faultT) :=
  .foldl (fun e c hc => .ite (set e _ (.inl (by
    have := fwList_lt d (j := c.1) (x := c.2) hc
    simp only [Reg.FWT_ACT_W0]
    omega))) (.refl e)) d

end

end KeepsWork

end Sys2Proof.Machine
end


section
/-! The grate's events and what can be read after each: a bin frame, a refill's end, a saturation interval, a power average, a lane's sample. -/

namespace Sys2Proof.Machine

/-! ## Bin frames and power averages (R129, R147) -/

theorem Dev.binIn_frame (d : Dev) (b : Nat) : d.binIn b = { d with bankA := (d.binIn b).bankA, bankB := (d.binIn b).bankB } := by
  unfold Dev.binIn
  dsimp only
  rw [Dev.setBank_frame]

/-- A run of register writes leaves everything but the registers. -/
theorem EventStep.foldl_wr {α : Type} (a : α → Nat) (w : α → Word) (xs : List α) (d : Dev) :
    EventStep d (xs.foldl (fun d x => d.wr (a x) (w x)) d) := .foldl (fun _ _ => .wr _ _ _) xs d

theorem completes_binFrame {s : State} (hh : s.dev.held 3 = false) (hc : s.dev.captures = [])
    (he : s.dev.is Reg.GRT_BANKCFG_PWREN = true) : Completes .binFrame s (fun d t =>
      t.binCount = d.binCount + 1 ∧ t.regs = d.regs ∧ t.lanes = d.lanes) := by
  have hframe := ((s.dev.binIn 0).binIn_frame 1).trans (by rw [s.dev.binIn_frame 0])
  have hgo : Goes .binFrame s { (s.dev.binIn 0).binIn 1 with binCount := ((s.dev.binIn 0).binIn 1).binCount + 1 } := by
    refine goes_of_next rfl ((if_neg (by simp [hh])).trans ?_)
    dsimp only
    rw [Dev.pageApply_of_no_capture _ _ hc, if_pos he]
  refine completes_of_goes hgo ?_
  rw [hframe]
  exact ⟨rfl, rfl, rfl⟩

theorem Dev.clean_setBank (d : Dev) (b : Nat) (x : GrateBank) :
    (d.setBank b x).bankA = (if b = 0 then x else d.bankA) ∧ (d.setBank b x).bankB = (if b = 0 then d.bankB else x) := by
  unfold Dev.setBank
  split <;> exact ⟨rfl, rfl⟩

/-- A complete average of a bank begins anew. -/
theorem Dev.bankPower_clean (d : Dev) (b : Nat) (fs : List (List (Int × Int))) :
    (d.bankPower b fs).bankA.clean = (if b = 0 then [] else d.bankA.clean) ∧
      (d.bankPower b fs).bankB.clean = (if b = 0 then d.bankB.clean else []) ∧ (d.bankPower b fs).lanes = d.lanes := by
  have hw := EventStep.foldl_wr (fun k => Reg.GRT_PWR b k)
    (fun k => powerWord ((d.gbank b).clean.count true) (binSum (d.gbank b).clean fs k)) (List.range 512) d
  unfold Dev.bankPower
  dsimp only
  generalize (List.range 512).foldl _ d = e at hw ⊢
  obtain ⟨ha, hb⟩ := e.clean_setBank b { d.gbank b with clean := [] }
  rw [ha, hb, hw.bankA, hw.bankB, Dev.setBank_frame]
  refine ⟨?_, ?_, hw.lanes⟩
  · split <;> rfl
  · split <;> rfl

theorem completes_binPowerUpdate {s : State} {a b : List (List (Int × Int))} (hh : s.dev.held 3 = false)
    (he : s.dev.is Reg.GRT_BANKCFG_PWREN = true) (hn : 2 ^ s.dev.get Reg.GRT_BANKCFG_AVG ≤ s.dev.binCount) :
    Completes (.binPowerUpdate a b) s (fun d t => t.binCount = 0 ∧ t.bankA.clean = [] ∧ t.bankB.clean = [] ∧ t.lanes = d.lanes) := by
  have hgo : Goes (.binPowerUpdate a b) s { ((s.dev.bankPower 0 a).bankPower 1 b).raise Reg.GRT_EVT 3 with binCount := 0 } := by
    refine goes_of_next rfl ((if_neg (by simp [hh])).trans ?_)
    exact if_pos ⟨he, hn⟩
  obtain ⟨ha0, -, hl0⟩ := s.dev.bankPower_clean 0 a
  obtain ⟨ha1, hb1, hl1⟩ := (s.dev.bankPower 0 a).bankPower_clean 1 b
  have hr := EventStep.raise ((s.dev.bankPower 0 a).bankPower 1 b) Reg.GRT_EVT 3
  generalize ((s.dev.bankPower 0 a).bankPower 1 b).raise Reg.GRT_EVT 3 = e at hgo hr
  refine completes_of_goes hgo ⟨rfl, ?_, ?_, hr.lanes.trans (hl1.trans hl0)⟩
  · exact (congrArg GrateBank.clean hr.bankA).trans (ha1.trans ha0)
  · exact (congrArg GrateBank.clean hr.bankB).trans hb1

/-! ## Refill and saturation (R138, R144) -/

theorem completes_refillEnd {s : State} {n : Nat} (hh : s.dev.held 3 = false) (hn : n < s.dev.part.lanes)
    (hr : s.dev.is (Reg.GRT_LSTAT_REFILL (n / 8) (n % 8)) = true) (ht : (s.dev.lane n).refillTo ≤ s.dev.scount)
    (hf : s.dev.evtFree Reg.GRT_EVT 1 0 = true) : Completes (.refillEnd n) s (fun _ t =>
      t.is (Reg.GRT_LSTAT_REFILL (n / 8) (n % 8)) = false ∧ (t.rd Reg.GRT_EVT).getLsbD 1 = true) := by
  have hgo : Goes (.refillEnd n) s ((s.dev.set (Reg.GRT_LSTAT_REFILL (n / 8) (n % 8)) 0).raise Reg.GRT_EVT 1) := by
    refine goes_of_next rfl ((if_neg (by simp [hh])).trans ?_)
    exact if_pos ⟨hn, hr, ht⟩
  refine completes_of_goes hgo ⟨?_, Dev.getLsbD_raise_free (d := s.dev.set _ 0) hf (by decide)⟩
  rw [Dev.is, Dev.get_raise_other _ _ (by simp only [Reg.GRT_LSTAT, Reg.GRT_EVT]; omega), Dev.get_set_same _ _ (by simp) (by simp)]
  rfl

/-- The lanes of a list remember no saturation, the others what they did. -/
theorem Dev.sat_foldl_clear (ns : List Nat) (d : Dev) (m : Nat) :
    ((ns.foldl (fun d n => if (d.lane n).sat then d.updLane n (fun x => { x with sat := false }) else d) d).lane m).sat =
      ((d.lane m).sat && !ns.contains m) := by
  induction ns generalizing d with
  | nil => simp
  | cons n ns ih =>
    have hone : ((if (d.lane n).sat then d.updLane n (fun x => { x with sat := false }) else d).lane m).sat =
        ((d.lane m).sat && m != n) := by
      by_cases hm : m = n
      · subst hm
        by_cases hs : (d.lane m).sat = true
        · simp [hs, Dev.updLane]
        · simp [hs]
      · split
        · simp [Dev.updLane, Dev.lane_setLane, hm]
        · simp [hm]
    rw [List.foldl_cons, ih, hone, List.contains_cons, bne, Bool.and_assoc, ← Bool.not_or]

theorem completes_saturationInterval {s : State} (hh : s.dev.held 3 = false) :
    Completes .saturationInterval s (fun d t => ∀ m < d.part.lanes, (t.lane m).sat = false) := by
  refine completes_of_goes (goes_of_next rfl (if_neg (by simp [hh]))) fun m hm => ?_
  have hw := EventStep.foldl_wr (fun p : Nat × Nat => Reg.GRT_SATPEND p.1) (fun p => BitVec.ofNat 32 p.2)
    ((List.range 3).zip ((List.range 3).map s.dev.satWord)) s.dev
  dsimp only
  generalize ((List.range 3).zip ((List.range 3).map s.dev.satWord)).foldl _ s.dev = e at hw ⊢
  have hsat := Dev.sat_foldl_clear (List.range e.part.lanes) e m
  rw [List.contains_iff_mem.mpr (List.mem_range.mpr (by rwa [hw.part])), Bool.not_true, Bool.and_false] at hsat
  split
  · rw [Dev.lane, Dev.lanes_raise]
    exact hsat
  · exact hsat

end Sys2Proof.Machine
end


section
/-! A lane's due sample, and the claim on the grate. -/

namespace Sys2Proof.Machine

/-! ## A lane's sample (R138 to R140) -/

/-- A change that leaves a lane's next sample number, what waits to apply and the sample index. -/
structure KeepsNext (n : Nat) (d t : Dev) : Prop where
  next : (t.lane n).next = (d.lane n).next
  captures : t.captures = d.captures
  shadow : t.shadow = d.shadow
  scount : t.scount = d.scount

namespace KeepsNext
variable {n : Nat} {d t u : Dev}

theorem refl (n : Nat) (d : Dev) : KeepsNext n d d := ⟨rfl, rfl, rfl, rfl⟩

theorem trans (h : KeepsNext n d t) (k : KeepsNext n t u) : KeepsNext n d u :=
  ⟨k.next.trans h.next, k.captures.trans h.captures, k.shadow.trans h.shadow, k.scount.trans h.scount⟩

theorem ite {p : Prop} [Decidable p] (h : KeepsNext n d t) (k : KeepsNext n d u) : KeepsNext n d (if p then t else u) := by
  split
  · exact h
  · exact k

theorem foldl {α : Type} {f : Dev → α → Dev} (hf : ∀ e a, KeepsNext n e (f e a)) (xs : List α) (d : Dev) :
    KeepsNext n d (xs.foldl f d) := by
  induction xs generalizing d with
  | nil => exact .refl n d
  | cons a xs ih => exact (hf d a).trans (ih _)

theorem of_work (h : KeepsWork d t) : KeepsNext n d t :=
  ⟨by rw [Dev.lane, Dev.lane, h.lanes], h.captures, h.shadow, h.scount⟩

theorem of_event (h : EventStep d t) : KeepsNext n d t :=
  ⟨by rw [Dev.lane, Dev.lane, h.lanes], h.captures, h.shadow, h.scount⟩

section
variable (n d)

theorem setLane {x : Lane} (hx : x.next = (d.lane n).next) : KeepsNext n d (d.setLane n x) :=
  ⟨by rw [Dev.lane_setLane_same, hx], rfl, rfl, rfl⟩

theorem updLane {f : Lane → Lane} (hf : ∀ x, (f x).next = x.next) : KeepsNext n d (d.updLane n f) := setLane n d (hf _)

theorem updHearth (h : Nat) (f : Hearth → Hearth) : KeepsNext n d (d.updHearth h f) := ⟨rfl, rfl, rfl, rfl⟩

theorem closeBlock : KeepsNext n d (d.closeBlock n) := by
  unfold Dev.closeBlock
  dsimp only
  refine .ite (.refl n d) ?_
  split
  · refine .ite (.trans ?_ (.of_event (.raise _ _ _))) (setLane n d rfl)
    exact setLane n d rfl
  · exact setLane n d rfl

theorem backlogIn (s : Sample) : KeepsNext n d (d.backlogIn n s) := by
  have hjump : ∀ b : Bool, KeepsNext n d ((if b = true then d.closeBlock n else d).updLane n (fun x => { x with cur := x.cur ++ [s] })) :=
    fun b => (KeepsNext.ite (closeBlock n d) (.refl n d)).trans (updLane n _ fun _ => rfl)
  have hfull : ∀ e : Dev, KeepsNext n e (if 16 ≤ (e.lane n).cur.length then e.closeBlock n else e) := fun e =>
    .ite (closeBlock n e) (.refl n e)
  unfold Dev.backlogIn
  exact .ite (.refl n d) ((hjump _).trans (hfull _))

theorem snapLaneIn (s : Sample) : KeepsNext n d (d.snapLaneIn n s) := ⟨rfl, rfl, rfl, rfl⟩

/-- A sample that reaches the hobs, the backlog, the IQ entries and a lane snapshot. -/
theorem deliver (s : Sample) : KeepsNext n d (d.deliver n s) :=
  (((foldl (fun e h => updHearth n e h _) _ d).trans (backlogIn n _ s)).trans
    (foldl (fun e pe => .of_work (.iqIn e n s pe)) _ _)).trans (snapLaneIn n _ s)

end

end KeepsNext

/-- A due sample of a lane advances its number. -/
theorem Dev.laneSample_advances (d : Dev) (n : Nat) (i q : Int) (w : Nat) :
    ((d.laneSample n i q w).lane n).next = (d.lane n).next + 1 ∧ (d.laneSample n i q w).captures = d.captures ∧
      (d.laneSample n i q w).shadow = d.shadow ∧ (d.laneSample n i q w).scount = d.scount := by
  have hcount : ∀ (p p' : Prop) [Decidable p] [Decidable p'] (a b : Nat), EventStep d
      (if p' then (if p then d.incWordSat a 1 else d).incWordSat b 1 else (if p then d.incWordSat a 1 else d)) :=
    fun p p' _ _ a b => by
      have h : EventStep d (if p then d.incWordSat a 1 else d) := .ite (.wr _ _ _) (.refl d)
      exact .ite (h.trans (.wr _ _ _)) h
  unfold Dev.laneSample
  dsimp only
  generalize hs : (Sample.mk _ _ _ _ _) = smp
  have h1 := hcount (beyond (d.scaled n (mixed (d.ncoPhase n ((d.lane n).next * d.grid n)) i q).1) ||
    beyond (d.scaled n (mixed (d.ncoPhase n ((d.lane n).next * d.grid n)) i q).2)) (d.laneMark n (d.laneWeight n (d.lane n).next w))
    (Reg.GRT_LSATCNT (n / 8) (n % 8)) (Reg.GRT_LERACNT (n / 8) (n % 8))
  generalize (if d.laneMark n (d.laneWeight n (d.lane n).next w) = true then _ else _ : Dev) = e at h1 ⊢
  refine ⟨(KeepsNext.deliver n _ smp).next.trans ?_, (KeepsNext.deliver n _ smp).captures.trans h1.captures,
    (KeepsNext.deliver n _ smp).shadow.trans h1.shadow, (KeepsNext.deliver n _ smp).scount.trans h1.scount⟩
  rw [Dev.lane_updLane_same]

/-- A lane's page of which nothing waits does not apply. -/
theorem Dev.grtApply_of_no_capture {d : Dev} (n : Nat) (h : d.captures = []) : d.grtApply n = d := by
  unfold Dev.grtApply
  rw [h]
  rfl

theorem completes_laneOutputSample {s : State} {n : Nat} {i q : Int} {w : Nat} (hh : s.dev.held 3 = false) (hc : s.dev.captures = [])
    (hn : n < s.dev.part.lanes) (hr : s.dev.is (Reg.GRT_LSTAT_RUN (n / 8) (n % 8)) = true)
    (ht : (s.dev.lane n).next * s.dev.grid n + s.dev.laneDelay n ≤ s.dev.scount) :
    Completes (.laneOutputSample n i q w) s (fun d t =>
      (t.lane n).next = (d.lane n).next + 1 ∧ t.captures = [] ∧ t.shadow = d.shadow ∧ t.scount = d.scount) := by
  obtain ⟨h1, h2, h3, h4⟩ := s.dev.laneSample_advances n i q w
  have hdue : n < s.dev.part.lanes ∧ s.dev.laneDue n = true := ⟨hn, by simp [Dev.laneDue, Dev.dueAt, hr, ht]⟩
  have hgo : Goes (.laneOutputSample n i q w) s (s.dev.laneSample n i q w) :=
    goes_of_next rfl ((if_neg (by simp [hh])).trans ((if_pos hdue).trans (Dev.grtApply_of_no_capture n (h2.trans hc))))
  exact completes_of_goes hgo ⟨h1, h2.trans hc, h3, h4⟩

theorem grateShowsItsEffects : Claim.GrateShowsItsEffects := by
  intro s n c cause sub v w start i q a b others d refill st due
  refine ⟨completes_binFrame, completes_refillEnd, completes_saturationInterval, completes_binPowerUpdate,
    fun hh hc ⟨hn, hr, ht⟩ => completes_laneOutputSample hh hc hn hr ht, fun hh hc hst hl hready => ?_⟩
  obtain ⟨-, -, -, hwatched⟩ := monitorsSuspectAndFail s c cause sub v start others
  have h0 : st ≠ 0 := by rcases hst with h | h <;> rw [h] <;> decide
  have h5 : st ≠ 5 := by rcases hst with h | h <;> rw [h] <;> decide
  obtain ⟨-, hsuspect, -⟩ := hwatched hh hc h0 h5
  obtain ⟨t, hx, hsus, hcause, hstate, -⟩ := hsuspect hl hready
  exact ⟨t, hx, hsus, hcause, hstate⟩

end Sys2Proof.Machine
end


section
/-! The lane commands and what can be read after each: the binding, the status word, the program that runs again. -/

namespace Sys2Proof.Machine

/-! ## The lane and the hearth of a binding (R155, R156) -/

theorem getBits_hstWord_lane (w : Word) (st : Nat) (lane : Option Nat) : getBits (hstWord w st lane) 22 16 = lane.getD 0 % 128 := by
  unfold hstWord
  rw [getBits_putBits_other _ 15 15 22 16 _ (by omega) (by omega) (by omega), getBits_putBits _ 22 16 _ (by omega) (by omega)]
  norm_num

theorem EventStep.setHstate (d : Dev) (h st : Nat) (lane : Option Nat) : EventStep d (d.setHstate h st lane) :=
  (EventStep.wr d _ _).trans (.refreshMargin _)

theorem EventStep.bindTo (d : Dev) (n h : Nat) : EventStep d (d.bindTo n h) :=
  ((EventStep.setHstate d h stPrimary (some n)).trans (.wr _ _ _)).trans (.wr _ _ _)

theorem EventStep.laneDone (d : Dev) (n op tag st : Nat) : EventStep d (d.laneDone n op tag st) :=
  ((EventStep.wr d _ _).trans (.wr _ _ _)).trans (.raise _ _ _)

theorem EventStep.laneEnd (d : Dev) (n st : Nat) : EventStep d (d.laneEnd n st) := (EventStep.wr d _ _).trans (.raise _ _ _)

/-- A lane is bound to a hearth, which is PRIMARY and serves it. -/
structure Bound (t : Dev) (n k : Nat) : Prop where
  bound : t.bound n = some k
  primary : t.hstate k = stPrimary
  lane : t.laneOf k = some n

/-- A binding is read from the lane's LANE_BIND and the hearth's HST_STAT. -/
theorem Bound.kept {d t : Dev} {n k : Nat} (h : Bound d n k) (hp : t.part = d.part) (hb : t.rd (Reg.LANE_BIND n) = d.rd (Reg.LANE_BIND n))
    (hs : t.rd (Reg.HST_STAT k) = d.rd (Reg.HST_STAT k)) : Bound t n k := by
  obtain ⟨h1, h2, h3⟩ := h
  refine ⟨?_, ?_, ?_⟩
  · rw [← h1]
    unfold Dev.bound Dev.is Dev.get
    rw [hb]
  · rw [← h2]
    unfold Dev.hstate Dev.get
    rw [hp, hs]
  · rw [← h3]
    unfold Dev.laneOf Dev.is Dev.get
    rw [hs]

section
variable {d : Dev} {n h : Nat}

theorem Dev.rd_bindTo (d : Dev) (n h : Nat) {a : Nat} (h1 : 0x100000 ≤ a) (h2 : a < 0x160000) (hb : a ≠ Reg.LANE_BIND n) :
    (d.bindTo n h).rd a = d.rd a := by
  unfold Dev.bindTo
  rw [Dev.rd_set_other _ _ hb, Dev.rd_set_other _ _ hb, Dev.rd_setHstate _ _ _ _ h1 (by omega), if_neg (by simp only [Reg.HST_STAT]; omega)]

theorem Dev.bindTo_bound (hn : n < 96) (hh : h < d.part.hearths) : Bound (d.bindTo n h) n h := by
  have hle := d.part.hearths_le
  have hstat : (d.bindTo n h).rd (Reg.HST_STAT h) = hstWord (d.rd (Reg.HST_STAT h)) stPrimary (some n) := by
    have hne : Reg.HST_STAT h ≠ Reg.LANE_BIND n := by
      simp only [Reg.HST_STAT, Reg.LANE_BIND]
      omega
    unfold Dev.bindTo
    rw [Dev.rd_set_other _ _ hne, Dev.rd_set_other _ _ hne,
      Dev.rd_setHstate _ _ _ _ (by simp only [Reg.HST_STAT]; omega) (by simp only [Reg.HST_STAT]; omega), if_pos rfl]
  have hv : (d.bindTo n h).get (Reg.LANE_BIND_HVALID n) = 1 := Dev.get_set_same _ 1 (by simp) (by simp)
  have hb : (d.bindTo n h).get (Reg.LANE_BIND_HEARTH n) = h := by
    unfold Dev.bindTo
    rw [Dev.get_set_apart _ _ (by simp) (by simp) (by simp), Dev.get_set_same _ _ (by simp) (by simp)]
    exact Nat.mod_eq_of_lt (by norm_num; omega)
  refine ⟨by simp [Dev.bound, Dev.is, hv, hb], ?_, ?_⟩
  · unfold Dev.hstate Dev.get
    rw [(EventStep.bindTo d n h).part, if_pos hh, hstat, getBits_hstWord_state]
    rfl
  · unfold Dev.laneOf Dev.is Dev.get
    rw [hstat, getBits_hstWord_laneV, getBits_hstWord_lane, Option.getD_some, Nat.mod_eq_of_lt (show n < 128 by omega)]
    rfl

/-- A lane that is not enabled is bound and starts nothing. -/
theorem Dev.bindStart_off {dmg : Damage} (hn : n < 96) (he : d.is (Reg.LANE_CTL_EN n) = false) : d.bindStart n h dmg = d.bindTo n h := by
  have hen : (d.bindTo n h).is (Reg.LANE_CTL_EN n) = false := by
    rw [← he]
    unfold Dev.is Dev.get
    rw [Dev.rd_bindTo _ _ _ (by simp only [Reg.LANE_CTL]; omega) (by simp only [Reg.LANE_CTL]; omega)
      (by simp only [Reg.LANE_CTL, Reg.LANE_BIND]; omega)]
  exact if_neg (by simp [hen])

/-! ## The end of a lane command (R4, R5) -/

theorem Dev.rd_laneDone (d : Dev) {n op tag st a : Nat} (h1 : a ≠ Reg.LANE_CMDSTAT n) (h2 : a ≠ Reg.LANE_STAT n) :
    (d.laneDone n op tag st).rd a = d.rd a := by
  unfold Dev.laneDone Dev.cmdDone Dev.cmdEnd Dev.cmdStart
  rw [Dev.rd_raise_other _ _ h2, Dev.rd_wr_other _ _ h1, Dev.rd_wr_other _ _ h1]

theorem Dev.rd_laneEnd (d : Dev) {n st a : Nat} (h1 : a ≠ Reg.LANE_CMDSTAT n) (h2 : a ≠ Reg.LANE_STAT n) :
    (d.laneEnd n st).rd a = d.rd a := by
  unfold Dev.laneEnd Dev.cmdEnd
  rw [Dev.rd_raise_other _ _ h2, Dev.rd_wr_other _ _ h1]

/-- The status word of a lane command that ended with status OK. -/
theorem Dev.laneDone_status (d : Dev) (n : Nat) {op : Nat} (tag : Nat) (ho : op < 256) :
    (d.laneDone n op tag 0).rd (Reg.LANE_CMDSTAT n) = BitVec.ofNat 32 (op * 2 ^ 24 + tag % 256 * 2 ^ 8) := by
  have htag : d.cmdDone (Reg.LANE_CMDSTAT n) op tag 0 = d.cmdDone (Reg.LANE_CMDSTAT n) op (tag % 256) 0 := by
    unfold Dev.cmdDone Dev.cmdStart
    rw [Nat.mod_mod]
  unfold Dev.laneDone
  rw [Dev.rd_raise_other _ _ (by simp only [Reg.LANE_CMDSTAT, Reg.LANE_STAT]; omega), htag,
    Dev.cmdDone_eq_wr _ _ ho (Nat.mod_lt _ (by decide)) (by decide), Dev.rd_wr_same, Nat.zero_mul, Nat.add_zero]

/-- A deferred command that ends with status OK. -/
theorem Dev.laneEnd_status (d : Dev) (n : Nat) : getBits ((d.laneEnd n 0).rd (Reg.LANE_CMDSTAT n)) 23 16 = 0 ∧
    ((d.laneEnd n 0).rd (Reg.LANE_CMDSTAT n)).getLsbD 0 = false := by
  unfold Dev.laneEnd Dev.cmdEnd
  rw [Dev.rd_raise_other _ _ (by simp only [Reg.LANE_CMDSTAT, Reg.LANE_STAT]; omega), Dev.rd_wr_same]
  refine ⟨?_, ?_⟩
  · rw [getBits_putBits_other _ 0 0 23 16 _ (by omega) (by omega) (by omega), getBits_putBits _ 23 16 _ (by omega) (by omega)]
    rfl
  · rw [getLsbD_putBits _ _ (by omega) (le_refl 0), if_pos (by omega)]
    rfl

theorem Bound.laneDone (hb : Bound d n h) (op tag st : Nat) : Bound (d.laneDone n op tag st) n h :=
  hb.kept (EventStep.laneDone d n op tag st).part
    (Dev.rd_laneDone d (by simp only [Reg.LANE_BIND, Reg.LANE_CMDSTAT]; omega) (by simp only [Reg.LANE_BIND, Reg.LANE_STAT]; omega))
    (Dev.rd_laneDone d (by simp only [Reg.HST_STAT, Reg.LANE_CMDSTAT]; omega) (by simp only [Reg.HST_STAT, Reg.LANE_STAT]; omega))

theorem Bound.laneEnd (hb : Bound d n h) (st : Nat) : Bound (d.laneEnd n st) n h :=
  hb.kept (EventStep.laneEnd d n st).part
    (Dev.rd_laneEnd d (by simp only [Reg.LANE_BIND, Reg.LANE_CMDSTAT]; omega) (by simp only [Reg.LANE_BIND, Reg.LANE_STAT]; omega))
    (Dev.rd_laneEnd d (by simp only [Reg.HST_STAT, Reg.LANE_CMDSTAT]; omega) (by simp only [Reg.HST_STAT, Reg.LANE_STAT]; omega))

@[simp] theorem Dev.part_leave (d : Dev) (h st : Nat) : (d.leave h st).part = d.part := by
  unfold Dev.leave
  rw [Dev.part_setHstate, Dev.part_freeHearthSet]
  rfl

/-- An UNBIND of a lane that is not enabled ends with status OK. -/
theorem Dev.laneUnbind_ends {tag : Nat} (hm : d.migrating n = false) (hb : d.bound n = some h) (he : d.is (Reg.LANE_CTL_EN n) = false) :
    ∃ e : Dev, d.laneUnbind n tag = e.laneDone n 2 tag 0 := by
  unfold Dev.laneUnbind
  rw [if_neg (by simp [hm]), hb]
  dsimp only
  rw [if_neg (by simp [he])]
  exact ⟨_, rfl⟩

/-- The move of a lane whose program does not run. -/
theorem Dev.moveStopped_bound {s : Nat} (hn : n < 96) (hs : s < d.part.hearths) : Bound (d.moveStopped n h s) n s := by
  unfold Dev.moveStopped
  exact Dev.bindTo_bound hn (by simpa using hs)

/-! ## A program that runs again (R175, R193) -/

theorem Dev.hearth_updLane (d : Dev) (n : Nat) (f : Lane → Lane) (h : Nat) : (d.updLane n f).hearth h = d.hearth h := rfl

/-- A program of a hearth runs from its main entry, on a lane that is not halted. -/
structure Restarted (t : Dev) (n h : Nat) : Prop where
  running : (t.hearth h).running = true
  start : (t.hearth h).start = 1
  halted : (t.lane n).halted = false

theorem Restarted.of_event {t : Dev} (k : Restarted d n h) (he : EventStep d t) : Restarted t n h :=
  ⟨by rw [Dev.hearth_of_hearths he.hearths, k.running], by rw [Dev.hearth_of_hearths he.hearths, k.start],
    by rw [Dev.lane, he.lanes]; exact k.halted⟩

theorem Restarted.sysRefill (k : Restarted d n h) (m : Nat) : Restarted (d.sysRefill m h) n h := by
  unfold Dev.sysRefill
  split
  · refine ⟨?_, ?_, ?_⟩
    · rw [Dev.hearth_updLane, Dev.updHearth, Dev.hearth_setHearth_same, k.running]
    · rw [Dev.hearth_updLane, Dev.updHearth, Dev.hearth_setHearth_same, k.start]
    · unfold Dev.updLane
      rw [Dev.lane_setLane]
      split
      · next hm => rw [← hm]; exact k.halted
      · exact k.halted
  · exact k

theorem Dev.startHearth_restarted {slot : Nat} (hl : (d.lane n).halted = false) : Restarted (d.startHearth h slot 1 none) n h := by
  unfold Dev.startHearth
  refine Restarted.sysRefill (d := d.setHearth h _) ⟨?_, ?_, hl⟩ _
  · rw [Dev.hearth_setHearth_same]
  · rw [Dev.hearth_setHearth_same]

theorem Dev.laneRestart_restarted : Restarted (d.laneRestart n h .intact) n h := by
  have hs : ∀ e : Dev, (e.lane n).halted = false →
      Restarted (((e.startHearth h (d.laneSlot n) 1 none).showDemand n).raise (Reg.LANE_STAT n) 1) n h := fun e he =>
    (((Dev.startHearth_restarted he).of_event ((EventStep.wr _ _ _).trans (.refreshMargin _)))).of_event (.raise _ _ _)
  exact hs _ (by rw [Dev.lane_updLane_same])

end

theorem laneCommandsShowTheirBinding : Claim.LaneCommandsShowTheirBinding := by
  intro s n h arg tag hs d idle off ended takes
  have hle := d.part.lanes_le
  have ends : ∀ {e : Dev} {k : Nat} {op : Nat}, op < 256 → Bound e n k → takes (e.laneDone n op tag 0) k ∧ ended (e.laneDone n op tag 0) op :=
    fun {e k op} ho hb => by
      obtain ⟨h1, h2, h3⟩ := hb.laneDone op tag 0
      exact ⟨⟨h1, h2, h3⟩, e.laneDone_status n tag ho⟩
  refine ⟨fun ⟨hn, hb, hm⟩ he hu hf => ?_, fun ⟨hn, hb, hm⟩ he hu ha hf => ?_, fun ⟨hn, hb, hm⟩ he hu => ?_,
    fun ⟨hn, hb, hm⟩ hg hu hr ha hf => ?_, fun ⟨hn, hb, hm⟩ he hu hst => ?_, fun hn he hw ha hf => ?_⟩
  all_goals have h96 : n < 96 := lt_of_lt_of_le hn hle
  · have hh : h ∈ d.hearthsIn stFree := by rw [hf]; exact List.mem_cons_self
    have hlt : h < d.part.hearths := List.mem_range.mp (List.mem_filter.mp hh).1
    refine completes_of_goes (goes_bind (Dev.laneCmd_accepted _ _ _ _ hn hb)) ?_
    rw [Dev.laneBind_any hm hu hf, Dev.bindStart_off h96 he]
    exact ends (op := 1) (by decide) (Dev.bindTo_bound h96 hlt)
  · have hname : d.nameStatus arg = 0 := Dev.nameStatus_free ha hf
    have hnot : ¬(arg < d.part.hearths ∧ (d.hstate arg = stUntested ∨ (d.hstate arg = stTesting ∧ (d.hearth arg).testKind = 1))) := by
      simp [hf, stFree, stUntested, stTesting]
    have harg : arg ≠ 0x7F := by
      have := d.part.hearths_le
      omega
    refine completes_of_goes (goes_bind (Dev.laneCmd_accepted _ _ _ _ hn hb)) ?_
    rw [Dev.laneBind_named hm hu harg hnot, hname, if_neg (by decide), Dev.bindStart_off h96 he]
    exact ends (op := 1) (by decide) (Dev.bindTo_bound h96 ha)
  · refine completes_of_goes (goes_unbind (Dev.laneCmd_accepted _ _ _ _ hn hb)) ⟨(Dev.laneUnbind_stopped hm hu he h96).1, ?_⟩
    obtain ⟨e, heq⟩ := Dev.laneUnbind_ends (tag := tag) hm hu he
    rw [heq]
    exact e.laneDone_status n (op := 2) tag (by decide)
  · have harg : arg ≠ 0x7F := by
      have := d.part.hearths_le
      omega
    refine completes_of_goes (goes_move (Dev.laneCmd_accepted _ _ _ _ hn hb)) ?_
    rw [Dev.laneMove_stopped hm hg hu harg (Dev.nameStatus_free ha hf) hr]
    exact ends (op := 3) (by decide) (Dev.moveStopped_bound h96 ha)
  · refine completes_of_goes (goes_restart (Dev.laneCmd_accepted _ _ _ _ hn hb)) ?_
    rw [Dev.laneRestartCmd_accepted hu he (.inl hm), Dev.haltedMig_idle hm, if_pos hst]
    obtain ⟨h1, h2, h3⟩ := (Dev.laneRestart_restarted (d := d) (n := n) (h := h)).of_event (.laneDone _ n 4 tag 0)
    exact ⟨h1, h2, h3, Dev.laneDone_status _ n (op := 4) tag (by decide)⟩
  · have harg : arg ≠ 0x7F := by
      have := d.part.hearths_le
      omega
    have hoff : (d.updLane n (fun x => { x with waitBind := none })).bindStart n arg .intact = _ := Dev.bindStart_off h96 he
    refine completes_of_goes (goes_deferredBind ((Dev.deferredBind_named hw harg hf).trans (congrArg (Dev.laneEnd · n 0) hoff))) ?_
    obtain ⟨h1, h2, h3⟩ := (Dev.bindTo_bound (d := d.updLane n (fun x => { x with waitBind := none })) h96 ha).laneEnd 0
    have hk := (EventStep.bindTo (d.updLane n (fun x => { x with waitBind := none })) n arg).trans (.laneEnd _ n 0)
    refine ⟨⟨h1, h2, h3⟩, ?_, Dev.laneEnd_status _ n⟩
    rw [Dev.lane, hk.lanes]
    exact congrArg Lane.waitBind (Dev.lane_updLane_same d n _)

end Sys2Proof.Machine
end


section
/-! Hearths, and what can be read after each: a declared failure, the rolling self-test, the live point. -/

namespace Sys2Proof.Machine

/-! ## A hearth of no lane fails (R163, R171) -/

/-- A hearth whose failure is declared: stopped, isolated, with the cause and the time. -/
def Dev.declared (d : Dev) (h cause faultT : Nat) : Dev :=
  (((((d.set (Reg.HST_STAT_CAUSE h) cause).wr64 (Reg.HST_FAULT_LO h) (Reg.HST_FAULT_HI h) faultT).killHearth h).updHearth h
    (fun x => { x with testKind := if cause = 9 then 4 else 0 })).setHstate h stIsolated none).fwHearthFailed h faultT

theorem getBits_hstWord_cause (w : Word) (st : Nat) (lane : Option Nat) : getBits (hstWord w st lane) 27 24 = getBits w 27 24 := by
  unfold hstWord
  rw [getBits_putBits_other _ 15 15 27 24 _ (by omega) (by omega) (by omega),
    getBits_putBits_other _ 22 16 27 24 _ (by omega) (by omega) (by omega),
    getBits_putBits_other _ 31 28 27 24 _ (by omega) (by omega) (by omega)]

section
variable {d : Dev} {h cause fault faultT : Nat}

theorem Dev.declareFail_free (hl : d.laneOf h = none) (h2 : 2 ≤ d.hstate h) (h5 : d.hstate h ≤ 5) :
    d.declareFail h cause fault faultT = d.declared h cause faultT := by
  have hd : d.declare h cause faultT = (none, d.declared h cause faultT) := by
    unfold Dev.declare
    dsimp only
    rw [if_neg (by omega), hl]
    rfl
  unfold Dev.declareFail
  rw [hd]

theorem Dev.hearth_withdraw (d : Dev) (h g : Nat) : (d.withdraw h).hearth g = d.hearth g := rfl
theorem Dev.part_killHearth (d : Dev) (h : Nat) : (d.killHearth h).part = d.part := rfl

theorem Dev.hearth_killHearth (d : Dev) (h : Nat) : ((d.killHearth h).hearth h).running = false := by
  unfold Dev.killHearth
  rw [Dev.hearth_withdraw, Dev.hearth_updHearth_same]

theorem Dev.declared_shows (hh : h < d.part.hearths) (hc : cause < 16) : (d.declared h cause faultT).hstate h = stIsolated ∧
    ((d.declared h cause faultT).hearth h).running = false ∧ (d.declared h cause faultT).get (Reg.HST_STAT_CAUSE h) = cause := by
  have hle := d.part.hearths_le
  unfold Dev.declared
  generalize he : (((d.set (Reg.HST_STAT_CAUSE h) cause).wr64 (Reg.HST_FAULT_LO h) (Reg.HST_FAULT_HI h) faultT).killHearth h).updHearth h
    (fun x => { x with testKind := if cause = 9 then 4 else 0 }) = e
  have hpart : h < e.part.hearths := by
    rw [← he, Dev.part_updHearth, Dev.part_killHearth, Dev.wr64, Dev.part_wr, Dev.part_wr, Dev.part_set]
    exact hh
  have hrun : (e.hearth h).running = false := by
    rw [← he, Dev.hearth_updHearth_same]
    exact Dev.hearth_killHearth _ h
  have hcause : getBits (e.rd (Reg.HST_STAT h)) 27 24 = cause := by
    have hrd : e.rd (Reg.HST_STAT h) = (d.set (Reg.HST_STAT_CAUSE h) cause).rd (Reg.HST_STAT h) := by
      rw [← he, Dev.rd_updHearth, Dev.rd_killHearth, Dev.wr64, Dev.rd_wr_other _ _ (by simp), Dev.rd_wr_other _ _ (by simp)]
    rw [hrd]
    exact (Dev.get_set_same d (f := Reg.HST_STAT_CAUSE h) cause (by simp) (by simp)).trans (Nat.mod_eq_of_lt hc)
  have hk := (KeepsWork.fwHearthFailed (e.setHstate h stIsolated none) h faultT).units
  have hkh : KeepsHearth h _ _ := .of_keepsUnits hk (by simpa using hpart)
  refine ⟨hkh.hstate.trans (Dev.hstate_setHstate e hpart (by decide) none), ?_, ?_⟩
  · rw [hkh.record, Dev.hearth_of_hearths (Dev.hearths_setHstate _ _ _ _), hrun]
  · unfold Dev.get
    rw [hkh.stat, Dev.rd_setHstate _ _ _ _ (by simp only [Reg.HST_STAT]; omega) (by simp only [Reg.HST_STAT]; omega), if_pos rfl,
      getBits_hstWord_cause, hcause]

end

/-! ## The rolling self-test takes a hearth out (R186) -/

theorem Dev.rolling_freeHearthSet (d : Dev) (h : Nat) : (d.freeHearthSet h).rolling = d.rolling := by
  unfold Dev.freeHearthSet
  split
  · unfold Dev.freeSet
    split
    · rw [(EventStep.refreshAsh _ _).rolling]
      rfl
    · rfl
  · rfl

theorem Dev.rolling_killHearth (d : Dev) (h : Nat) : (d.killHearth h).rolling = d.rolling := rfl

theorem Dev.rolling_leave (d : Dev) (h st : Nat) : (d.leave h st).rolling = d.rolling := by
  unfold Dev.leave
  rw [(EventStep.setHstate _ _ _ _).rolling, Dev.rolling_freeHearthSet, Dev.rolling_killHearth]

theorem Dev.hstate_leave {d : Dev} {h st : Nat} (hh : h < d.part.hearths) (hs : st < 16) : (d.leave h st).hstate h = st := by
  unfold Dev.leave
  exact Dev.hstate_setHstate _ (by rwa [Dev.part_freeHearthSet, Dev.part_killHearth]) hs none

/-- A hearth's state is read from its HST_STAT. -/
theorem Dev.hstate_congr {d t : Dev} {h : Nat} (hp : t.part = d.part) (hs : t.rd (Reg.HST_STAT h) = d.rd (Reg.HST_STAT h)) :
    t.hstate h = d.hstate h := by
  unfold Dev.hstate Dev.get
  rw [hp, hs]

/-- The device as a hearth is under test, with the unit of the visit. -/
def Dev.visitTest (d : Dev) (h : Nat) : Dev := { d.set Reg.HMG_RSTSTAT_STATE 2 with rolling := { d.rolling with unit := some h } }

theorem Dev.visitTest_shows (d : Dev) (h : Nat) : (d.visitTest h).hstate h = (d.set Reg.HMG_RSTSTAT_STATE 2).hstate h ∧
    (d.visitTest h).rolling = { d.rolling with unit := some h } := ⟨rfl, rfl⟩

/-- A hearth goes to its test: it leaves its lane and is TESTING. -/
theorem Dev.testHearth_shows {d : Dev} {h : Nat} (hh : h < d.part.hearths) : (d.testHearth h).hstate h = stTesting ∧
    (d.testHearth h).rolling = { d.rolling with unit := some h } := by
  have hle := d.part.hearths_le
  have heq : d.testHearth h = (((d.leave h stTesting).updHearth h
      (fun x => { x with testKind := 2, before := d.hstate h })).visitTest h).refreshMargin := rfl
  have hroll : ((d.leave h stTesting).updHearth h (fun x => { x with testKind := 2, before := d.hstate h })).rolling = d.rolling :=
    d.rolling_leave h stTesting
  have hstate : ((d.leave h stTesting).updHearth h (fun x => { x with testKind := 2, before := d.hstate h })).hstate h = stTesting :=
    (Dev.hstate_congr (Dev.part_updHearth _ _ _) (Dev.rd_updHearth _ _ _ _)).trans (Dev.hstate_leave hh (by decide))
  generalize (d.leave h stTesting).updHearth h (fun x => { x with testKind := 2, before := d.hstate h }) = e at heq hroll hstate
  obtain ⟨h1, h2⟩ := e.visitTest_shows h
  have hmargin := Dev.refreshMargin_keepsUnits (e.visitTest h)
  rw [heq]
  refine ⟨?_, ?_⟩
  · rw [Dev.hstate_congr hmargin.part (hmargin.rd _ (by simp only [Reg.HST_STAT]; omega) (by simp only [Reg.HST_STAT]; omega)), h1,
      Dev.hstate_congr (d := e) (Dev.part_set _ _ _) (Dev.rd_set_other _ _ (by simp only [Reg.HST_STAT, Reg.HMG_RSTSTAT]; omega)), hstate]
  · rw [(EventStep.refreshMargin _).rolling, h2, hroll]

theorem completes_rollingSelftestTick_suspect {s : State} {h : Nat} {us : List Nat} (he : s.dev.is Reg.HMG_RSTCFG_EN = true)
    (hm : s.dev.migr = true) (hu : s.dev.rolling.unit = none) (h0 : s.dev.rolling.startedAt = 0)
    (hs : s.dev.rolling.suspects = h :: us) (hh : h < 104) (hst : s.dev.hstate h = stFree) :
    Completes .rollingSelftestTick s (fun _ t => t.hstate h = stTesting ∧ t.rolling.unit = some h ∧ t.rolling.suspects = us) := by
  have hlt : h < s.dev.part.hearths := Dev.lt_hearths_of_hstate hst (by decide)
  have hnext := Dev.nextUnit_suspect (d := s.dev.visit s.dev.rolling) (u := h) (us := us) hs
  have hgo := goes_rollingSelftestTick_due (s := s) ⟨he, hm, hu, .inl h0⟩
  rw [hnext] at hgo
  generalize hd : ({ s.dev.visit s.dev.rolling with rolling := { (s.dev.visit s.dev.rolling).rolling with
    suspects := us, lastOfPass := false } } : Dev) = e at hgo
  have hpart : (e.showUnit h).part = s.dev.part := by
    rw [← hd]
    rfl
  have hroll : (e.showUnit h).rolling.suspects = us := by
    rw [← hd]
    rfl
  have hstate : (e.showUnit h).hstate h = stFree := by
    rw [← hst]
    refine Dev.hstate_congr hpart ?_
    unfold Dev.showUnit
    rw [Dev.rd_set_other _ _ (by simp only [Reg.HST_STAT, Reg.HMG_RSTSTAT]; omega),
      Dev.rd_set_other _ _ (by simp only [Reg.HST_STAT, Reg.HMG_RSTSTAT]; omega), ← hd]
    rfl
  have hvisit : visitUnit (some h, e) = (e.showUnit h).testHearth h := by
    have hroll : (e.showUnit h).rollHearth h = (e.showUnit h).testHearth h := if_pos hstate
    exact (if_pos (by omega)).trans hroll
  obtain ⟨h1, h2⟩ := Dev.testHearth_shows (d := e.showUnit h) (by rwa [hpart])
  rw [hvisit] at hgo
  refine completes_of_goes hgo ⟨h1, ?_, ?_⟩
  · rw [h2]
  · rw [h2]
    exact hroll

/-! ## The live point (R176) -/

theorem Hearth.replay_arrive (x : Hearth) (ss : List Sample) : (x.arrive ss).replay = x.replay := by
  unfold Hearth.arrive
  dsimp only
  split <;> rfl

theorem Hearth.replay_inputTake (x : Hearth) : x.inputTake.replay = x.replay := by
  unfold Hearth.inputTake
  dsimp only
  split
  · rfl
  · split <;> rfl

theorem Dev.goLive_replay (d : Dev) (n h r : Nat) : ((d.goLive n h r).hearth h).replay = none := by
  unfold Dev.goLive
  rw [Dev.hearth_updHearth_same, Hearth.replay_inputTake, Hearth.replay_arrive]

theorem Dev.goLive_keepsLane (d : Dev) (n h r : Nat) : (d.goLive n h r).lane n = d.lane n ∧ (d.goLive n h r).shadowOf n = d.shadowOf n := by
  have hkeep : ∀ f : Hearth → Hearth, (d.updHearth h f).lane n = d.lane n ∧ (d.updHearth h f).shadowOf n = d.shadowOf n := fun _ => ⟨rfl, rfl⟩
  exact hkeep _

section
variable {s : State} {n h r : Nat}

theorem goes_replayLivePoint_primary (hl : s.dev.laneOf h = some n) (hr : (s.dev.hearth h).replay = some r)
    (hb : (s.dev.lane n).bkNext ≤ r) (hf : (s.dev.hearth h).fifo = []) (hlen : (s.dev.replayRest n r).length ≤ 1024)
    (hm : (s.dev.lane n).mig = none) (hw : (s.dev.lane n).swap = none) (hsh : s.dev.shadowOf n = none) :
    Goes (.replayLivePoint h) s ((s.dev.goLive n h r).setHstate h stPrimary (some n)) := by
  have hstay : ¬((decide (r < (s.dev.lane n).bkNext) || decide (1024 < (s.dev.hearth h).fifo.length + (s.dev.replayRest n r).length)) = true) := by
    simp [hf, hb, hlen]
  obtain ⟨hlane, hshadow⟩ := s.dev.goLive_keepsLane n h r
  refine goes_of_next rfl ?_
  simp only [hl, hr]
  rw [if_neg hstay, hlane, hshadow, hw, hsh, if_neg (by simp), if_neg (by simp), hm]

theorem completes_replayLivePoint (hl : s.dev.laneOf h = some n) (hr : (s.dev.hearth h).replay = some r)
    (hb : (s.dev.lane n).bkNext ≤ r) (hf : (s.dev.hearth h).fifo = []) (hlen : (s.dev.replayRest n r).length ≤ 1024)
    (hm : (s.dev.lane n).mig = none) (hw : (s.dev.lane n).swap = none) (hsh : s.dev.shadowOf n = none) (hh : h < s.dev.part.hearths) :
    Completes (.replayLivePoint h) s (fun _ t => (t.hearth h).replay = none ∧ t.hstate h = stPrimary) := by
  have hh' : h < (s.dev.goLive n h r).part.hearths := by
    rw [Dev.goLive, Dev.part_updHearth]
    exact hh
  refine completes_of_goes (goes_replayLivePoint_primary hl hr hb hf hlen hm hw hsh) ⟨?_, Dev.hstate_setHstate _ hh' (by decide) _⟩
  rw [Dev.hearth_of_hearths (Dev.hearths_setHstate _ _ _ _), Dev.goLive_replay]

end

end Sys2Proof.Machine
end


section
/-! The end of a migration: the lane has none, and its status is recorded. -/

namespace Sys2Proof.Machine

/-! ## The end of a migration (R171, R180, R188) -/

/-- A change that leaves a lane's migration, whether it is halted, and LANE_MIG. -/
structure KeepsMig (n : Nat) (d t : Dev) : Prop where
  mig : (t.lane n).mig = (d.lane n).mig
  halted : (t.lane n).halted = (d.lane n).halted
  rd : t.rd (Reg.LANE_MIG n) = d.rd (Reg.LANE_MIG n)

namespace KeepsMig
variable {n : Nat} {d t u : Dev}

theorem refl (n : Nat) (d : Dev) : KeepsMig n d d := ⟨rfl, rfl, rfl⟩

theorem trans (h : KeepsMig n d t) (k : KeepsMig n t u) : KeepsMig n d u :=
  ⟨k.mig.trans h.mig, k.halted.trans h.halted, k.rd.trans h.rd⟩

theorem ite {p : Prop} [Decidable p] (h : KeepsMig n d t) (k : KeepsMig n d u) : KeepsMig n d (if p then t else u) := by
  split
  · exact h
  · exact k

theorem of_work (h : KeepsWork d t) (hn : n < 96) : KeepsMig n d t :=
  ⟨by rw [Dev.lane, Dev.lane, h.lanes], by rw [Dev.lane, Dev.lane, h.lanes],
    h.units.rd _ (by simp only [Reg.LANE_MIG]; omega) (by simp only [Reg.LANE_MIG]; omega)⟩

section
variable (n d)

theorem wr {a : Nat} (w : Word) (ha : Reg.LANE_MIG n ≠ a) : KeepsMig n d (d.wr a w) := ⟨rfl, rfl, Dev.rd_wr_other _ _ ha⟩

theorem raise {a : Nat} (b : Nat) (ha : Reg.LANE_MIG n ≠ a) : KeepsMig n d (d.raise a b) :=
  ⟨by rw [Dev.lane, Dev.lanes_raise]; rfl, by rw [Dev.lane, Dev.lanes_raise]; rfl, Dev.rd_raise_other _ _ ha⟩

theorem setLane {x : Lane} (hm : x.mig = (d.lane n).mig) (hh : x.halted = (d.lane n).halted) : KeepsMig n d (d.setLane n x) :=
  ⟨by rw [Dev.lane_setLane_same, hm], by rw [Dev.lane_setLane_same, hh], rfl⟩

theorem updLane {f : Lane → Lane} (hm : ∀ x, (f x).mig = x.mig) (hh : ∀ x, (f x).halted = x.halted) : KeepsMig n d (d.updLane n f) :=
  setLane n d (hm _) (hh _)

variable (hn : n < 96)
include hn

/-- Units held back are discarded, with their PAUSE marker (R170). -/
theorem dropHeld : KeepsMig n d (d.dropHeld n) := by
  have hdiscard : ∀ q, KeepsMig n d (d.discardMain n q) := fun q => by
    refine .trans ?_ (of_work (KeepsWork.refreshAsh _ n) hn)
    exact setLane n d rfl rfl
  have hpause := fun q => (hdiscard q).trans (updLane n (d.discardMain n q)
    (f := fun x => { x with paused := false, holdKey := none }) (fun _ => rfl) fun _ => rfl)
  exact .ite ((hpause _).trans (of_work (KeepsWork.lossAll _ n none 1) hn)) (hpause _)

end

end KeepsMig

section
variable {d : Dev} {n status frm tgt : Nat}

/-- The record of a migration's end writes its status. -/
theorem Dev.migRecord_shows (hn : n < 96) (hs : status < 256) : (d.migRecord n status frm tgt).lanes = d.lanes ∧
    (d.migRecord n status frm tgt).get (Reg.LANE_MIG_STATUS n) = status := by
  have hstat : ((d.set (Reg.LANE_MIG_STATUS n) status).incMod (Reg.LANE_MIG_COUNT n) 1).get (Reg.LANE_MIG_STATUS n) = status := by
    unfold Dev.incMod
    rw [Dev.get_set_apart _ _ (by simp) (by simp) (by simp), Dev.get_set_same _ _ (by simp) (by simp)]
    exact Nat.mod_eq_of_lt hs
  have hlanes : ((d.set (Reg.LANE_MIG_STATUS n) status).incMod (Reg.LANE_MIG_COUNT n) 1).lanes = d.lanes := rfl
  unfold Dev.migRecord
  dsimp only
  generalize (d.set (Reg.LANE_MIG_STATUS n) status).incMod (Reg.LANE_MIG_COUNT n) 1 = e at hstat hlanes ⊢
  have hmap : ∀ (w v : Word) (bad : Bool) (sev det : Nat),
      let t := (if bad = true then (((e.wr Reg.HMG_MIGSTAT w).wr Reg.HMG_MIGCNT v).raise Reg.HMG_EVT 1).raise (Reg.LANE_STAT n) 6
        else ((e.wr Reg.HMG_MIGSTAT w).wr Reg.HMG_MIGCNT v).raise Reg.HMG_EVT 1).sootE sev 0x20 0x4001 det
      t.lanes = e.lanes ∧ t.rd (Reg.LANE_MIG n) = e.rd (Reg.LANE_MIG n) := fun w v bad sev det => by
    have hev : EventStep e (((e.wr Reg.HMG_MIGSTAT w).wr Reg.HMG_MIGCNT v).raise Reg.HMG_EVT 1) :=
      ((EventStep.wr e _ w).trans (.wr _ _ v)).trans (.raise _ _ 1)
    have hrd : (((e.wr Reg.HMG_MIGSTAT w).wr Reg.HMG_MIGCNT v).raise Reg.HMG_EVT 1).rd (Reg.LANE_MIG n) = e.rd (Reg.LANE_MIG n) := by
      rw [Dev.rd_raise_other _ _ (by simp only [Reg.LANE_MIG, Reg.HMG_EVT]; omega),
        Dev.rd_wr_other _ _ (by simp only [Reg.LANE_MIG, Reg.HMG_MIGCNT]; omega),
        Dev.rd_wr_other _ _ (by simp only [Reg.LANE_MIG, Reg.HMG_MIGSTAT]; omega)]
    intro t
    have hsoot : ∀ x : Dev, (x.sootE sev 0x20 0x4001 det).rd (Reg.LANE_MIG n) = x.rd (Reg.LANE_MIG n) := fun x =>
      Dev.rd_sootE _ _ _ _ _ (by simp only [Reg.LANE_MIG, Reg.SOOT_STAT]; omega) (fun k => by
        simp only [Reg.LANE_MIG, Reg.SOOT_RING]; omega)
    refine ⟨(Dev.lanes_sootE _ _ _ _ _).trans ?_, (hsoot _).trans ?_⟩
    · exact (EventStep.ite (hev.trans (.raise _ _ 6)) hev).lanes
    · split
      · rw [Dev.rd_raise_other _ _ (by simp only [Reg.LANE_MIG, Reg.LANE_STAT]; omega), hrd]
      · exact hrd
  obtain ⟨h1, h2⟩ := hmap _ _ (decide (0x10 ≤ status)) _ _
  refine ⟨h1.trans hlanes, ?_⟩
  unfold Dev.get at hstat ⊢
  rw [h2]
  exact hstat

theorem Dev.lane_set (d : Dev) (f : Fld) (v n : Nat) : (d.set f v).lane n = d.lane n := rfl

/-- The device as a migration's end is recorded, its units still held back. -/
def Dev.migOver (d : Dev) (n status frm tgt : Nat) : Dev :=
  ((d.migRecord n status frm tgt).updLane n (fun x => { x with mig := none, resync := none })).set (Reg.LANE_BIND_MSTATE n) 0

theorem Dev.migOver_shows (hn : n < 96) (hs : status < 256) : ((d.migOver n status frm tgt).lane n).mig = none ∧
    ((d.migOver n status frm tgt).lane n).halted = (d.lane n).halted ∧
      (d.migOver n status frm tgt).get (Reg.LANE_MIG_STATUS n) = status := by
  obtain ⟨hl, hg⟩ := Dev.migRecord_shows (d := d) (frm := frm) (tgt := tgt) hn hs
  unfold Dev.migOver
  rw [Dev.lane_set, Dev.lane_updLane_same]
  refine ⟨rfl, ?_, ?_⟩
  · rw [Dev.lane, hl]
    rfl
  · rw [Dev.get_set_other _ _ (by simp only [Reg.LANE_MIG, Reg.LANE_BIND]; omega), Dev.get, Dev.rd_updLane]
    exact hg

/-- A migration that ends: the lane has none, its status is recorded, and it is halted where it was. -/
theorem Dev.endMig_shows (hn : n < 96) (hs : status < 256) : ((d.endMig n status frm tgt).lane n).mig = none ∧
    ((d.endMig n status frm tgt).lane n).halted = (d.lane n).halted ∧
      (d.endMig n status frm tgt).get (Reg.LANE_MIG_STATUS n) = status := by
  have hvisit : ∀ b : Bool, KeepsMig n d (if b = true then d.visitEnd 0 else d) := fun b =>
    .of_work (.ite (.visitEnd d 0) (.refl d)) hn
  have hidle : ∀ (b : Bool) (e : Dev), KeepsMig n e (if b = true then e else e.fwLaneIdle n) := fun b e =>
    .ite (.refl n e) (.of_work (.fwLaneIdle e n) hn)
  have hheld : ∀ (p : Prop) [Decidable p] (e : Dev), KeepsMig n e (if p then e.dropHeld n else e) := fun p _ e =>
    .ite (.dropHeld n e hn) (.refl n e)
  have hend : ∀ {e t : Dev}, KeepsMig n d e → KeepsMig n (e.migOver n status frm tgt) t →
      (t.lane n).mig = none ∧ (t.lane n).halted = (d.lane n).halted ∧ t.get (Reg.LANE_MIG_STATUS n) = status := fun {e t} h k => by
    obtain ⟨h1, h2, h3⟩ := Dev.migOver_shows (d := e) (frm := frm) (tgt := tgt) hn hs
    refine ⟨k.mig.trans h1, k.halted.trans (h2.trans h.halted), ?_⟩
    rw [← h3]
    unfold Dev.get
    rw [k.rd]
  unfold Dev.endMig
  exact hend (hvisit _) ((hidle _ _).trans (hheld _ _))

end

end Sys2Proof.Machine
end


section
/-! The claim on what hearths and migrations show. -/

namespace Sys2Proof.Machine

/-! ## A load that is lost, a splice without a match, a lock that fell (R171, R180) -/

theorem Dev.haltLane_halted (d : Dev) (n : Nat) (bits : List Nat) : ((d.haltLane n bits).lane n).halted = true := by
  have hk : ∀ e : Dev, EventStep e (((e.wr (Reg.LANE_OVDEM n) 0).refreshMargin).raiseUnit (Reg.LANE_STAT n) 0 bits) := fun e =>
    ((EventStep.wr e _ _).trans (.refreshMargin _)).trans ⟨Dev.raiseUnit_frame _ _ _ _⟩
  unfold Dev.haltLane
  rw [Dev.lane, (hk _).lanes]
  exact congrArg Lane.halted (Dev.lane_updLane_same _ n _)

/-- A load damaged in both copies halts the lane and ends its migration. -/
theorem Dev.loadStop_shows (d : Dev) {n : Nat} (h src : Nat) (hn : n < 96) : ((d.loadStop n h src).lane n).mig = none ∧
    ((d.loadStop n h src).lane n).halted = true ∧ (d.loadStop n h src).get (Reg.LANE_MIG_STATUS n) = 0x12 := by
  have hall : ∀ e : Dev, (((e.haltLane n [2]).endMig n 0x12 src h).lane n).mig = none ∧
      (((e.haltLane n [2]).endMig n 0x12 src h).lane n).halted = true ∧
      ((e.haltLane n [2]).endMig n 0x12 src h).get (Reg.LANE_MIG_STATUS n) = 0x12 := fun e => by
    obtain ⟨h1, h2, h3⟩ := Dev.endMig_shows (d := e.haltLane n [2]) (frm := src) (tgt := h) hn (show 0x12 < 256 by decide)
    exact ⟨h1, h2.trans (e.haltLane_halted n [2]), h3⟩
  unfold Dev.loadStop
  exact hall _

section
variable {s : State} {n : Nat} {m : Mig}

/-- Damage of both copies loses the slot's word. -/
theorem Dev.loadDamage_bothCopies (d : Dev) (k : Nat) : ∃ e, d.loadDamage k .bothCopies = (true, e) := ⟨_, rfl⟩

theorem goes_migrationLoadDone_lost {e : Dev} (hm : (s.dev.lane n).mig = some m) (hl : m.loaded = false) (hc : m.copying = false)
    (hh : (s.dev.lane n).halted = false) (he : s.dev.loadDamage (s.dev.laneSlot n) .bothCopies = (true, e)) :
    Goes (.migrationLoadDone n .bothCopies) s (e.loadStop n m.dst m.src) := by
  have hrun : ¬(m.loaded || m.copying || (s.dev.lane n).halted) = true := by simp [hl, hc, hh]
  refine goes_of_next rfl ?_
  simp only [hm]
  rw [if_neg hrun, he]
  exact if_pos rfl

theorem goes_spliceMatchTimeout_late (hm : (s.dev.lane n).mig = some m) (hk : m.kind = .unplanned) (hl : m.loaded = true)
    (hs : m.spliced = false) (ht : m.fault + s.dev.get (Reg.LANE_DRAW_ACTIVE n) * 1000000 ≤ s.dev.now) :
    Goes (.spliceMatchTimeout n) s
      (((s.dev.setReacq n m.fault).updLane n (fun x => { x with floor := m.kLast })).endMig n 0x13 m.src m.dst) := by
  refine goes_of_next rfl ?_
  simp only [hm]
  rw [if_neg (by simp [hk, hl, hs, ht])]

theorem goes_laneSyncLost_fell (h0 : (s.dev.lane n).lockFell ≠ 0) (ht : (s.dev.lane n).lockFell - 1 + 1000000000 ≤ s.dev.now) :
    Goes (.laneSyncLost n) s ((s.dev.setLane n { s.dev.lane n with lockFell := 0 }).sootE 2 4 0x4007 (n * 65536)) :=
  goes_of_next rfl (if_pos ⟨h0, ht⟩)

end

theorem hearthsShowTheirState : Claim.HearthsShowTheirState := by
  intro s n h r us fails m d st x
  have hle := d.part.lanes_le
  refine ⟨fun hst hk => ?_, fun hl h2 h5 hr hw ht => ?_, fun hst hk => ?_, completes_rollingSelftestTick_suspect,
    fun hh hst hk => ?_, completes_replayLivePoint, fun hn hm hl hc hh => ?_, fun hn hm hk hl hs ht => ?_, fun h0 ht => ?_⟩
  · have hmem : h ∈ d.startupTests := List.mem_filter.mpr ⟨List.mem_filter.mpr
      ⟨List.mem_range.mpr (Dev.lt_hearths_of_hstate hst (by decide)), by simpa using hst⟩, by simpa using hk⟩
    obtain ⟨t, hx, ht⟩ := startupBistDone_testsAll s fails
    obtain ⟨hstate, -, -⟩ := ht h hmem
    refine ⟨t, hx, hstate.trans ?_⟩
    by_cases hf : h ∈ fails <;> simp [hf]
  · have hlate : d.retireLate h = true := (d.retireLate_iff h).mpr ⟨hr, .inr hw, ht⟩
    have hone : d.declareAll [(h, 5, (d.hearth h).lastRetire)] = d.declared h 5 (d.devAt (d.hearth h).lastRetire) :=
      (Dev.declareAll_singleton fun k hk => absurd (hl.symm.trans hk) (by simp)).trans (Dev.declareFail_free hl h2 h5)
    have hlt : h < d.part.hearths := Dev.lt_hearths_of_hstate (st := st) rfl (by omega)
    exact completes_of_goes (goes_of_next (goes_retireTimeout_one hlate) hone) (Dev.declared_shows hlt (by decide))
  · obtain ⟨t, hx, ht, -⟩ := completes_isolationComplete_retire (s := s) hst (by rw [hk]; decide)
    exact ⟨t, hx, ht⟩
  · obtain ⟨t, hx, ⟨hstate, -, hpass⟩, hunit⟩ := completes_rollingTestDone_rolling (pass := true) (by omega) hst hk
    exact ⟨t, hx, hstate, hpass, hunit⟩
  · obtain ⟨e, he⟩ := d.loadDamage_bothCopies (d.laneSlot n)
    exact completes_of_goes (goes_migrationLoadDone_lost hm hl hc hh he) (Dev.loadStop_shows e _ _ (lt_of_lt_of_le hn hle))
  · obtain ⟨h1, -, h3⟩ := Dev.endMig_shows (d := (d.setReacq n m.fault).updLane n (fun x => { x with floor := m.kLast })) (frm := m.src)
      (tgt := m.dst) (lt_of_lt_of_le hn hle) (show 0x13 < 256 by decide)
    exact completes_of_goes (goes_spliceMatchTimeout_late hm hk hl hs ht) ⟨h1, h3⟩
  · refine completes_of_goes (goes_laneSyncLost_fell h0 ht) ⟨?_, fun k hk => ?_, by rw [Dev.hearths_sootE]; rfl⟩
    · rw [Dev.lane, Dev.lanes_sootE]
      exact congrArg Lane.lockFell (Dev.lane_setLane_same _ n _)
    · rw [Dev.lane, Dev.lanes_sootE]
      exact (Dev.lane_setLane _ n k _).trans (if_neg hk)

end Sys2Proof.Machine
end


section
/-! The claim on what ovens and their requests show, and the obligation on the grate, the lanes and the ovens. -/

namespace Sys2Proof.Machine

/-! ## The scheduler of the ovens changes the pool alone (R159) -/

theorem Dev.schedule_frame (trellis : Bool) (fuel : Nat) (d : Dev) : ∃ p, d.schedule trellis fuel = { d with pool := p } := by
  induction fuel generalizing d with
  | zero => exact ⟨d.pool, rfl⟩
  | succ fuel ih =>
    unfold Dev.schedule
    dsimp only
    split
    · obtain ⟨p, hp⟩ := ih _
      exact ⟨p, hp⟩
    · exact ⟨d.pool, rfl⟩

theorem Dev.scheduleAll_frame (d : Dev) : ∃ p, d.scheduleAll = { d with pool := p } := by
  obtain ⟨p, hp⟩ := d.schedule_frame false 16
  obtain ⟨p', hp'⟩ := Dev.schedule_frame true 8 { d with pool := p }
  exact ⟨p', by rw [Dev.scheduleAll, hp, hp']⟩

theorem Dev.hearth_scheduleAll (d : Dev) (h : Nat) : d.scheduleAll.hearth h = d.hearth h := by
  obtain ⟨p, hp⟩ := d.scheduleAll_frame
  rw [hp]
  rfl

theorem Dev.get_scheduleAll (d : Dev) (f : Fld) : d.scheduleAll.get f = d.get f := by
  obtain ⟨p, hp⟩ := d.scheduleAll_frame
  rw [hp]
  rfl

/-! ## A request returned to its hearth (R160, R216) -/

theorem Dev.oven_ovenReturn (d : Dev) {q : OReq} (w : Word) (hd : q.dropped = false) :
    ((d.ovenReturn q w).hearth q.hearth).oven q.ticket = some { done := some w } := by
  have hret : d.ovenReturn q w = d.updHearth q.hearth (fun x => x.setOven q.ticket (some { done := some w })) := if_neg (by simp [hd])
  rw [hret, Dev.hearth_updHearth_same, Hearth.oven, Hearth.setOven, SMap.get_put_same]

theorem Dev.pool_ovenReturn (d : Dev) (q : OReq) (w : Word) : (d.ovenReturn q w).pool = d.pool := by
  unfold Dev.ovenReturn
  split
  · rfl
  · exact Dev.pool_updHearth d _ _

theorem Dev.hearth_ovenFree (d : Dev) (k h : Nat) : (d.ovenFree k).hearth h = d.hearth h := by
  unfold Dev.ovenFree
  dsimp only
  split
  · rfl
  · rfl

theorem Dev.hearth_incMod (d : Dev) (f : Fld) (k h : Nat) : (d.incMod f k).hearth h = d.hearth h := rfl

theorem Dev.oven_ovenSrcErr (d : Dev) (k : Nat) {q : OReq} (hd : q.dropped = false) :
    ((d.ovenSrcErr k q).hearth q.hearth).oven q.ticket = some { done := some 0x03000000 } := by
  unfold Dev.ovenSrcErr
  rw [Dev.hearth_scheduleAll, Dev.hearth_ovenFree, Dev.hearth_incMod]
  exact d.oven_ovenReturn _ hd

theorem Dev.ovenLate_event (d : Dev) (q : OReq) : EventStep (d.ovenReturn q 0x02000000) (d.ovenLate q) :=
  ((EventStep.wr _ _ _).trans (.raise _ _ _)).trans (.raise _ _ _)

theorem Dev.ovenLate_shows (d : Dev) {q : OReq} (hd : q.dropped = false) :
    ((d.ovenLate q).hearth q.hearth).oven q.ticket = some { done := some 0x02000000 } ∧ (d.ovenLate q).pool = d.pool := by
  have hev := d.ovenLate_event q
  refine ⟨?_, hev.pool.trans (d.pool_ovenReturn q _)⟩
  rw [Dev.hearth_of_hearths hev.hearths]
  exact d.oven_ovenReturn _ hd

/-! ## An oven that is retired (R162) -/

/-- The margin writes no oven's status. -/
theorem Dev.rd_refreshMargin_ostat (d : Dev) {k : Nat} (hk : k < 24) : d.refreshMargin.rd (Reg.OVN_OSTAT k) = d.rd (Reg.OVN_OSTAT k) := by
  have hraise : ∀ (e : Dev) (a b : Nat) (p : Prop) [Decidable p], a < Reg.OVN_OSTAT 0 →
      (if p then e.raise a b else e).rd (Reg.OVN_OSTAT k) = e.rd (Reg.OVN_OSTAT k) := fun e a b p _ ha => by
    split
    · exact Dev.rd_raise_other _ _ (by simp only [Reg.OVN_OSTAT] at *; omega)
    · rfl
  have hstandby : ∀ (e : Dev) (b : Nat) (p : Prop) [Decidable p],
      (if p then e else e.raise Reg.CAP_EVT b).rd (Reg.OVN_OSTAT k) = e.rd (Reg.OVN_OSTAT k) := fun e b p _ => by
    split
    · rfl
    · exact Dev.rd_raise_other _ _ (by simp only [Reg.OVN_OSTAT, Reg.CAP_EVT]; omega)
  have hwr : ∀ (e : Dev) (a : Nat) (w : Word), a < Reg.OVN_OSTAT 0 → (e.wr a w).rd (Reg.OVN_OSTAT k) = e.rd (Reg.OVN_OSTAT k) :=
    fun e a w ha => Dev.rd_wr_other _ _ (by simp only [Reg.OVN_OSTAT] at *; omega)
  unfold Dev.refreshMargin
  dsimp only
  rw [hraise _ Reg.HMG_EVT _ _ (by decide), hstandby, hwr _ Reg.SYS_MARGIN _ (by decide), hraise _ Reg.OVN_EVT _ _ (by decide),
    hwr _ Reg.OVN_CAPACITY _ (by decide), hwr _ Reg.OVN_DEMAND _ (by decide)]

/-- The device as an oven is marked RETIRED, its request not yet issued again. -/
def Dev.ovenMarked (d : Dev) (k cause : Nat) : Dev := (d.set (Reg.OVN_OSTAT_STATE k) 4).set (Reg.OVN_OSTAT_CAUSE k) cause

theorem Dev.ovenMarked_shows (d : Dev) {k cause : Nat} (hc : cause < 16) : (d.ovenMarked k cause).get (Reg.OVN_OSTAT_STATE k) = 4 ∧
    (d.ovenMarked k cause).get (Reg.OVN_OSTAT_CAUSE k) = cause := by
  unfold Dev.ovenMarked
  refine ⟨?_, (Dev.get_set_same _ _ (by simp) (by simp)).trans (Nat.mod_eq_of_lt hc)⟩
  rw [Dev.get_set_apart _ _ (by simp) (by simp) (by simp)]
  exact Dev.get_set_same _ _ (by simp) (by simp)

theorem Dev.get_enqueue (d : Dev) (r : OReq) (trellis front : Bool) (f : Fld) : (d.enqueue r trellis front).get f = d.get f := rfl

/-- What follows the mark of a retired oven leaves its status. -/
theorem Dev.get_ovenRetired (d : Dev) {f : Fld} {k : Nat} (b sev source code det : Nat) (hk : k < 24) (hf : f.addr = Reg.OVN_OSTAT k) :
    ((d.raise Reg.OVN_EVT b).sootE sev source code det).refreshMargin.scheduleAll.get f = d.get f := by
  rw [Dev.get_scheduleAll, Dev.get, hf, Dev.rd_refreshMargin_ostat _ hk,
    Dev.rd_sootE _ _ _ _ _ (by simp only [Reg.OVN_OSTAT, Reg.SOOT_STAT]; omega) (fun n => by
      simp only [Reg.OVN_OSTAT, Reg.SOOT_RING]; omega),
    Dev.rd_raise_other _ _ (by simp only [Reg.OVN_OSTAT, Reg.OVN_EVT]; omega), Dev.get, hf]

theorem Dev.retireOven_shows (d : Dev) {k cause : Nat} (hk : k < 24) (hc : cause < 16) :
    (d.retireOven k cause).get (Reg.OVN_OSTAT_STATE k) = 4 ∧ (d.retireOven k cause).get (Reg.OVN_OSTAT_CAUSE k) = cause := by
  have hall : ∀ e t : Dev, (∀ f, t.get f = (e.ovenMarked k cause).get f) →
      let u := ((t.raise Reg.OVN_EVT 0).sootE 1 5 0x5001 (cause * 256 + k)).refreshMargin.scheduleAll
      u.get (Reg.OVN_OSTAT_STATE k) = 4 ∧ u.get (Reg.OVN_OSTAT_CAUSE k) = cause := fun e t ht => by
    obtain ⟨hstate, hcause⟩ := e.ovenMarked_shows (k := k) hc
    exact ⟨((t.get_ovenRetired _ _ _ _ _ hk rfl).trans (ht _)).trans hstate,
      ((t.get_ovenRetired _ _ _ _ _ hk rfl).trans (ht _)).trans hcause⟩
  unfold Dev.retireOven
  dsimp only
  split
  · split
    · exact hall _ _ fun _ => rfl
    · exact hall _ _ fun f => Dev.get_enqueue _ _ _ _ f
  · exact hall _ _ fun _ => rfl

/-! ## The instructions -/

section
variable {s : State} {k : Nat} {q : OReq}

theorem goes_ovenRequestDone_srcErr (hb : SMap.get none s.dev.pool.busy k = some q) :
    Goes (.ovenRequestDone k ⟨.srcErr, {}⟩) s ((s.dev.takeFailed (.oven k)).2.ovenSrcErr k q) := by
  refine goes_of_next rfl ?_
  have hread : (if q.fromTi = true then s.dev.ashEcc .clean 0 else s.dev) = s.dev := by cases q.fromTi <;> rfl
  simp only [hb]
  exact congrArg (fun e : Dev => (e.takeFailed (.oven k)).2.ovenSrcErr k q) hread

theorem goes_ovenDeadlineLate_only (hl : s.dev.pool.ldpc = [q]) (ht : s.dev.pool.trellis = []) (hd : q.dropped = false)
    (hs : q.deadline ≤ (s.dev.hearth q.hearth).smp) : Goes (.ovenDeadlineLate q.hearth q.ticket) s
      (({ s.dev with pool := { s.dev.pool with ldpc := [], trellis := [] } } : Dev).ovenLate q) := by
  refine goes_of_next rfl ?_
  simp [hl, ht, hd, hs]

theorem goes_ovenOverrunTimeout_busy (hb : SMap.get none s.dev.pool.busy k = some q) :
    Goes (.ovenOverrunTimeout k) s (s.dev.retireOven k 2) :=
  goes_of_next rfl (if_pos (by rw [hb]; rfl))

theorem goes_hobCommandTimeout_late {h u : Nat} {r : HobRun} (hr : ((s.dev.hearth h).unit u).running = some r)
    (ht : r.started + 2 * s.dev.statedNs h u r ≤ s.dev.now) :
    Goes (.hobCommandTimeout h u) s (s.dev.declareFail h 6 r.cmd.issued (s.dev.devAt r.cmd.issued)) := by
  refine goes_of_next rfl ?_
  simp only [hr]
  exact if_pos ht

end

theorem ovensShowTheirStatus : Claim.OvensShowTheirStatus := by
  intro s k h u q r d result
  refine ⟨fun hb hd _ _ _ => ?_, fun hl ht hd _ hs => ?_, fun hb hk _ => ?_, fun hr ht hl h2 h5 => ?_⟩
  · exact completes_of_goes (goes_ovenRequestDone_srcErr hb) (Dev.oven_ovenSrcErr _ k hd)
  · obtain ⟨hdone, hpool⟩ := Dev.ovenLate_shows ({ d with pool := { d.pool with ldpc := [], trellis := [] } } : Dev) hd
    exact completes_of_goes (goes_ovenDeadlineLate_only hl ht hd hs) ⟨hdone, by rw [hpool]⟩
  · exact completes_of_goes (goes_ovenOverrunTimeout_busy hb) (Dev.retireOven_shows d hk (by decide))
  · have hgo := goes_hobCommandTimeout_late hr ht
    rw [Dev.declareFail_free hl h2 h5] at hgo
    obtain ⟨h1, -, h3⟩ := Dev.declared_shows (d := d) (faultT := d.devAt r.cmd.issued)
      (Dev.lt_hearths_of_hstate (d := d) (h := h) rfl (by omega)) (show 6 < 16 by decide)
    exact completes_of_goes hgo ⟨h1, h3⟩

/-- Settles O59, one claim after another: each instruction is taken to the device it leaves, and the frames of the changes that follow
(`KeepsWork`, `KeepsMig`, `EventStep`) carry to the end what is to be read. The mark of a suspect core (log 35), a BIND that waits
(log 39) and the MOVE of a stopped lane (log 45) are as the model chooses. -/
theorem grateLanesAndOvensComplete : Obligations.GrateLanesAndOvensComplete :=
  ⟨grateShowsItsEffects, laneCommandsShowTheirBinding, hearthsShowTheirState, ovensShowTheirStatus⟩

end Sys2Proof.Machine
end


section
/-! What the delivery of a lane's sample leaves: the registers below the hearth manager's, DEVTIME, the saturation that a lane remembers. -/

namespace Sys2Proof.Machine

/-- A change that leaves the registers below the hearth manager's, DEVTIME and the saturation that a lane remembers. -/
structure KeepsCounts (n : Nat) (d t : Dev) : Prop where
  rd : ∀ a < 0x162000, t.rd a = d.rd a
  devtime : t.devtime = d.devtime
  sat : (t.lane n).sat = (d.lane n).sat

namespace KeepsCounts
variable {n : Nat} {d t u : Dev}

theorem refl (n : Nat) (d : Dev) : KeepsCounts n d d := ⟨fun _ _ => rfl, rfl, rfl⟩

theorem trans (h : KeepsCounts n d t) (k : KeepsCounts n t u) : KeepsCounts n d u :=
  ⟨fun a ha => (k.rd a ha).trans (h.rd a ha), k.devtime.trans h.devtime, k.sat.trans h.sat⟩

theorem ite {p : Prop} [Decidable p] (h : KeepsCounts n d t) (k : KeepsCounts n d u) : KeepsCounts n d (if p then t else u) := by
  split
  · exact h
  · exact k

theorem foldl {α : Type} {f : Dev → α → Dev} (hf : ∀ e a, KeepsCounts n e (f e a)) (xs : List α) (d : Dev) :
    KeepsCounts n d (xs.foldl f d) := by
  induction xs generalizing d with
  | nil => exact .refl n d
  | cons a xs ih => exact (hf d a).trans (ih _)

section
variable (n d)

theorem wr {a : Nat} (w : Word) (ha : 0x162000 ≤ a) : KeepsCounts n d (d.wr a w) :=
  ⟨fun _ _ => Dev.rd_wr_other _ _ (by omega), rfl, rfl⟩

theorem raise {a : Nat} (b : Nat) (ha : 0x162000 ≤ a) : KeepsCounts n d (d.raise a b) :=
  ⟨fun _ _ => Dev.rd_raise_other _ _ (by omega), by simp, by rw [Dev.lane, Dev.lanes_raise]; rfl⟩

theorem sootE (sev source code det : Nat) : KeepsCounts n d (d.sootE sev source code det) :=
  ⟨fun _ _ => Dev.rd_sootE _ _ _ _ _ (by simp only [Reg.SOOT_STAT]; omega) (fun k => by simp only [Reg.SOOT_RING]; omega),
    by simp, by rw [Dev.lane, Dev.lanes_sootE]; rfl⟩

theorem updHearth (h : Nat) (f : Hearth → Hearth) : KeepsCounts n d (d.updHearth h f) := ⟨fun _ _ => rfl, rfl, rfl⟩

theorem setLane {x : Lane} (hx : x.sat = (d.lane n).sat) : KeepsCounts n d (d.setLane n x) :=
  ⟨fun _ _ => rfl, rfl, by rw [Dev.lane_setLane_same, hx]⟩

/-! ### An IQ entry and its damper (R325, R340) -/

theorem setFport (p : Nat) (x : FluePort) : KeepsCounts n d (d.setFport p x) := ⟨fun _ _ => rfl, rfl, rfl⟩

theorem setDamper (p e : Nat) (x : Damper) : KeepsCounts n d (d.setDamper p e x) := setFport n d _ _

theorem incCnt (p e k j : Nat) : KeepsCounts n d (d.incWordSat (cntAddr p e k) j) := wr n d _ (KeepsWork.cntAddr_high p e k)

theorem portEvt (p b : Nat) : KeepsCounts n d (d.portEvt p b) := raise n d b (by have := KeepsWork.portBase_high p; omega)

theorem sootDrops (p : Nat) : KeepsCounts n d (d.sootDrops p) :=
  .ite ((setFport n d _ _).trans (sootE n _ _ _ _ _)) (setFport n d _ _)

theorem dropUnit (p e cause : Nat) : KeepsCounts n d (d.dropUnit p e cause) := by
  have hevent : ∀ x : Dev, KeepsCounts n x (if cause = 6 then (if p < 2 then (x.incWordSat (Reg.FLU_FMTDROP p) 1).portEvt p 4 else x)
      else x.portEvt p (if p < 2 then 2 else 1)) := fun x =>
    .ite (.ite ((wr n x _ (by simp only [Reg.FLU_FMTDROP]; omega)).trans (portEvt n _ _ _)) (.refl n x)) (portEvt n x _ _)
  unfold Dev.dropUnit
  exact (((setDamper n d _ _ _).trans (incCnt n _ _ _ _ _)).trans (hevent _)).trans (.ite (sootDrops n _ _) (.refl n _))

theorem qkib (p e : Nat) : KeepsCounts n d (d.qkib p e) := wr n d _ (KeepsWork.cntAddr_high p e 3)

theorem teleDrop (p : Nat) : KeepsCounts n d (d.teleDrop p) :=
  ((setFport n d _ _).trans (portEvt n _ _ _)).trans (sootDrops n _ _)

theorem fitDamper (p k : Nat) : KeepsCounts n d (d.fitDamper p k) := by
  induction k generalizing d with
  | zero => exact .refl n d
  | succ k ih =>
    rw [Dev.fitDamper]
    refine .ite (.refl n d) ?_
    split
    · exact .refl n d
    · exact (teleDrop n d p).trans (ih _)
    · exact (((setDamper n d _ _ _).trans (dropUnit n _ _ _ _)).trans (qkib n _ _ _)).trans (ih _)

theorem damperIn (p e : Nat) (u : QUnit) : KeepsCounts n d (d.damperIn p e u) :=
  .ite (dropUnit n d _ _ _) (.ite (dropUnit n d _ _ _) (((setDamper n d _ _ _).trans (fitDamper n _ _ _)).trans (qkib n _ _ _)))

theorem iqIn (s : Sample) (pe : Nat × Nat) : KeepsCounts n d (d.iqIn n s pe) :=
  .ite (setDamper n d _ _ _) ((setDamper n d _ _ _).trans (damperIn n _ _ _ _))

/-! ### The backlog and the delivery (R139, R140, R165, R166) -/

theorem closeBlock : KeepsCounts n d (d.closeBlock n) := by
  unfold Dev.closeBlock
  dsimp only
  refine .ite (.refl n d) ?_
  split
  · refine .ite (.trans ?_ (raise n _ _ (by decide))) (setLane n d rfl)
    exact setLane n d rfl
  · exact setLane n d rfl

theorem backlogIn (s : Sample) : KeepsCounts n d (d.backlogIn n s) := by
  have hjump : ∀ b : Bool, KeepsCounts n d ((if b = true then d.closeBlock n else d).updLane n (fun x => { x with cur := x.cur ++ [s] })) :=
    fun b => (KeepsCounts.ite (closeBlock n d) (.refl n d)).trans (setLane n _ rfl)
  have hfull : ∀ e : Dev, KeepsCounts n e (if 16 ≤ (e.lane n).cur.length then e.closeBlock n else e) := fun e =>
    .ite (closeBlock n e) (.refl n e)
  unfold Dev.backlogIn
  exact .ite (.refl n d) ((hjump _).trans (hfull _))

theorem snapLaneIn (s : Sample) : KeepsCounts n d (d.snapLaneIn n s) := ⟨fun _ _ => rfl, rfl, rfl⟩

theorem deliver (s : Sample) : KeepsCounts n d (d.deliver n s) :=
  (((foldl (fun e h => updHearth n e h _) _ d).trans (backlogIn n _ s)).trans
    (foldl (fun e pe => iqIn n e s pe) _ _)).trans (snapLaneIn n _ s)

end

end KeepsCounts

end Sys2Proof.Machine
end


section
/-! A lane's output sample: its weight and mark, what it counts and remembers, and when it is presented. -/

namespace Sys2Proof.Machine

/-! ## The weight of a sample (R141) -/

section
variable {x : GrateBank} {lo hi : Nat} (w : Nat)

/-- The taps of a sample reach no marked span. -/
theorem GrateBank.weight_of_apart (hd : ∀ p ∈ x.spans hi, p.2 ≤ lo ∨ hi ≤ p.1) (hlt : lo < hi) : x.weight lo hi w = 0 := by
  have hcover : (x.spans hi).any (fun p => decide (p.1 ≤ lo) && decide (hi ≤ p.2)) = false := by
    refine List.any_eq_false.mpr fun p hp => ?_
    have := hd p hp
    simp only [Bool.and_eq_true, decide_eq_true_eq]
    omega
  have hmeet : (x.spans hi).any (fun p => decide (p.1 < hi) && decide (lo < p.2)) = false := by
    refine List.any_eq_false.mpr fun p hp => ?_
    have := hd p hp
    simp only [Bool.and_eq_true, decide_eq_true_eq]
    omega
  simp [GrateBank.weight, hcover, hmeet]

theorem GrateBank.weight_of_covered (hc : ∃ p ∈ x.spans hi, p.1 ≤ lo ∧ hi ≤ p.2) : x.weight lo hi w = 256 :=
  if_pos (List.any_eq_true.mpr (by simpa using hc))

theorem clampN_mem (v : Nat) : 1 ≤ clampN 1 256 v ∧ clampN 1 256 v ≤ 256 := by
  unfold clampN
  omega

theorem GrateBank.weight_pos_of_meets (hm : ∃ p ∈ x.spans hi, p.1 < hi ∧ lo < p.2) : 1 ≤ x.weight lo hi w := by
  have hany : (x.spans hi).any (fun p => decide (p.1 < hi) && decide (lo < p.2)) = true := List.any_eq_true.mpr (by simpa using hm)
  unfold GrateBank.weight
  dsimp only
  split
  · decide
  · exact (clampN_mem w).1

theorem GrateBank.weight_le (x : GrateBank) (lo hi w : Nat) : x.weight lo hi w ≤ 256 := by
  unfold GrateBank.weight
  dsimp only
  split
  · exact le_refl _
  · split
    · exact (clampN_mem w).2
    · exact Nat.zero_le _

end

/-! ## What a sample counts and remembers (R138, R141, R142) -/

theorem Dev.laneMark_iff (d : Dev) (n w : Nat) : d.laneMark n w = true ↔
    (d.get (Reg.GRT_LGAIN_ETHR (n / 8) (n % 8)) = 0 ∧ w ≠ 0) ∨
      (d.get (Reg.GRT_LGAIN_ETHR (n / 8) (n % 8)) ≠ 0 ∧ d.get (Reg.GRT_LGAIN_ETHR (n / 8) (n % 8)) ≤ w) ∨
      d.is (Reg.GRT_LSTAT_REFILL (n / 8) (n % 8)) = true ∨ d.is (Reg.GRT_LSTAT_SPAN (n / 8) (n % 8)) = true ∨
      d.is (Reg.GRT_LSTAT_NOCORE (n / 8) (n % 8)) = true := by
  unfold Dev.laneMark
  by_cases ht : d.get (Reg.GRT_LGAIN_ETHR (n / 8) (n % 8)) = 0
  · simp [ht, or_assoc]
  · simp [ht, or_assoc]

/-- The due sample of a lane saturates. -/
def Dev.sampleSat (d : Dev) (n : Nat) (i q : Int) : Bool :=
  let v := mixed (d.ncoPhase n ((d.lane n).next * d.grid n)) i q
  beyond (d.scaled n v.1) || beyond (d.scaled n v.2)

/-- The due sample of a lane is marked as an erasure. -/
def Dev.sampleMark (d : Dev) (n w : Nat) : Bool := d.laneMark n (d.laneWeight n (d.lane n).next w)

/-- The lane's counters after a sample. -/
def Dev.sampleCounted (d : Dev) (n : Nat) (sat mark : Bool) : Dev :=
  let e := if sat then d.incWordSat (Reg.GRT_LSATCNT (n / 8) (n % 8)) 1 else d
  if mark then e.incWordSat (Reg.GRT_LERACNT (n / 8) (n % 8)) 1 else e

/-- The device once a due sample is counted and noted in its lane's record, still to be delivered. -/
def Dev.sampleNoted (d : Dev) (n : Nat) (i q : Int) (w : Nat) : Dev :=
  let m := (d.lane n).next
  let e := d.sampleCounted n (d.sampleSat n i q) (d.sampleMark n w)
  e.updLane n (fun x => { x with
    next := m + 1, sat := x.sat || d.sampleSat n i q, nco := d.ncoPhase n (m * d.grid n), ncoAt := m * e.grid n })

theorem Dev.laneSample_eq (d : Dev) (n : Nat) (i q : Int) (w : Nat) :
    ∃ smp, d.laneSample n i q w = (d.sampleNoted n i q w).deliver n smp := by
  unfold Dev.laneSample
  exact ⟨_, rfl⟩

section
variable (d : Dev) (n : Nat)

theorem Dev.sampleCounted_event (sat mark : Bool) : EventStep d (d.sampleCounted n sat mark) := by
  have h : EventStep d (if sat then d.incWordSat (Reg.GRT_LSATCNT (n / 8) (n % 8)) 1 else d) := .ite (.wr _ _ _) (.refl d)
  exact .ite (h.trans (.wr _ _ _)) h

theorem Dev.devtime_sampleCounted (sat mark : Bool) : (d.sampleCounted n sat mark).devtime = d.devtime := by
  rw [(d.sampleCounted_event n sat mark).frame]

/-- A saturating counter of a whole word, advanced by one. -/
def countedWord (w : Word) : Word := BitVec.ofNat 32 (min (w.toNat + 1) (2 ^ 32 - 1))

theorem Dev.rd_incWordSat (a b : Nat) : (d.incWordSat a 1).rd b = if b = a then countedWord (d.rd a) else d.rd b := Dev.rd_wr d a b _

/-- The two counters of a lane count apart from each other. -/
theorem Dev.rd_sampleCounted (sat mark : Bool) :
    (d.sampleCounted n sat mark).rd (Reg.GRT_LSATCNT (n / 8) (n % 8)) =
        (if sat then countedWord (d.rd (Reg.GRT_LSATCNT (n / 8) (n % 8))) else d.rd (Reg.GRT_LSATCNT (n / 8) (n % 8))) ∧
      (d.sampleCounted n sat mark).rd (Reg.GRT_LERACNT (n / 8) (n % 8)) =
        (if mark then countedWord (d.rd (Reg.GRT_LERACNT (n / 8) (n % 8))) else d.rd (Reg.GRT_LERACNT (n / 8) (n % 8))) := by
  have hne : Reg.GRT_LSATCNT (n / 8) (n % 8) ≠ Reg.GRT_LERACNT (n / 8) (n % 8) := by simp only [Reg.GRT_LSATCNT, Reg.GRT_LERACNT]; omega
  unfold Dev.sampleCounted
  cases sat <;> cases mark <;> simp [Dev.rd_incWordSat]

variable (i q : Int) (w : Nat)

/-- A due sample is remembered and counted as it saturates and as it is marked. -/
theorem Dev.laneSample_counts (hn : n < 96) :
    (((d.laneSample n i q w).lane n).sat = ((d.lane n).sat || d.sampleSat n i q)) ∧
      (d.laneSample n i q w).rd (Reg.GRT_LSATCNT (n / 8) (n % 8)) =
        (if d.sampleSat n i q then countedWord (d.rd (Reg.GRT_LSATCNT (n / 8) (n % 8))) else d.rd (Reg.GRT_LSATCNT (n / 8) (n % 8))) ∧
      (d.laneSample n i q w).rd (Reg.GRT_LERACNT (n / 8) (n % 8)) =
        (if d.sampleMark n w then countedWord (d.rd (Reg.GRT_LERACNT (n / 8) (n % 8))) else d.rd (Reg.GRT_LERACNT (n / 8) (n % 8))) ∧
      (d.laneSample n i q w).devtime = d.devtime := by
  obtain ⟨smp, hs⟩ := d.laneSample_eq n i q w
  have hk := KeepsCounts.deliver n (d.sampleNoted n i q w) smp
  obtain ⟨hsat, hera⟩ := d.rd_sampleCounted n (d.sampleSat n i q) (d.sampleMark n w)
  rw [hs, hk.sat, hk.devtime, hk.rd _ (by simp only [Reg.GRT_LSATCNT]; omega), hk.rd _ (by simp only [Reg.GRT_LERACNT]; omega)]
  refine ⟨?_, hsat, hera, d.devtime_sampleCounted n _ _⟩
  have hlane : (d.sampleCounted n (d.sampleSat n i q) (d.sampleMark n w)).lane n = d.lane n := by
    rw [Dev.lane, (d.sampleCounted_event n _ _).lanes]
    rfl
  rw [Dev.sampleNoted, Dev.lane_updLane_same, hlane]

end

/-! ## A sample is presented when it is due (R139, R143) -/

/-- A lane's registers of which nothing waits do not apply. -/
theorem Dev.grtApply_of_no_page_capture {d : Dev} {n : Nat}
    (h : d.captures.filter (fun c => c.page == pageOf (Reg.GRT_LCFG (n / 8) (n % 8))) = []) : d.grtApply n = d :=
  if_pos (by rw [h]; rfl)

section
variable {s : State} {n : Nat} {i q : Int} {w : Nat}

theorem Dev.laneDue_iff (d : Dev) (n : Nat) : d.laneDue n = true ↔
    d.is (Reg.GRT_LSTAT_RUN (n / 8) (n % 8)) = true ∧ (d.lane n).next * d.grid n + d.laneDelay n ≤ d.scount := by
  rw [Dev.laneDue, Bool.and_eq_true, decide_eq_true_eq, Dev.dueAt]

theorem goes_laneOutputSample_held (hh : s.dev.held 3 = true) : Goes (.laneOutputSample n i q w) s s.dev :=
  goes_of_next rfl (if_pos hh)

theorem goes_laneOutputSample_early (hd : ¬(n < s.dev.part.lanes ∧ s.dev.laneDue n = true)) :
    Goes (.laneOutputSample n i q w) s s.dev := by
  refine goes_of_next rfl ?_
  dsimp only
  rw [if_neg hd, ite_self]

theorem goes_laneOutputSample_due (hh : s.dev.held 3 = false) (hd : n < s.dev.part.lanes ∧ s.dev.laneDue n = true) :
    Goes (.laneOutputSample n i q w) s ((s.dev.laneSample n i q w).grtApply n) :=
  goes_of_next rfl ((if_neg (by simp [hh])).trans (if_pos hd))

end

theorem laneSamplesMarkAndCount : Claim.LaneSamplesMarkAndCount := by
  refine ⟨fun x lo hi w => ⟨fun hd hlt _ => x.weight_of_apart w hd hlt, x.weight_of_covered w, x.weight_pos_of_meets w,
    x.weight_le lo hi w⟩, ?_⟩
  intro s n i q w d p m due ethr weight mark v gain big one
  have hdue : due ↔ n < d.part.lanes ∧ d.laneDue n = true := and_congr_right fun _ => (d.laneDue_iff n).symm
  have hmark : d.sampleMark n w = true ↔ mark := d.laneMark_iff n weight
  have hbig : d.sampleSat n i q = true ↔ big := by
    simp only [Dev.sampleSat, beyond, Bool.or_eq_true, decide_eq_true_eq]
    rfl
  refine ⟨fun h => goes_laneOutputSample_early (mt hdue.mpr h), goes_laneOutputSample_held,
    fun hh h => goes_laneOutputSample_due hh (hdue.mp h), fun hh h hc => ?_⟩
  obtain ⟨hnext, hcap, hsh, hsc⟩ := d.laneSample_advances n i q w
  obtain ⟨hsat, hsatcnt, hera, hdev⟩ := d.laneSample_counts n i q w (h.1.trans_le d.part.lanes_le)
  have hgo : Goes (.laneOutputSample n i q w) s (d.laneSample n i q w) := by
    have hgrt : (d.laneSample n i q w).grtApply n = d.laneSample n i q w := Dev.grtApply_of_no_page_capture (by rw [hcap]; exact hc)
    rw [← hgrt]
    exact goes_laneOutputSample_due hh (hdue.mp h)
  refine completes_of_goes hgo ⟨hnext, ?_, fun hb => ?_, fun hb => ?_, fun hm => ?_, fun hm => ?_, hcap, hsh, hdev, hsc⟩
  · rw [hsat, Bool.or_eq_true, hbig]
  · rw [hsatcnt, if_pos (hbig.mpr hb)]
    rfl
  · rw [hsatcnt, if_neg (mt hbig.mp hb)]
  · rw [hera, if_pos (hmark.mpr hm)]
    rfl
  · rw [hera, if_neg (mt hmark.mp hm)]

end Sys2Proof.Machine
end


section
/-! The grate's events: a bin frame, the end of a refill, a saturation interval, a complete power average. -/

namespace Sys2Proof.Machine

/-! ## Runs of register writes -/

theorem Dev.foldl_wr_frame {α : Type} (a : α → Nat) (w : α → Word) (xs : List α) (d : Dev) :
    xs.foldl (fun d x => d.wr (a x) (w x)) d = { d with regs := (xs.foldl (fun d x => d.wr (a x) (w x)) d).regs } := by
  induction xs generalizing d with
  | nil => rfl
  | cons x xs ih =>
    rw [List.foldl_cons, ih]
    rfl

/-- Words written at different addresses, one for each number below `n`: each can be read back. -/
theorem Dev.rd_foldl_wr_range (d : Dev) {addr : Nat → Nat} (hinj : Function.Injective addr) (w : Nat → Word) (n k : Nat) :
    ((List.range n).foldl (fun d j => d.wr (addr j) (w j)) d).rd (addr k) = if k < n then w k else d.rd (addr k) := by
  induction n with
  | zero => rfl
  | succ n ih =>
    rw [List.range_succ, List.foldl_append, List.foldl_cons, List.foldl_nil, Dev.rd_wr, ih]
    by_cases hk : k = n
    · simp [hk]
    · rw [if_neg (hinj.ne hk)]
      exact if_congr (by omega) rfl rfl

theorem Dev.rd_foldl_wr_other (d : Dev) {addr : Nat → Nat} (w : Nat → Word) (n : Nat) {a : Nat} (ha : ∀ k < n, a ≠ addr k) :
    ((List.range n).foldl (fun d j => d.wr (addr j) (w j)) d).rd a = d.rd a := by
  induction n with
  | zero => rfl
  | succ n ih =>
    rw [List.range_succ, List.foldl_append, List.foldl_cons, List.foldl_nil, Dev.rd_wr_other _ _ (ha n (by omega)),
      ih fun k hk => ha k (by omega)]

/-! ## The lanes that saturated (R138) -/

theorem Dev.satWord_eq (d : Dev) (k : Nat) :
    d.satWord k = bitsOf 32 (fun j => decide (32 * k + j < d.part.lanes) && (d.lane (32 * k + j)).sat) := rfl

theorem Dev.testBit_satWord (d : Dev) (k : Nat) {j : Nat} (hj : j < 32) :
    (d.satWord k).testBit j = (decide (32 * k + j < d.part.lanes) && (d.lane (32 * k + j)).sat) := by
  rw [Dev.satWord_eq, testBit_bitsOf _ _ _ hj]

theorem bitsOf_false (n : Nat) : bitsOf n (fun _ => false) = 0 := by
  induction n with
  | zero => rfl
  | succ n ih => rw [bitsOf_succ, ih]; rfl

theorem Dev.satWord_eq_zero (d : Dev) (h : ∀ m < d.part.lanes, (d.lane m).sat = false) (k : Nat) : d.satWord k = 0 := by
  have hq : (fun j => decide (32 * k + j < d.part.lanes) && (d.lane (32 * k + j)).sat) = fun _ => false := by
    funext j
    by_cases hj : 32 * k + j < d.part.lanes
    · simp [h _ hj]
    · simp [hj]
  rw [Dev.satWord_eq, hq, bitsOf_false]

/-- A lane has saturated in the interval that ends. -/
def Dev.satAny (d : Dev) : Bool := ((List.range 3).map d.satWord).any (· != 0)

/-- Over any function of numbers: the words themselves are long to unfold. -/
theorem any_map_range_ne_zero (f : Nat → Nat) (n : Nat) : ((List.range n).map f).any (· != 0) = true ↔ ∃ k < n, f k ≠ 0 := by
  simp

theorem Dev.satAny_eq_true_iff (d : Dev) : d.satAny = true ↔ ∃ k < 3, d.satWord k ≠ 0 := any_map_range_ne_zero d.satWord 3

theorem Dev.satAny_of_sat (d : Dev) (h : ∃ m < d.part.lanes, (d.lane m).sat = true) : d.satAny = true := by
  obtain ⟨m, hm, hs⟩ := h
  have hle := d.part.lanes_le
  have hbit : (d.satWord (m / 32)).testBit (m % 32) = true := by
    rw [d.testBit_satWord _ (Nat.mod_lt _ (by decide)), Nat.div_add_mod, hs, Bool.and_true, decide_eq_true hm]
  refine d.satAny_eq_true_iff.mpr ⟨m / 32, by omega, fun h0 => ?_⟩
  rw [h0, Nat.zero_testBit] at hbit
  exact Bool.false_ne_true hbit

theorem Dev.satAny_eq_false (d : Dev) (h : ∀ m < d.part.lanes, (d.lane m).sat = false) : d.satAny = false := by
  rw [Bool.eq_false_iff, ne_eq, d.satAny_eq_true_iff]
  rintro ⟨k, -, hk⟩
  exact hk (d.satWord_eq_zero h k)

/-- GRT_SATPEND with a number in each of its words. -/
def Dev.satPend (d : Dev) (f : Nat → Nat) : Dev :=
  ((List.range 3).zip ((List.range 3).map f)).foldl (fun d p => d.wr (Reg.GRT_SATPEND p.1) (BitVec.ofNat 32 p.2)) d

theorem Dev.satPend_eq (d : Dev) (f : Nat → Nat) : d.satPend f =
    ((d.wr (Reg.GRT_SATPEND 0) (BitVec.ofNat 32 (f 0))).wr (Reg.GRT_SATPEND 1) (BitVec.ofNat 32 (f 1))).wr
      (Reg.GRT_SATPEND 2) (BitVec.ofNat 32 (f 2)) := rfl

theorem Dev.satPend_event (d : Dev) (f : Nat → Nat) : EventStep d (d.satPend f) := .foldl_wr _ _ _ d

theorem Dev.rd_satPend (d : Dev) (f : Nat → Nat) {k : Nat} (hk : k < 3) :
    (d.satPend f).rd (Reg.GRT_SATPEND k) = BitVec.ofNat 32 (f k) := by
  match k, hk with
  | 0, _ | 1, _ | 2, _ => simp [Dev.satPend_eq]

theorem Dev.rd_satPend_other (d : Dev) (f : Nat → Nat) {a : Nat} (ha : ∀ k < 3, a ≠ Reg.GRT_SATPEND k) : (d.satPend f).rd a = d.rd a := by
  rw [Dev.satPend_eq, Dev.rd_wr_other _ _ (ha 2 (by decide)), Dev.rd_wr_other _ _ (ha 1 (by decide)),
    Dev.rd_wr_other _ _ (ha 0 (by decide))]

theorem Dev.evtLast_satPend (d : Dev) (f : Nat → Nat) : (d.satPend f).evtLast = d.evtLast := by
  rw [Dev.satPend, Dev.foldl_wr_frame]

/-- The lanes of a list forget that they saturated. -/
def Dev.satForgotten (d : Dev) (ns : List Nat) : Dev :=
  ns.foldl (fun d n => if (d.lane n).sat then d.updLane n (fun x => { x with sat := false }) else d) d

theorem Dev.satForgotten_frame (d : Dev) (ns : List Nat) : d.satForgotten ns = { d with lanes := (d.satForgotten ns).lanes } := by
  induction ns generalizing d with
  | nil => rfl
  | cons n ns ih =>
    rw [show d.satForgotten (n :: ns) =
      (if (d.lane n).sat then d.updLane n (fun x => { x with sat := false }) else d).satForgotten ns from rfl]
    split
    · rw [ih]; rfl
    · exact ih d

theorem Dev.lane_satForgotten (d : Dev) (ns : List Nat) (m : Nat) :
    (d.satForgotten ns).lane m = if m ∈ ns then { d.lane m with sat := false } else d.lane m := by
  induction ns generalizing d with
  | nil => rfl
  | cons n ns ih =>
    have hone : (if (d.lane n).sat then d.updLane n (fun x => { x with sat := false }) else d).lane m =
        if m = n then { d.lane m with sat := false } else d.lane m := by
      by_cases hm : m = n
      · subst hm
        cases hs : (d.lane m).sat
        · rw [if_neg Bool.false_ne_true, if_pos rfl, ← hs]
        · rw [if_pos rfl, if_pos rfl, Dev.lane_updLane_same]
      · rw [if_neg hm]
        split
        · rw [Dev.updLane, Dev.lane_setLane, if_neg hm]
        · rfl
    rw [Dev.satForgotten, List.foldl_cons]
    refine (ih _).trans ?_
    rw [hone]
    by_cases hm : m = n
    · simp [hm]
    · simp [hm]

theorem Dev.regs_satForgotten (d : Dev) (ns : List Nat) : (d.satForgotten ns).regs = d.regs := by rw [Dev.satForgotten_frame]
theorem Dev.now_satForgotten (d : Dev) (ns : List Nat) : (d.satForgotten ns).now = d.now := by rw [Dev.satForgotten_frame]
theorem Dev.evtLast_satForgotten (d : Dev) (ns : List Nat) : (d.satForgotten ns).evtLast = d.evtLast := by rw [Dev.satForgotten_frame]

/-- Whether an event may be raised depends on the times of the last raisings and on the time. -/
theorem Dev.evtFree_of_last {d t : Dev} (hl : t.evtLast = d.evtLast) (hn : t.now = d.now) (a b u : Nat) :
    t.evtFree a b u = d.evtFree a b u := by
  rw [Dev.evtFree, Dev.evtFree, hl, hn]

/-- The device after a saturation interval, but for its event. -/
def Dev.satReported (d : Dev) (f : Nat → Nat) : Dev := (d.satPend f).satForgotten (List.range (d.satPend f).part.lanes)

section
variable (d : Dev) (f : Nat → Nat)

theorem Dev.rd_satReported (a : Nat) : (d.satReported f).rd a = (d.satPend f).rd a := Dev.rd_eq_of_regs (Dev.regs_satForgotten _ _) a

theorem Dev.evtFree_satReported (a b u : Nat) : (d.satReported f).evtFree a b u = d.evtFree a b u :=
  Dev.evtFree_of_last ((Dev.evtLast_satForgotten _ _).trans (d.evtLast_satPend f))
    ((Dev.now_satForgotten _ _).trans (d.satPend_event f).now) _ _ _

theorem Dev.lane_satReported {m : Nat} (hm : m < d.part.lanes) : (d.satReported f).lane m = { d.lane m with sat := false } := by
  have hlane : (d.satPend f).lane m = d.lane m := by rw [Dev.lane, (d.satPend_event f).lanes]; rfl
  rw [Dev.satReported, Dev.lane_satForgotten, (d.satPend_event f).part, if_pos (List.mem_range.mpr hm), hlane]

/-- What a saturation interval leaves is read from the device it reports, but for its event's register. -/
theorem Dev.rd_satRaised (p : Prop) [Decidable p] {a : Nat} (ha : a ≠ Reg.GRT_EVT) :
    (if p then (d.satReported f).raise Reg.GRT_EVT 0 else d.satReported f).rd a = (d.satPend f).rd a := by
  split
  · rw [Dev.rd_raise_other _ _ ha, Dev.rd_satReported]
  · exact d.rd_satReported f a

end

section
variable {s : State}

theorem goes_saturationInterval (hh : s.dev.held 3 = false) : Goes .saturationInterval s
    (if s.dev.satAny then (s.dev.satReported s.dev.satWord).raise Reg.GRT_EVT 0 else s.dev.satReported s.dev.satWord) :=
  goes_of_next rfl (if_neg (by simp [hh]))

theorem satPend_ne_evt (k : Nat) : Reg.GRT_SATPEND k ≠ Reg.GRT_EVT := by
  simp only [Reg.GRT_SATPEND, Reg.GRT_EVT]
  omega

theorem completes_saturationInterval_reports (hh : s.dev.held 3 = false) : Completes .saturationInterval s (fun d t =>
    (∀ k < 3, ∀ j < 32, (t.rd (Reg.GRT_SATPEND k)).getLsbD j = (decide (32 * k + j < d.part.lanes) && (d.lane (32 * k + j)).sat)) ∧
    (∀ m < d.part.lanes, t.lane m = { d.lane m with sat := false }) ∧
    (d.evtFree Reg.GRT_EVT 0 0 = true → (∃ m < d.part.lanes, (d.lane m).sat = true) → (t.rd Reg.GRT_EVT).getLsbD 0 = true) ∧
    ((∀ m < d.part.lanes, (d.lane m).sat = false) → t.rd Reg.GRT_EVT = d.rd Reg.GRT_EVT) ∧
    KeepsRegs [Reg.GRT_SATPEND 0, Reg.GRT_SATPEND 1, Reg.GRT_SATPEND 2, Reg.GRT_EVT] d t) := by
  refine completes_of_goes (goes_saturationInterval hh) ⟨fun k hk j hj => ?_, fun m hm => ?_, fun hf hs => ?_, fun hs => ?_, fun a ha => ?_⟩
  · rw [Dev.rd_satRaised _ _ _ (satPend_ne_evt k), Dev.rd_satPend _ _ hk, BitVec.getLsbD_ofNat, Dev.testBit_satWord _ _ hj,
      decide_eq_true hj, Bool.true_and]
  · rw [← Dev.lane_satReported _ s.dev.satWord hm]
    split
    · rw [Dev.lane, Dev.lanes_raise]
      rfl
    · rfl
  · rw [if_pos (s.dev.satAny_of_sat hs)]
    exact Dev.getLsbD_raise_free (by rw [Dev.evtFree_satReported]; exact hf) (by decide)
  · rw [s.dev.satAny_eq_false hs, if_neg Bool.false_ne_true, Dev.rd_satReported,
      Dev.rd_satPend_other _ _ fun k _ => (satPend_ne_evt k).symm]
  · simp only [List.mem_cons, List.not_mem_nil, or_false, not_or] at ha
    obtain ⟨h0, h1, h2, hevt⟩ := ha
    rw [Dev.rd_satRaised _ _ _ hevt]
    refine Dev.rd_satPend_other _ _ fun k hk => ?_
    match k, hk with
    | 0, _ => exact h0
    | 1, _ => exact h1
    | 2, _ => exact h2

/-! ## Bin frames and the end of a refill (R129, R144, R147) -/

theorem goes_binFrame (hh : s.dev.held 3 = false) :
    let e := s.dev.pageApply 0x50000 .intact
    Goes .binFrame s (if e.is Reg.GRT_BANKCFG_PWREN = true then { (e.binIn 0).binIn 1 with binCount := e.binCount + 1 } else e) := by
  intro e
  have hcount : ((e.binIn 0).binIn 1).binCount = e.binCount := by rw [Dev.binIn_frame, Dev.binIn_frame]
  rw [← hcount]
  exact goes_of_next rfl (if_neg (by simp [hh]))

theorem goes_refillEnd (hh : s.dev.held 3 = false) (n : Nat) : Goes (.refillEnd n) s
    (if n < s.dev.part.lanes ∧ s.dev.is (Reg.GRT_LSTAT_REFILL (n / 8) (n % 8)) = true ∧ (s.dev.lane n).refillTo ≤ s.dev.scount then
      (s.dev.set (Reg.GRT_LSTAT_REFILL (n / 8) (n % 8)) 0).raise Reg.GRT_EVT 1 else s.dev) :=
  goes_of_next rfl (if_neg (by simp [hh]))

/-! ## A complete power average (R147) -/

theorem goes_binPowerUpdate (hh : s.dev.held 3 = false) (a b : List (List (Int × Int))) : Goes (.binPowerUpdate a b) s
    (if s.dev.is Reg.GRT_BANKCFG_PWREN = true ∧ 2 ^ s.dev.get Reg.GRT_BANKCFG_AVG ≤ s.dev.binCount then
      { ((s.dev.bankPower 0 a).bankPower 1 b).raise Reg.GRT_EVT 3 with binCount := 0 } else s.dev) :=
  goes_of_next rfl (if_neg (by simp [hh]))

end

/-- The word of a bin's power over a bank's average. -/
def GrateBank.power (x : GrateBank) (fs : List (List (Int × Int))) (k : Nat) : Word :=
  powerWord (x.clean.count true) (binSum x.clean fs k)

theorem grtPwr_injective (b : Nat) : Function.Injective (Reg.GRT_PWR b) := fun j k h => by
  simp only [Reg.GRT_PWR] at h
  omega

theorem Dev.bankPower_eq (d : Dev) (b : Nat) (fs : List (List (Int × Int))) : d.bankPower b fs =
    ((List.range 512).foldl (fun e k => e.wr (Reg.GRT_PWR b k) ((d.gbank b).power fs k)) d).setBank b { d.gbank b with clean := [] } := rfl

/-- A bank's bin powers are written and the bank begins a new average; the other bank and every other register stay as they were. -/
structure BankPowered (b : Nat) (fs : List (List (Int × Int))) (d t : Dev) : Prop where
  frame : t = { d with regs := t.regs, bankA := t.bankA, bankB := t.bankB }
  power : ∀ k < 512, t.rd (Reg.GRT_PWR b k) = (d.gbank b).power fs k
  other : ∀ a, (∀ k < 512, a ≠ Reg.GRT_PWR b k) → t.rd a = d.rd a
  bankA : t.bankA = if b = 0 then { d.bankA with clean := [] } else d.bankA
  bankB : t.bankB = if b = 0 then d.bankB else { d.bankB with clean := [] }

theorem BankPowered.evtLast {b : Nat} {fs : List (List (Int × Int))} {d t : Dev} (h : BankPowered b fs d t) : t.evtLast = d.evtLast := by
  rw [h.frame]

theorem BankPowered.now {b : Nat} {fs : List (List (Int × Int))} {d t : Dev} (h : BankPowered b fs d t) : t.now = d.now := by
  rw [h.frame]

theorem Dev.setBank_powered {d e : Dev} {b : Nat} {fs : List (List (Int × Int))} (hframe : e = { d with regs := e.regs })
    (hsame : ∀ k, e.rd (Reg.GRT_PWR b k) = if k < 512 then (d.gbank b).power fs k else d.rd (Reg.GRT_PWR b k))
    (hother : ∀ a, (∀ k < 512, a ≠ Reg.GRT_PWR b k) → e.rd a = d.rd a) :
    BankPowered b fs d (e.setBank b { d.gbank b with clean := [] }) := by
  obtain ⟨hA, hB⟩ := e.clean_setBank b { d.gbank b with clean := [] }
  have heA : e.bankA = d.bankA := by rw [hframe]
  have heB : e.bankB = d.bankB := by rw [hframe]
  have hset := e.setBank_frame b { d.gbank b with clean := [] }
  have hrd : ∀ a, (e.setBank b { d.gbank b with clean := [] }).rd a = e.rd a := fun a => by rw [hset]; rfl
  refine ⟨?_, fun k hk => ?_, fun a ha => ?_, ?_, ?_⟩
  · rw [hset, hframe]
  · rw [hrd, hsame, if_pos hk]
  · rw [hrd, hother a ha]
  · rw [hA, heA]
    unfold Dev.gbank
    split <;> rfl
  · rw [hB, heB]
    unfold Dev.gbank
    split <;> rfl

theorem Dev.bankPower_powered (d : Dev) (b : Nat) (fs : List (List (Int × Int))) : BankPowered b fs d (d.bankPower b fs) := by
  rw [Dev.bankPower_eq]
  exact Dev.setBank_powered (Dev.foldl_wr_frame _ _ _ d) (d.rd_foldl_wr_range (grtPwr_injective b) _ 512)
    fun a => d.rd_foldl_wr_other (addr := Reg.GRT_PWR b) _ 512 (a := a)

section
variable {s : State} {a b : List (List (Int × Int))}

theorem completes_binPowerUpdate_stores (hh : s.dev.held 3 = false)
    (he : s.dev.is Reg.GRT_BANKCFG_PWREN = true) (hn : 2 ^ s.dev.get Reg.GRT_BANKCFG_AVG ≤ s.dev.binCount) :
    Completes (.binPowerUpdate a b) s (fun d t =>
      (∀ k < 512, t.rd (Reg.GRT_PWR 0 k) = d.bankA.power a k ∧ t.rd (Reg.GRT_PWR 1 k) = d.bankB.power b k) ∧ t.binCount = 0 ∧
      t.bankA.clean = [] ∧ t.bankB.clean = [] ∧ t.bankA.marks = d.bankA.marks ∧ t.bankB.marks = d.bankB.marks ∧
      (d.evtFree Reg.GRT_EVT 3 0 = true → (t.rd Reg.GRT_EVT).getLsbD 3 = true)) := by
  have hgo := goes_binPowerUpdate hh a b
  rw [if_pos ⟨he, hn⟩] at hgo
  have h0 := s.dev.bankPower_powered 0 a
  have h1 := (s.dev.bankPower 0 a).bankPower_powered 1 b
  generalize s.dev.bankPower 0 a = u at hgo h0 h1
  generalize u.bankPower 1 b = v at hgo h1
  have hbA : v.bankA = { s.dev.bankA with clean := [] } := h1.bankA.trans h0.bankA
  have hbB : v.bankB = { s.dev.bankB with clean := [] } := by
    rw [h1.bankB, h0.bankB]
    rfl
  have hr := EventStep.raise v Reg.GRT_EVT 3
  have hrd : ∀ c k, (v.raise Reg.GRT_EVT 3).rd (Reg.GRT_PWR c k) = v.rd (Reg.GRT_PWR c k) := fun c k =>
    Dev.rd_raise_other _ _ (by simp only [Reg.GRT_PWR, Reg.GRT_EVT]; omega)
  have hfree : v.evtFree Reg.GRT_EVT 3 0 = s.dev.evtFree Reg.GRT_EVT 3 0 :=
    (Dev.evtFree_of_last h1.evtLast h1.now _ _ _).trans (Dev.evtFree_of_last h0.evtLast h0.now _ _ _)
  have hevt : s.dev.evtFree Reg.GRT_EVT 3 0 = true → ((v.raise Reg.GRT_EVT 3).rd Reg.GRT_EVT).getLsbD 3 = true := fun hf =>
    Dev.getLsbD_raise_free (hfree.trans hf) (by decide)
  generalize v.raise Reg.GRT_EVT 3 = x at hgo hr hrd hevt
  refine completes_of_goes hgo ⟨fun k hk => ⟨?_, ?_⟩, rfl, ?_, ?_, ?_, ?_, hevt⟩
  · refine (hrd 0 k).trans ((h1.other _ fun j _ => ?_).trans (h0.power k hk))
    simp only [Reg.GRT_PWR]
    omega
  · refine (hrd 1 k).trans ((h1.power k hk).trans ?_)
    exact congrArg (GrateBank.power · b k) h0.bankB
  · exact congrArg GrateBank.clean (hr.bankA.trans hbA)
  · exact congrArg GrateBank.clean (hr.bankB.trans hbB)
  · exact (congrArg GrateBank.marks hr.bankA).trans (by rw [hbA])
  · exact (congrArg GrateBank.marks hr.bankB).trans (by rw [hbB])

end

theorem grateEventsAct : Claim.GrateEventsAct := by
  intro s n a b d e refill timeUp sum word hh
  refine ⟨goes_binFrame hh, fun ht => ?_, fun ht => ?_, completes_saturationInterval_reports hh, fun hn => ?_,
    completes_binPowerUpdate_stores hh⟩
  · have hgo := goes_refillEnd hh n
    rwa [if_pos ht] at hgo
  · have hgo := goes_refillEnd hh n
    rwa [if_neg ht] at hgo
  · have hgo := goes_binPowerUpdate hh a b
    rwa [if_neg hn] at hgo

/-- Settles O38: a lane's sample by what its delivery leaves of the counters, each event by the one device it goes to. The model's choices:
a frame that BIN_POWER_UPDATE does not bring counts as silent (log 38), the decibel of a power is opaque (log 37), and a window marked in part
has the weight of its operand, held to 1 to 256 (log 113). -/
theorem grateSamplesAndEvents : Obligations.GrateSamplesAndEvents := ⟨laneSamplesMarkAndCount, grateEventsAct⟩

end Sys2Proof.Machine
end


section
/-! The mantel's decision: what it makes of one lane's guard, and the obligation on the schedule of shadows. -/

namespace Sys2Proof.Machine

/-! ## The decision (R180, R189) -/

/-- With full firmware the lanes are looked at in ascending order, once the page has applied. -/
theorem goes_mantelScheduleTick_full {s : State} (hm : (s.dev.pageApply 0x162000 .intact).migr = true) :
    Goes .mantelScheduleTick s ((List.range (s.dev.pageApply 0x162000 .intact).part.lanes).foldl (fun (r : Nat × Dev) m =>
      if (r.2.lane m).mig.isSome then (if (r.2.shadowOf m).isSome then r.1 + 1 else r.1, r.2) else r.2.guardLane m r.1)
      (0, s.dev.pageApply 0x162000 .intact)).2 := by
  refine goes_of_next rfl ?_
  unfold Dev.scheduleTick
  exact if_neg (by simp [hm])

/-! ## One lane at the decision (R156, R180, R182, R204) -/

/-- A guarded lane without a shadow takes the lowest FREE hearth for it, or is lost where there is none or no set for it. -/
def Dev.guardSeek (d : Dev) (n k : Nat) : Nat × Dev :=
  match d.hearthsIn stFree with
  | h :: _ => match d.grantShadow n h with
    | some d => (k + 1, d.refreshMargin)
    | none => (k + 1, if d.get (Reg.LANE_BIND_GSTATE n) = 3 then d
        else (d.allocFail 2 n (setPages (d.imgTiNeed (d.laneSlot n)))).loseShadow n)
  | [] => (k + 1, if d.get (Reg.LANE_BIND_GSTATE n) = 3 then d else d.loseShadow n)

section
variable {d : Dev} {n k : Nat}

theorem Dev.guardLane_unguarded (hg : d.is (Reg.LANE_CTL_GUARD n) = false) : d.guardLane n k =
    (k, if (d.shadowOf n).isSome ∨ d.get (Reg.LANE_BIND_GSTATE n) ≠ 0 then (d.dropShadow n).refreshMargin else d) :=
  if_pos (by simp [hg])

section
variable (hg : d.is (Reg.LANE_CTL_GUARD n) = true)
include hg

theorem Dev.guardLane_disabled (he : d.is (Reg.LANE_CTL_EN n) = false) : d.guardLane n k =
    if (d.shadowOf n).isSome then (k + 1, d) else (k, d.set (Reg.LANE_BIND_GSTATE n) 0) :=
  (if_neg (by simp [hg])).trans (if_pos (by simp [he]))

variable (he : d.is (Reg.LANE_CTL_EN n) = true)
include he

theorem Dev.guardLane_refused (hk : 8 ≤ k) (hs : d.shadowOf n = none) : d.guardLane n k =
    (k, (d.set (Reg.LANE_BIND_GSTATE n) 4).refreshMargin) := by
  unfold Dev.guardLane
  rw [if_neg (by simp [hg]), if_neg (by simp [he]), if_pos hk, if_neg (by simp [hs])]

variable (hk : k < 8)
include hk

theorem Dev.guardLane_shadowed (hs : (d.shadowOf n).isSome = true) : d.guardLane n k = (k + 1, d) := by
  unfold Dev.guardLane
  rw [if_neg (by simp [hg]), if_neg (by simp [he]), if_neg (by omega), if_pos hs]

variable (hs : d.shadowOf n = none)
include hs

/-- A lane without a running program gets no shadow, but keeps its place in the count (log 55). -/
theorem Dev.guardLane_waits (hr : (d.lane n).started = false ∨ (d.lane n).halted = true) : d.guardLane n k = (k + 1, d) := by
  have hw : (!(d.lane n).started || (d.lane n).halted || (d.bound n).isNone) = true := by rcases hr with h | h <;> simp [h]
  unfold Dev.guardLane
  rw [if_neg (by simp [hg]), if_neg (by simp [he]), if_neg (by omega), if_neg (by simp [hs]), if_pos hw]

/-- A lane whose program runs looks for a hearth. -/
theorem Dev.guardLane_seeks (hst : (d.lane n).started = true) (hh : (d.lane n).halted = false) (hb : (d.bound n).isSome = true) :
    d.guardLane n k = d.guardSeek n k := by
  have hw : ¬(!(d.lane n).started || (d.lane n).halted || (d.bound n).isNone) = true := by
    simp [hst, hh, Option.isSome_iff_ne_none.mp hb]
  unfold Dev.guardLane
  rw [if_neg (by simp [hg]), if_neg (by simp [he]), if_neg (by omega), if_neg (by simp [hs]), if_neg hw]
  rfl

end

theorem Dev.guardSeek_noneFree (hf : d.hearthsIn stFree = []) : d.guardSeek n k =
    (k + 1, if d.get (Reg.LANE_BIND_GSTATE n) = 3 then d else d.loseShadow n) := by
  unfold Dev.guardSeek
  rw [hf]

theorem Dev.guardSeek_granted {h : Nat} {hs : List Nat} {u : Dev} (hf : d.hearthsIn stFree = h :: hs) (hu : d.grantShadow n h = some u) :
    d.guardSeek n k = (k + 1, u.refreshMargin) := by
  unfold Dev.guardSeek
  rw [hf]
  simp only [hu]

end

/-- Settles O33: each clause by the branch of the decision that it names. A lane in migration is skipped and, where it has a shadow, counted;
that a guarded lane whose program does not run keeps its place in the count (log 55) and that a stopped lane keeps its shadow (log 39) are the
model's choices. -/
theorem scheduleGrantsShadowsInOrder : Obligations.ScheduleGrantsShadowsInOrder := by
  intro s n k d e want guarded ready g
  refine ⟨goes_mantelScheduleTick_full, fun hw hs hz => ?_, fun hw hs => ?_, fun hw he hs => ?_, fun hw he hs => ?_,
    fun ⟨hw, he⟩ hk hs => Dev.guardLane_refused hw he hk hs, fun ⟨hw, he⟩ hk hs => Dev.guardLane_shadowed hw he hk hs,
    fun ⟨hw, he⟩ hk hs hr => Dev.guardLane_waits hw he hk hs hr,
    fun ⟨hw, he⟩ hk ⟨hs, hst, hh, hb⟩ hf =>
      (Dev.guardLane_seeks hw he hk hs hst hh hb).trans (Dev.guardSeek_noneFree hf),
    fun h hs' u ⟨hw, he⟩ hk ⟨hs, hst, hh, hb⟩ hf hu =>
      (Dev.guardLane_seeks hw he hk hs hst hh hb).trans (Dev.guardSeek_granted hf hu)⟩
  · rw [Dev.guardLane_unguarded hw, if_neg (by simp [hs, show d.get (Reg.LANE_BIND_GSTATE n) = 0 from hz])]
  · rw [Dev.guardLane_unguarded hw, if_pos (.inl hs)]
  · rw [Dev.guardLane_disabled hw he, if_pos hs]
  · rw [Dev.guardLane_disabled hw he, if_neg (by simp [hs])]

end Sys2Proof.Machine
end


section
/-! A hearth that fails: what its declaration leaves of the device, and the FREE hearth that takes its lane over. -/

namespace Sys2Proof.Machine

/-! ## The hearths' records and states (R153) -/

/-- A change that leaves the part, the hearths' records and their HST_STAT. -/
structure KeepsRoster (d t : Dev) : Prop where
  part : t.part = d.part
  hearths : t.hearths = d.hearths
  stat : ∀ g < 104, t.rd (Reg.HST_STAT g) = d.rd (Reg.HST_STAT g)

namespace KeepsRoster
variable {d t u : Dev}

theorem trans (h : KeepsRoster d t) (k : KeepsRoster t u) : KeepsRoster d u :=
  ⟨k.part.trans h.part, k.hearths.trans h.hearths, fun g hg => (k.stat g hg).trans (h.stat g hg)⟩

section
variable (d)

theorem wr {a : Nat} (w : Word) (ha : a < 0x160000 ∨ 0x162000 ≤ a) : KeepsRoster d (d.wr a w) :=
  ⟨rfl, rfl, fun _ _ => Dev.rd_wr_other _ _ (by simp only [Reg.HST_STAT]; omega)⟩

theorem set {f : Fld} (v : Nat) (ha : f.addr < 0x160000 ∨ 0x162000 ≤ f.addr) : KeepsRoster d (d.set f v) := wr d _ ha

/-- A field of LANE_BIND. -/
theorem setBind {f : Fld} {n : Nat} (v : Nat) (hf : f.addr = Reg.LANE_BIND n) (hn : n < 96) : KeepsRoster d (d.set f v) :=
  set d v (.inl (by rw [hf]; simp only [Reg.LANE_BIND]; omega))

theorem raise {a : Nat} (b : Nat) (ha : a < 0x160000 ∨ 0x162000 ≤ a) : KeepsRoster d (d.raise a b) :=
  ⟨by simp, by simp, fun _ _ => Dev.rd_raise_other _ _ (by simp only [Reg.HST_STAT]; omega)⟩

theorem setLane (n : Nat) (x : Lane) : KeepsRoster d (d.setLane n x) := ⟨rfl, rfl, fun _ _ => rfl⟩

end

theorem rd_stat (h : KeepsRoster d t) {g : Nat} (hg : g < d.part.hearths) : t.rd (Reg.HST_STAT g) = d.rd (Reg.HST_STAT g) :=
  h.stat g (lt_of_lt_of_le hg d.part.hearths_le)

theorem hstate (h : KeepsRoster d t) {g : Nat} (hg : g < d.part.hearths) : t.hstate g = d.hstate g :=
  Dev.hstate_congr h.part (h.rd_stat hg)

theorem laneOf (h : KeepsRoster d t) {g : Nat} (hg : g < d.part.hearths) : t.laneOf g = d.laneOf g := by
  unfold Dev.laneOf Dev.is Dev.get
  rw [h.rd_stat hg]

end KeepsRoster

/-- The hearths in a state are those of the same state before. -/
theorem Dev.hearthsIn_congr {d t : Dev} {st : Nat} (hp : t.part = d.part)
    (hs : ∀ g < d.part.hearths, t.hstate g = st ↔ d.hstate g = st) : t.hearthsIn st = d.hearthsIn st := by
  unfold Dev.hearthsIn
  rw [hp]
  refine List.filter_congr fun g hg => ?_
  rw [Bool.eq_iff_iff, beq_iff_eq, beq_iff_eq]
  exact hs g (List.mem_range.mp hg)

theorem KeepsRoster.hearthsIn {d t : Dev} (h : KeepsRoster d t) (st : Nat) : t.hearthsIn st = d.hearthsIn st :=
  Dev.hearthsIn_congr h.part fun _ hg => by rw [h.hstate hg]

/-- The lowest hearth in a state is a hearth of the part in that state. -/
theorem Dev.mem_of_hearthsIn {d : Dev} {st p : Nat} {ps : List Nat} (hf : d.hearthsIn st = p :: ps) : p < d.part.hearths ∧ d.hstate p = st := by
  have hp : p ∈ d.hearthsIn st := by rw [hf]; exact List.mem_cons_self
  obtain ⟨h1, h2⟩ := List.mem_filter.mp hp
  exact ⟨List.mem_range.mp h1, beq_iff_eq.mp h2⟩

theorem Dev.laneOf_setHstate {d : Dev} {h n : Nat} (st : Nat) (hh : h < d.part.hearths) (hn : n < 128) :
    (d.setHstate h st (some n)).laneOf h = some n := by
  have := d.part.hearths_le
  unfold Dev.laneOf Dev.is Dev.get
  rw [Dev.rd_setHstate _ _ _ _ (by simp only [Reg.HST_STAT]; omega) (by simp only [Reg.HST_STAT]; omega), if_pos rfl,
    getBits_hstWord_laneV, getBits_hstWord_lane, Option.getD_some, Nat.mod_eq_of_lt hn]
  rfl

/-! ## Full firmware stays full firmware (R22) -/

/-- A change that keeps MIGR. -/
abbrev KeepsFirmware (d t : Dev) : Prop := KeepsFields (fun f => f = Reg.SYS_MARGIN_MIGR) d t

namespace KeepsFirmware

section
variable (d : Dev)

theorem wr {a : Nat} (w : Word) (ha : 0x10000 ≤ a) : KeepsFirmware d (d.wr a w) :=
  KeepsFields.wr d w (by rintro f rfl; simp only [Reg.SYS_MARGIN]; omega)

theorem set {f : Fld} (v : Nat) (ha : 0x10000 ≤ f.addr) : KeepsFirmware d (d.set f v) := wr d _ ha

theorem wr64 {lo hi : Nat} (v : Nat) (hl : 0x10000 ≤ lo) (hh : 0x10000 ≤ hi) : KeepsFirmware d (d.wr64 lo hi v) :=
  (wr d _ hl).trans (wr _ _ hh)

theorem setHstate (h st : Nat) (lane : Option Nat) : KeepsFirmware d (d.setHstate h st lane) := by
  rw [Dev.setHstate_eq]
  exact (wr d _ (by simp only [Reg.HST_STAT]; omega)).trans ((KeepsCapture.refreshMargin _).mono fun f hf => hf ▸ captureField.migr)

theorem updHearth (h : Nat) (f : Hearth → Hearth) : KeepsFirmware d (d.updHearth h f) := .of_regs rfl rfl rfl rfl

theorem withdraw (h : Nat) : KeepsFirmware d (d.withdraw h) := .of_regs rfl rfl rfl rfl

theorem killHearth (h : Nat) : KeepsFirmware d (d.killHearth h) := (updHearth d h _).trans (withdraw _ h)

theorem fwHearthFailed (h faultT : Nat) : KeepsFirmware d (d.fwHearthFailed h faultT) :=
  .foldl (fun e _ => .ite (set e _ (by simp only [Reg.FWT_ACT_W0]; omega)) (.refl _ e)) _ d

end

end KeepsFirmware

/-! ## What the declaration of a failure leaves (R163, R171) -/

/-- The failing hearth's cause and time are written and its record stops; its state is still to come. -/
def Dev.failNoted (d : Dev) (h cause faultT : Nat) : Dev :=
  (((d.set (Reg.HST_STAT_CAUSE h) cause).wr64 (Reg.HST_FAULT_LO h) (Reg.HST_FAULT_HI h) faultT).killHearth h).updHearth h
    (fun x => { x with testKind := if cause = 9 then 4 else 0 })

section
variable (d : Dev) (h cause faultT : Nat)

theorem Dev.declared_eq : d.declared h cause faultT = ((d.failNoted h cause faultT).setHstate h stIsolated none).fwHearthFailed h faultT := rfl

theorem Dev.part_failNoted : (d.failNoted h cause faultT).part = d.part := by
  unfold Dev.failNoted Dev.wr64
  rw [Dev.part_updHearth, Dev.part_killHearth, Dev.part_wr, Dev.part_wr, Dev.part_set]

theorem Dev.lanes_killHearth : (d.killHearth h).lanes = d.lanes := rfl

theorem Dev.lanes_failNoted : (d.failNoted h cause faultT).lanes = d.lanes := by
  unfold Dev.failNoted Dev.wr64
  rw [Dev.lanes_updHearth, Dev.lanes_killHearth, Dev.lanes_wr, Dev.lanes_wr, Dev.lanes_set]

theorem Dev.rd_failNoted {a : Nat} (hs : a ≠ Reg.HST_STAT h) (hl : a ≠ Reg.HST_FAULT_LO h) (hh : a ≠ Reg.HST_FAULT_HI h) :
    (d.failNoted h cause faultT).rd a = d.rd a := by
  unfold Dev.failNoted Dev.wr64
  rw [Dev.rd_updHearth, Dev.rd_killHearth, Dev.rd_wr_other _ _ hh, Dev.rd_wr_other _ _ hl, Dev.rd_set_other _ _ hs]

/-- The cause and the time of a failure are matters of registers. -/
theorem Dev.hearth_causeWritten (g : Nat) :
    ((d.set (Reg.HST_STAT_CAUSE h) cause).wr64 (Reg.HST_FAULT_LO h) (Reg.HST_FAULT_HI h) faultT).hearth g = d.hearth g := by
  unfold Dev.wr64 Dev.hearth
  rw [Dev.hearths_wr, Dev.hearths_wr, Dev.hearths_set]

theorem Dev.hearth_killHearth_other {g : Nat} (hne : g ≠ h) : (d.killHearth h).hearth g = d.hearth g := by
  unfold Dev.killHearth Dev.updHearth
  rw [Dev.hearth_withdraw, Dev.hearth_setHearth, if_neg hne]

theorem Dev.set_killHearth : ((d.killHearth h).hearth h).set = (d.hearth h).set := by
  unfold Dev.killHearth
  rw [Dev.hearth_withdraw, Dev.hearth_updHearth_same, Hearth.hobStop]

theorem Dev.hearth_failNoted_other {g : Nat} (hne : g ≠ h) : (d.failNoted h cause faultT).hearth g = d.hearth g := by
  unfold Dev.failNoted Dev.updHearth
  rw [Dev.hearth_setHearth, if_neg hne, Dev.hearth_killHearth_other _ _ hne, Dev.hearth_causeWritten]

theorem Dev.set_failNoted : ((d.failNoted h cause faultT).hearth h).set = (d.hearth h).set := by
  unfold Dev.failNoted
  rw [Dev.hearth_updHearth_same, Dev.set_killHearth, Dev.hearth_causeWritten]

theorem Dev.rd64_failNoted (hf : faultT < 2 ^ 64) :
    (d.failNoted h cause faultT).rd64 (Reg.HST_FAULT_LO h) (Reg.HST_FAULT_HI h) = faultT := by
  unfold Dev.failNoted Dev.wr64 Dev.rd64
  rw [Dev.rd_updHearth, Dev.rd_updHearth, Dev.rd_killHearth, Dev.rd_killHearth, Dev.rd_wr_other _ _ (by simp), Dev.rd_wr_same, Dev.rd_wr_same]
  simp only [of64, lo32, hi32, BitVec.toNat_ofNat]
  omega

/-- The declaration changes the lanes' records in nothing. -/
theorem Dev.declared_lanes : (d.declared h cause faultT).lanes = d.lanes := by
  rw [Dev.declared_eq, (KeepsWork.fwHearthFailed _ _ _).lanes, (EventStep.setHstate _ _ _ _).lanes, Dev.lanes_failNoted]

theorem Dev.declared_part : (d.declared h cause faultT).part = d.part := by
  rw [Dev.declared_eq, Dev.part_fwHearthFailed, Dev.part_setHstate, Dev.part_failNoted]

theorem Dev.rd_declared {a : Nat} (h1 : 0x100000 ≤ a) (h2 : a < 0x162000) (hs : a ≠ Reg.HST_STAT h) :
    (d.declared h cause faultT).rd a = (d.failNoted h cause faultT).rd a := by
  rw [Dev.declared_eq, (KeepsWork.fwHearthFailed _ _ _).units.rd a h1 h2, Dev.rd_setHstate _ _ _ _ h1 h2, if_neg hs]

/-- The declaration leaves the registers of the lane pages. -/
theorem Dev.rd_declared_lane {a : Nat} (h1 : 0x100000 ≤ a) (h2 : a < 0x160000) : (d.declared h cause faultT).rd a = d.rd a := by
  rw [Dev.rd_declared _ _ _ _ h1 (by omega) (by simp only [Reg.HST_STAT]; omega), Dev.rd_failNoted _ _ _ _ (by simp only [Reg.HST_STAT]; omega)
    (by simp only [Reg.HST_FAULT_LO]; omega) (by simp only [Reg.HST_FAULT_HI]; omega)]

theorem Dev.running_failNoted : ((d.failNoted h cause faultT).hearth h).running = false := by
  unfold Dev.failNoted
  rw [Dev.hearth_updHearth_same, Dev.hearth_killHearth]

theorem Dev.hearth_declared (g : Nat) : (d.declared h cause faultT).hearth g = (d.failNoted h cause faultT).hearth g := by
  rw [Dev.declared_eq, Dev.hearth_of_hearths (KeepsWork.fwHearthFailed _ _ _).units.hearths,
    Dev.hearth_of_hearths (Dev.hearths_setHstate _ _ _ _)]

theorem Dev.failNoted_keepsFirmware : KeepsFirmware d (d.failNoted h cause faultT) := by
  unfold Dev.failNoted
  refine ((KeepsFirmware.set d cause ?_).trans (KeepsFirmware.wr64 _ _ ?_ ?_)).trans
    ((KeepsFirmware.killHearth _ _).trans (KeepsFirmware.updHearth _ _ _))
  · simp only [Reg.HST_STAT]; omega
  · simp only [Reg.HST_FAULT_LO]; omega
  · simp only [Reg.HST_FAULT_HI]; omega

theorem Dev.migr_declared : (d.declared h cause faultT).migr = d.migr :=
  (((d.failNoted_keepsFirmware h cause faultT).trans (KeepsFirmware.setHstate _ _ _ _)).trans
    (KeepsFirmware.fwHearthFailed _ _ _)).is rfl

variable {d h}

/-- The failed hearth's HST_STAT and record are those of its isolation. -/
theorem Dev.declared_keepsHearth (hh : h < d.part.hearths) :
    KeepsHearth h ((d.failNoted h cause faultT).setHstate h stIsolated none) (d.declared h cause faultT) :=
  .of_keepsUnits (KeepsWork.fwHearthFailed _ h faultT).units (by rwa [Dev.part_setHstate, Dev.part_failNoted])

theorem Dev.declared_laneOf (hh : h < d.part.hearths) : (d.declared h cause faultT).laneOf h = none := by
  rw [(Dev.declared_keepsHearth _ _ hh).laneOf, Dev.laneOf_setHstate_none _ (by rwa [Dev.part_failNoted])]

theorem Dev.declared_hstate (hh : h < d.part.hearths) : (d.declared h cause faultT).hstate h = stIsolated := by
  rw [(Dev.declared_keepsHearth _ _ hh).hstate, Dev.hstate_setHstate _ (by rwa [Dev.part_failNoted]) (by decide)]

/-- The states of the other hearths stay. -/
theorem Dev.declared_hstate_other {g : Nat} (hne : g ≠ h) (hg : g < d.part.hearths) :
    (d.declared h cause faultT).hstate g = d.hstate g := by
  have := d.part.hearths_le
  refine Dev.hstate_congr (d.declared_part h cause faultT) ?_
  rw [Dev.rd_declared _ _ _ _ (by simp only [Reg.HST_STAT]; omega) (by simp only [Reg.HST_STAT]; omega) (by simp only [Reg.HST_STAT]; omega),
    Dev.rd_failNoted _ _ _ _ (by simp only [Reg.HST_STAT]; omega) (by simp only [Reg.HST_STAT, Reg.HST_FAULT_LO]; omega)
      (by simp only [Reg.HST_STAT, Reg.HST_FAULT_HI]; omega)]

theorem Dev.declared_rd64 (hh : h < d.part.hearths) (hf : faultT < 2 ^ 64) :
    (d.declared h cause faultT).rd64 (Reg.HST_FAULT_LO h) (Reg.HST_FAULT_HI h) = faultT := by
  have := d.part.hearths_le
  refine Eq.trans ?_ (d.rd64_failNoted h cause faultT hf)
  unfold Dev.rd64
  rw [Dev.rd_declared _ _ _ _ (by simp only [Reg.HST_FAULT_LO]; omega) (by simp only [Reg.HST_FAULT_LO]; omega) (by simp),
    Dev.rd_declared _ _ _ _ (by simp only [Reg.HST_FAULT_HI]; omega) (by simp only [Reg.HST_FAULT_HI]; omega) (by simp)]

/-- A hearth that fails while it is not FREE changes nothing of which hearths are FREE. -/
theorem Dev.declared_hearthsIn_free (hh : h < d.part.hearths) (hs : d.hstate h ≠ stFree) :
    (d.declared h cause faultT).hearthsIn stFree = d.hearthsIn stFree := by
  refine Dev.hearthsIn_congr (d.declared_part h cause faultT) fun g hg => ?_
  by_cases hne : g = h
  · rw [hne, Dev.declared_hstate _ _ hh]
    exact iff_of_false (by decide) hs
  · rw [Dev.declared_hstate_other _ _ hne hg]

end

end Sys2Proof.Machine
end


section
/-! The spare that takes a failed hearth's lane over, and the claim on failures. -/

namespace Sys2Proof.Machine

/-! ## LANE_BIND (R155, R171) -/

section
variable {d t : Dev} {n : Nat}

/-- The binding is read from LANE_BIND. -/
theorem Dev.bound_congr (h : t.rd (Reg.LANE_BIND n) = d.rd (Reg.LANE_BIND n)) : t.bound n = d.bound n := by
  unfold Dev.bound Dev.is Dev.get
  rw [h]

theorem Dev.shadowOf_congr (h : t.rd (Reg.LANE_BIND n) = d.rd (Reg.LANE_BIND n)) : t.shadowOf n = d.shadowOf n := by
  unfold Dev.shadowOf Dev.is Dev.get
  rw [h]

theorem Dev.bound_of_fields {h : Nat} (hv : t.get (Reg.LANE_BIND_HVALID n) = 1) (hh : t.get (Reg.LANE_BIND_HEARTH n) = h) :
    t.bound n = some h := by
  simp [Dev.bound, Dev.is, hv, hh]

/-- The shadow is no matter of LANE_BIND's other fields. -/
theorem Dev.shadowOf_set {f : Fld} (v : Nat) (h1 : f.hi ≤ 31) (h2 : f.lo ≤ f.hi) (hf : 23 < f.lo ∨ f.hi < 16) :
    (d.set f v).shadowOf n = d.shadowOf n := by
  unfold Dev.shadowOf Dev.is
  rw [Dev.get_set_apart _ _ h1 h2 (by simp only; omega), Dev.get_set_apart _ _ h1 h2 (by simp only; omega)]

end

/-! ## A spare takes a lane over (R171, R308) -/

/-- The failed hearth's set becomes the spare's. -/
def Dev.setHandedOver (d : Dev) (s failed : Nat) : Dev :=
  (d.updHearth s (fun x => { x with set := (d.hearth failed).set })).updHearth failed (fun x => { x with set := none })

theorem Dev.freeHearthSet_none {d : Dev} {h : Nat} (hs : (d.hearth h).set = none) : d.freeHearthSet h = d := by
  unfold Dev.freeHearthSet
  rw [hs]

section
variable {d : Dev} {n s failed : Nat}

theorem Dev.takeSpare_eq (hs : (d.hearth s).set = none) (hne : s ≠ failed) : d.takeSpare n s failed =
    ((((((d.setHandedOver s failed).setHstate s stJoining (some n)).incMod (Reg.HST_LOAD_SERVED s) 1).set
      (Reg.LANE_BIND_HEARTH n) s).set (Reg.LANE_BIND_HVALID n) 1).set (Reg.LANE_BIND_MSTATE n) 1) := by
  unfold Dev.takeSpare
  rw [Dev.freeHearthSet_none hs]
  dsimp only
  unfold Dev.setHandedOver
  rw [if_neg hne]

theorem Dev.setHandedOver_hearths (hne : s ≠ failed) : ((d.setHandedOver s failed).hearth s).set = (d.hearth failed).set ∧
    ((d.setHandedOver s failed).hearth failed).running = (d.hearth failed).running := by
  unfold Dev.setHandedOver
  refine ⟨?_, ?_⟩
  · rw [Dev.updHearth, Dev.hearth_setHearth, if_neg hne, Dev.hearth_updHearth_same]
  · rw [Dev.hearth_updHearth_same, Dev.updHearth, Dev.hearth_setHearth, if_neg (Ne.symm hne)]

/-- A spare that has taken a lane over: what can be read of the lane, of the spare and of the hearth that failed. -/
structure TakenOver (d t : Dev) (n s failed : Nat) : Prop where
  bound : t.bound n = some s
  mstate : t.get (Reg.LANE_BIND_MSTATE n) = 1
  joining : t.hstate s = stJoining
  lane : t.laneOf s = some n
  set : (t.hearth s).set = (d.hearth failed).set
  running : (t.hearth failed).running = (d.hearth failed).running
  failed : t.hstate failed = d.hstate failed

theorem TakenOver.updLane {d t : Dev} (h : TakenOver d t n s failed) (f : Lane → Lane) : TakenOver d (t.updLane n f) n s failed :=
  ⟨h.bound, h.mstate, h.joining, h.lane, h.set, h.running, h.failed⟩

theorem TakenOver.of_roster {d e t : Dev} (h : TakenOver e t n s failed) (hk : KeepsRoster d e) (hf : failed < d.part.hearths) :
    TakenOver d t n s failed :=
  { h with
    set := h.set.trans (by rw [Dev.hearth_of_hearths hk.hearths])
    running := h.running.trans (by rw [Dev.hearth_of_hearths hk.hearths])
    failed := h.failed.trans (hk.hstate hf) }

theorem Dev.takeSpare_takenOver (hn : n < 96) (hs : s < d.part.hearths) (hf : failed < d.part.hearths) (hset : (d.hearth s).set = none)
    (hne : s ≠ failed) : TakenOver d (d.takeSpare n s failed) n s failed := by
  have hle := d.part.hearths_le
  have hpart : (d.setHandedOver s failed).part = d.part := by rw [Dev.setHandedOver, Dev.part_updHearth, Dev.part_updHearth]
  obtain ⟨hset', hrun⟩ := d.setHandedOver_hearths hne
  have hother := KeepsHearth.setHstate_other (d.setHandedOver s failed) stJoining (some n) (Ne.symm hne) (by rwa [hpart])
  have hkeep : ∀ (e : Dev) (v : Nat), KeepsRoster e (((((e.incMod (Reg.HST_LOAD_SERVED s) v)).set (Reg.LANE_BIND_HEARTH n) s).set
      (Reg.LANE_BIND_HVALID n) 1).set (Reg.LANE_BIND_MSTATE n) 1) := fun e v => by
    have hload : KeepsRoster e (e.incMod (Reg.HST_LOAD_SERVED s) v) := ⟨rfl, rfl, fun g _ => Dev.rd_set_other _ _ (by
      simp only [Reg.HST_STAT, Reg.HST_LOAD]; omega)⟩
    exact ((hload.trans (.setBind _ _ rfl hn)).trans (.setBind _ _ rfl hn)).trans (.setBind _ _ rfl hn)
  rw [Dev.takeSpare_eq hset hne]
  have hk := hkeep ((d.setHandedOver s failed).setHstate s stJoining (some n)) 1
  have hp : ((d.setHandedOver s failed).setHstate s stJoining (some n)).part = d.part := by rw [Dev.part_setHstate, hpart]
  refine ⟨Dev.bound_of_fields ?_ ?_, ?_, ?_, ?_, ?_, ?_, ?_⟩
  · rw [Dev.get_set_apart _ _ (by simp) (by simp) (by simp), Dev.get_set_same _ _ (by simp) (by simp)]
    rfl
  · rw [Dev.get_set_apart _ _ (by simp) (by simp) (by simp), Dev.get_set_apart _ _ (by simp) (by simp) (by simp),
      Dev.get_set_same _ _ (by simp) (by simp)]
    exact Nat.mod_eq_of_lt (by norm_num; omega)
  · rw [Dev.get_set_same _ _ (by simp) (by simp)]
    rfl
  · rw [hk.hstate (by rwa [hp]), Dev.hstate_setHstate _ (by rwa [hpart]) (by decide)]
  · rw [hk.laneOf (by rwa [hp]), Dev.laneOf_setHstate _ (by rwa [hpart]) (by omega)]
  · rw [Dev.hearth_of_hearths hk.hearths, Dev.hearth_of_hearths (Dev.hearths_setHstate _ _ _ _), hset']
  · rw [Dev.hearth_of_hearths hk.hearths, hother.record, hrun]
  · rw [hk.hstate (by rwa [hp]), hother.hstate]
    exact Dev.hstate_congr hpart (by rw [Dev.setHandedOver, Dev.rd_updHearth, Dev.rd_updHearth])

end

/-! ## The failure of the hearth that feeds a lane (R171) -/

/-- A lane's hearth has failed: the lane has none, and its migration starts. -/
def Dev.migrationBegun (d : Dev) (n : Nat) : Dev :=
  ((d.set (Reg.LANE_BIND_HVALID n) 0).set (Reg.LANE_BIND_HEARTH n) 0).migStart n 1

section
variable {d : Dev} {n h fault faultT : Nat}

theorem Dev.migrationBegun_keepsRoster (hn : n < 96) : KeepsRoster d (d.migrationBegun n) := by
  unfold Dev.migrationBegun Dev.migStart
  exact ((((KeepsRoster.setBind d _ rfl hn).trans (.setBind _ _ rfl hn)).trans (.setBind _ _ rfl hn)).trans
    (.raise _ _ (.inl (by simp only [Reg.LANE_STAT]; omega)))).trans (.raise _ _ (.inr (by decide)))

theorem Dev.shadowOf_migrationBegun : (d.migrationBegun n).shadowOf n = d.shadowOf n := by
  unfold Dev.migrationBegun Dev.migStart
  rw [Dev.shadowOf_congr (Dev.rd_raise_other _ _ (by simp only [Reg.LANE_BIND, Reg.HMG_EVT]; omega)),
    Dev.shadowOf_congr (Dev.rd_raise_other _ _ (by simp only [Reg.LANE_BIND, Reg.LANE_STAT]; omega)),
    Dev.shadowOf_set _ (by simp) (by simp) (by simp), Dev.shadowOf_set _ (by simp) (by simp) (by simp),
    Dev.shadowOf_set _ (by simp) (by simp) (by simp)]

theorem Dev.toSpare_free {m : Mig} {p : Nat} {ps : List Nat} (hf : d.hearthsIn stFree = p :: ps) : d.toSpare n h m =
    (d.takeSpare n p h).updLane n (fun x => { x with
      mig := some { m with kind := .unplanned, dst := p, loaded := false, copying := false, live := false } }) := by
  have hp : d.pickSpare = (some p, d) := by
    unfold Dev.pickSpare
    rw [hf]
  unfold Dev.toSpare
  rw [hp]

/-- The primary of a running unguarded lane fails under full firmware. -/
theorem Dev.primaryFault_toSpare (hm : d.migr = true) (hs : d.shadowOf n = none) : d.primaryFault n h fault faultT true =
    ((d.migrationBegun n).markFrom n fault).2.toSpare n h (newMig .unplanned h h fault faultT ((d.migrationBegun n).markFrom n fault).1) := by
  have hmig : ((d.set (Reg.LANE_BIND_HVALID n) 0).set (Reg.LANE_BIND_HEARTH n) 0).migr = true := by
    rw [← hm]
    exact ((KeepsFirmware.set d 0 (by simp only [Reg.LANE_BIND]; omega)).trans
      (KeepsFirmware.set _ 0 (by simp only [Reg.LANE_BIND]; omega))).is rfl
  have hshadow : (((d.set (Reg.LANE_BIND_HVALID n) 0).set (Reg.LANE_BIND_HEARTH n) 0).migStart n 1).shadowOf n = none :=
    Dev.shadowOf_migrationBegun.trans hs
  unfold Dev.primaryFault Dev.migrationBegun
  dsimp only
  rw [if_neg (by decide), if_neg (by simp [hmig]), hshadow]

/-- A hearth that feeds a lane without migration, swap or shadow fails. -/
theorem Dev.laneFault_primary {ran : Bool} (hw : (d.lane n).swap = none) (hm : (d.lane n).mig = none) (hb : d.bound n = some h) :
    d.laneFault n h fault faultT ran = d.primaryFault n h fault faultT ran := by
  unfold Dev.laneFault
  dsimp only
  rw [if_neg (by simp [hw]), hm]
  exact if_pos hb

/-- The hearth that feeds a running lane without migration, swap or shadow fails under full firmware: the lowest FREE hearth takes the lane
over in an unplanned migration. -/
theorem Dev.laneFault_takenOver {p : Nat} {ps : List Nat} (hn : n < 96) (hh : h < d.part.hearths) (hw : (d.lane n).swap = none)
    (hm : (d.lane n).mig = none) (hb : d.bound n = some h) (hs : d.shadowOf n = none) (hg : d.migr = true)
    (hf : d.hearthsIn stFree = p :: ps) (hset : (d.hearth p).set = none) (hne : p ≠ h) :
    TakenOver d (d.laneFault n h fault faultT true) n p h ∧
      ∃ k, ((d.laneFault n h fault faultT true).lane n).mig = some (newMig .unplanned h p fault faultT k) := by
  obtain ⟨hp, -⟩ := Dev.mem_of_hearthsIn hf
  have hk : KeepsRoster d ((d.migrationBegun n).markFrom n fault).2 := (Dev.migrationBegun_keepsRoster hn).trans (.setLane _ _ _)
  rw [Dev.laneFault_primary hw hm hb, Dev.primaryFault_toSpare hg hs]
  generalize (d.migrationBegun n).markFrom n fault = r at hk
  rw [Dev.toSpare_free ((hk.hearthsIn stFree).trans hf)]
  have ht : TakenOver r.2 (r.2.takeSpare n p h) n p h :=
    Dev.takeSpare_takenOver hn (by rwa [hk.part]) (by rwa [hk.part]) (by rw [Dev.hearth_of_hearths hk.hearths, hset]) hne
  exact ⟨(ht.of_roster hk hh).updLane _, r.1, by rw [Dev.lane_updLane_same]; rfl⟩

/-- A hearth of a lane that is declared failed. -/
theorem Dev.declareFail_lane {cause : Nat} (hl : d.laneOf h = some n) (h2 : 2 ≤ d.hstate h) (h5 : d.hstate h ≤ 5) :
    d.declareFail h cause fault faultT = (d.declared h cause faultT).laneFault n h fault faultT (d.hearth h).running := by
  have hd : d.declare h cause faultT = (some (n, (d.hearth h).running), d.declared h cause faultT) := by
    unfold Dev.declare
    dsimp only
    rw [if_neg (by omega), hl]
    rfl
  unfold Dev.declareFail
  rw [hd]

theorem Dev.declareFail_unused {cause : Nat} (hs : d.hstate h < 2 ∨ 5 < d.hstate h) : d.declareFail h cause fault faultT = d := by
  have hd : d.declare h cause faultT = (none, d) := if_pos hs
  unfold Dev.declareFail
  rw [hd]

end

theorem failureMigratesToASpare : Claim.FailureMigratesToASpare := by
  intro d h cause fault faultT n p ps t
  refine ⟨Dev.declareFail_unused, fun h2 h5 hl hc hf => ?_, fun h3 h5 hn hl hb hr hm hw hs hg hf hset => ?_⟩
  · have hh : h < d.part.hearths := Dev.lt_hearths_of_hstate (st := d.hstate h) rfl (by omega)
    obtain ⟨hstate, hrun, hcause⟩ := Dev.declared_shows (faultT := faultT) hh hc
    rw [show t = d.declared h cause faultT from Dev.declareFail_free hl h2 h5]
    exact ⟨hstate, Dev.declared_laneOf _ _ hh, hrun, hcause, Dev.declared_rd64 _ _ hh hf, d.declared_lanes h cause faultT⟩
  · have h96 : n < 96 := lt_of_lt_of_le hn d.part.lanes_le
    have hh : h < d.part.hearths := Dev.lt_hearths_of_hstate (st := d.hstate h) rfl (by omega)
    obtain ⟨hp, hpf⟩ := Dev.mem_of_hearthsIn hf
    have hne : p ≠ h := fun e => by rw [e] at hpf; rw [hpf] at h3; exact absurd h3 (by decide)
    have hlanes := d.declared_lanes h cause faultT
    have hpart := d.declared_part h cause faultT
    have hbind : (d.declared h cause faultT).rd (Reg.LANE_BIND n) = d.rd (Reg.LANE_BIND n) :=
      Dev.rd_declared_lane _ _ _ _ (by simp only [Reg.LANE_BIND]; omega) (by simp only [Reg.LANE_BIND]; omega)
    have hfree := Dev.declared_hearthsIn_free cause faultT hh (fun e => by rw [e] at h3; exact absurd h3 (by decide))
    obtain ⟨⟨hbound, hmstate, hjoin, hlane, hset', hrun, hfail⟩, k, hk⟩ := Dev.laneFault_takenOver (fault := fault) (faultT := faultT) h96
      (by rwa [hpart]) (by rw [Dev.lane, hlanes]; exact hw) (by rw [Dev.lane, hlanes]; exact hm) ((Dev.bound_congr hbind).trans hb)
      ((Dev.shadowOf_congr hbind).trans hs) ((d.migr_declared h cause faultT).trans hg) (hfree.trans hf)
      (by rw [Dev.hearth_declared, Dev.hearth_failNoted_other _ _ _ _ hne, hset]) hne
    rw [show t = _ from (Dev.declareFail_lane hl (by omega) h5).trans (by rw [hr])]
    refine ⟨?_, ?_, hbound, hjoin, hlane, hmstate, ?_, _, hk, rfl, rfl, rfl, rfl, rfl, rfl⟩
    · rw [hfail, Dev.declared_hstate _ _ hh]
    · rw [hrun, Dev.hearth_declared, Dev.running_failNoted]
    · rw [hset', Dev.hearth_declared, Dev.set_failNoted]

end Sys2Proof.Machine
end


section
/-! The steps of a migration: the load, the splice without a match, the replay, the resync, the lost lock. -/

namespace Sys2Proof.Machine

/-! ## The load (R171, R234, R241) -/

theorem Dev.loadDamage_kept (d : Dev) (k : Nat) {dmg : Damage} (h : dmg ≠ .bothCopies) : (d.loadDamage k dmg).1 = false := by
  cases dmg with
  | intact => rfl
  | oneCopy => rfl
  | bothCopies => exact absurd rfl h

/-- A target whose image is loaded: it resumes from its set's checkpoint, or starts cold. -/
def Dev.targetLoaded (d : Dev) (n : Nat) (m : Mig) (slot : Nat) : Dev :=
  match d.tiArea m.dst with
  | none => d.coldTarget n m slot
  | some (_, sm) =>
    match d.pickCkpt n sm ((d.lane n).sampleAt m.ckT) with
    | none => d.coldTarget n m slot
    | some (k, c) => d.resumeTarget n m slot k c sm

section
variable {d : Dev} {n slot : Nat} {m : Mig}

theorem Dev.targetLoaded_noSet (h : d.tiArea m.dst = none) : d.targetLoaded n m slot = d.coldTarget n m slot := by
  unfold Dev.targetLoaded
  rw [h]

theorem Dev.targetLoaded_noCkpt {i : Nat} {sm : SetMem} (h : d.tiArea m.dst = some (i, sm))
    (hc : d.pickCkpt n sm ((d.lane n).sampleAt m.ckT) = none) : d.targetLoaded n m slot = d.coldTarget n m slot := by
  unfold Dev.targetLoaded
  rw [h]
  simp only [hc]

theorem Dev.targetLoaded_ckpt {i k : Nat} {sm : SetMem} {c : CkSlot} (h : d.tiArea m.dst = some (i, sm))
    (hc : d.pickCkpt n sm ((d.lane n).sampleAt m.ckT) = some (k, c)) : d.targetLoaded n m slot = d.resumeTarget n m slot k c sm := by
  unfold Dev.targetLoaded
  rw [h]
  simp only [hc]

end

section
variable {s : State} {n : Nat} {m : Mig} {dmg : Damage}

theorem goes_migrationLoadDone_none (hm : (s.dev.lane n).mig = none) : Goes (.migrationLoadDone n dmg) s s.dev :=
  goes_of_next rfl (by simp only [hm])

theorem goes_migrationLoadDone_stays (hm : (s.dev.lane n).mig = some m)
    (h : m.loaded = true ∨ m.copying = true ∨ (s.dev.lane n).halted = true) : Goes (.migrationLoadDone n dmg) s s.dev := by
  refine goes_of_next rfl ?_
  simp only [hm]
  exact if_pos (by simpa [or_assoc] using h)

theorem goes_migrationLoadDone_loaded (hm : (s.dev.lane n).mig = some m) (hl : m.loaded = false) (hc : m.copying = false)
    (hh : (s.dev.lane n).halted = false) (hd : dmg ≠ .bothCopies) : Goes (.migrationLoadDone n dmg) s
      ((s.dev.loadDamage (s.dev.laneSlot n) dmg).2.targetLoaded n m (s.dev.laneSlot n)) := by
  refine goes_of_next rfl ?_
  simp only [hm]
  rw [if_neg (by simp [hl, hc, hh]), if_neg (by simp [Dev.loadDamage_kept _ _ hd])]
  rfl

/-! ## The splice (R176) -/

theorem goes_spliceMatchTimeout_none (hm : (s.dev.lane n).mig = none) : Goes (.spliceMatchTimeout n) s s.dev :=
  goes_of_next rfl (by simp only [hm])

theorem goes_spliceMatchTimeout_stays (hm : (s.dev.lane n).mig = some m)
    (h : m.kind = .planned ∨ m.loaded = false ∨ m.spliced = true ∨ s.dev.now < m.fault + s.dev.get (Reg.LANE_DRAW_ACTIVE n) * 1000000) :
    Goes (.spliceMatchTimeout n) s s.dev := by
  refine goes_of_next rfl ?_
  simp only [hm]
  exact if_pos (by simpa [or_assoc] using h)

/-- A splice, of a resync as of an unplanned migration, that finds no match in time. -/
theorem goes_spliceMatchTimeout_missed (hm : (s.dev.lane n).mig = some m) (hk : m.kind ≠ .planned) (hl : m.loaded = true)
    (hs : m.spliced = false) (ht : m.fault + s.dev.get (Reg.LANE_DRAW_ACTIVE n) * 1000000 ≤ s.dev.now) :
    Goes (.spliceMatchTimeout n) s
      (((s.dev.setReacq n m.fault).updLane n (fun x => { x with floor := m.kLast })).endMig n 0x13 m.src m.dst) := by
  refine goes_of_next rfl ?_
  simp only [hm]
  rw [if_neg (by simp [hk, hl, hs, ht])]

end

/-! ## The replay (R171, R175, R176, R180) -/

section
variable {s : State} {n h r : Nat}

theorem goes_replayLivePoint_none (hx : s.dev.laneOf h = none ∨ (s.dev.hearth h).replay = none) : Goes (.replayLivePoint h) s s.dev := by
  refine goes_of_next rfl ?_
  rcases hx with hl | hr
  · simp only [hl]
  · cases hl : s.dev.laneOf h <;> simp only [hl, hr]

variable (hl : s.dev.laneOf h = some n) (hr : (s.dev.hearth h).replay = some r)
include hl hr

/-- A replay before the live point, or whose rest has no room yet, goes on. -/
theorem goes_replayLivePoint_goesOn
    (hx : r < (s.dev.lane n).bkNext ∨ 1024 < (s.dev.hearth h).fifo.length + (s.dev.replayRest n r).length) :
    Goes (.replayLivePoint h) s s.dev := by
  refine goes_of_next rfl ?_
  simp only [hl, hr]
  exact if_pos (by simpa using hx)

/-- What a hearth at the live point does for its lane. -/
def Dev.liveHearth (d : Dev) (n h : Nat) : Dev :=
  if (d.lane n).swap = some h then d.swapShadow n h
  else if d.shadowOf n = some h then
    ((d.setHstate h stShadow (some n)).set (Reg.LANE_BIND_GSTATE n) 2).raise (Reg.LANE_STAT n) 8
  else match (d.lane n).mig with
    | some m => if m.dst = h then d.targetLive n h m else d
    | none => d.setHstate h stPrimary (some n)

theorem goes_replayLivePoint_live (hb : (s.dev.lane n).bkNext ≤ r)
    (hf : (s.dev.hearth h).fifo.length + (s.dev.replayRest n r).length ≤ 1024) :
    Goes (.replayLivePoint h) s ((s.dev.goLive n h r).liveHearth n h) := by
  refine goes_of_next rfl ?_
  simp only [hl, hr]
  rw [if_neg (by simp [hb, hf])]
  rfl

end

section
variable {d : Dev} {n h : Nat}

theorem Dev.liveHearth_swap (hw : (d.lane n).swap = some h) : d.liveHearth n h = d.swapShadow n h := if_pos hw

variable (hw : (d.lane n).swap ≠ some h)
include hw

theorem Dev.liveHearth_shadow (hs : d.shadowOf n = some h) : d.liveHearth n h =
    ((d.setHstate h stShadow (some n)).set (Reg.LANE_BIND_GSTATE n) 2).raise (Reg.LANE_STAT n) 8 := (if_neg hw).trans (if_pos hs)

variable (hs : d.shadowOf n ≠ some h)
include hs

theorem Dev.liveHearth_primary (hm : (d.lane n).mig = none) : d.liveHearth n h = d.setHstate h stPrimary (some n) := by
  unfold Dev.liveHearth
  rw [if_neg hw, if_neg hs, hm]

theorem Dev.liveHearth_target {q : Mig} (hm : (d.lane n).mig = some q) (hq : q.dst = h) : d.liveHearth n h = d.targetLive n h q := by
  unfold Dev.liveHearth
  rw [if_neg hw, if_neg hs, hm]
  exact if_pos hq

end

/-! ## A resync without an answer, and a lock that fell (R177, R228, R511) -/

section
variable {s : State} {n : Nat}

theorem goes_resyncAnswerTimeout_none (hx : (s.dev.lane n).resync = none ∨ s.dev.bound n = none) :
    Goes (.resyncAnswerTimeout n) s s.dev := by
  refine goes_of_next rfl ?_
  rcases hx with hr | hb
  · simp only [hr]
  · cases hr : (s.dev.lane n).resync <;> simp only [hr, hb]

theorem goes_resyncAnswerTimeout_resumes {r h : Nat} (hr : (s.dev.lane n).resync = some r) (hb : s.dev.bound n = some h) :
    Goes (.resyncAnswerTimeout n) s (s.dev.resyncResume n h) :=
  goes_of_next rfl (by simp only [hr, hb])

theorem goes_laneSyncLost_keeps (h : ¬((s.dev.lane n).lockFell ≠ 0 ∧ (s.dev.lane n).lockFell - 1 + 1000000000 ≤ s.dev.now)) :
    Goes (.laneSyncLost n) s s.dev := goes_of_next rfl (if_neg h)

end

end Sys2Proof.Machine
end


section
/-! The cutover of a planned migration, the claim on a migration's steps, and the obligation on failures and migrations. -/

namespace Sys2Proof.Machine

/-! ## What a binding depends on (R155) -/

/-- A change that leaves the part, a lane's LANE_BIND and a hearth's HST_STAT. -/
structure KeepsBinding (n k : Nat) (d t : Dev) : Prop where
  part : t.part = d.part
  bind : t.rd (Reg.LANE_BIND n) = d.rd (Reg.LANE_BIND n)
  stat : t.rd (Reg.HST_STAT k) = d.rd (Reg.HST_STAT k)

namespace KeepsBinding
variable {n k : Nat} {d t u : Dev}

theorem refl (n k : Nat) (d : Dev) : KeepsBinding n k d d := ⟨rfl, rfl, rfl⟩

theorem trans (h : KeepsBinding n k d t) (g : KeepsBinding n k t u) : KeepsBinding n k d u :=
  ⟨g.part.trans h.part, g.bind.trans h.bind, g.stat.trans h.stat⟩

theorem ite {p : Prop} [Decidable p] (h : KeepsBinding n k d t) (g : KeepsBinding n k d u) : KeepsBinding n k d (if p then t else u) := by
  split
  · exact h
  · exact g

theorem bound (h : KeepsBinding n k d t) (hb : Bound d n k) : Bound t n k := hb.kept h.part h.bind h.stat

theorem of_units (h : KeepsUnits d t) (hn : n < 96) (hk : k < 104) : KeepsBinding n k d t :=
  ⟨h.part, h.rd _ (by simp only [Reg.LANE_BIND]; omega) (by simp only [Reg.LANE_BIND]; omega),
    h.rd _ (by simp only [Reg.HST_STAT]; omega) (by simp only [Reg.HST_STAT]; omega)⟩

section
variable (n k d)

theorem setLane (m : Nat) (x : Lane) : KeepsBinding n k d (d.setLane m x) := ⟨rfl, rfl, rfl⟩

theorem updLane (m : Nat) (f : Lane → Lane) : KeepsBinding n k d (d.updLane m f) := setLane n k d m _

theorem updHearth (h : Nat) (f : Hearth → Hearth) : KeepsBinding n k d (d.updHearth h f) := ⟨rfl, rfl, rfl⟩

theorem wr {a : Nat} (w : Word) (hb : Reg.LANE_BIND n ≠ a) (hs : Reg.HST_STAT k ≠ a) : KeepsBinding n k d (d.wr a w) :=
  ⟨rfl, Dev.rd_wr_other _ _ hb, Dev.rd_wr_other _ _ hs⟩

theorem raise {a : Nat} (b : Nat) (hb : Reg.LANE_BIND n ≠ a) (hs : Reg.HST_STAT k ≠ a) : KeepsBinding n k d (d.raise a b) :=
  ⟨by simp, Dev.rd_raise_other _ _ hb, Dev.rd_raise_other _ _ hs⟩

theorem sysRefill (m h : Nat) : KeepsBinding n k d (d.sysRefill m h) := .ite ((updHearth n k d _ _).trans (updLane n k _ _ _)) (refl n k d)

theorem raiseStat (b : Nat) : KeepsBinding n k d (d.raise (Reg.LANE_STAT n) b) :=
  raise n k d b (by simp only [Reg.LANE_BIND, Reg.LANE_STAT]; omega) (by simp only [Reg.HST_STAT, Reg.LANE_STAT]; omega)

variable (hn : n < 96) (hk : k < 104)
include hn hk

/-- A register of the lane's page that is not LANE_BIND. -/
theorem wrPage {a o : Nat} (w : Word) (ha : a = 0x100000 + o + n * 0x1000) (ho : o ≠ 8) (hlt : o < 0x1000) : KeepsBinding n k d (d.wr a w) :=
  wr n k d w (by simp only [Reg.LANE_BIND]; omega) (by simp only [Reg.HST_STAT]; omega)

theorem showCkpt : KeepsBinding n k d (d.showCkpt n) := by
  unfold Dev.showCkpt
  dsimp only
  split
  · exact (((wrPage n k d hn hk (o := 0x24) _ rfl (by decide) (by decide)).trans
      (wrPage n k _ hn hk (o := 0x24) _ rfl (by decide) (by decide))).trans
      (wrPage n k _ hn hk (o := 0x28) _ rfl (by decide) (by decide))).trans (wrPage n k _ hn hk (o := 0x2C) _ rfl (by decide) (by decide))
  · exact wrPage n k d hn hk (o := 0x24) _ rfl (by decide) (by decide)

theorem migRecord (status frm tgt : Nat) : KeepsBinding n k d (d.migRecord n status frm tgt) := by
  have high : ∀ (e : Dev) {a : Nat} (w : Word), 0x162000 ≤ a → KeepsBinding n k e (e.wr a w) := fun e a w ha =>
    .of_units ((KeepsUnits.refl e).wr w (.inr ha)) hn hk
  have hmig : ∀ (e : Dev) (w v : Word), KeepsBinding n k e (((e.wr Reg.HMG_MIGSTAT w).wr Reg.HMG_MIGCNT v).raise Reg.HMG_EVT 1) :=
    fun e w v => ((high e w (by decide)).trans (high _ v (by decide))).trans (.of_units ((KeepsUnits.refl _).raise 1 (by decide)) hn hk)
  have hend : ∀ (e : Dev) (p : Prop) [Decidable p] (sev det : Nat),
      KeepsBinding n k e ((if p then e.raise (Reg.LANE_STAT n) 6 else e).sootE sev 0x20 0x4001 det) := fun e p _ sev det =>
    (KeepsBinding.ite (raiseStat n k e 6) (refl n k e)).trans (.of_units ((KeepsUnits.refl _).sootE _ _ _ _) hn hk)
  have hlane : KeepsBinding n k d ((d.set (Reg.LANE_MIG_STATUS n) status).incMod (Reg.LANE_MIG_COUNT n) 1) :=
    (wrPage n k d hn hk (o := 0x34) _ rfl (by decide) (by decide)).trans (wrPage n k _ hn hk (o := 0x34) _ rfl (by decide) (by decide))
  unfold Dev.migRecord
  exact (hlane.trans (hmig _ _ _)).trans (hend _ _ _ _)

theorem dropHeld : KeepsBinding n k d (d.dropHeld n) := by
  have hdiscard : ∀ q, KeepsBinding n k d (d.discardMain n q) := fun q => by
    refine .trans ?_ (of_units (Dev.refreshAsh_keepsUnits _ n) hn hk)
    exact setLane n k d n _
  have hpause := fun q => (hdiscard q).trans (updLane n k (d.discardMain n q) n (fun x => { x with paused := false, holdKey := none }))
  exact .ite ((hpause _).trans (.of_units (KeepsWork.lossAll _ n none 1).units hn hk)) (hpause _)

end

end KeepsBinding

section
variable {d : Dev} {n k : Nat}

/-- MSTATE is no matter of a lane's binding. -/
theorem Bound.setMstate (hb : Bound d n k) (v : Nat) : Bound (d.set (Reg.LANE_BIND_MSTATE n) v) n k := by
  obtain ⟨h1, h2, h3⟩ := hb
  have hstat : (d.set (Reg.LANE_BIND_MSTATE n) v).rd (Reg.HST_STAT k) = d.rd (Reg.HST_STAT k) :=
    Dev.rd_set_other _ _ (by simp only [Reg.HST_STAT, Reg.LANE_BIND]; omega)
  refine ⟨?_, (Dev.hstate_congr (Dev.part_set _ _ _) hstat).trans h2, ?_⟩
  · rw [← h1]
    unfold Dev.bound Dev.is
    rw [Dev.get_set_apart _ _ (by simp) (by simp) (by simp), Dev.get_set_apart _ _ (by simp) (by simp) (by simp)]
  · rw [← h3]
    unfold Dev.laneOf Dev.is Dev.get
    rw [hstat]

/-- The end of a migration leaves the lane where it is bound, and MSTATE reads 0. -/
theorem Bound.endMig (hb : Bound d n k) (status frm tgt : Nat) (hn : n < 96) (hk : k < 104) :
    Bound (d.endMig n status frm tgt) n k ∧ (d.endMig n status frm tgt).get (Reg.LANE_BIND_MSTATE n) = 0 := by
  have hvisit : ∀ b : Bool, KeepsBinding n k d (if b = true then d.visitEnd 0 else d) := fun b =>
    .ite (.of_units (d.visitEnd_keepsUnits 0) hn hk) (.refl n k d)
  have hidle : ∀ (b : Bool) (e : Dev), KeepsBinding n k e (if b = true then e else e.fwLaneIdle n) := fun b e =>
    .ite (.refl n k e) (.of_units (KeepsWork.fwLaneIdle e n).units hn hk)
  have hheld : ∀ (p : Prop) [Decidable p] (e : Dev), KeepsBinding n k e (if p then e.dropHeld n else e) := fun p _ e =>
    .ite (.dropHeld n k e hn hk) (.refl n k e)
  have hend : ∀ {e t : Dev}, KeepsBinding n k d e → KeepsBinding n k (e.migOver n status frm tgt) t →
      Bound t n k ∧ t.get (Reg.LANE_BIND_MSTATE n) = 0 := fun {e t} h g => by
    have hrec := (h.trans (.migRecord n k e hn hk status frm tgt)).trans (.updLane n k _ n (fun x => { x with mig := none, resync := none }))
    refine ⟨g.bound ((hrec.bound hb).setMstate 0), ?_⟩
    unfold Dev.get
    rw [g.bind]
    exact (Dev.get_set_same _ 0 (by simp) (by simp)).trans (by simp)
  unfold Dev.endMig
  exact hend (hvisit _) ((hidle _ _).trans (hheld _ _))

end

/-! ## The cutover (R175) -/

section
variable {d : Dev} {n : Nat} {m : Mig}

/-- A hearth whose output queue is empty has nothing to hand over. -/
theorem Dev.flDrain_empty {h : Nat} (hq : (d.hearth h).flq = []) :
    d.flDrain h = d ∨ d.flDrain h = d.updHearth h (fun x => { x with flq := [] }) := by
  unfold Dev.flDrain
  dsimp only
  split
  · exact .inl rfl
  · refine .inr ?_
    rw [hq]
    split <;> rfl

/-- What the drain of an empty queue and a leaving hearth keep: the part, the lanes, and the words that a hearth holds for its lane. -/
structure KeepsLanesAndOwn (d t : Dev) : Prop where
  part : t.part = d.part
  lanes : t.lanes = d.lanes
  own : ∀ g, (t.hearth g).own = (d.hearth g).own

namespace KeepsLanesAndOwn
variable {t u : Dev}

theorem refl (d : Dev) : KeepsLanesAndOwn d d := ⟨rfl, rfl, fun _ => rfl⟩

theorem trans (h : KeepsLanesAndOwn d t) (k : KeepsLanesAndOwn t u) : KeepsLanesAndOwn d u :=
  ⟨k.part.trans h.part, k.lanes.trans h.lanes, fun g => (k.own g).trans (h.own g)⟩

theorem setHearth (d : Dev) (h : Nat) {x : Hearth} (hx : x.own = (d.hearth h).own) : KeepsLanesAndOwn d (d.setHearth h x) := by
  refine ⟨rfl, rfl, fun g => ?_⟩
  rw [Dev.hearth_setHearth]
  split
  · next hg => rw [hx, hg]
  · rfl

theorem updHearth (d : Dev) (h : Nat) {f : Hearth → Hearth} (hf : ∀ x, (f x).own = x.own) : KeepsLanesAndOwn d (d.updHearth h f) :=
  setHearth d h (hf _)

theorem flDrain {h : Nat} (hq : (d.hearth h).flq = []) : KeepsLanesAndOwn d (d.flDrain h) := by
  rcases Dev.flDrain_empty hq with he | he
  · rw [he]
    exact .refl d
  · rw [he]
    exact .updHearth d h fun _ => rfl

theorem of_event (h : EventStep d t) : KeepsLanesAndOwn d t := ⟨h.part, h.lanes, fun g => by rw [Dev.hearth_of_hearths h.hearths]⟩

theorem freeSet (d : Dev) (i : Nat) : KeepsLanesAndOwn d (d.freeSet i) := by
  have hput : ∀ x, KeepsLanesAndOwn d (d.putSet i x) := fun x => ⟨rfl, rfl, fun _ => rfl⟩
  unfold Dev.freeSet
  split
  · exact (hput none).trans (.of_event (.refreshAsh _ _))
  · exact .refl d

theorem freeHearthSet (d : Dev) (h : Nat) : KeepsLanesAndOwn d (d.freeHearthSet h) := by
  unfold Dev.freeHearthSet
  split
  · refine .trans ?_ (freeSet _ _)
    exact setHearth d h rfl
  · exact .refl d

theorem setHstate (d : Dev) (h st : Nat) (lane : Option Nat) : KeepsLanesAndOwn d (d.setHstate h st lane) :=
  .of_event (.setHstate d h st lane)

theorem killHearth (d : Dev) (h : Nat) : KeepsLanesAndOwn d (d.killHearth h) := by
  have hwithdraw : ∀ e : Dev, KeepsLanesAndOwn e (e.withdraw h) := fun e => ⟨rfl, rfl, fun _ => rfl⟩
  unfold Dev.killHearth Dev.updHearth
  refine .trans ?_ (hwithdraw _)
  exact setHearth d h rfl

theorem leave (d : Dev) (h st : Nat) : KeepsLanesAndOwn d (d.leave h st) :=
  ((killHearth d h).trans (freeHearthSet _ h)).trans (setHstate _ _ _ _)

end KeepsLanesAndOwn

theorem Dev.lane_updHearth (d : Dev) (h : Nat) (f : Hearth → Hearth) (n : Nat) : (d.updHearth h f).lane n = d.lane n := rfl

theorem Dev.mig_sysRefill (d : Dev) (k h : Nat) : ((d.sysRefill k h).lane n).mig = (d.lane n).mig := by
  unfold Dev.sysRefill
  split
  · unfold Dev.updLane
    rw [Dev.lane_setLane]
    split
    · next hk => rw [hk]; rfl
    · rfl
  · rfl

/-- A lane's LANE_BIND names a hearth as the one that feeds it. -/
def Dev.fedBy (d : Dev) (n h : Nat) : Dev := (d.set (Reg.LANE_BIND_HEARTH n) h).set (Reg.LANE_BIND_HVALID n) 1

theorem Dev.fedBy_keepsRoster (d : Dev) (h : Nat) (hn : n < 96) : KeepsRoster d (d.fedBy n h) :=
  (KeepsRoster.setBind d h rfl hn).trans (.setBind _ 1 rfl hn)

theorem Dev.lane_fedBy (d : Dev) (n h : Nat) : (d.fedBy n h).lane n = d.lane n := by
  unfold Dev.fedBy
  rw [Dev.lane_set, Dev.lane_set]

theorem Dev.fedBy_bound {h : Nat} (hn : n < 96) (hh : h < d.part.hearths) (hp : d.hstate h = stPrimary) (hl : d.laneOf h = some n) :
    Bound (d.fedBy n h) n h := by
  have hle := d.part.hearths_le
  have hk := d.fedBy_keepsRoster h hn
  refine ⟨Dev.bound_of_fields ?_ ?_, (hk.hstate hh).trans hp, (hk.laneOf hh).trans hl⟩
  · rw [Dev.fedBy, Dev.get_set_same _ _ (by simp) (by simp)]
    rfl
  · rw [Dev.fedBy, Dev.get_set_apart _ _ (by simp) (by simp) (by simp), Dev.get_set_same _ _ (by simp) (by simp)]
    exact Nat.mod_eq_of_lt (by norm_num; omega)

/-- Without words of its own a hearth brings nothing into the lane's window. -/
theorem Dev.adopt_noWords {h : Nat} (hn : n < 96) (ho : (d.hearth h).own = []) :
    ∃ f, d.adopt n h = ((d.fedBy n h).updHearth h f).sysRefill n h := by
  have hown : ((d.fedBy n h).hearth h).own = [] := by rw [Dev.hearth_of_hearths (d.fedBy_keepsRoster h hn).hearths, ho]
  have heq : ∀ e : Dev, (e.hearth h).own = [] → (e.hearth h).own.foldl (fun d c => d.lrbWrite n c.1 c.2) e = e := fun e he => by
    rw [he, List.foldl_nil]
  unfold Dev.adopt
  dsimp only
  rw [show (d.set (Reg.LANE_BIND_HEARTH n) h).set (Reg.LANE_BIND_HVALID n) 1 = d.fedBy n h from rfl, heq _ hown]
  exact ⟨_, rfl⟩

/-- A PRIMARY hearth of the lane, without words of its own, feeds the lane from here on. -/
theorem Dev.adopt_shows {h : Nat} (hn : n < 96) (hh : h < d.part.hearths) (ho : (d.hearth h).own = []) (hp : d.hstate h = stPrimary)
    (hl : d.laneOf h = some n) : Bound (d.adopt n h) n h ∧ ((d.adopt n h).lane n).mig = (d.lane n).mig := by
  obtain ⟨f, hf⟩ := Dev.adopt_noWords hn ho
  rw [hf, Dev.mig_sysRefill, Dev.lane_updHearth, Dev.lane_fedBy]
  exact ⟨((KeepsBinding.updHearth n h _ h f).trans (.sysRefill n h _ n h)).bound (Dev.fedBy_bound hn hh hp hl), rfl⟩

/-- The source of a planned migration has gone free, and the target feeds the lane. -/
def Dev.cutTaken (d : Dev) (n : Nat) (m : Mig) : Dev :=
  ((((d.flDrain m.src).leave m.src stFree).setHstate m.dst stPrimary (some n)).incMod (Reg.HST_LOAD_SERVED m.dst) 1).adopt n m.dst

theorem Dev.cutTaken_shows (hn : n < 96) (hd : m.dst < d.part.hearths) (hq : (d.hearth m.src).flq = []) (ho : (d.hearth m.dst).own = []) :
    Bound (d.cutTaken n m) n m.dst ∧ ((d.cutTaken n m).lane n).mig = (d.lane n).mig := by
  have hleft : KeepsLanesAndOwn d ((d.flDrain m.src).leave m.src stFree) := (KeepsLanesAndOwn.flDrain hq).trans (.leave _ _ _)
  have hset := KeepsLanesAndOwn.setHstate ((d.flDrain m.src).leave m.src stFree) m.dst stPrimary (some n)
  have hload : ∀ e : Dev, KeepsRoster e (e.incMod (Reg.HST_LOAD_SERVED m.dst) 1) := fun e =>
    ⟨rfl, rfl, fun g _ => Dev.rd_set_other _ _ (by simp only [Reg.HST_STAT, Reg.HST_LOAD]; omega)⟩
  unfold Dev.cutTaken
  generalize (d.flDrain m.src).leave m.src stFree = e at hleft hset ⊢
  have hde : m.dst < e.part.hearths := by rwa [hleft.part]
  have hdt : m.dst < (e.setHstate m.dst stPrimary (some n)).part.hearths := by rwa [Dev.part_setHstate]
  have hk := hload (e.setHstate m.dst stPrimary (some n))
  obtain ⟨hb, hm⟩ := Dev.adopt_shows (d := (e.setHstate m.dst stPrimary (some n)).incMod (Reg.HST_LOAD_SERVED m.dst) 1) (h := m.dst) hn
    (by rwa [hk.part]) (by rw [Dev.hearth_of_hearths hk.hearths, hset.own, hleft.own, ho])
    ((hk.hstate hdt).trans (Dev.hstate_setHstate e hde (by decide) _)) ((hk.laneOf hdt).trans (Dev.laneOf_setHstate _ hde (by omega)))
  refine ⟨hb, hm.trans ?_⟩
  have hlane : ((e.setHstate m.dst stPrimary (some n)).incMod (Reg.HST_LOAD_SERVED m.dst) 1).lanes = d.lanes := by
    rw [Dev.incMod, Dev.lanes_set, hset.lanes, hleft.lanes]
  rw [Dev.lane, hlane]
  rfl

theorem Dev.lanes_showCkpt (d : Dev) (n : Nat) : (d.showCkpt n).lanes = d.lanes := by
  unfold Dev.showCkpt
  dsimp only
  split <;> rfl

/-- What follows once the target feeds the lane: its units ahead of the source, the crossfade, and the end of the migration. -/
def Dev.cutSpliced (d : Dev) (n : Nat) (m : Mig) : Dev :=
  let d := (((d.lane n).mig.map (·.ahead)).getD []).foldl (fun d u => d.takeAhead n u) d
  let d := ((d.cutFade n).raise (Reg.LANE_STAT n) 5).showCkpt n
  d.endMig n (if (d.lane n).mig.any (·.diverged) then 2 else 6) m.src m.dst

/-- With no unit ahead and none to crossfade, the migration ends at once. -/
theorem Dev.cutSpliced_atOnce (hm : (d.lane n).mig = some m) (ha : m.ahead = []) (hf : m.fade = []) : d.cutSpliced n m =
    ((d.raise (Reg.LANE_STAT n) 5).showCkpt n).endMig n (if m.diverged = true then 2 else 6) m.src m.dst := by
  have hfade : d.cutFade n = d := by
    unfold Dev.cutFade
    simp [hm, hf]
  have hlane : ((d.raise (Reg.LANE_STAT n) 5).showCkpt n).lane n = d.lane n := by
    rw [Dev.lane, Dev.lanes_showCkpt, Dev.lanes_raise]
    rfl
  unfold Dev.cutSpliced
  simp [hm, ha, hfade, hlane]

end

section
variable {s : State} {n : Nat} {m : Mig}

theorem goes_plannedCutover_none (hm : (s.dev.lane n).mig = none) : Goes (.plannedCutover n) s s.dev :=
  goes_of_next rfl (by simp only [hm])

theorem goes_plannedCutover_stays (hm : (s.dev.lane n).mig = some m)
    (h : m.kind ≠ .planned ∨ m.live = false ∨ (s.dev.lane n).halted = true) : Goes (.plannedCutover n) s s.dev := by
  refine goes_of_next rfl ?_
  simp only [hm]
  exact if_pos (by simpa [or_assoc] using h)

theorem goes_plannedCutover_cuts (hm : (s.dev.lane n).mig = some m) (hk : m.kind = .planned) (hl : m.live = true)
    (hh : (s.dev.lane n).halted = false) (ht : m.test = false) : Goes (.plannedCutover n) s ((s.dev.cutTaken n m).cutSpliced n m) := by
  refine goes_of_next rfl ?_
  simp only [hm]
  rw [if_neg (by simp [hk, hl, hh]), if_neg (by simp [ht])]
  rfl

theorem completes_plannedCutover (hm : (s.dev.lane n).mig = some m) (hk : m.kind = .planned) (hl : m.live = true)
    (hh : (s.dev.lane n).halted = false) (ht : m.test = false) (ha : m.ahead = []) (hf : m.fade = [])
    (hq : (s.dev.hearth m.src).flq = []) (ho : (s.dev.hearth m.dst).own = []) (hn : n < s.dev.part.lanes) (hd : m.dst < s.dev.part.hearths) :
    Completes (.plannedCutover n) s (fun _ t => t.bound n = some m.dst ∧ t.hstate m.dst = stPrimary ∧
      t.get (Reg.LANE_MIG_STATUS n) = (if m.diverged = true then 2 else 6) ∧ (t.lane n).mig = none ∧ t.get (Reg.LANE_BIND_MSTATE n) = 0) := by
  have h96 : n < 96 := lt_of_lt_of_le hn s.dev.part.lanes_le
  have h104 : m.dst < 104 := lt_of_lt_of_le hd s.dev.part.hearths_le
  have hst : (if m.diverged = true then 2 else 6) < 256 := by split <;> decide
  obtain ⟨hb, hc⟩ := Dev.cutTaken_shows h96 hd hq ho
  have hkeep := (KeepsBinding.raiseStat n m.dst (s.dev.cutTaken n m) 5).trans (.showCkpt n m.dst _ h96 h104)
  obtain ⟨⟨hbound, hprimary, -⟩, hms⟩ := (hkeep.bound hb).endMig (if m.diverged = true then 2 else 6) m.src m.dst h96 h104
  obtain ⟨hnone, -, hstatus⟩ := Dev.endMig_shows (d := ((s.dev.cutTaken n m).raise (Reg.LANE_STAT n) 5).showCkpt n) (frm := m.src)
    (tgt := m.dst) h96 hst
  have hgo := goes_plannedCutover_cuts hm hk hl hh ht
  rw [Dev.cutSpliced_atOnce (hc.trans hm) ha hf] at hgo
  exact completes_of_goes hgo ⟨hbound, hprimary, hstatus, hnone, hms⟩

end

theorem migrationTakesItsSteps : Claim.MigrationTakesItsSteps := by
  intro s n h r m dmg d slot load cut miss e g
  refine ⟨fun hm => ⟨goes_migrationLoadDone_none hm, goes_plannedCutover_none hm, goes_spliceMatchTimeout_none hm⟩,
    fun hm => ⟨goes_migrationLoadDone_stays hm,
      fun hl hc hh => ⟨fun hd => ?_, fun hd ht => ?_, fun i sm hd ht => ⟨fun hp => ?_, fun k c hp => ?_⟩⟩,
      goes_plannedCutover_stays hm, completes_plannedCutover hm, fun hx => ?_,
      fun hk hl hs => ⟨fun ht => ?_, goes_spliceMatchTimeout_missed hm hk hl hs⟩⟩,
    goes_replayLivePoint_none, fun hl hr => ⟨goes_replayLivePoint_goesOn hl hr, fun hb hf => ?_⟩, goes_resyncAnswerTimeout_none,
    goes_resyncAnswerTimeout_resumes, fun ⟨h0, ht⟩ => goes_laneSyncLost_fell h0 ht, goes_laneSyncLost_keeps⟩
  · subst hd
    exact goes_migrationLoadDone_lost hm hl hc hh rfl
  · have hgo := goes_migrationLoadDone_loaded hm hl hc hh hd
    rwa [Dev.targetLoaded_noSet ht] at hgo
  · have hgo := goes_migrationLoadDone_loaded hm hl hc hh hd
    rwa [Dev.targetLoaded_noCkpt ht hp] at hgo
  · have hgo := goes_migrationLoadDone_loaded hm hl hc hh hd
    rwa [Dev.targetLoaded_ckpt ht hp] at hgo
  · exact goes_spliceMatchTimeout_stays hm (hx.imp_right (Or.imp_right .inl))
  · exact goes_spliceMatchTimeout_stays hm (.inr (.inr (.inr ht)))
  · have hgo := goes_replayLivePoint_live hl hr hb hf
    refine ⟨fun hw => ?_, fun hw hs => ?_, fun hw hs hm => ?_, fun q hw hs hm hq => ?_⟩
    · rwa [Dev.liveHearth_swap hw] at hgo
    · rwa [Dev.liveHearth_shadow hw hs] at hgo
    · rwa [Dev.liveHearth_primary hw hs hm] at hgo
    · rwa [Dev.liveHearth_target hw hs hm hq] at hgo

/-- Settles O40: a failure by what its declaration leaves and the spare's takeover; the steps of a migration one lemma each. That NOMATCH ends
the migration while its target goes on replaying (log 47) and the source of the soot entry 0x4007 (log 49) are the model's choices. -/
theorem migrationMovesALane : Obligations.MigrationMovesALane := ⟨failureMigratesToASpare, migrationTakesItsSteps⟩

end Sys2Proof.Machine
end

section
/-! The words of the stoker's instructions: the fields of a word, and what it spells. -/

namespace Sys2Proof.Machine

/-! ## The fields of a word (R194) -/

/-- Two words side by side, as a number. -/
theorem toNat_append_add {m n : Nat} (x : BitVec m) (y : BitVec n) : (x ++ y).toNat = x.toNat * 2 ^ n + y.toNat := by
  rw [BitVec.toNat_append, ← Nat.shiftLeft_add_eq_or_of_lt y.isLt, Nat.shiftLeft_eq]

section
variable (op : BitVec 6) (p : BitVec 2)

theorem wordOf_toNat (b : BitVec 24) : (wordOf op p b).toNat = (op.toNat * 2 ^ 2 + p.toNat) * 2 ^ 24 + b.toNat := by
  unfold wordOf
  rw [toNat_append_add, toNat_append_add]

@[simp] theorem wOp_wordOf (b : BitVec 24) : wOp (wordOf op p b) = op.toNat := by
  rw [wOp, BitVec.extractLsb'_toNat, wordOf_toNat, Nat.shiftRight_eq_div_pow]
  omega

@[simp] theorem wPred_wordOf (b : BitVec 24) : wPred (wordOf op p b) = p := by
  apply BitVec.eq_of_toNat_eq
  rw [wPred, BitVec.extractLsb'_toNat, wordOf_toNat, Nat.shiftRight_eq_div_pow]
  omega

/-- A field below the predicate, from the 24 bits that hold it. -/
theorem wordOf_field (b : BitVec 24) {k n : Nat} {v : BitVec n} (hk : k + n ≤ 24) (hv : b.toNat / 2 ^ k % 2 ^ n = v.toNat) :
    (wordOf op p b).extractLsb' k n = v := by
  apply BitVec.eq_of_toNat_eq
  have hsplit : 2 ^ 24 = 2 ^ k * (2 ^ n * 2 ^ (24 - (k + n))) := by rw [← pow_add, ← pow_add]; congr 1; omega
  rw [BitVec.extractLsb'_toNat, wordOf_toNat, Nat.shiftRight_eq_div_pow, ← hv, hsplit, Nat.mul_left_comm,
    Nat.mul_add_div (by positivity), Nat.mul_left_comm, Nat.mul_add_mod]

/-! ### Each format's fields -/

variable (a b c d : BitVec 4) (i : BitVec 16) (o : BitVec 20) (t : BitVec 12)

theorem fReg_toNat : (fReg a b c d).toNat = a.toNat * 2 ^ 20 + b.toNat * 2 ^ 16 + c.toNat * 2 ^ 12 + d.toNat * 2 ^ 8 := by
  simp only [fReg, toNat_append_add, BitVec.toNat_ofNat]; omega

theorem fImm_toNat : (fImm a b i).toNat = a.toNat * 2 ^ 20 + b.toNat * 2 ^ 16 + i.toNat := by
  simp only [fImm, toNat_append_add]; omega

theorem fBr_toNat : (fBr a o).toNat = a.toNat * 2 ^ 20 + o.toNat := toNat_append_add a o

theorem fHob_toNat : (fHob a b c t).toNat = a.toNat * 2 ^ 20 + b.toNat * 2 ^ 16 + c.toNat * 2 ^ 12 + t.toNat := by
  simp only [fHob, toNat_append_add]; omega

@[simp] theorem wA_fReg : wA (wordOf op p (fReg a b c d)) = a := wordOf_field _ _ _ (by decide) (by rw [fReg_toNat]; omega)
@[simp] theorem wB_fReg : wB (wordOf op p (fReg a b c d)) = b := wordOf_field _ _ _ (by decide) (by rw [fReg_toNat]; omega)
@[simp] theorem wC_fReg : wC (wordOf op p (fReg a b c d)) = c := wordOf_field _ _ _ (by decide) (by rw [fReg_toNat]; omega)
@[simp] theorem wD_fReg : wD (wordOf op p (fReg a b c d)) = d := wordOf_field _ _ _ (by decide) (by rw [fReg_toNat]; omega)
@[simp] theorem wA_fImm : wA (wordOf op p (fImm a b i)) = a := wordOf_field _ _ _ (by decide) (by rw [fImm_toNat]; omega)
@[simp] theorem wB_fImm : wB (wordOf op p (fImm a b i)) = b := wordOf_field _ _ _ (by decide) (by rw [fImm_toNat]; omega)
@[simp] theorem wImm_fImm : wImm (wordOf op p (fImm a b i)) = i := wordOf_field _ _ _ (by decide) (by rw [fImm_toNat]; omega)
@[simp] theorem wA_fBr : wA (wordOf op p (fBr a o)) = a := wordOf_field _ _ _ (by decide) (by rw [fBr_toNat]; omega)
@[simp] theorem wOff_fBr : wOff (wordOf op p (fBr a o)) = o := wordOf_field _ _ _ (by decide) (by rw [fBr_toNat]; omega)
@[simp] theorem wA_fHob : wA (wordOf op p (fHob a b c t)) = a := wordOf_field _ _ _ (by decide) (by rw [fHob_toNat]; omega)
@[simp] theorem wB_fHob : wB (wordOf op p (fHob a b c t)) = b := wordOf_field _ _ _ (by decide) (by rw [fHob_toNat]; omega)
@[simp] theorem wC_fHob : wC (wordOf op p (fHob a b c t)) = c := wordOf_field _ _ _ (by decide) (by rw [fHob_toNat]; omega)
@[simp] theorem wImm12_fHob : wImm12 (wordOf op p (fHob a b c t)) = t := wordOf_field _ _ _ (by decide) (by rw [fHob_toNat]; omega)

/-- The amount of a shift in its IMM form. -/
@[simp] theorem amount_fImm (n : BitVec 5) : (wordOf op p (fImm a b (0#11 ++ n))).extractLsb' 0 5 = n :=
  wordOf_field _ _ _ (by decide) (by simp only [fImm_toNat, toNat_append_add, BitVec.toNat_ofNat]; omega)

/-- The predicate a request writes. -/
@[simp] theorem pd_fImm (q : BitVec 2) : (wordOf op p (fImm a b (q ++ 0#14))).extractLsb' 14 2 = q :=
  wordOf_field _ _ _ (by decide) (by simp only [fImm_toNat, toNat_append_add, BitVec.toNat_ofNat]; omega)

end

/-! ## What a word spells (R195) -/

section
variable (p : BitVec 2)

theorem read_encode_pset (pd ps : BitVec 2) (cond : BitVec 4) (op : BitVec 2) :
    Yil.read ((Yil.pset pd ps cond op).encode p) = some (.pset pd ps cond op) := by
  have hn : (pd ++ ps ++ 0#8 ++ cond ++ op ++ 0#6 : BitVec 24).toNat =
      pd.toNat * 2 ^ 22 + ps.toNat * 2 ^ 20 + cond.toNat * 2 ^ 8 + op.toNat * 2 ^ 6 := by
    simp only [toNat_append_add, BitVec.toNat_ofNat]; omega
  have h22 := wordOf_field 0x0E p _ (k := 22) (v := pd) (by decide) (by rw [hn]; omega)
  have h20 := wordOf_field 0x0E p _ (k := 20) (v := ps) (by decide) (by rw [hn]; omega)
  have h8 := wordOf_field 0x0E p _ (k := 8) (v := cond) (by decide) (by rw [hn]; omega)
  have h6 := wordOf_field 0x0E p _ (k := 6) (v := op) (by decide) (by rw [hn]; omega)
  simp only [Yil.encode, Yil.read, wOp_wordOf, wD, h22, h20, h8, h6]
  rfl

theorem read_encode_mac (fn : BitVec 4) (x : BitVec 1) (ra rb : BitVec 4) :
    Yil.read ((Yil.mac fn x ra rb).encode p) = some (.mac fn x ra rb) := by
  have hn : (0#3 ++ x ++ ra ++ rb ++ fn ++ 0#8 : BitVec 24).toNat =
      x.toNat * 2 ^ 20 + ra.toNat * 2 ^ 16 + rb.toNat * 2 ^ 12 + fn.toNat * 2 ^ 8 := by
    simp only [toNat_append_add, BitVec.toNat_ofNat]; omega
  have h20 := wordOf_field 0x0F p _ (k := 20) (v := x) (by decide) (by rw [hn]; omega)
  have h16 := wordOf_field 0x0F p _ (k := 16) (v := ra) (by decide) (by rw [hn]; omega)
  have h12 := wordOf_field 0x0F p _ (k := 12) (v := rb) (by decide) (by rw [hn]; omega)
  have h8 := wordOf_field 0x0F p _ (k := 8) (v := fn) (by decide) (by rw [hn]; omega)
  simp only [Yil.encode, Yil.read, wOp_wordOf, wB, wC, wD, h20, h16, h12, h8]
  rfl

theorem read_encode_sat (rd : BitVec 4) (x : BitVec 1) (sh : BitVec 5) (mode : BitVec 3) :
    Yil.read ((Yil.sat rd x sh mode).encode p) = some (.sat rd x sh mode) := by
  have hn : (rd ++ 0#3 ++ x ++ 0#8 ++ sh ++ mode : BitVec 24).toNat =
      rd.toNat * 2 ^ 20 + x.toNat * 2 ^ 16 + sh.toNat * 2 ^ 3 + mode.toNat := by
    simp only [toNat_append_add, BitVec.toNat_ofNat]; omega
  have h20 := wordOf_field 0x10 p _ (k := 20) (v := rd) (by decide) (by rw [hn]; omega)
  have h16 := wordOf_field 0x10 p _ (k := 16) (v := x) (by decide) (by rw [hn]; omega)
  have h3 := wordOf_field 0x10 p _ (k := 3) (v := sh) (by decide) (by rw [hn]; omega)
  have h0 := wordOf_field 0x10 p _ (k := 0) (v := mode) (by decide) (by rw [hn]; omega)
  simp only [Yil.encode, Yil.read, wOp_wordOf, wA, h20, h16, h3, h0]
  rfl

/-- An operation with both operand forms, by its opcode and its form. -/
theorem read_encode_alu (op : AluOp) (rd ra : BitVec 4) (o : Op2) : Yil.read ((Yil.alu op rd ra o).encode p) = some (.alu op rd ra o) := by
  cases op <;> cases o <;> simp [Yil.encode, Yil.read, AluOp.code]

theorem read_encode_shift (op : ShiftOp) (rd ra : BitVec 4) (o : ShOp) :
    Yil.read ((Yil.shift op rd ra o).encode p) = some (.shift op rd ra o) := by
  cases op <;> cases o <;> simp [Yil.encode, Yil.read, ShiftOp.code]

/-- A word's opcode and fields spell the instruction it was made of, legal or not. -/
theorem read_encode (y : Yil) : Yil.read (y.encode p) = some y := by
  cases y with
  | alu op rd ra o => exact read_encode_alu p op rd ra o
  | shift op rd ra o => exact read_encode_shift p op rd ra o
  | pset pd ps cond op => exact read_encode_pset p pd ps cond op
  | mac fn x ra rb => exact read_encode_mac p fn x ra rb
  | sat rd x sh mode => exact read_encode_sat p rd x sh mode
  | reg op rd ra rb => cases op <;> simp [Yil.encode, Yil.read, RegOp.code]
  | cmp ra o => cases o <;> simp [Yil.encode, Yil.read]
  | mem op r ra off => cases op <;> simp [Yil.encode, Yil.read, MemOp.code]
  | _ => simp [Yil.encode, Yil.read]

theorem wPred_encode (y : Yil) : wPred (y.encode p) = p := by
  cases y with
  | alu op rd ra o => cases o <;> exact wPred_wordOf _ _ _
  | shift op rd ra o => cases o <;> exact wPred_wordOf _ _ _
  | cmp ra o => cases o <;> exact wPred_wordOf _ _ _
  | _ => exact wPred_wordOf _ _ _

theorem decode_encode {y : Yil} (h : y.legal = true) : Yil.decode (y.encode p) = some (p, y) := by
  simp [Yil.decode, read_encode, wPred_encode, h]

end

theorem encode_of_decode {w : Word} {p : BitVec 2} {y : Yil} (h : Yil.decode w = some (p, y)) : y.encode p = w ∧ y.legal = true := by
  unfold Yil.decode at h
  split at h
  · next z _ =>
    split at h
    · next hz =>
      obtain ⟨hl, he⟩ := Bool.and_eq_true_iff.mp hz
      cases h
      exact ⟨beq_iff_eq.mp he, hl⟩
    · cases h
  · cases h

/-- Settles O5: an instruction is read back field by field, format by format; a word that is read is compared with the word of what
it spells. -/
theorem yilWordsRoundTrip : Obligations.YilWordsRoundTrip :=
  ⟨fun p _ h => decode_encode p h, fun _ _ _ h => encode_of_decode h⟩

/-- Settles O6: each word is that of the instruction the chapter spells, which is legal; the last two spell nothing. -/
theorem workedExampleWordsRead : Obligations.WorkedExampleWordsRead := by
  unfold Obligations.WorkedExampleWordsRead
  decide

end Sys2Proof.Machine
end

section
/-! The issue of an instruction: one rule for each way it can go, whatever the instruction is. -/

namespace Sys2Proof.Machine

/-- Every command that stands for an instruction issues that instruction. -/
theorem exec_of_yilOf {c : Instr} {i : Issue} {y : Yil} (h : yilOf c = some (i, y)) :
    ∃ f, ∀ s, exec c s = s.onDev (fun d => d.issue i y f) := by
  unfold yilOf at h
  split at h <;> cases h
  all_goals exact ⟨_, fun _ => rfl⟩

section
variable {d : Dev} {i : Issue} {y : Yil}

theorem atPc_iff : AtPc d i y = true ↔ d.canIssue i.hearth = true ∧ (d.hearth i.hearth).fetchWord = y.encode i.pred := by
  simp [AtPc]

theorem ready_iff : Ready d i y = true ↔ AtPc d i y = true ∧ i.fetch = .clean ∧ (d.hearth i.hearth).thr.pred i.pred = true := by
  simp [Ready, AtPc, and_assoc]

variable (f : Dev → Dev)

/-- An instruction whose predicate reads 0 retires (R196). -/
theorem Dev.issue_passed (ha : AtPc d i y = true) (hf : i.fetch = .clean) (hp : (d.hearth i.hearth).thr.pred i.pred = false) :
    d.issue i y f = d.retire i.hearth (d.hearth i.hearth).thr.next := by
  obtain ⟨hi, hw⟩ := atPc_iff.mp ha
  refine Eq.trans ?_ (d.thr_issued i.hearth id)
  simp [Dev.issue, Dev.eccThen, hi, hw, hf, hp, Dev.updHearth, Dev.issued]

/-- A field value that is not listed traps in place of the effect (R195). -/
theorem Dev.issue_illegal (hr : Ready d i y = true) (hl : y.legal = false) :
    d.issue i y f = (d.issued i.hearth).exception i.hearth 1 2 none := by
  obtain ⟨ha, hf, hp⟩ := ready_iff.mp hr
  obtain ⟨hi, hw⟩ := atPc_iff.mp ha
  simp [Dev.issue, Dev.eccThen, hi, hw, hf, hp, hl, Dev.updHearth, Dev.issued]

/-- A double-bit error at the fetch fails the hearth in place of the effect (R163). -/
theorem Dev.issue_double (ha : AtPc d i y = true) (hf : i.fetch = .double) :
    d.issue i y f = d.declareFail i.hearth 1 d.now d.devtime := by
  obtain ⟨hi, hw⟩ := atPc_iff.mp ha
  simp [Dev.issue, Dev.eccThen, hi, hw, hf]

end

section
variable {c : Instr} {s : State} {i : Issue} {y : Yil} {f : Dev → Dev} {t : Dev}

/-- An instruction that is ready and legal does what its meaning does with the device as its issue leaves it. -/
theorem goes_issue (hx : exec c s = s.onDev (fun d => d.issue i y f)) (hl : y.legal = true) (hr : Ready s.dev i y = true)
    (ht : f (s.dev.issued i.hearth) = t) : Goes c s t :=
  goes_of_next hx ((Dev.issue_ready f hr hl).trans ht)

theorem goes_of_yilOf (h : yilOf c = some (i, y)) (ht : ∀ f, s.dev.issue i y f = t) : Goes c s t := by
  obtain ⟨f, hx⟩ := exec_of_yilOf h
  exact goes_of_next (hx s) (ht f)

theorem retires_of_goes {h : Nat} {P : Thread → Thread → Prop} {u : Thread} (hg : Goes c s (s.dev.retire h u))
    (hp : P (s.dev.hearth h).thr u) : Retires c s h P := ⟨u, hg, hp⟩

end

/-- A command that stands for a sysrd of one address issues it when the operands give that address. -/
theorem Dev.sysrdOf_at {d : Dev} {only : Nat} {i : Issue} {rd ra : BitVec 4} {off : BitVec 16} (dmg : Damage)
    (ha : ((d.hearth i.hearth).thr.addr ra off).toNat = only) : d.sysrdOf only i rd ra off dmg =
    d.issue i (.sysrd rd ra off) (fun d => d.sysrdAt i.hearth rd ((d.hearth i.hearth).thr.addr ra off) dmg) :=
  if_neg (not_not.mpr ha)

/-- Settles O7: whatever the instruction, its issue passes it when its predicate reads 0; the two commands that name one address issue the
sysrd. -/
theorem falsePredicateChangesNothing : Obligations.FalsePredicateChangesNothing := by
  intro s c i y hf ha hp
  have pass : ∀ f, s.dev.issue i y f = s.dev.retire i.hearth (s.dev.hearth i.hearth).thr.next := fun f => Dev.issue_passed f ha hf hp
  refine ⟨fun hc => retires_of_goes (goes_of_yilOf hc pass) rfl, fun rd ra off dmg hy => ?_⟩
  subst hy
  exact ⟨fun hn => retires_of_goes (goes_of_next rfl ((Dev.sysrdOf_at _ hn).trans (pass _))) rfl,
    fun hn => retires_of_goes (goes_of_next rfl ((Dev.sysrdOf_at _ hn).trans (pass _))) rfl⟩

end Sys2Proof.Machine
end

section
/-! The arithmetic of the stoker: results and flags of the ALU instructions, predicates, accumulators and saturation. -/

namespace Sys2Proof.Machine

/-! ## Flags (R197, R200) -/

section
variable (t : Thread) (rd : BitVec 4) (w : Word)

theorem addOverflow_eq (a b : Word) :
    addOverflow a b = decide (a.toInt + b.toInt < -(2 ^ 31) ∨ 2 ^ 31 ≤ a.toInt + b.toInt) := by
  have h : addOverflow a b = a.saddOverflow b := (BitVec.saddOverflow_eq a b).symm
  rw [h, BitVec.saddOverflow, Bool.or_comm, Bool.decide_or]

theorem subOverflow_eq (a b : Word) :
    subOverflow a b = decide (a.toInt - b.toInt < -(2 ^ 31) ∨ 2 ^ 31 ≤ a.toInt - b.toInt) := by
  have h : subOverflow a b = a.ssubOverflow b := by
    rw [BitVec.ssubOverflow_eq, subOverflow]
    cases a.msb <;> cases b.msb <;> cases (a - b).msb <;> rfl
  rw [h, BitVec.ssubOverflow, Bool.or_comm, Bool.decide_or]

theorem sub_beq_zero (a b : Word) : (a - b == 0) = decide (a = b) := by
  rw [Bool.eq_iff_iff, beq_iff_eq, decide_eq_true_iff]
  exact sub_eq_zero

theorem beq_zero_eq_decide : (w == 0) = decide (w = 0) := by
  rw [Bool.eq_iff_iff, beq_iff_eq, decide_eq_true_iff]

@[simp] theorem Thread.reg_setNZ (r : BitVec 4) : (t.setNZ w).reg r = t.reg r := rfl
@[simp] theorem Thread.reg_setNZC (c : Bool) (r : BitVec 4) : (t.setNZC w c).reg r = t.reg r := rfl
@[simp] theorem Thread.reg_setNZCV (c v : Bool) (r : BitVec 4) : (t.setNZCV w c v).reg r = t.reg r := rfl

theorem Thread.reg_setReg_same : (t.setReg rd w).reg rd = w := by simp

theorem Thread.keeps_setReg {u : Thread} (hu : ∀ r, u.reg r = (t.setReg rd w).reg r) : KeepsRegsBut rd t u := by
  intro r hr
  rw [hu, Thread.reg_setReg, if_neg hr]

end

/-- Settles O8: the four flags as the model computes them from signs and carries are those of the exact sum and difference. -/
theorem addSubCmpResultAndFlags : Obligations.AddSubCmpResultAndFlags := by
  intro s i rd ra o
  refine ⟨fun hr => ?_, fun hr => ?_, fun hr => ?_⟩
  · refine Retires.of_alu rfl rfl hr ⟨Thread.reg_setReg_same _ _ _, Thread.keeps_setReg _ _ _ (fun _ => rfl), ?_⟩
    simp only [Thread.doAlu, Thread.next, Thread.setNZCV, Thread.setReg, addCarry, addOverflow_eq, BitVec.msb_eq_toInt, beq_zero_eq_decide]
  · refine Retires.of_alu rfl rfl hr ⟨Thread.reg_setReg_same _ _ _, Thread.keeps_setReg _ _ _ (fun _ => rfl), ?_⟩
    simp only [Thread.doAlu, Thread.next, Thread.setNZCV, Thread.setReg, subCarry, subOverflow_eq, BitVec.msb_eq_toInt, sub_beq_zero]
  · refine Retires.of_alu rfl rfl hr ?_
    simp only [Thread.next, Thread.setNZCV, subCarry, subOverflow_eq, BitVec.msb_eq_toInt, sub_beq_zero]

/-! ## Logic, moves, products and shifts (R200) -/

/-- A result put into rd with N and Z from it, and nothing else. -/
theorem retires_setNZ {c : Instr} {s : State} {i : Issue} {rd : BitVec 4} (y : Yil) (w : Thread → Word) (W : Thread → Word → Prop)
    (hx : exec c s = s.onDev (fun d => d.alu i y (fun t => (t.setReg rd (w t)).setNZ (w t)))) (hl : y.legal = true)
    (hw : ∀ t, W t (w t)) (hr : Ready s.dev i y = true) : Retires c s i.hearth (fun t u =>
      W t (u.reg rd) ∧ KeepsRegsBut rd t u ∧
      u = { t with w := u.w, pc := t.pc + 4, n := decide ((u.reg rd).toInt < 0), z := decide (u.reg rd = 0) }) := by
  refine Retires.of_alu hx hl hr ?_
  generalize (s.dev.hearth i.hearth).thr = t
  have hrd : ((t.setReg rd (w t)).setNZ (w t)).next.reg rd = w t := Thread.reg_setReg_same _ _ _
  refine ⟨by rw [hrd]; exact hw t, Thread.keeps_setReg _ _ _ (fun _ => rfl), ?_⟩
  rw [hrd]
  simp only [Thread.setNZ, Thread.next, Thread.setReg, BitVec.msb_eq_toInt, beq_zero_eq_decide]

theorem leadingZeros_spec (w : Word) : leadingZeros w ≤ 32 ∧ (∀ k < leadingZeros w, w.getLsbD (31 - k) = false) ∧
    (leadingZeros w < 32 → w.getLsbD (31 - leadingZeros w) = true) := by
  unfold leadingZeros
  cases hf : (List.range 32).find? (fun i => w.getLsbD (31 - i)) with
  | none =>
    refine ⟨le_refl 32, fun k hk => ?_, fun h => absurd h (lt_irrefl 32)⟩
    simpa using List.find?_range_eq_none.mp hf k hk
  | some j =>
    obtain ⟨hj, hm, hlt⟩ := List.find?_range_eq_some.mp hf
    exact ⟨(List.mem_range.mp hm).le, fun k hk => by simpa using hlt k hk, fun _ => hj⟩

theorem min_toInt (a b : Word) : (if a.toInt ≤ b.toInt then a else b).toInt = min a.toInt b.toInt := by
  rw [min_def]
  exact apply_ite BitVec.toInt _ _ _

theorem max_toInt (a b : Word) : (if a.toInt ≤ b.toInt then b else a).toInt = max a.toInt b.toInt := by
  rw [max_def]
  exact apply_ite BitVec.toInt _ _ _

theorem logicAndMoveSetNegativeAndZero : Claim.LogicAndMoveSetNegativeAndZero := by
  intro s i rd ra rb o v R
  refine ⟨retires_setNZ (.alu .and rd ra o) _ (fun t w => w = t.reg ra &&& t.op2 o false) rfl rfl (fun _ => rfl),
    retires_setNZ (.alu .or rd ra o) _ (fun t w => w = t.reg ra ||| t.op2 o false) rfl rfl (fun _ => rfl),
    retires_setNZ (.alu .xor rd ra o) _ (fun t w => w = t.reg ra ^^^ t.op2 o false) rfl rfl (fun _ => rfl),
    retires_setNZ (.reg .mul rd ra rb) (fun t => t.reg ra * t.reg rb)
      (fun t w => w.toNat = (t.reg ra).toNat * (t.reg rb).toNat % 2 ^ 32) rfl rfl (fun _ => BitVec.toNat_mul _ _),
    retires_setNZ (.reg .min rd ra rb) (fun t => if (t.reg ra).toInt ≤ (t.reg rb).toInt then t.reg ra else t.reg rb)
      (fun t w => w.toInt = min (t.reg ra).toInt (t.reg rb).toInt) rfl rfl (fun _ => min_toInt _ _),
    retires_setNZ (.reg .max rd ra rb) (fun t => if (t.reg ra).toInt ≤ (t.reg rb).toInt then t.reg rb else t.reg ra)
      (fun t w => w.toInt = max (t.reg ra).toInt (t.reg rb).toInt) rfl rfl (fun _ => max_toInt _ _),
    retires_setNZ (.clz rd ra) (fun t => BitVec.ofNat 32 (leadingZeros (t.reg ra)))
      (fun t w => w.toNat ≤ 32 ∧ (∀ k < w.toNat, (t.reg ra).getLsbD (31 - k) = false) ∧
        (w.toNat < 32 → (t.reg ra).getLsbD (31 - w.toNat) = true)) rfl rfl (fun t => ?_),
    retires_setNZ (.movi rd v) (fun _ => v.setWidth 32) (fun _ w => w.toNat = v.toNat) rfl rfl
      (fun _ => BitVec.toNat_setWidth_of_le (by decide)),
    retires_setNZ (.movhi rd v) (fun t => v ++ (t.reg rd).setWidth 16)
      (fun t w => w.toNat = v.toNat * 2 ^ 16 + (t.reg rd).toNat % 2 ^ 16) rfl rfl (fun t => ?_)⟩
  · have hspec := leadingZeros_spec (t.reg ra)
    have hn : (BitVec.ofNat 32 (leadingZeros (t.reg ra))).toNat = leadingZeros (t.reg ra) := by
      rw [BitVec.toNat_ofNat]; exact Nat.mod_eq_of_lt (by omega)
    rw [hn]
    exact hspec
  · rw [toNat_append_add, BitVec.toNat_setWidth]

/-- A shift's result put into rd with N and Z from it and its carry, and nothing else. -/
theorem retires_shift {c : Instr} {s : State} {i : Issue} {op : ShiftOp} {rd ra : BitVec 4} {o : ShOp} (w : Thread → Nat → Word)
    (cy : Thread → Nat → Bool) (hx : exec c s = s.onDev (fun d => d.alu i (.shift op rd ra o) (fun t => t.doShift op rd ra o)))
    (hop : ∀ t : Thread, t.doShift op rd ra o = (t.setReg rd (w t (t.shAmount o))).setNZC (w t (t.shAmount o))
      (decide (t.shAmount o ≠ 0) && cy t (t.shAmount o)))
    (hr : Ready s.dev i (.shift op rd ra o) = true) : Retires c s i.hearth (fun t u =>
      let n := t.shAmount o
      n < 32 ∧ u.reg rd = w t n ∧ KeepsRegsBut rd t u ∧
      u = { t with
        w := u.w, pc := t.pc + 4, n := decide ((u.reg rd).toInt < 0), z := decide (u.reg rd = 0),
        c := if n = 0 then false else cy t n }) := by
  refine Retires.of_alu hx rfl hr ?_
  generalize (s.dev.hearth i.hearth).thr = t
  have hn : t.shAmount o < 32 := by
    cases o with
    | reg rb => exact BitVec.isLt _
    | imm k => exact BitVec.isLt k
  have hrd : (t.doShift op rd ra o).next.reg rd = w t (t.shAmount o) := by rw [hop]; exact Thread.reg_setReg_same _ _ _
  refine ⟨hn, hrd, Thread.keeps_setReg _ _ (w t (t.shAmount o)) (fun r => by rw [hop]; rfl), ?_⟩
  rw [hrd, hop]
  generalize t.shAmount o = n
  have hc : (decide (n ≠ 0) && cy t n) = if n = 0 then false else cy t n := by by_cases h : n = 0 <;> simp [h]
  simp only [Thread.setNZC, Thread.next, Thread.setReg, BitVec.msb_eq_toInt, beq_zero_eq_decide, hc]

theorem shiftsResultAndCarry : Claim.ShiftsResultAndCarry := by
  intro s i rd ra o R
  exact ⟨retires_shift (op := .shl) (fun t n => t.reg ra <<< n) (fun t n => (t.reg ra).getLsbD (32 - n)) rfl (fun _ => rfl),
    retires_shift (op := .shr) (fun t n => t.reg ra >>> n) (fun t n => (t.reg ra).getLsbD (n - 1)) rfl (fun _ => rfl),
    retires_shift (op := .sar) (fun t n => (t.reg ra).sshiftRight n) (fun t n => (t.reg ra).getLsbD (n - 1)) rfl (fun _ => rfl)⟩

/-- Settles O9: each instruction puts its result into rd, from which N and Z follow; the shifts differ in their result and carry alone. -/
theorem logicMovesShiftsAndProducts : Obligations.LogicMovesShiftsAndProducts := ⟨logicAndMoveSetNegativeAndZero, shiftsResultAndCarry⟩

/-! ## Predicates (R191, R201) -/

theorem Thread.pred_setPred (t : Thread) {pd : BitVec 2} (b : Bool) (hpd : pd ≠ 0) (p : BitVec 2) :
    (t.setPred pd b).pred p = if p = pd then b else t.pred p := by
  have h4 : ∀ q : BitVec 2, q = 0 ∨ q = 1 ∨ q = 2 ∨ q = 3 := by decide
  rcases h4 pd with rfl | rfl | rfl | rfl
  · exact absurd rfl hpd
  all_goals rcases h4 p with rfl | rfl | rfl | rfl <;> rfl

/-- A write of a predicate leaves everything else of the thread. -/
theorem Thread.setPred_frame (t : Thread) (pd : BitVec 2) (b : Bool) :
    t.setPred pd b = { t with p1 := (t.setPred pd b).p1, p2 := (t.setPred pd b).p2, p3 := (t.setPred pd b).p3 } := by
  unfold Thread.setPred
  split
  · rfl
  · split
    · rfl
    · split <;> rfl

/-- A predicate written by an instruction that does nothing else. -/
theorem retires_setPred {c : Instr} {s : State} {i : Issue} {y : Yil} {pd : BitVec 2} {b : Thread → Bool} (hpd : pd ≠ 0)
    (hx : exec c s = s.onDev (fun d => d.alu i y (fun t => t.setPred pd (b t)))) (hl : y.legal = true) (hr : Ready s.dev i y = true) :
    Retires c s i.hearth (fun t u => u.pred pd = b t ∧ (∀ p, p ≠ pd → u.pred p = t.pred p) ∧ u.pred 0 = true ∧
      u = { t with p1 := u.p1, p2 := u.p2, p3 := u.p3, pc := t.pc + 4 }) := by
  refine Retires.of_alu hx hl hr ?_
  generalize (s.dev.hearth i.hearth).thr = t
  have hp : ∀ p, (t.setPred pd (b t)).next.pred p = if p = pd then b t else t.pred p := t.pred_setPred (b t) hpd
  refine ⟨(hp pd).trans (if_pos rfl), fun p hne => (hp p).trans (if_neg hne), rfl, ?_⟩
  have hf := t.setPred_frame pd (b t)
  generalize t.setPred pd (b t) = u at hf
  rw [hf]
  rfl

theorem psetWritesOnePredicate : Claim.PsetWritesOnePredicate := by
  intro s i pd ps cond hpd R
  refine ⟨fun hps => ?_, ?_, ?_, fun hc => ?_⟩
  · subst hps
    exact retires_setPred hpd rfl (by simpa [Yil.legal] using hpd)
  · exact retires_setPred hpd rfl (by simpa [Yil.legal] using hpd)
  · exact retires_setPred hpd rfl (by simpa [Yil.legal] using hpd)
  · subst hc
    exact retires_setPred hpd rfl (by simpa [Yil.legal] using hpd)

end Sys2Proof.Machine
end

section
/-! The accumulators of the stoker: exact sums wrapped at 40 bits, and saturation (R202). -/

namespace Sys2Proof.Machine

/-! ## Accumulator sums -/

theorem not_fits40 (n : Int) : (!fits40 n) = decide (n < -(2 ^ 39) ∨ 2 ^ 39 ≤ n) := by
  rw [Bool.eq_iff_iff]
  simp only [fits40, Bool.not_eq_true', Bool.and_eq_false_iff, decide_eq_false_iff_not, decide_eq_true_iff, not_le, not_lt]

theorem ofInt40_congr (n : Int) : ((BitVec.ofInt 40 n).toInt - n) % 2 ^ 40 = 0 := by
  rw [BitVec.toInt_ofInt]
  exact Int.emod_eq_zero_of_dvd Int.dvd_bmod_sub_self

section
variable {c : Instr} {s : State} {i : Issue} {fn : BitVec 4} {x : BitVec 1} {ra rb : BitVec 4}
  (hx : exec c s = s.onDev (fun d => d.alu i (.mac fn x ra rb) (fun t => t.doMac fn x ra rb)))
  (hl : (Yil.mac fn x ra rb).legal = true) (hr : Ready s.dev i (.mac fn x ra rb) = true)
include hx hl hr

/-- An operation on one accumulator. -/
theorem retires_acc {sum : Thread → Int} (hdo : ∀ t : Thread, t.doMac fn x ra rb = t.setAcc (x == 1) (sum t)) :
    Retires c s i.hearth (fun t u => ((u.acc x).toInt - sum t) % 2 ^ 40 = 0 ∧
      u = { t with
        a0 := if x = 1 then t.a0 else u.a0, a1 := if x = 1 then u.a1 else t.a1,
        s := t.s || decide (sum t < -(2 ^ 39) ∨ 2 ^ 39 ≤ sum t), pc := t.pc + 4 }) := by
  refine Retires.of_alu hx hl hr ?_
  generalize (s.dev.hearth i.hearth).thr = t
  rw [hdo, ← not_fits40]
  by_cases h1 : x = 1
  · subst h1
    exact ⟨ofInt40_congr _, rfl⟩
  · have hk : (x == 1) = false := beq_eq_false_iff_ne.mpr h1
    simp only [hk, if_neg h1, Thread.acc]
    exact ⟨ofInt40_congr _, rfl⟩

/-- An operation on both accumulators. -/
theorem retires_accs {s0 s1 : Thread → Int} (hdo : ∀ t : Thread, t.doMac fn x ra rb = (t.setAcc false (s0 t)).setAcc true (s1 t)) :
    Retires c s i.hearth (fun t u => (u.a0.toInt - s0 t) % 2 ^ 40 = 0 ∧ (u.a1.toInt - s1 t) % 2 ^ 40 = 0 ∧
      u = { t with
        a0 := u.a0, a1 := u.a1, s := t.s || decide (s0 t < -(2 ^ 39) ∨ 2 ^ 39 ≤ s0 t) || decide (s1 t < -(2 ^ 39) ∨ 2 ^ 39 ≤ s1 t),
        pc := t.pc + 4 }) := by
  refine Retires.of_alu hx hl hr ?_
  generalize (s.dev.hearth i.hearth).thr = t
  rw [hdo, ← not_fits40, ← not_fits40]
  exact ⟨ofInt40_congr _, ofInt40_congr _, rfl⟩

end

theorem macAccumulatesModulo40Bits : Claim.MacAccumulatesModulo40Bits := by
  intro s i x ra rb P out one both I Q
  refine ⟨fun hr => retires_acc rfl rfl hr fun _ => rfl, fun hr => retires_acc rfl rfl hr fun _ => rfl,
    fun hr => retires_acc rfl rfl hr fun _ => rfl, fun hr => retires_acc rfl rfl hr fun _ => rfl,
    fun hr => retires_accs rfl rfl hr fun _ => rfl, fun hr => retires_accs rfl rfl hr fun _ => rfl,
    fun hr => retires_acc rfl rfl hr fun _ => rfl, fun hr => retires_acc rfl rfl hr fun _ => rfl⟩

/-! ## Saturation -/

/-- Rounding to nearest, ties away from zero, with the magnitude doubled so that a shift of 0 is no case of its own. -/
theorem roundShift_eq (a : Int) (n : Nat) : roundShift a n =
    if a < 0 then -(((2 * a.natAbs + 2 ^ n) / 2 ^ (n + 1) : Nat) : Int) else (((2 * a.natAbs + 2 ^ n) / 2 ^ (n + 1) : Nat) : Int) := by
  cases n with
  | zero => simp only [roundShift, if_pos]; split <;> omega
  | succ m =>
    have hr : (2 * a.natAbs + 2 ^ (m + 1)) / 2 ^ (m + 1 + 1) = (a.natAbs + 2 ^ m) / 2 ^ (m + 1) := by
      rw [pow_succ' 2 (m + 1), pow_succ' 2 m, ← Nat.mul_add, Nat.mul_div_mul_left _ _ (by decide)]
    rw [hr, roundShift, if_neg (Nat.succ_ne_zero m), Nat.add_sub_cancel]
    push_cast
    by_cases h : a < 0
    · rw [if_pos h, if_neg (not_le.mpr h), abs_of_neg h]
    · rw [if_neg h, if_pos (not_lt.mp h), abs_of_nonneg (not_lt.mp h)]

/-- A value saturated to a signed range of n bits that a word holds. -/
theorem satTo_spec {n : Nat} {lim : Int} (h : (n = 32 ∧ lim = 2 ^ 31) ∨ (n = 16 ∧ lim = 2 ^ 15)) (y : Int) :
    (BitVec.ofInt 32 (satTo n y).1).toInt = max (-lim) (min (lim - 1) y) ∧ (satTo n y).2 = decide (y < -lim ∨ lim ≤ y) := by
  have hs : satTo n y = (max (-lim) (min (lim - 1) y), max (-lim) (min (lim - 1) y) != y) := by
    rcases h with ⟨rfl, rfl⟩ | ⟨rfl, rfl⟩ <;> rfl
  have hlim : lim ≤ 2 ^ 31 ∧ 1 ≤ lim := by rcases h with ⟨-, rfl⟩ | ⟨-, rfl⟩ <;> decide
  rw [hs]
  refine ⟨?_, ?_⟩
  · rw [BitVec.toInt_ofInt, Int.bmod_eq_of_le] <;> omega
  · rw [Bool.eq_iff_iff, bne_iff_ne, decide_eq_true_iff]
    omega

/-- What sat saturates, by its mode. -/
def satValue (a : Int) (n : Nat) (mode : BitVec 3) : Int :=
  let r := (2 * a.natAbs + 2 ^ n) / 2 ^ (n + 1)
  if mode = 2 then (if a < 0 then -(r : Int) else r) else a / 2 ^ n

/-- A mode that saturates. -/
theorem Thread.doSat_saturates (t : Thread) (rd : BitVec 4) (x : BitVec 1) (sh : BitVec 5) {mode : BitVec 3} (hm : mode.toNat < 4)
    (h3 : mode ≠ 3) : t.doSat rd x sh mode =
      let v := satTo (if mode = 0 then 32 else 16) (satValue (t.acc x).toInt sh.toNat mode)
      { t.setReg rd (BitVec.ofInt 32 v.1) with s := t.s || v.2 } := by
  have hmodes : ∀ m : BitVec 3, m.toNat < 4 → m ≠ 3 → m = 0 ∨ m = 1 ∨ m = 2 := by decide
  obtain rfl | rfl | rfl := hmodes mode hm h3
  · rfl
  · rfl
  · simp only [satValue, if_true, ← roundShift_eq]
    rfl

theorem satSaturatesAccumulator : Claim.SatSaturatesAccumulator := by
  intro s i rd x sh mode hm hr
  have hl : (Yil.sat rd x sh mode).legal = true := by simpa [Yil.legal] using hm
  refine Retires.of_alu rfl hl hr ?_
  generalize (s.dev.hearth i.hearth).thr = t
  have hk : ∀ w, KeepsRegsBut rd t (t.setReg rd w) := fun w => Thread.keeps_setReg _ _ w (fun _ => rfl)
  by_cases h3 : mode = 3
  · subst h3
    have hs : { t.setReg rd (BitVec.ofInt 32 ((t.acc x).toInt / 2 ^ sh.toNat)) with s := t.s || false } =
        t.setReg rd (BitVec.ofInt 32 ((t.acc x).toInt / 2 ^ sh.toNat)) := by rw [Bool.or_false]; rfl
    exact ⟨hk _, fun _ => ⟨Thread.reg_setReg_same _ _ _, congrArg Thread.next hs⟩, fun h => absurd rfl h⟩
  · rw [Thread.doSat_saturates t rd x sh hm h3]
    have hlim : ((if mode = 0 then 32 else 16) = 32 ∧ (if mode = 0 then 2 ^ 31 else 2 ^ 15 : Int) = 2 ^ 31) ∨
        ((if mode = 0 then 32 else 16) = 16 ∧ (if mode = 0 then 2 ^ 31 else 2 ^ 15 : Int) = 2 ^ 15) := by
      by_cases h0 : mode = 0 <;> simp only [h0, if_true, if_false, and_self, true_or, or_true]
    obtain ⟨hv, hb⟩ := satTo_spec hlim (satValue (t.acc x).toInt sh.toNat mode)
    generalize satTo (if mode = 0 then 32 else 16) (satValue (t.acc x).toInt sh.toNat mode) = v at hv hb ⊢
    obtain ⟨w, b⟩ := v
    subst hb
    exact ⟨hk _, fun h => absurd h h3, fun _ => ⟨(congrArg BitVec.toInt (Thread.reg_setReg_same _ _ _)).trans hv, rfl⟩⟩

/-- Settles O10: every accumulator operation is one exact sum, or two, wrapped at 40 bits; sat is one value clamped to a signed range. The
product exact in 40 bits is the model's reading (log 54). -/
theorem predicatesAndAccumulators : Obligations.PredicatesAndAccumulators :=
  ⟨psetWritesOnePredicate, macAccumulatesModulo40Bits, satSaturatesAccumulator⟩

end Sys2Proof.Machine
end

section
/-! Loads, stores and copies of data memory (R203). -/

namespace Sys2Proof.Machine

@[simp] theorem Hearth.dmem_setThr (x : Hearth) (t : Thread) : (x.setThr t).dmem = x.dmem := by
  unfold Hearth.setThr
  split <;> rfl

/-- A change of data memory by an instruction that then retires. -/
theorem Dev.dmem_issued (d : Dev) (h : Nat) (m : Hearth → Memory) :
    ((d.issued h).updHearth h (fun x => { x with dmem := m x })).thr h id =
      d.setHearth h (({ d.hearth h with lastRetire := d.now, dmem := m { d.hearth h with lastRetire := d.now } } : Hearth).setThr
        (d.hearth h).thr.next) := by
  rw [Dev.thr_eq, Dev.updHearth, Dev.hearth_setHearth_same, Dev.setHearth_setHearth, Dev.hearth_issued, Dev.setHearth_issued]
  rfl

theorem changesHearth_dmem {c : Instr} {s : State} {h : Nat} {P : Hearth → Hearth → Prop} (m : Hearth → Memory)
    (hg : Goes c s (((s.dev.issued h).updHearth h (fun x => { x with dmem := m x })).thr h id))
    (hp : P (s.dev.hearth h) (({ s.dev.hearth h with
      lastRetire := s.dev.now, dmem := m { s.dev.hearth h with lastRetire := s.dev.now } } : Hearth).setThr
        (s.dev.hearth h).thr.next)) : ChangesHearth c s h P :=
  ⟨_, hg.trans (by rw [Dev.dmem_issued]), hp⟩

section
variable {c : Instr} {s : State} {i : Issue} {op : MemOp} {r ra : BitVec 4} {off : BitVec 16}
  (hr : Ready s.dev i (.mem op r ra off) = true)
  (ha : ((s.dev.hearth i.hearth).thr.reg ra + off.signExtend 32).toNat % op.size = 0)
  (hin : ((s.dev.hearth i.hearth).thr.reg ra + off.signExtend 32).toNat + op.size ≤ 0x8000)
include hr ha hin

theorem retires_load (hx : exec c s = s.onDev (fun d => d.loadOp i op r ra off .clean)) :
    Retires c s i.hearth (fun t u => u = (t.setReg r
      (op.load (s.dev.hearth i.hearth).dmem ((s.dev.hearth i.hearth).thr.reg ra + off.signExtend 32).toNat)).next) := by
  have hpos : 0 < op.size := by cases op <;> decide
  refine retires_setReg (goes_issue hx rfl hr ?_)
  simp only [Dev.memAddr, Dev.thr_hearth_issued, Thread.addr]
  rw [Dev.dmem_inside _ ha hin hpos, Dev.eccThen, Dev.hearth_issued]

/-- What a store does, for every kind. -/
theorem changesHearth_store (hx : exec c s = s.onDev (fun d => d.storeOp i op r ra off)) {n : Nat}
    (hop : op = .stw ∧ n = 4 ∨ op = .sth ∧ n = 2 ∨ op = .stb ∧ n = 1) :
    let a := ((s.dev.hearth i.hearth).thr.reg ra + off.signExtend 32).toNat
    ChangesHearth c s i.hearth (fun x y =>
      (∀ k, y.dmem.read k = if a ≤ k ∧ k < a + n then ((x.thr.reg r) >>> (8 * (k - a))).setWidth 8 else x.dmem.read k) ∧
      (x.dmem.wf = true → y.dmem.wf = true) ∧
      y = ({ x with lastRetire := s.dev.now, dmem := y.dmem } : Hearth).setThr x.thr.next) := by
  intro a
  have hpos : 0 < op.size := by cases op <;> decide
  refine changesHearth_dmem (fun x => op.store x.dmem a (x.thr.reg r)) (goes_issue hx rfl hr ?_) ?_
  · simp only [Dev.memAddr, Dev.thr_hearth_issued, Thread.addr]
    rw [Dev.dmem_inside _ ha hin hpos]
  · refine ⟨fun k => ?_, fun hwf => ?_, ?_⟩
    · rw [Hearth.dmem_setThr]
      exact op.read_store _ a k n _ hop
    · rw [Hearth.dmem_setThr]
      exact op.wf_store _ _ hwf
    · rw [Hearth.dmem_setThr]

end

theorem loadsReadLittleEndian : Claim.LoadsReadLittleEndian := by
  intro s i rd ra off x a b R
  exact ⟨fun hr ha hin => retires_load hr ha hin rfl, fun hr ha hin => retires_load hr ha hin rfl,
    fun hr ha hin => retires_load hr ha hin rfl⟩

theorem storesWriteOnlyTheirBytes : Claim.StoresWriteOnlyTheirBytes := by
  intro s i rs ra off x a R
  exact ⟨fun hr ha hin => changesHearth_store hr ha hin rfl (.inl ⟨rfl, rfl⟩),
    fun hr ha hin => changesHearth_store hr ha hin rfl (.inr (.inl ⟨rfl, rfl⟩)),
    fun hr ha hin => changesHearth_store hr ha hin rfl (.inr (.inr ⟨rfl, rfl⟩))⟩

/-! ## bcpy -/

theorem Memory.length_readList (m : Memory) : ∀ a n : Nat, (m.readList a n).length = n := by
  intro a n
  induction n generalizing a with
  | zero => rfl
  | succ n ih => exact congrArg Nat.succ (ih (a + 1))

theorem Memory.getElem_readList (m : Memory) (a n j : Nat) (h : j < (m.readList a n).length) : (m.readList a n)[j] = m.read (a + j) := by
  induction n generalizing a j with
  | zero => exact absurd h (Nat.not_lt_zero j)
  | succ n ih =>
    cases j with
    | zero => rfl
    | succ j =>
      have := ih (a + 1) j (Nat.lt_of_succ_lt_succ h)
      rw [Nat.add_right_comm] at this
      exact this

/-- A copy within a memory: the bytes written are those that stood at the source before. -/
theorem Memory.read_copy (m : Memory) (dst src n k : Nat) :
    (m.writeList dst (m.readList src n)).read k = if dst ≤ k ∧ k < dst + n then m.read (src + (k - dst)) else m.read k := by
  rw [Memory.read_writeList]
  simp only [Memory.length_readList, Memory.getElem_readList]
  have hiff : (dst ≤ k ∧ k - dst < n) ↔ (dst ≤ k ∧ k < dst + n) := by omega
  rw [dite_eq_ite]
  exact if_congr hiff rfl rfl

theorem bcpyCopiesBetweenBanks : Claim.BcpyCopiesBetweenBanks := by
  intro s i rd ra n x dst src len hr hd hs hda hsa hdb hsb hne
  have hck : bcpyCheck (x.thr.reg rd) (x.thr.reg ra) (n.toNat + 1) = none := by
    unfold bcpyCheck
    rw [if_neg (not_le.mpr hd), if_neg (not_le.mpr hs), if_neg (not_not.mpr hda), if_neg (not_not.mpr hsa), if_neg (not_not.mpr hdb),
      if_neg (not_not.mpr hsb), if_neg hne]
  refine changesHearth_dmem (fun x => x.dmem.writeList dst (x.dmem.readList src len)) (goes_issue rfl rfl hr ?_) ?_
  · simp only [Dev.thr_hearth_issued]
    rw [hck]
    rfl
  · refine ⟨fun k => ?_, ?_⟩
    · rw [Hearth.dmem_setThr]
      exact Memory.read_copy _ _ _ _ _
    · rw [Hearth.dmem_setThr]

/-- Settles O11: every load is one register's change and every store or copy one change of data memory, at an address that passes its
checks. -/
theorem loadsStoresAndCopies : Obligations.LoadsStoresAndCopies :=
  ⟨loadsReadLittleEndian, storesWriteOnlyTheirBytes, bcpyCopiesBetweenBanks⟩

end Sys2Proof.Machine
end

section
/-! What stops the program of a lane: the threads and hob units of its hearths, its demand and the margin that follows, its events
(R204, R236). -/

namespace Sys2Proof.Machine

/-! ## Events without a least spacing -/

/-- An event without a least spacing leaves no time behind. -/
theorem Dev.evtLast_raise_unspaced (d : Dev) {a b : Nat} (hr : evtRate a b = 0) : (d.raise a b).evtLast = d.evtLast := by
  cases hf : d.evtFree a b 0 with
  | true => rw [Dev.evtLast_raise_free hf, if_pos hr]
  | false => rw [Dev.raise_spaced hf]

/-- The word of an SQC register after its events depends on its word before and on which of them may be raised. -/
theorem Dev.rd_raiseUnit_congr {d t : Dev} {a u : Nat} {bs : List Nat} (hrd : t.rd a = d.rd a)
    (hf : ∀ b, t.evtFree a b u = d.evtFree a b u) : (t.raiseUnit a u bs).rd a = (d.raiseUnit a u bs).rd a := by
  have hfil : bs.filter (fun b => t.evtFree a b u) = bs.filter (fun b => d.evtFree a b u) :=
    List.filter_congr fun b _ => hf b
  unfold Dev.raiseUnit
  rw [hfil]
  generalize bs.filter (fun b => d.evtFree a b u) = fs
  cases fs with
  | nil => exact hrd
  | cons b fs =>
    dsimp only [List.isEmpty_cons]
    rw [if_neg Bool.false_ne_true, if_neg Bool.false_ne_true]
    have hword : ∀ (e : Dev) (v : Nat) (w x : Word), (if (x != 0) = true then (e.wr a w).notify v else e.wr a w).rd a = w := fun e v w x => by
      split
      · rw [Dev.rd_notify, Dev.rd_wr_same]
      · exact Dev.rd_wr_same _ _ _
    rw [hword, hword]
    exact congrArg (fun w : Word => putBits (w ||| _) 31 24 (getBits w 31 24 + 1)) hrd

/-! ## The margin (R36, R161) -/

/-- The registers the margin and its events stand in. -/
def marginRegs : List Nat := [Reg.OVN_DEMAND, Reg.OVN_CAPACITY, Reg.OVN_EVT, Reg.SYS_MARGIN, Reg.CAP_EVT, Reg.HMG_EVT]

/-- A change of the margin's registers, which leaves the times of events. -/
structure MarginStep (d t : Dev) : Prop where
  event : EventStep d t
  evtLast : t.evtLast = d.evtLast
  rd : ∀ a ∉ marginRegs, t.rd a = d.rd a

namespace MarginStep
variable {d t u : Dev}

theorem refl (d : Dev) : MarginStep d d := ⟨.refl d, rfl, fun _ _ => rfl⟩

theorem trans (h : MarginStep d t) (k : MarginStep t u) : MarginStep d u :=
  ⟨h.event.trans k.event, k.evtLast.trans h.evtLast, fun a ha => (k.rd a ha).trans (h.rd a ha)⟩

theorem ite {p : Prop} [Decidable p] (h : MarginStep d t) (k : MarginStep d u) : MarginStep d (if p then t else u) := by
  split
  · exact h
  · exact k

theorem wr (d : Dev) {a : Nat} (w : Word) (ha : a ∈ marginRegs) : MarginStep d (d.wr a w) :=
  ⟨.wr d a w, rfl, fun _ hb => Dev.rd_wr_other _ _ fun he => hb (he ▸ ha)⟩

theorem raise (d : Dev) {a b : Nat} (ha : a ∈ marginRegs) (hr : evtRate a b = 0) : MarginStep d (d.raise a b) :=
  ⟨.raise d a b, d.evtLast_raise_unspaced hr, fun _ hb => Dev.rd_raise_other _ _ fun he => hb (he ▸ ha)⟩

end MarginStep

theorem Dev.refreshMargin_marginStep (d : Dev) : MarginStep d d.refreshMargin := by
  have hdemand : ∀ (w v : Word) (p : Prop) [Decidable p], MarginStep d (if p then
      ((d.wr Reg.OVN_DEMAND w).wr Reg.OVN_CAPACITY v).raise Reg.OVN_EVT 3 else (d.wr Reg.OVN_DEMAND w).wr Reg.OVN_CAPACITY v) :=
    fun w v p _ => by
      have h := (MarginStep.wr d (a := Reg.OVN_DEMAND) w (by decide)).trans (.wr _ (a := Reg.OVN_CAPACITY) v (by decide))
      exact .ite (h.trans (.raise _ (by decide) (by decide))) h
  have hstandby : ∀ {e : Dev} (w : Word) (p : Prop) [Decidable p], MarginStep d e →
      MarginStep d (if p then e.wr Reg.SYS_MARGIN w else (e.wr Reg.SYS_MARGIN w).raise Reg.CAP_EVT 5) := fun w p _ he => by
    have h := he.trans (.wr _ (a := Reg.SYS_MARGIN) w (by decide))
    exact .ite h (h.trans (.raise _ (by decide) (by decide)))
  have hintact : ∀ {e : Dev} (p : Prop) [Decidable p], MarginStep d e → MarginStep d (if p then e.raise Reg.HMG_EVT 2 else e) :=
    fun p _ he => .ite (he.trans (.raise _ (by decide) (by decide))) he
  unfold Dev.refreshMargin
  exact hintact _ (hstandby _ _ (hdemand _ _ _))

/-! ## Hearths stopped (R204, R236) -/

/-- A hearth's record once its threads and its hob have stopped. -/
def Hearth.stopped (x : Hearth) : Hearth :=
  { x.hobStop with running := false, wait := none, urgOn := false, replay := none, ovens := [] }

theorem Hearth.stopped_stopped (x : Hearth) : x.stopped.stopped = x.stopped := by
  simp [Hearth.stopped, Hearth.hobStop]

theorem SMap.get_map_snd {α : Type} (m : SMap α) (dflt : α) (f : α → α) (hf : f dflt = dflt) (k : Nat) :
    SMap.get dflt (m.map (fun c => (c.1, f c.2))) k = f (SMap.get dflt m k) := by
  induction m with
  | nil => exact hf.symm
  | cons c m ih =>
    obtain ⟨j, v⟩ := c
    unfold SMap.get at ih ⊢
    by_cases h : j = k
    · simp [SMap.find?, h]
    · simp only [List.map_cons, SMap.find?, if_neg h]
      exact ih

theorem Hearth.unit_stopped (x : Hearth) (u : Nat) : (x.stopped.unit u).queue = [] ∧ (x.stopped.unit u).running = none := by
  have h : x.stopped.unit u = { x.unit u with queue := [], running := none } :=
    SMap.get_map_snd x.units {} (fun q => { q with queue := [], running := none }) rfl u
  rw [h]
  exact ⟨rfl, rfl⟩

theorem Dev.hearth_haltHearth (d : Dev) (h k : Nat) : (d.haltHearth h).hearth k = if k = h then (d.hearth k).stopped else d.hearth k := by
  have hk : (d.haltHearth h).hearth k = (d.setHearth h (d.hearth h).stopped).hearth k := rfl
  rw [hk, Dev.hearth_setHearth]
  by_cases he : k = h
  · rw [if_pos he, if_pos he, he]
  · rw [if_neg he, if_neg he]

/-- Several hearths stopped. -/
theorem Dev.hearth_haltHearths (hs : List Nat) (d : Dev) (k : Nat) :
    (hs.foldl (fun d h => d.haltHearth h) d).hearth k = if k ∈ hs then (d.hearth k).stopped else d.hearth k := by
  induction hs generalizing d with
  | nil => rfl
  | cons h hs ih =>
    rw [List.foldl_cons, ih, Dev.hearth_haltHearth]
    by_cases hm : k ∈ hs <;> by_cases he : k = h <;> simp [hm, he, Hearth.stopped_stopped]

theorem Dev.haltHearths_frame (hs : List Nat) (d : Dev) : hs.foldl (fun d h => d.haltHearth h) d =
    { d with hearths := (hs.foldl (fun d h => d.haltHearth h) d).hearths, pool := (hs.foldl (fun d h => d.haltHearth h) d).pool } := by
  induction hs generalizing d with
  | nil => rfl
  | cons h hs ih =>
    rw [List.foldl_cons, ih]
    rfl

/-! ## The lane stopped -/

/-- The lane's hearths stopped and the lane marked, its registers still as before. -/
def Dev.laneStopped (d : Dev) (n : Nat) : Dev :=
  ((d.laneHearths n).foldl (fun d h => d.haltHearth h) d).updLane n (fun x => { x with halted := true })

theorem Dev.haltLane_eq (d : Dev) (n : Nat) (bits : List Nat) :
    d.haltLane n bits = (((d.laneStopped n).wr (Reg.LANE_OVDEM n) 0).refreshMargin).raiseUnit (Reg.LANE_STAT n) 0 bits := rfl

theorem Dev.laneStopped_frame (d : Dev) (n : Nat) : d.laneStopped n = { d with
    hearths := (d.laneStopped n).hearths, pool := (d.laneStopped n).pool, lanes := (d.laneStopped n).lanes } := by
  have h := Dev.haltHearths_frame (d.laneHearths n) d
  unfold Dev.laneStopped
  generalize (d.laneHearths n).foldl (fun d h => d.haltHearth h) d = e at h ⊢
  rw [h]
  rfl

theorem Dev.mem_laneHearths (d : Dev) (n k : Nat) : k ∈ d.laneHearths n ↔ k < d.part.hearths ∧ d.laneOf k = some n := by
  simp [Dev.laneHearths]

section
variable (d : Dev) (n : Nat) (bits : List Nat)

theorem Dev.haltLane_event : EventStep (d.laneStopped n) (d.haltLane n bits) :=
  ((EventStep.wr _ _ _).trans (Dev.refreshMargin_marginStep _).event).trans ⟨Dev.raiseUnit_frame _ _ _ _⟩

theorem Dev.haltLane_frame : d.haltLane n bits = { d with
    regs := (d.haltLane n bits).regs, evtLast := (d.haltLane n bits).evtLast, pcie := (d.haltLane n bits).pcie,
    out := (d.haltLane n bits).out, hearths := (d.haltLane n bits).hearths, pool := (d.haltLane n bits).pool,
    lanes := (d.haltLane n bits).lanes } := by
  have h := (d.haltLane_event n bits).frame
  rw [d.laneStopped_frame n] at h
  generalize d.haltLane n bits = t at h ⊢
  rw [h]

/-- Every hearth of the lane stops, and no other changes. -/
theorem Dev.hearth_haltLane (k : Nat) : (d.haltLane n bits).hearth k =
    if k < d.part.hearths ∧ d.laneOf k = some n then (d.hearth k).stopped else d.hearth k := by
  rw [Dev.hearth_of_hearths (d.haltLane_event n bits).hearths]
  exact (Dev.hearth_haltHearths _ d k).trans (if_congr (d.mem_laneHearths n k) rfl rfl)

theorem Dev.lane_haltLane_other {k : Nat} (hk : k ≠ n) : (d.haltLane n bits).lane k = d.lane k := by
  have hframe := Dev.haltHearths_frame (d.laneHearths n) d
  rw [Dev.lane, (d.haltLane_event n bits).lanes]
  refine ((Dev.lane_setLane _ n k _).trans (if_neg hk)).trans ?_
  rw [hframe]
  rfl

variable {n} (hn : n < 96)
include hn

/-- What the stop of a lane writes. -/
theorem Dev.haltLane_registers : (d.haltLane n bits).rd (Reg.LANE_STAT n) = (d.raiseUnit (Reg.LANE_STAT n) 0 bits).rd (Reg.LANE_STAT n) ∧
    (d.haltLane n bits).rd (Reg.LANE_OVDEM n) = 0 ∧
    KeepsRegs [Reg.LANE_STAT n, Reg.LANE_OVDEM n, Reg.OVN_DEMAND, Reg.OVN_CAPACITY, Reg.OVN_EVT, Reg.SYS_MARGIN, Reg.CAP_EVT,
      Reg.HMG_EVT] d (d.haltLane n bits) := by
  have hstop : ∀ a, (d.laneStopped n).rd a = d.rd a := fun a => by rw [d.laneStopped_frame n]; rfl
  have hlast : (d.laneStopped n).evtLast = d.evtLast := by rw [d.laneStopped_frame n]
  have hnow : (d.laneStopped n).now = d.now := by rw [d.laneStopped_frame n]
  have hm := ((d.laneStopped n).wr (Reg.LANE_OVDEM n) 0).refreshMargin_marginStep
  have hlane : ∀ a, 0x100000 ≤ a → a < 0x162000 → a ∉ marginRegs := fun a h1 h2 hmem => by
    have hall : ∀ b ∈ marginRegs, b < 0x100000 ∨ 0x162000 ≤ b := by decide
    have := hall a hmem
    omega
  have hstat : ((d.laneStopped n).wr (Reg.LANE_OVDEM n) 0).refreshMargin.rd (Reg.LANE_STAT n) = d.rd (Reg.LANE_STAT n) := by
    rw [hm.rd _ (hlane _ (by simp only [Reg.LANE_STAT]; omega) (by simp only [Reg.LANE_STAT]; omega)),
      Dev.rd_wr_other _ _ (by simp only [Reg.LANE_STAT, Reg.LANE_OVDEM]; omega), hstop]
  rw [Dev.haltLane_eq]
  refine ⟨Dev.rd_raiseUnit_congr hstat (fun b => Dev.evtFree_of_last (hm.evtLast.trans hlast) (hm.event.now.trans hnow) _ _ _), ?_,
    fun a ha => ?_⟩
  · rw [Dev.rd_raiseUnit_other _ _ _ (by simp only [Reg.LANE_STAT, Reg.LANE_OVDEM]; omega),
      hm.rd _ (hlane _ (by simp only [Reg.LANE_OVDEM]; omega) (by simp only [Reg.LANE_OVDEM]; omega)), Dev.rd_wr_same]
  · obtain ⟨h1, ha⟩ := List.ne_and_not_mem_of_not_mem_cons ha
    obtain ⟨h2, ha⟩ := List.ne_and_not_mem_of_not_mem_cons ha
    rw [Dev.rd_raiseUnit_other _ _ _ h1, hm.rd _ ha, Dev.rd_wr_other _ _ h2, hstop]

end

end Sys2Proof.Machine
end

section
/-! Branches, the ends of threads, and what stands in place of an instruction's effect (R163, R194 to R196, R204, R210, R235, R236). -/

namespace Sys2Proof.Machine

/-! ## Branches (R204) -/

/-- A change of the hearth by an instruction's own effect is made with its issue. -/
theorem Dev.updHearth_issued (d : Dev) (h : Nat) (f : Hearth → Hearth) :
    (d.issued h).updHearth h f = d.setHearth h (f { d.hearth h with lastRetire := d.now }) := by
  rw [Dev.updHearth, Dev.hearth_issued, Dev.setHearth_issued]

section
variable {h : Nat} {target : Int}

theorem Dev.jump_outside (d : Dev) (f : Thread → Thread) (ht : target < 0 ∨ 0x4000 ≤ target) :
    d.jump h target f = d.exception h 1 3 none := if_pos ht

/-- A branch inside instruction memory. -/
theorem Dev.jump_issued (d : Dev) (f : Thread → Thread) (ht : 0 ≤ target ∧ target < 0x4000) : (d.issued h).jump h target f =
    d.retire h { f (d.hearth h).thr with pc := BitVec.ofNat 14 target.toNat } := by
  rw [Dev.jump, if_neg (by omega), Dev.updHearth_issued]
  rfl

theorem pc_ofNat_target (ht : 0 ≤ target ∧ target < 0x4000) : ((BitVec.ofNat 14 target.toNat).toNat : Int) = target := by
  rw [BitVec.toNat_ofNat, Nat.mod_eq_of_lt (by omega)]
  exact Int.toNat_of_nonneg ht.1

end

/-- A thread whose working registers and pc alone change: a branch. -/
theorem retires_jump {c : Instr} {s : State} {h : Nat} {target : Int} {f : Thread → Thread} {P : Thread → Thread → Prop}
    (ht : 0 ≤ target ∧ target < 0x4000) (hg : Goes c s ((s.dev.issued h).jump h target f))
    (hp : ∀ u : Thread, (u.pc.toNat : Int) = target → u = { f (s.dev.hearth h).thr with pc := u.pc } → P (s.dev.hearth h).thr u) :
    Retires c s h P := by
  rw [Dev.jump_issued s.dev f ht] at hg
  exact ⟨_, hg, hp _ (pc_ofNat_target ht) rfl⟩

theorem retires_thr {c : Instr} {s : State} {h : Nat} {f : Thread → Thread} {P : Thread → Thread → Prop}
    (hg : Goes c s ((s.dev.issued h).thr h f)) (hp : P (s.dev.hearth h).thr (f (s.dev.hearth h).thr).next) : Retires c s h P :=
  ⟨_, hg.trans (by rw [Dev.thr_issued]), hp⟩

theorem branchesSetThePc : Claim.BranchesSetThePc := by
  intro s i c ra wc off t0 target inside at_
  refine ⟨fun hr hin => ?_, fun hr hin => ?_, fun hr hin => ?_, fun hr hin => ?_, fun hr hin => ?_, fun hr => ?_⟩
  · refine retires_jump hin (goes_issue (y := .br off) rfl rfl hr (by rw [Dev.thr_hearth_issued]; rfl)) fun u hpc hu => ?_
    have hw : u.w = t0.w := by rw [hu]; rfl
    exact ⟨⟨hpc, by rw [hw]; exact hu⟩, hw⟩
  · cases hc : t0.cond c with
    | true =>
      refine retires_jump (hin hc) (f := id) (goes_issue (y := .bcc c off) rfl rfl hr ?_) fun u hpc hu => ?_
      · rw [Dev.thr_hearth_issued]
        exact if_pos hc
      · have hw : u.w = t0.w := by rw [hu]; rfl
        refine ⟨hw, ?_⟩
        rw [if_pos hc]
        exact ⟨hpc, by rw [hw]; exact hu⟩
    | false =>
      have hcf : ¬t0.cond c = true := by rw [hc]; exact Bool.false_ne_true
      refine retires_thr (f := id) (goes_issue (y := .bcc c off) rfl rfl hr ?_) ⟨rfl, ?_⟩
      · rw [Dev.thr_hearth_issued]
        exact if_neg hcf
      · rw [if_neg hcf]
        rfl
  · refine retires_jump hin (f := fun t => t.setReg 15 ((t0.pc + 4).setWidth 32)) (goes_issue (y := .call off) rfl rfl hr ?_)
      fun u hpc hu => ⟨⟨hpc, ?_⟩, ?_, ?_⟩
    · rw [Dev.thr_hearth_issued]
      rfl
    · rw [hu]; rfl
    · have h15 : u.reg 15 = (t0.pc + 4).setWidth 32 := by rw [hu]; exact Thread.reg_setReg_same _ _ _
      rw [h15, BitVec.toNat_setWidth_of_le (by decide), BitVec.toNat_add]
      rfl
    · exact Thread.keeps_setReg _ _ _ fun r => by rw [hu]; rfl
  · have ht : (0 : Int) ≤ ((t0.reg ra).toNat / 4 * 4 : Nat) ∧ (((t0.reg ra).toNat / 4 * 4 : Nat) : Int) < 0x4000 := by omega
    refine retires_jump ht (f := id) (goes_issue (y := .ret ra) rfl rfl hr (by rw [Dev.thr_hearth_issued])) fun u hpc hu => ?_
    have hw : u.w = t0.w := by rw [hu]; rfl
    exact ⟨⟨hpc, by rw [hw]; exact hu⟩, hw⟩
  · have hone : t0.reg wc - 1 = 0 ↔ t0.reg wc = 1 := sub_eq_zero
    by_cases h1 : t0.reg wc = 1
    · refine retires_thr (f := fun t => t.setReg wc (t0.reg wc - 1)) (goes_issue (y := .loop wc off) rfl rfl hr ?_)
        ⟨Thread.reg_setReg_same _ _ _, Thread.keeps_setReg _ _ _ fun _ => rfl, ?_⟩
      · rw [Dev.thr_hearth_issued]
        exact if_pos (hone.mpr h1)
      · rw [if_pos h1]
        exact ⟨rfl, rfl⟩
    · refine retires_jump (hin h1) (f := fun t => t.setReg wc (t0.reg wc - 1)) (goes_issue (y := .loop wc off) rfl rfl hr ?_)
        fun u hpc hu => ⟨?_, Thread.keeps_setReg _ _ (t0.reg wc - 1) fun r => by rw [hu]; rfl, ?_⟩
      · rw [Dev.thr_hearth_issued]
        exact if_neg (mt hone.mp h1)
      · rw [hu]
        exact Thread.reg_setReg_same _ _ _
      · rw [if_neg h1]
        exact ⟨hpc, by rw [hu]; rfl⟩
  · exact Retires.of_alu rfl rfl hr rfl

/-! ## halt and uret (R204, R210) -/

theorem haltAndUretEndThreads : Claim.HaltAndUretEndThreads := by
  intro s i h
  refine ⟨fun n hn hh hl hr => ?_, fun hr hu => ?_⟩
  · have hl' : (s.dev.issued i.hearth).laneOf i.hearth = some n := hl
    refine completes_of_goes (t := (s.dev.issued h).haltLane n [2]) (goes_issue (y := .halt) rfl rfl hr (by simp only [hl']; rfl)) ?_
    obtain ⟨hstat, hdem, hregs⟩ := (s.dev.issued h).haltLane_registers [2] hn
    refine ⟨fun k hk hkn => ?_, fun k hkn => ?_, ?_, hdem, hregs, (s.dev.issued h).haltLane_halted n [2],
      fun k hk => (s.dev.issued h).lane_haltLane_other n [2] hk, ?_⟩
    · have hk' := (s.dev.issued h).hearth_haltLane n [2] k
      rw [if_pos ⟨hk, hkn⟩] at hk'
      rw [hk']
      exact ⟨rfl, rfl, rfl⟩
    · have hne : k ≠ h := fun he => hkn (he ▸ hl)
      have hk' := (s.dev.issued h).hearth_haltLane n [2] k
      rw [if_neg fun hc => hkn hc.2] at hk'
      rw [hk', Dev.issued, Dev.hearth_setHearth, if_neg hne]
    · exact hstat.trans (Dev.rd_raiseUnit_congr rfl fun _ => rfl)
    · exact (s.dev.issued h).haltLane_frame n [2]
  · have hux : (s.dev.issued h).hearth h = { s.dev.hearth h with lastRetire := s.dev.now } := Dev.hearth_issued _ _
    by_cases he : (s.dev.hearth h).umbox = []
    · refine ⟨{ s.dev.hearth h with urgOn := false, lastRetire := s.dev.now }, goes_issue (y := .uret) rfl rfl hr ?_, ?_⟩
      · simp only [show i.hearth = h from rfl, hux, hu, he]
        exact Dev.setHearth_issued _ _ _
      · exact (if_pos he).mpr rfl
    · refine ⟨{ s.dev.hearth h with urg := { (s.dev.hearth h).urg with pc := BitVec.ofNat 14 (s.dev.hearth h).entUrg }, lastRetire := s.dev.now },
        goes_issue (y := .uret) rfl rfl hr ?_, ?_⟩
      · have he' : (s.dev.hearth h).umbox.isEmpty = false := by simpa using he
        simp only [show i.hearth = h from rfl, hux, hu, he']
        exact Dev.setHearth_issued _ _ _
      · exact (if_neg he).mpr rfl

/-- Settles O12: a branch inside instruction memory is one change of the thread; halt is the stop of the lane (`Dev.haltLane`) and what that
writes. -/
theorem branchesAndThreadEnds : Obligations.BranchesAndThreadEnds := ⟨branchesSetThePc, haltAndUretEndThreads⟩

end Sys2Proof.Machine
end

section
/-! Errors in place of instructions: illegal words and fields, errors at the fetch, and what an exception does (R163, R195, R196, R235,
R236). -/

namespace Sys2Proof.Machine

theorem illegalFieldTraps : Claim.IllegalFieldTraps := fun _ _ _ _ hy hr hl =>
  goes_of_yilOf hy fun _ => Dev.issue_illegal _ hr hl

theorem fetchErrorFailsTheHearth : Claim.FetchErrorFailsTheHearth := fun _ _ _ _ hy ha hf =>
  goes_of_yilOf hy fun _ => Dev.issue_double _ ha hf

/-- The opcodes that spell nothing (R195). -/
theorem read_isNone (w : Word) : (Yil.read w).isNone = decide (wOp w ∈ [0x00, 0x19, 0x1A, 0x1B, 0x1C, 0x27, 0x2F]) := by
  have hop : wOp w < 64 := BitVec.isLt (w.extractLsb' 26 6)
  unfold Yil.read
  generalize wOp w = n at hop ⊢
  interval_cases n <;> rfl

theorem illegalWordTraps : Claim.IllegalWordTraps := by
  intro s h w hi hw hd op
  have hskip : ∀ t : Dev, (if (!s.dev.canIssue h || (s.dev.hearth h).fetchWord != w || (Yil.decode w).isSome) = true then s.dev else t) = t :=
    fun t => if_neg (by simp [hi, hw, hd])
  refine ⟨fun hp => goes_of_next rfl ((hskip _).trans ?_), fun hp => goes_of_next rfl ((hskip _).trans ?_)⟩
  · have hsub : (if (Yil.read w).isNone = true then 1 else 2) = if op ∈ [0x00, 0x19, 0x1A, 0x1B, 0x1C, 0x27, 0x2F] then 1 else 2 := by
      rw [read_isNone]
      exact if_congr decide_eq_true_iff rfl rfl
    rw [← hsub]
    exact if_neg (by simpa [wPred] using hp)
  · exact if_pos (by simpa [wPred] using hp)

/-! ## What an exception does (R235, R236, R510) -/

/-- A severe entry with its continuation enters a holding stage with room for both. -/
theorem Dev.sootC_severe (d : Dev) (source code : Nat) (det : Word) (a b c : Word) (hfit : d.soot.stage.length ≤ 14) :
    ∃ g g', d.sootC 2 source code det (some (a, b, c)) = { d with soot := { d.soot with
      stage := d.soot.stage ++ [sootItem d.devtime 2 source code det true false g,
        { sootItem 0 2 source code c false true g' with w0 := a, w1 := b }]
      last := SMap.put none d.soot.last source (some ⟨code, det, d.now, none⟩) } } := by
  refine ⟨decide ((d.soot.stage.filter (·.general)).length < 12), decide ((d.soot.stage.filter (·.general)).length + 1 < 12), ?_⟩
  have hroom : ¬14 < d.soot.stage.length := not_lt.mpr hfit
  unfold Dev.sootC
  cases SMap.get none d.soot.last source with
  | none => simp [hroom]
  | some l => simp [hroom]

/-- The detail of an exception's entry (R510). -/
def exceptionWord (cls sub n : Nat) (u : Bool) (pc : BitVec 14) : Word :=
  BitVec.ofNat 32 (cls * 2 ^ 28 + sub * 2 ^ 24 + b2n u * 2 ^ 23 + n * 65536 + pc.toNat)

theorem exceptionWord_toNat {cls sub n : Nat} (u : Bool) (pc : BitVec 14) (hc : cls < 4) (hs : sub < 16) (hn : n < 96) :
    (exceptionWord cls sub n u pc).toNat =
      cls * 2 ^ 28 + sub * 2 ^ 24 + (if u = true then 2 ^ 23 else 0) + n * 2 ^ 16 + pc.toNat := by
  have hpc := pc.isLt
  have hu : b2n u * 2 ^ 23 = if u = true then 2 ^ 23 else 0 := by cases u <;> rfl
  have hle : (if u = true then 2 ^ 23 else 0) ≤ 2 ^ 23 := by split <;> omega
  rw [exceptionWord, BitVec.toNat_ofNat, hu, Nat.mod_eq_of_lt (by omega)]
  rfl

/-- An exception is its log entry and the stop of its lane. -/
theorem Dev.exception_eq {d : Dev} {h n : Nat} (hl : d.laneOf h = some n) (cls sub : Nat) (addr : Option Word) :
    d.exception h cls sub addr =
      (d.sootC 2 (0x80 + h) 0x4004 (exceptionWord cls sub n (d.hearth h).urgOn (d.hearth h).thr.pc)
        (some ((d.hearth h).fetchWord, addr.getD 0, 0))).haltLane n [3, 2] := by
  unfold Dev.exception
  rw [hl]
  rfl

theorem exceptionStopsTheLane : Claim.ExceptionStopsTheLane := by
  intro d h n cls sub addr hh hl hn hc hs hroom x t
  have hpart := d.part.hearths_le
  obtain ⟨g, g', hsoot⟩ := d.sootC_severe (0x80 + h) 0x4004 (exceptionWord cls sub n x.urgOn x.thr.pc) x.fetchWord (addr.getD 0) 0 hroom
  have ht : t = _ := Dev.exception_eq hl cls sub addr
  rw [hsoot] at ht
  rw [ht]
  generalize he : ({ d with soot := _ } : Dev) = e
  have hreg : ∀ a, e.rd a = d.rd a := fun a => by rw [← he]; rfl
  obtain ⟨hstat, hdem, hregs⟩ := e.haltLane_registers [3, 2] hn
  have hframe := e.haltLane_frame n [3, 2]
  have hof : ∀ k, e.laneOf k = d.laneOf k := fun k => by rw [← he]; rfl
  have hhe : ∀ k, e.hearth k = d.hearth k := fun k => by rw [← he]; rfl
  have hpe : e.part = d.part := by rw [← he]
  refine ⟨⟨sootItem d.devtime 2 (0x80 + h) 0x4004 (exceptionWord cls sub n x.urgOn x.thr.pc) true false g,
    { sootItem 0 2 (0x80 + h) 0x4004 0 false true g' with w0 := x.fetchWord, w1 := addr.getD 0 }, ?_, ?_⟩, fun k hk hkn => ?_,
    fun k hkn => ?_, ?_, hdem, fun a ha => (hregs a ha).trans (hreg a), e.haltLane_halted n [3, 2], fun k hk => ?_, ?_, ?_, ?_⟩
  · rw [hframe, ← he]
  · refine ⟨?_, ?_, ?_, exceptionWord_toNat _ _ hc hs hn, rfl, rfl⟩
    all_goals
      rw [sootItem, getBits_ofNat, show b2n true = 1 from rfl, show b2n false = 0 from rfl]
      omega
  · have hk' := e.hearth_haltLane n [3, 2] k
    rw [hpe, hof, if_pos ⟨hk, hkn⟩, hhe] at hk'
    rw [hk']
    exact ⟨rfl, rfl, rfl, rfl, rfl, rfl, rfl, rfl, fun u => (d.hearth k).unit_stopped u⟩
  · have hk' := e.hearth_haltLane n [3, 2] k
    rw [hof, if_neg fun hc => hkn hc.2, hhe] at hk'
    exact hk'
  · exact hstat.trans (Dev.rd_raiseUnit_congr (hreg _) fun b => Dev.evtFree_of_last (by rw [← he]) (by rw [← he]) _ _ _)
  · rw [e.lane_haltLane_other n [3, 2] hk, ← he]
    rfl
  · rw [hframe, ← he]
  · rw [hframe, ← he]
  · rw [hframe, ← he]

/-- Settles O13: each error ends the issue before the effect; an exception is one log entry with its continuation and the stop of the lane
(`Dev.haltLane`). -/
theorem errorsInPlaceOfInstructions : Obligations.ErrorsInPlaceOfInstructions :=
  ⟨illegalFieldTraps, fetchErrorFailsTheHearth, illegalWordTraps, exceptionStopsTheLane⟩

end Sys2Proof.Machine
end

section
/-! Traps of operands: waits in URGENT, data addresses, branch targets, mailboxes and register accesses (R203, R204, R209, R210, R226, R231,
R235). -/

namespace Sys2Proof.Machine

/-! ## The commands that stand for an instruction -/

section
variable {c : Instr} {i : Issue}

theorem eq_hwait_of_yilOf {u : BitVec 4} (h : yilOf c = some (i, .hwait u)) : c = .hwait i u := by
  unfold yilOf at h
  split at h <;> cases h
  rfl

theorem eq_oawait_of_yilOf {rd ra : BitVec 4} (h : yilOf c = some (i, .oawait rd ra)) : c = .oawait i rd ra := by
  unfold yilOf at h
  split at h <;> cases h
  rfl

theorem eq_aawait_of_yilOf {rd ra : BitVec 4} (h : yilOf c = some (i, .aawait rd ra)) : c = .aawait i rd ra := by
  unfold yilOf at h
  split at h <;> cases h
  rfl

theorem eq_tick_of_yilOf {rd ra : BitVec 4} (h : yilOf c = some (i, .tick rd ra)) : c = .tick i rd ra := by
  unfold yilOf at h
  split at h <;> cases h
  rfl

theorem eq_yield_of_yilOf {rd : BitVec 4} {m : BitVec 16} (h : yilOf c = some (i, .yield rd m)) : c = .yield i rd m := by
  unfold yilOf at h
  split at h <;> cases h
  rfl

theorem eq_flput_of_yilOf {ra : BitVec 4} (h : yilOf c = some (i, .flput ra)) : ∃ x, c = .flput i ra x := by
  unfold yilOf at h
  split at h <;> cases h
  exact ⟨_, rfl⟩

theorem eq_oreq_of_yilOf {pd : BitVec 2} {wd ws : BitVec 4} (h : yilOf c = some (i, .oreq pd wd ws)) : ∃ e, c = .oreq i pd wd ws e := by
  unfold yilOf at h
  split at h <;> cases h
  exact ⟨_, rfl⟩

theorem eq_areq_of_yilOf {pd : BitVec 2} {wd ws : BitVec 4} (h : yilOf c = some (i, .areq pd wd ws)) : ∃ e, c = .areq i pd wd ws e := by
  unfold yilOf at h
  split at h <;> cases h
  exact ⟨_, rfl⟩

theorem eq_hput_of_yilOf {u k w : BitVec 4} {m : BitVec 12} (h : yilOf c = some (i, .hput u k w m)) : c = .hput i u k w m := by
  unfold yilOf at h
  split at h <;> cases h
  rfl

/-- A load or a store, by one of the two operations they share. -/
theorem exec_of_yilOf_mem {op : MemOp} {r ra : BitVec 4} {off : BitVec 16} (h : yilOf c = some (i, .mem op r ra off)) :
    (∃ e, ∀ s, exec c s = s.onDev (fun d => d.loadOp i op r ra off e)) ∨ ∀ s, exec c s = s.onDev (fun d => d.storeOp i op r ra off) := by
  unfold yilOf at h
  split at h <;> cases h
  case h_29 | h_30 | h_31 => exact .inl ⟨_, fun _ => rfl⟩
  all_goals exact .inr fun _ => rfl

end

/-! ## Waits in URGENT (R209) -/

theorem goes_waitUrgent {c : Instr} {s : State} {i : Issue} {y : Yil} {f : Dev → Dev} (hx : exec c s = s.onDev (fun d => d.issue i y f))
    (hl : y.legal = true) (hr : Ready s.dev i y = true) (hu : (s.dev.hearth i.hearth).urgOn = true)
    (hf : ∀ d : Dev, (d.hearth i.hearth).urgOn = true → f d = d.exception i.hearth 1 4 none) :
    Goes c s ((s.dev.issued i.hearth).exception i.hearth 1 4 none) :=
  goes_issue hx hl hr (hf _ (by rw [Dev.hearth_issued]; exact hu))

theorem waitInUrgentTraps : Claim.WaitInUrgentTraps := by
  rintro s c i y hy hr hl hu ⟨unit, rd, ra, mask, rfl | rfl | rfl | rfl | rfl | rfl⟩
  · rw [eq_hwait_of_yilOf hy]
    exact goes_waitUrgent rfl hl hr hu fun _ h => if_pos h
  · rw [eq_oawait_of_yilOf hy]
    exact goes_waitUrgent rfl hl hr hu fun _ h => if_pos h
  · rw [eq_aawait_of_yilOf hy]
    exact goes_waitUrgent rfl hl hr hu fun _ h => if_pos h
  · rw [eq_tick_of_yilOf hy]
    exact goes_waitUrgent rfl hl hr hu fun _ h => if_pos h
  · rw [eq_yield_of_yilOf hy]
    exact goes_waitUrgent rfl hl hr hu fun _ h => if_pos h
  · obtain ⟨x, rfl⟩ := eq_flput_of_yilOf hy
    exact goes_waitUrgent rfl hl hr hu fun _ h => if_pos h

/-! ## Addresses of data memory (R203) -/

theorem Dev.dmem_misaligned (d : Dev) {h : Nat} {a : Word} {len align : Nat} (f : Dev → Dev) (hin : a.toNat < 0x8000)
    (hal : a.toNat % align ≠ 0) : d.dmem h a len align f = d.exception h 3 2 (some a) := by
  have hck : dmemCheck a len align = some 2 := by rw [dmemCheck, if_neg (by omega), if_pos hal]
  rw [Dev.dmem, hck]

theorem Dev.dmem_outside (d : Dev) {h : Nat} {a : Word} {len align : Nat} (f : Dev → Dev) (hout : 0x8000 ≤ a.toNat) :
    d.dmem h a len align f = d.exception h 3 1 (some a) := by
  have hck : dmemCheck a len align = some 1 := by rw [dmemCheck, if_pos hout]
  rw [Dev.dmem, hck]

/-- An instruction whose first act is the check of an address. -/
theorem goes_badAddress {c : Instr} {s : State} {i : Issue} {y : Yil} {f g : Dev → Dev} {a : Word} {len align : Nat}
    (hx : exec c s = s.onDev (fun d => d.issue i y f)) (hl : y.legal = true) (hr : Ready s.dev i y = true)
    (hf : f (s.dev.issued i.hearth) = (s.dev.issued i.hearth).dmem i.hearth a len align g) :
    (a.toNat < 0x8000 → a.toNat % align ≠ 0 → Goes c s ((s.dev.issued i.hearth).exception i.hearth 3 2 (some a))) ∧
    (0x8000 ≤ a.toNat → Goes c s ((s.dev.issued i.hearth).exception i.hearth 3 1 (some a))) :=
  ⟨fun h1 h2 => goes_issue hx hl hr (hf.trans (Dev.dmem_misaligned _ g h1 h2)),
    fun h1 => goes_issue hx hl hr (hf.trans (Dev.dmem_outside _ g h1))⟩

theorem badDataAddressTraps : Claim.BadDataAddressTraps := by
  intro s c i y a align hy hr hl t
  rintro (⟨op, r, ra, off, rfl, rfl, rfl⟩ | ⟨pd, wd, ws, rfl, rfl, rfl⟩ | ⟨pd, wd, ws, rfl, rfl, rfl⟩ |
    ⟨unit, cmd, ws, imm, rfl, hdesc, rfl, rfl⟩ | ⟨ra, rfl, hu, rfl, rfl⟩)
  · obtain ⟨e, hx⟩ | hx := exec_of_yilOf_mem hy
    · exact goes_badAddress (hx s) hl hr (by rw [Dev.memAddr, Dev.thr_hearth_issued])
    · exact goes_badAddress (hx s) hl hr (by rw [Dev.memAddr, Dev.thr_hearth_issued])
  · obtain ⟨e, rfl⟩ := eq_oreq_of_yilOf hy
    exact goes_badAddress rfl hl hr (by dsimp only; rw [Dev.thr_hearth_issued])
  · obtain ⟨e, rfl⟩ := eq_areq_of_yilOf hy
    exact goes_badAddress rfl hl hr (by dsimp only; rw [Dev.thr_hearth_issued])
  · obtain rfl := eq_hput_of_yilOf hy
    exact goes_badAddress rfl hl hr (by dsimp only; rw [if_pos hdesc, Dev.thr_hearth_issued])
  · obtain ⟨x, rfl⟩ := eq_flput_of_yilOf hy
    have hu' : ¬((s.dev.issued i.hearth).hearth i.hearth).urgOn = true := by rw [Dev.hearth_issued]; simp [hu]
    exact goes_badAddress rfl hl hr (by dsimp only; rw [if_neg hu', Dev.thr_hearth_issued])

/-! ## Branch targets, uret, mput and register accesses -/

theorem Dev.privFault_eq (d : Dev) (h sub : Nat) (a : Word) (write : Bool) : d.privFault h sub a write =
    ((d.sootE 1 (0x80 + h) 0xC001 ((if write = true then 2 ^ 31 else 0) + a.toNat % 2 ^ 26)).raise Reg.SYS_EVT 3).exception h 2 sub
      (some a) := by
  cases write <;> rfl

theorem Dev.sysrdAt_refused (d : Dev) {h : Nat} (rd : BitVec 4) {a : Word} (dmg : Damage)
    (ha : a.toNat % 4 ≠ 0 ∨ (isSr a.toNat = false ∧ mayRead ((d.laneOf h).getD 0) a.toNat = false)) :
    d.sysrdAt h rd a dmg = d.privFault h 1 a false := by
  by_cases h4 : a.toNat % 4 = 0
  · obtain ⟨hs, hm⟩ := ha.resolve_left (not_not.mpr h4)
    simp [Dev.sysrdAt, h4, hs, hm]
  · exact if_pos h4

theorem Dev.syswrAt_refused (d : Dev) {h : Nat} {a : Word} (w : Word)
    (ha : a.toNat % 4 ≠ 0 ∨ (isSr a.toNat = false ∧ mayWrite ((d.laneOf h).getD 0) a.toNat = false ∧
      mayRead ((d.laneOf h).getD 0) a.toNat = false)) : d.syswrAt h a w = d.privFault h 1 a true := by
  by_cases h4 : a.toNat % 4 = 0
  · obtain ⟨hs, hw, hm⟩ := ha.resolve_left (not_not.mpr h4)
    simp [Dev.syswrAt, h4, hs, hm, hw]
  · exact if_pos h4

theorem Dev.syswrAt_readOnly (d : Dev) {h : Nat} {a : Word} (w : Word) (h4 : a.toNat % 4 = 0) (hs : isSr a.toNat = false)
    (hw : mayWrite ((d.laneOf h).getD 0) a.toNat = false) (hm : mayRead ((d.laneOf h).getD 0) a.toNat = true) :
    d.syswrAt h a w = d.privFault h 2 a true := by
  simp [Dev.syswrAt, h4, hs, hm, hw]

theorem branchMailboxAndAccessTraps : Claim.BranchMailboxAndAccessTraps := by
  intro s i c rs ra rd off o dmg x d n target outside a fetch priv
  have hthr : (d.hearth i.hearth).thr = x.thr := s.dev.thr_hearth_issued i.hearth
  have hurg : (d.hearth i.hearth).urgOn = x.urgOn := by rw [s.dev.hearth_issued]
  refine ⟨fun hr ho => ?_, fun hr hc ho => ?_, fun hr ho => ?_, fun hr hw ho => ?_, fun hr ho => ?_, fun hr hu => ?_, fun hr hu => ?_,
    fun hr ha => ?_, fun hr ha => ?_, fun hr h4 hs hw hm => ?_⟩
  · refine goes_issue (y := .br off) rfl rfl hr ?_
    rw [hthr]
    exact d.jump_outside _ ho
  · refine goes_issue (y := .bcc c off) rfl rfl hr ?_
    rw [hthr, if_pos hc]
    exact d.jump_outside _ ho
  · refine goes_issue (y := .call off) rfl rfl hr ?_
    rw [hthr]
    exact d.jump_outside _ ho
  · refine goes_issue (y := .loop rd off) rfl rfl hr ?_
    dsimp only
    rw [hthr, if_neg (mt sub_eq_zero.mp hw)]
    exact d.jump_outside _ ho
  · refine goes_issue (y := .ret ra) rfl rfl hr ?_
    rw [hthr]
    exact d.jump_outside _ (.inr (by omega))
  · refine goes_issue (y := .uret) rfl rfl hr ?_
    dsimp only
    rw [if_pos (by rw [hurg, hu]; rfl)]
  · refine goes_issue (y := .mput rs 0) rfl rfl hr ?_
    dsimp only
    rw [if_pos rfl, if_pos (hurg.trans hu)]
  · exact goes_sysrd hr ((d.sysrdAt_refused rd dmg ha).trans (d.privFault_eq _ _ _ _))
  · exact goes_syswr hr ((d.syswrAt_refused _ ha).trans (d.privFault_eq _ _ _ _))
  · exact goes_syswr hr ((d.syswrAt_readOnly _ h4 hs hw hm).trans (d.privFault_eq _ _ _ _))

/-- Settles O14: every trap is the first thing its instruction does, so each is one `Dev.exception` on the device as the issue leaves it.
A ret outside instruction memory trapping with FETCH (log 40), the range looked at before the alignment (log 51) and the access checked
before a wait in URGENT (log 55) are the model's choices. -/
theorem trapsOfOperands : Obligations.TrapsOfOperands := ⟨waitInUrgentTraps, badDataAddressTraps, branchMailboxAndAccessTraps⟩

end Sys2Proof.Machine
end

section
/-! The instructions of the hob: what hput, hget and hwait do, and the pending word (R205, R212, R222, R230). -/

namespace Sys2Proof.Machine

/-! ## Threads and hearths -/

/-- A change of the present thread leaves everything else of the hearth. -/
theorem Hearth.setThr_frame (x : Hearth) (t : Thread) : x.setThr t = { x with main := (x.setThr t).main, urg := (x.setThr t).urg } := by
  unfold Hearth.setThr
  split <;> rfl

/-- An instruction that changes its hearth and its thread. -/
theorem Dev.updHearth_thr_issued (d : Dev) (h : Nat) (f : Hearth → Hearth) (g : Thread → Thread) :
    ((d.issued h).updHearth h f).thr h g =
      let y := f { d.hearth h with lastRetire := d.now }
      d.setHearth h (y.setThr (g y.thr).next) := by
  rw [Dev.updHearth_issued, Dev.thr_eq, Dev.hearth_setHearth_same, Dev.setHearth_setHearth]

/-- MAIN starts to wait at the instruction. -/
theorem Dev.waitFor_issued (d : Dev) (h : Nat) (w : Wait) :
    (d.issued h).waitFor h w = d.setHearth h { d.hearth h with lastRetire := d.now, wait := some w } := d.updHearth_issued h _

theorem Dev.waitIns_due {d : Dev} {h : Nat} (hd : d.applyDue h = true) (w : Wait) (f : Dev → Dev) : d.waitIns h w f = d.waitFor h w :=
  if_pos hd

theorem Dev.waitIns_free {d : Dev} {h : Nat} (hd : d.applyDue h = false) (w : Wait) (f : Dev → Dev) : d.waitIns h w f = f d :=
  if_neg (by rw [hd]; exact Bool.false_ne_true)

theorem HobUnit.idle_iff (q : HobUnit) : q.idle = true ↔ q.queue = [] ∧ q.running = none := by
  simp [HobUnit.idle]

/-! ## What hget reads (R212) -/

theorem Hearth.result_eq (x : Hearth) (u sel : Nat) : x.result u sel =
    if u = 1 ∧ sel = 1 then x.freq else if u = 2 ∧ sel = 1 then BitVec.ofNat 32 (x.ratio / 65536)
    else if u = 6 ∧ sel = 1 then BitVec.ofNat 32 x.tiOut else if u = 7 ∧ sel = 1 then BitVec.ofNat 32 x.armed
    else SMap.get 0 (x.unit u).results sel := by
  unfold Hearth.result
  split
  case h_5 h1 h2 h6 h7 => rw [if_neg fun h => h1 h.1 h.2, if_neg fun h => h2 h.1 h.2, if_neg fun h => h6 h.1 h.2, if_neg fun h => h7 h.1 h.2]
  all_goals rfl

theorem HobUnit.status_fields (q : HobUnit) : getBits q.status 31 24 = q.err % 256 ∧ getBits q.status 23 16 = q.done % 256 ∧
    getBits q.status 15 8 = 0 ∧ getBits q.status 7 4 = q.queue.length % 16 ∧ getBits q.status 3 1 = 0 ∧
    getBits q.status 0 0 = (if q.running.isSome = true then 1 else 0) := by
  have hb : b2n q.running.isSome = if q.running.isSome = true then 1 else 0 := rfl
  have hle : (if q.running.isSome = true then 1 else 0) ≤ 1 := by split <;> omega
  simp only [HobUnit.status, getBits_ofNat, hb]
  refine ⟨?_, ?_, ?_, ?_, ?_, ?_⟩ <;> omega

/-! ## The instructions -/

section
variable {s : State} {i : Issue} {rd unit cmd ws : BitVec 4} {imm : BitVec 12} {sel : BitVec 16}

/-- An hput whose command and descriptor are accepted. -/
theorem goes_hput {t : Dev} (hr : Ready s.dev i (.hput unit cmd ws imm) = true) (hc : cmd.toNat < unitCmds unit.toNat)
    (ha : takesDesc unit.toNat cmd.toNat = true →
      ((s.dev.hearth i.hearth).thr.reg ws).toNat % 4 = 0 ∧ ((s.dev.hearth i.hearth).thr.reg ws).toNat + 16 ≤ 0x8000)
    (ht : (if (({ s.dev.hearth i.hearth with lastRetire := s.dev.now } : Hearth).unit unit.toNat).queue.length < 4 then
        ((s.dev.issued i.hearth).hobQueue i.hearth unit.toNat
          ⟨cmd.toNat, (s.dev.hearth i.hearth).thr.reg ws, imm.toNat, s.dev.now⟩).thr i.hearth id
      else if (s.dev.hearth i.hearth).urgOn then (s.dev.issued i.hearth).exception i.hearth 1 4 none
      else (s.dev.issued i.hearth).waitFor i.hearth (.hput unit.toNat cmd.toNat ((s.dev.hearth i.hearth).thr.reg ws) imm.toNat)) = t) :
    Goes (.hput i unit cmd ws imm) s t := by
  refine goes_issue (y := .hput unit cmd ws imm) rfl (decide_eq_true hc) hr ?_
  dsimp only
  rw [Dev.thr_hearth_issued, Dev.hearth_issued]
  cases hd : takesDesc unit.toNat cmd.toNat with
  | false => exact (if_neg Bool.false_ne_true).trans ht
  | true =>
    obtain ⟨h1, h2⟩ := ha hd
    rw [if_pos rfl, Dev.dmem_inside _ h1 h2 (by decide)]
    exact ht

theorem hobInstructionsQueueReadAndWait : Claim.HobInstructionsQueueReadAndWait := by
  intro s i rd unit cmd ws imm sel h x q a putOk getOk
  have hx : (s.dev.issued h).hearth h = x := s.dev.hearth_issued h
  have hget : getOk → ∀ {t : Dev}, (if sel = 0 then
        ((s.dev.issued h).updHearth h (fun x => x.setUnit unit.toNat { q with herr := false })).thr h (fun t => t.setReg rd q.status)
      else if sel.toNat ≤ unitSels unit.toNat then
        (s.dev.issued h).thr h (fun t => t.setReg rd (x.result unit.toNat sel.toNat))
      else (s.dev.issued h).fresh.2.thr h (fun t => t.setReg rd (s.dev.issued h).fresh.1)) = t → Goes (.hget i rd unit sel) s t := by
    rintro ⟨hr, hu⟩ t ht
    refine goes_issue (y := .hget rd unit sel) rfl (decide_eq_true hu) hr ?_
    dsimp only
    rw [show i.hearth = h from rfl, hx]
    exact ht
  refine ⟨fun ⟨hr, hc, ha⟩ hq => ?_, fun ⟨hr, hc, ha⟩ hq hu => ?_, fun hok h0 => ?_, fun hok h1 hs => ?_, fun hok hs => ?_,
    fun hr hu9 hu => ⟨fun hi hd => ?_, fun hi => ?_⟩⟩
  · refine goes_hput hr hc ha ((if_pos hq).trans ?_)
    exact s.dev.updHearth_thr_issued h _ id
  · refine goes_hput hr hc ha ((if_neg (not_lt.mpr hq)).trans ((if_neg (by rw [hu]; exact Bool.false_ne_true)).trans ?_))
    exact s.dev.waitFor_issued h _
  · obtain ⟨h1, h2, h3, h4, h5, h6⟩ := q.status_fields
    refine ⟨q.status, h1, h2, h3, h4, h5, h6, hget hok ((if_pos h0).trans ?_)⟩
    exact s.dev.updHearth_thr_issued h _ _
  · have hne : sel ≠ 0 := fun h0 => by rw [h0] at h1; exact absurd h1 (by decide)
    have hu : ∀ k : Nat, k < 16 → (unit.toNat = k ↔ unit = BitVec.ofNat 4 k) := fun k hk => by
      rw [← BitVec.toNat_inj, BitVec.toNat_ofNat, Nat.mod_eq_of_lt hk]
    have hs1 : sel.toNat = 1 ↔ sel = 1 := by rw [← BitVec.toNat_inj]; rfl
    have hres := x.result_eq unit.toNat sel.toNat
    simp only [hu 1 (by decide), hu 2 (by decide), hu 6 (by decide), hu 7 (by decide), hs1] at hres
    refine retires_setReg (hget hok ((if_neg hne).trans ((if_pos hs).trans ?_)))
    rw [hres]
    rfl
  · have hne : sel ≠ 0 := fun h0 => by rw [h0] at hs; exact absurd hs (Nat.not_lt_zero _)
    refine ⟨Config.freeWord s.dev.free, hget hok ((if_neg hne).trans ((if_neg (not_le.mpr hs)).trans ?_))⟩
    have hthr := s.dev.thr_issued h (fun t => t.setReg rd (Config.freeWord s.dev.free))
    exact congrArg (fun e : Dev => { e with free := s.dev.free + 1 }) hthr
  · have hidle : (x.unit unit.toNat).idle = true := (HobUnit.idle_iff _).mpr hi
    refine retires_thr (f := id) (goes_issue (y := .hwait unit) rfl (decide_eq_true hu9) hr ?_) rfl
    dsimp only
    rw [show i.hearth = h from rfl, hx, if_neg (by rw [hu]; exact Bool.false_ne_true), Dev.waitIns_free hd, if_pos hidle]
  · refine goes_issue (y := .hwait unit) rfl (decide_eq_true hu9) hr ?_
    dsimp only
    rw [show i.hearth = h from rfl, hx, if_neg (by rw [hu]; exact Bool.false_ne_true)]
    refine Eq.trans ?_ (s.dev.waitFor_issued h _)
    cases hd : (s.dev.issued h).applyDue h with
    | true => exact Dev.waitIns_due hd _ _
    | false =>
      have hbusy := hi.resolve_right (by rw [hd]; exact Bool.false_ne_true)
      rw [Dev.waitIns_free hd, if_neg (mt (HobUnit.idle_iff _).mp hbusy)]

end

/-! ## The pending word (R222) -/

/-- A hearth whose ashpit ticket 0, issued at time 1, has completed. -/
def ticketOfTimeOne : Hearth := { ashes := [(0, some { desc := ⟨0, 0, 0, 0⟩, done := some 0, at_ := 1 })] }

theorem ticketOfTimeOne_ash_at {t : Nat} {k : ATicket} (h : ticketOfTimeOne.ash t = some k) : k.at_ = 1 := by
  cases t with
  | zero =>
    obtain rfl := Option.some.inj h.symm
    rfl
  | succ t => exact absurd h.symm (Option.some_ne_none k)

/-- Refutes O15: the clause of bit 2 of the pending word writes its completed ticket with the defaults of `ATicket`, as one issued at time
0; a ticket issued at time 1 that has completed sets the bit and is none of those. (The claim on hput, hget and hwait holds:
`hobInstructionsQueueReadAndWait`.) -/
theorem not_hobInstructionsAndPendingWord : ¬ Obligations.HobInstructionsAndPendingWord := by
  rintro ⟨-, hbits⟩
  obtain ⟨-, -, h2, -⟩ := hbits ticketOfTimeOne
  obtain ⟨t, -, k, r, hk⟩ := h2.mp (by decide)
  exact Nat.zero_ne_one (ticketOfTimeOne_ash_at hk)

end Sys2Proof.Machine
end

section
/-! Tickets of the ovens and of the ashpit: taken by oreq and areq, collected by oawait and aawait (R215, R216, R218, R219, R230, R478). -/

namespace Sys2Proof.Machine

/-! ## The lowest free ticket -/

section
variable {α : Type} {n : Nat} {q : Nat → Option α}

theorem find_free_none (h : ∀ t < n, (q t).isSome = true) : (List.range n).find? (fun t => (q t).isNone) = none := by
  rw [List.find?_range_eq_none]
  intro t ht
  simp [Option.isNone_eq_false_iff.mpr (h t ht)]

theorem find_free_lowest {t : Nat} (ht : t < n) (hq : q t = none) (hlow : ∀ k < t, (q k).isSome = true) :
    (List.range n).find? (fun t => (q t).isNone) = some t := by
  rw [List.find?_range_eq_some]
  refine ⟨by simp [hq], List.mem_range.mpr ht, fun k hk => ?_⟩
  simp [Option.isNone_eq_false_iff.mpr (hlow k hk)]

end

/-! ## oreq (R215, R216, R478) -/

section
variable {s : State} {i : Issue} {pd : BitVec 2} {wd ws : BitVec 4}

/-- The device once a request's ticket and success are written. -/
def Dev.ticketTaken (e : Dev) (h : Nat) (wd : BitVec 4) (pd : BitVec 2) (t : Nat) : Dev :=
  e.thr h (fun th => (th.setReg wd (BitVec.ofNat 32 t)).setPred pd true)

/-- An oreq with a readable descriptor: the lowest free ticket takes its request, or none is free. -/
theorem goes_oreq (hr : Ready s.dev i (.oreq pd wd ws) = true) (ha : ((s.dev.hearth i.hearth).thr.reg ws).toNat % 4 = 0)
    (hin : ((s.dev.hearth i.hearth).thr.reg ws).toNat + 32 ≤ 0x8000) {free : Option Nat} {t : Dev}
    (hf : (s.dev.hearth i.hearth).freeOven = free)
    (ht : (match free with
      | none => (s.dev.issued i.hearth).thr i.hearth (fun t => t.setPred pd false)
      | some k => ((s.dev.issued i.hearth).ovenSubmit i.hearth k
          ((s.dev.hearth i.hearth).dmem.readODesc ((s.dev.hearth i.hearth).thr.reg ws).toNat)).ticketTaken i.hearth wd pd k) = t) :
    Goes (.oreq i pd wd ws .clean) s t := by
  refine goes_issue (y := .oreq pd wd ws) rfl rfl hr ?_
  have hf' : ((s.dev.issued i.hearth).hearth i.hearth).freeOven = free := by rw [Dev.hearth_issued]; exact hf
  dsimp only
  rw [Dev.thr_hearth_issued, Dev.dmem_inside _ ha hin (by decide), Dev.eccThen, hf', Dev.hearth_issued]
  cases free with
  | none => exact ht
  | some k => exact ht

theorem ovenTrellis_of_ok {o : ODesc} (ho : o.ok = true) : ovenTrellis (o.code.toNat % 65536) = decide (2 ≤ o.code.toNat / 4096) := by
  simp only [ODesc.ok, Bool.and_eq_true, beq_iff_eq] at ho
  obtain ⟨⟨⟨⟨⟨⟨⟨⟨hcode, -⟩, -⟩, -⟩, -⟩, -⟩, -⟩, -⟩, -⟩ := ho
  have hlt : o.code.toNat < 65536 := by
    have hb : getBits o.code 31 16 = o.code.toNat / 2 ^ 16 % 2 ^ 16 := by simp [getBits, Nat.shiftRight_eq_div_pow]
    have := o.code.isLt
    omega
  rw [Nat.mod_eq_of_lt hlt]
  rfl

end

/-! ## oawait and aawait -/

section
variable {s : State} {i : Issue} {rd ra : BitVec 4} {t : Dev}

theorem goes_oawait (hr : Ready s.dev i (.oawait rd ra) = true) (hu : (s.dev.hearth i.hearth).urgOn = false)
    (ht : (s.dev.issued i.hearth).waitIns i.hearth (.oawait rd.toNat ((s.dev.hearth i.hearth).thr.reg ra)) (fun d =>
      match (if ((s.dev.hearth i.hearth).thr.reg ra).toNat < 4 then
          (s.dev.hearth i.hearth).oven ((s.dev.hearth i.hearth).thr.reg ra).toNat else none) with
      | none => d.thr i.hearth (fun th => th.setReg rd 0x05000000)
      | some k => match k.done with
        | some w => (d.updHearth i.hearth (fun x => x.setOven ((s.dev.hearth i.hearth).thr.reg ra).toNat none)).thr i.hearth
            (fun th => th.setReg rd w)
        | none => d.waitFor i.hearth (.oawait rd.toNat ((s.dev.hearth i.hearth).thr.reg ra))) = t) : Goes (.oawait i rd ra) s t := by
  refine goes_issue (y := .oawait rd ra) rfl rfl hr ?_
  dsimp only
  rw [Dev.thr_hearth_issued, Dev.hearth_issued, if_neg (by rw [hu]; exact Bool.false_ne_true)]
  exact ht

theorem goes_aawait (hr : Ready s.dev i (.aawait rd ra) = true) (hu : (s.dev.hearth i.hearth).urgOn = false)
    (ht : (s.dev.issued i.hearth).waitIns i.hearth (.aawait rd.toNat ((s.dev.hearth i.hearth).thr.reg ra)) (fun d =>
      match (if ((s.dev.hearth i.hearth).thr.reg ra).toNat < 8 then
          (s.dev.hearth i.hearth).ash ((s.dev.hearth i.hearth).thr.reg ra).toNat else none) with
      | none => d.thr i.hearth (fun th => th.setReg rd 0x05000000)
      | some k => match k.done with
        | some w => (d.updHearth i.hearth (fun x => x.setAsh ((s.dev.hearth i.hearth).thr.reg ra).toNat none)).thr i.hearth
            (fun th => th.setReg rd w)
        | none => d.waitFor i.hearth (.aawait rd.toNat ((s.dev.hearth i.hearth).thr.reg ra))) = t) : Goes (.aawait i rd ra) s t := by
  refine goes_issue (y := .aawait rd ra) rfl rfl hr ?_
  dsimp only
  rw [Dev.thr_hearth_issued, Dev.hearth_issued, if_neg (by rw [hu]; exact Bool.false_ne_true)]
  exact ht

end

/-- The entry a ticket number reaches, where it is none. -/
theorem ticket_none {α : Type} {t n : Nat} {q : Option α} (h : n ≤ t ∨ q = none) : (if t < n then q else none) = none := by
  rcases h with h | h
  · exact if_neg (not_lt.mpr h)
  · rw [h, ite_self]

theorem ovenTicketsAreTakenAndCollected : Claim.OvenTicketsAreTakenAndCollected := by
  intro s i pd wd ws rd ra h d x o ready taken r done
  refine ⟨fun ⟨hr, ha, hin⟩ hall => ?_, fun t ht4 ⟨hr, ha, hin⟩ hq hlow => ?_, fun hr hu => ?_⟩
  · exact retires_thr (f := fun t => t.setPred pd false) (goes_oreq hr ha hin (find_free_none hall) rfl) rfl
  · have hsubmit : ∀ {e : Dev}, d.ovenSubmit h t o = e → Goes (.oreq i pd wd ws .clean) s (done e t) := fun he =>
      goes_oreq hr ha hin (find_free_lowest ht4 hq hlow) (congrArg (fun e : Dev => done e t) he)
    have hsmp : ((taken t).hearth h).smp = x.smp := by
      simp only [taken, Dev.hearth_updHearth_same, d, Dev.hearth_issued]
      rfl
    have heq : d.ovenSubmit h t o = if d.wrapped 5 = true then (taken t).ovenReturn (r t) 0x03000000 else if d.held 5 = true then taken t
        else if (!o.ok) = true then (taken t).ovenReturn (r t) 0x04000000
        else if of64 o.dlo o.dhi ≤ ((taken t).hearth h).smp then (taken t).ovenLate (r t)
        else ((taken t).enqueue (r t) (ovenTrellis (o.code.toNat % 65536)) false).scheduleAll := rfl
    rw [hsmp] at heq
    refine ⟨fun hw => ?_, fun hw hh => ?_, fun hw hh ho => ?_, fun hw hh ho hl => ?_, fun hw hh ho hl => ?_⟩
    · refine hsubmit (heq.trans ?_)
      rw [if_pos hw]
      rfl
    · refine hsubmit (heq.trans ?_)
      rw [if_neg (ne_true_of_eq_false hw), if_pos hh]
    · refine hsubmit (heq.trans ?_)
      rw [if_neg (ne_true_of_eq_false hw), if_neg (ne_true_of_eq_false hh), if_pos (by rw [ho]; rfl)]
      rfl
    · refine hsubmit (heq.trans ?_)
      rw [if_neg (ne_true_of_eq_false hw), if_neg (ne_true_of_eq_false hh), if_neg (by rw [ho]; decide), if_pos hl]
      rfl
    · refine hsubmit (heq.trans ?_)
      rw [if_neg (ne_true_of_eq_false hw), if_neg (ne_true_of_eq_false hh), if_neg (by rw [ho]; decide), if_neg (not_le.mpr hl),
        ovenTrellis_of_ok ho]
  · intro t
    refine ⟨fun hn hd => ?_, fun w ht hk hd => ?_, fun hn => ?_⟩
    · refine retires_setReg (goes_oawait hr hu ?_)
      rw [Dev.waitIns_free hd, ticket_none hn]
    · refine goes_oawait hr hu ?_
      rw [Dev.waitIns_free hd, if_pos ht, hk]
    · refine goes_oawait hr hu ?_
      cases hd : (s.dev.issued i.hearth).applyDue i.hearth with
      | true => exact Dev.waitIns_due hd _ _
      | false =>
        obtain ⟨ht, hk⟩ := hn.resolve_right (ne_true_of_eq_false hd)
        rw [Dev.waitIns_free hd, if_pos ht, hk]
        rfl

theorem ashpitTicketsAreTakenAndCollected : Claim.AshpitTicketsAreTakenAndCollected := by
  intro s i pd wd ws rd ra h d x a ready held
  have hareq : ready → ∀ {free : Option Nat} {t : Dev}, x.freeAsh = free →
      (match free with
        | none => d.thr h (fun t => t.setPred pd false)
        | some k => (d.updHearth h (fun y => y.setAsh k (some { desc := y.dmem.readDesc a, at_ := s.dev.now }))).ticketTaken h wd pd k) = t →
      Goes (.areq i pd wd ws .clean) s t := by
    rintro ⟨hr, ha, hin⟩ free t hf ht
    refine goes_issue (y := .areq pd wd ws) rfl rfl hr ?_
    have hf' : ((s.dev.issued i.hearth).hearth i.hearth).freeAsh = free := by rw [Dev.hearth_issued]; exact hf
    dsimp only
    rw [Dev.thr_hearth_issued, Dev.dmem_inside _ ha hin (by decide), Dev.eccThen, hf']
    cases free with
    | none => exact ht
    | some k => exact ht
  refine ⟨fun hok h8 => ?_, fun t ht8 hok hlt hq hlow => ?_, fun hr hu => ?_⟩
  · exact retires_thr (f := fun t => t.setPred pd false) (hareq hok (if_neg (not_lt.mpr h8)) rfl) rfl
  · refine hareq hok ((if_pos hlt).trans (find_free_lowest ht8 hq hlow)) ?_
    have hmem : (d.hearth h).dmem = x.dmem := by rw [s.dev.hearth_issued]
    dsimp only [Dev.updHearth]
    rw [hmem]
    rfl
  · intro t
    refine ⟨fun hn hd => ?_, fun k w ht hk hw hd => ?_, fun hn => ?_⟩
    · refine retires_setReg (goes_aawait hr hu ?_)
      rw [Dev.waitIns_free hd, ticket_none hn]
    · refine goes_aawait hr hu ?_
      rw [Dev.waitIns_free hd, if_pos ht, hk]
      dsimp only
      rw [hw]
    · refine goes_aawait hr hu ?_
      cases hd : (s.dev.issued i.hearth).applyDue i.hearth with
      | true => exact Dev.waitIns_due hd _ _
      | false =>
        obtain ⟨ht, k, hk, hnone⟩ := hn.resolve_right (ne_true_of_eq_false hd)
        rw [Dev.waitIns_free hd, if_pos ht, hk]
        dsimp only
        rw [hnone]
        rfl

/-- Settles O16: a request takes the lowest free ticket and is submitted by one operation, an await looks at its ticket once. The status
behind the pool's wrapper (log 45), LATE at the submission (log 49) and the lowest free ticket (log 51) are the model's choices. -/
theorem ticketsAreTakenAndCollected : Obligations.TicketsAreTakenAndCollected :=
  ⟨ovenTicketsAreTakenAndCollected, ashpitTicketsAreTakenAndCollected⟩

end Sys2Proof.Machine
end

section
/-! Waits for time and events, alerts, output units and mailboxes (R221 to R230). -/

namespace Sys2Proof.Machine

/-! ## What a change of a hearth's record leaves -/

theorem Dev.laneOf_setHearth (d : Dev) (h : Nat) (y : Hearth) (k : Nat) : (d.setHearth h y).laneOf k = d.laneOf k := rfl
theorem Dev.bound_setHearth (d : Dev) (h : Nat) (y : Hearth) (n : Nat) : (d.setHearth h y).bound n = d.bound n := rfl
theorem Dev.lane_setHearth (d : Dev) (h : Nat) (y : Hearth) (n : Nat) : (d.setHearth h y).lane n = d.lane n := rfl
theorem Dev.laneOf_issued (d : Dev) (h k : Nat) : (d.issued h).laneOf k = d.laneOf k := d.laneOf_setHearth h _ k
theorem Dev.bound_issued (d : Dev) (h n : Nat) : (d.issued h).bound n = d.bound n := d.bound_setHearth h _ n
theorem Dev.lane_issued (d : Dev) (h n : Nat) : (d.issued h).lane n = d.lane n := rfl
theorem Dev.laneOf_thr (d : Dev) (h : Nat) (f : Thread → Thread) (k : Nat) : (d.thr h f).laneOf k = d.laneOf k := d.laneOf_setHearth h _ k
theorem Dev.bound_thr (d : Dev) (h : Nat) (f : Thread → Thread) (n : Nat) : (d.thr h f).bound n = d.bound n := d.bound_setHearth h _ n
theorem Dev.lane_thr (d : Dev) (h : Nat) (f : Thread → Thread) (n : Nat) : (d.thr h f).lane n = d.lane n := rfl
theorem Dev.updLane_setHearth (d : Dev) (h n : Nat) (y : Hearth) (f : Lane → Lane) :
    (d.updLane n f).setHearth h y = (d.setHearth h y).updLane n f := rfl

/-! ## tick and yield (R221, R222, R230) -/

section
variable {s : State} {i : Issue} {rd ra : BitVec 4} {mask : BitVec 16} {t : Dev}

theorem goes_tick (hr : Ready s.dev i (.tick rd ra) = true) (hu : (s.dev.hearth i.hearth).urgOn = false)
    (ht : (s.dev.issued i.hearth).waitIns i.hearth (.tick rd.toNat ((s.dev.hearth i.hearth).thr.reg ra)) (fun d =>
      if (s.dev.hearth i.hearth).tickReady ((s.dev.hearth i.hearth).thr.reg ra) = true then d.tickDone i.hearth rd
      else d.waitFor i.hearth (.tick rd.toNat ((s.dev.hearth i.hearth).thr.reg ra))) = t) : Goes (.tick i rd ra) s t := by
  refine goes_issue (y := .tick rd ra) rfl rfl hr ?_
  dsimp only
  rw [Dev.thr_hearth_issued, Dev.hearth_issued, if_neg (ne_true_of_eq_false hu)]
  exact ht

theorem goes_yield (hr : Ready s.dev i (.yield rd mask) = true) (hu : (s.dev.hearth i.hearth).urgOn = false)
    (ht : (s.dev.issued i.hearth).waitIns i.hearth (.yield rd.toNat mask.toNat) (fun d =>
      if (s.dev.hearth i.hearth).yieldReady (mask.setWidth 32) = true then d.yieldDone i.hearth rd
      else d.waitFor i.hearth (.yield rd.toNat mask.toNat)) = t) : Goes (.yield i rd mask) s t := by
  refine goes_issue (y := .yield rd mask) rfl rfl hr ?_
  dsimp only
  rw [Dev.hearth_issued, if_neg (ne_true_of_eq_false hu)]
  exact ht

/-- A wait instruction whose condition does not hold, or that a due page holds up, waits. -/
theorem Dev.waitIns_waits {d : Dev} {h : Nat} {w : Wait} {p : Prop} [Decidable p] {f : Dev → Dev} (hp : ¬p ∨ d.applyDue h = true) :
    d.waitIns h w (fun d => if p then f d else d.waitFor h w) = d.waitFor h w := by
  cases hd : d.applyDue h with
  | true => exact Dev.waitIns_due hd _ _
  | false => exact (Dev.waitIns_free hd _ _).trans (if_neg (hp.resolve_right (ne_true_of_eq_false hd)))

theorem Hearth.tickReady_iff (x : Hearth) (a : Word) : x.tickReady a = true ↔ 0 ≤ (BitVec.ofNat 32 x.smp - a).toInt := by
  rw [Hearth.tickReady, BitVec.msb_eq_toInt, Bool.not_eq_true', decide_eq_false_iff_not, not_lt]
  rfl

theorem Hearth.yieldReady_iff (x : Hearth) (m : Word) : x.yieldReady m = true ↔ m = 0 ∨ x.pendingWord &&& m ≠ 0 := by
  simp [Hearth.yieldReady]

theorem setWidth_eq_zero_iff (m : BitVec 16) : m.setWidth 32 = 0 ↔ m = 0 := by
  rw [← BitVec.toNat_inj, ← BitVec.toNat_inj, BitVec.toNat_setWidth_of_le (by decide)]
  rfl

end

theorem tickAndYieldPassOrWait : Claim.TickAndYieldPassOrWait := by
  intro s i rd ra mask h x S pend due
  have hyield : x.yieldReady (mask.setWidth 32) = true ↔ mask = 0 ∨ pend &&& mask.setWidth 32 ≠ 0 := by
    rw [x.yieldReady_iff, setWidth_eq_zero_iff]
  refine ⟨fun hr hu => ⟨fun hS hd => ?_, fun hS => ?_⟩, fun hr hu => ⟨fun hm hd => ?_, fun hm => ?_⟩⟩
  · refine goes_tick hr hu ((Dev.waitIns_free hd _ _).trans ((if_pos ((x.tickReady_iff _).mpr hS)).trans ?_))
    refine (s.dev.updHearth_thr_issued h _ _).trans ?_
    rw [s.dev.hearth_issued]
    rfl
  · refine goes_tick hr hu ((Dev.waitIns_waits ?_).trans (s.dev.waitFor_issued h _))
    exact hS.imp_left fun hlt hready => absurd ((x.tickReady_iff _).mp hready) (not_le.mpr hlt)
  · refine goes_yield hr hu ((Dev.waitIns_free hd _ _).trans ((if_pos (hyield.mpr hm)).trans ?_))
    refine (s.dev.updHearth_thr_issued h _ _).trans ?_
    rw [s.dev.hearth_issued]
    rfl
  · refine goes_yield hr hu ((Dev.waitIns_waits ?_).trans (s.dev.waitFor_issued h _))
    exact hm.imp_left fun ⟨h0, hp⟩ hready => (hyield.mp hready).elim h0 fun hne => hne hp

/-! ## fwal and flput (R223 to R225) -/

theorem getBits_eq_div (w : Word) (hi lo : Nat) : getBits w hi lo = w.toNat / 2 ^ lo % 2 ^ (hi + 1 - lo) := by
  simp [getBits, Nat.shiftRight_eq_div_pow]

/-- What the fields of a descriptor that flput accepts say. -/
theorem Desc.uOk_of {k : Desc} (h1 : getBits k.d0 15 10 = 0) (h2 : getBits k.d0 8 3 = 0) (h3 : 1 ≤ getBits k.d0 31 16)
    (h4 : getBits k.d0 31 16 ≤ 4096) (h5 : k.d1.toNat + getBits k.d0 31 16 ≤ 0x8000) : k.uOk = true := by
  rw [getBits_eq_div] at h2
  have h7 : getBits k.d0 7 3 = 0 := by
    rw [getBits_eq_div]
    omega
  have h8 : bit k.d0 8 = false := by
    simp only [bit, BitVec.getLsbD, Nat.testBit_eq_decide_div_mod_eq, decide_eq_false_iff_not]
    omega
  simp [Desc.uOk, Desc.uLen, h1, h7, h8, h3, h4, h5]

section
variable {s : State} {i : Issue} {ra : BitVec 4} {copying : Bool} {t : Dev}

theorem goes_flput (hr : Ready s.dev i (.flput ra) = true) (hu : (s.dev.hearth i.hearth).urgOn = false)
    (ha : ((s.dev.hearth i.hearth).thr.reg ra).toNat % 4 = 0) (hin : ((s.dev.hearth i.hearth).thr.reg ra).toNat + 16 ≤ 0x8000)
    (hok : ((s.dev.hearth i.hearth).dmem.readDesc ((s.dev.hearth i.hearth).thr.reg ra).toNat).uOk = true)
    (ht : (if (copying || decide (64 ≤ (s.dev.hearth i.hearth).flq.length)) = true then
        (s.dev.issued i.hearth).waitFor i.hearth (.flput ((s.dev.hearth i.hearth).thr.reg ra))
      else (s.dev.issued i.hearth).waitIns i.hearth (.flput ((s.dev.hearth i.hearth).thr.reg ra)) (fun d =>
        (d.thr i.hearth id).flputUnit i.hearth
          ((s.dev.hearth i.hearth).dmem.readDesc ((s.dev.hearth i.hearth).thr.reg ra).toNat))) = t) :
    Goes (.flput i ra ⟨.clean, copying⟩) s t := by
  refine goes_issue (y := .flput ra) rfl rfl hr ?_
  dsimp only
  rw [Dev.thr_hearth_issued, Dev.dmem_inside _ ha hin (by decide), Dev.eccThen, Dev.hearth_issued, if_neg (ne_true_of_eq_false hu)]
  dsimp only
  rw [if_neg (by rw [hok]; decide)]
  exact ht

end

theorem Dev.role_eq (d : Dev) (h : Nat) :
    d.role h = if d.hstate h = stJoining then 2 else if d.hstate h = stShadow then 1 else 0 := rfl

theorem Dev.role_joining (d : Dev) (h : Nat) : (d.role h == 2) = decide (d.hstate h = stJoining) := by
  rw [Dev.role_eq]
  by_cases hj : d.hstate h = stJoining
  · simp [hj]
  · have h21 : ((if d.hstate h = stShadow then 1 else 0) == 2) = false := by split <;> rfl
    rw [if_neg hj, h21, decide_eq_false hj]

section
variable {d : Dev} {h n : Nat} {k : Desc}

/-- A unit that does not increase is discarded and counted. -/
theorem Dev.flputUnit_old {p : Nat} (hp : (d.hearth h).lastUnit = some p) (hle : k.uPair ≤ p) (hl : d.laneOf h = some n) :
    d.flputUnit h k = (d.updHearth h (fun y => { y with flbad := min (y.flbad + 1) (2 ^ 32 - 1) })).sootE 1 (0x80 + h) 0x4005 (n * 65536) := by
  unfold Dev.flputUnit
  dsimp only
  refine (if_pos ?_).trans ?_
  · rw [hp]
    exact decide_eq_true hle
  · rw [hl]
    rfl

/-- Any other enters the output queue. -/
theorem Dev.flputUnit_new (hlt : ∀ p, (d.hearth h).lastUnit = some p → p < k.uPair) : d.flputUnit h k =
    (d.updHearth h (fun y => { y with lastUnit := some k.uPair, flq := y.flq ++ [d.unitOf h k] })).flDrain h := by
  unfold Dev.flputUnit
  dsimp only
  cases hp : (d.hearth h).lastUnit with
  | none => exact if_neg Bool.false_ne_true
  | some p => exact if_neg (ne_true_of_eq_false (decide_eq_false (not_le.mpr (hlt p hp))))

end

theorem fwalAndFlputHandOver : Claim.FwalAndFlputHandOver := by
  intro s i rs ra tag n copying h d x w a k pair len ok
  have hlast : ((d.thr h id).hearth h).lastUnit = x.lastUnit := by
    rw [s.dev.thr_issued, Dev.retire, Dev.hearth_setHearth_same, Hearth.setThr_frame]
  refine ⟨fun hr hl => ?_, ?_, ?_, ?_⟩
  · refine goes_issue (y := .fwal rs tag) rfl rfl hr ?_
    have hl' : (s.dev.issued i.hearth).laneOf i.hearth = some n := (s.dev.laneOf_issued _ _).trans hl
    dsimp only
    rw [Dev.thr_hearth_issued, hl', Dev.role_joining, Dev.role_eq]
    rfl
  · rintro ⟨hr, hu, -, ha, hin, h1, h2, h3, h4, h5⟩ hwait
    refine goes_flput hr hu ha hin (Desc.uOk_of h1 h2 h3 h4 h5) ?_
    by_cases hnow : copying = true ∨ 64 ≤ x.flq.length
    · exact if_pos (by simpa using hnow)
    · have hdue : d.applyDue h = true := by
        obtain h' | h' | h' := hwait
        · exact absurd (.inl h') hnow
        · exact absurd (.inr h') hnow
        · exact h'
      exact (if_neg (by simpa using hnow)).trans (Dev.waitIns_due hdue _ _)
  · rintro ⟨hr, hu, hl, ha, hin, h1, h2, h3, h4, h5⟩ hroom hd ⟨p, hp, hle⟩
    refine goes_flput hr hu ha hin (Desc.uOk_of h1 h2 h3 h4 h5) ?_
    refine (if_neg (by simpa using hroom)).trans ((Dev.waitIns_free hd _ _).trans ?_)
    have hle' : k.uPair ≤ p := hle
    have hp' := hlast.trans hp
    have hl' : (d.thr h id).laneOf h = some n := ((d.laneOf_thr _ _ _).trans (s.dev.laneOf_issued _ _)).trans hl
    exact Dev.flputUnit_old hp' hle' hl'
  · rintro ⟨hr, hu, hl, ha, hin, h1, h2, h3, h4, h5⟩ hroom hd hlt
    refine goes_flput hr hu ha hin (Desc.uOk_of h1 h2 h3 h4 h5) ?_
    refine (if_neg (by simpa using hroom)).trans ((Dev.waitIns_free hd _ _).trans ?_)
    exact Dev.flputUnit_new fun p hp => hlt p (hlast.symm.trans hp)

/-! ## The output queue (R223) -/

theorem outputQueueDrains : Claim.OutputQueueDrains := by
  intro d h n open_
  have hopen : (d.held 6 || d.held 7 || d.linkFree (h / 8) true 2 == 0) = true ↔ ¬open_ := by
    simp only [open_, Bool.or_eq_true, beq_iff_eq]
    cases d.held 6 <;> cases d.held 7 <;> simp
  refine ⟨fun hno => if_pos (hopen.mpr hno), fun ho hl => (if_neg (fun hc => hopen.mp hc ho)).trans ?_⟩
  have hl' : (d.updHearth h (fun x => { x with flq := [] })).laneOf h = some n := hl
  dsimp only
  rw [hl']

/-! ## Mailboxes (R226 to R229) -/

section
variable {s : State} {i : Issue}

/-- What an mget leaves, from what it takes from its box. -/
theorem goes_mget {rd box : BitVec 4} {o : Option Word} {y : Hearth} {e : Dev} (hr : Ready s.dev i (.mget rd box) = true) (hb : box.toNat < 3)
    (hbox : (s.dev.issued i.hearth).boxTake i.hearth box.toNat = (o, e)) (hy : e.hearth i.hearth = y)
    (hthr : y.thr = (s.dev.hearth i.hearth).thr) :
    Goes (.mget i rd box) s (e.setHearth i.hearth (y.setThr { ((s.dev.hearth i.hearth).thr.setReg rd (o.getD 0)).next with
      z := o.isNone, n := (o.getD 0).getLsbD 31 })) := by
  refine goes_issue (y := .mget rd box) rfl (decide_eq_true hb) hr ?_
  dsimp only
  rw [hbox, Dev.thr_eq, hy, hthr, BitVec.msb_eq_getLsbD_last]
  rfl

theorem running_of_ready {y : Yil} (hr : Ready s.dev i y = true) : (s.dev.hearth i.hearth).running = true := by
  obtain ⟨ha, -, -⟩ := ready_iff.mp hr
  obtain ⟨hi, -⟩ := atPc_iff.mp ha
  simp only [Dev.canIssue, Bool.and_eq_true] at hi
  exact hi.1

/-- MAIN issues only while no urgent word waits (R207). -/
theorem umbox_of_ready {y : Yil} (hr : Ready s.dev i y = true) (hu : (s.dev.hearth i.hearth).urgOn = false) :
    (s.dev.hearth i.hearth).umbox = [] := by
  obtain ⟨ha, -, -⟩ := ready_iff.mp hr
  obtain ⟨hi, -⟩ := atPc_iff.mp ha
  simp only [Dev.canIssue, hu, Bool.false_or, Bool.and_eq_true, List.isEmpty_iff] at hi
  exact hi.2.2

end

/-- The inbound doorbell taken. -/
theorem Dev.boxTake_hin (d : Dev) (h : Nat) : d.boxTake h 2 = if (d.hearth h).hin = true then
    (some (d.rd (Reg.LANE_MBIN ((d.laneOf h).getD 0) 0)), d.setHearth h { d.hearth h with hin := false }) else (none, d) := rfl

/-- A hearth's own lane answers RESYNC, or nothing is asked. -/
theorem Dev.sysAnswer_bound {d : Dev} {h n : Nat} (hl : d.laneOf h = some n) (hb : d.bound n = some h) (w : Word) :
    d.sysAnswer h w = if (d.lane n).resync = none then d else if w = 0x10000000 then d.resyncKeep n h
      else if w = 0x10000001 then d.resyncResume n h else d := by
  unfold Dev.sysAnswer
  rw [hl]
  dsimp only
  cases (d.lane n).resync with
  | none => rfl
  | some m => rw [if_neg (Option.some_ne_none m)]; exact if_neg (not_not.mpr hb)

theorem mailboxesTakeAndPut : Claim.MailboxesTakeAndPut := by
  intro s i rd rs n h d x w got
  have hx : d.hearth h = x := s.dev.hearth_issued h
  have hset : ∀ y z : Hearth, (d.setHearth h y).setHearth h z = s.dev.setHearth h z := fun y z => by
    rw [Dev.setHearth_setHearth, Dev.setHearth_issued]
  have hlane : s.dev.laneOf h = some n → d.laneOf h = some n := (s.dev.laneOf_issued h h).trans
  have hbound : d.bound n = s.dev.bound n := s.dev.bound_issued h n
  refine ⟨fun hr => ?_, fun hr hl hb => ?_, fun hr hl hb => ?_, fun hr hl => ?_, fun hr hu => ?_, fun hr hl hb => ?_, fun hr hl hb => ?_⟩
  · have hbox : d.boxTake h 0 = (x.umbox.head?, d.setHearth h { x with umbox := x.umbox.drop 1 }) := by rw [Dev.boxTake, hx]
    have hgo := goes_mget hr (by decide) hbox (Dev.hearth_setHearth_same _ _ _) rfl
    exact goes_of_next hgo (hset _ _)
  · have hl' := hlane hl
    have hbox : d.boxTake h 1 = (x.sys.head?, d.setHearth h { x with sys := x.sys.drop 1 }) := by
      rw [Dev.boxTake, hx, hl', Dev.sysRefill]
      exact congrArg (Prod.mk x.sys.head?) (if_neg fun hc => hb (hbound.symm.trans hc.1))
    have hgo := goes_mget hr (by decide) hbox (Dev.hearth_setHearth_same _ _ _) rfl
    exact goes_of_next hgo (hset _ _)
  · intro room held
    have hl' := hlane hl
    have hrun : x.running = true := running_of_ready hr
    have hbox : d.boxTake h 1 = (x.sys.head?, ((d.setHearth h { x with sys := x.sys.drop 1 }).updHearth h (fun y =>
        { y with sys := y.sys ++ held.take room })).updLane n (fun y => { y with sysHeld := held.drop room })) := by
      have hcond : d.bound n = some h ∧ ((d.setHearth h { x with sys := x.sys.drop 1 }).hearth h).running = true :=
        ⟨hbound.trans hb, by rw [Dev.hearth_setHearth_same]; exact hrun⟩
      rw [Dev.boxTake, hx, hl']
      refine congrArg (Prod.mk x.sys.head?) ((if_pos hcond).trans ?_)
      rw [Dev.hearth_setHearth_same]
      dsimp only
      rw [List.drop_one]
      rfl
    have hy : (((d.setHearth h { x with sys := x.sys.drop 1 }).updHearth h (fun y => { y with sys := y.sys ++ held.take room })).updLane n
        (fun y => { y with sysHeld := held.drop room })).hearth h = { x with sys := x.sys.drop 1 ++ held.take room } := by
      rw [Dev.hearth_updLane, Dev.hearth_updHearth_same, Dev.hearth_setHearth_same]
    have hgo := goes_mget hr (by decide) hbox hy rfl
    · refine goes_of_next hgo ?_
      rw [Dev.updLane_setHearth, Dev.updHearth, Dev.setHearth_setHearth, hset]
      rfl
  · have hl' := hlane hl
    cases hin : x.hin with
    | true =>
      have hbox : d.boxTake h 2 = (some (s.dev.rd (Reg.LANE_MBIN n 0)), d.setHearth h { x with hin := false }) := by
        rw [Dev.boxTake_hin, hx, hl']
        exact if_pos hin
      have hgo := goes_mget hr (by decide) hbox (Dev.hearth_setHearth_same _ _ _) rfl
      exact goes_of_next hgo (hset _ _)
    | false =>
      have hbox : d.boxTake h 2 = (none, d) := by
        rw [Dev.boxTake_hin, hx]
        exact if_neg (ne_true_of_eq_false hin)
      have hgo := goes_mget hr (by decide) hbox hx rfl
      rw [Dev.setHearth_issued] at hgo
      have hsame : ({ x with hin := false } : Hearth) = x := by rw [← hin]
      rw [hsame]
      exact hgo
  · refine goes_issue (y := .mput rs 0) rfl rfl hr ?_
    have hum : x.umbox = [] := umbox_of_ready hr hu
    have hput : d.urgentPut h w = d.setHearth h { x with umbox := [w] } := by
      rw [Dev.urgentPut, hx, hum]
      exact if_pos (by decide)
    dsimp only
    rw [if_pos rfl, Dev.thr_hearth_issued, if_neg (ne_true_of_eq_false (by rw [hx]; exact hu))]
    refine (congrArg (fun e : Dev => e.thr h id) hput).trans ?_
    rw [Dev.thr_eq, Dev.hearth_setHearth_same, hset]
    rfl
  · have hput : ∀ {t : Dev}, (if (s.dev.lane n).resync = none then d.thr h id else if w = 0x10000000 then (d.thr h id).resyncKeep n h
        else if w = 0x10000001 then (d.thr h id).resyncResume n h else d.thr h id) = t → Goes (.mput i rs 1) s t := fun ht => by
      refine goes_issue (y := .mput rs 1) rfl rfl hr ?_
      dsimp only
      rw [if_neg (by decide), if_pos rfl, Dev.thr_hearth_issued]
      have hl' : (d.thr h id).laneOf h = some n := (d.laneOf_thr _ _ _).trans (hlane hl)
      have hb' : (d.thr h id).bound n = some h := ((d.bound_thr _ _ _).trans hbound).trans hb
      refine (Dev.sysAnswer_bound hl' hb' w).trans ?_
      rw [d.lane_thr, s.dev.lane_issued]
      exact ht
    refine ⟨fun hno => hput ?_, fun m hm hw => hput ?_, fun m hm hw => hput ?_⟩
    · rcases hno with hno | ⟨h0, h1⟩
      · exact if_pos hno
      · rw [if_neg h0, if_neg h1, ite_self]
    · rw [if_neg (by rw [hm]; exact Option.some_ne_none m), if_pos hw]
    · rw [if_neg (by rw [hm]; exact Option.some_ne_none m), if_neg (by rw [hw]; decide), if_pos hw]
  · refine goes_issue (y := .mput rs 3) rfl rfl hr ?_
    have hput : d.houtPut h w = (d.wr (Reg.LANE_MBOUT n 0) w).raise (Reg.LANE_STAT n) 12 := by
      have hl' := hlane hl
      rw [Dev.houtPut, hl']
      exact if_pos (hbound.trans hb)
    dsimp only
    rw [if_neg (by decide), if_neg (by decide), Dev.thr_hearth_issued]
    exact congrArg (fun e : Dev => e.thr h id) hput

/-- Settles O17: each instruction is taken to the one operation on its hearth that its condition selects. The moment at which the output
queue drains is the model's choice (log 100). -/
theorem waitsAlertsFramesAndMailboxes : Obligations.WaitsAlertsFramesAndMailboxes :=
  ⟨tickAndYieldPassOrWait, fwalAndFlputHandOver, outputQueueDrains, mailboxesTakeAndPut⟩

end Sys2Proof.Machine
end

section
/-! The end of MAIN's waits, what goes on in the background, and the entry of URGENT (R199, R207, R208, R230). -/

namespace Sys2Proof.Machine

section
variable {s : State} {h : Nat} {w : Wait} {e : Dev}

/-- The hearth as a wait of MAIN ends. -/
def Dev.waitOver (d : Dev) (h : Nat) : Hearth := { d.hearth h with wait := none, lastRetire := d.now }

/-- A wait of MAIN ends with what its instruction then does. -/
theorem goes_waitSatisfied_ends (hr : (s.dev.hearth h).running = true) (hu : (s.dev.hearth h).urgOn = false)
    (hm : (s.dev.hearth h).umbox = []) (hd : s.dev.applyDue h = false) (hw : (s.dev.hearth h).wait = some w)
    (he : (s.dev.setHearth h (s.dev.waitOver h)).waitDone h w = some e) : Goes (.waitSatisfied h) s e := by
  refine goes_of_next rfl ?_
  simp only [hw, hr, hu, hm, hd, Bool.not_true, Bool.false_eq_true, if_false, List.isEmpty_nil, Bool.or_self]
  exact (congrArg (fun o : Option Dev => o.getD s.dev) he).trans rfl

section
variable (hr : (s.dev.hearth h).running = true) (hb : (s.dev.hearth h).urgOn = true ∨ (s.dev.hearth h).umbox ≠ [])
  (hw : (s.dev.hearth h).wait = some w)
include hr hb hw

theorem goes_waitSatisfied_urgent : Goes (.waitSatisfied h) s (match s.dev.waitWork h w with
    | some r => r.2.2.updHearth h (fun x => { x with wait := some (.got r.1 r.2.1) })
    | none => s.dev) := by
  have hbusy : ((s.dev.hearth h).urgOn || !(s.dev.hearth h).umbox.isEmpty) = true := by
    simpa using hb
  refine goes_of_next rfl ?_
  simp only [hw, hr, hbusy, Bool.not_true, Bool.false_eq_true, if_false, if_true] <;> rfl

/-- What goes on in the background completes, and its wait then waits for MAIN. -/
theorem goes_waitSatisfied_back {rd : Option Nat} {v : Word} (he : s.dev.waitWork h w = some (rd, v, e)) :
    Goes (.waitSatisfied h) s (e.updHearth h (fun z => { z with wait := some (.got rd v) })) := by
  have hgo := goes_waitSatisfied_urgent hr hb hw
  rw [he] at hgo
  exact hgo

theorem goes_waitSatisfied_stays (he : s.dev.waitWork h w = none) : Goes (.waitSatisfied h) s s.dev := by
  have hgo := goes_waitSatisfied_urgent hr hb hw
  rw [he] at hgo
  exact hgo

end

end

/-- A hearth replaced, then changed with its thread. -/
theorem Dev.updHearth_thr_setHearth (d : Dev) (h : Nat) (y : Hearth) (f : Hearth → Hearth) (g : Thread → Thread) :
    ((d.setHearth h y).updHearth h f).thr h g = d.setHearth h ((f y).setThr (g (f y).thr).next) := by
  rw [Dev.updHearth, Dev.hearth_setHearth_same, Dev.setHearth_setHearth, Dev.thr_eq, Dev.hearth_setHearth_same, Dev.setHearth_setHearth]

/-- A hearth replaced, then its thread changed. -/
theorem Dev.thr_setHearth (d : Dev) (h : Nat) (y : Hearth) (g : Thread → Thread) :
    (d.setHearth h y).thr h g = d.setHearth h (y.setThr (g y.thr).next) := by
  rw [Dev.thr_eq, Dev.hearth_setHearth_same, Dev.setHearth_setHearth]

section
variable {d : Dev} {h a : Nat} {v : Word} {p : Nat × Word} {ps : List (Nat × Word)}

/-- A posted write that finds the buffer full: the oldest takes effect first (R231). -/
theorem Dev.postWrite_full (hp : (d.hearth h).posted = p :: ps) : d.postWrite h a v =
    ((d.setHearth h { d.hearth h with posted := ps }).postedWrite h p.1 p.2).updHearth h
      (fun z => { z with posted := z.posted ++ [(a, v)] }) := by
  unfold Dev.postWrite
  rw [hp]
  rfl

end

/-- Settles O19: a wait of MAIN ends as `Dev.waitDone` says of the hearth that waits no more; under URGENT it goes as far as
`Dev.waitWork`, which is none for the waits that only look at a condition. -/
theorem waitsEndAndUrgentEnters : Obligations.WaitsEndAndUrgentEnters := by
  intro s h x y d ends back post
  have hy : d.hearth h = y := Dev.hearth_setHearth_same _ _ _
  refine ⟨fun hr hu hm hd => ?_, fun hr hb => ?_, fun hr hu hm hd => ?_, fun hno => ?_, fun hr hu hm => ?_, fun hno => ?_⟩
  · have done : ∀ {w : Wait} {e : Dev}, x.wait = some w → d.waitDone h w = some e → ends e := fun hw he =>
      goes_waitSatisfied_ends hr hu hm hd hw he
    refine ⟨fun u hw hq hrun => done hw ?_, fun u c a imm hw hq => done hw ?_, fun rd a hw hS => done hw ?_, fun rd m hw hp => done hw ?_,
      fun rd t v hw ht ho => done hw ?_, fun rd t k v hw ht ha hk => done hw ?_, fun rd a hw => done hw rfl, fun a v p ps hw hp => done hw ?_,
      fun a hw hq => done hw ?_, fun rd v hw => done hw ?_, fun v hw => done hw ?_⟩
    · have hidle : ((d.hearth h).unit u).idle = true := by rw [hy]; exact (HobUnit.idle_iff _).mpr ⟨hq, hrun⟩
      refine (if_pos hidle).trans (congrArg some ?_)
      exact s.dev.thr_setHearth h y id
    · have hlen : ((d.hearth h).unit u).queue.length < 4 := by rw [hy]; exact hq
      refine (congrArg (Option.map _) (if_pos hlen)).trans (congrArg some ?_)
      exact s.dev.updHearth_thr_setHearth h y _ id
    · have hready : (d.hearth h).tickReady a = true := by rw [hy]; exact (x.tickReady_iff a).mpr hS
      refine (if_pos hready).trans (congrArg some ?_)
      refine (s.dev.updHearth_thr_setHearth h y _ _).trans ?_
      rw [hy]
      rfl
    · have hready : (d.hearth h).yieldReady (BitVec.ofNat 32 m) = true := by rw [hy]; exact (x.yieldReady_iff _).mpr hp
      refine (if_pos hready).trans (congrArg some ?_)
      refine (s.dev.updHearth_thr_setHearth h y _ _).trans ?_
      rw [hy]
      rfl
    · have ho' : (d.hearth h).oven t.toNat = some { done := some v } := by rw [hy]; exact ho
      simp only [Dev.waitDone, if_pos ht, ho', Option.map_some, Dev.collect]
      exact congrArg some (s.dev.updHearth_thr_setHearth h y _ _)
    · have ha' : (d.hearth h).ash t.toNat = some k := by rw [hy]; exact ha
      simp only [Dev.waitDone, if_pos ht, ha', Option.map_some, hk, Dev.collect]
      exact congrArg some (s.dev.updHearth_thr_setHearth h y _ _)
    · have hp' : (d.hearth h).posted = p :: ps := by rw [hy]; exact hp
      have hpost : d.postWrite h a v = post ((s.dev.setHearth h { y with posted := ps }).postedWrite h p.1 p.2) a v := by
        rw [Dev.postWrite_full hp', hy, Dev.setHearth_setHearth]
      exact congrArg (fun e : Dev => some (e.thr h id)) hpost
    · have hlen : (d.hearth h).flq.length < 64 := by rw [hy]; exact hq
      refine (congrArg (Option.map _) (if_pos hlen)).trans ?_
      rw [hy]
      rfl
    · exact congrArg some (s.dev.thr_setHearth h y _)
    · exact congrArg some (s.dev.thr_setHearth h y _)
  · refine ⟨fun u c a imm hw hq => goes_waitSatisfied_back hr hb hw ?_, fun rd a hw => goes_waitSatisfied_back hr hb hw rfl,
      fun a v p ps hw hp => goes_waitSatisfied_back hr hb hw ?_, fun a hw hq => goes_waitSatisfied_back hr hb hw (if_pos hq), ?_⟩
    · exact if_pos hq
    · exact congrArg (fun e : Dev => some (none, 0, e)) (Dev.postWrite_full hp)
    · rintro ⟨u, rd, t, m, a, w, k, hw | hw | hw | hw | hw | hw⟩
      all_goals exact goes_waitSatisfied_stays hr hb hw rfl
  · cases hw : x.wait with
    | none => exact goes_of_next rfl (by simp only [show (s.dev.hearth h).wait = none from hw])
    | some w =>
      refine goes_of_next rfl ?_
      simp [show (s.dev.hearth h).wait = some w from hw, show (s.dev.hearth h).running = true from hr,
        show (s.dev.hearth h).urgOn = false from hu, show (s.dev.hearth h).umbox = [] from hm, hd]
  · refine goes_of_next rfl ?_
    cases hw : x.wait with
    | none => simp only [show (s.dev.hearth h).wait = none from hw]
    | some w =>
      have hrun : (s.dev.hearth h).running = false := hno.resolve_right (by rw [hw]; exact Option.some_ne_none w)
      simp [show (s.dev.hearth h).wait = some w from hw, hrun]
  · refine goes_of_next rfl (if_pos ?_)
    simpa [show (s.dev.hearth h).running = true from hr, show (s.dev.hearth h).urgOn = false from hu] using hm
  · refine goes_of_next rfl (if_neg fun hc => ?_)
    simp only [Bool.and_eq_true, Bool.not_eq_true', List.isEmpty_eq_false_iff] at hc
    obtain ⟨⟨hrun, hurg⟩, hne⟩ := hc
    rcases hno with h1 | h1 | h1
    · exact ne_true_of_eq_false h1 hrun
    · exact ne_true_of_eq_false hurg h1
    · exact hne h1

end Sys2Proof.Machine
end


section
/-! Commands of the hob: how they start or fail, their time-out, and what the input FIFO gives them (R163, R212 to R214). -/

namespace Sys2Proof.Machine

/-! ## What the check of a command's arguments says (R213) -/

/-- An error code that names the first of three conditions that fails: 1, 2 or 3, or 0 for none. -/
structure FirstFault (err : Nat) (p q r : Prop) : Prop where
  none : p → q → r → err = 0
  range : ¬p → err = 1
  line : p → ¬q → err = 2
  seq : p → q → ¬r → err = 3

theorem firstFault_of_bools {a b c : Bool} {p q r : Prop} (ha : a = true ↔ p) (hb : b = true ↔ q) (hc : c = true ↔ r) :
    FirstFault (if (!a) = true then 1 else if (!b) = true then 2 else if (!c) = true then 3 else 0) p q r := by
  have ha' : p = (a = true) := propext ha.symm
  have hb' : q = (b = true) := propext hb.symm
  have hc' : r = (c = true) := propext hc.symm
  subst ha' hb' hc'
  cases a <;> cases b <;> cases c <;> constructor <;> simp

theorem linesOk_iff (line bytes : Nat) : linesOk line bytes = true ↔ line * 64 + (bytes + 63) / 64 * 64 ≤ 6144 * 64 := decide_eq_true_iff

theorem true_eq_true_iff : true = true ↔ True := iff_true_intro rfl

theorem and_eq_true_iff {a b : Bool} {p q : Prop} (ha : a = true ↔ p) (hb : b = true ↔ q) : (a && b) = true ↔ p ∧ q := by
  rw [Bool.and_eq_true, ha, hb]

theorem and3_eq_true_iff {a b c : Bool} {p q r : Prop} (ha : a = true ↔ p) (hb : b = true ↔ q) (hc : c = true ↔ r) :
    (a && b && c) = true ↔ p ∧ q ∧ r := by
  rw [Bool.and_eq_true, Bool.and_eq_true, ha, hb, hc, and_assoc]

theorem and4_eq_true_iff {a b c e : Bool} {p q r t : Prop} (ha : a = true ↔ p) (hb : b = true ↔ q) (hc : c = true ↔ r)
    (he : e = true ↔ t) : (a && b && c && e) = true ↔ p ∧ q ∧ r ∧ t := by
  rw [Bool.and_eq_true, and3_eq_true_iff ha hb hc, he, and_assoc, and_assoc]

/-! ## The start of a command (R212, R213) -/

theorem Hearth.setUnit_setUnit (x : Hearth) (u : Nat) (p q : HobUnit) : (x.setUnit u p).setUnit u q = x.setUnit u q := by
  simp only [Hearth.setUnit, SMap.put_put]

theorem Hearth.unit_setUnit_same (x : Hearth) (u : Nat) (q : HobUnit) : (x.setUnit u q).unit u = q := SMap.get_put_same _ _ _ _

theorem Dev.updHearth_updHearth (d : Dev) (h : Nat) (f g : Hearth → Hearth) : (d.updHearth h f).updHearth h g = d.updHearth h (g ∘ f) := by
  rw [Dev.updHearth, Dev.hearth_updHearth_same, Dev.updHearth, Dev.setHearth_setHearth]
  rfl

/-- A command completes with an error: its unit counts it and shows it. -/
theorem Dev.hobEnd_error (d : Dev) {h u err : Nat} {q : HobUnit} (he : err ≠ 0) :
    (d.updHearth h (fun x => x.setUnit u q)).hobEnd h u err = d.setHearth h ((d.hearth h).setUnit u
      { q with running := none, done := (q.done + 1) % 256, err := err, herr := true }) := by
  rw [Dev.hobEnd, Dev.updHearth_updHearth]
  have herr : (q.herr || err != 0) = true := by simp [he]
  simp only [Dev.updHearth, Function.comp, Hearth.unit_setUnit_same, Hearth.setUnit_setUnit, if_neg he, herr]

section
variable {c : Instr} {s : State} {h u cmd : Nat} {desc : Bool} {range line seq : HobCmd → Desc → Prop}

/-- What every command does at its start, from what its arguments must satisfy. -/
theorem goes_hobStart (hx : exec c s = s.onDev (fun d => d.hobStart h u cmd .clean)) (hdesc : takesDesc u cmd = desc)
    (hchk : ∀ (k : HobCmd) (dd : Desc), k.cmd = cmd →
      FirstFault ((s.dev.hearth h).hobCheck u k dd) (range k dd) (line k dd) (seq k dd))
    {k : HobCmd} {rest : List HobCmd} (hq : ((s.dev.hearth h).unit u).queue = k :: rest)
    (hrun : ((s.dev.hearth h).unit u).running = none) (hk : k.cmd = cmd) (hti : u = 6 → cmd ≠ 0 → (s.dev.hearth h).ashOut < 8) :
    let x := s.dev.hearth h
    let q := x.unit u
    let k4 := fun j => if desc = true then x.dmem.readWord (k.arg.toNat + j) else 0
    let dd : Desc := ⟨k4 0, k4 4, k4 8, k4 12⟩
    let err := fun (n : Nat) => Goes c s (s.dev.setHearth h (x.setUnit u
      { q with queue := rest, done := (q.done + 1) % 256, err := n, herr := true }))
    let run := s.dev.setHearth h (x.setUnit u { q with queue := rest, running := some ⟨k, dd, s.dev.now, [], false⟩ })
    (range k dd → line k dd → seq k dd → Goes c s (if u = 0 then run.refill h
      else if u = 6 ∧ cmd ≠ 0 then run.updHearth h (fun z =>
        { z with tiOut := min (min ((4 * getBits dd.d0 31 16 + 4095) / 4096) 6) (8 - x.ashOut) }) else run)) ∧
    (¬range k dd → err 1) ∧ (range k dd → ¬line k dd → err 2) ∧ (range k dd → line k dd → ¬seq k dd → err 3) := by
  intro x q k4 dd err run
  subst hdesc
  have hdd : (if takesDesc u cmd = true then Memory.readDesc x.dmem k.arg.toNat else ⟨0, 0, 0, 0⟩) = dd := by
    by_cases ht : takesDesc u cmd = true
    · simp only [dd, k4, if_pos ht]
      rfl
    · simp only [dd, k4, if_neg ht]
  have hgo : ¬(k.cmd ≠ cmd ∨ (u = 6 ∧ cmd ≠ 0 ∧ 8 ≤ x.ashOut)) := by
    rintro (hne | ⟨h6, h0, h8⟩)
    · exact hne hk
    · exact absurd (hti h6 h0) (not_lt.mpr h8)
  have hstart : s.dev.hobStart h u cmd .clean =
      if x.hobCheck u k dd ≠ 0 then (s.dev.updHearth h (fun x => x.setUnit u { q with queue := rest, running := none })).hobEnd h u (x.hobCheck u k dd)
      else if u = 0 then run.refill h else if u = 6 ∧ cmd ≠ 0 then run.updHearth h (fun z => { z with tiOut := z.tiSlots dd }) else run := by
    unfold Dev.hobStart
    simp only [hq, hrun]
    rw [if_neg hgo, ite_self, Dev.eccThen, hdd, Dev.updHearth_updHearth]
    have hrun' : s.dev.updHearth h ((fun x => x.setUnit u { x.unit u with running := some ⟨k, dd, s.dev.now, [], false⟩ }) ∘
        fun x => x.setUnit u { q with queue := rest, running := none }) = run := by
      simp only [Dev.updHearth, Function.comp, Hearth.setUnit_setUnit, Hearth.unit_setUnit_same]
      rfl
    rw [← hrun']
    rfl
  have hfail : ∀ n, x.hobCheck u k dd = n → n ≠ 0 → err n := fun n hn h0 => by
    refine goes_of_next hx (hstart.trans ?_)
    rw [hn, if_pos h0, Dev.hobEnd_error _ h0, ← hrun]
  have hf := hchk k dd hk
  refine ⟨fun h1 h2 h3 => ?_, fun h1 => hfail 1 (hf.range h1) (by decide), fun h1 h2 => hfail 2 (hf.line h1 h2) (by decide),
    fun h1 h2 h3 => hfail 3 (hf.seq h1 h2 h3) (by decide)⟩
  refine goes_of_next hx (hstart.trans ?_)
  rw [if_neg (not_not.mpr (hf.none h1 h2 h3))]
  have hslots : run.updHearth h (fun z => { z with tiOut := z.tiSlots dd }) = run.updHearth h (fun z =>
      { z with tiOut := min (min ((4 * getBits dd.d0 31 16 + 4095) / 4096) 6) (8 - x.ashOut) }) := by
    have hrh : run.hearth h = x.setUnit u { q with queue := rest, running := some ⟨k, dd, s.dev.now, [], false⟩ } :=
      Dev.hearth_setHearth_same _ _ _
    rw [Dev.updHearth, Dev.updHearth, hrh]
    rfl
  rw [hslots]

end

/-- A command that has nothing to check. -/
theorem firstFault_none : FirstFault 0 True True True := ⟨fun _ _ _ => rfl, fun h => absurd trivial h, fun _ h => absurd trivial h,
  fun _ _ h => absurd trivial h⟩

theorem hobCommandsStartOrFail : Claim.HobCommandsStartOrFail := by
  intro s h x lines R T n src dst aux cells points ratio
  have start : ∀ {c : Instr} {u cmd : Nat} {desc : Bool} {range line seq : HobCmd → Desc → Prop},
      exec c s = s.onDev (fun d => d.hobStart h u cmd .clean) → takesDesc u cmd = desc →
      (∀ arg imm issued dd, FirstFault (x.hobCheck u ⟨cmd, arg, imm, issued⟩ dd) (range ⟨cmd, arg, imm, issued⟩ dd)
        (line ⟨cmd, arg, imm, issued⟩ dd) (seq ⟨cmd, arg, imm, issued⟩ dd)) →
      R c u cmd desc range line seq := fun hx hd hc k rest hq hr hk ht =>
    goes_hobStart hx hd (fun k dd hk => by subst hk; exact hc k.arg k.imm k.issued dd) hq hr hk ht
  have hratio : ∀ k, ratio k = k.arg.toNat % 65536 * 2 ^ 32 + x.ratioLo.toNat := fun _ => rfl
  clear_value R ratio
  refine ⟨?_, ?_, ?_, ?_, ?_, ?_, ?_, ?_, ?_, ?_, ?_, ?_, ?_, ?_, ?_, ?_, ?_, ?_, ?_, ?_, ?_⟩
  · exact start rfl rfl fun _ _ _ _ =>
      firstFault_of_bools decide_eq_true_iff (and_eq_true_iff (linesOk_iff _ _) (linesOk_iff _ _)) true_eq_true_iff
  · exact start rfl rfl fun _ _ _ _ => firstFault_none
  · exact start rfl rfl fun _ _ _ _ => firstFault_none
  · exact start rfl rfl fun _ _ _ _ => firstFault_none
  · exact start rfl rfl fun _ _ _ _ => firstFault_none
  · exact start rfl rfl fun _ _ _ _ => firstFault_none
  · exact start rfl rfl fun _ _ _ _ => by
      simp only [Hearth.hobCheck, hratio]
      exact firstFault_of_bools (and_eq_true_iff decide_eq_true_iff decide_eq_true_iff) true_eq_true_iff true_eq_true_iff
  · exact start rfl rfl fun _ _ _ _ => firstFault_none
  · exact start rfl rfl fun _ _ _ _ =>
      firstFault_of_bools decide_eq_true_iff (and_eq_true_iff (linesOk_iff _ _) (linesOk_iff _ _)) true_eq_true_iff
  · exact start rfl rfl fun _ _ _ _ =>
      firstFault_of_bools (and_eq_true_iff decide_eq_true_iff decide_eq_true_iff) decide_eq_true_iff true_eq_true_iff
  · exact start rfl rfl fun _ _ _ _ =>
      firstFault_of_bools (and3_eq_true_iff decide_eq_true_iff decide_eq_true_iff decide_eq_true_iff)
        (and_eq_true_iff (linesOk_iff _ _) (linesOk_iff _ _)) Iff.rfl
  · exact start rfl rfl fun _ _ _ _ =>
      firstFault_of_bools true_eq_true_iff (and_eq_true_iff (linesOk_iff _ _) (linesOk_iff _ _)) true_eq_true_iff
  · exact start rfl rfl fun _ _ _ _ =>
      firstFault_of_bools (and_eq_true_iff decide_eq_true_iff decide_eq_true_iff) (linesOk_iff _ _) true_eq_true_iff
  · exact start rfl rfl fun _ _ _ _ =>
      firstFault_of_bools true_eq_true_iff (and_eq_true_iff (linesOk_iff _ _) (linesOk_iff _ _)) Iff.rfl
  · exact start rfl rfl fun _ _ _ _ =>
      firstFault_of_bools decide_eq_true_iff (and3_eq_true_iff (linesOk_iff _ _) (linesOk_iff _ _) decide_eq_true_iff) true_eq_true_iff
  · exact start rfl rfl fun _ _ _ _ =>
      firstFault_of_bools true_eq_true_iff (linesOk_iff _ _) true_eq_true_iff
  · exact start rfl rfl fun _ _ _ _ =>
      firstFault_of_bools true_eq_true_iff (linesOk_iff _ _) true_eq_true_iff
  · exact start rfl rfl fun _ _ _ _ =>
      firstFault_of_bools (and_eq_true_iff decide_eq_true_iff decide_eq_true_iff) decide_eq_true_iff true_eq_true_iff
  · exact start rfl rfl fun _ _ _ _ => firstFault_none
  · exact start rfl rfl fun _ _ _ _ =>
      firstFault_of_bools (and4_eq_true_iff decide_eq_true_iff decide_eq_true_iff decide_eq_true_iff decide_eq_true_iff) (linesOk_iff _ _) true_eq_true_iff
  · exact start rfl rfl fun _ _ _ _ =>
      firstFault_of_bools (and4_eq_true_iff decide_eq_true_iff decide_eq_true_iff decide_eq_true_iff decide_eq_true_iff) (linesOk_iff _ _) true_eq_true_iff

/-! ## Time-out (R163) -/

theorem goes_hobCommandTimeout_early {s : State} {h u : Nat} {r : HobRun} (hr : ((s.dev.hearth h).unit u).running = some r)
    (ht : s.dev.now < r.started + 2 * s.dev.statedNs h u r) : Goes (.hobCommandTimeout h u) s s.dev := by
  refine goes_of_next rfl ?_
  simp only [hr]
  exact if_neg (not_le.mpr ht)

theorem hobTimeoutFailsTheHearth : Claim.HobTimeoutFailsTheHearth := fun _ _ _ _ hr =>
  ⟨goes_hobCommandTimeout_late hr, goes_hobCommandTimeout_early hr⟩

/-! ## The input FIFO (R212, R214) -/

/-- What the running INPUT command takes; nothing where it wants nothing or the FIFO is empty. -/
theorem Hearth.inputTake_of_running {x : Hearth} {r : HobRun} (hr : (x.unit 0).running = some r) :
    (x.inputTake.unit 0).running = some { r with taken := r.taken ++ x.fifo.take (min r.wants x.fifo.length) } ∧
    x.inputTake.fifo = x.fifo.drop (min r.wants x.fifo.length) := by
  have hr' : (SMap.get {} x.units 0).running = some r := hr
  unfold Hearth.inputTake
  simp only [hr']
  by_cases hk : min r.wants x.fifo.length = 0
  · simp only [hk, if_true, List.take_zero, List.append_nil, List.drop_zero, and_true]
    exact hr
  · simp only [if_neg hk, Hearth.unit, SMap.get_put_same, and_self]

/-- A hearth that does not replay takes from its FIFO alone. -/
theorem Dev.refill_live {d : Dev} {h n : Nat} (hn : d.laneOf h = some n) (hr : (d.hearth h).replay = none) :
    d.refill h = d.setHearth h (d.hearth h).inputTake := by
  unfold Dev.refill
  simp only [hn, Hearth.replay_inputTake, hr, ite_self]

/-- Samples that arrive enter the FIFO as far as it has room, and the others are counted as lost. -/
theorem Hearth.arrive_fields (z : Hearth) (ss : List Sample) :
    (z.arrive ss).fifo = z.fifo ++ ss.take (1024 - z.fifo.length) ∧
    (z.arrive ss).lost = z.lost + (ss.length - (1024 - z.fifo.length)) := by
  unfold Hearth.arrive
  dsimp only
  split
  · next hl => exact ⟨by rw [List.getLast?_eq_none_iff.mp hl, List.append_nil], rfl⟩
  · exact ⟨rfl, rfl⟩

theorem inputFifoServesItsCommand : Claim.InputFifoServesItsCommand := by
  intro d h n r ss x hn hp hr k y
  have hfill : d.refill h = d.setHearth h x.inputTake := Dev.refill_live hn hp
  have hy : y = x.inputTake := (congrArg (fun t : Dev => t.hearth h) hfill).trans (Dev.hearth_setHearth_same _ _ _)
  obtain ⟨htaken, hfifo⟩ := Hearth.inputTake_of_running hr
  refine ⟨⟨by rw [hy]; exact htaken, by rw [hy]; exact hfifo, fun g hg => by rw [hfill, Dev.hearth_setHearth, if_neg hg],
    fun a _ => by rw [hfill]; rfl⟩, fun z hz => ?_⟩
  obtain ⟨hf, hlost⟩ := Hearth.arrive_fields z ss
  have hlen : (z.arrive ss).fifo.length = z.fifo.length + min (1024 - z.fifo.length) ss.length := by
    rw [hf, List.length_append, List.length_take]
  omega

/-- Settles O20: a command at the head of an idle unit starts or fails by the first fault of its arguments (a count of 0 is 65,536 cells
by log 41, the sizes of a pattern and a constellation and a run without one are log 51, the slots of a TI transfer log 97); one that runs
for twice its stated time fails its hearth; and the input FIFO serves its command. -/
theorem hobCommandsStartFailOrTimeOut : Obligations.HobCommandsStartFailOrTimeOut :=
  ⟨hobCommandsStartOrFail, hobTimeoutFailsTheHearth, inputFifoServesItsCommand⟩

end Sys2Proof.Machine
end

section
/-! A completed ADDF leaves the result words of its unit as they were (R212), which refutes the claim on completed commands. -/

namespace Sys2Proof.Machine

/-- An ADDF that adds 1, and runs. -/
def addfRun : HobRun := ⟨⟨2, 1, 0, 0⟩, ⟨0, 0, 0, 0⟩, 0, [], false⟩

/-- The state at reset, but for an ADDF that runs in hearth 0. -/
def addfState : State :=
  { State.reset with dev := State.reset.dev.setHearth 0 { units := [(1, { running := some addfRun })] } }

/-- The result words that the derotator of hearth 0 keeps. -/
def Dev.derotatorResults (d : Dev) : SMap Word := ((d.hearth 0).unit 1).results

/-- When ADDF has completed, its unit keeps no result word: hget of sel 1 reads the frequency itself. -/
theorem derotatorResults_of_addf {t : Dev} (h : Goes (.hobCommandDone 0 1 .clean false {}) addfState t) : t.derotatorResults = [] := by
  have hnext : exec (.hobCommandDone 0 1 .clean false {}) addfState =
      .next { addfState with dev := addfState.dev.hobDone 0 1 .clean false false {} } := rfl
  have ht : addfState.dev.hobDone 0 1 .clean false false {} = t := by
    injection hnext.symm.trans h with h
    exact congrArg State.dev h
  rw [← ht]
  rfl

/-- Refutes O21: the claim that a completed ADDF writes the new frequency to result word 1 of its unit, as the model keeps no copy of it
there. (So it is for SETRHI and the ratio. A COUNT of 0 as 65,536 cells and the LLRs kept with LOADCON are logs 41 and 96.) -/
theorem not_hobCommandsCompleteWithTheirEffect : ¬ Obligations.HobCommandsCompleteWithTheirEffect := by
  intro hall
  obtain ⟨-, -, -, -, -, haddf, -⟩ := hall addfState 0 1 false addfRun 0 ⟨0, 0, 0, [], none, none, none⟩ rfl
  have hresults := derotatorResults_of_addf (haddf ⟨rfl, rfl⟩)
  exact absurd hresults (by decide)

end Sys2Proof.Machine
end

section
/-! The oven pool: the order of its scheduler, how a request ends and what a retired oven does with its request (R159, R160, R162, R216). -/

namespace Sys2Proof.Machine

/-! ## The scheduler's order (R159) -/

/-- How far a request stands from the lane whose turn it is. -/
def OReq.turn (last : Nat) (r : OReq) : Nat := (r.key + 512 - last) % 512

section
variable {now age last : Nat} {q : List OReq} {r : OReq}

theorem nextReq_of_reissued (h : q.find? (·.reissued) = some r) : nextReq now age last q = some r := by
  unfold nextReq
  simp only [h]

theorem nextReq_of_aged (h : q.find? (·.reissued) = none) (ha : q.find? (fun x => decide (x.at_ + age * 1000 ≤ now)) = some r) :
    nextReq now age last q = some r := by
  unfold nextReq
  simp only [h, ha]

/-- Where none is re-issued and none has aged, the nearest in the round is next. -/
theorem nextReq_of_round (h : q.find? (·.reissued) = none) (ha : q.find? (fun x => decide (x.at_ + age * 1000 ≤ now)) = none) :
    nextReq now age last q = q.argmin (OReq.turn last) := by
  unfold nextReq
  simp only [h, ha, List.argmin]
  refine congrArg (fun f => q.foldl f none) (funext fun b => funext fun x => ?_)
  cases b with
  | none => rfl
  | some c => rfl

theorem nextReq_mem (hq : q ≠ []) : ∃ x ∈ q, nextReq now age last q = some x := by
  cases hr : q.find? (·.reissued) with
  | some r => exact ⟨r, List.mem_of_find?_eq_some hr, nextReq_of_reissued hr⟩
  | none => cases ha : q.find? (fun x => decide (x.at_ + age * 1000 ≤ now)) with
    | some r => exact ⟨r, List.mem_of_find?_eq_some ha, nextReq_of_aged hr ha⟩
    | none =>
      obtain ⟨r, hmin⟩ := Option.ne_none_iff_exists'.mp (mt List.argmin_eq_none.mp hq : q.argmin (OReq.turn last) ≠ none)
      exact ⟨r, List.argmin_mem hmin, (nextReq_of_round hr ha).trans hmin⟩

end

theorem schedulerOrder : Claim.SchedulerOrder := by
  intro now age last q r
  have hnone : (∀ x ∈ q, x.reissued = false) → q.find? (·.reissued) = none := fun h =>
    List.find?_eq_none.mpr fun x hx => by simp [h x hx]
  refine ⟨nextReq_of_reissued, fun hq ⟨x, hx, hage⟩ hn => ?_, nextReq_mem, fun x y hx hq hy => ?_⟩
  · obtain ⟨z, hz⟩ := Option.isSome_iff_exists.mp
      (List.find?_isSome (p := fun x : OReq => decide (x.at_ + age * 1000 ≤ now)).mpr ⟨x, hx, decide_eq_true hage⟩)
    rw [← hn, nextReq_of_aged (hnone hq) hz, hz]
  · have haged : q.find? (fun x => decide (x.at_ + age * 1000 ≤ now)) = none := List.find?_eq_none.mpr fun z hz => by
      simpa using (hq z hz).2
    rw [nextReq_of_round (hnone fun z hz => (hq z hz).1) haged] at hy
    exact List.le_of_mem_argmin hx hy

/-! ## A retired oven (R162) -/

theorem Dev.freeKind_none {d : Dev} {trellis : Bool}
    (h : ∀ j ∈ kindOvens trellis, d.get (Reg.OVN_OSTAT_STATE j) ≠ 1 ∧ d.get (Reg.OVN_OSTAT_STATE j) ≠ 3) : d.freeKind trellis = none := by
  unfold Dev.freeKind
  split
  · rfl
  · refine List.find?_eq_none.mpr fun j hj => ?_
    obtain ⟨h1, h3⟩ := h j hj
    simp [h1, h3]

theorem Dev.schedule_of_freeKind_none {d : Dev} {trellis : Bool} (h : d.freeKind trellis = none) (fuel : Nat) :
    d.schedule trellis fuel = d := by
  cases fuel with
  | zero => rfl
  | succ fuel =>
    unfold Dev.schedule
    simp only [h]

theorem Dev.trellis_of_freeKind {d : Dev} {k : Nat} (h : d.freeKind true = some k) : 16 ≤ k := by
  unfold Dev.freeKind at h
  split at h
  · exact absurd h (by simp)
  · obtain ⟨j, -, hj⟩ := List.mem_map.mp (List.mem_of_find?_eq_some h)
    omega

/-- Scheduling O16 to O23 leaves the requests of the other kind and their ovens. -/
theorem Dev.schedule_trellis_ldpc (d : Dev) (fuel : Nat) {k : Nat} (hk : k < 16) :
    (d.schedule true fuel).pool.ldpc = d.pool.ldpc ∧
    SMap.get none (d.schedule true fuel).pool.busy k = SMap.get none d.pool.busy k := by
  induction fuel generalizing d with
  | zero => exact ⟨rfl, rfl⟩
  | succ fuel ih =>
    unfold Dev.schedule
    dsimp only
    split
    · next j r hj hr =>
      obtain ⟨hl, hb⟩ := ih { d with pool := { d.pool with
        trellis := d.pool.trellis.erase r, lastT := r.key + 1, busy := SMap.put none d.pool.busy j (some r) } }
      refine ⟨hl, hb.trans ?_⟩
      have hkj : k ≠ j := by have := Dev.trellis_of_freeKind hj; omega
      exact (SMap.get_put none d.pool.busy j k (some r)).trans (if_neg hkj)
    · exact ⟨rfl, rfl⟩

/-- The device as an oven serves nothing, waits for no test and has no check on record. -/
def Dev.ovenEmptied (d : Dev) (k : Nat) : Dev :=
  { d with pool := { d.pool with
      busy := SMap.put none d.pool.busy k none, testing := SMap.erase k d.pool.testing, checks := SMap.put [] d.pool.checks k [] } }

/-- The pool as an oven has been declared failed: the oven is free, and its request stands ahead of the others. -/
def Pool.reissue (p : Pool) (k : Nat) (q : OReq) : Pool :=
  { p with
      busy := SMap.put none p.busy k none, testing := SMap.erase k p.testing, checks := SMap.put [] p.checks k [],
      ldpc := { q with reissued := true } :: p.ldpc }

theorem Dev.get_of_regs {d t : Dev} (h : t.regs = d.regs) (f : Fld) : t.get f = d.get f := by
  rw [Dev.get, Dev.rd_eq_of_regs h, Dev.get]

/-- A retired oven's request is issued again before the scheduler runs. -/
theorem Dev.retireOven_reissues (d : Dev) {k cause : Nat} {q : OReq} (hk : k < 16) (hb : SMap.get none d.pool.busy k = some q)
    (hd : q.dropped = false) : ∃ e : Dev, d.retireOven k cause = e.scheduleAll ∧ e.pool = d.pool.reissue k q ∧
      ∀ j < 24, e.get (Reg.OVN_OSTAT_STATE j) = (d.ovenMarked k cause).get (Reg.OVN_OSTAT_STATE j) := by
  have htrellis : decide (16 ≤ k) = false := decide_eq_false (by omega)
  let e : Dev := ((d.ovenEmptied k).ovenMarked k cause).enqueue { q with reissued := true } false true
  have hret : d.retireOven k cause = (((e.raise Reg.OVN_EVT 0).sootE 1 5 0x5001 (cause * 256 + k)).refreshMargin).scheduleAll := by
    unfold Dev.retireOven
    simp only [hb, htrellis]
    rw [if_neg (by rw [hd]; exact Bool.false_ne_true)]
    rfl
  refine ⟨_, hret, ?_, fun j hj => ?_⟩
  · rw [(EventStep.refreshMargin _).pool, Dev.pool_sootE, (EventStep.raise _ _ _).pool]
    rfl
  · rw [← Dev.get_scheduleAll, e.get_ovenRetired _ _ _ _ _ hj rfl, Dev.get_enqueue]
    exact Dev.get_of_regs rfl _

theorem retiredOvenReissuesItsRequest : Claim.RetiredOvenReissuesItsRequest := by
  intro d k cause q hk hc hb hd hout t
  obtain ⟨hstate, hcause⟩ := d.retireOven_shows (by omega : k < 24) (by omega : cause < 16)
  obtain ⟨hmark, -⟩ := d.ovenMarked_shows (k := k) (by omega : cause < 16)
  obtain ⟨e, hret, hpool, hget⟩ := d.retireOven_reissues (cause := cause) hk hb hd
  have hfree : e.freeKind false = none := Dev.freeKind_none fun j hj => by
    have hj16 : j < 16 := List.mem_range.mp hj
    rw [hget j (by omega)]
    by_cases hjk : j = k
    · rw [hjk, hmark]
      decide
    · have haddr : Reg.OVN_OSTAT j ≠ Reg.OVN_OSTAT k := by simp only [Reg.OVN_OSTAT]; omega
      rw [Dev.ovenMarked, Dev.get_set_other _ _ haddr, Dev.get_set_other _ _ haddr]
      exact hout j hj16 hjk
  obtain ⟨hldpc, hbusy⟩ := e.schedule_trellis_ldpc 8 hk
  have ht : t = e.schedule true 8 := hret.trans (congrArg (fun x : Dev => x.schedule true 8) (Dev.schedule_of_freeKind_none hfree 16))
  refine ⟨hstate, hcause, ?_, ?_⟩
  · rw [ht, hbusy, hpool]
    exact SMap.get_put_same none d.pool.busy k none
  · rw [ht, hldpc, hpool]
    rfl

/-! ## The end of a request (R160, R162, R216) -/

/-- A requester that has met no error response takes note of nothing. -/
theorem Dev.takeFailed_of_whole {d : Dev} {r : Requester} (h : d.chimney.failed.contains r = false) : d.takeFailed r = (false, d) := by
  have hr : r ∉ d.chimney.failed := fun hm => absurd (List.contains_iff_mem.mpr hm) (by rw [h]; exact Bool.false_ne_true)
  have hself : d.chimney.failed.filter (· != r) = d.chimney.failed := List.filter_eq_self.mpr fun x hx => by
    simpa using fun hxr : x = r => hr (hxr ▸ hx)
  rw [Dev.takeFailed, h, hself]

/-- The device after what an oven reports of its request. -/
def Dev.ovenEnded (d : Dev) (k : Nat) (q : OReq) : OvenEnd → Dev
  | .memFault => d.retireOven k 1
  | .srcErr => d.ovenSrcErr k q
  | .decoded ok iters corrected n disagree => d.ovenDecoded k q ok iters corrected n disagree

section
variable {d : Dev} {k : Nat} {q : OReq} {ok : Bool} {iters corrected n : Nat}

theorem goes_ovenRequestDone {s : State} (hb : SMap.get none s.dev.pool.busy k = some q)
    (hw : s.dev.chimney.failed.contains (.oven k) = false) (r : OvenEnd) : Goes (.ovenRequestDone k ⟨r, {}⟩) s (s.dev.ovenEnded k q r) := by
  refine goes_of_next rfl ?_
  have hread : (if q.fromTi = true then s.dev.ashEcc .clean 0 else s.dev) = s.dev := by cases q.fromTi <;> rfl
  simp only [hb, hread, Dev.takeFailed_of_whole hw]
  cases r with
  | decoded => rfl
  | srcErr => rfl
  | memFault => rfl

/-- The hearth's ticket takes a result word. -/
def Dev.ovenBack (d : Dev) (q : OReq) (w : Word) : Dev := d.updHearth q.hearth (fun x => x.setOven q.ticket (some { done := some w }))

/-- The room for decoded bytes at their destination. -/
def OReq.room (q : OReq) : Nat := if q.toHob then 393216 - q.dst * 64 else 0x8000 - q.dst

theorem Dev.ovenReturn_eq (d : Dev) (hd : q.dropped = false) (w : Word) : d.ovenReturn q w = d.ovenBack q w :=
  if_neg (by rw [hd]; exact Bool.false_ne_true)

theorem Dev.ovenLate_eq (d : Dev) (hd : q.dropped = false) : d.ovenLate q =
    (((d.ovenBack q 0x02000000).incWordSat Reg.OVN_LATE 1).raise (Reg.LANE_STAT q.lane) 13).raise Reg.OVN_EVT 2 := by
  rw [Dev.ovenLate, Dev.ovenReturn_eq d hd]

/-- Decoded bits reach their destination, as far as it has room. -/
def Dev.ovenWritten (d : Dev) (q : OReq) (n : Nat) : Dev :=
  let bytes := (List.range (min n q.room)).map (fun i => Config.freeByte (d.free + i))
  ({ d with free := d.free + min n q.room } : Dev).updHearth q.hearth (fun x =>
    if q.toHob then { x with hob := x.hob.writeList (q.dst * 64) bytes } else { x with dmem := x.dmem.writeList q.dst bytes })

theorem Dev.ovenWrite_eq (d : Dev) (hd : q.dropped = false) (n : Nat) : d.ovenWrite q n = d.ovenWritten q n := by
  rw [Dev.ovenWrite, if_neg (by rw [hd]; exact Bool.false_ne_true)]
  rfl

/-- The result word of a request: its status, its iterations and its corrected bits. -/
def ovenWord (status iters corrected : Nat) : Word := BitVec.ofNat 32 (status * 2 ^ 24 + iters % 256 * 2 ^ 16 + min corrected 65535)

theorem Dev.ovenDecoded_agree (hd : q.dropped = false) : d.ovenDecoded k q ok iters corrected n false =
    ((((d.ovenWritten q n).ovenBack q (ovenWord (if ok then 0 else 1) iters corrected)).incMod (Reg.OVN_OSTAT_REQS k) 1).ovenFree k).scheduleAll := by
  unfold Dev.ovenDecoded
  rw [Bool.false_and, if_neg Bool.false_ne_true]
  dsimp only
  rw [Dev.ovenWrite_eq d hd, Dev.ovenReturn_eq _ hd, ovenWord, show (2 : Nat) ^ 16 = 65536 by norm_num]
  simp only [Bool.not_false, Bool.and_true, Bool.false_eq_true, if_false]

/-- A check disagreement that does not retire the oven. -/
theorem Dev.ovenDecoded_disagree (hd : q.dropped = false) (hc : (d.ovenChecks k).length < 3) : d.ovenDecoded k q ok iters corrected n true =
    (((((d.ovenWritten q n).ovenBack q (ovenWord 1 iters corrected)).incMod (Reg.OVN_OSTAT_REQS k) 1).ovenFree k).ovenDisagree k).scheduleAll := by
  unfold Dev.ovenDecoded
  rw [Bool.true_and, if_neg (by simpa using hc)]
  dsimp only
  rw [Dev.ovenWrite_eq d hd, Dev.ovenReturn_eq _ hd, ovenWord, show (2 : Nat) ^ 16 = 65536 by norm_num]
  simp only [Bool.not_true, Bool.and_false, Bool.false_eq_true, if_false, if_true]

theorem Dev.ovenDecoded_retires (hc : 3 ≤ (d.ovenChecks k).length) : d.ovenDecoded k q ok iters corrected n true = d.retireOven k 3 := by
  rw [Dev.ovenDecoded, if_pos (by simpa using hc), Dev.ovenDisagree, if_pos hc]

end

/-! ## A deadline that has passed (R160) -/

/-- The waiting request of a ticket whose deadline its hearth's samples have reached. -/
def Dev.lateTicket (d : Dev) (h t : Nat) : Option OReq := (d.pool.ldpc ++ d.pool.trellis).find? (fun r =>
  r.hearth == h && r.ticket == t && !r.dropped && decide (r.deadline ≤ (d.hearth h).smp))

theorem Dev.lateTicket_spec {d : Dev} {h t : Nat} {r : OReq} (hr : d.lateTicket h t = some r) : r ∈ d.pool.ldpc ++ d.pool.trellis ∧
    r.hearth = h ∧ r.ticket = t ∧ r.dropped = false ∧ r.deadline ≤ (d.hearth h).smp := by
  have hc := List.find?_some hr
  simp only [Bool.and_eq_true, beq_iff_eq, Bool.not_eq_true', decide_eq_true_iff] at hc
  obtain ⟨⟨⟨hh, ht⟩, hd⟩, hs⟩ := hc
  exact ⟨List.mem_of_find?_eq_some hr, hh, ht, hd, hs⟩

section
variable {s : State} {q : OReq}
  (hu : ∀ r ∈ s.dev.pool.ldpc ++ s.dev.pool.trellis, r.hearth = q.hearth → r.ticket = q.ticket → r.dropped = false → r = q)
include hu

theorem lateTicket_early (hs : (s.dev.hearth q.hearth).smp < q.deadline) : s.dev.lateTicket q.hearth q.ticket = none := by
  refine Option.eq_none_iff_forall_ne_some.mpr fun r hr => ?_
  obtain ⟨hm, hh, ht, hd, hle⟩ := Dev.lateTicket_spec hr
  rw [hu r hm hh ht hd] at hle
  exact absurd hs (not_lt.mpr hle)

theorem lateTicket_due (hq : q ∈ s.dev.pool.ldpc ++ s.dev.pool.trellis) (hd : q.dropped = false)
    (hs : q.deadline ≤ (s.dev.hearth q.hearth).smp) : s.dev.lateTicket q.hearth q.ticket = some q := by
  have hsome : (s.dev.lateTicket q.hearth q.ticket).isSome := List.find?_isSome.mpr ⟨q, hq, by simp [hd, hs]⟩
  obtain ⟨r, hr⟩ := Option.isSome_iff_exists.mp hsome
  obtain ⟨hm, hh, ht, hdr, -⟩ := Dev.lateTicket_spec hr
  rw [hr, hu r hm hh ht hdr]

end

theorem goes_ovenDeadlineLate_early {s : State} {h t : Nat} (hr : s.dev.lateTicket h t = none) : Goes (.ovenDeadlineLate h t) s s.dev := by
  refine goes_of_next rfl ?_
  unfold Dev.lateTicket at hr
  simp only [hr]

theorem goes_ovenDeadlineLate_due {s : State} {h t : Nat} {q : OReq} (hr : s.dev.lateTicket h t = some q) : Goes (.ovenDeadlineLate h t) s
    (({ s.dev with pool := { s.dev.pool with ldpc := s.dev.pool.ldpc.erase q, trellis := s.dev.pool.trellis.erase q } } : Dev).ovenLate q) := by
  refine goes_of_next rfl ?_
  unfold Dev.lateTicket at hr
  simp only [hr]

theorem ovenRequestsEnd : Claim.OvenRequestsEnd := by
  intro s k q ok iters corrected n d w back bytes put written late whole checks
  refine ⟨fun hb hd hw => ⟨?_, fun hc => ?_, fun hc => ?_, ?_⟩, fun hb hw => ⟨?_, ?_⟩, fun hq hd hu => ⟨fun hs => ?_, fun hs => ?_⟩⟩
  · exact goes_of_next (goes_ovenRequestDone hb hw (.decoded ok iters corrected n false)) (Dev.ovenDecoded_agree hd)
  · exact goes_of_next (goes_ovenRequestDone hb hw (.decoded ok iters corrected n true)) (Dev.ovenDecoded_retires hc)
  · refine goes_of_next (goes_ovenRequestDone hb hw (.decoded ok iters corrected n true)) ?_
    have hword : ovenWord 1 iters corrected = BitVec.ofNat 32 (2 ^ 24 + iters % 256 * 2 ^ 16 + min corrected 65535) := by
      rw [ovenWord, Nat.one_mul]
    rw [Dev.ovenEnded, Dev.ovenDecoded_disagree hd hc, hword]
    rfl
  · refine goes_of_next (goes_ovenRequestDone hb hw .srcErr) ?_
    rw [Dev.ovenEnded, Dev.ovenSrcErr, Dev.ovenReturn_eq d hd]
    rfl
  · exact goes_ovenRequestDone hb hw .memFault
  · exact goes_ovenOverrunTimeout_busy hb
  · exact goes_of_next (goes_ovenDeadlineLate_due (lateTicket_due hu hq hd hs)) (Dev.ovenLate_eq _ hd)
  · exact goes_ovenDeadlineLate_early (lateTicket_early hu hs)

/-- Settles O22: oven requests end with their result, go back to the queue when their oven is retired, and are served in the scheduler's
order. -/
theorem ovenPoolServesItsRequests : Obligations.OvenPoolServesItsRequests :=
  ⟨ovenRequestsEnd, retiredOvenReissuesItsRequest, schedulerOrder⟩

end Sys2Proof.Machine
end

section
/-! The ashpit's requests from hearths: their turn, the statuses they end with and the bytes they move (R218 to R220, R294, R318). -/

namespace Sys2Proof.Machine

theorem Dev.hearth_ashSpend (d : Dev) (cls h : Nat) : (d.ashSpend cls).hearth h = d.hearth h := rfl

/-- The place of a ticket once its request has ended with a status: kept while the program runs. -/
def Hearth.ashEnded (z : Hearth) (t : Nat) (k : ATicket) (st : Nat) : Hearth :=
  z.setAsh t (if z.running then some { k with done := some (BitVec.ofNat 32 (st * 2 ^ 24)) } else none)

theorem Dev.ashFinish_eq {d : Dev} {h t : Nat} {k : ATicket} (hk : (d.hearth h).ash t = some k) (st : Nat) :
    d.ashFinish h t st = d.updHearth h (fun z => z.ashEnded t k st) := by
  unfold Dev.ashFinish Dev.updHearth
  simp only [hk]
  rfl

/-! ## The status of a request (R219) -/

section
variable {d : Dev} {h : Nat} {x : Desc} {a : AshArea}

theorem Dev.ashStatus_badDesc (hx : x.aOk = false) (err : Bool) : d.ashStatus h x err = 4 := by
  rw [Dev.ashStatus, if_pos (by rw [hx]; rfl)]

theorem Dev.ashStatus_of_none (hx : x.aOk = true) (ha : d.ashArea h x.aTarget = none) (err : Bool) : d.ashStatus h x err = 2 := by
  unfold Dev.ashStatus
  simp only [hx, ha, Bool.not_true, Bool.false_eq_true, if_false]

theorem Dev.ashStatus_of_area (hx : x.aOk = true) (ha : d.ashArea h x.aTarget = some a) (err : Bool) : d.ashStatus h x err =
    if a.len < x.aOff + x.aLen then 2
    else if x.aWrite = true ∧ (targetSlot x.aTarget).isSome = true ∧ targetSlot x.aTarget = d.validSlot h then 3
    else if err = true then 6 else 0 := by
  unfold Dev.ashStatus
  simp only [hx, ha, Bool.not_true, Bool.false_eq_true, if_false]

end

theorem Dev.ashArea_none (d : Dev) (h : Nat) {n : Nat} (hn : 4 ≤ n) : d.ashArea h n = none := by
  obtain ⟨m, rfl⟩ := Nat.exists_eq_add_of_le' hn
  rfl

/-! ## Requests whose turn has come (R219, R318) -/

section
variable {s : State} {h t : Nat} {k : ATicket} (hk : (s.dev.hearth h).ash t = some k)
include hk

theorem goes_ashpitRequestDone_waits {c : Ecc} {r : AshPlace} {err : Bool} (hn : k.done = none)
    (hw : k.lost = true ∨ s.dev.wrapped 7 = false ∧ (s.dev.held 7 = true ∨ s.dev.ashTurn (ashClass k.desc) k.at_ = false)) :
    Goes (.ashpitRequestDone h t c r err) s s.dev := by
  refine goes_of_next rfl ?_
  simp only [hk, hn, Option.isSome_none, Bool.false_or]
  obtain hl | ⟨hwr, hh | ht⟩ := hw
  · simp only [hl, if_true]
  · simp only [hwr, hh, Bool.true_or, Bool.false_eq_true, if_true, if_false, ite_self]
  · simp only [hwr, ht, Bool.not_false, Bool.or_true, Bool.false_eq_true, if_true, if_false, ite_self]

variable (hn : k.done = none) (hl : k.lost = false) (hh : s.dev.held 7 = false) (hw : s.dev.wrapped 7 = false)
  (ht : s.dev.ashTurn (ashClass k.desc) k.at_ = true) (hf : s.dev.chimney.failed.contains (.ash h t) = false)
include hn hl hh hw ht hf

/-- A request whose turn has come ends with its status, having moved its bytes where that is OK. -/
theorem goes_ashpitRequestDone (err : Bool) :
    let d := s.dev.ashSpend (ashClass k.desc)
    Goes (.ashpitRequestDone h t .clean {} err) s (if d.ashStatus h k.desc err ≠ 0 then d.ashFinish h t (d.ashStatus h k.desc err)
      else (d.ashMove h k.desc {}).ashFinish h t 0) := by
  intro d
  have hf' : d.chimney.failed.contains (.ash h t) = false := hf
  refine goes_of_next rfl ?_
  simp only [hk, hn, hl, hh, hw, ht, Option.isSome_none, Bool.false_or, Bool.not_true, Bool.false_eq_true, if_false, Dev.ashServe]
  rw [Dev.takeFailed_of_whole hf']
  simp only [Bool.or_false]
  rfl

theorem goes_ashpitRequestDone_status {err : Bool} {st : Nat} (h0 : st ≠ 0)
    (hst : (s.dev.ashSpend (ashClass k.desc)).ashStatus h k.desc err = st) :
    Goes (.ashpitRequestDone h t .clean {} err) s ((s.dev.ashSpend (ashClass k.desc)).updHearth h (fun z => z.ashEnded t k st)) := by
  refine goes_of_next (goes_ashpitRequestDone hk hn hl hh hw ht hf err) ?_
  rw [hst, if_pos h0]
  exact Dev.ashFinish_eq (d := s.dev.ashSpend _) hk st

theorem goes_ashpitRequestDone_moves {e : Dev} (hst : (s.dev.ashSpend (ashClass k.desc)).ashStatus h k.desc false = 0)
    (hm : (s.dev.ashSpend (ashClass k.desc)).ashMove h k.desc {} = e) (he : (e.hearth h).ash t = some k) :
    Goes (.ashpitRequestDone h t .clean {} false) s (e.updHearth h (fun z => z.ashEnded t k 0)) := by
  refine goes_of_next (goes_ashpitRequestDone hk hn hl hh hw ht hf false) ?_
  rw [hst, if_neg (not_not.mpr rfl), hm]
  exact Dev.ashFinish_eq he 0

end

/-! ## The bytes of a request (R218, R220) -/

section
variable {d : Dev} {h i : Nat} {x : Desc} {sm : SetMem} (ht : x.aTarget = 0) (hi : (d.hearth h).set = some i) (hs : d.setMem i = some sm)
include hi hs

theorem Dev.ashArea_ti : d.ashArea h 0 = some (.set i 0x10000 (sm.tiNeed * 1024)) := by
  unfold Dev.ashArea
  simp only [hi, hs, Option.bind_some, Option.map_some]

theorem Dev.ashArea_slot : d.ashArea h 1 = some (.set i 0 0x8000) ∧ d.validSlot h = sm.valid := by
  unfold Dev.ashArea Dev.validSlot
  simp only [hi, hs, Option.bind_some, Option.map_some, and_self]

include ht

theorem Dev.ashMove_read (hr : x.aWrite = false) (hb : x.aHob = false) (hrun : (d.hearth h).running = true) :
    d.ashMove h x {} = d.updHearth h (fun z =>
      { z with dmem := z.dmem.writeList x.aLocal (sm.mem.readList (0x10000 + x.aOff) x.aLen) }) := by
  unfold Dev.ashMove
  simp only [ht, Dev.ashArea_ti hi hs, hr, hrun, Dev.areaRead, hs, Dev.localWrite, hb, Bool.not_true, Bool.false_eq_true, if_false]
  rfl

theorem Dev.ashMove_write (hr : x.aWrite = true) (hb : x.aHob = false) : d.ashMove h x {} =
    d.putSet i (some { sm with mem := sm.mem.writeList (0x10000 + x.aOff) ((d.hearth h).dmem.readList x.aLocal x.aLen) }) := by
  unfold Dev.ashMove
  simp only [ht, Dev.ashArea_ti hi hs, hr, Dev.areaWrite, hs, Dev.localRead, hb, Bool.false_eq_true, if_true, if_false]
  rfl

end

/-! ## The obligation -/

/-- Settles O23: a request whose turn has come ends with the status of its first fault and moves nothing, or moves its bytes; before its
turn, or lost in a reset of the ashpit, it does not complete. -/
theorem ashpitRequestsMoveOrFail : Obligations.AshpitRequestsMoveOrFail := by
  intro s h t k c r err i sm x cls d y ends len off loc hk hn
  refine ⟨fun hl => goes_ashpitRequestDone_waits hk hn (.inl hl), fun hh hw => goes_ashpitRequestDone_waits hk hn (.inr ⟨hw, .inl hh⟩),
    fun ht hw => goes_ashpitRequestDone_waits hk hn (.inr ⟨hw, .inr ht⟩), fun hl hh hw ht hf => ?_⟩
  have status : ∀ {e : Bool} {st : Nat}, st ≠ 0 → d.ashStatus h x e = st → ends e d st := goes_ashpitRequestDone_status hk hn hl hh hw ht hf
  refine ⟨fun hx => status (by decide) (Dev.ashStatus_badDesc hx err),
    fun hx h4 => status (by decide) (Dev.ashStatus_of_none hx (d.ashArea_none h h4) err), fun hx h0 hi hs => ?_, fun hx h1 hi hs hle hwr hv => ?_⟩
  · have harea : d.ashArea h x.aTarget = some (.set i 0x10000 (sm.tiNeed * 1024)) := by
      rw [show x.aTarget = 0 from h0]
      exact Dev.ashArea_ti hi hs
    have hst := fun e => Dev.ashStatus_of_area hx harea e
    have hslot : ¬(x.aWrite = true ∧ (targetSlot x.aTarget).isSome = true ∧ targetSlot x.aTarget = d.validSlot h) := by
      rw [show x.aTarget = 0 from h0]
      rintro ⟨-, hsome, -⟩
      exact absurd hsome (by decide)
    have hgoes : ∀ e, off + len ≤ sm.tiNeed * 1024 → d.ashStatus h x e = if e = true then 6 else 0 := fun e hle =>
      (hst e).trans ((if_neg (not_lt.mpr hle)).trans (if_neg hslot))
    refine ⟨fun hlt => status (by decide) ((hst err).trans (if_pos hlt)), fun hle => status (by decide) (hgoes true hle),
      fun hle hr hb hrun => ?_, fun hle hwr hb => ?_⟩
    · refine goes_ashpitRequestDone_moves hk hn hl hh hw ht hf (hgoes false hle) (Dev.ashMove_read h0 hi hs hr hb hrun) ?_
      rw [Dev.hearth_updHearth_same]
      exact hk
    · exact goes_ashpitRequestDone_moves hk hn hl hh hw ht hf (hgoes false hle) (Dev.ashMove_write h0 hi hs hwr hb) hk
  · obtain ⟨harea, hvalid⟩ := Dev.ashArea_slot hi hs
    rw [← show x.aTarget = 1 from h1] at harea
    have hslot : (targetSlot x.aTarget).isSome = true ∧ targetSlot x.aTarget = d.validSlot h := by
      rw [show x.aTarget = 1 from h1, show d.validSlot h = sm.valid from hvalid, hv]
      exact ⟨rfl, rfl⟩
    exact status (by decide) ((Dev.ashStatus_of_area hx harea err).trans
      ((if_neg (not_lt.mpr hle)).trans (if_pos ⟨hwr, hslot⟩)))

end Sys2Proof.Machine
end

section
/-! The program store: its bytes and its slots' words, the commands VERIFY and ERASE from their write to their end, and the host's writes
to its window and to a lane's mailbox (R14, R227, R239 to R247, R266). -/

namespace Sys2Proof.Machine

/-! ## Folds: what one step establishes and the others keep -/

/-- What the step of one element establishes, and every step keeps, holds at the end. -/
theorem foldl_establishes {α β : Type} {f : β → α → β} {P : β → Prop} {xs : List α} {j : α} (hj : j ∈ xs) (hset : ∀ b, P (f b j))
    (hkeep : ∀ b, ∀ x ∈ xs, P b → P (f b x)) (b : β) : P (xs.foldl f b) := by
  obtain ⟨as, bs, rfl⟩ := List.append_of_mem hj
  rw [List.foldl_append, List.foldl_cons]
  exact List.foldlRecOn bs f (hset _) fun b hb x hx => hkeep b x (List.mem_append_right _ (List.mem_cons_of_mem _ hx)) hb

/-- Steps that change nothing but registers, one after the other. -/
theorem Dev.foldl_frame {α : Type} {f : Dev → α → Dev} (hf : ∀ d x, f d x = { d with regs := (f d x).regs }) (xs : List α) (d : Dev) :
    xs.foldl f d = { d with regs := (xs.foldl f d).regs } := by
  induction xs generalizing d with
  | nil => rfl
  | cons x xs ih =>
    rw [List.foldl_cons, ih, hf d x]

/-! ## Bytes of a memory: spans cleared, words written by byte enables (R14, R242) -/

theorem SMap.find_filter {α : Type} (q : Nat → Bool) (m : SMap α) (k : Nat) :
    SMap.find? k (m.filter fun c => q c.1) = if q k = true then SMap.find? k m else none := by
  induction m with
  | nil => simp [SMap.find?]
  | cons c m ih =>
    obtain ⟨j, v⟩ := c
    by_cases hj : j = k
    · subst hj
      by_cases hq : q j = true <;> simp [SMap.find?, hq, ih]
    · by_cases hq : q j = true <;> simp [SMap.find?, hq, hj, ih]

theorem Memory.read_clear (m : Memory) (a n b : Nat) : (m.clear a n).read b = if a ≤ b ∧ b < a + n then 0 else m.read b := by
  unfold Memory.clear Memory.read SMap.get
  rw [SMap.find_filter (fun k => decide (k < a) || decide (a + n ≤ k))]
  by_cases h : a ≤ b ∧ b < a + n
  · rw [if_pos h, if_neg (by simp; omega)]
    rfl
  · rw [if_neg h, if_pos (by simp; omega)]

/-- The bytes of slots cleared, as ERASE clears them. -/
def Memory.clearSlots (m : Memory) (ks : List Nat) : Memory := ks.foldl (fun m k => m.clear (k * 0x8000) 0x8000) m

theorem Memory.read_clearSlots_mem (m : Memory) {ks : List Nat} {j i : Nat} (hj : j ∈ ks) (hi : i < 0x8000) :
    (m.clearSlots ks).read (j * 0x8000 + i) = 0 := by
  refine foldl_establishes (P := fun m : Memory => m.read (j * 0x8000 + i) = 0) hj (fun m => ?_) (fun m k _ h0 => ?_) m
  · rw [Memory.read_clear, if_pos (by omega)]
  · rw [Memory.read_clear, h0, ite_self]

theorem Memory.read_clearSlots_other (m : Memory) {ks : List Nat} {a : Nat} (ha : a / 0x8000 ∉ ks) : (m.clearSlots ks).read a = m.read a := by
  refine List.foldlRecOn (motive := fun e : Memory => e.read a = m.read a) ks _ rfl fun e he k hk => ?_
  have hne : a / 0x8000 ≠ k := fun h => ha (h ▸ hk)
  rw [Memory.read_clear, if_neg (by omega), he]

theorem Memory.read_writeWord (m : Memory) (a b : Nat) (w : Word) :
    (m.writeWord a w).read b = if a ≤ b ∧ b < a + 4 then w.extractLsb' (8 * (b - a)) 8 else m.read b :=
  MemOp.read_store .stw m a b 4 w (.inl ⟨rfl, rfl⟩)

theorem Memory.getLsbD_readWord (m : Memory) (a : Nat) {i k : Nat} (hi : i < 4) (hk : k < 8) :
    (m.readWord a).getLsbD (8 * i + k) = (m.read (a + i)).getLsbD k := by
  unfold Memory.readWord
  simp only [BitVec.getLsbD_append]
  split_ifs with h0 h1 h2
  · obtain rfl : i = 0 := by omega
    rw [Nat.mul_zero, Nat.zero_add, Nat.add_zero]
  · obtain rfl : i = 1 := by omega
    rw [show 8 * 1 + k - 8 = k by omega]
  · obtain rfl : i = 2 := by omega
    rw [show 8 * 2 + k - 8 - 8 = k by omega]
  · obtain rfl : i = 3 := by omega
    rw [show 8 * 3 + k - 8 - 8 - 8 = k by omega]

theorem getLsbD_byteMask (be : BitVec 4) {i k : Nat} (hi : i < 4) (hk : k < 8) : (byteMask be).getLsbD (8 * i + k) = be.getLsbD i := by
  have h : ∀ be : BitVec 4, ∀ i < 4, ∀ k < 8, (byteMask be).getLsbD (8 * i + k) = be.getLsbD i := by decide
  exact h be i hi k hk

/-- A word written by byte enables takes the enabled bytes; every other byte of the memory reads as before. -/
theorem Memory.read_writeBytes (m : Memory) (a : Nat) (w : Word) (be : BitVec 4) {i : Nat} (hi : i < 4) :
    (m.writeWord a (mergeMask (byteMask be) (m.readWord a) w)).read (a + i) =
      if be.getLsbD i then w.extractLsb' (8 * i) 8 else m.read (a + i) := by
  rw [Memory.read_writeWord, if_pos (by omega), Nat.add_sub_cancel_left]
  refine BitVec.eq_of_getLsbD_eq fun k hk => ?_
  rw [BitVec.getLsbD_extractLsb', decide_eq_true hk, Bool.true_and, getLsbD_mergeMask, getLsbD_byteMask be hi hk, m.getLsbD_readWord a hi hk]
  split
  · rw [BitVec.getLsbD_extractLsb', decide_eq_true hk, Bool.true_and]
  · rfl

/-! ## The word of a slot (R239, R242) -/

theorem slotAddr_ne {j k : Nat} (h : j ≠ k) : Reg.PST_SLOT j ≠ Reg.PST_SLOT k := by
  simp only [Reg.PST_SLOT]; omega

theorem slotAddr_ne_status (k : Nat) : Reg.PST_SLOT k ≠ Reg.PST_CMDSTAT ∧ Reg.PST_SLOT k ≠ Reg.PST_EVT := by
  simp only [Reg.PST_SLOT, Reg.PST_CMDSTAT, Reg.PST_EVT]; omega

/-- The fields of a slot's word that are not kept up to date from the lanes. -/
theorem slotWord_fields {st ty sg std status : Nat} (h1 : st < 16) (h2 : ty < 4) (h3 : sg < 4) (h4 : std < 256) (h5 : status < 256) :
    getBits (slotWord st ty sg std status) 31 28 = st ∧ getBits (slotWord st ty sg std status) 27 26 = ty ∧
      getBits (slotWord st ty sg std status) 7 0 = status := by
  simp only [slotWord, getBits_ofNat]
  omega

theorem Dev.state_set (d : Dev) (k : Nat) {v : Nat} (hv : v < 16) : (d.set (Reg.PST_SLOT_STATE k) v).get (Reg.PST_SLOT_STATE k) = v :=
  (Dev.get_set_same d v (f := Reg.PST_SLOT_STATE k) (Nat.le_refl 31) (show 28 ≤ 31 by decide)).trans (Nat.mod_eq_of_lt hv)

section
variable (d : Dev) (k : Nat) (w : Word)

@[simp] theorem Dev.store_setSlot : (d.setSlot k w).store = d.store := rfl

@[simp] theorem Dev.evtLast_setSlot : (d.setSlot k w).evtLast = d.evtLast := rfl

@[simp] theorem Dev.now_setSlot : (d.setSlot k w).now = d.now := rfl

theorem Dev.rd_setSlot_other {a : Nat} (h : a ≠ Reg.PST_SLOT k) : (d.setSlot k w).rd a = d.rd a := by
  unfold Dev.setSlot Dev.refreshSlot
  rw [Dev.rd_set_other _ _ h, Dev.rd_set_other _ _ h, Dev.rd_wr_other _ _ h]

theorem Dev.get_setSlot_other {f : Fld} (h : f.addr ≠ Reg.PST_SLOT k) : (d.setSlot k w).get f = d.get f := by
  unfold Dev.get
  rw [Dev.rd_setSlot_other d k w h]

/-- LANES and PIN are in [23:16]: a field outside them is that of the word set. -/
theorem Dev.get_setSlot_apart {hi lo : Nat} (h : hi < 16 ∨ 23 < lo) : (d.setSlot k w).get ⟨Reg.PST_SLOT k, hi, lo⟩ = getBits w hi lo := by
  unfold Dev.setSlot Dev.refreshSlot
  rw [Dev.get_set_apart _ _ (f := Reg.PST_SLOT_PIN k) (show 23 ≤ 31 by decide) (le_refl 23) (show hi < 23 ∨ 23 < lo by omega),
    Dev.get_set_apart _ _ (f := Reg.PST_SLOT_LANES k) (show 22 ≤ 31 by decide) (show 16 ≤ 22 by decide) (show hi < 16 ∨ 22 < lo by omega)]
  unfold Dev.get
  rw [Dev.rd_wr_same]

end

/-! ## The end of a command (R266) -/

theorem Dev.cmdEnd_status (d : Dev) (a st : Nat) :
    getBits ((d.cmdEnd a st).rd a) 23 16 = st % 256 ∧ ((d.cmdEnd a st).rd a).getLsbD 0 = false := by
  unfold Dev.cmdEnd
  rw [Dev.rd_wr_same]
  refine ⟨?_, ?_⟩
  · rw [getBits_putBits_other _ 0 0 23 16 _ (by omega) (by omega) (by omega), getBits_putBits _ 23 16 _ (by omega) (by omega)]
    rfl
  · rw [getLsbD_putBits _ _ (by omega) (le_refl 0), if_pos (by omega)]
    rfl

/-- The command that ran shows its status and raises CMDDONE. -/
def Dev.pstEnded (d : Dev) (st : Nat) : Dev := (d.cmdEnd Reg.PST_CMDSTAT st).raise Reg.PST_EVT 0

@[simp] theorem Dev.store_pstEnded (d : Dev) (st : Nat) : (d.pstEnded st).store = d.store := Dev.store_raise _ _ _

theorem Dev.get_pstEnded_slot (d : Dev) (st k hi lo : Nat) :
    (d.pstEnded st).get ⟨Reg.PST_SLOT k, hi, lo⟩ = d.get ⟨Reg.PST_SLOT k, hi, lo⟩ := by
  unfold Dev.pstEnded
  rw [Dev.get_raise_other _ _ (slotAddr_ne_status k).2, Dev.cmdEnd, Dev.get_wr_other _ _ (slotAddr_ne_status k).1]

/-- No command runs; the one that ran shows its status, and CMDDONE is raised. -/
def PstEnds (t : Dev) (st : Nat) : Prop := t.store.cmd = none ∧ getBits (t.rd Reg.PST_CMDSTAT) 23 16 = st ∧
  (t.rd Reg.PST_CMDSTAT).getLsbD 0 = false ∧ (t.rd Reg.PST_EVT).getLsbD 0 = true

theorem Dev.pstEnds_pstEnded {d : Dev} {st : Nat} (hc : d.store.cmd = none) (hf : d.evtFree Reg.PST_EVT 0 0 = true) (hst : st < 256) :
    PstEnds (d.pstEnded st) st := by
  have hfree : (d.cmdEnd Reg.PST_CMDSTAT st).evtFree Reg.PST_EVT 0 0 = true := hf
  obtain ⟨hstatus, hbusy⟩ := d.cmdEnd_status Reg.PST_CMDSTAT st
  have hrd : (d.pstEnded st).rd Reg.PST_CMDSTAT = (d.cmdEnd Reg.PST_CMDSTAT st).rd Reg.PST_CMDSTAT := Dev.rd_raise_other _ _ (by decide)
  unfold PstEnds
  rw [hrd, Dev.store_pstEnded]
  exact ⟨hc, hstatus.trans (Nat.mod_eq_of_lt hst), hbusy, Dev.getLsbD_raise_free hfree (by decide)⟩

/-! ## VERIFY (R247) -/

theorem at8_lt (img : List Byte) (o : Nat) : at8 img o < 256 := (img.getD o 0).isLt

/-- TYPE and SIGN of an image whose header passes check 2. -/
theorem imgHeaderOk_fields {img : List Byte} (h : imgHeaderOk img = true) : at8 img 5 ≤ 3 ∧ at8 img 0x28 ≤ 2 := by
  simp only [imgHeaderOk, Bool.and_eq_true, decide_eq_true_eq] at h
  tauto

theorem Dev.verifyStatus_lt (d : Dev) (k : Nat) : d.verifyStatus k < 256 := by
  unfold Dev.verifyStatus Dev.signerStatus
  dsimp only
  split_ifs <;> omega

theorem Dev.imgHeaderOk_of_verifyStatus {d : Dev} {k : Nat} (h : d.verifyStatus k = 0) : imgHeaderOk (d.slotBytes k) = true := by
  cases hhdr : imgHeaderOk (d.slotBytes k) with
  | true => rfl
  | false => simp [Dev.verifyStatus, hhdr] at h

/-- The marks on the further slots of a verified image. -/
def Dev.markCont (d : Dev) (k n : Nat) : Dev := (List.range (n - 1)).foldl (fun d i => d.set (Reg.PST_SLOT_STATE (k + 1 + i)) 5) d

theorem Dev.markCont_frame (d : Dev) (k n : Nat) : d.markCont k n = { d with regs := (d.markCont k n).regs } :=
  Dev.foldl_frame (fun _ _ => rfl) _ d

@[simp] theorem Dev.store_markCont (d : Dev) (k n : Nat) : (d.markCont k n).store = d.store := by rw [Dev.markCont_frame]

@[simp] theorem Dev.evtLast_markCont (d : Dev) (k n : Nat) : (d.markCont k n).evtLast = d.evtLast := by rw [Dev.markCont_frame]

@[simp] theorem Dev.now_markCont (d : Dev) (k n : Nat) : (d.markCont k n).now = d.now := by rw [Dev.markCont_frame]

theorem Dev.rd_markCont_first (d : Dev) (k n : Nat) : (d.markCont k n).rd (Reg.PST_SLOT k) = d.rd (Reg.PST_SLOT k) :=
  List.foldlRecOn (motive := fun e : Dev => e.rd (Reg.PST_SLOT k) = d.rd (Reg.PST_SLOT k)) (List.range (n - 1)) _ rfl
    fun _ he i _ => (Dev.rd_set_other _ _ (slotAddr_ne (by omega))).trans he

theorem Dev.state_markCont (d : Dev) (k : Nat) {n i : Nat} (h0 : 0 < i) (hn : i < n) : (d.markCont k n).get (Reg.PST_SLOT_STATE (k + i)) = 5 := by
  refine foldl_establishes (P := fun e : Dev => e.get (Reg.PST_SLOT_STATE (k + i)) = 5) (j := i - 1) (List.mem_range.mpr (by omega))
    (fun e => ?_) (fun e x _ he => ?_) d
  · rw [show k + 1 + (i - 1) = k + i by omega]
    exact e.state_set _ (by decide)
  · by_cases hx : k + i = k + 1 + x
    · rw [hx]
      exact e.state_set _ (by decide)
    · exact (Dev.get_set_other _ _ (slotAddr_ne hx)).trans he

/-- The word of the first slot of a verified image. -/
def Dev.verifiedWord (d : Dev) (k : Nat) : Word :=
  slotWord 2 (at8 (d.slotBytes k) 5) (at8 (d.slotBytes k) 0x28) (if at8 (d.slotBytes k) 5 = 1 then at8 (d.slotBytes k) 0x30 else 0) 0

theorem Dev.verifiedWord_fields (d : Dev) {k : Nat} (hty : at8 (d.slotBytes k) 5 ≤ 3) (hsg : at8 (d.slotBytes k) 0x28 ≤ 2) :
    getBits (d.verifiedWord k) 31 28 = 2 ∧ getBits (d.verifiedWord k) 27 26 = at8 (d.slotBytes k) 5 ∧ getBits (d.verifiedWord k) 7 0 = 0 := by
  have hstd : (if at8 (d.slotBytes k) 5 = 1 then at8 (d.slotBytes k) 0x30 else 0) < 256 := by
    split
    · exact at8_lt _ _
    · decide
  exact slotWord_fields (by decide) (by omega) (by omega) hstd (by decide)

/-- The hidden mirror replaced (R241). -/
def Dev.setMirror (d : Dev) (m : Memory) : Dev := { d with store := { d.store with mirror := m } }

theorem Dev.setMirror_keeps (d : Dev) (m : Memory) : (d.setMirror m).store.mem = d.store.mem ∧ (d.setMirror m).store.cmd = d.store.cmd ∧
    (d.setMirror m).evtLast = d.evtLast ∧ (d.setMirror m).now = d.now := ⟨rfl, rfl, rfl, rfl⟩

/-- An image that passes is copied to the mirror; its first slot's word is set and its further slots are marked. -/
theorem Dev.verifyPass_eq (d : Dev) (k : Nat) : ∃ mirror, d.verifyPass k =
    ((d.setMirror mirror).setSlot k (d.verifiedWord k)).markCont k (imgSpan (d.slotBytes k)) :=
  ⟨_, rfl⟩

theorem Dev.get_verifyPass_first (d : Dev) (k : Nat) {hi lo : Nat} (h : hi < 16 ∨ 23 < lo) :
    (d.verifyPass k).get ⟨Reg.PST_SLOT k, hi, lo⟩ = getBits (d.verifiedWord k) hi lo := by
  obtain ⟨mirror, hpass⟩ := d.verifyPass_eq k
  rw [hpass, Dev.get, Dev.rd_markCont_first]
  exact Dev.get_setSlot_apart _ _ _ h

theorem Dev.state_verifyPass_further (d : Dev) (k : Nat) {i : Nat} (h0 : 0 < i) (hi : i < imgSpan (d.slotBytes k)) :
    (d.verifyPass k).get (Reg.PST_SLOT_STATE (k + i)) = 5 := by
  obtain ⟨mirror, hpass⟩ := d.verifyPass_eq k
  rw [hpass]
  exact Dev.state_markCont _ _ h0 hi

/-- A pass leaves the program store's bytes, the command, and what decides whether an event may be raised. -/
theorem Dev.verifyPass_keeps (d : Dev) (k : Nat) : (d.verifyPass k).store.mem = d.store.mem ∧ (d.verifyPass k).store.cmd = d.store.cmd ∧
    (d.verifyPass k).evtLast = d.evtLast ∧ (d.verifyPass k).now = d.now := by
  obtain ⟨mirror, hpass⟩ := d.verifyPass_eq k
  rw [hpass, Dev.store_markCont, Dev.evtLast_markCont, Dev.now_markCont, Dev.store_setSlot, Dev.evtLast_setSlot, Dev.now_setSlot]
  exact d.setMirror_keeps mirror

/-! ## VERIFY and ERASE at their write (R242, R266) -/

theorem goes_verify {s : State} {slot tag : Nat} {t : Dev} (h : s.dev.verify slot tag = t) : Goes (.verify slot tag) s t := goes_of_next rfl h

theorem goes_erase {s : State} {slot tag : Nat} {t : Dev} (h : s.dev.erase slot tag = t) : Goes (.erase slot tag) s t := goes_of_next rfl h

section
variable {d : Dev} {slot : Nat} (tag : Nat)

theorem Dev.verify_lost (h : d.cmdBusy Reg.PST_CMDSTAT = true) : d.verify slot tag = d.cmdLost Reg.PST_CMDSTAT := if_pos h

theorem Dev.erase_lost (h : d.cmdBusy Reg.PST_CMDSTAT = true) : d.erase slot tag = d.cmdLost Reg.PST_CMDSTAT := if_pos h

theorem Dev.eraseSpan_image (h : d.slotState slot = 2 ∨ d.slotState slot = 4) :
    d.eraseSpan slot = (List.range (imgSpan (d.slotBytes slot))).map (slot + ·) := if_pos h

theorem Dev.eraseSpan_slot (h2 : d.slotState slot ≠ 2) (h4 : d.slotState slot ≠ 4) : d.eraseSpan slot = [slot] :=
  if_neg (not_or.mpr ⟨h2, h4⟩)

variable (hb : d.cmdBusy Reg.PST_CMDSTAT = false)
include hb

theorem Dev.verify_eq : d.verify slot tag =
    if 63 < slot ∨ (d.slotState slot ≠ 1 ∧ d.slotState slot ≠ 3) then d.pstDone 1 tag 3
    else { d.cmdStart Reg.PST_CMDSTAT 1 tag with store := { d.store with cmd := some (1, slot) } } :=
  if_neg (ne_true_of_eq_false hb)

theorem Dev.erase_eq : d.erase slot tag =
    if 63 < slot ∨ d.slotState slot = 5 then d.pstDone 2 tag 3
    else if d.is (Reg.PST_SLOT_PIN slot) = true then d.pstDone 2 tag 7
    else { d.cmdStart Reg.PST_CMDSTAT 2 tag with store := { d.store with cmd := some (2, slot), erasing := d.eraseSpan slot } } :=
  if_neg (ne_true_of_eq_false hb)

end

theorem storeCommandsStartOrFail : Claim.StoreCommandsStartOrFail := by
  intro s slot tag d st lost busy
  refine ⟨fun hb => ⟨goes_verify (Dev.verify_lost tag hb), goes_erase (Dev.erase_lost tag hb)⟩, fun hb =>
    ⟨fun h => goes_verify ((Dev.verify_eq tag hb).trans (if_pos h)), fun hs h => goes_verify ((Dev.verify_eq tag hb).trans (if_neg ?_)),
    fun h => goes_erase ((Dev.erase_eq tag hb).trans (if_pos h)), fun hs h5 hp => ?_, fun hs h5 hp => ?_⟩⟩
  · rintro (h63 | ⟨h1, h3⟩)
    · exact absurd h63 (not_lt.mpr hs)
    · exact h.elim h1 h3
  · exact goes_erase ((Dev.erase_eq tag hb).trans ((if_neg (not_or.mpr ⟨not_lt.mpr hs, h5⟩)).trans (if_pos hp)))
  · have hrun := (Dev.erase_eq tag hb).trans ((if_neg (not_or.mpr ⟨not_lt.mpr hs, h5⟩)).trans (if_neg (ne_true_of_eq_false hp)))
    refine ⟨fun h2 h4 => goes_erase (hrun.trans ?_), fun h => goes_erase (hrun.trans ?_)⟩
    · rw [Dev.eraseSpan_slot h2 h4]
    · rw [Dev.eraseSpan_image h]

/-! ## VERIFY and ERASE at their end (R239, R240, R242, R247) -/

/-- The command that ran taken from the store. -/
def Dev.pstIdle (d : Dev) : Dev := { d with store := { d.store with cmd := none } }

section
variable {s : State} {k : Nat}

theorem goes_pstCommandComplete_idle (h : s.dev.store.cmd = none) : Goes .pstCommandComplete s s.dev :=
  goes_of_next rfl (by simp only [h])

theorem goes_pstCommandComplete_verify (h : s.dev.store.cmd = some (1, k)) : Goes .pstCommandComplete s (s.dev.pstIdle.verifyEnd k) :=
  goes_of_next rfl (by simp only [h]; rfl)

theorem goes_pstCommandComplete_erase (h : s.dev.store.cmd = some (2, k)) : Goes .pstCommandComplete s s.dev.pstIdle.eraseEnd :=
  goes_of_next rfl (by simp only [h]; rfl)

end

section
variable {d : Dev} {k : Nat}

theorem Dev.verifyEnd_pass (h : d.verifyStatus k = 0) : d.verifyEnd k = (d.verifyPass k).pstEnded 0 := by
  unfold Dev.verifyEnd
  simp only [h]
  rfl

theorem Dev.verifyEnd_fail (h : d.verifyStatus k ≠ 0) :
    d.verifyEnd k = (d.setSlot k (slotWord 3 0 0 0 (d.verifyStatus k))).pstEnded (d.verifyStatus k) := by
  unfold Dev.verifyEnd
  simp only [if_neg h]
  rfl

/-- Slots whose words show EMPTY. -/
def Dev.emptySlots (d : Dev) (ks : List Nat) : Dev := ks.foldl (fun d k => d.setSlot k 0) d

theorem Dev.emptySlots_frame (d : Dev) (ks : List Nat) : d.emptySlots ks = { d with regs := (d.emptySlots ks).regs } :=
  Dev.foldl_frame (fun _ _ => rfl) ks d

/-- Every field of an emptied slot but LANES and PIN is zero. -/
theorem Dev.get_emptySlots {ks : List Nat} {j hi lo : Nat} (hj : j ∈ ks) (h : hi < 16 ∨ 23 < lo) :
    (d.emptySlots ks).get ⟨Reg.PST_SLOT j, hi, lo⟩ = 0 := by
  have hset : ∀ e : Dev, (e.setSlot j 0).get ⟨Reg.PST_SLOT j, hi, lo⟩ = 0 := fun e => (e.get_setSlot_apart j 0 h).trans (by simp [getBits])
  refine foldl_establishes (f := fun d k => Dev.setSlot d k 0) (P := fun e : Dev => e.get ⟨Reg.PST_SLOT j, hi, lo⟩ = 0) hj hset
    (fun e x _ he => ?_) d
  by_cases hx : j = x
  · exact hx ▸ hset e
  · exact (e.get_setSlot_other x 0 (slotAddr_ne hx)).trans he

/-- The slots an ERASE works on, zero in the store and its mirror. -/
def Dev.eraseBytes (d : Dev) : Dev :=
  { d with store := { d.store with mem := d.store.mem.clearSlots d.store.erasing, mirror := d.store.mirror.clearSlots d.store.erasing, erasing := [] } }

theorem Dev.eraseEnd_eq (d : Dev) : d.eraseEnd = (d.eraseBytes.emptySlots d.store.erasing).pstEnded 0 := rfl

end

section
variable {s : State} {k : Nat} (hf : s.dev.evtFree Reg.PST_EVT 0 0 = true)
include hf

theorem completes_verify_pass (hc : s.dev.store.cmd = some (1, k)) (hst : s.dev.verifyStatus k = 0) :
    Completes .pstCommandComplete s (fun d t => t.get (Reg.PST_SLOT_STATE k) = 2 ∧ t.get (Reg.PST_SLOT_TYPE k) = at8 (s.dev.slotBytes k) 5 % 4 ∧
      t.get (Reg.PST_SLOT_STATUS k) = 0 ∧ (∀ i, 0 < i → i < imgSpan (s.dev.slotBytes k) → t.get (Reg.PST_SLOT_STATE (k + i)) = 5) ∧
      t.store.mem = d.store.mem ∧ PstEnds t 0) := by
  obtain ⟨hty, hsg⟩ := imgHeaderOk_fields (Dev.imgHeaderOk_of_verifyStatus hst)
  obtain ⟨hmem, hcmd, hlast, hnow⟩ := s.dev.pstIdle.verifyPass_keeps k
  obtain ⟨hstate, htype, hstatus⟩ := s.dev.verifiedWord_fields hty hsg
  have hget : ∀ {hi lo : Nat}, hi < 16 ∨ 23 < lo → ((s.dev.pstIdle.verifyPass k).pstEnded 0).get ⟨Reg.PST_SLOT k, hi, lo⟩ =
      getBits (s.dev.verifiedWord k) hi lo := fun h => (Dev.get_pstEnded_slot _ _ _ _ _).trans (Dev.get_verifyPass_first _ _ h)
  refine completes_of_goes (goes_of_next (goes_pstCommandComplete_verify hc) (Dev.verifyEnd_pass (d := s.dev.pstIdle) hst))
    ⟨(hget (by decide)).trans hstate, ((hget (by decide)).trans htype).trans (Nat.mod_eq_of_lt (Nat.lt_succ_of_le hty)).symm,
      (hget (by decide)).trans hstatus, fun i h0 hi => ?_, ?_,
      Dev.pstEnds_pstEnded hcmd ((Dev.evtFree_of_last hlast hnow _ _ _).trans hf) (by decide)⟩
  · exact (Dev.get_pstEnded_slot _ _ _ _ _).trans (Dev.state_verifyPass_further _ _ h0 hi)
  · rw [Dev.store_pstEnded, hmem]
    rfl

theorem completes_verify_fail (hc : s.dev.store.cmd = some (1, k)) (hst : s.dev.verifyStatus k ≠ 0) :
    Completes .pstCommandComplete s (fun d t => t.get (Reg.PST_SLOT_STATE k) = 3 ∧ t.get (Reg.PST_SLOT_STATUS k) = s.dev.verifyStatus k ∧
      t.store = { d.store with cmd := none } ∧ PstEnds t (s.dev.verifyStatus k)) := by
  obtain ⟨hstate, -, hstatus⟩ := slotWord_fields (st := 3) (ty := 0) (sg := 0) (std := 0) (by decide) (by decide) (by decide) (by decide)
    (s.dev.verifyStatus_lt k)
  refine completes_of_goes (goes_of_next (goes_pstCommandComplete_verify hc) (Dev.verifyEnd_fail (d := s.dev.pstIdle) hst))
    ⟨?_, ?_, ?_, Dev.pstEnds_pstEnded rfl ?_ (s.dev.verifyStatus_lt k)⟩
  · rw [Dev.get_pstEnded_slot, Dev.get_setSlot_apart _ _ _ (by decide)]
    exact hstate
  · rw [Dev.get_pstEnded_slot, Dev.get_setSlot_apart _ _ _ (by decide)]
    exact hstatus
  · rw [Dev.store_pstEnded, Dev.store_setSlot]
    rfl
  · exact (Dev.evtFree_of_last (Dev.evtLast_setSlot _ _ _) (Dev.now_setSlot _ _ _) _ _ _).trans hf

theorem completes_erase (hc : s.dev.store.cmd = some (2, k)) : Completes .pstCommandComplete s (fun d t =>
    (∀ j ∈ d.store.erasing, t.get (Reg.PST_SLOT_STATE j) = 0 ∧ t.get (Reg.PST_SLOT_TYPE j) = 0 ∧
      ∀ i < 0x8000, Memory.read t.store.mem (j * 0x8000 + i) = 0 ∧ Memory.read t.store.mirror (j * 0x8000 + i) = 0) ∧
    (∀ a, a / 0x8000 ∉ d.store.erasing → Memory.read t.store.mem a = Memory.read d.store.mem a ∧
      Memory.read t.store.mirror a = Memory.read d.store.mirror a) ∧ t.store.erasing = [] ∧ PstEnds t 0) := by
  have hstore : ((s.dev.pstIdle.eraseBytes.emptySlots s.dev.store.erasing).pstEnded 0).store = s.dev.pstIdle.eraseBytes.store := by
    rw [Dev.store_pstEnded, Dev.emptySlots_frame]
  have hget : ∀ {j hi lo : Nat}, j ∈ s.dev.store.erasing → hi < 16 ∨ 23 < lo →
      ((s.dev.pstIdle.eraseBytes.emptySlots s.dev.store.erasing).pstEnded 0).get ⟨Reg.PST_SLOT j, hi, lo⟩ = 0 := fun hj h =>
    (Dev.get_pstEnded_slot _ _ _ _ _).trans (Dev.get_emptySlots hj h)
  refine completes_of_goes (goes_of_next (goes_pstCommandComplete_erase hc) (Dev.eraseEnd_eq _))
    ⟨fun j hj => ⟨hget hj (by decide), hget hj (by decide), fun i hi => ?_⟩, fun a ha => ?_, ?_, Dev.pstEnds_pstEnded ?_ ?_ (by decide)⟩
  · exact hstore ▸ ⟨Memory.read_clearSlots_mem _ hj hi, Memory.read_clearSlots_mem _ hj hi⟩
  · exact hstore ▸ ⟨Memory.read_clearSlots_other _ ha, Memory.read_clearSlots_other _ ha⟩
  · exact congrArg Store.erasing hstore
  · rw [Dev.emptySlots_frame]; rfl
  · rw [Dev.emptySlots_frame]; exact hf

end

theorem storeCommandsComplete : Claim.StoreCommandsComplete := fun _ _ hf =>
  ⟨goes_pstCommandComplete_idle, fun hc _ hst => completes_verify_pass hf hc hst, fun hc _ hst => completes_verify_fail hf hc hst,
    fun hc _ => completes_erase hf hc⟩

/-! ## The window and the mailbox (R14, R227, R239, R240) -/

theorem goes_programStoreWrite {s : State} {off : Nat} {w : Word} {be : BitVec 4} {t : Dev} (h : s.dev.storeWrite off w be = t) :
    Goes (.programStoreWrite off w be) s t := goes_of_next rfl h

theorem goes_hostMailboxWrite {s : State} {n off : Nat} {w : Word} {t : Dev} (h : s.dev.mboxWrite n off w = t) :
    Goes (.hostMailboxWrite n off w) s t := goes_of_next rfl h

section
variable (d : Dev) {n off : Nat} (w : Word)

theorem Dev.storeWrite_eq {be : BitVec 4} (hk : off / 0x8000 ≤ 63) (hbe : be ≠ 0) : d.storeWrite off w be =
    if d.slotState (off / 0x8000) = 2 ∨ d.slotState (off / 0x8000) = 4 ∨ d.slotState (off / 0x8000) = 5 then
      (d.raise Reg.PST_EVT 1).sootE 1 0x11 0xD001 (off / 0x8000)
    else ({ d with store := { d.store with
        mem := d.store.mem.writeWord (off / 4 * 4) (mergeMask (byteMask be) (d.store.mem.readWord (off / 4 * 4)) w) } } : Dev).set
          (Reg.PST_SLOT_STATE (off / 0x8000)) 1 :=
  if_neg (not_or.mpr ⟨not_lt.mpr hk, hbe⟩)

theorem Dev.mboxWrite_outside (h : d.part.lanes ≤ n ∨ off < 0x400 ∨ 0x600 ≤ off) : d.mboxWrite n off w = d := if_pos h

theorem Dev.bound_wr_mailbox (j : Nat) : (d.wr (Reg.LANE_MBIN n j) w).bound n = d.bound n :=
  Dev.bound_congr (Dev.rd_wr_other _ _ (by simp only [Reg.LANE_BIND, Reg.LANE_MBIN]; omega))

variable (hn : n < d.part.lanes)
include hn

theorem Dev.mboxWrite_word (h0 : 0x404 ≤ off) (h6 : off < 0x600) : d.mboxWrite n off w = d.wr (Reg.LANE_MBIN n ((off - 0x400) / 4)) w := by
  unfold Dev.mboxWrite
  rw [if_neg (by omega)]
  exact if_neg (by omega)

section
variable (h4 : 0x400 ≤ off) (h0 : off < 0x404)
include h4 h0

theorem Dev.mboxWrite_unbound (hb : d.bound n = none) : d.mboxWrite n off w = d.wr (Reg.LANE_MBIN n ((off - 0x400) / 4)) w := by
  unfold Dev.mboxWrite
  rw [if_neg (by omega)]
  refine (if_pos (by omega)).trans ?_
  simp only [Dev.bound_wr_mailbox, hb]

/-- Word 0 also signals the hearth bound to the lane. -/
theorem Dev.mboxWrite_bound {h : Nat} (hb : d.bound n = some h) : d.mboxWrite n off w =
    (d.wr (Reg.LANE_MBIN n ((off - 0x400) / 4)) w).setHearth h { d.hearth h with hin := true } := by
  unfold Dev.mboxWrite
  rw [if_neg (by omega)]
  refine (if_pos (by omega)).trans ?_
  simp only [Dev.bound_wr_mailbox, hb]
  rfl

end

end

theorem windowWritesStoreBytes : Claim.WindowWritesStoreBytes := by
  intro s off n w be d k a st e
  refine ⟨fun h => goes_programStoreWrite (if_pos h), fun hk hbe hst => goes_programStoreWrite ((d.storeWrite_eq w hk hbe).trans (if_pos hst)),
    fun hk hbe h2 h4 h5 => ?_, fun h => goes_hostMailboxWrite (d.mboxWrite_outside w h),
    fun hn h0 h6 => goes_hostMailboxWrite (d.mboxWrite_word w hn h0 h6),
    fun hn h4 h0 hb => goes_hostMailboxWrite (d.mboxWrite_unbound w hn h4 h0 hb),
    fun h hn h4 h0 hb => goes_hostMailboxWrite (d.mboxWrite_bound w hn h4 h0 hb)⟩
  have hst : ¬(st = 2 ∨ st = 4 ∨ st = 5) := not_or.mpr ⟨h2, not_or.mpr ⟨h4, h5⟩⟩
  refine completes_of_goes (goes_programStoreWrite ((d.storeWrite_eq w hk hbe).trans (if_neg hst))) ⟨fun i hi => ?_, fun b hb => ?_, ?_, ?_, rfl⟩
  · exact d.store.mem.read_writeBytes a w be hi
  · exact (Memory.read_writeWord _ _ _ _).trans (if_neg (by omega))
  · exact Dev.state_set _ _ (by decide)
  · exact fun c hc => Dev.rd_set_other _ _ (List.ne_of_not_mem_cons hc)

/-- Settles O41: VERIFY and ERASE by the branches of their write and by what their end leaves of the slots' words and bytes, the window by
the bytes of one word. -/
theorem programStoreCommandsAndWindow : Obligations.ProgramStoreCommandsAndWindow :=
  ⟨storeCommandsStartOrFail, storeCommandsComplete, windowWritesStoreBytes⟩

end Sys2Proof.Machine
end
